-- ==== Sys2Proof/Word.lean ====
section
/-! DEFINITION. Word types, the names of the parts of the module (00_scope.md R3-R5) and the two
plain containers, three lanes or phases and eight bridges, actuators or inputs. -/

namespace Sys2Proof

/-- One byte. -/
abbrev Byte := BitVec 8
/-- UNSIGNED16 (11_dictionary_access.md Table 11.1). -/
abbrev W16 := BitVec 16
/-- UNSIGNED32. -/
abbrev W32 := BitVec 32
/-- UNSIGNED64. -/
abbrev W64 := BitVec 64

/-- The lanes, numbered 0, 1, 2 (00_scope.md R3). -/
inductive LaneId where
  | A | B | C
  deriving DecidableEq, Repr

/-- The number of a lane (R3). -/
def LaneId.num : LaneId → Nat
  | .A => 0 | .B => 1 | .C => 2

/-- The lane with a number, taken modulo 3 (R3). -/
def LaneId.ofNum (n : Nat) : LaneId :=
  match n % 3 with
  | 0 => .A | 1 => .B | _ => .C

/-- The three slip links (01_three_lanes_one_module.md R16). -/
inductive LinkId where
  | AB | BC | CA
  deriving DecidableEq, Repr

/-- The link between two lanes; a lane has none to itself. -/
def LinkId.between : LaneId → LaneId → Option LinkId
  | .A, .B | .B, .A => some .AB
  | .B, .C | .C, .B => some .BC
  | .C, .A | .A, .C => some .CA
  | _, _ => none

/-- The two lanes a link joins (R16). -/
def LinkId.ends : LinkId → LaneId × LaneId
  | .AB => (.A, .B) | .BC => (.B, .C) | .CA => (.C, .A)

/-- The masters of one lane (11_dictionary_access.md Table 11.2). -/
inductive Master where
  | host | sideBand | supervisory | peer
  deriving DecidableEq, Repr

/-- The number a master has in a change-log entry (Table 13.3); the other two never write. -/
def Master.num : Master → Nat
  | .host => 0 | .sideBand => 1 | .supervisory => 2 | .peer => 3

/-- The two Tsuvas channels. -/
inductive Chan where
  | X | Y
  deriving DecidableEq, Repr

/-- The three phases of a winding set (R5). -/
inductive Phase where
  | U | V | W
  deriving DecidableEq, Repr

/-- Roles of a lane (02_vote_cycle_and_fault_tolerance.md R68), numbered as ROLE of Table 12.6. -/
inductive Role where
  | out | shadow | follower | lead
  deriving DecidableEq, Repr

/-- ROLE as Table 12.6 codes it. -/
def Role.num : Role → Nat
  | .out => 0 | .shadow => 1 | .follower => 2 | .lead => 3

/-- A driver is a lane in role LEAD or FOLLOWER (R68). -/
def Role.drives : Role → Bool
  | .lead | .follower => true
  | _ => false

/-- Power states of a lane (15_power_states_and_startup.md Table 15.1). -/
inductive PState where
  | starting | hold | run | standby | off
  deriving DecidableEq, Repr

/-- PSTATE as Table 15.1 codes it; OFF has no code and reads 0, since no master reaches the lane. -/
def PState.num : PState → Nat
  | .starting => 0 | .hold => 1 | .run => 2 | .standby => 3 | .off => 0

/-- STATE of a result object (Table 11.5). -/
inductive RState where
  | idle | pending | ready | consumed | failed
  deriving DecidableEq, Repr

/-- STATE as Table 11.5 codes it. -/
def RState.num : RState → Nat
  | .idle => 0 | .pending => 1 | .ready => 2 | .consumed => 3 | .failed => 4

/-- MODE of a bridge (04_field_engines.md Table 4.6). -/
inductive Mode where
  | disabled | modulate | allOff | activeShort | parkApply | pulsedShort
  deriving DecidableEq, Repr

/-- MODE as Table 4.9 codes it. -/
def Mode.num : Mode → Nat
  | .disabled => 0 | .modulate => 1 | .allOff => 2 | .activeShort => 3
  | .parkApply => 4 | .pulsedShort => 5

/-- Angle source of a winding set (05_rotor_position.md R164). -/
inductive ASrc where
  | sensor | hfiCheck | observer | borrowed | lost | reacquire | isolated | unmapped
  deriving DecidableEq, Repr

/-- ASRC as Table 5.1 codes it. -/
def ASrc.num : ASrc → Nat
  | .sensor => 0 | .hfiCheck => 1 | .observer => 2 | .borrowed => 3
  | .lost => 4 | .reacquire => 5 | .isolated => 6 | .unmapped => 7

/-- States of a Tsuvas node (08_tsuvas_network.md R259). -/
inductive NState where
  | halt | listen | coldstart | integrate | active | mute
  deriving DecidableEq, Repr

/-- STATE as Table 8.10 codes it. -/
def NState.num : NState → Nat
  | .halt => 0 | .listen => 1 | .coldstart => 2 | .integrate => 3 | .active => 4 | .mute => 5

/-- Time base states (09_time_base_and_timed_actions.md Table 9.3). -/
inductive TState where
  | invalid | holdover | synced
  deriving DecidableEq, Repr

/-- TSTATE as Table 9.3 codes it. -/
def TState.num : TState → Nat
  | .invalid => 0 | .holdover => 1 | .synced => 2

/-- Uplink clock states (R298). -/
inductive UState where
  | unset | synced | holdover | candidate
  deriving DecidableEq, Repr

/-- USTATE as Table 9.14 codes it. -/
def UState.num : UState → Nat
  | .unset => 0 | .synced => 1 | .holdover => 2 | .candidate => 3

/-- States of slip control of one brake actuator (03_steering_and_braking_services.md R109). -/
inductive SlipState where
  | apply | release | hold | reapply
  deriving DecidableEq, Repr

/-- Three values, one for each lane. -/
structure Tri (α : Type) where
  /-- Lane A. -/
  a : α
  /-- Lane B. -/
  b : α
  /-- Lane C. -/
  c : α
  deriving DecidableEq, Repr

namespace Tri
variable {α β : Type}
/-- The value of one lane. -/
def get (t : Tri α) : LaneId → α
  | .A => t.a | .B => t.b | .C => t.c
/-- The same values with one lane's replaced. -/
def set (t : Tri α) (l : LaneId) (v : α) : Tri α :=
  match l with
  | .A => { t with a := v } | .B => { t with b := v } | .C => { t with c := v }
/-- A function over the three lanes. -/
def map (f : α → β) (t : Tri α) : Tri β := ⟨f t.a, f t.b, f t.c⟩
/-- The value a function of the lane gives each lane. -/
def ofFn (f : LaneId → α) : Tri α := ⟨f .A, f .B, f .C⟩
/-- The same value in every lane. -/
def all (v : α) : Tri α := ⟨v, v, v⟩
end Tri

/-- Three values, one for each phase U, V, W. -/
structure Tri3 (α : Type) where
  /-- Phase U. -/
  u : α
  /-- Phase V. -/
  v : α
  /-- Phase W. -/
  w : α
  deriving DecidableEq, Repr

namespace Tri3
variable {α β : Type}
/-- The value of one phase. -/
def get (t : Tri3 α) : Phase → α
  | .U => t.u | .V => t.v | .W => t.w
/-- The same values with one phase's replaced. -/
def set (t : Tri3 α) (p : Phase) (x : α) : Tri3 α :=
  match p with
  | .U => { t with u := x } | .V => { t with v := x } | .W => { t with w := x }
/-- A function over the three phases. -/
def map (f : α → β) (t : Tri3 α) : Tri3 β := ⟨f t.u, f t.v, f t.w⟩
/-- The value a function of the phase gives each phase. -/
def ofFn (f : Phase → α) : Tri3 α := ⟨f .U, f .V, f .W⟩
end Tri3

/-- Eight values, one for each bridge, actuator or safety input 0-7 (R5). -/
structure Oct (α : Type) where
  /-- Number 0. -/
  i0 : α
  /-- Number 1. -/
  i1 : α
  /-- Number 2. -/
  i2 : α
  /-- Number 3. -/
  i3 : α
  /-- Number 4. -/
  i4 : α
  /-- Number 5. -/
  i5 : α
  /-- Number 6. -/
  i6 : α
  /-- Number 7. -/
  i7 : α
  deriving DecidableEq, Repr

namespace Oct
variable {α β : Type}
/-- The value with one number. -/
def get (o : Oct α) (n : Fin 8) : α :=
  match n with
  | 0 => o.i0 | 1 => o.i1 | 2 => o.i2 | 3 => o.i3
  | 4 => o.i4 | 5 => o.i5 | 6 => o.i6 | 7 => o.i7
/-- The same values with one number's replaced. -/
def set (o : Oct α) (n : Fin 8) (v : α) : Oct α :=
  match n with
  | 0 => { o with i0 := v } | 1 => { o with i1 := v } | 2 => { o with i2 := v }
  | 3 => { o with i3 := v } | 4 => { o with i4 := v } | 5 => { o with i5 := v }
  | 6 => { o with i6 := v } | 7 => { o with i7 := v }
/-- The value a function of the number gives each number. -/
def ofFn (f : Fin 8 → α) : Oct α := ⟨f 0, f 1, f 2, f 3, f 4, f 5, f 6, f 7⟩
/-- The same value at every number. -/
def all (v : α) : Oct α := ⟨v, v, v, v, v, v, v, v⟩
/-- A function over the eight values. -/
def map (f : α → β) (o : Oct α) : Oct β := ofFn fun n => f (o.get n)
/-- The eight values in order. -/
def list (o : Oct α) : List α := [o.i0, o.i1, o.i2, o.i3, o.i4, o.i5, o.i6, o.i7]
end Oct

/-- The numbers 0-7 in order. -/
def fin8 : List (Fin 8) := [0, 1, 2, 3, 4, 5, 6, 7]

/-- The lanes in the order A, B, C. -/
def allLanes : List LaneId := [.A, .B, .C]

/-- The phases in order. -/
def allPhases : List Phase := [.U, .V, .W]

/-- One counter step of a saturating 32-bit count. -/
def satInc (w : W32) : W32 := if w = 0xFFFFFFFF then w else w + 1

/-- Sparse values by key in canonical form: keys strictly rising. -/
abbrev Store := List (Nat × Nat)

end Sys2Proof
end

