-- ==== Sys2Proof/Syntax.lean ====
section
/-! DEFINITION. The commands of the block: one constructor for each row of opcode_table.json, with what
the outside brings to it. -/

namespace Sys2Proof

/-- What an age counter counts (03_steering_and_braking_services.md R87). -/
inductive AgeKind where
  | curvature | decel | handwheel | pedal
  | wheel (n : Fin 12) | load (axle : Fin 4)
  deriving DecidableEq, Repr

/-- How a message between lanes arrives (01_three_lanes_one_module.md R19, 02_vote_cycle_and_fault_tolerance.md R48). -/
structure Way where
  /-- Over the slip link between the two lanes; false where the third lane relays it. -/
  direct : Bool := true
  /-- Its check sequence holds. -/
  crcOk : Bool := true
  deriving DecidableEq, Repr

/-- A message of one lane to another that either link brings (R19). -/
structure SlipMsg where
  /-- The lane that sent it. -/
  src : LaneId := .A
  /-- Its check sequence holds. -/
  crcOk : Bool := true
  deriving DecidableEq, Repr

/-- A complete state vector at a lane (02_vote_cycle_and_fault_tolerance.md R66). -/
structure CopyIn where
  /-- The lane that it reaches. -/
  lane : LaneId := .A
  /-- How it arrives. -/
  way : Way := {}
  deriving DecidableEq, Repr

/-- The supplies of a lane that waits to restart. -/
structure Rails where
  /-- x_VIN has stayed above 9.0 V for 10 ms. -/
  vinOk : Bool := true
  /-- x_VGD has risen above 8.8 V (06_gate_drive_and_bridge_protection.md R186). -/
  vgdOk : Bool := true
  deriving DecidableEq, Repr

/-- Two interleaved samples of the DC link's converter (07_dc_link_and_braking_energy.md R217). -/
structure LinkSample where
  /-- Sample of x_VDC, V. -/
  v : Rat := 0
  /-- Sample of x_CHI, A. -/
  chi : Rat := 0
  deriving DecidableEq, Repr

/-- The samples of one carrier period of a bridge (04_field_engines.md R137, R145). -/
structure Samples where
  /-- The two conversions of the first aperture, A (R138); while DISABLED those of the offset sample; in
  PULSED_SHORT those of the vector with U alone high. -/
  i1 : Rat × Rat := (0, 0)
  /-- The two conversions of the second aperture, A; in PULSED_SHORT those of the vector with U and V high. -/
  i2 : Rat × Rat := (0, 0)
  /-- Voltage of switch node U at the period's boundary, V. -/
  vU : Rat := 0
  /-- Voltage of switch node V. -/
  vV : Rat := 0
  /-- Voltage of switch node W. -/
  vW : Rat := 0
  deriving DecidableEq, Repr

/-- A switch-node crossing (06_gate_drive_and_bridge_protection.md R190). -/
structure Crossing where
  /-- Rising edge. -/
  rise : Bool := true
  /-- Measured time from the commanded edge to the crossing, ns; none when no crossing came within
  the window of R193. -/
  edge : Option Rat := none
  /-- The outgoing gate output still reads high when the dead time has elapsed (R184). -/
  stuck : Bool := false
  deriving DecidableEq, Repr

/-- What the drive die sees of a bridge when a latch is to be cleared (R207, R209). -/
structure ClearIn where
  /-- Every bootstrap supply is above 7.8 V. -/
  bsOk : Bool := true
  /-- x_VGD is above 8.8 V. -/
  vgdOk : Bool := true
  /-- A comparator of the bridge is detecting. -/
  detects : Bool := false
  /-- Every gate output reads low. -/
  low : Bool := true
  deriving DecidableEq, Repr

/-- How a self-test ends (R210): with the desaturation, overcurrent and bootstrap results, or
aborted. -/
inductive TestEnd where
  | done (desat : BitVec 6) (oc : Bool) (bs : BitVec 3)
  | aborted
  deriving DecidableEq, Repr

/-- A frame start at a star port (08_tsuvas_network.md R248-R251). -/
structure StarStart where
  /-- Network time of the start, ns. -/
  ns : Nat := 0
  /-- Length of the frame on the line, ns. -/
  len : Nat := 0
  deriving DecidableEq, Repr

/-- A frame at the receiver (08_tsuvas_network.md R242-R246). -/
structure FrameIn where
  /-- Arrival in the lane's network time, ns. -/
  arrNs : Nat := 0
  /-- It ended without a transmit-error symbol (R250). -/
  whole : Bool := true
  /-- Its bytes from the destination address to the FCS (Table 8.2). -/
  bytes : List Byte := []
  deriving DecidableEq, Repr

/-- A gPTP Sync at the uplink port (09_time_base_and_timed_actions.md R298). -/
structure SyncIn where
  /-- Identity of the clock that sent it. -/
  gm : W64 := 0
  /-- Measured offset m: grandmaster time at receipt, corrected for path delay, less network time at
  receipt, ns. -/
  m : Int := 0
  deriving DecidableEq, Repr

/-- A gPTP Announce, with what the best master clock algorithm selects after it (R295, R297). -/
structure AnnounceIn where
  /-- Identity of the selected grandmaster. -/
  gm : W64 := 0
  /-- The algorithm selects the lane itself. -/
  self : Bool := false
  deriving DecidableEq, Repr

/-- The timestamp queues (R302). -/
inductive TsqId where
  | x | y | u
  deriving DecidableEq, Repr

/-- A UDP datagram (14_security.md R427). -/
structure Datagram where
  /-- It travels over IPv6. -/
  v6 : Bool := false
  /-- MAC address of its other end, 6 bytes: the sender of one that arrives, the addressee of one that leaves. -/
  mac : List Byte := []
  /-- Source address, 16 bytes, IPv4 mapped as ::ffff:a.b.c.d. -/
  src : List Byte := []
  /-- Destination address, 16 bytes. -/
  dst : List Byte := []
  /-- Source port. -/
  sport : Nat := 0
  /-- Destination port. -/
  dport : Nat := 0
  /-- UDP payload before the tag. -/
  payload : List Byte := []
  /-- Its 8-byte tag. -/
  tag : List Byte := []
  deriving DecidableEq, Repr

/-- A frame on the uplink (10_uplink_contracts_and_telemetry.md R318). -/
inductive UplinkIn where
  /-- A frame that ingress does not accept. -/
  | foreign
  /-- An ARP request, for an address of the lane or not. -/
  | arp (own : Bool)
  /-- An IPv6 neighbour solicitation. -/
  | neighbour (own : Bool)
  /-- An ICMP (or ICMPv6) echo request to the lane. -/
  | echo (v6 : Bool)
  /-- A gPTP message; GPTP_SYNC and GPTP_ANNOUNCE say what it brings. -/
  | gptp
  /-- A datagram to an address of the lane; SUPERVISORY_READ serves the messages of one to DICT_PORT. -/
  | udp (d : Datagram)
  /-- An accepted frame that no function of the lane serves. -/
  | unserved
  deriving DecidableEq, Repr

/-- The result objects (11_dictionary_access.md R367). -/
inductive ResultKind where
  | ta | ct | selftest (b : Fin 8) | prog | mem
  deriving DecidableEq, Repr

/-- Wake sources (15_power_states_and_startup.md R442). -/
inductive WakeSrc where
  | pin | pattern
  deriving DecidableEq, Repr

/-- A failing memory cell (17_diagnostics_and_kiln_log.md R491). -/
structure FailCell where
  /-- SRAM block 0-47. -/
  inst : Nat := 0
  /-- Word address 0-32,767. -/
  addr : Nat := 0
  /-- Bit 0-71. -/
  bit : Nat := 0
  /-- Data background. -/
  bg : Nat := 0
  /-- March element. -/
  elem : Nat := 0
  deriving DecidableEq, Repr

/-- What a restore step finds (15_power_states_and_startup.md Table 15.4, 17_diagnostics_and_kiln_log.md
Table 17.7). -/
structure StepReport where
  /-- The condition of the step's row holds. -/
  done : Bool := true
  /-- Code of the start test of Table 17.7 that failed, 0 for none. -/
  latent : Nat := 0
  /-- Failing cells of the groups step 5 tested. -/
  cells : List FailCell := []
  /-- x_SET0-1 and x_CHK0-7 after 4 agreeing samples; none when they did not settle (R405). -/
  pins : Option (Nat × Nat) := some (0, 0)
  /-- A peer's time read in step 7: network time and round trip in ns (R291). -/
  peerTime : Option (Nat × Nat) := none
  /-- Bridges whose comparator test fails in step 8 (R211). -/
  bridgeFail : Oct Bool := Oct.all false
  /-- Chopper currents of the test of step 8, A: 5 µs and 15 µs after its turn-on, and 10 µs after its
  turn-off (07_dc_link_and_braking_energy.md R225). -/
  chopI : Rat × Rat × Rat := (0, 0, 0)
  /-- Always-on count at the network-integration step (R313). -/
  aoCount : Nat := 0
  deriving DecidableEq, Repr

/-- What an entry phase finds (15_power_states_and_startup.md Table 15.3). -/
structure PhaseReport where
  /-- TE, CE and NCAL of the calibration (09_time_base_and_timed_actions.md R311). -/
  te : Nat := 0
  /-- Always-on count at the calibration's end. -/
  ce : Nat := 0
  /-- NCAL. -/
  ncal : Nat := 0
  deriving DecidableEq, Repr

/-- Pin levels at a safety sample (13_safety_inputs_and_seal.md R388). -/
structure SafetyPins where
  /-- x_SIn_1. -/
  ch1 : Oct Bool := Oct.all false
  /-- x_SIn_2. -/
  ch2 : Oct Bool := Oct.all false
  /-- x_SRST. -/
  srst : Bool := false
  /-- x_SEAL_1. -/
  seal1 : Bool := false
  /-- x_SEAL_2. -/
  seal2 : Bool := true
  /-- x_TPO0 reads high. -/
  back0 : Bool := true
  /-- x_TPO1 reads high. -/
  back1 : Bool := true
  deriving DecidableEq, Repr

/-- What a housekeeping round reads (16_clocks_and_heat.md R463). -/
structure HkRound where
  /-- Channels 0-63 in their units (Table 16.3). -/
  vals : List Rat := []
  /-- Logic-die cut sensor, degrees C. -/
  tcutL : Rat := 0
  /-- Drive-die cut sensor, degrees C. -/
  tcutD : Rat := 0
  /-- AO oscillator against NET, Hz. -/
  aoHz : Rat := 4000000
  deriving DecidableEq, Repr

/-- What the pattern checker has compared since the last command of the test
(17_diagnostics_and_kiln_log.md R499). -/
structure LptRx where
  /-- The checker is locked. -/
  lock : Bool := true
  /-- Bits compared while locked. -/
  bits : Nat := 0
  /-- Mismatches. -/
  errors : Nat := 0
  /-- Losses of lock. -/
  losses : Nat := 0
  deriving DecidableEq, Repr

/-- What a word of the frame buffers holds when a double-bit error is found in it
(17_diagnostics_and_kiln_log.md R494). -/
inductive Held where
  /-- No frame and no message. -/
  | none
  /-- Transmit buffer n (08_tsuvas_network.md R281). -/
  | tx (n : Nat)
  /-- The responses that wait for a service slot (11_dictionary_access.md R355). -/
  | answers
  /-- The segments of a write in progress (R358). -/
  | segments (m : Master) (tid : Nat)
  /-- A read snapshot (R357). -/
  | snapshot (m : Master) (tid : Nat)
  deriving DecidableEq, Repr

/-- What the environment adds to a write of an object whose action needs more than the value: each field as
in that object's own command. -/
structure WriteEnv where
  /-- Line time of the frame that TA_SUBMIT launches, ns. -/
  lineNs : Nat := 0
  /-- The bridge that GD_CLEAR clears. -/
  gate : ClearIn := {}
  /-- Checker counts at a write of LPT_CTRL. -/
  rx : LptRx := {}
  deriving DecidableEq, Repr

/-- The commands (opcode_table.json). -/
inductive Instr where
  /-- Vote cycle k starts in every lane that runs vote cycles. (R41) -/
  | voteCycleStart (k : Nat)
  /-- tCLOSE of the running vote cycle. (R42) -/
  | inputClose
  /-- Lane dst receives lane src's input set, direct or relayed; crcOk tells whether its check
  sequence holds, other lists entries (number, valid, value) that arrive different from what src
  sent. (R46) -/
  | inputSetReceived (dst src : LaneId) (direct : Bool) (crcOk : Bool) (other : List (Nat × Bool × Int))
  /-- tAGREE of the running vote cycle. (R49) -/
  | inputAgreement
  /-- Task 1-9 of Table 3.12 ends endUs microseconds after the cycle's start. (R117) -/
  | serviceTaskEnd (l : LaneId) (task : Nat) (endUs : Nat)
  /-- tDEAD of the running vote cycle. (R56) -/
  | computeDeadline
  /-- Lane dst receives lane src's output set; flagged is its self-flag, other lists setpoints that arrive different
  from what src offered. (R59) -/
  | outputSetReceived (dst src : LaneId) (way : Way) (flagged : Bool) (other : List (LaneId × Fin 8 × Rat))
  /-- tCOMP of the running vote cycle; flags tells for each lane whether its Saggar monitor found
  an output outside its envelope. (R59) -/
  | outputCompare (flags : Tri Bool)
  /-- tAPPLY of the running vote cycle. (R64) -/
  | apply
  /-- tCOPY of the running vote cycle. (R65) -/
  | stateCopy
  /-- A complete state vector reaches a lane. (R66) -/
  | stateVectorReceived (c : CopyIn)
  /-- tCOPY + 150 microseconds of the running vote cycle. (R67) -/
  | stateCopyDeadline
  /-- A pair of the lane registers a lockstep fault, the service pair's or the control pair's.
  (R22) -/
  | lockstepFault (l : LaneId) (service : Bool)
  /-- A slip link has carried no valid data for 3 vote cycles. (R48) -/
  | slipLinkIsolate (k : LinkId)
  /-- CLEAN_CYCLES clean reports of both lanes return a slip link to use. (R48) -/
  | slipLinkReturn (k : LinkId)
  /-- A shadow's clean count has reached CLEAN_CYCLES. (R74) -/
  | shadowPromote (l : LaneId)
  /-- The torque-share ramp of a returning lane ends. (R75) -/
  | rampComplete (l : LaneId)
  /-- The overload budget of lane l's winding set of actuator n reaches 0. (R77) -/
  | overloadBudgetExhausted (l : LaneId) (n : Fin 8)
  /-- PARK_TIME of park-lock apply ends on a bridge. (R79) -/
  | parkLockComplete (l : LaneId) (b : Fin 8)
  /-- The vote cycle after a lane-out starts, with the supplies as they stand. (R449) -/
  | laneRestart (l : LaneId) (r : Rails)
  /-- A write of 0x2602:01. (R72) -/
  | reintRelease (l : LaneId) (m : Master) (tid : Nat) (data : List Byte)
  /-- An age counter reaches its limit. (R87) -/
  | ageLimitReached (l : LaneId) (k : AgeKind)
  /-- STOP_HOLD ends. (R111) -/
  | stopHoldExpiry (l : LaneId)
  /-- HOLD_TIME of a wheel in HOLD ends. (R109) -/
  | slipHoldExpiry (l : LaneId) (n : Fin 8)
  /-- A write of 0x4300:09. (R114) -/
  | stopRelease (l : LaneId) (m : Master) (tid : Nat) (data : List Byte)
  /-- A write of CONTACT of actuator n. (R107) -/
  | contactWrite (l : LaneId) (m : Master) (tid : Nat) (n : Fin 8) (data : List Byte)
  /-- A carrier period of a bridge starts at network time ns and the fraction frac of a ns, since its ticks are those of
  the PWM oscillator; bs tells which bootstrap supplies of it are above 7.8 V. (R119) -/
  | pwmPeriodBoundary (l : LaneId) (b : Fin 8) (ns : Nat) (frac : Rat) (bs : Tri3 Bool)
  /-- The compute window of a period, with the period's samples. (R132) -/
  | periodCompute (l : LaneId) (b : Fin 8) (q : Samples)
  /-- A third consecutive overrun. (R129) -/
  | computeOverrunIsolate (l : LaneId) (b : Fin 8)
  /-- SAT in 4 consecutive periods. (R145) -/
  | shuntSaturation (l : LaneId) (b : Fin 8)
  /-- Tracking error in 100 consecutive periods. (R149) -/
  | currentTrackingFault (l : LaneId) (b : Fin 8)
  /-- FW_LIM in 100 consecutive periods. (R136) -/
  | fieldWeakeningExhausted (l : LaneId) (b : Fin 8)
  /-- The PWM oscillator's frequency is measured. (R125) -/
  | oscMeasure (l : LaneId) (hz : Rat)
  /-- A request of rank 3 (active short) or rank 4 (all-off) is made or withdrawn. (R147) -/
  | bridgeModeRequest (l : LaneId) (b : Fin 8) (rank3 : Bool) (on : Bool)
  /-- The samples of x_SINb and x_COSb of one half period of excitation, in V at 2.5 MS/s, to be demodulated into
  a pair. (R157, R158) -/
  | resolverPair (l : LaneId) (b : Fin 8) (sinS : List Rat) (cosS : List Rat)
  /-- Four consecutive withheld pairs. (R158) -/
  | resolverAmplitudeFault (l : LaneId) (b : Fin 8)
  /-- Excitation current out of its window in 4 half periods. (R159) -/
  | excitationFault (l : LaneId) (b : Fin 8) (mA : Nat)
  /-- Converter error above 5 degrees in 4 updates. (R160) -/
  | trackingFault (l : LaneId) (b : Fin 8)
  /-- The bits of a BiSS-C frame after its start bit, first received first: the position bits, nE, nW, and the CRC bits
  with any that follow; delay is the line delay that its acknowledge shows, ns. (R161, R163) -/
  | bissFrame (l : LaneId) (b : Fin 8) (pos : List Bool) (nE nW : Bool) (crc : List Bool) (delay : Nat)
  /-- No start bit within 20 microseconds. (R163) -/
  | bissFrameTimeout (l : LaneId) (b : Fin 8)
  /-- Three consecutive discarded frames. (R163) -/
  | bissFrameFault (l : LaneId) (b : Fin 8)
  /-- The injection check changes its bias. (R165) -/
  | hfiBiasPhase (l : LaneId) (b : Fin 8)
  /-- The injection check ends; th is the offset error modulo 180 degrees that the q-axis response of its first step
  gives. (R165, R166) -/
  | hfiCheckEnd (l : LaneId) (b : Fin 8) (th : Rat)
  /-- The observer departs from the sensor in 32 periods. (R168) -/
  | observerImplausible (l : LaneId) (b : Fin 8)
  /-- The residual lies above OBS_RES in 3 periods. (R172) -/
  | rotorLost (l : LaneId) (b : Fin 8)
  /-- tSETTLE in active short ends. (R175) -/
  | settleExpiry (l : LaneId) (b : Fin 8)
  /-- Eight consistent estimates acquire the rotor. (R177) -/
  | rotorAcquired (l : LaneId) (b : Fin 8)
  /-- No return within 20 ms of the loss. (R178) -/
  | reacquireTimeout (l : LaneId) (b : Fin 8)
  /-- A write of REV_COUNT of front end b. (R154) -/
  | revCountWrite (l : LaneId) (m : Master) (tid : Nat) (b : Fin 8) (data : List Byte)
  /-- x_VGD below 8.0 V or above 14.0 V for 2 microseconds. (R186) -/
  | gateRailFault (l : LaneId) (low : Bool)
  /-- A switch-node crossing with its timing. (R190) -/
  | switchNodeCrossing (l : LaneId) (b : Fin 8) (p : Phase) (c : Crossing)
  /-- 1,000 out-of-band measurements at a limit. (R192) -/
  | driveStrengthLimit (l : LaneId) (b : Fin 8) (p : Phase) (high : Bool)
  /-- No valid crossing in 64 periods. (R193) -/
  | switchNodeSenseLost (l : LaneId) (b : Fin 8) (p : Phase)
  /-- An output differs from its command. (R194) -/
  | gateReadbackMismatch (l : LaneId) (b : Fin 8) (out : Fin 6)
  /-- Sixteen short low-side intervals. (R196) -/
  | bootstrapRefresh (l : LaneId) (b : Fin 8) (p : Phase)
  /-- A bootstrap supply below 7.0 V for 500 ns. (R197) -/
  | bootstrapUvlo (l : LaneId) (b : Fin 8) (p : Phase)
  /-- An armed desaturation comparator detects. (R200) -/
  | desaturationDetect (l : LaneId) (b : Fin 8) (out : Fin 6)
  /-- Shunt current above OC_LIMIT for 150 ns. (R201) -/
  | hardOvercurrent (l : LaneId) (b : Fin 8)
  /-- tSOFT ends. (R202) -/
  | softTurnoffEnd (l : LaneId) (b : Fin 8)
  /-- tRETRY ends. (R207) -/
  | faultWaitEnd (l : LaneId) (b : Fin 8)
  /-- Every release condition of a try holds. (R207) -/
  | tryRelease (l : LaneId) (b : Fin 8)
  /-- A try ends its 1 ms without release. (R207) -/
  | tryTimeout (l : LaneId) (b : Fin 8)
  /-- A write of GD_CLEAR of bridge b. (R209) -/
  | gdClear (l : LaneId) (m : Master) (tid : Nat) (b : Fin 8) (data : List Byte) (e : ClearIn)
  /-- A write of SELFTEST of bridge b. (R211) -/
  | selftest (l : LaneId) (m : Master) (tid : Nat) (b : Fin 8) (data : List Byte)
  /-- A bridge self-test ends. (R210) -/
  | selftestComplete (l : LaneId) (b : Fin 8) (e : TestEnd)
  /-- A sample of x_VDC and the sample of x_CHI interleaved with it. (R217) -/
  | vdcSample (l : LaneId) (x : LinkSample)
  /-- Two x_VDC readings disagree in 3 rounds. (R218) -/
  | linkSenseDisagree (l : LaneId)
  /-- The timed chopper current check. (R222) -/
  | chopperCurrentCheck (l : LaneId) (amps : Rat)
  /-- Three consecutive failures of one kind. (R222) -/
  | chopperFault (l : LaneId)
  /-- 10 microseconds of the resistor energy account. (R224) -/
  | chopperEnergyUpdate (l : LaneId)
  /-- A write of CHOP_TEST. (R225) -/
  | chopTest (l : LaneId) (m : Master) (tid : Nat) (data : List Byte)
  /-- The chopper test's checks end with the off check, at the current amps. (R225) -/
  | chopperTestComplete (l : LaneId) (amps : Rat)
  /-- vdc above OV3 for longer than OV3_TIME. (R228) -/
  | ov3Timeout (l : LaneId)
  /-- The HW_OV comparator trips. (R229) -/
  | hwOvTrip (l : LaneId)
  /-- vdc below OV3 - OV_HYST for 1 ms. (R230) -/
  | hwOvRelease (l : LaneId)
  /-- vdc below UV2 for 100 microseconds. (R234) -/
  | linkUndervoltage (l : LaneId)
  /-- vdc above UV2 + UV_HYST for 100 ms. (R234) -/
  | linkUvRecover (l : LaneId)
  /-- A frame start reaches a star port. (R250) -/
  | starFrameArrival (l : LaneId) (ch : Chan) (port : Nat) (f : StarStart)
  /-- An admitted frame still runs at its limit. (R250) -/
  | guardianTruncate (l : LaneId) (ch : Chan)
  /-- 100 ms of guardian holdover end. (R251) -/
  | guardianHoldoverEnd (l : LaneId)
  /-- A frame reaches the lane's receiver. (R246) -/
  | tsuvasFrameReceived (l : LaneId) (ch : Chan) (f : FrameIn)
  /-- An own slot's action point. (R255) -/
  | slotLaunch (l : LaneId) (ch : Chan) (slot : Nat) (service : Bool)
  /-- A used static slot ends. (R279) -/
  | slotEnd (l : LaneId) (ch : Chan) (slot : Nat)
  /-- A network cycle ends. (R265) -/
  | networkCycleEnd (l : LaneId)
  /-- tLISTEN ends without a sync frame. (R260) -/
  | listenTimeout (l : LaneId)
  /-- A cold-start frame meets another sender's. (R261) -/
  | coldstartCollision (l : LaneId)
  /-- The cold-start backoff ends. (R261) -/
  | backoffExpiry (l : LaneId)
  /-- A cycle in COLDSTART ends. (R263) -/
  | coldstartCycleEnd (l : LaneId)
  /-- Fewer than 2 valid sync values in SYNC_LOSS cycles. (R266) -/
  | syncLoss (l : LaneId)
  /-- A peer's network time read completes. (R267) -/
  | peerTimeRead (l src : LaneId) (rttNs : Nat) (ns : Nat)
  /-- The wait after a time mismatch ends. (R268) -/
  | timeMismatchRetry (l : LaneId)
  /-- A channel has carried no valid frame for its count of cycles. (R276) -/
  | channelLost (l : LaneId) (ch : Chan)
  /-- A lost channel carries frames again. (R276) -/
  | channelRestored (l : LaneId) (ch : Chan)
  /-- The lane's network is lost. (R277) -/
  | networkLost (l : LaneId)
  /-- The lane's network is back. (R277) -/
  | networkRestored (l : LaneId)
  /-- A star port's link goes up or down. (R241) -/
  | portLinkChange (l : LaneId) (ch : Chan) (port : Nat) (up : Bool)
  /-- A port is blocked in 8 cycles. (R278) -/
  | portBlockedPersist (l : LaneId) (ch : Chan) (port : Nat)
  /-- A cycle point raises its task; busy tells that the task's previous run has not ended. (R281)
  -/
  | cyclePointRaise (l : LaneId) (cp : Fin 8) (busy : Bool)
  /-- A slew of the time base ends. (R288) -/
  | slewEnd (l : LaneId)
  /-- A gPTP Sync is taken. (R298) -/
  | gptpSync (l : LaneId) (g : SyncIn)
  /-- No Sync for the timeout. (R300) -/
  | gptpSyncTimeout (l : LaneId)
  /-- A gPTP Announce is received. (R297) -/
  | gptpAnnounce (l : LaneId) (a : AnnounceIn)
  /-- A write of STEP_ACCEPT. (R299) -/
  | stepAccept (l : LaneId) (m : Master) (tid : Nat) (data : List Byte)
  /-- A write of TSQ_POP. (R304) -/
  | tsqPop (l : LaneId) (m : Master) (tid : Nat) (q : TsqId) (data : List Byte)
  /-- A write of TA_SUBMIT; lineNs is the line time of the frame a launch names. (R306) -/
  | taSubmit (l : LaneId) (m : Master) (tid : Nat) (data : List Byte) (lineNs : Nat)
  /-- A write of TA_CANCEL. (R309) -/
  | taCancel (l : LaneId) (m : Master) (tid : Nat) (data : List Byte)
  /-- A queued timed action is due; full tells that the buffer of a launch holds a frame. (R307)
  -/
  | timedActionDue (l : LaneId) (slot : Nat) (full : Bool)
  /-- The always-on oscillator stops or its trim changes. (R312) -/
  | sleepRecordInvalidate (l : LaneId)
  /-- An uplink frame arrives. (R318) -/
  | uplinkFrameReceived (l : LaneId) (ns : Nat) (f : UplinkIn)
  /-- A supervisory message arrives in an accepted datagram. (R365) -/
  | supervisoryRead (l : LaneId) (tid : Nat) (idx : Nat) (sub : Nat) (ofs : Nat) (len : Nat) (op : Nat)
  /-- The uplink goes up or down. (R331) -/
  | uplinkLinkChange (l : LaneId) (up : Bool)
  /-- The window of contract n opens. (R323) -/
  | contractWindow (l : LaneId) (n : Nat)
  /-- A write of CT_SUBMIT. (R326) -/
  | ctSubmit (l : LaneId) (m : Master) (tid : Nat) (data : List Byte)
  /-- A write of CT_WITHDRAW. (R329) -/
  | ctWithdraw (l : LaneId) (m : Master) (tid : Nat) (data : List Byte)
  /-- A READ message. (R357) -/
  | transferRead (l : LaneId) (m : Master) (tid : Nat) (idx : Nat) (sub : Nat) (ofs : Nat) (len : Nat)
  /-- A WRITE segment without LAST. (R358) -/
  | transferWriteSegment (l : LaneId) (m : Master) (tid : Nat) (idx : Nat) (sub : Nat) (ofs : Nat) (total : Nat) (data : List Byte)
  /-- An ABORT message. (R358) -/
  | transferAbort (l : LaneId) (m : Master) (tid : Nat)
  /-- 100 ms without a request on a snapshot. (R357) -/
  | snapshotLapse (l : LaneId) (m : Master) (tid : Nat)
  /-- A 100 ms gap between segments. (R358) -/
  | segmentTimeout (l : LaneId) (m : Master) (tid : Nat)
  /-- A WRITE message with LAST. (R347) -/
  | objectWrite (l : LaneId) (m : Master) (tid : Nat) (idx : Nat) (sub : Nat) (ofs : Nat) (total : Nat) (grp : Option (Fin 16)) (data : List Byte) (e : WriteEnv)
  /-- A prepare of another lane reaches lane l. (R19, R350) -/
  | commitPrepareReceived (l : LaneId) (msg : SlipMsg) (ctr : W16)
  /-- Another lane reads an object of lane l. (R19, R366) -/
  | peerRead (l : LaneId) (msg : SlipMsg) (tid : Nat) (idx : Nat) (sub : Nat) (ofs : Nat) (len : Nat)
  /-- The value download of a side-band write. (R363) -/
  | sidebandValueDownload (l : LaneId) (idx : Nat) (sub : Nat) (data : List Byte)
  /-- A side-band read of SB_CHALLENGE. (R362) -/
  | sbChallenge (l : LaneId)
  /-- A side-band write of SB_RESPONSE. (R362) -/
  | sbResponse (l : LaneId) (data : List Byte)
  /-- A side-band write of SB_TAG. (R363) -/
  | sbTag (l : LaneId) (data : List Byte) (e : WriteEnv)
  /-- A write of SB_CLOSE. (R364) -/
  | sbClose (l : LaneId) (m : Master) (tid : Nat) (data : List Byte)
  /-- 60 s without a side-band transaction. (R364) -/
  | sessionTimeout (l : LaneId)
  /-- The CAN controller goes bus-off. (R364) -/
  | canBusOff (l : LaneId)
  /-- 1 s after the last transaction in STANDBY. (R361) -/
  | monitorRest (l : LaneId)
  /-- Master m reads the result object of master own. (R368) -/
  | resultRead (l : LaneId) (m : Master) (tid : Nat) (k : ResultKind) (own : Master)
  /-- The last segment of an image, with its ARG and the bytes it brings. (R377, R358) -/
  | programStage (l : LaneId) (m : Master) (tid : Nat) (sub : Fin 5) (total : Nat) (data : List Byte)
  /-- A write of 0x01 to PROGRAM_CONTROL. (R424) -/
  | programInstall (l : LaneId) (m : Master) (tid : Nat) (sub : Fin 5)
  /-- The image is written and verified. (R425) -/
  | programInstallComplete (l : LaneId) (sub : Fin 5)
  /-- A write of 0x03 to PROGRAM_CONTROL. (R377) -/
  | programDiscard (l : LaneId) (m : Master) (tid : Nat) (sub : Fin 5)
  /-- A write of SET_STORE. (R384) -/
  | setStore (l : LaneId) (m : Master) (tid : Nat) (data : List Byte)
  /-- A write of FAULT_SEEN. (R382) -/
  | faultSeenClear (l : LaneId) (m : Master) (tid : Nat) (data : List Byte)
  /-- A write of 1 to PWR_REQ. (R386) -/
  | pwrReqRun (l : LaneId) (m : Master) (tid : Nat)
  /-- A write of 2 to PWR_REQ. (R436) -/
  | pwrReqHold (l : LaneId) (m : Master) (tid : Nat)
  /-- A write of 3 to PWR_REQ. (R445) -/
  | pwrReqStandby (l : LaneId) (m : Master) (tid : Nat)
  /-- A write of 4 to PWR_REQ. (R445) -/
  | pwrReqOff (l : LaneId) (m : Master) (tid : Nat)
  /-- A vote cycle start at which AUTO_RUN acts. (R436) -/
  | autoRunRequest (l : LaneId)
  /-- The vote cycle after the last step of an exit ramp starts. (R438) -/
  | exitRampEnd (l : LaneId)
  /-- The longest PARK_TIME plus 10 ms in PASSIVE ends. (R438) -/
  | exitPassiveEnd
  /-- A vote cycle start at which drivers are formed. (R440) -/
  | moduleFormation
  /-- A wake source is active. (R442) -/
  | wakeEvent (l : LaneId) (src : WakeSrc)
  /-- x_VIN rises through its power-on threshold. (R435) -/
  | vinPowerOn (l : LaneId)
  /-- x_nRST is asserted. (R435) -/
  | nrstAssert (l : LaneId)
  /-- x_nRST is released. (R435) -/
  | nrstRelease (l : LaneId)
  /-- The allotment of a restore step ends, with what the step found. (R448) -/
  | restoreStepEnd (l : LaneId) (r : StepReport)
  /-- An entry phase ends. (R445) -/
  | entryPhaseEnd (l : LaneId) (r : PhaseReport)
  /-- A memory group's slot ends with the failing cells found. (R490) -/
  | wedgeGroupEnd (l : LaneId) (cells : List FailCell)
  /-- Safety sample n at n times 250 microseconds. (R388) -/
  | safetySample (l : LaneId) (n : Nat) (p : SafetyPins)
  /-- Channels still disagree after the discrepancy time. (R392) -/
  | discrepancyFault (l : LaneId) (n : Fin 8)
  /-- A counted release of x_SRST. (R401) -/
  | safetyReset (l : LaneId)
  /-- A press is still active after 8,001 samples. (R400) -/
  | srstStuck (l : LaneId)
  /-- Eight consecutive open samples. (R402) -/
  | sealOpen (l : LaneId)
  /-- 400 samples with equal seal levels. (R402) -/
  | sealDisagree (l : LaneId)
  /-- Pulse n of test-pulse output 0 or 1 starts. (R395) -/
  | testPulse (l : LaneId) (o : Bool) (n : Nat)
  /-- The checks during a pulse: the read-back and the channels' levels. (R396) -/
  | testPulseCheck (l : LaneId) (o : Bool) (backLow : Bool) (ch1 : Oct Bool) (ch2 : Oct Bool)
  /-- A write of DS2_PASSWORD in one message, with its ARG. (R409, R358) -/
  | ds2Password (l : LaneId) (m : Master) (tid : Nat) (total : Nat) (data : List Byte)
  /-- A write of DS2_VALUE. (R410) -/
  | ds2Value (l : LaneId) (m : Master) (tid : Nat) (data : List Byte) (grp : Option (Fin 16))
  /-- A write of DS2_STORE. (R410) -/
  | ds2Store (l : LaneId) (m : Master) (tid : Nat) (data : List Byte)
  /-- A write of DS2_LOCK. (R409) -/
  | ds2Lock (l : LaneId) (m : Master) (tid : Nat) (data : List Byte)
  /-- 60 s after blocking. (R409) -/
  | ds2BlockExpiry (l : LaneId)
  /-- 600 s without an entry or RWP write by a master. (R409) -/
  | ds2UnlockTimeout (l : LaneId) (m : Master)
  /-- Update-DR of the 80-byte KEYPROV register, the bytes before the wrapped key and the rest; otpOk tells whether the OTP
  write verifies. (R418) -/
  | keyprov (l : LaneId) (head wrapped : List Byte) (otpOk : Bool)
  /-- The IDCODE instruction. (R430) -/
  | jtagIdcode (l : LaneId)
  /-- The BYPASS instruction. (R430) -/
  | jtagBypass (l : LaneId)
  /-- A write of KEY_REVOKE. (R419) -/
  | keyRevoke (l : LaneId) (m : Master) (tid : Nat) (data : List Byte)
  /-- A read of DBG_CHALLENGE. (R430) -/
  | dbgChallenge (l : LaneId) (m : Master) (tid : Nat)
  /-- A write of DBG_RESPONSE: the two halves of the signature, r and then s. (R431) -/
  | dbgResponse (l : LaneId) (m : Master) (tid : Nat) (rPart sPart : List Byte)
  /-- 60 s after three refused responses. (R430) -/
  | dbgBlockExpiry (l : LaneId)
  /-- The crystal is compared with the monitor oscillator. (R459) -/
  | clockCheck (l : LaneId) (ppm : Rat)
  /-- The network PLL or the core PLL loses lock. (R459) -/
  | pllUnlock (l : LaneId) (net : Bool)
  /-- Housekeeping round n, begun at n times 4 ms, is complete. (R463) -/
  | hkRound (l : LaneId) (n : Nat) (r : HkRound)
  /-- A temperature sensor is judged broken. (R466) -/
  | sensorBroken (l : LaneId) (n : Fin 10)
  /-- The reference check differs in 3 rounds. (R462) -/
  | referenceCheckFault (l : LaneId)
  /-- A cut sensor differs in 3 rounds. (R470) -/
  | cutSensorImplausible (l : LaneId) (drive : Bool)
  /-- A die-to-die frame arrives, samples (up) or duties of bridge b. (R457) -/
  | d2dFrame (l : LaneId) (b : Fin 8) (up : Bool) (crcOk : Bool)
  /-- Three consecutive failed frames. (R457) -/
  | d2dLinkFailed (l : LaneId)
  /-- A cut sensor passes its cut threshold. (R468) -/
  | thermalCut (l : LaneId) (drive : Bool)
  /-- A Cone threshold is passed, or a third cut in 600 s begins. (R472) -/
  | coneLatchTrip (l : LaneId) (hot : Bool)
  /-- Every cut sensor reads below its restart threshold. (R471) -/
  | coolingDone (l : LaneId)
  /-- x_VIN below 8.5 V for 20 microseconds. (R511) -/
  | vinUndervoltage (l : LaneId)
  /-- x_VIN above 62 V for 20 microseconds. (R511) -/
  | vinOvervoltage (l : LaneId)
  /-- x_VAON below its reset threshold. (R511) -/
  | aonReset (l : LaneId)
  /-- A fault event reaches the recorder; full tells that its input queue is full. (R480) -/
  | faultEvent (l : LaneId) (code : W16) (level : Fin 7) (detId : W32) (detVal : W32) (full : Bool)
  /-- Commit n of the recorder at n times 10 ms. (R482) -/
  | logCommit (l : LaneId) (n : Nat)
  /-- Whole second n. (R485) -/
  | kilnSecond (l : LaneId) (n : Nat)
  /-- Kiln commit n at n times 10 s. (R487) -/
  | kilnCommit (l : LaneId) (n : Nat)
  /-- The scrubber corrects the listed cells. (R494) -/
  | scrubPass (l : LaneId) (cells : List FailCell)
  /-- A double-bit error in group g at a block and word address; held names the frame or message that stood in the failing word. (R494) -/
  | sramDoubleBitError (l : LaneId) (g : Fin 16) (cell : Nat × Nat) (held : Held)
  /-- A write of MEM_TEST. (R495) -/
  | memTest (l : LaneId) (m : Master) (tid : Nat) (data : List Byte)
  /-- A demand for service during the memory test. (R496) -/
  | memTestDemand (l : LaneId)
  /-- The compare check of every 1,000 cycles. (R497) -/
  | compareSelfCheck (l : LaneId) (pass : Bool)
  /-- A write of LPT_CTRL that sets START. (R500) -/
  | lptStart (l : LaneId) (m : Master) (tid : Nat) (data : List Byte)
  /-- A write of LPT_CTRL that sets STOP. (R501) -/
  | lptStop (l : LaneId) (m : Master) (tid : Nat) (data : List Byte) (rx : LptRx)
  /-- A write of LPT_CTRL that sets INJECT. (R499) -/
  | lptInject (l : LaneId) (m : Master) (tid : Nat) (data : List Byte) (rx : LptRx)
  /-- DURATION ends. (R501) -/
  | lptDurationEnd (l : LaneId) (rx : LptRx)
  /-- x_VIN below 6.0 V for 10 microseconds; written tells that the latest commit write had
  completed, aonLow that x_VAON is below its reset threshold. (R511) -/
  | vinBelowPowerOn (l : LaneId) (written : Bool) (aonLow : Bool)
  /-- The sync interval of the grandmaster ends. (R297) -/
  | syncTransmission (l : LaneId)
  /-- The current march element of a stopped pass ends. (R446) -/
  | marchElementEnd (l : LaneId)
  deriving DecidableEq, Repr

end Sys2Proof
end

