-- ==== Sys2Proof/Config.lean ====
section
/-! DEFINITION. What an implementation fixes and what the spec leaves open: constants and functions
without a body, so that nothing can be proved about their values (log entries 5-9 and 12). -/

namespace Sys2Proof.Config

/-- LANE_UID of each lane, from OTP (12_dictionary_index.md R379); log entry 6. -/
opaque laneUid : LaneId → W64
/-- MAC_ADDR of each lane, from OTP (R379); log entry 6. -/
opaque macAddr : LaneId → BitVec 48
/-- SERIAL, equal in all three lanes (R375); log entry 6. -/
opaque serial : W32
/-- SILICON_REV of each lane (R379); log entry 6. -/
opaque siliconRev : LaneId → W16
/-- Patch number of the running firmware, for SW_VERSION (R528); log entry 6. -/
opaque patch : W32 → Nat
/-- The 32-bit IDCODE of the test access port (14_security.md R430); log entry 6. -/
opaque idcode : LaneId → W32
/-- A value drawn afresh, by the number of the draw: challenges (11_dictionary_access.md R362,
14_security.md R430); log entry 5. -/
opaque draw : Nat → W64
/-- The REAL32 nearest to a number, as the lane rounds it (Table 11.1); log entry 7. -/
opaque real32 : Rat → W32
/-- Sine of an angle in radians; log entry 8. -/
opaque sin : Rat → Rat
/-- Cosine of an angle in radians; log entry 8. -/
opaque cos : Rat → Rat
/-- Tangent of an angle in radians; log entry 8. -/
opaque tan : Rat → Rat
/-- Arc tangent in radians; log entry 8. -/
opaque atan : Rat → Rat
/-- Angle of the vector (y, x) in radians; log entry 8. -/
opaque atan2 : Rat → Rat → Rat
/-- Square root of a number not below 0; log entry 8. -/
opaque sqrt : Rat → Rat
/-- The number pi; log entry 8. -/
opaque pi : Rat
/-- Share of the converter's error that one update moves its angle, by RDC_BW and the time since the last
update (05_rotor_position.md R160 gives no damping); log entry 9. -/
opaque rdcAngleGain : Rat → Rat → Rat
/-- The same for its speed, per second; log entry 9. -/
opaque rdcSpeedGain : Rat → Rat → Rat
/-- A current sample after the notch filter of the injection check, by the filter's frequency and the model's own
count (R165 gives the frequency, not the filter); log entry 9. -/
opaque notch : Rat → Nat → Rat → Rat
/-- Phase in radians of the injected voltage against the periods of the check (R165 gives its frequency and its
amplitude); log entry 9. -/
opaque injPhase : Rat
/-- Setting of the main bandgap reference of a die (the drive die or the logic die) of a lane at a die temperature, the
factory curve of its OTP (16_clocks_and_heat.md R462); log entry 9. -/
opaque bandgapTrim : LaneId → Bool → Rat → Rat
/-- Offset and rate the uplink clock's servo gives for a deviation, an offset and a rate
(09_time_base_and_timed_actions.md R298 gives no control law); log entry 9. -/
opaque servo : Int → Int → Int → Int × Int
/-- Continuous rating of each winding set of an actuator in N m (02_vote_cycle_and_fault_tolerance.md R77
names it, no object gives it); log entry 12. -/
opaque rating : Fin 8 → Rat
/-- Byte at a place of the data that TX_COMMIT writes into a transmit buffer, by the agreed torque demands and the status
word (08_tsuvas_network.md R281 gives no layout of them); log entry 9. -/
opaque txByte : List Rat → W32 → Nat → Byte
/-- A value the spec leaves unstated, by what it is (a rule number) and the model's own count; log
entry 5. -/
opaque free : Nat → Nat → Rat

end Sys2Proof.Config
end

