-- ==== Sys2Proof/WellFormed.lean ====
section
/-! DEFINITION. Well-formed commands: every operand lies in the range the spec gives the field that carries
it. No meaning needs it; the host and the statements can ask for it. -/

namespace Sys2Proof

/-- TID of a transfer message, 8 bits (11_dictionary_access.md Table 11.3). -/
def wfTid (tid : Nat) : Bool := decide (tid < 256)
/-- INDEX, 16 bits (Table 11.3). -/
def wfIdx (idx : Nat) : Bool := decide (idx < 65536)
/-- SUB, 8 bits (Table 11.3). -/
def wfSub (sub : Nat) : Bool := decide (sub < 256)
/-- LEN, 16 bits (Table 11.3). -/
def wfLen (len : Nat) : Bool := decide (len < 65536)
/-- OFFSET and ARG, 32 bits (Table 11.3). -/
def wfWord (w : Nat) : Bool := decide (w < 4294967296)
/-- Data that one message or one buffer of it can carry (Table 11.3). -/
def wfData (d : List Byte) : Bool := decide (d.length < 65536)
/-- A failing cell exists: one of 48 blocks, 32,768 words of 72 bits
(17_diagnostics_and_kiln_log.md R489, R491). -/
def FailCell.wf (c : FailCell) : Bool :=
  decide (c.inst < 48 ∧ c.addr < 32768 ∧ c.bit < 72 ∧ c.bg < 256 ∧ c.elem < 256)
/-- Every listed cell exists. -/
def wfCells (l : List FailCell) : Bool := l.all FailCell.wf
/-- What a restore step finds fits its fields (13_safety_inputs_and_seal.md R405, 17_diagnostics_and_kiln_log.md
Table 17.7). -/
def StepReport.wf (r : StepReport) : Bool :=
  decide (r.latent < 65536) && wfCells r.cells &&
  (match r.pins with
   | some (a, b) => decide (a < 4 ∧ b < 256)
   | none => true) &&
  decide (r.aoCount < 2 ^ 56)
/-- The always-on count has 56 bits (09_time_base_and_timed_actions.md R311, Table 9.16). -/
def PhaseReport.wf (r : PhaseReport) : Bool := decide (r.ce < 2 ^ 56)
/-- A round has at most the 64 channels (16_clocks_and_heat.md Table 16.3). -/
def HkRound.wf (r : HkRound) : Bool := decide (r.vals.length ≤ 64)
/-- A frame's bytes fill its form: at most the 294 bytes of a whole frame of the longest payload, 1,024 bytes
and the 42 beside them (08_tsuvas_network.md Table 8.2, Table 8.3). -/
def FrameIn.wf (f : FrameIn) : Bool := decide (f.bytes.length ≤ 1066)
/-- Addresses have 16 bytes, ports 16 bits and a tag 8 bytes (14_security.md R427). -/
def Datagram.wf (d : Datagram) : Bool :=
  decide (d.mac.length ≤ 6 ∧ d.src.length = 16 ∧ d.dst.length = 16 ∧ d.sport < 65536 ∧ d.dport < 65536 ∧ d.tag.length = 8 ∧
    d.payload.length < 65536)
/-- A datagram fits its form. -/
def UplinkIn.wf : UplinkIn → Bool
  | .udp d => d.wf
  | .foreign | .arp _ | .neighbour _ | .echo _ | .gptp | .unserved => true

/-- A command whose operands lie in their ranges. (DEDUCED, log entry 95) -/
def Instr.wf (i : Instr) : Bool :=
  match i with
  | .voteCycleStart _ => true
  | .inputClose => true
  | .inputSetReceived _ _ _ _ _ => true
  | .inputAgreement => true
  | .serviceTaskEnd _ task _ => decide (1 ≤ task ∧ task ≤ 9)
  | .computeDeadline => true
  | .outputSetReceived _ _ _ _ _ => true
  | .outputCompare _ => true
  | .apply => true
  | .stateCopy => true
  | .stateVectorReceived _ => true
  | .stateCopyDeadline => true
  | .lockstepFault _ _ => true
  | .slipLinkIsolate _ => true
  | .slipLinkReturn _ => true
  | .shadowPromote _ => true
  | .rampComplete _ => true
  | .overloadBudgetExhausted _ _ => true
  | .parkLockComplete _ _ => true
  | .laneRestart _ _ => true
  | .reintRelease _ _ tid data => wfTid tid && wfData data
  | .ageLimitReached _ _ => true
  | .stopHoldExpiry _ => true
  | .slipHoldExpiry _ _ => true
  | .stopRelease _ _ tid data => wfTid tid && wfData data
  | .contactWrite _ _ tid _ data => wfTid tid && wfData data
  | .pwmPeriodBoundary _ _ _ frac _ => decide (0 ≤ frac ∧ frac < 1)
  | .periodCompute _ _ _ => true
  | .computeOverrunIsolate _ _ => true
  | .shuntSaturation _ _ => true
  | .currentTrackingFault _ _ => true
  | .fieldWeakeningExhausted _ _ => true
  | .oscMeasure _ _ => true
  | .bridgeModeRequest _ _ _ _ => true
  | .resolverPair _ _ _ _ => true
  | .resolverAmplitudeFault _ _ => true
  | .excitationFault _ _ _ => true
  | .trackingFault _ _ => true
  | .bissFrame _ _ pos _ _ crc _ => decide (pos.length + crc.length ≤ 126)
  | .bissFrameTimeout _ _ => true
  | .bissFrameFault _ _ => true
  | .hfiBiasPhase _ _ => true
  | .hfiCheckEnd _ _ _ => true
  | .observerImplausible _ _ => true
  | .rotorLost _ _ => true
  | .settleExpiry _ _ => true
  | .rotorAcquired _ _ => true
  | .reacquireTimeout _ _ => true
  | .revCountWrite _ _ tid _ data => wfTid tid && wfData data
  | .gateRailFault _ _ => true
  | .switchNodeCrossing _ _ _ _ => true
  | .driveStrengthLimit _ _ _ _ => true
  | .switchNodeSenseLost _ _ _ => true
  | .gateReadbackMismatch _ _ _ => true
  | .bootstrapRefresh _ _ _ => true
  | .bootstrapUvlo _ _ _ => true
  | .desaturationDetect _ _ _ => true
  | .hardOvercurrent _ _ => true
  | .softTurnoffEnd _ _ => true
  | .faultWaitEnd _ _ => true
  | .tryRelease _ _ => true
  | .tryTimeout _ _ => true
  | .gdClear _ _ tid _ data _ => wfTid tid && wfData data
  | .selftest _ _ tid _ data => wfTid tid && wfData data
  | .selftestComplete _ _ _ => true
  | .vdcSample _ _ => true
  | .linkSenseDisagree _ => true
  | .chopperCurrentCheck _ _ => true
  | .chopperFault _ => true
  | .chopperEnergyUpdate _ => true
  | .chopTest _ _ tid data => wfTid tid && wfData data
  | .chopperTestComplete _ _ => true
  | .ov3Timeout _ => true
  | .hwOvTrip _ => true
  | .hwOvRelease _ => true
  | .linkUndervoltage _ => true
  | .linkUvRecover _ => true
  | .starFrameArrival _ _ port _ => decide (port < 7)
  | .guardianTruncate _ _ => true
  | .guardianHoldoverEnd _ => true
  | .tsuvasFrameReceived _ _ f => f.wf
  | .slotLaunch _ _ slot service => decide (slot < if service then 64 else 256)
  | .slotEnd _ _ slot => decide (slot < 256)
  | .networkCycleEnd _ => true
  | .listenTimeout _ => true
  | .coldstartCollision _ => true
  | .backoffExpiry _ => true
  | .coldstartCycleEnd _ => true
  | .syncLoss _ => true
  | .peerTimeRead _ _ _ _ => true
  | .timeMismatchRetry _ => true
  | .channelLost _ _ => true
  | .channelRestored _ _ => true
  | .networkLost _ => true
  | .networkRestored _ => true
  | .portLinkChange _ _ port _ => decide (port < 6)
  | .portBlockedPersist _ _ port => decide (port < 7)
  | .cyclePointRaise _ _ _ => true
  | .slewEnd _ => true
  | .gptpSync _ _ => true
  | .gptpSyncTimeout _ => true
  | .gptpAnnounce _ _ => true
  | .stepAccept _ _ tid data => wfTid tid && wfData data
  | .tsqPop _ _ tid _ data => wfTid tid && wfData data
  | .taSubmit _ _ tid data _ => wfTid tid && wfData data
  | .taCancel _ _ tid data => wfTid tid && wfData data
  | .timedActionDue _ slot _ => decide (slot < 96)
  | .sleepRecordInvalidate _ => true
  | .uplinkFrameReceived _ _ f => UplinkIn.wf f
  | .supervisoryRead _ tid idx sub ofs len _ => wfTid tid && wfIdx idx && wfSub sub && wfWord ofs && wfLen len
  | .uplinkLinkChange _ _ => true
  | .contractWindow _ n => decide (n < 64)
  | .ctSubmit _ _ tid data => wfTid tid && wfData data
  | .ctWithdraw _ _ tid data => wfTid tid && wfData data
  | .transferRead _ _ tid idx sub ofs len => wfTid tid && wfIdx idx && wfSub sub && wfWord ofs && wfLen len
  | .transferWriteSegment _ _ tid idx sub ofs total data => wfTid tid && wfIdx idx && wfSub sub && wfWord ofs && wfWord total && wfData data
  | .transferAbort _ _ tid => wfTid tid
  | .snapshotLapse _ _ tid => wfTid tid
  | .segmentTimeout _ _ tid => wfTid tid
  | .objectWrite _ _ tid idx sub ofs total _ data _ => wfTid tid && wfIdx idx && wfSub sub && wfWord ofs && wfWord total && wfData data
  | .commitPrepareReceived _ _ _ => true
  | .peerRead _ _ tid idx sub ofs len => wfTid tid && wfIdx idx && wfSub sub && wfWord ofs && wfLen len
  | .sidebandValueDownload _ idx sub data => wfIdx idx && wfSub sub && wfData data
  | .sbChallenge _ => true
  | .sbResponse _ data => wfData data
  | .sbTag _ data _ => wfData data
  | .sbClose _ _ tid data => wfTid tid && wfData data
  | .sessionTimeout _ => true
  | .canBusOff _ => true
  | .monitorRest _ => true
  | .resultRead _ _ tid _ _ => wfTid tid
  | .programStage _ _ tid _ total data => wfTid tid && wfWord total && wfWord data.length
  | .programInstall _ _ tid _ => wfTid tid
  | .programInstallComplete _ _ => true
  | .programDiscard _ _ tid _ => wfTid tid
  | .setStore _ _ tid data => wfTid tid && wfData data
  | .faultSeenClear _ _ tid data => wfTid tid && wfData data
  | .pwrReqRun _ _ tid => wfTid tid
  | .pwrReqHold _ _ tid => wfTid tid
  | .pwrReqStandby _ _ tid => wfTid tid
  | .pwrReqOff _ _ tid => wfTid tid
  | .autoRunRequest _ => true
  | .exitRampEnd _ => true
  | .exitPassiveEnd => true
  | .moduleFormation => true
  | .wakeEvent _ _ => true
  | .vinPowerOn _ => true
  | .nrstAssert _ => true
  | .nrstRelease _ => true
  | .restoreStepEnd _ r => StepReport.wf r
  | .entryPhaseEnd _ r => PhaseReport.wf r
  | .wedgeGroupEnd _ cells => wfCells cells
  | .safetySample _ _ _ => true
  | .discrepancyFault _ _ => true
  | .safetyReset _ => true
  | .srstStuck _ => true
  | .sealOpen _ => true
  | .sealDisagree _ => true
  | .testPulse _ _ _ => true
  | .testPulseCheck _ _ _ _ _ => true
  | .ds2Password _ _ tid total data => wfTid tid && wfWord total && wfData data
  | .ds2Value _ _ tid data _ => wfTid tid && wfData data
  | .ds2Store _ _ tid data => wfTid tid && wfData data
  | .ds2Lock _ _ tid data => wfTid tid && wfData data
  | .ds2BlockExpiry _ => true
  | .ds2UnlockTimeout _ _ => true
  | .keyprov _ head wrapped _ => decide (head.length = 4 ∧ wrapped.length = 76)
  | .jtagIdcode _ => true
  | .jtagBypass _ => true
  | .keyRevoke _ _ tid data => wfTid tid && wfData data
  | .dbgChallenge _ _ tid => wfTid tid
  | .dbgResponse _ _ tid r s => wfTid tid && wfData (r ++ s)
  | .dbgBlockExpiry _ => true
  | .clockCheck _ _ => true
  | .pllUnlock _ _ => true
  | .hkRound _ _ r => HkRound.wf r
  | .sensorBroken _ _ => true
  | .referenceCheckFault _ => true
  | .cutSensorImplausible _ _ => true
  | .d2dFrame _ _ _ _ => true
  | .d2dLinkFailed _ => true
  | .thermalCut _ _ => true
  | .coneLatchTrip _ _ => true
  | .coolingDone _ => true
  | .vinUndervoltage _ => true
  | .vinOvervoltage _ => true
  | .aonReset _ => true
  | .faultEvent _ _ _ _ _ _ => true
  | .logCommit _ _ => true
  | .kilnSecond _ _ => true
  | .kilnCommit _ _ => true
  | .scrubPass _ cells => wfCells cells
  | .sramDoubleBitError _ _ cell _ => decide (cell.1 < 48) && decide (cell.2 < 32768)
  | .memTest _ _ tid data => wfTid tid && wfData data
  | .memTestDemand _ => true
  | .compareSelfCheck _ _ => true
  | .lptStart _ _ tid data => wfTid tid && wfData data
  | .lptStop _ _ tid data _ => wfTid tid && wfData data
  | .lptInject _ _ tid data _ => wfTid tid && wfData data
  | .lptDurationEnd _ _ => true
  | .vinBelowPowerOn _ _ _ => true
  | .syncTransmission _ => true
  | .marchElementEnd _ => true

end Sys2Proof
end

