-- ==== Sys2Proof/Machine/Objects.lean ====
section
/-! DEFINITION. Sparse stores, number formats (11_dictionary_access.md Table 11.1), CRC-32 (R406) and
the object table of a lane (R341, R373), with the range of every object. -/

namespace Sys2Proof.Machine

/-- The value at a key, the default where the store lists none. -/
def storeGet (s : Store) (k d : Nat) : Nat :=
  match s with
  | [] => d
  | (k', v) :: t => if k' = k then v else storeGet t k d

/-- The store without a key. -/
def storeErase (s : Store) (k : Nat) : Store := s.filter fun p => p.1 != k

/-- The store with a value placed at its key, keys rising. -/
def storeIns (s : Store) (k v : Nat) : Store :=
  match s with
  | [] => [(k, v)]
  | (k', v') :: t =>
    if k < k' then (k, v) :: (k', v') :: t
    else if k = k' then (k, v) :: t
    else (k', v') :: storeIns t k v

/-- A write: a value equal to the default `d` is not listed. -/
def storePut (s : Store) (k v d : Nat) : Store :=
  if v = d then storeErase s k else storeIns s k v

/-- One saturating 32-bit count at a key. -/
def storeBump (s : Store) (k n : Nat) : Store :=
  storePut s k (min (storeGet s k 0 + n) 0xFFFFFFFF) 0

/-- Bytes of a number, least significant first. -/
def toBytes : Nat → Nat → List Byte
  | 0, _ => []
  | n + 1, v => BitVec.ofNat 8 v :: toBytes n (v / 256)

/-- The number little-endian bytes give (00_scope.md R7). -/
def ofBytes : List Byte → Nat
  | [] => 0
  | b :: t => b.toNat + 256 * ofBytes t

/-- Two's complement reading of `w` bits. -/
def toSigned (w v : Nat) : Int := if v < 2 ^ (w - 1) then v else (v : Int) - 2 ^ w

/-- The number whose two's complement in `w` bits is kept. -/
def ofSigned (w : Nat) (i : Int) : Nat := (i % (2 ^ w : Int)).toNat

/-- The number a REAL32 bit pattern stands for, IEEE 754 binary32 (Table 11.1). -/
def r32 (raw : Nat) : Rat :=
  let m : Nat := raw % 2 ^ 23
  let e : Nat := raw / 2 ^ 23 % 256
  let a : Rat :=
    if e = 0 then (m : Rat) / (2 ^ 149 : Nat)
    else if 150 ≤ e then (((m + 2 ^ 23) * 2 ^ (e - 150) : Nat) : Rat)
    else ((m + 2 ^ 23 : Nat) : Rat) / (2 ^ (150 - e) : Nat)
  if raw / 2 ^ 31 % 2 = 1 then -a else a

/-- A REAL32 that is neither a NaN nor an infinity (R343). -/
def finite32 (raw : Nat) : Bool := raw / 2 ^ 23 % 256 != 255

/-- A field of a word: `n` bits from bit `lo`. -/
def bits (v lo n : Nat) : Nat := v / 2 ^ lo % 2 ^ n

/-- One bit of a word. -/
def bit (v n : Nat) : Bool := v / 2 ^ n % 2 == 1

/-- A bit as a number. -/
def b2n (b : Bool) : Nat := if b then 1 else 0

/-- One step of the reflected CRC-32 of R406. -/
def crcBit : Nat → Nat → Nat
  | 0, c => c
  | n + 1, c => crcBit n (if c % 2 = 1 then Nat.xor (c / 2) 0xEDB88320 else c / 2)

/-- The CRC register after the given bytes. -/
def crcGo (c : Nat) : List Byte → Nat
  | [] => c
  | b :: t => crcGo (crcBit 8 (Nat.xor c b.toNat)) t

/-- CRC-32 of R406: polynomial 0x04C11DB7, reflected, initial value and final XOR all ones. -/
def crc32 (l : List Byte) : Nat := Nat.xor (crcGo 0xFFFFFFFF l) 0xFFFFFFFF

/-- Data types (Table 11.1). -/
inductive ObjType where
  | u8 | u16 | u32 | u64 | i16 | i32 | i64 | f32
  | str (n : Nat) | oct (n : Nat) | domain | time80 | curve33
  deriving DecidableEq, Repr

/-- Size of a type in bytes; a DOMAIN has none. -/
def ObjType.size : ObjType → Option Nat
  | .u8 => some 1 | .u16 => some 2 | .u32 => some 4 | .u64 => some 8
  | .i16 => some 2 | .i32 => some 4 | .i64 => some 8 | .f32 => some 4
  | .str n => some n | .oct n => some n | .domain => none | .time80 => some 10
  | .curve33 => some 264

/-- Access codes (00_scope.md Table 0.3). -/
inductive Acc where
  | ro | rw | rws | rwp | wo | w1c
  deriving DecidableEq, Repr

/-- Persistence values (Table 0.4). -/
inductive Kept where
  | no | yes | cfg
  deriving DecidableEq, Repr

/-- Ranges of objects. -/
inductive Rng where
  /-- Every value of the type. -/
  | any
  /-- Listed intervals in ascending order. -/
  | ordered (l : List (Nat × Nat))
  /-- From, to, in steps. -/
  | stepped (lo hi st : Nat)
  /-- From, to, a divisor of a number. -/
  | divisorOf (lo hi n : Nat)
  /-- A REAL32 from, to. -/
  | real (lo hi : Rat)
  /-- A field map: the masked bits must be 0. -/
  | mask (z : Nat)
  /-- A CURVE33 of finite values (R343). -/
  | curve
  /-- SI_MODE. -/
  | siMode
  /-- An input descriptor (02_vote_cycle_and_fault_tolerance.md Table 2.4, R53). -/
  | desc
  /-- An input placement (Table 2.16). -/
  | place
  /-- A cycle-point descriptor CP5-CP7 (08_tsuvas_network.md Table 8.16). -/
  | cyclePoint
  /-- LPT_CTRL (17_diagnostics_and_kiln_log.md Table 17.8). -/
  | lptCtrl
  /-- DS2_TARGET (13_safety_inputs_and_seal.md R410). -/
  | ds2Target
  deriving DecidableEq, Repr

/-- One row of the object tables: first and last index, first and last subindex, type, access code,
default as little-endian bytes, range, persistence. -/
structure ObjRow where
  /-- First index. -/
  lo : Nat
  /-- Last index. -/
  hi : Nat
  /-- First subindex. -/
  slo : Nat
  /-- Last subindex. -/
  shi : Nat
  /-- Type. -/
  ty : ObjType
  /-- Access code. -/
  acc : Acc
  /-- Default. -/
  dflt : Nat
  /-- Range. -/
  rng : Rng
  /-- Persistence. -/
  kept : Kept
  deriving DecidableEq, Repr

/-- Object rows, part 0: from 0x1000 to 0x2101, as the object tables of the
owning chapters (R373) give them. -/
def objRows0 : List ObjRow :=
  [ ⟨0x1000, 0x1000, 0, 0, .u32, .ro, 0x30000, .any, .yes⟩,
    ⟨0x1001, 0x1001, 0, 0, .u8, .ro, 0, .any, .no⟩,
    ⟨0x1008, 0x1008, 0, 0, .str 16, .ro, 0x335444204c41545345524144, .any, .yes⟩,
    ⟨0x1009, 0x1009, 0, 0, .str 8, .ro, 0, .any, .yes⟩,
    ⟨0x100a, 0x100a, 0, 0, .str 16, .ro, 0, .any, .no⟩,
    ⟨0x1018, 0x1018, 1, 1, .u32, .ro, 3674, .any, .yes⟩,
    ⟨0x1018, 0x1018, 2, 2, .u32, .ro, 0xd73081, .any, .yes⟩,
    ⟨0x1018, 0x1018, 3, 3, .u32, .ro, 0, .any, .no⟩,
    ⟨0x1018, 0x1018, 4, 4, .u32, .ro, 0, .any, .yes⟩,
    ⟨0x1f50, 0x1f50, 1, 1, .domain, .wo, 0, .any, .yes⟩,
    ⟨0x1f50, 0x1f50, 2, 5, .domain, .wo, 0, .any, .yes⟩,
    ⟨0x1f51, 0x1f51, 1, 5, .u8, .rw, 0, .ordered [(1, 1), (3, 3)], .no⟩,
    ⟨0x1f56, 0x1f56, 1, 5, .u32, .ro, 0, .any, .yes⟩,
    ⟨0x1f5a, 0x1f5a, 16, 18, .u32, .ro, 0, .any, .no⟩,
    ⟨0x2000, 0x2000, 1, 1, .str 16, .ro, 0x3138363142462d38302d335444, .any, .yes⟩,
    ⟨0x2000, 0x2000, 2, 2, .u8, .ro, 0, .any, .yes⟩,
    ⟨0x2000, 0x2000, 3, 3, .oct 8, .ro, 0, .any, .yes⟩,
    ⟨0x2000, 0x2000, 4, 4, .oct 6, .ro, 0, .any, .yes⟩,
    ⟨0x2000, 0x2000, 5, 5, .u16, .ro, 0, .any, .yes⟩,
    ⟨0x2000, 0x2000, 6, 6, .u32, .ro, 0, .any, .no⟩,
    ⟨0x2001, 0x2001, 1, 1, .u32, .ro, 0, .any, .no⟩,
    ⟨0x2001, 0x2001, 2, 2, .u16, .ro, 0, .any, .no⟩,
    ⟨0x2001, 0x2001, 3, 3, .u16, .w1c, 0, .any, .no⟩,
    ⟨0x2001, 0x2001, 4, 4, .u16, .ro, 0, .any, .no⟩,
    ⟨0x2001, 0x2001, 5, 5, .time80, .ro, 0, .any, .no⟩,
    ⟨0x2001, 0x2001, 6, 6, .u32, .ro, 0, .any, .no⟩,
    ⟨0x2010, 0x2010, 1, 1, .u32, .ro, 0, .any, .no⟩,
    ⟨0x2010, 0x2010, 2, 2, .u32, .ro, 0, .any, .no⟩,
    ⟨0x2010, 0x2010, 3, 3, .u32, .ro, 0, .any, .no⟩,
    ⟨0x2010, 0x2010, 4, 4, .u32, .ro, 0, .any, .no⟩,
    ⟨0x2011, 0x2011, 1, 1, .u8, .rws, 16, .ordered [(1, 127)], .cfg⟩,
    ⟨0x2011, 0x2011, 2, 2, .u8, .rws, 2, .ordered [(0, 3)], .cfg⟩,
    ⟨0x2011, 0x2011, 3, 3, .u8, .rws, 1, .ordered [(0, 3)], .cfg⟩,
    ⟨0x2100, 0x2100, 1, 1, .u8, .ro, 0, .any, .no⟩,
    ⟨0x2100, 0x2100, 2, 2, .u8, .wo, 0, .ordered [(1, 4)], .no⟩,
    ⟨0x2100, 0x2100, 3, 3, .u8, .rws, 0, .ordered [(0, 1)], .cfg⟩,
    ⟨0x2100, 0x2100, 4, 4, .u16, .ro, 0, .any, .no⟩,
    ⟨0x2100, 0x2100, 5, 5, .u32, .ro, 0, .any, .no⟩,
    ⟨0x2101, 0x2101, 1, 1, .u8, .rws, 7, .mask 0xF8, .cfg⟩,
    ⟨0x2101, 0x2101, 2, 2, .u8, .rws, 0, .ordered [(0, 1)], .cfg⟩ ]

/-- Object rows, part 1: from 0x2101 to 0x2302, as the object tables of the
owning chapters (R373) give them. -/
def objRows1 : List ObjRow :=
  [ ⟨0x2101, 0x2101, 3, 3, .u8, .ro, 0, .any, .no⟩,
    ⟨0x2200, 0x2200, 1, 1, .f32, .ro, 0, .any, .no⟩,
    ⟨0x2200, 0x2200, 2, 2, .u8, .rws, 254, .ordered [(0, 15), (0xFE, 0xFF)], .cfg⟩,
    ⟨0x2200, 0x2200, 3, 3, .f32, .rws, 0, .real (-100) (100), .cfg⟩,
    ⟨0x2200, 0x2200, 4, 4, .f32, .rws, 0x3f800000, .real (0) (10), .cfg⟩,
    ⟨0x2200, 0x2200, 5, 5, .u32, .ro, 0, .any, .no⟩,
    ⟨0x2200, 0x2200, 6, 6, .f32, .ro, 0, .any, .no⟩,
    ⟨0x2200, 0x2200, 7, 7, .f32, .ro, 0, .any, .no⟩,
    ⟨0x2200, 0x2200, 8, 8, .u32, .ro, 0, .any, .no⟩,
    ⟨0x2200, 0x2200, 16, 32, .f32, .rws, 0, .real (-200) (200), .cfg⟩,
    ⟨0x2201, 0x2201, 1, 10, .f32, .ro, 0, .any, .no⟩,
    ⟨0x2201, 0x2201, 11, 11, .u16, .ro, 0, .any, .no⟩,
    ⟨0x2201, 0x2201, 12, 12, .f32, .ro, 0, .any, .no⟩,
    ⟨0x2201, 0x2201, 13, 13, .f32, .ro, 0, .any, .no⟩,
    ⟨0x2201, 0x2201, 14, 14, .f32, .ro, 0, .any, .no⟩,
    ⟨0x2201, 0x2201, 15, 15, .f32, .ro, 0, .any, .no⟩,
    ⟨0x2202, 0x2202, 1, 64, .f32, .ro, 0, .any, .no⟩,
    ⟨0x2203, 0x2203, 1, 1, .u32, .ro, 0, .any, .no⟩,
    ⟨0x2203, 0x2203, 2, 2, .u8, .ro, 0, .any, .no⟩,
    ⟨0x2203, 0x2203, 3, 3, .u16, .ro, 0, .any, .no⟩,
    ⟨0x2300, 0x2300, 1, 1, .u32, .ro, 0, .any, .no⟩,
    ⟨0x2300, 0x2300, 2, 2, .time80, .ro, 0, .any, .no⟩,
    ⟨0x2300, 0x2300, 3, 3, .u64, .ro, 0, .any, .no⟩,
    ⟨0x2300, 0x2300, 4, 4, .u64, .ro, 0, .any, .no⟩,
    ⟨0x2300, 0x2300, 5, 5, .u64, .rw, 0x200000000, .ordered [(0x1C0000000, 0x240000000)], .yes⟩,
    ⟨0x2300, 0x2300, 6, 6, .u32, .rws, 2000, .ordered [(10, 0x186a0)], .cfg⟩,
    ⟨0x2300, 0x2300, 7, 7, .u16, .rws, 300, .ordered [(10, 2000)], .cfg⟩,
    ⟨0x2300, 0x2300, 8, 8, .time80, .ro, 0, .any, .no⟩,
    ⟨0x2300, 0x2300, 9, 9, .u32, .ro, 0, .any, .no⟩,
    ⟨0x2300, 0x2300, 10, 10, .time80, .ro, 0, .any, .yes⟩,
    ⟨0x2301, 0x2301, 1, 1, .u8, .rws, 0, .ordered [(0, 127)], .cfg⟩,
    ⟨0x2301, 0x2301, 2, 2, .u8, .rws, 0, .ordered [(0, 1)], .cfg⟩,
    ⟨0x2301, 0x2301, 3, 3, .u8, .rws, 248, .ordered [(0, 255)], .cfg⟩,
    ⟨0x2301, 0x2301, 4, 4, .u8, .rws, 248, .ordered [(0, 255)], .cfg⟩,
    ⟨0x2301, 0x2301, 5, 5, .u32, .rws, 1000, .ordered [(100, 0xf4240)], .cfg⟩,
    ⟨0x2301, 0x2301, 6, 6, .u8, .rws, 8, .ordered [(0, 255)], .cfg⟩,
    ⟨0x2301, 0x2301, 7, 7, .u8, .rws, 1, .ordered [(0, 1)], .cfg⟩,
    ⟨0x2302, 0x2302, 1, 1, .u16, .rw, 0, .any, .no⟩,
    ⟨0x2302, 0x2302, 2, 2, .i64, .ro, 0, .any, .no⟩,
    ⟨0x2302, 0x2302, 3, 3, .i32, .ro, 0, .any, .no⟩ ]

/-- Object rows, part 2: from 0x2302 to 0x2405, as the object tables of the
owning chapters (R373) give them. -/
def objRows2 : List ObjRow :=
  [ ⟨0x2302, 0x2302, 4, 4, .time80, .ro, 0, .any, .no⟩,
    ⟨0x2302, 0x2302, 5, 5, .u64, .ro, 0, .any, .no⟩,
    ⟨0x2302, 0x2302, 6, 6, .u64, .ro, 0, .any, .no⟩,
    ⟨0x2302, 0x2302, 7, 7, .i64, .ro, 0, .any, .no⟩,
    ⟨0x2302, 0x2302, 8, 8, .u8, .ro, 0, .any, .no⟩,
    ⟨0x2302, 0x2302, 9, 9, .u32, .ro, 0, .any, .no⟩,
    ⟨0x2302, 0x2302, 10, 10, .u32, .ro, 0, .any, .no⟩,
    ⟨0x2303, 0x2303, 1, 1, .u8, .wo, 0, .ordered [(1, 1)], .no⟩,
    ⟨0x2310, 0x2310, 1, 1, .oct 16, .wo, 0, .any, .no⟩,
    ⟨0x2310, 0x2310, 2, 2, .u16, .wo, 0, .any, .no⟩,
    ⟨0x2310, 0x2310, 3, 3, .u8, .ro, 0, .any, .no⟩,
    ⟨0x2310, 0x2310, 4, 4, .u32, .ro, 0, .any, .no⟩,
    ⟨0x2310, 0x2310, 5, 5, .u32, .ro, 0, .any, .no⟩,
    ⟨0x2310, 0x2310, 16, 18, .u32, .ro, 0, .any, .no⟩,
    ⟨0x2320, 0x2320, 1, 8, .u16, .rw, 0xffff, .ordered [(0, 63), (0x100, 0x107), (0x200, 0x207), (0x300, 0x300), (0xFFFF, 0xFFFF)], .no⟩,
    ⟨0x2320, 0x2320, 9, 9, .oct 74, .ro, 0, .any, .no⟩,
    ⟨0x2330, 0x2330, 1, 1, .oct 16, .ro, 0, .any, .no⟩,
    ⟨0x2330, 0x2330, 2, 2, .u16, .wo, 0, .any, .no⟩,
    ⟨0x2330, 0x2330, 3, 3, .u16, .rw, 0, .any, .no⟩,
    ⟨0x2330, 0x2330, 4, 4, .u32, .ro, 0, .any, .no⟩,
    ⟨0x2330, 0x2330, 5, 8, .u16, .rws, 0xffff, .ordered [(0, 255), (0xFFFF, 0xFFFF)], .cfg⟩,
    ⟨0x2400, 0x2400, 1, 8, .u8, .rws, 0, .siMode, .cfg⟩,
    ⟨0x2401, 0x2401, 1, 8, .u16, .rws, 100, .ordered [(10, 1000)], .cfg⟩,
    ⟨0x2402, 0x2402, 1, 1, .u16, .ro, 0, .any, .no⟩,
    ⟨0x2402, 0x2402, 2, 2, .u8, .ro, 0, .any, .no⟩,
    ⟨0x2402, 0x2402, 3, 3, .u16, .ro, 0, .any, .yes⟩,
    ⟨0x2402, 0x2402, 4, 4, .u8, .ro, 0, .any, .no⟩,
    ⟨0x2403, 0x2403, 1, 1, .u8, .ro, 0, .any, .no⟩,
    ⟨0x2403, 0x2403, 2, 2, .u8, .ro, 0, .any, .no⟩,
    ⟨0x2403, 0x2403, 3, 3, .u8, .ro, 0, .any, .no⟩,
    ⟨0x2404, 0x2404, 1, 4, .u32, .ro, 0, .any, .yes⟩,
    ⟨0x2404, 0x2404, 5, 5, .u8, .wo, 0, .ordered [(0, 3)], .no⟩,
    ⟨0x2405, 0x2405, 1, 1, .u8, .rws, 0, .ordered [(0, 1)], .cfg⟩,
    ⟨0x2405, 0x2405, 2, 2, .str 8, .wo, 0, .any, .no⟩,
    ⟨0x2405, 0x2405, 3, 3, .u32, .rwp, 0, .ds2Target, .no⟩,
    ⟨0x2405, 0x2405, 4, 4, .domain, .rwp, 0, .any, .no⟩,
    ⟨0x2405, 0x2405, 5, 5, .u8, .rwp, 255, .ordered [(0, 3)], .no⟩,
    ⟨0x2405, 0x2405, 6, 6, .oct 8, .rws, 0, .any, .cfg⟩,
    ⟨0x2405, 0x2405, 7, 7, .u16, .ro, 0, .any, .no⟩,
    ⟨0x2405, 0x2405, 8, 8, .u8, .wo, 0, .ordered [(1, 1)], .no⟩ ]

/-- Object rows, part 3: from 0x2406 to 0x2800, as the object tables of the
owning chapters (R373) give them. -/
def objRows3 : List ObjRow :=
  [ ⟨0x2406, 0x2406, 1, 64, .oct 32, .ro, 0, .any, .yes⟩,
    ⟨0x2500, 0x2500, 1, 1, .u32, .ro, 0, .any, .no⟩,
    ⟨0x2500, 0x2500, 2, 2, .u16, .ro, 0, .any, .yes⟩,
    ⟨0x2500, 0x2500, 3, 3, .u32, .ro, 0, .any, .yes⟩,
    ⟨0x2501, 0x2501, 1, 1, .oct 16, .ro, 0, .any, .no⟩,
    ⟨0x2501, 0x2501, 2, 2, .oct 64, .wo, 0, .any, .no⟩,
    ⟨0x2502, 0x2502, 1, 1, .u16, .wo, 0, .any, .no⟩,
    ⟨0x2502, 0x2502, 2, 2, .u16, .ro, 0, .any, .yes⟩,
    ⟨0x2510, 0x2510, 1, 1, .oct 8, .ro, 0, .any, .no⟩,
    ⟨0x2510, 0x2510, 2, 2, .oct 8, .wo, 0, .any, .no⟩,
    ⟨0x2510, 0x2510, 3, 3, .oct 8, .wo, 0, .any, .no⟩,
    ⟨0x2510, 0x2510, 4, 4, .u8, .wo, 0, .ordered [(1, 1)], .no⟩,
    ⟨0x2510, 0x2510, 5, 5, .u32, .ro, 0, .any, .no⟩,
    ⟨0x2600, 0x2600, 1, 1, .u8, .rws, 1, .ordered [(1, 2), (4, 4)], .cfg⟩,
    ⟨0x2600, 0x2600, 2, 2, .u16, .rws, 300, .ordered [(50, 0x7b3e)], .cfg⟩,
    ⟨0x2600, 0x2600, 3, 3, .u16, .rws, 650, .ordered [(210, 0x7bde)], .cfg⟩,
    ⟨0x2600, 0x2600, 4, 4, .u16, .rws, 700, .ordered [(260, 0x7c10)], .cfg⟩,
    ⟨0x2600, 0x2600, 5, 5, .u16, .rws, 750, .ordered [(310, 0x7c42)], .cfg⟩,
    ⟨0x2600, 0x2600, 6, 6, .u16, .rws, 800, .ordered [(320, 0x7c4c)], .cfg⟩,
    ⟨0x2600, 0x2600, 7, 7, .u8, .rws, 0, .ordered [(0, 2)], .cfg⟩,
    ⟨0x2600, 0x2600, 8, 8, .u16, .rws, 100, .ordered [(10, 0x2710)], .cfg⟩,
    ⟨0x2600, 0x2600, 9, 9, .u16, .rws, 50, .ordered [(10, 500)], .cfg⟩,
    ⟨0x2600, 0x2600, 10, 10, .u8, .rws, 3, .ordered [(1, 10)], .cfg⟩,
    ⟨0x2601, 0x2601, 1, 1, .u32, .ro, 0, .any, .no⟩,
    ⟨0x2601, 0x2601, 2, 2, .u16, .ro, 0, .any, .no⟩,
    ⟨0x2601, 0x2601, 3, 3, .u32, .ro, 0, .any, .no⟩,
    ⟨0x2601, 0x2601, 4, 4, .u32, .ro, 0, .any, .no⟩,
    ⟨0x2601, 0x2601, 16, 23, .u16, .ro, 0x7530, .any, .no⟩,
    ⟨0x2602, 0x2602, 1, 1, .u8, .wo, 0, .ordered [(1, 1)], .no⟩,
    ⟨0x2603, 0x2603, 1, 1, .u32, .ro, 0, .any, .yes⟩,
    ⟨0x2603, 0x2603, 2, 2, .u32, .ro, 0, .any, .no⟩,
    ⟨0x2620, 0x2620, 1, 8, .u32, .rws, 0x3000000, .desc, .cfg⟩,
    ⟨0x2620, 0x2620, 9, 15, .u32, .rws, 0, .desc, .cfg⟩,
    ⟨0x2620, 0x2620, 16, 23, .u32, .rws, 0x4a0000b6, .desc, .cfg⟩,
    ⟨0x2620, 0x2620, 24, 31, .u32, .rws, 0x4a00199a, .desc, .cfg⟩,
    ⟨0x2620, 0x2620, 32, 32, .u32, .rws, 0x4a0001f4, .desc, .cfg⟩,
    ⟨0x2620, 0x2620, 33, 38, .u32, .rws, 0x81000000, .desc, .cfg⟩,
    ⟨0x2620, 0x2620, 39, 254, .u32, .rws, 0, .desc, .cfg⟩,
    ⟨0x2621, 0x2621, 1, 254, .u32, .rws, 0xffffffff, .place, .cfg⟩,
    ⟨0x2800, 0x2800, 1, 1, .u8, .rws, 0, .ordered [(0, 3)], .cfg⟩ ]

/-- Object rows, part 4: from 0x2800 to 0x2802, as the object tables of the
owning chapters (R373) give them. -/
def objRows4 : List ObjRow :=
  [ ⟨0x2800, 0x2800, 2, 2, .u8, .rws, 0, .ordered [(0, 3)], .cfg⟩,
    ⟨0x2800, 0x2800, 3, 3, .u8, .rws, 255, .ordered [(0, 7), (255, 255)], .cfg⟩,
    ⟨0x2800, 0x2800, 4, 4, .u8, .rws, 255, .ordered [(0, 7), (255, 255)], .cfg⟩,
    ⟨0x2800, 0x2800, 5, 5, .u8, .rws, 255, .ordered [(0, 7), (255, 255)], .cfg⟩,
    ⟨0x2800, 0x2800, 6, 6, .u8, .rws, 0, .ordered [(0, 3)], .cfg⟩,
    ⟨0x2800, 0x2800, 7, 7, .u16, .rws, 500, .ordered [(50, 2000)], .cfg⟩,
    ⟨0x2800, 0x2800, 8, 8, .f32, .rws, 0x41a00000, .real (0) (150), .cfg⟩,
    ⟨0x2800, 0x2800, 16, 16, .f32, .rws, 0x41a00000, .real (0) (500), .cfg⟩,
    ⟨0x2800, 0x2800, 17, 17, .f32, .rws, 0x3d4ccccd, .real (0) (100), .cfg⟩,
    ⟨0x2800, 0x2800, 18, 18, .f32, .rws, 0x3f000000, .real (0) (10000), .cfg⟩,
    ⟨0x2800, 0x2800, 19, 19, .u8, .rws, 1, .ordered [(0, 1)], .cfg⟩,
    ⟨0x2800, 0x2800, 20, 20, .f32, .rws, 0, .real (0) (1000), .cfg⟩,
    ⟨0x2801, 0x2801, 1, 1, .u8, .rws, 4, .ordered [(1, 32)], .cfg⟩,
    ⟨0x2801, 0x2801, 2, 2, .f32, .rws, 0x3d4ccccd, .real (1/1000) (10), .cfg⟩,
    ⟨0x2801, 0x2801, 3, 3, .f32, .rws, 0x42c80000, .real (1) (100000), .cfg⟩,
    ⟨0x2801, 0x2801, 4, 4, .f32, .rws, 0x42c80000, .real (1) (100000), .cfg⟩,
    ⟨0x2801, 0x2801, 5, 5, .f32, .rws, 0x3ca3d70a, .real (1/10000) (1), .cfg⟩,
    ⟨0x2801, 0x2801, 6, 6, .f32, .rws, 0x3df5c28f, .real (1/1000) (100), .cfg⟩,
    ⟨0x2801, 0x2801, 7, 7, .f32, .rws, 0x42480000, .real (1) (400), .cfg⟩,
    ⟨0x2801, 0x2801, 8, 8, .f32, .rws, 0, .real (0) (400), .cfg⟩,
    ⟨0x2801, 0x2801, 9, 9, .f32, .rws, 0x459c4000, .real (0) (1000000), .cfg⟩,
    ⟨0x2801, 0x2801, 10, 10, .f32, .rws, 0x447a0000, .real (50) (5000), .cfg⟩,
    ⟨0x2801, 0x2801, 11, 11, .u32, .rws, 0x4e20, .ordered [(8000, 0xc350)], .cfg⟩,
    ⟨0x2801, 0x2801, 12, 12, .u16, .rws, 0xffff, .ordered [(0, 359), (0xffff, 0xffff)], .cfg⟩,
    ⟨0x2801, 0x2801, 13, 13, .u16, .rws, 0, .ordered [(0, 359)], .cfg⟩,
    ⟨0x2801, 0x2801, 14, 14, .f32, .rws, 0x43480000, .real (0) (5000), .cfg⟩,
    ⟨0x2802, 0x2802, 1, 1, .u8, .rws, 0, .ordered [(0, 1)], .cfg⟩,
    ⟨0x2802, 0x2802, 2, 2, .u8, .rws, 1, .ordered [(1, 16)], .cfg⟩,
    ⟨0x2802, 0x2802, 3, 3, .u8, .rws, 18, .ordered [(12, 24)], .cfg⟩,
    ⟨0x2802, 0x2802, 4, 4, .u8, .rws, 0, .ordered [(0, 16)], .cfg⟩,
    ⟨0x2802, 0x2802, 5, 5, .u8, .rws, 5, .ordered [(1, 10)], .cfg⟩,
    ⟨0x2802, 0x2802, 6, 6, .f32, .rws, 0x43480000, .real (20) (2000), .cfg⟩,
    ⟨0x2802, 0x2802, 7, 7, .f32, .rws, 0x3e99999a, .real (1/20) (1), .cfg⟩,
    ⟨0x2802, 0x2802, 8, 8, .f32, .rws, 0x43480000, .real (20) (10000), .cfg⟩,
    ⟨0x2802, 0x2802, 9, 9, .f32, .rws, 0x43160000, .real (10) (10000), .cfg⟩,
    ⟨0x2802, 0x2802, 10, 10, .f32, .rws, 0x41a00000, .real (2) (90), .cfg⟩,
    ⟨0x2802, 0x2802, 11, 11, .u8, .rws, 1, .ordered [(0, 1)], .cfg⟩,
    ⟨0x2802, 0x2802, 12, 12, .f32, .rws, 0x40000000, .real (1/2) (10), .cfg⟩,
    ⟨0x2802, 0x2802, 13, 13, .f32, .rws, 0x41a00000, .real (0) (200), .cfg⟩,
    ⟨0x2802, 0x2802, 14, 14, .f32, .rws, 0x41f00000, .real (0) (500), .cfg⟩ ]

/-- Object rows, part 5: from 0x2802 to 0x3002, as the object tables of the
owning chapters (R373) give them. -/
def objRows5 : List ObjRow :=
  [ ⟨0x2802, 0x2802, 15, 15, .f32, .rws, 0x41700000, .real (2) (60), .cfg⟩,
    ⟨0x2802, 0x2802, 16, 16, .f32, .rws, 0x40a00000, .real (1) (30), .cfg⟩,
    ⟨0x3000, 0x3000, 1, 1, .f32, .rws, 0x43fa0000, .real (50) (10000), .cfg⟩,
    ⟨0x3000, 0x3000, 2, 2, .u8, .rws, 1, .ordered [(0, 3)], .cfg⟩,
    ⟨0x3000, 0x3000, 3, 3, .f32, .rws, 0x40000000, .real (1/10) (20), .cfg⟩,
    ⟨0x3000, 0x3000, 4, 4, .u32, .ro, 0, .any, .no⟩,
    ⟨0x3000, 0x3000, 5, 5, .f32, .ro, 0, .any, .no⟩,
    ⟨0x3000, 0x3000, 6, 6, .f32, .ro, 0, .any, .no⟩,
    ⟨0x3000, 0x3000, 7, 7, .f32, .ro, 0, .any, .no⟩,
    ⟨0x3000, 0x3000, 8, 8, .f32, .ro, 0, .any, .no⟩,
    ⟨0x3000, 0x3000, 9, 9, .f32, .ro, 0, .any, .no⟩,
    ⟨0x3000, 0x3000, 10, 10, .i32, .ro, 0, .any, .no⟩,
    ⟨0x3000, 0x3000, 11, 11, .u32, .ro, 0, .any, .no⟩,
    ⟨0x3001, 0x3001, 1, 1, .u8, .rws, 10, .ordered [(5, 20)], .cfg⟩,
    ⟨0x3001, 0x3001, 2, 2, .f32, .rws, 0x40800000, .real (1) (7), .cfg⟩,
    ⟨0x3001, 0x3001, 3, 3, .f32, .rws, 0x3f000000, .real (1/10) (1), .cfg⟩,
    ⟨0x3001, 0x3001, 4, 4, .f32, .rws, 0, .real (-90) (90), .cfg⟩,
    ⟨0x3001, 0x3001, 5, 5, .f32, .rws, 0x447a0000, .real (250) (2000), .cfg⟩,
    ⟨0x3001, 0x3001, 6, 6, .f32, .rws, 0, .real (0) (360), .cfg⟩,
    ⟨0x3001, 0x3001, 7, 7, .f32, .rws, 0, .real (0) (360), .cfg⟩,
    ⟨0x3001, 0x3001, 8, 8, .i32, .rw, 0, .any, .yes⟩,
    ⟨0x3001, 0x3001, 9, 9, .u32, .ro, 0, .any, .no⟩,
    ⟨0x3001, 0x3001, 10, 10, .f32, .ro, 0, .any, .no⟩,
    ⟨0x3001, 0x3001, 11, 11, .f32, .ro, 0, .any, .no⟩,
    ⟨0x3001, 0x3001, 12, 12, .f32, .ro, 0, .any, .no⟩,
    ⟨0x3001, 0x3001, 13, 13, .f32, .ro, 0, .any, .no⟩,
    ⟨0x3001, 0x3001, 14, 14, .f32, .ro, 0, .any, .no⟩,
    ⟨0x3001, 0x3001, 15, 15, .u32, .ro, 0, .any, .no⟩,
    ⟨0x3002, 0x3002, 1, 1, .u16, .rws, 200, .stepped 50 1000 10, .cfg⟩,
    ⟨0x3002, 0x3002, 2, 2, .u8, .rws, 60, .ordered [(20, 200)], .cfg⟩,
    ⟨0x3002, 0x3002, 3, 3, .u8, .rws, 0, .ordered [(0, 15)], .cfg⟩,
    ⟨0x3002, 0x3002, 4, 4, .u8, .rws, 15, .ordered [(0, 15)], .cfg⟩,
    ⟨0x3002, 0x3002, 5, 5, .u8, .rws, 0, .ordered [(0, 15)], .cfg⟩,
    ⟨0x3002, 0x3002, 6, 6, .u8, .rws, 15, .ordered [(0, 15)], .cfg⟩,
    ⟨0x3002, 0x3002, 7, 7, .u8, .rws, 8, .ordered [(0, 15)], .cfg⟩,
    ⟨0x3002, 0x3002, 8, 8, .u8, .rws, 8, .ordered [(0, 15)], .cfg⟩,
    ⟨0x3002, 0x3002, 9, 9, .u16, .rws, 1000, .stepped 200 2000 10, .cfg⟩,
    ⟨0x3002, 0x3002, 10, 10, .u8, .rws, 20, .ordered [(5, 40)], .cfg⟩,
    ⟨0x3002, 0x3002, 11, 11, .f32, .rws, 0x43480000, .real (10) (1000), .cfg⟩,
    ⟨0x3002, 0x3002, 12, 12, .u16, .rws, 500, .ordered [(100, 5000)], .cfg⟩ ]

/-- Object rows, part 6: from 0x3002 to 0x4005, as the object tables of the
owning chapters (R373) give them. -/
def objRows6 : List ObjRow :=
  [ ⟨0x3002, 0x3002, 13, 13, .u32, .ro, 0, .any, .no⟩,
    ⟨0x3002, 0x3002, 14, 14, .u32, .ro, 0, .any, .no⟩,
    ⟨0x3002, 0x3002, 15, 15, .u32, .ro, 0, .any, .no⟩,
    ⟨0x3002, 0x3002, 16, 21, .f32, .ro, 0, .any, .no⟩,
    ⟨0x3003, 0x3003, 1, 1, .u8, .wo, 0, .ordered [(1, 1)], .no⟩,
    ⟨0x3003, 0x3003, 2, 2, .u8, .wo, 0, .ordered [(1, 1)], .no⟩,
    ⟨0x3003, 0x3003, 4, 4, .u8, .ro, 0, .any, .yes⟩,
    ⟨0x3003, 0x3003, 16, 18, .u32, .ro, 0, .any, .no⟩,
    ⟨0x3800, 0x3800, 1, 1, .f32, .rws, 0x42580000, .real (10) (75), .cfg⟩,
    ⟨0x3800, 0x3800, 2, 2, .f32, .rws, 0x3fc00000, .real (1/5) (10), .cfg⟩,
    ⟨0x3800, 0x3800, 3, 3, .f32, .rws, 0x42600000, .real (10) (75), .cfg⟩,
    ⟨0x3800, 0x3800, 4, 4, .f32, .rws, 0x42680000, .real (10) (75), .cfg⟩,
    ⟨0x3800, 0x3800, 5, 5, .f32, .rws, 0x42780000, .real (20) (75), .cfg⟩,
    ⟨0x3800, 0x3800, 6, 6, .f32, .rws, 0x3f800000, .real (1/5) (5), .cfg⟩,
    ⟨0x3800, 0x3800, 7, 7, .u16, .rws, 100, .ordered [(10, 1000)], .cfg⟩,
    ⟨0x3800, 0x3800, 8, 8, .f32, .rws, 0x42100000, .real (6) (60), .cfg⟩,
    ⟨0x3800, 0x3800, 9, 9, .f32, .rws, 0x41c00000, .real (6) (60), .cfg⟩,
    ⟨0x3800, 0x3800, 10, 10, .f32, .rws, 0x40000000, .real (1/2) (10), .cfg⟩,
    ⟨0x3800, 0x3800, 11, 11, .u8, .rws, 1, .ordered [(0, 1)], .cfg⟩,
    ⟨0x3800, 0x3800, 12, 12, .f32, .rws, 0x3f99999a, .real (1/10) (100), .cfg⟩,
    ⟨0x3800, 0x3800, 13, 13, .f32, .rws, 0x447a0000, .real (100) (10000), .cfg⟩,
    ⟨0x3800, 0x3800, 14, 14, .f32, .rws, 0x44c80000, .real (0) (20000), .cfg⟩,
    ⟨0x3800, 0x3800, 15, 15, .f32, .rws, 0x459c4000, .real (0) (100000), .cfg⟩,
    ⟨0x3801, 0x3801, 1, 1, .u32, .ro, 0, .any, .no⟩,
    ⟨0x3801, 0x3801, 2, 2, .f32, .ro, 0, .any, .no⟩,
    ⟨0x3801, 0x3801, 3, 3, .f32, .ro, 0, .any, .no⟩,
    ⟨0x3801, 0x3801, 4, 4, .f32, .ro, 0, .any, .no⟩,
    ⟨0x3801, 0x3801, 5, 5, .u32, .ro, 0, .any, .yes⟩,
    ⟨0x3802, 0x3802, 1, 1, .u8, .wo, 0, .ordered [(1, 1)], .no⟩,
    ⟨0x4000, 0x4000, 1, 1, .u8, .rws, 0, .ordered [(0, 2)], .cfg⟩,
    ⟨0x4000, 0x4000, 2, 2, .u8, .rws, 0, .ordered [(0, 7)], .cfg⟩,
    ⟨0x4000, 0x4000, 3, 3, .f32, .rws, 0x3ca3d70a, .real (1/1000) (1/5), .cfg⟩,
    ⟨0x4000, 0x4000, 4, 4, .f32, .rws, 0x3f000000, .real (1/10) (1), .cfg⟩,
    ⟨0x4001, 0x4001, 1, 8, .f32, .rws, 0, .real (-30) (30), .cfg⟩,
    ⟨0x4002, 0x4002, 1, 8, .f32, .rws, 0x41700000, .real (1/2) (45), .cfg⟩,
    ⟨0x4003, 0x4003, 1, 8, .f32, .rws, 0x41a00000, .real (1) (90), .cfg⟩,
    ⟨0x4004, 0x4004, 1, 8, .f32, .rws, 0x3f800000, .real (1/100) (1000), .cfg⟩,
    ⟨0x4005, 0x4005, 1, 1, .f32, .rws, 0x3d4ccccd, .real (0) (2), .cfg⟩,
    ⟨0x4005, 0x4005, 2, 2, .f32, .rws, 0x3e99999a, .real (1/10) (1), .cfg⟩,
    ⟨0x4005, 0x4005, 3, 3, .f32, .rws, 0x41700000, .real (1) (50), .cfg⟩ ]

/-- Object rows, part 7: from 0x4005 to 0x4200, as the object tables of the
owning chapters (R373) give them. -/
def objRows7 : List ObjRow :=
  [ ⟨0x4005, 0x4005, 4, 4, .f32, .rws, 0x3c23d70a, .real (0) (1/2), .cfg⟩,
    ⟨0x4005, 0x4005, 5, 5, .f32, .rws, 0, .real (0) (1/5), .cfg⟩,
    ⟨0x4005, 0x4005, 6, 6, .f32, .rws, 0x44070000, .real (90) (900), .cfg⟩,
    ⟨0x4005, 0x4005, 7, 7, .f32, .rws, 0x3f000000, .real (0) (10), .cfg⟩,
    ⟨0x4005, 0x4005, 8, 8, .f32, .rws, 0x41000000, .real (0) (20), .cfg⟩,
    ⟨0x4100, 0x4100, 1, 1, .u8, .rws, 0, .ordered [(0, 2)], .cfg⟩,
    ⟨0x4100, 0x4100, 2, 2, .u8, .rws, 0, .ordered [(0, 7)], .cfg⟩,
    ⟨0x4100, 0x4100, 3, 3, .u8, .rws, 1, .ordered [(0, 1)], .cfg⟩,
    ⟨0x4100, 0x4100, 4, 4, .u8, .rws, 0, .ordered [(0, 1)], .cfg⟩,
    ⟨0x4100, 0x4100, 5, 5, .u8, .rws, 0, .ordered [(0, 63)], .cfg⟩,
    ⟨0x4100, 0x4100, 6, 6, .u8, .rws, 1, .ordered [(0, 63)], .cfg⟩,
    ⟨0x4100, 0x4100, 7, 7, .f32, .rws, 0x40000000, .real (1/10) (20), .cfg⟩,
    ⟨0x4100, 0x4100, 8, 8, .u8, .rws, 0, .ordered [(0, 5)], .cfg⟩,
    ⟨0x4100, 0x4100, 9, 9, .f32, .rws, 0x41a00000, .real (1) (100), .cfg⟩,
    ⟨0x4100, 0x4100, 10, 10, .f32, .rws, 0x40a00000, .real (1/2) (100), .cfg⟩,
    ⟨0x4100, 0x4100, 11, 11, .u16, .rws, 1000, .ordered [(10, 0xea60)], .cfg⟩,
    ⟨0x4100, 0x4100, 12, 12, .u16, .rws, 10, .ordered [(2, 1000)], .cfg⟩,
    ⟨0x4100, 0x4100, 13, 13, .f32, .rws, 0x40a00000, .real (1/10) (90), .cfg⟩,
    ⟨0x4100, 0x4100, 14, 14, .f32, .rws, 0x40000000, .real (1/10) (100), .cfg⟩,
    ⟨0x4100, 0x4100, 15, 15, .f32, .rws, 0x41a00000, .real (0) (360), .cfg⟩,
    ⟨0x4101, 0x4101, 1, 4, .f32, .rws, 0, .real (0) (4), .cfg⟩,
    ⟨0x4102, 0x4102, 1, 4, .f32, .rws, 0x42c80000, .real (1) (500), .cfg⟩,
    ⟨0x4103, 0x4103, 1, 8, .u8, .rws, 0, .ordered [(0, 4)], .cfg⟩,
    ⟨0x4104, 0x4104, 1, 8, .f32, .rws, 0x40480000, .real (1/10) (100), .cfg⟩,
    ⟨0x4105, 0x4105, 1, 8, .f32, .rws, 0x479c4000, .real (0) (200000), .cfg⟩,
    ⟨0x4106, 0x4106, 1, 8, .curve33, .rws, 0x43a00000479c4000439b000047975e004396000047927c0043910000478d9a00438c00004788b800438700004783d60043820000477de800437a00004774240043700000476a60004366000047609c00435c00004756d80043520000474d14004348000047435000433e000047398c0043340000472fc800432a00004726040043200000471c40004316000047127c00430c00004708b8004302000046fde80042f0000046ea600042dc000046d6d80042c8000046c3500042b4000046afc80042a00000469c4000428c00004688b80042700000466a6000424800004643500042200000461c400041f0000045ea600041a00000459c400041200000451c40000000000000000000, .curve, .cfg⟩,
    ⟨0x4107, 0x4107, 1, 8, .f32, .rw, 0, .real (-100000) (100000), .yes⟩,
    ⟨0x4108, 0x4108, 1, 8, .u8, .rws, 0, .ordered [(0, 254)], .cfg⟩,
    ⟨0x4108, 0x4108, 9, 12, .u8, .rws, 0, .ordered [(0, 254)], .cfg⟩,
    ⟨0x4109, 0x4109, 1, 1, .f32, .rws, 0x3df5c28f, .real (1/50) (1/2), .cfg⟩,
    ⟨0x4109, 0x4109, 2, 2, .f32, .rws, 0x3d75c28f, .real (1/100) (1/2), .cfg⟩,
    ⟨0x4109, 0x4109, 3, 3, .f32, .rws, 0x3fc00000, .real (1/2) (10), .cfg⟩,
    ⟨0x4109, 0x4109, 4, 4, .f32, .rws, 0x47c35000, .real (1000) (1000000), .cfg⟩,
    ⟨0x4109, 0x4109, 5, 5, .f32, .rws, 0x46ea6000, .real (1000) (1000000), .cfg⟩,
    ⟨0x4109, 0x4109, 6, 6, .u16, .rws, 40, .ordered [(1, 1000)], .cfg⟩,
    ⟨0x4109, 0x4109, 7, 7, .f32, .rws, 0x40c00000, .real (1) (15), .cfg⟩,
    ⟨0x4109, 0x4109, 8, 8, .u8, .rws, 1, .ordered [(0, 1)], .cfg⟩,
    ⟨0x4200, 0x4200, 1, 1, .curve33, .rws, 0x43f000000000000043e880000000000043e100000000000043d980000000000043d200000000000043ca80000000000043c300000000000043bb80000000000043b400000000000043ac80000000000043a5000000000000439d8000000000004396000000000000438e8000000000004387000000000000437f0000000000004370000000000000436100000000000043520000000000004343000000000000433400000000000043250000000000004316000000000000430700000000000042f000000000000042d200000000000042b400000000000042960000000000004270000000000000423400000000000041f0000000000000417000000000000000000000, .curve, .cfg⟩,
    ⟨0x4200, 0x4200, 2, 2, .f32, .rws, 0x3f800000, .real (0) (90), .cfg⟩,
    ⟨0x4200, 0x4200, 3, 3, .f32, .rws, 0x3f000000, .real (0) (90), .cfg⟩ ]

/-- Object rows, part 8: from 0x4200 to 0x4801, as the object tables of the
owning chapters (R373) give them. -/
def objRows8 : List ObjRow :=
  [ ⟨0x4200, 0x4200, 4, 4, .curve33, .rws, 0x42c800000000000042c1c0000000000042bb80000000000042b540000000000042af00000000000042a8c0000000000042a2800000000000429c4000000000004296000000000000428fc0000000000042898000000000004283400000000000427a000000000000426d800000000000426100000000000042548000000000004248000000000000423b800000000000422f00000000000042228000000000004216000000000000420980000000000041fa00000000000041e100000000000041c800000000000041af0000000000004196000000000000417a0000000000004148000000000000411600000000000040c8000000000000404800000000000000000000, .curve, .cfg⟩,
    ⟨0x4200, 0x4200, 5, 5, .f32, .rws, 0x40a00000, .real (0) (50), .cfg⟩,
    ⟨0x4200, 0x4200, 6, 6, .f32, .rws, 0x40400000, .real (0) (50), .cfg⟩,
    ⟨0x4300, 0x4300, 1, 1, .u16, .rws, 20, .ordered [(2, 1000)], .cfg⟩,
    ⟨0x4300, 0x4300, 2, 2, .f32, .rws, 0x40200000, .real (1/2) (5), .cfg⟩,
    ⟨0x4300, 0x4300, 3, 3, .f32, .rws, 0x40000000, .real (1/2) (20), .cfg⟩,
    ⟨0x4300, 0x4300, 4, 4, .u16, .rws, 1000, .ordered [(0, 0x2710)], .cfg⟩,
    ⟨0x4300, 0x4300, 5, 5, .f32, .rws, 0x3b83126f, .real (1/2000) (1/10), .cfg⟩,
    ⟨0x4300, 0x4300, 6, 6, .u8, .rws, 255, .ordered [(0, 7), (255, 255)], .cfg⟩,
    ⟨0x4300, 0x4300, 7, 7, .f32, .rws, 0x3d4ccccd, .real (1/100) (1/2), .cfg⟩,
    ⟨0x4300, 0x4300, 9, 9, .u8, .wo, 0, .ordered [(1, 1)], .no⟩,
    ⟨0x4300, 0x4300, 10, 10, .u32, .ro, 0, .any, .no⟩,
    ⟨0x4800, 0x4800, 1, 1, .u16, .rws, 0x88b5, .ordered [(1536, 0xffff)], .cfg⟩,
    ⟨0x4800, 0x4800, 2, 2, .u16, .rws, 0, .ordered [(0, 511)], .cfg⟩,
    ⟨0x4800, 0x4800, 3, 3, .u8, .rws, 0, .ordered [(0, 31)], .cfg⟩,
    ⟨0x4800, 0x4800, 4, 4, .u16, .rws, 1000, .divisorOf 250 8000 1000000, .cfg⟩,
    ⟨0x4800, 0x4800, 5, 5, .u8, .rws, 3, .ordered [(1, 3)], .cfg⟩,
    ⟨0x4800, 0x4800, 6, 6, .u16, .rws, 0, .ordered [(0, 8000)], .cfg⟩,
    ⟨0x4800, 0x4800, 7, 7, .u16, .rws, 128, .stepped 8 1024 8, .cfg⟩,
    ⟨0x4800, 0x4800, 8, 8, .u16, .rws, 1024, .stepped 8 1024 8, .cfg⟩,
    ⟨0x4800, 0x4800, 9, 9, .u16, .rws, 0, .ordered [(0, 256)], .cfg⟩,
    ⟨0x4800, 0x4800, 10, 10, .u16, .rws, 0, .ordered [(0, 256)], .cfg⟩,
    ⟨0x4800, 0x4800, 11, 11, .u16, .rws, 256, .stepped 8 1024 8, .cfg⟩,
    ⟨0x4800, 0x4800, 12, 12, .u16, .rws, 256, .stepped 8 1024 8, .cfg⟩,
    ⟨0x4800, 0x4800, 13, 13, .u8, .rws, 0, .ordered [(0, 64)], .cfg⟩,
    ⟨0x4800, 0x4800, 14, 14, .u8, .rws, 0, .ordered [(0, 64)], .cfg⟩,
    ⟨0x4800, 0x4800, 15, 15, .u8, .rws, 3, .mask 0xF8, .cfg⟩,
    ⟨0x4800, 0x4800, 16, 16, .u16, .rws, 0, .ordered [(0, 4095)], .cfg⟩,
    ⟨0x4800, 0x4800, 17, 17, .u16, .rws, 60, .ordered [(10, 1000)], .cfg⟩,
    ⟨0x4800, 0x4800, 18, 18, .u16, .rws, 100, .ordered [(10, 500)], .cfg⟩,
    ⟨0x4800, 0x4800, 19, 19, .u16, .rws, 150, .ordered [(0, 1000)], .cfg⟩,
    ⟨0x4800, 0x4800, 20, 20, .u8, .rws, 1, .ordered [(0, 1)], .cfg⟩,
    ⟨0x4800, 0x4800, 21, 21, .u8, .rws, 8, .ordered [(2, 64)], .cfg⟩,
    ⟨0x4800, 0x4800, 22, 22, .u8, .rws, 0, .ordered [(0, 15)], .cfg⟩,
    ⟨0x4801, 0x4801, 1, 1, .u32, .ro, 0, .any, .no⟩,
    ⟨0x4801, 0x4801, 2, 2, .u32, .ro, 0, .any, .no⟩,
    ⟨0x4801, 0x4801, 3, 3, .u32, .ro, 0, .any, .no⟩,
    ⟨0x4801, 0x4801, 4, 4, .u32, .ro, 0, .any, .no⟩,
    ⟨0x4801, 0x4801, 5, 5, .u32, .ro, 0, .any, .no⟩,
    ⟨0x4801, 0x4801, 6, 6, .u32, .ro, 0, .any, .no⟩ ]

/-- Object rows, part 9: from 0x4801 to 0x4a00, as the object tables of the
owning chapters (R373) give them. -/
def objRows9 : List ObjRow :=
  [ ⟨0x4801, 0x4801, 7, 7, .u32, .ro, 0, .any, .no⟩,
    ⟨0x4801, 0x4801, 8, 8, .u32, .ro, 0, .any, .no⟩,
    ⟨0x4801, 0x4801, 9, 9, .u16, .ro, 0, .any, .no⟩,
    ⟨0x4802, 0x4802, 1, 5, .u32, .ro, 0, .any, .cfg⟩,
    ⟨0x4802, 0x4802, 6, 6, .u32, .rws, 0x810003c0, .cyclePoint, .cfg⟩,
    ⟨0x4802, 0x4802, 7, 7, .u32, .rws, 0x820002c6, .cyclePoint, .cfg⟩,
    ⟨0x4802, 0x4802, 8, 8, .u32, .rws, 0, .cyclePoint, .cfg⟩,
    ⟨0x4810, 0x4810, 1, 128, .u32, .rws, 0x7000, .mask 0xC0000000, .cfg⟩,
    ⟨0x4811, 0x4811, 1, 128, .u32, .rws, 0x7000, .mask 0xC0000000, .cfg⟩,
    ⟨0x4812, 0x4812, 1, 128, .u32, .rws, 0x7000, .mask 0xC0000000, .cfg⟩,
    ⟨0x4813, 0x4813, 1, 128, .u32, .rws, 0x7000, .mask 0xC0000000, .cfg⟩,
    ⟨0x4814, 0x4814, 1, 64, .u32, .rws, 0x7000, .mask 0xC0000000, .cfg⟩,
    ⟨0x4815, 0x4815, 1, 64, .u32, .rws, 0x7000, .mask 0xC0000000, .cfg⟩,
    ⟨0x4816, 0x4816, 1, 32, .u16, .rws, 0, .ordered [(0, 8000)], .cfg⟩,
    ⟨0x4817, 0x4817, 1, 32, .u16, .rws, 0, .ordered [(0, 8000)], .cfg⟩,
    ⟨0x4900, 0x4900, 1, 1, .u32, .ro, 0, .any, .no⟩,
    ⟨0x4900, 0x4900, 2, 2, .u32, .ro, 0, .any, .no⟩,
    ⟨0x4900, 0x4900, 3, 3, .i16, .ro, 0, .any, .no⟩,
    ⟨0x4900, 0x4900, 4, 4, .i16, .ro, 0, .any, .no⟩,
    ⟨0x4900, 0x4900, 5, 5, .i16, .ro, 0, .any, .no⟩,
    ⟨0x4900, 0x4900, 6, 6, .u32, .ro, 0, .any, .no⟩,
    ⟨0x4900, 0x4900, 7, 7, .u32, .ro, 0, .any, .no⟩,
    ⟨0x4900, 0x4900, 8, 8, .u32, .ro, 0, .any, .no⟩,
    ⟨0x4900, 0x4900, 9, 9, .u32, .ro, 0, .any, .no⟩,
    ⟨0x4900, 0x4900, 10, 10, .u32, .ro, 0, .any, .no⟩,
    ⟨0x4900, 0x4900, 11, 11, .u32, .ro, 0, .any, .no⟩,
    ⟨0x4901, 0x4901, 1, 7, .u32, .ro, 0, .any, .no⟩,
    ⟨0x4902, 0x4902, 1, 7, .u32, .ro, 0, .any, .no⟩,
    ⟨0x4903, 0x4903, 1, 6, .u8, .ro, 0, .any, .no⟩,
    ⟨0x4904, 0x4904, 1, 6, .u8, .ro, 0, .any, .no⟩,
    ⟨0x4910, 0x4910, 1, 128, .u32, .ro, 0, .any, .no⟩,
    ⟨0x4911, 0x4911, 1, 128, .u32, .ro, 0, .any, .no⟩,
    ⟨0x4912, 0x4912, 1, 128, .u32, .ro, 0, .any, .no⟩,
    ⟨0x4913, 0x4913, 1, 128, .u32, .ro, 0, .any, .no⟩,
    ⟨0x4914, 0x4914, 1, 128, .u32, .ro, 0, .any, .no⟩,
    ⟨0x4915, 0x4915, 1, 128, .u32, .ro, 0, .any, .no⟩,
    ⟨0x4916, 0x4916, 1, 128, .u32, .ro, 0, .any, .no⟩,
    ⟨0x4917, 0x4917, 1, 128, .u32, .ro, 0, .any, .no⟩,
    ⟨0x4a00, 0x4a00, 1, 1, .u8, .rws, 0, .ordered [(0, 1)], .cfg⟩,
    ⟨0x4a00, 0x4a00, 2, 2, .u16, .rws, 0, .ordered [(0, 4094)], .cfg⟩ ]

/-- Object rows, part 10: from 0x4a00 to 0x5300, as the object tables of the
owning chapters (R373) give them. -/
def objRows10 : List ObjRow :=
  [ ⟨0x4a00, 0x4a00, 3, 3, .u8, .rws, 0, .ordered [(0, 7)], .cfg⟩,
    ⟨0x4a00, 0x4a00, 4, 4, .u16, .rws, 1000, .divisorOf 1 1000 1000, .cfg⟩,
    ⟨0x4a00, 0x4a00, 5, 5, .u32, .rws, 0, .any, .cfg⟩,
    ⟨0x4a00, 0x4a00, 6, 6, .oct 16, .rws, 0, .any, .cfg⟩,
    ⟨0x4a00, 0x4a00, 7, 7, .u16, .rws, 0xb8c4, .ordered [(1024, 0xffff)], .cfg⟩,
    ⟨0x4a00, 0x4a00, 8, 8, .u16, .rws, 0xb8c5, .ordered [(1024, 0xffff)], .cfg⟩,
    ⟨0x4a00, 0x4a00, 9, 9, .u16, .rws, 0xb8c6, .ordered [(1024, 0xffff)], .cfg⟩,
    ⟨0x4a00, 0x4a00, 10, 10, .u16, .rws, 1024, .ordered [(0, 1024)], .cfg⟩,
    ⟨0x4a01, 0x4a01, 1, 1, .oct 24, .wo, 0, .any, .no⟩,
    ⟨0x4a01, 0x4a01, 2, 2, .u16, .wo, 0, .any, .no⟩,
    ⟨0x4a01, 0x4a01, 3, 3, .u8, .ro, 0, .any, .no⟩,
    ⟨0x4a01, 0x4a01, 16, 18, .u32, .ro, 0, .any, .no⟩,
    ⟨0x4a10, 0x4a10, 1, 64, .oct 24, .ro, 0, .any, .yes⟩,
    ⟨0x4a20, 0x4a20, 1, 16, .oct 28, .rws, 0, .mask (0xFF <<< 216), .cfg⟩,
    ⟨0x4a30, 0x4a30, 1, 1, .u32, .ro, 0, .any, .no⟩,
    ⟨0x4a30, 0x4a30, 2, 2, .u32, .ro, 0, .any, .no⟩,
    ⟨0x4a30, 0x4a30, 3, 3, .u32, .ro, 0, .any, .no⟩,
    ⟨0x4a30, 0x4a30, 4, 4, .u32, .ro, 0, .any, .no⟩,
    ⟨0x4a30, 0x4a30, 5, 5, .u32, .ro, 0, .any, .no⟩,
    ⟨0x4b10, 0x4b10, 1, 32, .u32, .rws, 0, .mask 0xFF, .cfg⟩,
    ⟨0x4b30, 0x4b30, 1, 32, .u32, .rws, 3000, .ordered [(1, 0x3938700)], .cfg⟩,
    ⟨0x4b50, 0x4b50, 1, 16, .u16, .ro, 48, .any, .no⟩,
    ⟨0x5000, 0x5000, 1, 1, .u16, .ro, 0, .any, .no⟩,
    ⟨0x5000, 0x5000, 2, 2, .u16, .ro, 0, .any, .yes⟩,
    ⟨0x5000, 0x5000, 3, 3, .domain, .ro, 0, .any, .yes⟩,
    ⟨0x5000, 0x5000, 4, 4, .u32, .ro, 0, .any, .no⟩,
    ⟨0x5000, 0x5000, 5, 5, .u16, .ro, 0, .any, .no⟩,
    ⟨0x5001, 0x5001, 1, 1, .u16, .ro, 0, .any, .no⟩,
    ⟨0x5001, 0x5001, 2, 2, .domain, .ro, 0, .any, .no⟩,
    ⟨0x5001, 0x5001, 3, 3, .domain, .ro, 0, .any, .no⟩,
    ⟨0x5010, 0x503f, 1, 254, .u32, .ro, 0, .any, .no⟩,
    ⟨0x5100, 0x5100, 1, 1, .domain, .ro, 0, .any, .yes⟩,
    ⟨0x5100, 0x5100, 2, 2, .u32, .ro, 0, .any, .yes⟩,
    ⟨0x5200, 0x5200, 1, 1, .u8, .wo, 0, .ordered [(1, 1)], .no⟩,
    ⟨0x5200, 0x5200, 2, 2, .u32, .ro, 0, .any, .yes⟩,
    ⟨0x5200, 0x5200, 3, 3, .domain, .ro, 0, .any, .yes⟩,
    ⟨0x5200, 0x5200, 4, 4, .u16, .ro, 0, .any, .yes⟩,
    ⟨0x5200, 0x5200, 16, 18, .u32, .ro, 0, .any, .no⟩,
    ⟨0x5300, 0x5300, 1, 1, .u32, .rw, 0, .lptCtrl, .no⟩,
    ⟨0x5300, 0x5300, 2, 2, .u32, .ro, 0, .any, .no⟩ ]

/-- Object rows, part 11: from 0x5300 to 0x5300, as the object tables of the
owning chapters (R373) give them. -/
def objRows11 : List ObjRow :=
  [ ⟨0x5300, 0x5300, 3, 3, .u16, .ro, 0, .any, .no⟩,
    ⟨0x5300, 0x5300, 4, 4, .u64, .ro, 0, .any, .no⟩,
    ⟨0x5300, 0x5300, 5, 5, .u32, .ro, 0, .any, .no⟩ ]

/-- Every object row of the module (R373). -/
def objRows : List ObjRow :=
  objRows0 ++ objRows1 ++ objRows2 ++ objRows3 ++ objRows4 ++ objRows5 ++ objRows6 ++ objRows7 ++ objRows8 ++ objRows9 ++ objRows10 ++ objRows11

/-- The index under which an object row of a repeated range stands: actuators, the lane's own bridges,
front ends and DC link, timestamp queues, telemetry sets (R374). None where the lane holds no such
index. -/
def baseIdx (l : LaneId) (idx : Nat) : Option Nat :=
  if 0x2800 ≤ idx ∧ idx < 0x3000 then
    if idx % 0x100 < 3 then some (0x2800 + idx % 0x100) else none
  else if 0x3000 ≤ idx ∧ idx < 0x3600 then
    if (idx - 0x3000) / 0x200 = l.num ∧ idx % 0x40 < 4 then some (0x3000 + idx % 0x40) else none
  else if 0x3800 ≤ idx ∧ idx < 0x3830 then
    if (idx - 0x3800) / 0x10 = l.num ∧ idx % 0x10 < 3 then some (0x3800 + idx % 0x10) else none
  else if idx = 0x2331 ∨ idx = 0x2332 then some 0x2330
  else if 0x4B10 ≤ idx ∧ idx < 0x4B20 then some 0x4B10
  else if 0x4B30 ≤ idx ∧ idx < 0x4B40 then some 0x4B30
  else some idx

/-- Whether a row stands at a base index. -/
def ObjRow.atIdx (r : ObjRow) (i : Nat) : Bool := r.lo ≤ i && i ≤ r.hi

/-- The row of an index and subindex in lane `l` (R374). TS_REQ stands at 0x2330 and 0x2331 only
(09_time_base_and_timed_actions.md R315). -/
def findObj (l : LaneId) (idx sub : Nat) : Option ObjRow :=
  match baseIdx l idx with
  | none => none
  | some i =>
    if idx = 0x2332 ∧ 5 ≤ sub then none
    else objRows.find? fun r => r.atIdx i && r.slo ≤ sub && sub ≤ r.shi

/-- Whether the lane holds an index at all. -/
def holdsIdx (l : LaneId) (idx : Nat) : Bool :=
  match baseIdx l idx with
  | none => false
  | some i => objRows.any fun r => r.atIdx i

/-- Rows of an index. -/
def rowsOf (l : LaneId) (idx : Nat) : List ObjRow :=
  match baseIdx l idx with
  | none => []
  | some i => objRows.filter fun r => r.atIdx i

/-- Highest subindex of a record (R341). -/
def highestSub (l : LaneId) (idx : Nat) : Nat :=
  (rowsOf l idx).foldl (fun m r => max m r.shi) 0

/-- An index with more than one subindex is a record, whose subindex 0 reads the highest (R341). -/
def isRecord (l : LaneId) (idx : Nat) : Bool :=
  decide (1 < (rowsOf l idx).foldl (fun m r => m + (r.shi + 1 - r.slo)) 0)

/-- Store key of an index and subindex. -/
def okey (idx sub : Nat) : Nat := idx * 256 + sub

/-- Default of an object in a lane; SB_NODE_ID is 0x10 + lane (R372). -/
def objDefault (l : LaneId) (idx sub : Nat) : Nat :=
  if idx = 0x2011 ∧ sub = 1 then 0x10 + l.num
  else match findObj l idx sub with
    | some r => r.dflt
    | none => 0

/-- Module-wide objects (R373, R346). -/
def isWide (idx sub : Nat) : Bool :=
  idx = 0x2400 || idx = 0x2401 || idx = 0x2600 || idx = 0x2620 ||
  (0x2800 ≤ idx && idx < 0x3000) || (0x4000 ≤ idx && idx ≤ 0x4005) ||
  (0x4100 ≤ idx && idx ≤ 0x4109) || idx = 0x4200 || (idx = 0x4300 && sub != 0x0A)

/-- Code 0x06090030: value not in range. -/
def eRange : W32 := 0x06090030
/-- Code 0x06090031: value above range. -/
def eAbove : W32 := 0x06090031
/-- Code 0x06090032: value below range. -/
def eBelow : W32 := 0x06090032

/-- Lowest value of an ordered list of intervals. -/
def ordLo (l : List (Nat × Nat)) : Nat :=
  match l with
  | [] => 0
  | (a, _) :: _ => a

/-- Highest value of an ordered list of intervals. -/
def ordHi (l : List (Nat × Nat)) : Nat := l.foldl (fun m p => max m p.2) 0

/-- The class R529 fixes for a built-in input: 0 discrete, 1 analogue, 2 sequenced; none where the
number is reserved or free. -/
def builtinClass (nn : Nat) : Option Nat :=
  if 1 ≤ nn ∧ nn ≤ 8 then some 0
  else if 0x10 ≤ nn ∧ nn ≤ 0x20 then some 1
  else if 0x21 ≤ nn ∧ nn ≤ 0x26 then some 2
  else none

/-- Whether a descriptor of input `nn` lies in its range (R53). -/
def descOk (nn v : Nat) : Bool :=
  let cls := bits v 30 2
  let persist := bits v 24 6
  let safe := bits v 16 8
  let tol := bits v 0 16
  if (9 ≤ nn ∧ nn ≤ 0x0F) ∨ (0x27 ≤ nn ∧ nn ≤ 0x3F) then v == 0
  else if v = 0 ∧ 0x40 ≤ nn then true
  else persist != 0 && (safe == 0 || cls == 0) && (tol == 0 || cls == 1) &&
    (match builtinClass nn with
     | some c => cls == c
     | none => true)

/-- The error of a raw value against a range, for subindex `sub` (R371, R343). (DESIGN CHOICE, log entry 122) -/
def rangeErr (r : Rng) (sub raw : Nat) : Option W32 :=
  match r with
  | .any => none
  | .ordered l =>
    if l.any fun p => p.1 ≤ raw && raw ≤ p.2 then none
    else if ordHi l < raw then some eAbove
    else if raw < ordLo l then some eBelow
    else some eRange
  | .stepped lo hi st =>
    if hi < raw then some eAbove
    else if raw < lo then some eBelow
    else if (raw - lo) % st = 0 then none else some eRange
  | .divisorOf lo hi n =>
    if hi < raw then some eAbove
    else if raw < lo then some eBelow
    else if n % raw = 0 then none else some eRange
  | .real lo hi =>
    if finite32 raw = false then some eRange
    else if hi < r32 raw then some eAbove
    else if r32 raw < lo then some eBelow
    else none
  | .mask z => if Nat.land raw z = 0 then none else some eRange
  | .curve =>
    if (List.range 66).all fun i => finite32 (bits raw (32 * i) 32) then none else some eRange
  | .siMode =>
    if raw < 16 ∧ raw % 4 ≤ 2 ∧ raw / 4 ≤ 2 then none else some eRange
  | .desc => if descOk sub raw then none else some eRange
  | .place =>
    if raw = 0xFFFFFFFF then none
    else if Nat.land raw 0x7F00FC00 = 0 ∧ raw % 8 = 0 ∧ bits raw 0 10 ≤ 1016 then none
    else some eRange
  | .cyclePoint =>
    if Nat.land raw 0x70FF0000 = 0 ∧ bits raw 24 4 ≤ 2 then none else some eRange
  | .lptCtrl =>
    if bits raw 24 2 = 0 ∧ bits raw 26 2 ≠ 3 then none else some eRange
  | .ds2Target =>
    if raw = 0 then none
    else if bits raw 0 8 ≠ 0 then some eRange
    else none

end Sys2Proof.Machine
end

