-- ==== Sys2Proof/Machine/State.lean ====
section
/-! DEFINITION. The state of the module as plain data: three lanes, each with every register, queue,
counter, mode and pin the spec gives it, and the queue of waiting commands. Default values are the
values after reset; a value the spec does not give is one of log entries 2, 3 and 4. -/

namespace Sys2Proof.Machine

/-- Why a command faults. No command of this block faults: an access the spec forbids is answered by
an error code of Table 11.6 in the lane's response. The one constructor is raised by nothing; it is
safe. -/
inductive Fault where
  /-- Raised by no command. Safe. -/
  | unreachable
  deriving DecidableEq, Repr

/-- Why a command is refused. -/
inductive Refusal where
  /-- Raised by Dispatch for a command without a meaning. Safe: nothing happens. -/
  | notModelled (mnemonic : String)
  deriving DecidableEq, Repr

/-- The last answer of the lane's dictionary server (R355-R371). -/
structure Resp where
  /-- 2 bits (R344 11_dictionary_access.md). -/
  m : Master := .host
  /-- 8 bits (R356 11_dictionary_access.md). -/
  tid : Nat := 0
  /-- 16 bits (R341 11_dictionary_access.md). -/
  idx : Nat := 0
  /-- 8 bits (R341 11_dictionary_access.md). -/
  sub : Nat := 0
  /-- 32 bits (R370 11_dictionary_access.md). -/
  code : W32 := 0
  /-- Bytes (R356 11_dictionary_access.md). -/
  data : List Byte := []
  /-- 1 bit (R352 11_dictionary_access.md). -/
  pend : Bool := false
  /-- 1 bit (R356 11_dictionary_access.md). -/
  last : Bool := true
  /-- OP of the request: 1 READ, 2 WRITE, 3 ABORT (R356 11_dictionary_access.md). -/
  op : Nat := 2
  /-- OFFSET, 32 bits (R356 11_dictionary_access.md). -/
  ofs : Nat := 0
  /-- Total value size of a read, 32 bits (R356 11_dictionary_access.md). -/
  total : Nat := 0
  /-- Network time at which the lane formed it, ns (R359 11_dictionary_access.md). -/
  atNs : Nat := 0
  deriving DecidableEq, Repr

/-- One result object: header of Table 11.5 and its 12-bit payload (R367). -/
structure ResultObj where
  /-- 16 bits (R367 11_dictionary_access.md). -/
  seq : W16 := 0
  /-- 4 bits (R368 11_dictionary_access.md). -/
  state : RState := .idle
  /-- 12 bits (R367 11_dictionary_access.md). -/
  payload : BitVec 12 := 0
  deriving DecidableEq, Repr

/-- The three copies of one result object: host, side-band, peer lanes (R374). -/
structure Res3 where
  /-- 32 bits (R374 12_dictionary_index.md). -/
  host : ResultObj := {}
  /-- 32 bits (R374 12_dictionary_index.md). -/
  sb : ResultObj := {}
  /-- 32 bits (R374 12_dictionary_index.md). -/
  peer : ResultObj := {}
  deriving DecidableEq, Repr

/-- One read snapshot (R357). -/
structure Snapshot where
  /-- 2 bits (R357 11_dictionary_access.md). -/
  m : Master := .host
  /-- 8 bits (R357 11_dictionary_access.md). -/
  tid : Nat := 0
  /-- 16 bits (R357 11_dictionary_access.md). -/
  idx : Nat := 0
  /-- 8 bits (R357 11_dictionary_access.md). -/
  sub : Nat := 0
  /-- Bytes (R357 11_dictionary_access.md). -/
  data : List Byte := []
  deriving DecidableEq, Repr

/-- One segmented write being buffered (R358). -/
structure WriteBuf where
  /-- 2 bits (R358 11_dictionary_access.md). -/
  m : Master := .host
  /-- 8 bits (R358 11_dictionary_access.md). -/
  tid : Nat := 0
  /-- 16 bits (R358 11_dictionary_access.md). -/
  idx : Nat := 0
  /-- 8 bits (R358 11_dictionary_access.md). -/
  sub : Nat := 0
  /-- 32 bits (R358 11_dictionary_access.md). -/
  total : Nat := 0
  /-- Bytes (R358 11_dictionary_access.md). -/
  data : List Byte := []
  deriving DecidableEq, Repr

/-- One object and value of a commit (R349, R351). -/
structure CommitItem where
  /-- 16 bits (R349 11_dictionary_access.md). -/
  idx : Nat := 0
  /-- 8 bits (R349 11_dictionary_access.md). -/
  sub : Nat := 0
  /-- Value bytes, little-endian (R349 11_dictionary_access.md). -/
  raw : Nat := 0
  /-- 8 bits, transaction of the write (R356 11_dictionary_access.md). -/
  tid : Nat := 0
  deriving DecidableEq, Repr

/-- A module-wide commit as one lane knows it (R349-R352). -/
structure Commit where
  /-- 2 bits (R349 11_dictionary_access.md). -/
  server : LaneId := .A
  /-- 16 bits (R349 11_dictionary_access.md). -/
  ctr : W16 := 0
  /-- 32 bits, voting cycle M (R349 11_dictionary_access.md). -/
  cycle : W32 := 0
  /-- List (R351 11_dictionary_access.md). -/
  items : List CommitItem := []
  /-- 4 bits, group number (R351 11_dictionary_access.md). -/
  group : Option Nat := none
  /-- Kind of master (R349 11_dictionary_access.md). -/
  m : Master := .host
  /-- 8 bits (R352 11_dictionary_access.md). -/
  tid : Nat := 0
  /-- Write by the RWP condition (R410 13_safety_inputs_and_seal.md). -/
  rwp : Bool := false
  /-- Decision of tAGREE (R351 11_dictionary_access.md). -/
  decided : Option Bool := none
  /-- Vote cycle in which its first write was accepted (R351 11_dictionary_access.md). -/
  madeIn : W32 := 0
  /-- A 17th write of its group came (R351 11_dictionary_access.md). -/
  full : Bool := false
  deriving DecidableEq, Repr

/-- A lane's vote on one commit, carried in its input set (R350, R351). -/
structure Vote where
  /-- 2 bits (R351 11_dictionary_access.md). -/
  server : LaneId := .A
  /-- 16 bits (R351 11_dictionary_access.md). -/
  ctr : W16 := 0
  /-- 1 bit (R350 11_dictionary_access.md). -/
  yes : Bool := false
  /-- 32 bits, code of a no vote (R351 11_dictionary_access.md). -/
  code : W32 := 0
  /-- Objects and values of the commit (R351 11_dictionary_access.md). -/
  items : List CommitItem := []
  deriving DecidableEq, Repr

/-- A stored configuration set in nonvolatile memory (R406, R407). -/
structure StoredSet where
  /-- List of values (R406 13_safety_inputs_and_seal.md). -/
  vals : Store := []
  /-- 32 bits (R406 13_safety_inputs_and_seal.md). -/
  crc : W32 := 0
  /-- 1 bit, the stored bytes still give the CRC (R407 13_safety_inputs_and_seal.md). -/
  intact : Bool := true
  deriving DecidableEq, Repr

/-- One PROGRAM_DATA subindex (R377, R378). -/
structure Staging where
  /-- Bytes of the staged image (R377 12_dictionary_index.md). -/
  image : Option (List Byte) := none
  /-- 1 bit (R375 12_dictionary_index.md). -/
  installed : Bool := false
  /-- 32 bits, PROGRAM_ID (R375 12_dictionary_index.md). -/
  id : W32 := 0
  /-- Bytes of the image being installed (R377 12_dictionary_index.md). -/
  busy : Option (List Byte) := none
  /-- 2 bits (R377 12_dictionary_index.md). -/
  busyBy : Master := .host
  deriving DecidableEq, Repr

/-- Dictionary server: values, transactions, commits, images (chapters 11 and 12). -/
structure Dict where
  /-- Values by index and subindex (R348 11_dictionary_access.md). -/
  working : Store := []
  /-- Nonvolatile copies of Kept-yes objects (R347 11_dictionary_access.md). -/
  kept : Store := []
  /-- Values that the field engines still use: those of the objects of Table 4.1 committed in this vote cycle, until
  tAPPLY (R122 04_field_engines.md). -/
  held : Store := []
  /-- 4 sets (R405 13_safety_inputs_and_seal.md). -/
  sets : List StoredSet := [{}, {}, {}, {}]
  /-- 32 bits (R354 11_dictionary_access.md). -/
  cfgGen : W32 := 0
  /-- 32 bits (R372 11_dictionary_access.md). -/
  commits : W32 := 0
  /-- 32 bits (R372 11_dictionary_access.md). -/
  commitFails : W32 := 0
  /-- 32 bits (R372 11_dictionary_access.md). -/
  txnBusy : W32 := 0
  /-- 0-32 (R345 11_dictionary_access.md). -/
  openHost : Nat := 0
  /-- 0-8 (R345 11_dictionary_access.md). -/
  openSb : Nat := 0
  /-- 0-16 (R345 11_dictionary_access.md). -/
  openSup : Nat := 0
  /-- 0-8 (R345 11_dictionary_access.md). -/
  openPeer : Nat := 0
  /-- List (R357 11_dictionary_access.md). -/
  snaps : List Snapshot := []
  /-- List (R358 11_dictionary_access.md). -/
  wbufs : List WriteBuf := []
  /-- 16 bits (R349 11_dictionary_access.md). -/
  commitCtr : W16 := 0
  /-- Prepares sent in this vote cycle (R349 11_dictionary_access.md). -/
  prepared : Nat := 0
  /-- Groups of this vote cycle with a write that failed (R351 11_dictionary_access.md). -/
  badGroups : List (Master × Nat) := []
  /-- Prepares sent over the slip links (R349 11_dictionary_access.md). -/
  outbox : List Commit := []
  /-- Commits this lane holds open or not yet in force (R350 11_dictionary_access.md). -/
  known : List Commit := []
  /-- 5 subindices (R375 12_dictionary_index.md). -/
  staging : List Staging := [{}, {}, {}, {}, {}]
  /-- 3 x 32 bits (R375 12_dictionary_index.md). -/
  progRes : Res3 := {}
  /-- Last answer (R356 11_dictionary_access.md). -/
  resp : Option Resp := none
  /-- Responses to the host that wait for an own service slot (R359 11_dictionary_access.md). -/
  hostOut : List Resp := []
  deriving DecidableEq, Repr

/-- One entry of an input set (R45). -/
structure Entry where
  /-- 8 bits (R53 02_vote_cycle_and_fault_tolerance.md). -/
  num : Nat := 0
  /-- 1 bit (R45 02_vote_cycle_and_fault_tolerance.md). -/
  valid : Bool := false
  /-- 16 bits (R45 02_vote_cycle_and_fault_tolerance.md). -/
  seq : W16 := 0
  /-- Integer form, or 96-bit content (R529 02_vote_cycle_and_fault_tolerance.md). -/
  val : Int := 0
  deriving DecidableEq, Repr

/-- The module's own per-lane entries of an input set (R529). -/
structure PerLane where
  /-- Per slip link (R48 02_vote_cycle_and_fault_tolerance.md). -/
  linkClean : Tri Bool := ⟨false, false, false⟩
  /-- 1 bit (R54 02_vote_cycle_and_fault_tolerance.md). -/
  timeValid : Bool := false
  /-- Angle source of each winding set (R179 05_rotor_position.md). -/
  asrc : Oct ASrc := Oct.all .unmapped
  /-- Set in a fault wait or isolated (R206 06_gate_drive_and_bridge_protection.md). -/
  wait : Oct Bool := Oct.all false
  /-- Set isolated (R36 01_three_lanes_one_module.md). -/
  isol : Oct Bool := Oct.all false
  /-- Volts (R235 07_dc_link_and_braking_energy.md). -/
  vdc : Rat := 0
  /-- 1 bit (R235 07_dc_link_and_braking_energy.md). -/
  linkLow : Bool := false
  /-- 1 bit (R235 07_dc_link_and_braking_energy.md). -/
  uv2 : Bool := false
  /-- 1 bit (R227 07_dc_link_and_braking_energy.md). -/
  regenCut : Bool := false
  /-- 1 bit (R228 07_dc_link_and_braking_energy.md). -/
  ov3 : Bool := false
  /-- 1 bit (R230 07_dc_link_and_braking_energy.md). -/
  hwHold : Bool := false
  /-- List (R351 11_dictionary_access.md). -/
  votes : List Vote := []
  /-- 1 bit (R437 15_power_states_and_startup.md). -/
  exit : Bool := false
  /-- 1 bit (R445 15_power_states_and_startup.md). -/
  entry : Bool := false
  /-- 2 bits (R440 15_power_states_and_startup.md). -/
  pstate : PState := .starting
  /-- Clean count (R440 15_power_states_and_startup.md). -/
  clean : Nat := 0
  deriving DecidableEq, Repr

/-- An input set (R45). -/
structure InSet where
  /-- 2 bits (R45 02_vote_cycle_and_fault_tolerance.md). -/
  sender : LaneId := .A
  /-- 2 bits (R45 02_vote_cycle_and_fault_tolerance.md). -/
  role : Role := .out
  /-- 32 bits (R45 02_vote_cycle_and_fault_tolerance.md). -/
  cycle : W32 := 0
  /-- Network time at input close (R45 02_vote_cycle_and_fault_tolerance.md). -/
  closeNs : Nat := 0
  /-- Self-check state (R45 02_vote_cycle_and_fault_tolerance.md). -/
  selfOk : Bool := true
  /-- List (R45 02_vote_cycle_and_fault_tolerance.md). -/
  entries : List Entry := []
  /-- Record (R529 02_vote_cycle_and_fault_tolerance.md). -/
  own : PerLane := {}
  deriving DecidableEq, Repr

/-- One agreed input (R49, R50). -/
structure Agreed where
  /-- 8 bits (R53 02_vote_cycle_and_fault_tolerance.md). -/
  num : Nat := 0
  /-- 1 bit (R49 02_vote_cycle_and_fault_tolerance.md). -/
  valid : Bool := false
  /-- New in this cycle (R87 03_steering_and_braking_services.md). -/
  isNew : Bool := false
  /-- Last agreed sequence number (R50 02_vote_cycle_and_fault_tolerance.md). -/
  seq : W16 := 0
  /-- A sequence number was agreed before (R50 02_vote_cycle_and_fault_tolerance.md). -/
  seen : Bool := false
  /-- Integer form or content (R49 02_vote_cycle_and_fault_tolerance.md). -/
  val : Int := 0
  /-- Per-lane class values (R49 02_vote_cycle_and_fault_tolerance.md). -/
  per : Tri (Option Int) := ⟨none, none, none⟩
  deriving DecidableEq, Repr

/-- Tracking of one lane's source of one input (R52). -/
structure Source where
  /-- 8 bits (R52 02_vote_cycle_and_fault_tolerance.md). -/
  num : Nat := 0
  /-- 2 bits (R52 02_vote_cycle_and_fault_tolerance.md). -/
  lane : LaneId := .A
  /-- 0-63 (R52 02_vote_cycle_and_fault_tolerance.md). -/
  run : Nat := 0
  /-- 1 bit (R52 02_vote_cycle_and_fault_tolerance.md). -/
  isolated : Bool := false
  deriving DecidableEq, Repr

/-- An output set (R55). -/
structure OutSet where
  /-- 2 bits (R55 02_vote_cycle_and_fault_tolerance.md). -/
  sender : LaneId := .A
  /-- Torque demand per actuator (R55 02_vote_cycle_and_fault_tolerance.md). -/
  demand : Oct Rat := Oct.all 0
  /-- Torque share per winding set (R55 02_vote_cycle_and_fault_tolerance.md). -/
  share : Tri (Oct Rat) := ⟨Oct.all 0, Oct.all 0, Oct.all 0⟩
  /-- Q-axis setpoint per winding set (R126 04_field_engines.md). -/
  iq : Tri (Oct Rat) := ⟨Oct.all 0, Oct.all 0, Oct.all 0⟩
  /-- Service outputs (R55 02_vote_cycle_and_fault_tolerance.md). -/
  status : W32 := 0
  /-- Commit decisions (R353 11_dictionary_access.md). -/
  decisions : List (LaneId × W16 × Bool) := []
  /-- The agreed inputs, in place of their part of the 64-bit digest (R55 02_vote_cycle_and_fault_tolerance.md). -/
  inputs : List Agreed := []
  /-- The agreed per-lane entries, in place of their part of the digest (R55, R529 02_vote_cycle_and_fault_tolerance.md). -/
  own : Tri (Option PerLane) := ⟨none, none, none⟩
  deriving DecidableEq, Repr

/-- Vote cycle, role and redundancy of the lane (chapter 02). -/
structure VoteG where
  /-- 32 bits, vote cycle number (R41 02_vote_cycle_and_fault_tolerance.md). -/
  cycle : W32 := 0
  /-- Network time of the cycle's start (R41 02_vote_cycle_and_fault_tolerance.md). -/
  startNs : Nat := 0
  /-- The lane runs vote cycles (R42 02_vote_cycle_and_fault_tolerance.md). -/
  running : Bool := false
  /-- 2 bits (R68 02_vote_cycle_and_fault_tolerance.md). -/
  role : Role := .out
  /-- Role change due at the next cycle start (R75 02_vote_cycle_and_fault_tolerance.md). -/
  roleDue : Option Role := none
  /-- Stop line releases at tAPPLY (R74 02_vote_cycle_and_fault_tolerance.md). -/
  relAtApply : Bool := false
  /-- LEAD field (R83 02_vote_cycle_and_fault_tolerance.md). -/
  lead : Option LaneId := none
  /-- Drivers of the cycle as the lane knows them (R59 02_vote_cycle_and_fault_tolerance.md). -/
  drivers : Tri Bool := ⟨false, false, false⟩
  /-- Own input set (R45 02_vote_cycle_and_fault_tolerance.md). -/
  inset : Option InSet := none
  /-- Peers' sets held (R46 02_vote_cycle_and_fault_tolerance.md). -/
  rx : Tri (Option InSet) := ⟨none, none, none⟩
  /-- Held copy is direct (R46 02_vote_cycle_and_fault_tolerance.md). -/
  rxDirect : Tri Bool := ⟨false, false, false⟩
  /-- Agreed input set (R49 02_vote_cycle_and_fault_tolerance.md). -/
  agreed : List Agreed := []
  /-- Agreed per-lane entries (R49 02_vote_cycle_and_fault_tolerance.md). -/
  agreedOwn : Tri (Option PerLane) := ⟨none, none, none⟩
  /-- List (R52 02_vote_cycle_and_fault_tolerance.md). -/
  sources : List Source := []
  /-- PEERS field (R70 02_vote_cycle_and_fault_tolerance.md). -/
  contact : Tri Bool := ⟨false, false, false⟩
  /-- 1 bit (R70 02_vote_cycle_and_fault_tolerance.md). -/
  split : Bool := false
  /-- Freeze offset, us (R56 02_vote_cycle_and_fault_tolerance.md). -/
  frozenUs : Option Nat := none
  /-- Own output set (R55 02_vote_cycle_and_fault_tolerance.md). -/
  outSet : Option OutSet := none
  /-- Sets held for the compare (R59 02_vote_cycle_and_fault_tolerance.md). -/
  offered : Tri (Option OutSet) := ⟨none, none, none⟩
  /-- Self-flag carried with each offered set (R58 02_vote_cycle_and_fault_tolerance.md). -/
  selfFlags : Tri Bool := ⟨false, false, false⟩
  /-- Own set self-flagged (R58 02_vote_cycle_and_fault_tolerance.md). -/
  selfFlag : Bool := false
  /-- Agreed output of the cycle (R59 02_vote_cycle_and_fault_tolerance.md). -/
  agreedOut : Option OutSet := none
  /-- The latest agreed output, of this cycle or an earlier one (R281 08_tsuvas_network.md). -/
  latestOut : Option OutSet := none
  /-- UNRES field (R83 02_vote_cycle_and_fault_tolerance.md). -/
  unres : Bool := false
  /-- Consecutive deadline misses (R57 02_vote_cycle_and_fault_tolerance.md). -/
  missRun : Nat := 0
  /-- Cycle counts of misses, last 1,000 (R57 02_vote_cycle_and_fault_tolerance.md). -/
  missHist : List Nat := []
  /-- 32 bits, DEADLINE_MISSES (R83 02_vote_cycle_and_fault_tolerance.md). -/
  misses : W32 := 0
  /-- Consecutive unresolved cycles (R62 02_vote_cycle_and_fault_tolerance.md). -/
  unresRun : Nat := 0
  /-- Cycle counts of unresolved disagreements (R62 02_vote_cycle_and_fault_tolerance.md). -/
  unresHist : List Nat := []
  /-- 32 bits, UNRESOLVED (R83 02_vote_cycle_and_fault_tolerance.md). -/
  unresolved : W32 := 0
  /-- Consecutive three-way disagreements (R61 02_vote_cycle_and_fault_tolerance.md). -/
  threeRun : Nat := 0
  /-- Consecutive cycles without a driver's set (R61 02_vote_cycle_and_fault_tolerance.md). -/
  noneRun : Nat := 0
  /-- Cycle counts of state divergences (R66 02_vote_cycle_and_fault_tolerance.md). -/
  divHist : List Nat := []
  /-- Vote cycles since the lane's start (R57 02_vote_cycle_and_fault_tolerance.md). -/
  cycles : Nat := 0
  /-- 16 bits, CLEAN_COUNT (R73 02_vote_cycle_and_fault_tolerance.md). -/
  clean : W16 := 0
  /-- This cycle is not clean (R73 02_vote_cycle_and_fault_tolerance.md). -/
  dirty : Bool := false
  /-- A complete state copy was taken this cycle (R67 02_vote_cycle_and_fault_tolerance.md). -/
  adopted : Bool := false
  /-- The lane sent the state copy this cycle (R65 02_vote_cycle_and_fault_tolerance.md). -/
  copyOut : Bool := false
  /-- The time tCOPY + 150 µs of the running cycle has passed (R67 02_vote_cycle_and_fault_tolerance.md). -/
  copyOver : Bool := false
  /-- CFG_DIGEST equals the copied state's (R354 11_dictionary_access.md). -/
  digestOk : Bool := false
  /-- LANE_STATUS of the last completed cycle (R380 12_dictionary_index.md). -/
  lastLane : Nat := 0
  /-- REDUND_STATUS of the last completed cycle (R380 12_dictionary_index.md). -/
  lastRedund : Nat := 0x30
  /-- Commit decisions of the cycle (R353 11_dictionary_access.md). -/
  decisions : List (LaneId × W16 × Bool) := []
  /-- The time tAGREE of the running cycle has passed (R49 02_vote_cycle_and_fault_tolerance.md). -/
  agreedNow : Bool := false
  /-- Service tasks ended in the running cycle, 0-9 (R116 03_steering_and_braking_services.md). -/
  tasks : Nat := 0
  /-- The release condition of a stop held in the last completed cycle (R114 03_steering_and_braking_services.md). -/
  lastRelOk : Bool := false
  /-- Lanes whose exit flag or entry has been agreed (R439 15_power_states_and_startup.md). -/
  gone : Tri Bool := ⟨false, false, false⟩
  /-- Peers this lane runs uncompared from (R70 02_vote_cycle_and_fault_tolerance.md). -/
  alone : Tri Bool := ⟨false, false, false⟩
  /-- Drivers that fell silent without a lane-out since contact was last judged (R70, R82
  02_vote_cycle_and_fault_tolerance.md). -/
  silent : Tri Bool := ⟨false, false, false⟩
  /-- A lane-out by R57 is due at the compare (R57 02_vote_cycle_and_fault_tolerance.md). -/
  missOut : Bool := false
  /-- SERVICE_STATUS of the last completed cycle (R118 03_steering_and_braking_services.md). -/
  lastStatus : W32 := 0
  /-- Times of lane-out reactions (R72 02_vote_cycle_and_fault_tolerance.md). -/
  outs : List Nat := []
  /-- HELD field (R72 02_vote_cycle_and_fault_tolerance.md). -/
  held : Bool := false
  /-- A lane-out reaction is in force (R80 02_vote_cycle_and_fault_tolerance.md). -/
  outNow : Bool := false
  /-- Code of the lane-out (R449 15_power_states_and_startup.md). -/
  outCause : W16 := 0
  /-- PSTATE was RUN at the lane-out (R450 15_power_states_and_startup.md). -/
  wasRun : Bool := false
  /-- PASSIVE entered (R78 02_vote_cycle_and_fault_tolerance.md). -/
  passive : Bool := false
  /-- A driver has existed since module start (R88 03_steering_and_braking_services.md). -/
  everDrove : Bool := false
  deriving DecidableEq, Repr

/-- A lane's view of one slip link (R48). -/
structure LinkView where
  /-- 1 bit (R48 02_vote_cycle_and_fault_tolerance.md). -/
  inUse : Bool := true
  /-- Carried valid data in the last cycle (R48 02_vote_cycle_and_fault_tolerance.md). -/
  valid : Bool := true
  /-- Cycles without valid data (R48 02_vote_cycle_and_fault_tolerance.md). -/
  badRun : Nat := 0
  /-- Cycles both reports were clean (R48 02_vote_cycle_and_fault_tolerance.md). -/
  cleanRun : Nat := 0
  /-- Times of isolation, 600 s (R48 02_vote_cycle_and_fault_tolerance.md). -/
  isolTimes : List Nat := []
  /-- Isolated until a lane restarts (R48 02_vote_cycle_and_fault_tolerance.md). -/
  barred : Bool := false
  /-- Slip-link error counter (R19 01_three_lanes_one_module.md). -/
  errors : W32 := 0
  /-- Every message of this cycle passed (R48 02_vote_cycle_and_fault_tolerance.md). -/
  goodNow : Bool := true
  /-- Every message the peer's role required came and passed in the cycle before (R48 02_vote_cycle_and_fault_tolerance.md). -/
  goodPrev : Bool := true
  /-- A direct input set came this cycle (R48 02_vote_cycle_and_fault_tolerance.md). -/
  gotIn : Bool := false
  /-- A direct output set came this cycle (R48 02_vote_cycle_and_fault_tolerance.md). -/
  gotOut : Bool := false
  /-- A state copy came this cycle (R48 02_vote_cycle_and_fault_tolerance.md). -/
  gotCopy : Bool := false
  /-- A relayed set came over the link this cycle (R48 02_vote_cycle_and_fault_tolerance.md). -/
  gotRelay : Bool := false
  /-- The peer's set failed its check this cycle and that was recorded (R46 02_vote_cycle_and_fault_tolerance.md). -/
  errNow : Bool := false
  deriving DecidableEq, Repr

/-- The lane's slip links (R16-R19, R48). -/
structure LinkG where
  /-- Record (R48 02_vote_cycle_and_fault_tolerance.md). -/
  ab : LinkView := {}
  /-- Record (R48 02_vote_cycle_and_fault_tolerance.md). -/
  bc : LinkView := {}
  /-- Record (R48 02_vote_cycle_and_fault_tolerance.md). -/
  ca : LinkView := {}
  deriving DecidableEq, Repr

/-- Slip control of one brake actuator (R109). -/
structure SlipWheel where
  /-- 2 bits (R109 03_steering_and_braking_services.md). -/
  st : SlipState := .apply
  /-- N (R109 03_steering_and_braking_services.md). -/
  cs : Rat := 0
  /-- Ms (R109 03_steering_and_braking_services.md). -/
  th : Rat := 0
  deriving DecidableEq, Repr

/-- Contact position of one brake actuator (R107). -/
structure ContactSt where
  /-- Shaft degrees (R107 03_steering_and_braking_services.md). -/
  inUse : Rat := 0
  /-- Pending master value (R107 03_steering_and_braking_services.md). -/
  pending : Option Rat := none
  /-- Clamp has risen, candidate awaited (R107 03_steering_and_braking_services.md). -/
  learning : Bool := false
  deriving DecidableEq, Repr

/-- The controlled stop (R110-R114). -/
structure Stop where
  /-- STOP_ACTIVE (R110 03_steering_and_braking_services.md). -/
  active : Bool := false
  /-- CAUSE_HOST (R110 03_steering_and_braking_services.md). -/
  host : Bool := false
  /-- CAUSE_SIMPLEX (R110 03_steering_and_braking_services.md). -/
  simplex : Bool := false
  /-- CAUSE_INPUT (R110 03_steering_and_braking_services.md). -/
  input : Bool := false
  /-- CAUSE_SOURCE (R110 03_steering_and_braking_services.md). -/
  source : Bool := false
  /-- CAUSE_ACT (R110 03_steering_and_braking_services.md). -/
  act : Bool := false
  /-- Deceleration at the start of the stop (R112 03_steering_and_braking_services.md). -/
  start : Rat := 0
  /-- Aprof, m/s2 (R112 03_steering_and_braking_services.md). -/
  prof : Rat := 0
  /-- Ms of curvature hold left (R111 03_steering_and_braking_services.md). -/
  holdMs : Rat := 0
  /-- Curvature allocated in the last cycle before the stop, 1/m (R111 03_steering_and_braking_services.md). -/
  curv : Rat := 0
  /-- STEER_RAMP (R111 03_steering_and_braking_services.md). -/
  ramp : Bool := false
  /-- A curvature command agreed since the host fell silent (R114 03_steering_and_braking_services.md). -/
  newCurv : Bool := false
  /-- A deceleration command agreed since the host fell silent (R114 03_steering_and_braking_services.md). -/
  newDecel : Bool := false
  /-- A committed release is due (R114 03_steering_and_braking_services.md). -/
  release : Bool := false
  deriving DecidableEq, Repr

/-- The state vector: everything the services carry from cycle to cycle (R65, R84). -/
structure Svc where
  /-- 16 bits (R87 03_steering_and_braking_services.md). -/
  ageCurv : W16 := 0
  /-- 16 bits (R87 03_steering_and_braking_services.md). -/
  ageDecel : W16 := 0
  /-- 16 bits (R87 03_steering_and_braking_services.md). -/
  ageHw : W16 := 0
  /-- 16 bits (R87 03_steering_and_braking_services.md). -/
  agePedal : W16 := 0
  /-- 16 bits per wheel input (R87 03_steering_and_braking_services.md). -/
  ageWheel : List W16 := []
  /-- 16 bits per axle (R87 03_steering_and_braking_services.md). -/
  ageLoad : List W16 := []
  /-- Host silence of the curvature command armed (R88, R110 03_steering_and_braking_services.md). -/
  armCurv : Bool := false
  /-- Host silence of the deceleration command armed (R88, R110 03_steering_and_braking_services.md). -/
  armDecel : Bool := false
  /-- Steering start hold (R88 03_steering_and_braking_services.md). -/
  holdSteer : Bool := true
  /-- Braking start hold (R88 03_steering_and_braking_services.md). -/
  holdBrake : Bool := true
  /-- Held angles taken (R88 03_steering_and_braking_services.md). -/
  heldSet : Bool := false
  /-- Held axle angles, degrees (R534 03_steering_and_braking_services.md). -/
  heldAng : Oct Rat := Oct.all 0
  /-- Axles still converging (R534 03_steering_and_braking_services.md). -/
  converging : Oct Bool := Oct.all false
  /-- 1/m (R86 03_steering_and_braking_services.md). -/
  hostCurv : Rat := 0
  /-- 1/m per s (R86 03_steering_and_braking_services.md). -/
  hostRate : Rat := 0
  /-- M/s2 (R86 03_steering_and_braking_services.md). -/
  hostDecel : Rat := 0
  /-- Handwheel curve on (R93 03_steering_and_braking_services.md). -/
  hwOn : Bool := false
  /-- Pedal curve on (R93 03_steering_and_braking_services.md). -/
  pedalOn : Bool := false
  /-- Handwheel curve output, 1/m (R95 03_steering_and_braking_services.md). -/
  hwOut : Rat := 0
  /-- Pedal curve output, m/s2 (R95 03_steering_and_braking_services.md). -/
  pedalOut : Rat := 0
  /-- Agreed pedal position of the cycle, % (R90 03_steering_and_braking_services.md). -/
  pedalPos : Rat := 0
  /-- STEER_SRC (R89 03_steering_and_braking_services.md). -/
  steerHw : Bool := false
  /-- BRAKE_SRC (R89 03_steering_and_braking_services.md). -/
  brakePed : Bool := false
  /-- Allocated curvature (R97 03_steering_and_braking_services.md). -/
  kappa : Rat := 0
  /-- ANGLE_LIM (R97 03_steering_and_braking_services.md). -/
  angleLim : Bool := false
  /-- RATE_LIM (R97 03_steering_and_braking_services.md). -/
  rateLim : Bool := false
  /-- Shaft reference, degrees (R96 03_steering_and_braking_services.md). -/
  thetaRef : Oct Rat := Oct.all 0
  /-- Previous shaft reference (R99 03_steering_and_braking_services.md). -/
  thetaPrev : Oct Rat := Oct.all 0
  /-- N m (R99 03_steering_and_braking_services.md). -/
  integ : Oct Rat := Oct.all 0
  /-- Integrator of a loop whose torque sharing does not limit in this cycle, N m (R99 03_steering_and_braking_services.md). -/
  integNext : Oct Rat := Oct.all 0
  /-- Limited by sharing in the cycle before (R99 03_steering_and_braking_services.md). -/
  sharingLim : Oct Bool := Oct.all false
  /-- Torque demand, N m (R99 03_steering_and_braking_services.md). -/
  demand : Oct Rat := Oct.all 0
  /-- Deceleration demand a (R102 03_steering_and_braking_services.md). -/
  decel : Rat := 0
  /-- Wheel force per actuator, N (R103 03_steering_and_braking_services.md). -/
  axleForce : Oct Rat := Oct.all 0
  /-- Clamp demand, N (R105 03_steering_and_braking_services.md). -/
  clamp : Oct Rat := Oct.all 0
  /-- Clamp demand of the cycle before (R107 03_steering_and_braking_services.md). -/
  clampPrev : Oct Rat := Oct.all 0
  /-- Clamps held at standstill (R113 03_steering_and_braking_services.md). -/
  standHold : Option (Oct Rat) := none
  /-- SHORTFALL (R105 03_steering_and_braking_services.md). -/
  shortfall : Bool := false
  /-- LOAD_DEF (R87 03_steering_and_braking_services.md). -/
  loadDef : Bool := false
  /-- Reference speed, m/s (R108 03_steering_and_braking_services.md). -/
  vref : Option Rat := none
  /-- STANDSTILL (R113 03_steering_and_braking_services.md). -/
  standstill : Bool := false
  /-- Record per actuator (R109 03_steering_and_braking_services.md). -/
  slip : Oct SlipWheel := Oct.all {}
  /-- Record per actuator (R107 03_steering_and_braking_services.md). -/
  contact : Oct ContactSt := Oct.all {}
  /-- Record (R110 03_steering_and_braking_services.md). -/
  stop : Stop := {}
  /-- LIMP (R115 03_steering_and_braking_services.md). -/
  limp : Bool := false
  /-- Ms, 0-30,000 per winding set (R77 02_vote_cycle_and_fault_tolerance.md). -/
  budget : Tri (Oct Rat) := ⟨Oct.all 30000, Oct.all 30000, Oct.all 30000⟩
  /-- Ramp step per winding set (R74 02_vote_cycle_and_fault_tolerance.md). -/
  ramp : Tri (Oct (Option Nat)) := ⟨Oct.all none, Oct.all none, Oct.all none⟩
  /-- Exit ramp step per lane (R438 15_power_states_and_startup.md). -/
  exitStep : Tri (Option Nat) := ⟨none, none, none⟩
  /-- Winding set working (R36 01_three_lanes_one_module.md). -/
  working : Tri (Oct Bool) := ⟨Oct.all false, Oct.all false, Oct.all false⟩
  /-- N m per winding set (R36 01_three_lanes_one_module.md). -/
  share : Tri (Oct Rat) := ⟨Oct.all 0, Oct.all 0, Oct.all 0⟩
  /-- Lead of the state (R68 02_vote_cycle_and_fault_tolerance.md). -/
  lead : Option LaneId := none
  /-- 32 bits (R354 11_dictionary_access.md). -/
  cfgGen : W32 := 0
  deriving DecidableEq, Repr

/-- The measured values of one carrier period (Table 4.8). -/
structure BrMeas where
  /-- I_OFFSET, A (R150 04_field_engines.md). -/
  offset : Rat := 0
  /-- ID_MEAS, A (R150 04_field_engines.md). -/
  id : Rat := 0
  /-- IQ_MEAS, A (R150 04_field_engines.md). -/
  iq : Rat := 0
  /-- V_CMD, V (R150 04_field_engines.md). -/
  v : Rat := 0
  /-- ID_FW, A (R150 04_field_engines.md). -/
  idfw : Rat := 0
  /-- LOCK_ERR, ns (R150 04_field_engines.md). -/
  err : Rat := 0
  deriving DecidableEq, Repr

/-- One bridge of the field engine (chapter 04). -/
structure Bridge where
  /-- MODE, 3 bits (R146 04_field_engines.md). -/
  mode : Mode := .disabled
  /-- A rank 3 request stands (R146 04_field_engines.md). -/
  short : Bool := false
  /-- A rank 4 request stands (R146 04_field_engines.md). -/
  off : Bool := false
  /-- PULSED_SHORT in place of ALL_OFF (R175 05_rotor_position.md). -/
  pulsed : Bool := false
  /-- Passive state entered (R78 02_vote_cycle_and_fault_tolerance.md). -/
  passive : Option Mode := none
  /-- Codes of the faults that isolate the set (R149 04_field_engines.md). -/
  isolKinds : List Nat := []
  /-- LOCK (R124 04_field_engines.md). -/
  lock : Bool := false
  /-- Periods with small phase error (R124 04_field_engines.md). -/
  lockRun : Nat := 0
  /-- LOCK_ERR, ns (R124 04_field_engines.md). -/
  lockErr : Rat := 0
  /-- Phase error beyond 1 us (R125 04_field_engines.md). -/
  lockFar : Bool := false
  /-- Phase correction, ticks (R123 04_field_engines.md). -/
  delta : Int := 0
  /-- Fraction of a tick carried to the next period (R123 04_field_engines.md). -/
  frac : Rat := 0
  /-- Carrier started (R124 04_field_engines.md). -/
  started : Bool := false
  /-- Pending setpoint, A (R127 04_field_engines.md). -/
  spPending : Option Rat := none
  /-- Released setpoint, A (R127 04_field_engines.md). -/
  spReleased : Rat := 0
  /-- Setpoint before the released one (R127 04_field_engines.md). -/
  spPrev : Rat := 0
  /-- Network time from which it is valid (R127 04_field_engines.md). -/
  validFrom : Nat := 0
  /-- Network time of the running period's start (R121 04_field_engines.md). -/
  startNs : Nat := 0
  /-- Ticks of the running period (R123 04_field_engines.md). -/
  curLen : Nat := 0
  /-- Ticks of the next period (R123 04_field_engines.md). -/
  len : Nat := 0
  /-- Vdc sampled by the drive die at the start of the running period, V (R132 04_field_engines.md). -/
  vdc : Rat := 0
  /-- The running period's samples are discarded (R147 04_field_engines.md) or were lost (R457 16_clocks_and_heat.md). -/
  noSample : Bool := false
  /-- No setpoints released in the running vote cycle (R128 04_field_engines.md). -/
  stale : Bool := false
  /-- STALE_SP: the same of the last vote cycle (R150 04_field_engines.md). -/
  staleLast : Bool := false
  /-- Edges repeated in the running vote cycle (R129 04_field_engines.md). -/
  overrun : Bool := false
  /-- OVERRUN: the same of the last vote cycle (R150 04_field_engines.md). -/
  overLast : Bool := false
  /-- Consecutive overruns (R129 04_field_engines.md). -/
  overRun : Nat := 0
  /-- SAT (R145 04_field_engines.md). -/
  sat : Bool := false
  /-- Periods with SAT (R145 04_field_engines.md). -/
  satRun : Nat := 0
  /-- Periods with tracking error (R149 04_field_engines.md). -/
  trackRun : Nat := 0
  /-- Periods with FW_LIM (R136 04_field_engines.md). -/
  fwRun : Nat := 0
  /-- CURLIM (R134 04_field_engines.md). -/
  curlim : Bool := false
  /-- VLIM (R133 04_field_engines.md). -/
  vlim : Bool := false
  /-- FW (R135 04_field_engines.md). -/
  fw : Bool := false
  /-- FW_LIM (R136 04_field_engines.md). -/
  fwlim : Bool := false
  /-- SHIFT: the running period's edges are shifted (R141 04_field_engines.md). -/
  shift : Bool := false
  /-- The edges computed for the next period are shifted (R141 04_field_engines.md). -/
  eShift : Bool := false
  /-- 32 bits (R141 04_field_engines.md). -/
  shifted : W32 := 0
  /-- Last 64 offset samples, A (R145 04_field_engines.md). -/
  offsets : List Rat := []
  /-- I_OFFSET, A (R145 04_field_engines.md). -/
  iOffset : Rat := 0
  /-- OFFS_OK (R145 04_field_engines.md). -/
  offsOk : Bool := false
  /-- ID_FW, A (R135 04_field_engines.md). -/
  idfw : Rat := 0
  /-- D integrator (R132 04_field_engines.md). -/
  xd : Rat := 0
  /-- Q integrator (R132 04_field_engines.md). -/
  xq : Rat := 0
  /-- V_CMD, V (R132 04_field_engines.md). -/
  vprev : Rat := 0
  /-- Limited q setpoint of the last period (R132 04_field_engines.md). -/
  iqr : Rat := 0
  /-- ID_MEAS, A (R150 04_field_engines.md). -/
  id : Rat := 0
  /-- IQ_MEAS, A (R150 04_field_engines.md). -/
  iq : Rat := 0
  /-- Phase U current (R137 04_field_engines.md). -/
  iU : Rat := 0
  /-- Phase V current (R137 04_field_engines.md). -/
  iV : Rat := 0
  /-- Phase W current (R137 04_field_engines.md). -/
  iW : Rat := 0
  /-- Duties of the computed period (R132 04_field_engines.md). -/
  duty : Tri3 Rat := ⟨0, 0, 0⟩
  /-- Rising edges, ticks (R141 04_field_engines.md). -/
  rise : Tri3 Int := ⟨0, 0, 0⟩
  /-- Falling edges, ticks (R141 04_field_engines.md). -/
  fall : Tri3 Int := ⟨0, 0, 0⟩
  /-- Phases h, m, l (R137 04_field_engines.md). -/
  order : Tri3 Phase := ⟨.U, .V, .W⟩
  /-- Edges computed for the next period (R127 04_field_engines.md). -/
  computed : Bool := false
  /-- Gate commands of the computed rising edges, ticks from the start of their period; below 0 the command is issued
  in the period before (R139 04_field_engines.md). -/
  cmdRise : Tri3 Rat := ⟨0, 0, 0⟩
  /-- Gate commands of the computed falling edges, ticks (R139 04_field_engines.md). -/
  cmdFall : Tri3 Rat := ⟨0, 0, 0⟩
  /-- Gate commands of the rising edges in force, ticks (R139 04_field_engines.md). -/
  ldCmdRise : Tri3 Rat := ⟨0, 0, 0⟩
  /-- Gate commands of the falling edges in force, ticks (R139 04_field_engines.md). -/
  ldCmdFall : Tri3 Rat := ⟨0, 0, 0⟩
  /-- Measurement vectors of the running period in PULSED_SHORT: the high sides that are on, U, V, W, and the length
  in ticks (R176 05_rotor_position.md). -/
  vectors : List (Tri3 Bool × Nat) := []
  /-- Rising edges in force in the drive die (R129 04_field_engines.md). -/
  loaded : Tri3 Int := ⟨0, 0, 0⟩
  /-- Falling edges in force in the drive die (R129 04_field_engines.md). -/
  loadedFall : Tri3 Int := ⟨0, 0, 0⟩
  /-- Phase order of the edges in force (R137 04_field_engines.md). -/
  loadedOrd : Tri3 Phase := ⟨.U, .V, .W⟩
  /-- Measured delay per leg, rising edge, ns (R139 04_field_engines.md). -/
  advance : Tri3 Rat := ⟨0, 0, 0⟩
  /-- Measured delay per leg, falling edge, ns (R139 04_field_engines.md). -/
  advanceF : Tri3 Rat := ⟨0, 0, 0⟩
  /-- Short low-side intervals per leg (R196 06_gate_drive_and_bridge_protection.md). -/
  lowRun : Tri3 Nat := ⟨0, 0, 0⟩
  /-- Leg refreshed in the next period (R196 06_gate_drive_and_bridge_protection.md). -/
  refresh : Tri3 Bool := ⟨false, false, false⟩
  /-- Commanded alpha voltage (R167 05_rotor_position.md). -/
  vAl : Rat := 0
  /-- Commanded beta voltage (R167 05_rotor_position.md). -/
  vBe : Rat := 0
  /-- Measured values of the last period that ended (R150 04_field_engines.md). -/
  ended : BrMeas := {}
  /-- The same as of the lane's latest input close, as read (R150 04_field_engines.md). -/
  rd : BrMeas := {}
  deriving DecidableEq, Repr

/-- The measured values of one carrier period of a front end (Table 5.6). -/
structure FeMeas where
  /-- THETA_E, degrees (R182 05_rotor_position.md). -/
  theta : Rat := 0
  /-- SHAFT_ANGLE, degrees (R182 05_rotor_position.md). -/
  shaft : Rat := 0
  /-- SHAFT_SPEED, degrees per s (R182 05_rotor_position.md). -/
  spd : Rat := 0
  /-- HFI_RESULT, degrees (R182 05_rotor_position.md). -/
  hfi : Rat := 0
  /-- RES_AMP (R182 05_rotor_position.md). -/
  amp : Rat := 0
  deriving DecidableEq, Repr

/-- A response at the injection frequency: its sums against cosine and sine (R165). -/
structure Resp2 where
  /-- Sum against the cosine (R165 05_rotor_position.md). -/
  c : Rat := 0
  /-- Sum against the sine (R165 05_rotor_position.md). -/
  s : Rat := 0
  deriving DecidableEq, Repr

/-- What the injection check has measured (R165). -/
structure HfiSums where
  /-- Periods since the check began (R165 05_rotor_position.md). -/
  k : Nat := 0
  /-- D-axis response of step 1 (R166 05_rotor_position.md). -/
  d : Resp2 := {}
  /-- Q-axis response of step 1 (R165 05_rotor_position.md). -/
  q : Resp2 := {}
  /-- Ripple under +HFI_BIAS (R165 05_rotor_position.md). -/
  pos : Resp2 := {}
  /-- Ripple under -HFI_BIAS (R165 05_rotor_position.md). -/
  neg : Resp2 := {}
  deriving DecidableEq, Repr

/-- One position front end and its winding set's angle source (chapter 05). -/
structure FrontEnd where
  /-- Position in one sensor revolution, 0-1 (R152 05_rotor_position.md). -/
  phi : Rat := 0
  /-- Network time of the position sample (R160 05_rotor_position.md). -/
  phiNs : Nat := 0
  /-- Sensor electrical revolutions per s (R160 05_rotor_position.md). -/
  speed : Rat := 0
  /-- REV_COUNT, 32 bits signed, kept (R154 05_rotor_position.md). -/
  revs : Int := 0
  /-- REV_COUNT stored in nonvolatile memory (R154 05_rotor_position.md). -/
  revsNv : Int := 0
  /-- THETA_E, degrees (R152 05_rotor_position.md). -/
  thetaE : Rat := 0
  /-- SHAFT_ANGLE, degrees (R152 05_rotor_position.md). -/
  shaft : Rat := 0
  /-- SHAFT_SPEED, degrees per s (R152 05_rotor_position.md). -/
  shaftSpd : Rat := 0
  /-- Electrical speed of the source, rad/s (R164 05_rotor_position.md). -/
  we : Rat := 0
  /-- ASRC, 3 bits (R164 05_rotor_position.md). -/
  asrc : ASrc := .unmapped
  /-- Source that a transition takes at the next period boundary (R164 05_rotor_position.md). -/
  due : Option ASrc := none
  /-- SENS_ISOL (R164 05_rotor_position.md). -/
  sensIsol : Bool := false
  /-- Withheld pairs, amplitude low (R158 05_rotor_position.md). -/
  lowRun : Nat := 0
  /-- Withheld pairs, amplitude high (R158 05_rotor_position.md). -/
  highRun : Nat := 0
  /-- RES_AMP (R158 05_rotor_position.md). -/
  resAmp : Rat := 0
  /-- Measured values of the last period that ended (R182 05_rotor_position.md). -/
  ended : FeMeas := {}
  /-- The same as of the latest input close, as read (R182 05_rotor_position.md). -/
  rd : FeMeas := {}
  /-- A pair withheld in the running vote cycle (R158 05_rotor_position.md). -/
  ampFlag : Bool := false
  /-- AMP: the same of the last vote cycle (R182 05_rotor_position.md). -/
  ampLast : Bool := false
  /-- Fault 0x03 has switched the excitation off (R159 05_rotor_position.md). -/
  excCut : Bool := false
  /-- The next pair belongs to the second half period of the excitation (R157 05_rotor_position.md). -/
  excHalf : Bool := false
  /-- EXC (R159 05_rotor_position.md). -/
  excFlag : Bool := false
  /-- Updates with tracking error (R160 05_rotor_position.md). -/
  trackRun : Nat := 0
  /-- Error above 5 degrees in the running vote cycle (R160 05_rotor_position.md). -/
  trackFlag : Bool := false
  /-- TRACK: the same of the last vote cycle (R182 05_rotor_position.md). -/
  trackLast : Bool := false
  /-- Request running, MA clocks (R162 05_rotor_position.md). -/
  bissPending : Bool := false
  /-- First MA edge of the latest request, network time (R162 05_rotor_position.md). -/
  bissNs : Nat := 0
  /-- Line delay measured from the latest frame's acknowledge, ns (R161 05_rotor_position.md). -/
  lineNs : Nat := 0
  /-- Sensor revolutions at the latest accepted frame's sample and that sample's network time
  (R162 05_rotor_position.md). -/
  sample : Option (Rat × Nat) := none
  /-- Consecutive discarded frames (R163 05_rotor_position.md). -/
  bissRun : Nat := 0
  /-- Consecutive frames with nE low (R163 05_rotor_position.md). -/
  neRun : Nat := 0
  /-- A frame discarded in the running vote cycle (R163 05_rotor_position.md). -/
  frameFlag : Bool := false
  /-- FRAME: the same of the last vote cycle (R182 05_rotor_position.md). -/
  frameLast : Bool := false
  /-- 32 bits (R163 05_rotor_position.md). -/
  frameErrors : W32 := 0
  /-- The bit nW was low in the running vote cycle (R163 05_rotor_position.md). -/
  warn : Bool := false
  /-- ENC_WARN: the same of the last vote cycle (R182 05_rotor_position.md). -/
  warnLast : Bool := false
  /-- MODULATE was entered since lane start (R164 05_rotor_position.md). -/
  modulated : Bool := false
  /-- 0 idle, 1 injection, 2 bias +, 3 bias - (R165 05_rotor_position.md). -/
  hfiPhase : Nat := 0
  /-- Sums of the running check (R165 05_rotor_position.md). -/
  hfi : HfiSums := {}
  /-- HFI_RESULT (R165 05_rotor_position.md). -/
  hfiResult : Rat := 0
  /-- HFI_DONE (R166 05_rotor_position.md). -/
  hfiDone : Bool := false
  /-- HFI_NA (R166 05_rotor_position.md). -/
  hfiNa : Bool := false
  /-- Observer angle, rad (R167 05_rotor_position.md). -/
  thObs : Rat := 0
  /-- Observer speed, rad/s (R167 05_rotor_position.md). -/
  wObs : Rat := 0
  /-- Periods the observer agrees (R168 05_rotor_position.md). -/
  okRun : Nat := 0
  /-- OBS_OK (R168 05_rotor_position.md). -/
  obsOk : Bool := false
  /-- Periods of implausibility (R168 05_rotor_position.md). -/
  plausRun : Nat := 0
  /-- Periods with residual above OBS_RES (R172 05_rotor_position.md). -/
  resRun : Nat := 0
  /-- Previous alpha current (R167 05_rotor_position.md). -/
  iAlPrev : Rat := 0
  /-- Previous beta current (R167 05_rotor_position.md). -/
  iBePrev : Rat := 0
  /-- Times of rotor losses (R178 05_rotor_position.md). -/
  losses : List Nat := []
  /-- Network time at which the loss was declared (R175, R178 05_rotor_position.md). -/
  lostNs : Nat := 0
  /-- Consistent estimates (R177 05_rotor_position.md). -/
  acqRun : Nat := 0
  /-- Last estimate, rad (R177 05_rotor_position.md). -/
  acqLast : Option Rat := none
  /-- Measured speed, rad/s (R176 05_rotor_position.md). -/
  acqW : Option Rat := none
  /-- SHAFT_INV (R171 05_rotor_position.md). -/
  shaftInv : Bool := false
  deriving DecidableEq, Repr

/-- Gate drive of one bridge (chapter 06). -/
structure Gate where
  /-- 6 gate outputs commanded on (R183 06_gate_drive_and_bridge_protection.md). -/
  onOut : BitVec 6 := 0
  /-- Source steps (high, low) per phase, 0-15 (R189 06_gate_drive_and_bridge_protection.md). -/
  src : Tri3 (Nat × Nat) := ⟨(8, 8), (8, 8), (8, 8)⟩
  /-- Sink steps (high, low) per phase, 0-15 (R189 06_gate_drive_and_bridge_protection.md). -/
  snk : Tri3 (Nat × Nat) := ⟨(8, 8), (8, 8), (8, 8)⟩
  /-- Out-of-band runs at a limit (R192 06_gate_drive_and_bridge_protection.md). -/
  limRun : Tri3 (Nat × Nat) := ⟨(0, 0), (0, 0), (0, 0)⟩
  /-- DEAD_TIME the bridge still uses until it is DISABLED, none where the object's value is in use (R188
  06_gate_drive_and_bridge_protection.md). -/
  deadHeld : Option Nat := none
  /-- TSW, ns (R190 06_gate_drive_and_bridge_protection.md). -/
  tsw : Tri3 (Rat × Rat) := ⟨(0, 0), (0, 0), (0, 0)⟩
  /-- TSW as read, of the latest input close (R216 06_gate_drive_and_bridge_protection.md). -/
  rdTsw : Tri3 (Rat × Rat) := ⟨(0, 0), (0, 0), (0, 0)⟩
  /-- TSW as of the last period that ended (R216 06_gate_drive_and_bridge_protection.md). -/
  endTsw : Tri3 (Rat × Rat) := ⟨(0, 0), (0, 0), (0, 0)⟩
  /-- Periods without valid crossing (rise, fall) (R193 06_gate_drive_and_bridge_protection.md). -/
  noValid : Tri3 (Nat × Nat) := ⟨(0, 0), (0, 0), (0, 0)⟩
  /-- DESAT (R200 06_gate_drive_and_bridge_protection.md). -/
  desat : BitVec 6 := 0
  /-- OC (R201 06_gate_drive_and_bridge_protection.md). -/
  oc : Bool := false
  /-- GFB (R194 06_gate_drive_and_bridge_protection.md). -/
  gfb : Bool := false
  /-- BS_UV (R197 06_gate_drive_and_bridge_protection.md). -/
  bsUv : Tri3 Bool := ⟨false, false, false⟩
  /-- R192 met in the running vote cycle (R192 06_gate_drive_and_bridge_protection.md). -/
  drvLim : Bool := false
  /-- DRV_LIM: the same of the last vote cycle (R216 06_gate_drive_and_bridge_protection.md). -/
  drvLast : Bool := false
  /-- Outputs under soft turn-off (R202 06_gate_drive_and_bridge_protection.md). -/
  soft : BitVec 6 := 0
  /-- An episode is open (R203 06_gate_drive_and_bridge_protection.md). -/
  episode : Bool := false
  /-- KIND of the first detection (R203 06_gate_drive_and_bridge_protection.md). -/
  epKind : Nat := 0
  /-- PRECHARGE (R198 06_gate_drive_and_bridge_protection.md). -/
  precharge : Bool := false
  /-- WAIT (R205 06_gate_drive_and_bridge_protection.md). -/
  wait : Bool := false
  /-- KIND of the fault event (R205 06_gate_drive_and_bridge_protection.md). -/
  waitKind : Nat := 0
  /-- A try is running (R207 06_gate_drive_and_bridge_protection.md). -/
  trying : Bool := false
  /-- Times of tries (R208 06_gate_drive_and_bridge_protection.md). -/
  tries : List Nat := []
  /-- LATCH, kept (R208 06_gate_drive_and_bridge_protection.md). -/
  latch : Bool := false
  /-- LATCHED_KIND, kept (R208 06_gate_drive_and_bridge_protection.md). -/
  latchedKind : Byte := 0
  /-- TESTING (R211 06_gate_drive_and_bridge_protection.md). -/
  testing : Bool := false
  /-- Master of the test, none in a start (R211 06_gate_drive_and_bridge_protection.md). -/
  testBy : Option Master := none
  /-- SELFTEST_RESULT x 3 (R211 06_gate_drive_and_bridge_protection.md). -/
  result : Res3 := {}
  deriving DecidableEq, Repr

/-- DC link and chopper (chapter 07). -/
structure DcLink where
  /-- Network time of the last x_VDC sample (R308 09_time_base_and_timed_actions.md). -/
  vdcNs : Nat := 0
  /-- VDC_MEAS, V (R217 07_dc_link_and_braking_energy.md). -/
  vdc : Rat := 0
  /-- CHOP_I, A (R217 07_dc_link_and_braking_energy.md). -/
  chi : Rat := 0
  /-- VDC_MEAS as read, of the latest input close (R237 07_dc_link_and_braking_energy.md). -/
  rdVdc : Rat := 0
  /-- CHOP_I as read, of the latest input close (R237 07_dc_link_and_braking_energy.md). -/
  rdChi : Rat := 0
  /-- OV1 (R219 07_dc_link_and_braking_energy.md). -/
  ov1 : Bool := false
  /-- OV2 (R219 07_dc_link_and_braking_energy.md). -/
  ov2 : Bool := false
  /-- OV3 (R228 07_dc_link_and_braking_energy.md). -/
  ov3 : Bool := false
  /-- HW_HOLD (R229 07_dc_link_and_braking_energy.md). -/
  hwHold : Bool := false
  /-- REGEN_CUT (R226 07_dc_link_and_braking_energy.md). -/
  regenCut : Bool := false
  /-- LINK_LOW (R233 07_dc_link_and_braking_energy.md). -/
  linkLow : Bool := false
  /-- UV2 (R234 07_dc_link_and_braking_energy.md). -/
  uv2 : Bool := false
  /-- Last 4 samples (R217 07_dc_link_and_braking_energy.md). -/
  recent : List Rat := []
  /-- CHOP_ON (R221 07_dc_link_and_braking_energy.md). -/
  chopOn : Bool := false
  /-- Samples since the chopper last switched (R221 07_dc_link_and_braking_energy.md). -/
  chopRun : Nat := 0
  /-- CHOP_FAULT, kept (R222 07_dc_link_and_braking_energy.md). -/
  chopFault : Bool := false
  /-- CHOP_HOT (R224 07_dc_link_and_braking_energy.md). -/
  chopHot : Bool := false
  /-- KIND of the chopper fault (R222 07_dc_link_and_braking_energy.md). -/
  chopFaultKind : Nat := 0
  /-- Consecutive open failures (R222 07_dc_link_and_braking_energy.md). -/
  openRun : Nat := 0
  /-- Consecutive wrong-value failures (R222 07_dc_link_and_braking_energy.md). -/
  wrongRun : Nat := 0
  /-- Consecutive conducting failures (R222 07_dc_link_and_braking_energy.md). -/
  condRun : Nat := 0
  /-- CHOP_ENERGY, J (R224 07_dc_link_and_braking_energy.md). -/
  energy : Rat := 2500
  /-- CTEST, 2 bits (R225 07_dc_link_and_braking_energy.md). -/
  ctest : Nat := 0
  /-- Chopper test running (R225 07_dc_link_and_braking_energy.md). -/
  testing : Bool := false
  /-- Checks the running test has made (R225 07_dc_link_and_braking_energy.md). -/
  testChecks : Nat := 0
  /-- KIND of the running test's first failed check, 0 for none (R225 07_dc_link_and_braking_energy.md). -/
  testKind : Nat := 0
  /-- Times of HW_OV trips (R230 07_dc_link_and_braking_energy.md). -/
  hwTimes : List Nat := []
  /-- HW_TRIPS, 32 bits, kept (R230 07_dc_link_and_braking_energy.md). -/
  hwTrips : W32 := 0
  /-- Rounds with disagreeing readings (R218 07_dc_link_and_braking_energy.md). -/
  senseRun : Nat := 0
  deriving DecidableEq, Repr

/-- Counts of one static slot (R279). -/
structure SlotCount where
  /-- 32 bits (R279 08_tsuvas_network.md). -/
  empty : W32 := 0
  /-- 32 bits (R279 08_tsuvas_network.md). -/
  invalid : W32 := 0
  deriving DecidableEq, Repr

/-- One sync deviation (R269). -/
structure SyncVal where
  /-- 5 bits (R269 08_tsuvas_network.md). -/
  node : Nat := 0
  /-- Ns (R269 08_tsuvas_network.md). -/
  dev : Int := 0
  /-- Channel X value (R269 08_tsuvas_network.md). -/
  onX : Bool := false
  deriving DecidableEq, Repr

/-- A stored frame of one slot (R246, R256). -/
structure RxFrame where
  /-- 1 bit (R257 08_tsuvas_network.md). -/
  ch : Chan := .X
  /-- 8 bits (R257 08_tsuvas_network.md). -/
  slot : Nat := 0
  /-- Bytes (R246 08_tsuvas_network.md). -/
  payload : List Byte := []
  /-- Arrived since the previous tCLOSE (R532 02_vote_cycle_and_fault_tolerance.md). -/
  fresh : Bool := false
  /-- Arrival, network time (R334 10_uplink_contracts_and_telemetry.md). -/
  arrNs : Nat := 0
  /-- End of its slot, network time (R256 08_tsuvas_network.md). -/
  endNs : Nat := 0
  deriving DecidableEq, Repr

/-- One transmit buffer (R255). -/
structure TxBuf where
  /-- 7 bits (R257 08_tsuvas_network.md). -/
  buf : Nat := 0
  /-- READY (R255 08_tsuvas_network.md). -/
  ready : Bool := false
  /-- Network time at which READY was set, ns (R255 08_tsuvas_network.md). -/
  readyNs : Nat := 0
  /-- Agreed outputs the buffer carries (R281 08_tsuvas_network.md). -/
  out : Option OutSet := none
  /-- Status word the buffer carries (R281 08_tsuvas_network.md). -/
  status : W32 := 0
  /-- DIR 2 regions it carries: offset and bytes (R337 10_uplink_contracts_and_telemetry.md). -/
  regions : List (Nat × List Byte) := []
  deriving DecidableEq, Repr

/-- A frame the lane launched in an own slot (R255). -/
structure TxSent where
  /-- 1 bit (R255 08_tsuvas_network.md). -/
  ch : Chan := .X
  /-- 8 bits (R255 08_tsuvas_network.md). -/
  slot : Nat := 0
  /-- 1 bit (R255 08_tsuvas_network.md). -/
  service : Bool := false
  /-- A fill frame (R255 08_tsuvas_network.md). -/
  fill : Bool := false
  /-- Network cycle (R255 08_tsuvas_network.md). -/
  cycle : Nat := 0
  /-- Agreed outputs it carries (R281 08_tsuvas_network.md). -/
  out : Option OutSet := none
  /-- Status word it carries (R281 08_tsuvas_network.md). -/
  status : W32 := 0
  /-- DIR 2 regions it carries (R337 10_uplink_contracts_and_telemetry.md). -/
  regions : List (Nat × List Byte) := []
  /-- Its header, 16 bytes (R243 08_tsuvas_network.md). -/
  header : List Byte := []
  /-- The sync block of a sync frame, 16 bytes (R244 08_tsuvas_network.md). -/
  sync : List Byte := []
  /-- Network time of its launch, ns (R255 08_tsuvas_network.md). -/
  atNs : Nat := 0
  /-- Its bytes from the destination address to the FCS (R242 08_tsuvas_network.md). -/
  bytes : List Byte := []
  /-- The lane ended it after a collision (R261 08_tsuvas_network.md). -/
  cut : Bool := false
  deriving DecidableEq, Repr

/-- One Tsuvas channel of the lane with its star (chapter 08). -/
structure Channel where
  /-- 7 x 32 bits (R280 08_tsuvas_network.md). -/
  blocks : List W32 := [0, 0, 0, 0, 0, 0, 0]
  /-- 6 x 1 bit (R241 08_tsuvas_network.md). -/
  linkUp : List Bool := [false, false, false, false, false, false]
  /-- Counts by slot (R279 08_tsuvas_network.md). -/
  slots : List (Nat × SlotCount) := []
  /-- X_LOST, Y_LOST (R276 08_tsuvas_network.md). -/
  lost : Bool := false
  /-- A valid frame came this cycle (R276 08_tsuvas_network.md). -/
  gotFrame : Bool := false
  /-- Cycles without a valid frame (R276 08_tsuvas_network.md). -/
  lostRun : Nat := 0
  /-- Cycles with a valid frame (R276 08_tsuvas_network.md). -/
  okRun : Nat := 0
  /-- End of the frame the star repeats, network time (R248 08_tsuvas_network.md). -/
  busyUntil : Nat := 0
  /-- Port admitted (R248 08_tsuvas_network.md). -/
  busyPort : Nat := 7
  /-- Network time of the admitted start, ns (R249 08_tsuvas_network.md). -/
  busyNs : Nat := 0
  /-- Ports 0-5 and the internal port that the star repeats the frame to (R248 08_tsuvas_network.md). -/
  outPorts : List Bool := [false, false, false, false, false, false, false]
  /-- Network time at which the repetition starts, ns (R248 08_tsuvas_network.md). -/
  outNs : Nat := 0
  /-- Network time at which the star ends the frame, ns (R250, R251 08_tsuvas_network.md). -/
  limitNs : Nat := 0
  /-- The star ended the frame with a transmit-error symbol (R250 08_tsuvas_network.md). -/
  cut : Bool := false
  /-- Starts per port this cycle, OPEN mode (R251 08_tsuvas_network.md). -/
  openStarts : List Nat := [0, 0, 0, 0, 0, 0, 0]
  /-- Blocked this cycle (R278 08_tsuvas_network.md). -/
  blockedNow : List Bool := [false, false, false, false, false, false, false]
  /-- Cycles with blocks (R278 08_tsuvas_network.md). -/
  blockedRun : List Nat := [0, 0, 0, 0, 0, 0, 0]
  /-- Static slots of the cycle in which a frame start reached the receiver (R279 08_tsuvas_network.md). -/
  started : List Nat := []
  /-- Static slots of the cycle of which a frame passed (R279 08_tsuvas_network.md). -/
  passed : List Nat := []
  deriving DecidableEq, Repr

/-- The lane's Tsuvas node (chapter 08). -/
structure Node where
  /-- 4 bits (R259 08_tsuvas_network.md). -/
  state : NState := .halt
  /-- Network cycle number, low 32 bits CYCLE_NOW (R240 08_tsuvas_network.md). -/
  cycleNow : Nat := 0
  /-- Record (R247 08_tsuvas_network.md). -/
  x : Channel := {}
  /-- Record (R247 08_tsuvas_network.md). -/
  y : Channel := {}
  /-- Stored frames (R246 08_tsuvas_network.md). -/
  rxFrames : List RxFrame := []
  /-- Transmit buffers (R255 08_tsuvas_network.md). -/
  txBufs : List TxBuf := []
  /-- GUARD_OPEN (R251 08_tsuvas_network.md). -/
  guardOpen : Bool := true
  /-- Guardian holdover runs (R251 08_tsuvas_network.md). -/
  holdover : Bool := false
  /-- BACKOFF (R261 08_tsuvas_network.md). -/
  backoff : Bool := false
  /-- LEADER (R260 08_tsuvas_network.md). -/
  leader : Bool := false
  /-- Cycles in COLDSTART (R263 08_tsuvas_network.md). -/
  csCycles : Nat := 0
  /-- First network cycle in which the node sends its cold-start frame (R260 08_tsuvas_network.md). -/
  csFrom : Nat := 0
  /-- Consecutive confirming cycles (R263 08_tsuvas_network.md). -/
  csConfirm : Nat := 0
  /-- A confirming frame came this cycle (R263 08_tsuvas_network.md). -/
  csSeen : Bool := false
  /-- The observed cycle is invalid (R265 08_tsuvas_network.md). -/
  obsBad : Bool := false
  /-- Cycles observed since the time was set (R265 08_tsuvas_network.md). -/
  obsCycle : Nat := 0
  /-- Cold-start nodes seen in the observed cycle (R265 08_tsuvas_network.md). -/
  csNodes : Nat := 0
  /-- Deviations of this cycle (R269 08_tsuvas_network.md). -/
  devNow : List SyncVal := []
  /-- Deviations of the even cycle (R270 08_tsuvas_network.md). -/
  devEven : List SyncVal := []
  /-- Designated EXT_CORR with its node (R273 08_tsuvas_network.md). -/
  extDes : Option (Nat × Int) := none
  /-- SYNC_COUNT, 4 bits (R280 08_tsuvas_network.md). -/
  syncCount : Nat := 0
  /-- Cycles with fewer than 2 values (R266 08_tsuvas_network.md). -/
  lowSync : Nat := 0
  /-- Ns, 16 bits signed (R280 08_tsuvas_network.md). -/
  ocorrLast : Rat := 0
  /-- 16 bits signed, ns per cycle (R270 08_tsuvas_network.md). -/
  rcorr : Rat := 0
  /-- 16 bits signed (R280 08_tsuvas_network.md). -/
  extLast : Int := 0
  /-- EXT_APPLIED (R280 08_tsuvas_network.md). -/
  extApplied : Bool := false
  /-- EXTSRC (R274 08_tsuvas_network.md). -/
  extSrc : Bool := false
  /-- EXT_CORR the lane sends, ns (R274 08_tsuvas_network.md). -/
  extReq : Int := 0
  /-- 32 bits (R260 08_tsuvas_network.md). -/
  startups : W32 := 0
  /-- 32 bits (R261 08_tsuvas_network.md). -/
  collisions : W32 := 0
  /-- 32 bits (R271 08_tsuvas_network.md). -/
  mutes : W32 := 0
  /-- 32 bits (R246 08_tsuvas_network.md). -/
  authFail : W32 := 0
  /-- 32 bits (R255 08_tsuvas_network.md). -/
  txEmpty : W32 := 0
  /-- 32 bits (R282 08_tsuvas_network.md). -/
  cpOverrun : W32 := 0
  /-- NET_LOST (R277 08_tsuvas_network.md). -/
  netLost : Bool := false
  /-- Vote cycles without network (R277 08_tsuvas_network.md). -/
  netBad : Nat := 0
  /-- Vote cycles with network (R277 08_tsuvas_network.md). -/
  netGood : Nat := 0
  /-- TIME_MISM (R268 08_tsuvas_network.md). -/
  timeMism : Bool := false
  /-- No integration attempt until 1 s has passed (R268 08_tsuvas_network.md). -/
  barred : Bool := false
  /-- Cluster time compared within 5 us (R268 08_tsuvas_network.md). -/
  peerOk : Bool := false
  /-- R267 allows the lane to lead (R267 08_tsuvas_network.md). -/
  mayLead : Bool := false
  /-- SCHED_STATUS, 16 bits (R283 08_tsuvas_network.md). -/
  schedStatus : Nat := 0
  /-- Schedule objects loaded at step 7 (R258 08_tsuvas_network.md). -/
  sched : Store := []
  /-- The last frame the lane launched (R255 08_tsuvas_network.md). -/
  lastTx : Option TxSent := none
  deriving DecidableEq, Repr

/-- Time base (chapter 09). -/
structure TimeBase where
  /-- Network time in ns: SEC 48 bits and NS 30 bits (R285 09_time_base_and_timed_actions.md). -/
  ns : Nat := 0
  /-- 32 bits (R285 09_time_base_and_timed_actions.md). -/
  frac : BitVec 32 := 0
  /-- Ns since supply, never set (model's own) (R453 16_clocks_and_heat.md). -/
  mono : Nat := 0
  /-- 2 bits (R292 09_time_base_and_timed_actions.md). -/
  state : TState := .invalid
  /-- The time base has been seeded since the start (R291 09_time_base_and_timed_actions.md). -/
  seeded : Bool := false
  /-- 36 bits (R287 09_time_base_and_timed_actions.md). -/
  incBase : Nat := 0x200000000
  /-- Fraction steps (R287 09_time_base_and_timed_actions.md). -/
  rateInc : Int := 0
  /-- 64 bits, kept (R287 09_time_base_and_timed_actions.md). -/
  incLearned : Nat := 0x200000000
  /-- Predicted crystal deviation when INC_LEARNED was taken, ppm, kept (R287 09_time_base_and_timed_actions.md). -/
  learnPpm : Rat := 0
  /-- Ns still to slew (R288 09_time_base_and_timed_actions.md). -/
  slewRem : Rat := 0
  /-- Ticks left (R288 09_time_base_and_timed_actions.md). -/
  slewTicks : Nat := 0
  /-- TIME_UNC at entry to HOLDOVER, ns (R292 09_time_base_and_timed_actions.md). -/
  unc0 : Nat := 0
  /-- Network time of that entry (R292 09_time_base_and_timed_actions.md). -/
  unc0At : Nat := 0
  /-- DISC (R294 09_time_base_and_timed_actions.md). -/
  disc : Bool := false
  /-- Offset of the last vote cycle (R294 09_time_base_and_timed_actions.md). -/
  discLast : Option Int := none
  /-- Cluster counter minus network time, ns (CLU_CNT) (R290 09_time_base_and_timed_actions.md). -/
  cluster : Option Int := none
  /-- SEEDED_PEER (R291 09_time_base_and_timed_actions.md). -/
  seedPeer : Bool := false
  /-- SEEDED_UPL (R291 09_time_base_and_timed_actions.md). -/
  seedUpl : Bool := false
  /-- SEEDED_AO (R291 09_time_base_and_timed_actions.md). -/
  seedAo : Bool := false
  /-- LAST_SET, ns (R289 09_time_base_and_timed_actions.md). -/
  lastSet : Nat := 0
  /-- 32 bits (R289 09_time_base_and_timed_actions.md). -/
  sets : W32 := 0
  /-- LAST_TIME, ns, kept (R291 09_time_base_and_timed_actions.md). -/
  lastTime : Nat := 0
  deriving DecidableEq, Repr

/-- Uplink clock (R295-R300). -/
structure UplClock where
  /-- 2 bits (R298 09_time_base_and_timed_actions.md). -/
  state : UState := .unset
  /-- 64 bits signed, ns (R296 09_time_base_and_timed_actions.md). -/
  offset : Int := 0
  /-- 32 bits signed, 0.001 ppb (R296 09_time_base_and_timed_actions.md). -/
  rate : Int := 0
  /-- Network time of the last update (R296 09_time_base_and_timed_actions.md). -/
  updNs : Nat := 0
  /-- UPL_UNC, ns (R300 09_time_base_and_timed_actions.md). -/
  unc : Nat := 0
  /-- GM_ID, 64 bits (R315 09_time_base_and_timed_actions.md). -/
  gm : W64 := 0
  /-- Selected grandmaster (R297 09_time_base_and_timed_actions.md). -/
  gmSel : W64 := 0
  /-- CAND_OFFSET, 64 bits signed (R298 09_time_base_and_timed_actions.md). -/
  cand : Int := 0
  /-- Network time of the candidate (R298 09_time_base_and_timed_actions.md). -/
  candNs : Nat := 0
  /-- CAND_COUNT, 8 bits (R298 09_time_base_and_timed_actions.md). -/
  candCount : Nat := 0
  /-- Accept_pending (R299 09_time_base_and_timed_actions.md). -/
  accept : Bool := false
  /-- UPL_STEPS, 32 bits (R298 09_time_base_and_timed_actions.md). -/
  steps : W32 := 0
  /-- UPL_REFUSED, 32 bits (R298 09_time_base_and_timed_actions.md). -/
  refused : W32 := 0
  /-- STEP_TAKEN (R298 09_time_base_and_timed_actions.md). -/
  stepTaken : Bool := false
  /-- STEP_REFUSED (R298 09_time_base_and_timed_actions.md). -/
  stepRefused : Bool := false
  /-- GM_CHANGED (R298 09_time_base_and_timed_actions.md). -/
  gmChanged : Bool := false
  /-- GM_SELF (R297 09_time_base_and_timed_actions.md). -/
  gmSelf : Bool := false
  /-- LINK (R316 10_uplink_contracts_and_telemetry.md). -/
  link : Bool := false
  /-- Sync messages sent, sequenceId (R297 09_time_base_and_timed_actions.md). -/
  syncSent : W16 := 0
  /-- UPL_STATUS bits set in this vote cycle (R12 00_scope.md). -/
  w1cNow : W16 := 0
  deriving DecidableEq, Repr

/-- One transmit timestamp (R302). -/
structure Stamp where
  /-- STAMP, network time (R302 09_time_base_and_timed_actions.md). -/
  ns : Nat := 0
  /-- FRAC[31:30] (R286 09_time_base_and_timed_actions.md). -/
  quarter : Nat := 0
  /-- 16 bits (R302 09_time_base_and_timed_actions.md). -/
  tag : W16 := 0
  /-- 8 bits (R302 09_time_base_and_timed_actions.md). -/
  flags : Byte := 0
  /-- 8 bits (R302 09_time_base_and_timed_actions.md). -/
  port : Nat := 0
  deriving DecidableEq, Repr

/-- One timestamp queue (R302-R304). -/
structure Queue where
  /-- 0-16 entries (R302 09_time_base_and_timed_actions.md). -/
  items : List Stamp := []
  /-- OVF (R303 09_time_base_and_timed_actions.md). -/
  ovf : Bool := false
  /-- Overflow in this vote cycle (R12 00_scope.md). -/
  ovfNow : Bool := false
  /-- TSQ_OVF, 32 bits (R303 09_time_base_and_timed_actions.md). -/
  ovfCount : W32 := 0
  deriving DecidableEq, Repr

/-- Transmit timestamp queues (R302). -/
structure Tsq where
  /-- Record (R302 09_time_base_and_timed_actions.md). -/
  x : Queue := {}
  /-- Record (R302 09_time_base_and_timed_actions.md). -/
  y : Queue := {}
  /-- Record (R302 09_time_base_and_timed_actions.md). -/
  u : Queue := {}
  deriving DecidableEq, Repr

/-- One queued timed action (R305). -/
structure TaEntry where
  /-- 0-95 (R305 09_time_base_and_timed_actions.md). -/
  slot : Nat := 0
  /-- 0 setpoint apply, 1 launch, 2 capture (R305 09_time_base_and_timed_actions.md). -/
  kind : Nat := 0
  /-- DUE, network time (R305 09_time_base_and_timed_actions.md). -/
  dueNs : Nat := 0
  /-- Master, none the control pair (R305 09_time_base_and_timed_actions.md). -/
  owner : Option Master := none
  /-- 16 bits (R305 09_time_base_and_timed_actions.md). -/
  tag : W16 := 0
  /-- 8 bits (R305 09_time_base_and_timed_actions.md). -/
  arg : Nat := 0
  /-- TSREQ (R305 09_time_base_and_timed_actions.md). -/
  tsreq : Bool := false
  /-- Line time of the frame of a launch, ns (R306 09_time_base_and_timed_actions.md). -/
  lineNs : Nat := 0
  /-- Executed late (R306 09_time_base_and_timed_actions.md). -/
  late : Bool := false
  deriving DecidableEq, Repr

/-- Timed actions (R305-R310). -/
structure Ta where
  /-- 0-96 entries (R305 09_time_base_and_timed_actions.md). -/
  entries : List TaEntry := []
  /-- TA_RESULT x 3 (R310 09_time_base_and_timed_actions.md). -/
  result : Res3 := ⟨{ payload := 0xFF }, { payload := 0xFF }, { payload := 0xFF }⟩
  /-- TA_LATE (R315 09_time_base_and_timed_actions.md). -/
  late : W32 := 0
  /-- TA_REJECTED (R315 09_time_base_and_timed_actions.md). -/
  rejected : W32 := 0
  /-- CAP_DATA time (R308 09_time_base_and_timed_actions.md). -/
  capTime : Nat := 0
  /-- CAP_DATA samples (R308 09_time_base_and_timed_actions.md). -/
  capData : List (Int × W32) := []
  /-- Tags of the frames launched, newest first (R307 09_time_base_and_timed_actions.md). -/
  launched : List Nat := []
  deriving DecidableEq, Repr

/-- Sleep record of the always-on domain (R311-R313). -/
structure Sleep where
  /-- Record valid (R311 09_time_base_and_timed_actions.md). -/
  valid : Bool := false
  /-- TE, ns (R311 09_time_base_and_timed_actions.md). -/
  te : Nat := 0
  /-- CE, 56 bits (R311 09_time_base_and_timed_actions.md). -/
  ce : Nat := 0
  /-- NCAL (R311 09_time_base_and_timed_actions.md). -/
  ncal : Nat := 0
  /-- TIME_UNC (R311 09_time_base_and_timed_actions.md). -/
  unc : Option Nat := none
  /-- Always-on counter, 56 bits (R311 09_time_base_and_timed_actions.md). -/
  aoCount : Nat := 0
  deriving DecidableEq, Repr

/-- One delivery contract (R325). -/
structure Contract where
  /-- 0-63 (R325 10_uplink_contracts_and_telemetry.md). -/
  num : Nat := 0
  /-- 16 bits (R325 10_uplink_contracts_and_telemetry.md). -/
  tag : Nat := 0
  /-- 2 bits (R325 10_uplink_contracts_and_telemetry.md). -/
  dir : Nat := 0
  /-- STAMP (R325 10_uplink_contracts_and_telemetry.md). -/
  stamp : Bool := false
  /-- 8 bits (R325 10_uplink_contracts_and_telemetry.md). -/
  dest : Nat := 0
  /-- 16 bits (R325 10_uplink_contracts_and_telemetry.md). -/
  source : Nat := 0
  /-- 16 bits (R325 10_uplink_contracts_and_telemetry.md). -/
  offset : Nat := 0
  /-- 32 bits, us (R325 10_uplink_contracts_and_telemetry.md). -/
  period : Nat := 0
  /-- 16 bits (R325 10_uplink_contracts_and_telemetry.md). -/
  size : Nat := 0
  /-- 16 bits, ms (R325 10_uplink_contracts_and_telemetry.md). -/
  horizon : Nat := 0
  /-- 32 bits, ns (R325 10_uplink_contracts_and_telemetry.md). -/
  latBound : Nat := 0
  /-- 32 bits, us, as assigned (R327 10_uplink_contracts_and_telemetry.md). -/
  phase : Nat := 0
  /-- 32 bits (R336 10_uplink_contracts_and_telemetry.md). -/
  seq : W32 := 0
  /-- MISSED due (R331 10_uplink_contracts_and_telemetry.md). -/
  missed : Bool := false
  /-- An empty window was reported (R331 10_uplink_contracts_and_telemetry.md). -/
  everEmpty : Bool := false
  /-- Production time last sent (R335 10_uplink_contracts_and_telemetry.md). -/
  lastProd : Option Nat := none
  /-- Network time from which its next window opens (model's own count) (R327 10_uplink_contracts_and_telemetry.md). -/
  nextNs : Nat := 0
  /-- Newest DIR 2 payload (R337 10_uplink_contracts_and_telemetry.md). -/
  inData : List Byte := []
  /-- Vote cycles since the last datagram (R337 10_uplink_contracts_and_telemetry.md). -/
  inAge : Nat := 0xFFFF
  /-- Datagrams taken (R337 10_uplink_contracts_and_telemetry.md). -/
  inCount : W16 := 0
  /-- Arrivals and payloads that wait for the next raise, newest last (R337 10_uplink_contracts_and_telemetry.md). -/
  inWait : List (Nat × List Byte) := []
  deriving DecidableEq, Repr

/-- One item of a telemetry snapshot (R333). -/
structure SnapItem where
  /-- 0-15 (R332 10_uplink_contracts_and_telemetry.md). -/
  set : Nat := 0
  /-- 16 bits (R336 10_uplink_contracts_and_telemetry.md). -/
  idx : Nat := 0
  /-- 8 bits (R336 10_uplink_contracts_and_telemetry.md). -/
  sub : Nat := 0
  /-- Production time (R334 10_uplink_contracts_and_telemetry.md). -/
  prodNs : Nat := 0
  /-- Us (R334 10_uplink_contracts_and_telemetry.md). -/
  horizonUs : Nat := 0
  /-- Source valid (R335 10_uplink_contracts_and_telemetry.md). -/
  valid : Bool := true
  /-- No value produced since start (R335 10_uplink_contracts_and_telemetry.md). -/
  never : Bool := false
  /-- 32 bits (R336 10_uplink_contracts_and_telemetry.md). -/
  value : W32 := 0
  deriving DecidableEq, Repr

/-- A telemetry snapshot (R333). -/
structure TSnap where
  /-- Snapshot raise (R333 10_uplink_contracts_and_telemetry.md). -/
  prodNs : Nat := 0
  /-- UPL_OFFSET latched (R333 10_uplink_contracts_and_telemetry.md). -/
  offset : Int := 0
  /-- UPL_RATE latched (R333 10_uplink_contracts_and_telemetry.md). -/
  rate : Int := 0
  /-- USTATE latched (R333 10_uplink_contracts_and_telemetry.md). -/
  ustate : UState := .unset
  /-- UPL_UNC latched (R333 10_uplink_contracts_and_telemetry.md). -/
  unc : Nat := 0
  /-- ROLE at the snapshot (R336 10_uplink_contracts_and_telemetry.md). -/
  role : Role := .out
  /-- MSTATE at the snapshot (R336 10_uplink_contracts_and_telemetry.md). -/
  mstate : Nat := 0
  /-- First snapshot after an uplink step (R336 10_uplink_contracts_and_telemetry.md). -/
  stepped : Bool := false
  /-- List (R333 10_uplink_contracts_and_telemetry.md). -/
  items : List SnapItem := []
  deriving DecidableEq, Repr

/-- One record sent in a contract window (R336). -/
structure Record where
  /-- 16 bits (R336 10_uplink_contracts_and_telemetry.md). -/
  tag : Nat := 0
  /-- 8 bits (R336 10_uplink_contracts_and_telemetry.md). -/
  kind : Nat := 0
  /-- 16 bits (R336 10_uplink_contracts_and_telemetry.md). -/
  src : Nat := 0
  /-- 8 bits (R336 10_uplink_contracts_and_telemetry.md). -/
  stateByte : Nat := 0
  /-- 32 bits (R336 10_uplink_contracts_and_telemetry.md). -/
  seq : W32 := 0
  /-- PROD_TIME in the uplink clock, ns (R336 10_uplink_contracts_and_telemetry.md). -/
  prodUpl : Int := 0
  /-- NEXT_DUE in the uplink clock, ns (R336 10_uplink_contracts_and_telemetry.md). -/
  nextDue : Int := 0
  /-- 32 bits (R336 10_uplink_contracts_and_telemetry.md). -/
  unc : Nat := 0
  /-- 8 bits (R336 10_uplink_contracts_and_telemetry.md). -/
  flags : Nat := 0
  /-- Index, sub, status, PROD_OFS, VALID_OFS, value (R336 10_uplink_contracts_and_telemetry.md). -/
  items : List (Nat × Nat × Nat × Int × Int × Nat) := []
  /-- Forwarded payload (R336 10_uplink_contracts_and_telemetry.md). -/
  payload : List Byte := []
  deriving DecidableEq, Repr

/-- A frame that leaves on the uplink (10_uplink_contracts_and_telemetry.md R317, R319, R336). -/
structure UplFrame where
  /-- VLAN identifier, 0 untagged (R340 10_uplink_contracts_and_telemetry.md). -/
  vid : Nat := 0
  /-- Priority code point (R340 10_uplink_contracts_and_telemetry.md). -/
  pcp : Nat := 0
  /-- Traffic class (R319, R322 10_uplink_contracts_and_telemetry.md). -/
  cls : Nat := 0
  /-- Uplink clock at its first bit, tenths of a ns (R322, R323 10_uplink_contracts_and_telemetry.md). -/
  atT : Int := 0
  /-- The datagram it carries. -/
  dg : Datagram := {}
  deriving DecidableEq, Repr

/-- Delivery contracts and telemetry (chapter 10). -/
structure Ct where
  /-- 0-64, kept (R324 10_uplink_contracts_and_telemetry.md). -/
  list : List Contract := []
  /-- CT_RESULT x 3 (R325 10_uplink_contracts_and_telemetry.md). -/
  result : Res3 := {}
  /-- Latest snapshots, newest first (R333 10_uplink_contracts_and_telemetry.md). -/
  snaps : List TSnap := []
  /-- An uplink step since the last snapshot (R336 10_uplink_contracts_and_telemetry.md). -/
  stepSeen : Bool := false
  /-- Last record sent (R336 10_uplink_contracts_and_telemetry.md). -/
  sent : Option Record := none
  /-- 32 bits (R340 10_uplink_contracts_and_telemetry.md). -/
  winSent : W32 := 0
  /-- 32 bits (R331 10_uplink_contracts_and_telemetry.md). -/
  winMissed : W32 := 0
  /-- 32 bits (R318 10_uplink_contracts_and_telemetry.md). -/
  rxDropped : W32 := 0
  /-- IN_OVERWRITTEN, 32 bits (R337 10_uplink_contracts_and_telemetry.md). -/
  inOver : W32 := 0
  /-- UPL_AUTH_FAIL, 32 bits (R318 10_uplink_contracts_and_telemetry.md). -/
  authFail : W32 := 0
  /-- ARP, neighbour and echo replies sent (R318 10_uplink_contracts_and_telemetry.md). -/
  replies : Nat := 0
  /-- Tag, source address, time of accepted datagrams, 512 (R428 14_security.md). -/
  replay : List (List Byte × List Byte × Nat) := []
  /-- Last frame sent under a contract (R336 10_uplink_contracts_and_telemetry.md, R427 14_security.md). -/
  datagram : Option UplFrame := none
  /-- Last accepted datagram to DICT_PORT (R319 10_uplink_contracts_and_telemetry.md). -/
  asked : Option Datagram := none
  /-- Last reply to one (R319 10_uplink_contracts_and_telemetry.md, R427 14_security.md). -/
  replied : Option UplFrame := none
  deriving DecidableEq, Repr

/-- The value download a side-band session holds pending (R363). -/
structure SbPend where
  /-- 16 bits (R363 11_dictionary_access.md). -/
  idx : Nat := 0
  /-- 8 bits (R363 11_dictionary_access.md). -/
  sub : Nat := 0
  /-- Bytes (R363 11_dictionary_access.md). -/
  data : List Byte := []
  deriving DecidableEq, Repr

/-- The lane's side-band port and session (R360-R364). -/
structure Sb where
  /-- 64 bits, the last challenge read (R362 11_dictionary_access.md). -/
  challenge : Option W64 := none
  /-- 1 bit, SB_SESSION bit 0 (R372 11_dictionary_access.md). -/
  isOpen : Bool := false
  /-- 64 bits, the challenge the session was opened with (R363 11_dictionary_access.md). -/
  bound : W64 := 0
  /-- 32 bits (R362 11_dictionary_access.md). -/
  counter : W32 := 0
  /-- 0-3, SB_SESSION bits 15:8 (R372 11_dictionary_access.md). -/
  tagFails : Nat := 0
  /-- Pending write (R363 11_dictionary_access.md). -/
  pend : Option SbPend := none
  /-- Count of sessions opened (R411 13_safety_inputs_and_seal.md). -/
  sessions : W32 := 0
  /-- Time of the last transaction (R364 11_dictionary_access.md). -/
  lastAt : Nat := 0
  deriving DecidableEq, Repr

/-- One dual-channel safety input (R389-R398). -/
structure SafeIn where
  /-- 1 bit, SI_STATE (R390 13_safety_inputs_and_seal.md). -/
  value : Bool := false
  /-- An agreeing sample has been taken (R390 13_safety_inputs_and_seal.md). -/
  has : Bool := false
  /-- Samples since s0, none while the channels agree (R392 13_safety_inputs_and_seal.md). -/
  dis : Option Nat := none
  /-- 1 bit, discrepancy latched, kept (R398 13_safety_inputs_and_seal.md). -/
  disc : Bool := false
  /-- Level of channel 1 at the last sample (R396 13_safety_inputs_and_seal.md). -/
  ch1 : Bool := false
  /-- Level of channel 2 at the last sample (R396 13_safety_inputs_and_seal.md). -/
  ch2 : Bool := false
  /-- Consecutive failed pulses of channel 1 (R396 13_safety_inputs_and_seal.md). -/
  run1 : Nat := 0
  /-- Consecutive failed pulses of channel 2 (R396 13_safety_inputs_and_seal.md). -/
  run2 : Nat := 0
  /-- 1 bit, test-pulse fault latched, kept (R398 13_safety_inputs_and_seal.md). -/
  tp : Bool := false
  /-- SI_MODE of the last sample (R394 13_safety_inputs_and_seal.md). -/
  modeUsed : Nat := 0
  /-- Network time of the last sample (R390 13_safety_inputs_and_seal.md). -/
  atNs : Nat := 0
  /-- The value before the last sample, none before an agreeing one (R390 13_safety_inputs_and_seal.md). -/
  was : Option Bool := none
  deriving DecidableEq, Repr

/-- One test-pulse output (R395, R396). -/
structure Tpo where
  /-- X_TPOk drives high (R395 13_safety_inputs_and_seal.md). -/
  level : Bool := false
  /-- Consecutive read-back failures (R396 13_safety_inputs_and_seal.md). -/
  run : Nat := 0
  /-- 1 bit, read-back fault latched, kept (R398 13_safety_inputs_and_seal.md). -/
  latched : Bool := false
  deriving DecidableEq, Repr

/-- Safety inputs, safety reset, seal, set selection (chapter 13). -/
structure Safe where
  /-- 8 inputs (R388 13_safety_inputs_and_seal.md). -/
  inp : Oct SafeIn := Oct.all {}
  /-- Record (R395 13_safety_inputs_and_seal.md). -/
  tpo0 : Tpo := {}
  /-- Record (R395 13_safety_inputs_and_seal.md). -/
  tpo1 : Tpo := {}
  /-- A sample has been taken since the lane start (R400 13_safety_inputs_and_seal.md). -/
  sampled : Bool := false
  /-- X_SRST at the last sample (R399 13_safety_inputs_and_seal.md). -/
  srst : Bool := false
  /-- Samples since the press (R399 13_safety_inputs_and_seal.md). -/
  press : Option Nat := none
  /-- Length in samples of a press released at the last sample (R399 13_safety_inputs_and_seal.md). -/
  released : Option Nat := none
  /-- SRST_STATE bit 1 (R400 13_safety_inputs_and_seal.md). -/
  stuck : Bool := false
  /-- SRST_STATE bit 2 (R400 13_safety_inputs_and_seal.md). -/
  atStart : Bool := false
  /-- Consecutive open samples (R402 13_safety_inputs_and_seal.md). -/
  openRun : Nat := 0
  /-- Consecutive samples of equal levels (R402 13_safety_inputs_and_seal.md). -/
  equalRun : Nat := 0
  /-- SEAL (R402 13_safety_inputs_and_seal.md). -/
  sealOpen : Bool := false
  /-- SEAL_STATE bit 1 (R402 13_safety_inputs_and_seal.md). -/
  disagree : Bool := false
  /-- 8 bits, SET_SELECT (R405 13_safety_inputs_and_seal.md). -/
  setSel : Nat := 0xFF
  /-- 8 bits, CHK_IN (R405 13_safety_inputs_and_seal.md). -/
  chkIn : Nat := 0
  /-- The set was restored at this start (R407 13_safety_inputs_and_seal.md). -/
  restored : Bool := false
  /-- CHK_OK (R407 13_safety_inputs_and_seal.md). -/
  chkOk : Bool := false
  deriving DecidableEq, Repr

/-- One change-log entry (Table 13.3). -/
structure Change where
  /-- TIME, network time of the change (R411 13_safety_inputs_and_seal.md). -/
  ns : Nat := 0
  /-- 8 bits (R411 13_safety_inputs_and_seal.md). -/
  kind : Nat := 0
  /-- 2 bits (R411 13_safety_inputs_and_seal.md). -/
  m : Master := .host
  /-- 2 bits (R411 13_safety_inputs_and_seal.md). -/
  tstate : TState := .invalid
  /-- 16 bits (R411 13_safety_inputs_and_seal.md). -/
  masterId : Nat := 0
  /-- 16 bits (R411 13_safety_inputs_and_seal.md). -/
  idx : Nat := 0
  /-- 8 bits (R411 13_safety_inputs_and_seal.md). -/
  sub : Nat := 0
  /-- 16 bits (R411 13_safety_inputs_and_seal.md). -/
  len : Nat := 0
  /-- 32 bits (R411 13_safety_inputs_and_seal.md). -/
  old : W32 := 0
  /-- 32 bits (R411 13_safety_inputs_and_seal.md). -/
  new : W32 := 0
  /-- 32 bits (R411 13_safety_inputs_and_seal.md). -/
  seq : W32 := 0
  deriving DecidableEq, Repr

/-- DS2 compatibility method (R408-R411). -/
structure Ds2 where
  /-- UNLOCK_HOST (R413 13_safety_inputs_and_seal.md). -/
  unlockHost : Bool := false
  /-- UNLOCK_SB (R413 13_safety_inputs_and_seal.md). -/
  unlockSb : Bool := false
  /-- FAILS, 4 bits (R413 13_safety_inputs_and_seal.md). -/
  fails : Nat := 0
  /-- BLOCKED (R413 13_safety_inputs_and_seal.md). -/
  blocked : Bool := false
  /-- 8 bits, DS2_STORE read (R413 13_safety_inputs_and_seal.md). -/
  lastStore : Nat := 0xFF
  /-- 64 x 32 bytes, CHANGE_LOG, kept, newest first (R411 13_safety_inputs_and_seal.md). -/
  log : List Change := []
  /-- Entries since delivery, kept (R411 13_safety_inputs_and_seal.md). -/
  seq : W32 := 0
  /-- 16 bits, SRC of the host's last service frame (R411 13_safety_inputs_and_seal.md). -/
  hostSrc : Nat := 0
  deriving DecidableEq, Repr

/-- One firmware bank (R420). -/
structure Bank where
  /-- Key hash, signature and digest verify (R420 14_security.md). -/
  ok : Bool := true
  /-- 32 bits (R423 14_security.md). -/
  version : W32 := 0
  /-- 32 bits (R423 14_security.md). -/
  floor : W32 := 0
  /-- 32 bits (R375 12_dictionary_index.md). -/
  crc : W32 := 0
  deriving DecidableEq, Repr

/-- Keys, secure boot, debug access (chapter 14). -/
structure Sec where
  /-- KEY_STATUS, 16 bits (R383 12_dictionary_index.md). -/
  written : BitVec 16 := 0
  /-- Contents of key slots 0-15 in OTP: 16 bytes of an AES key, 64 of a public key, none unwritten (R417
  14_security.md; log entry 136). -/
  keys : List (List Byte) := List.replicate 16 []
  /-- Transport key in the factory OTP (R417 14_security.md; log entry 136). -/
  transport : BitVec 128 := 0
  /-- SHA-256 of Everaty's firmware public key in the factory OTP (R417 14_security.md; log entry 136). -/
  fwHash : BitVec 256 := 0
  /-- SHA-256 of Everaty's debug key in the factory OTP (R430 14_security.md; log entry 136). -/
  dbgHash : BitVec 256 := 0
  /-- Everaty's debug public key, x then y, as the lane holds it beside its hash (R430 14_security.md; log entry 136). -/
  dbgKey : List Byte := []
  /-- KEY_REVOKED, 16 bits, kept (R433 14_security.md). -/
  revoked : BitVec 16 := 0
  /-- Slots that serve, 16 bits: a revoked slot stops at the next network cycle (R419 14_security.md). -/
  serving : BitVec 16 := 0
  /-- Firmware bank 0 (R420 14_security.md). -/
  bank0 : Bank := {}
  /-- Firmware bank 1 (R420 14_security.md). -/
  bank1 : Bank := { ok := false }
  /-- ACTIVE, 1 bit, kept (R433 14_security.md). -/
  active : Nat := 0
  /-- BOOTED, 1 bit (R433 14_security.md). -/
  booted : Nat := 0
  /-- FALLBACK (R433 14_security.md). -/
  fallback : Bool := false
  /-- BANK0_OK (R433 14_security.md). -/
  bank0Ok : Bool := false
  /-- BANK1_OK (R433 14_security.md). -/
  bank1Ok : Bool := false
  /-- BOOT_OK (R380 12_dictionary_index.md). -/
  bootOk : Bool := false
  /-- Version of the running firmware, as FW_VERSION (R379 12_dictionary_index.md). -/
  running : W32 := 0
  /-- MIN_FW_VERSION, 32 bits, kept (R422 14_security.md). -/
  minFw : W32 := 0
  /-- Last debug challenge not yet used (R430 14_security.md). -/
  dbgChallenge : Option W64 := none
  /-- DBG_FAILS, 2 bits (R433 14_security.md). -/
  dbgFails : Nat := 0
  /-- DBG_BLOCKED (R433 14_security.md). -/
  dbgBlocked : Bool := false
  /-- DEBUG (R380 12_dictionary_index.md). -/
  debug : Bool := false
  /-- Register the instruction register of the test access port selects: 0 IDCODE, 1 BYPASS, 2 KEYPROV (R418 14_security.md). -/
  ir : Nat := 0
  /-- Data register selected by IDCODE or BYPASS at Capture-DR (R430 14_security.md). -/
  dr : W64 := 0
  /-- Byte 0 of the KEYPROV register (R418 14_security.md). -/
  keyprov : Nat := 0
  deriving DecidableEq, Repr

/-- Power states, start sequence, pins of the lane (chapters 15 and 18). -/
structure Pwr where
  /-- PSTATE, 2 bits (R434 15_power_states_and_startup.md). -/
  state : PState := .starting
  /-- START_STEP, 4 bits (R380 12_dictionary_index.md). -/
  step : Nat := 0
  /-- The lane stays at this restore step (R448 15_power_states_and_startup.md). -/
  stuckAt : Bool := false
  /-- START, 2 bits (R380 12_dictionary_index.md). -/
  kind : Nat := 0
  /-- WEDGE_OK (R380 12_dictionary_index.md). -/
  wedgeOk : Bool := false
  /-- Steps 1-8 have ended, the lane waits to enter SHADOW (R450 15_power_states_and_startup.md). -/
  waitShadow : Bool := false
  /-- Start reference (R449 15_power_states_and_startup.md). -/
  startRef : Nat := 0
  /-- Instant the restore step began (model's own) (R448 15_power_states_and_startup.md). -/
  stepRef : Nat := 0
  /-- START_TIME, 32 bits (R452 15_power_states_and_startup.md). -/
  startTime : W32 := 0
  /-- Instant of the last start, for UPTIME (R379 12_dictionary_index.md). -/
  upSince : Nat := 0
  /-- PENDING, 2 bits (R452 15_power_states_and_startup.md). -/
  pending : Nat := 0
  /-- EXIT (R452 15_power_states_and_startup.md). -/
  exit : Bool := false
  /-- Request the exit serves: 2 HOLD, 3 STANDBY, 4 OFF (R437 15_power_states_and_startup.md). -/
  exitTo : Nat := 0
  /-- Every driver exits: PASSIVE holds (R438 15_power_states_and_startup.md). -/
  exitPassive : Bool := false
  /-- ENTRY_PHASE, 3 bits (R452 15_power_states_and_startup.md). -/
  phase : Nat := 0
  /-- Target of the entry is OFF (R441 15_power_states_and_startup.md). -/
  toOff : Bool := false
  /-- The entry is being abandoned (R446 15_power_states_and_startup.md). -/
  abandon : Bool := false
  /-- The sleep record of this entry has been latched (R447 15_power_states_and_startup.md). -/
  asleep : Bool := false
  /-- LATCHED (R452 15_power_states_and_startup.md). -/
  latched : Bool := false
  /-- WAKE_SRC, 8 bits (R383 12_dictionary_index.md). -/
  wakeSrc : Byte := 0
  /-- The monitor domain is powered (R361 11_dictionary_access.md). -/
  monUp : Bool := true
  /-- The stop line is asserted (R24 01_three_lanes_one_module.md). -/
  stopLine : Bool := true
  /-- X_nRST is asserted (R435 15_power_states_and_startup.md). -/
  nrst : Bool := false
  /-- X_VIN is above its power-on threshold (R511 18_balls_electrical_package.md). -/
  vinOn : Bool := true
  /-- Level of x_nFLT: 1 high (R507 18_balls_electrical_package.md). -/
  nflt : Bool := false
  /-- X_VAON is above its reset threshold (R511 18_balls_electrical_package.md). -/
  vaonOn : Bool := true
  /-- The gate rail is on (R186 06_gate_drive_and_bridge_protection.md). -/
  vgdOn : Bool := false
  /-- X_VGD is out of its window (R186 06_gate_drive_and_bridge_protection.md). -/
  vgdBad : Bool := false
  /-- X_SBSTB is high (R360 11_dictionary_access.md). -/
  sbStb : Bool := false
  /-- Entry or memory test is announced in the per-lane inputs (R445 15_power_states_and_startup.md). -/
  announce : Bool := false
  deriving DecidableEq, Repr

/-- Clocks, housekeeping and compensation (chapter 16). -/
structure Clk where
  /-- XTAL_PPM, applied value (R460 16_clocks_and_heat.md). -/
  xtalPpm : Rat := 0
  /-- MON_OSC_PPM (R476 16_clocks_and_heat.md). -/
  monPpm : Rat := 0
  /-- AO_FREQ, Hz (R476 16_clocks_and_heat.md). -/
  aoFreq : Rat := 0
  /-- 32 bits (R476 16_clocks_and_heat.md). -/
  d2dErrors : W32 := 0
  /-- Consecutive failed frames to the drive die (R457 16_clocks_and_heat.md). -/
  d2dDown : Nat := 0
  /-- Consecutive failed frames from the drive die (R457 16_clocks_and_heat.md). -/
  d2dUp : Nat := 0
  /-- XTAL_OK (R476 16_clocks_and_heat.md). -/
  xtalOk : Bool := false
  /-- CORE_LOCK (R476 16_clocks_and_heat.md). -/
  coreLock : Bool := false
  /-- NET_LOCK (R476 16_clocks_and_heat.md). -/
  netLock : Bool := false
  /-- MON_OK (R476 16_clocks_and_heat.md). -/
  monOk : Bool := false
  /-- AO_OK (R476 16_clocks_and_heat.md). -/
  aoOk : Bool := false
  /-- Fault 0x1F43 active (R459 16_clocks_and_heat.md). -/
  aoBad : Bool := false
  /-- PWM_OK (R476 16_clocks_and_heat.md). -/
  pwmOk : Bool := false
  /-- Measured PWM oscillator frequency, Hz (R125 04_field_engines.md). -/
  pwmHz : Rat := 160000000
  /-- COMP_HOLD (R476 16_clocks_and_heat.md). -/
  compHold : Bool := false
  /-- BG_HOLD (R476 16_clocks_and_heat.md). -/
  bgHold : Bool := false
  /-- Setting of the main bandgap reference of the logic die, by its OTP curve; none before the first (R462 16_clocks_and_heat.md). -/
  trimL : Option Rat := none
  /-- Setting of the main bandgap reference of the drive die, by its OTP curve; none before the first (R462 16_clocks_and_heat.md). -/
  trimD : Option Rat := none
  /-- 64 channels, HK_VALUE (R463 16_clocks_and_heat.md). -/
  hk : List Rat := []
  /-- Network time of the last round's start (R463 16_clocks_and_heat.md). -/
  hkNs : Nat := 0
  /-- Rounds with the logic-die check reference out (R462 16_clocks_and_heat.md). -/
  refRun : Nat := 0
  /-- Rounds with the drive-die check reference out (R462 16_clocks_and_heat.md). -/
  refRunD : Nat := 0
  deriving DecidableEq, Repr

/-- Temperatures, thermal cut, Cone latch (chapter 16). -/
structure Therm where
  /-- TEMP_BROKEN, 10 bits (R466 16_clocks_and_heat.md). -/
  broken : BitVec 10 := 0
  /-- Rounds each sensor departs (R466 16_clocks_and_heat.md). -/
  runs : List Nat := [0, 0, 0, 0, 0, 0, 0, 0, 0, 0]
  /-- Rounds the two logic-die sensors differ (R467 16_clocks_and_heat.md). -/
  pairL : Nat := 0
  /-- Rounds the two drive-die sensors differ (R467 16_clocks_and_heat.md). -/
  pairD : Nat := 0
  /-- Few-sensor case of the logic die: 0 none, 1 no, 2 one, 3 two sensors (R467 16_clocks_and_heat.md). -/
  caseL : Nat := 0
  /-- Few-sensor case of the drive die (R467 16_clocks_and_heat.md). -/
  caseD : Nat := 0
  /-- T_LOGIC, none the quiet NaN (R465 16_clocks_and_heat.md). -/
  tLogic : Option Rat := none
  /-- T_DRIVE, none the quiet NaN (R465 16_clocks_and_heat.md). -/
  tDrive : Option Rat := none
  /-- TCUT_LOGIC (R476 16_clocks_and_heat.md). -/
  tcutL : Rat := 0
  /-- TCUT_DRIVE (R476 16_clocks_and_heat.md). -/
  tcutD : Rat := 0
  /-- Rounds the logic-die cut sensor differs (R470 16_clocks_and_heat.md). -/
  cutRunL : Nat := 0
  /-- Rounds the drive-die cut sensor differs (R470 16_clocks_and_heat.md). -/
  cutRunD : Nat := 0
  /-- TCUT_SUSPECT (R476 16_clocks_and_heat.md). -/
  suspect : Bool := false
  /-- WARN_LOGIC (R476 16_clocks_and_heat.md). -/
  warnL : Bool := false
  /-- WARN_DRIVE (R476 16_clocks_and_heat.md). -/
  warnD : Bool := false
  /-- CUT_LOGIC (R476 16_clocks_and_heat.md). -/
  cutL : Bool := false
  /-- CUT_DRIVE (R476 16_clocks_and_heat.md). -/
  cutD : Bool := false
  /-- COOLING (R476 16_clocks_and_heat.md). -/
  cooling : Bool := false
  /-- THERM_CUTS, 32 bits (R383 12_dictionary_index.md). -/
  cuts : W32 := 0
  /-- Onsets of the counted cuts, newest first (CUTS_600), kept (R472 16_clocks_and_heat.md). -/
  onsets : List Nat := []
  /-- CONE, kept in the Cone latch cell (R473 16_clocks_and_heat.md). -/
  cone : Bool := false
  /-- CONE_OVER, kept (R472 16_clocks_and_heat.md). -/
  coneOver : Bool := false
  /-- CONE_COUNT, kept (R472 16_clocks_and_heat.md). -/
  coneCount : Bool := false
  deriving DecidableEq, Repr

/-- One event record (Table 17.1). -/
structure Event where
  /-- LAST_TIME (R478 17_diagnostics_and_kiln_log.md). -/
  lastNs : Nat := 0
  /-- 16 bits (R478 17_diagnostics_and_kiln_log.md). -/
  code : W16 := 0
  /-- LANE bits 3:2 (R478 17_diagnostics_and_kiln_log.md). -/
  tstate : TState := .invalid
  /-- 8 bits (R478 17_diagnostics_and_kiln_log.md). -/
  level : Nat := 0
  /-- 16 bits, saturating (R478 17_diagnostics_and_kiln_log.md). -/
  count : Nat := 1
  /-- FIRST_OFS in ns, reported in us, saturating (R478 17_diagnostics_and_kiln_log.md). -/
  firstOfs : Nat := 0
  /-- 32 bits (R478 17_diagnostics_and_kiln_log.md). -/
  detId : W32 := 0
  /-- 32 bits (R478 17_diagnostics_and_kiln_log.md). -/
  detVal : W32 := 0
  /-- 32 bits (R478 17_diagnostics_and_kiln_log.md). -/
  seq : W32 := 0
  /-- Not yet frozen by a commit (R480 17_diagnostics_and_kiln_log.md). -/
  pending : Bool := true
  deriving DecidableEq, Repr

/-- The fault recorder (R477-R483). -/
structure Rec where
  /-- 0-512 records, oldest first (R477 17_diagnostics_and_kiln_log.md). -/
  ring : List Event := []
  /-- 0-4,096 records, oldest first, kept (R482 17_diagnostics_and_kiln_log.md). -/
  nv : List Event := []
  /-- Records of the latest commit write (R482 17_diagnostics_and_kiln_log.md). -/
  lastFrozen : Nat := 0
  /-- SRC_COUNT by code, 32 bits each (R479 17_diagnostics_and_kiln_log.md). -/
  srcCount : Store := []
  /-- SRC_LOST by code, 32 bits each (R481 17_diagnostics_and_kiln_log.md). -/
  srcLost : Store := []
  /-- LOG_LOST, 32 bits (R481 17_diagnostics_and_kiln_log.md). -/
  logLost : W32 := 0
  /-- FAULT_SEEN, 16 bits (R382 12_dictionary_index.md). -/
  seen : BitVec 16 := 0
  /-- FAULT_SEEN bits set in this vote cycle (R12 00_scope.md). -/
  seenNow : BitVec 16 := 0
  /-- LAST_FAULT, 16 bits (R379 12_dictionary_index.md). -/
  last : W16 := 0
  /-- LAST_FAULT_TIME (R379 12_dictionary_index.md). -/
  lastNs : Nat := 0
  /-- SEQ, records since delivery, kept (R478 17_diagnostics_and_kiln_log.md). -/
  seq : W32 := 0
  /-- Active configuration faults (R382 12_dictionary_index.md). -/
  cfg : List W16 := []
  /-- The recorder's copy of network time (R530 17_diagnostics_and_kiln_log.md). -/
  copyNs : Nat := 0
  /-- Instant the copy was last taken (R530 17_diagnostics_and_kiln_log.md). -/
  copyMono : Nat := 0
  /-- The copy's time-base state (R530 17_diagnostics_and_kiln_log.md). -/
  copyState : TState := .invalid
  deriving DecidableEq, Repr

/-- The RAM part of the Kiln log (R486). -/
structure KilnRam where
  /-- H0-H12, bin i of Hk at key 16k + i, 32 bits each (R485 17_diagnostics_and_kiln_log.md). -/
  hist : Store := []
  /-- ON_SECONDS (R484 17_diagnostics_and_kiln_log.md). -/
  onSec : W32 := 0
  /-- RUN_SECONDS (R484 17_diagnostics_and_kiln_log.md). -/
  runSec : W32 := 0
  /-- EMPTY_X by node (R484 17_diagnostics_and_kiln_log.md). -/
  emptyX : Store := []
  /-- EMPTY_Y by node (R484 17_diagnostics_and_kiln_log.md). -/
  emptyY : Store := []
  deriving DecidableEq, Repr

/-- One committed Kiln copy (R487). -/
structure KilnCopy where
  /-- KILN_SEQ (R487 17_diagnostics_and_kiln_log.md). -/
  seq : W32 := 0
  /-- Record (R487 17_diagnostics_and_kiln_log.md). -/
  ram : KilnRam := {}
  /-- Its CRC holds (R487 17_diagnostics_and_kiln_log.md). -/
  crcOk : Bool := true
  /-- COMMIT_TIME (R484 17_diagnostics_and_kiln_log.md). -/
  commitNs : Nat := 0
  deriving DecidableEq, Repr

/-- The Kiln log (R484-R488). -/
structure Kiln where
  /-- Record (R486 17_diagnostics_and_kiln_log.md). -/
  ram : KilnRam := {}
  /-- Copy 0, kept (R487 17_diagnostics_and_kiln_log.md). -/
  copy0 : KilnCopy := {}
  /-- Copy 1, kept (R487 17_diagnostics_and_kiln_log.md). -/
  copy1 : KilnCopy := {}
  /-- KILN_SEQ (R503 17_diagnostics_and_kiln_log.md). -/
  seq : W32 := 0
  /-- FIRST_TIME (R484 17_diagnostics_and_kiln_log.md). -/
  firstNs : Option Nat := none
  /-- STARTS_COLD, kept (R484 17_diagnostics_and_kiln_log.md). -/
  cold : W32 := 0
  /-- STARTS_WARM, kept (R484 17_diagnostics_and_kiln_log.md). -/
  warm : W32 := 0
  /-- RESTARTS, kept (R484 17_diagnostics_and_kiln_log.md). -/
  restarts : W32 := 0
  /-- WAKES, kept (R484 17_diagnostics_and_kiln_log.md). -/
  wakes : W32 := 0
  /-- FAULTS by class, kept (R486 17_diagnostics_and_kiln_log.md). -/
  faults : Store := []
  /-- UVLO_VGD, kept (R484 17_diagnostics_and_kiln_log.md). -/
  uvloVgd : W32 := 0
  /-- UVLO_BS, kept (R484 17_diagnostics_and_kiln_log.md). -/
  uvloBs : Oct W32 := Oct.all 0
  /-- CUTS_LOGIC, kept (R484 17_diagnostics_and_kiln_log.md). -/
  cutsLogic : W32 := 0
  /-- CUTS_DRIVE, kept (R484 17_diagnostics_and_kiln_log.md). -/
  cutsDrive : W32 := 0
  /-- CONE_OVER, kept (R484 17_diagnostics_and_kiln_log.md). -/
  coneOver : W32 := 0
  /-- CONE_COUNT, kept (R484 17_diagnostics_and_kiln_log.md). -/
  coneCount : W32 := 0
  /-- ROWS_REPAIRED, kept (R484 17_diagnostics_and_kiln_log.md). -/
  rows : W32 := 0
  /-- Highest T_LOGIC of the running second (R485 17_diagnostics_and_kiln_log.md). -/
  secTL : Option Rat := none
  /-- Highest T_DRIVE of the running second (R485 17_diagnostics_and_kiln_log.md). -/
  secTD : Option Rat := none
  /-- Highest vdc of the running second (R485 17_diagnostics_and_kiln_log.md). -/
  secVdc : Option Rat := none
  /-- Largest current per bridge, % of I_MAX (R485 17_diagnostics_and_kiln_log.md). -/
  secI : Oct (Option Rat) := Oct.all none
  /-- Smallest slack of the running second, us (R485 17_diagnostics_and_kiln_log.md). -/
  secSlack : Option Int := none
  /-- Deadline misses of the running second (R485 17_diagnostics_and_kiln_log.md). -/
  secMiss : Nat := 0
  /-- Lowest x_VGD of the running second (R485 17_diagnostics_and_kiln_log.md). -/
  secVgd : Option Rat := none
  /-- EMPTY counts per slot at the last update, channel X (R486 17_diagnostics_and_kiln_log.md). -/
  lastEmptyX : Store := []
  /-- EMPTY counts per slot at the last update, channel Y (R486 17_diagnostics_and_kiln_log.md). -/
  lastEmptyY : Store := []
  /-- Own slots left empty on channel X since the last update (R486 17_diagnostics_and_kiln_log.md). -/
  txX : Nat := 0
  /-- Own slots left empty on channel Y since the last update (R486 17_diagnostics_and_kiln_log.md). -/
  txY : Nat := 0
  deriving DecidableEq, Repr

/-- Memories, Wedge pass, memory test (R489-R496). -/
structure Mem where
  /-- WEDGE_RESULT.VALID, kept (R493 17_diagnostics_and_kiln_log.md). -/
  valid : Bool := false
  /-- WEDGE_RESULT.KIND, kept (R493 17_diagnostics_and_kiln_log.md). -/
  test : Bool := false
  /-- WEDGE_RESULT.END, 2 bits, kept (R493 17_diagnostics_and_kiln_log.md). -/
  ended : Nat := 0
  /-- WEDGE_RESULT.UNTESTED, kept (R493 17_diagnostics_and_kiln_log.md). -/
  untested : BitVec 16 := 0
  /-- WEDGE_RESULT.NEW_ROWS, kept (R493 17_diagnostics_and_kiln_log.md). -/
  newRows : Nat := 0
  /-- WEDGE_RESULT.UNCOVER, kept (R493 17_diagnostics_and_kiln_log.md). -/
  uncover : Bool := false
  /-- WEDGE_RESULT.GROUPS_FAILED, kept (R493 17_diagnostics_and_kiln_log.md). -/
  failed : Nat := 0
  /-- A march over the memory groups runs (R490 17_diagnostics_and_kiln_log.md). -/
  running : Bool := false
  /-- Group under test, 0-15 (R490 17_diagnostics_and_kiln_log.md). -/
  group : Nat := 0
  /-- Groups the running pass leaves untested (R493 17_diagnostics_and_kiln_log.md). -/
  pUntested : BitVec 16 := 0
  /-- Spare rows the running pass assigned (R493 17_diagnostics_and_kiln_log.md). -/
  pRows : Nat := 0
  /-- UNCOVER of the running pass (R492 17_diagnostics_and_kiln_log.md). -/
  pUncover : Bool := false
  /-- Groups of the running pass with a failing cell (R493 17_diagnostics_and_kiln_log.md). -/
  pFailed : Nat := 0
  /-- Groups that step 5 of this start tests (R449 15_power_states_and_startup.md). -/
  owed : BitVec 16 := 0
  /-- REPAIR_MAP: rows replaced, per memory block, kept (R491 17_diagnostics_and_kiln_log.md). -/
  spares : List (Nat × List Nat) := []
  /-- SCRUB_MARKED: memory block and row, kept (R494 17_diagnostics_and_kiln_log.md). -/
  marked : List (Nat × Nat) := []
  /-- Words the last scrub corrected (R494 17_diagnostics_and_kiln_log.md). -/
  lastFix : List (Nat × Nat) := []
  /-- An on-command memory test runs (R495 17_diagnostics_and_kiln_log.md). -/
  testing : Bool := false
  /-- Master of the test (R495 17_diagnostics_and_kiln_log.md). -/
  testBy : Master := .host
  /-- A demand for service stopped the test (R496 17_diagnostics_and_kiln_log.md). -/
  demand : Bool := false
  /-- MEM_RESULT x 3 (R503 17_diagnostics_and_kiln_log.md). -/
  result : Res3 := {}
  deriving DecidableEq, Repr

/-- Link pattern test (R498-R501). -/
structure Lpt where
  /-- LPT_CTRL, 32 bits (R501 17_diagnostics_and_kiln_log.md). -/
  ctrl : W32 := 0
  /-- LPT_CTRL as the write that started the running test gave it, 32 bits (R500 17_diagnostics_and_kiln_log.md). -/
  test : W32 := 0
  /-- A test runs (R500 17_diagnostics_and_kiln_log.md). -/
  running : Bool := false
  /-- OUTCOME, 4 bits (R501 17_diagnostics_and_kiln_log.md). -/
  outcome : Nat := 0
  /-- LOCK (R501 17_diagnostics_and_kiln_log.md). -/
  lock : Bool := false
  /-- LPT_BITS, 64 bits (R503 17_diagnostics_and_kiln_log.md). -/
  bits : W64 := 0
  /-- LPT_ERRORS, 32 bits (R383 12_dictionary_index.md). -/
  errors : W32 := 0
  /-- LPT_LOCKLOSS, 32 bits (R503 17_diagnostics_and_kiln_log.md). -/
  lockLoss : W32 := 0
  deriving DecidableEq, Repr

/-- One lane: everything the spec gives one of the three lanes A, B, C (R3). -/
structure Lane where
  /-- Lane number, from OTP (R379 12_dictionary_index.md). -/
  id : LaneId := .A
  /-- Dictionary server: values, transactions, commits, images (chapters 11 and 12). -/
  dict : Dict := {}
  /-- Vote cycle, role and redundancy of the lane (chapter 02). -/
  vote : VoteG := {}
  /-- The lane's slip links (R16-R19, R48). -/
  links : LinkG := {}
  /-- The state vector: everything the services carry from cycle to cycle (R65, R84). -/
  svc : Svc := {}
  /-- DC link and chopper (chapter 07). -/
  dc : DcLink := {}
  /-- The lane's Tsuvas node (chapter 08). -/
  net : Node := {}
  /-- Time base (chapter 09). -/
  tb : TimeBase := {}
  /-- Uplink clock (R295-R300). -/
  upl : UplClock := {}
  /-- Transmit timestamp queues (R302). -/
  tsq : Tsq := {}
  /-- Timed actions (R305-R310). -/
  ta : Ta := {}
  /-- Sleep record of the always-on domain (R311-R313). -/
  sleep : Sleep := {}
  /-- Delivery contracts and telemetry (chapter 10). -/
  ct : Ct := {}
  /-- The lane's side-band port and session (R360-R364). -/
  sb : Sb := {}
  /-- Safety inputs, safety reset, seal, set selection (chapter 13). -/
  safe : Safe := {}
  /-- DS2 compatibility method (R408-R411). -/
  ds2 : Ds2 := {}
  /-- Keys, secure boot, debug access (chapter 14). -/
  sec : Sec := {}
  /-- Power states, start sequence, pins of the lane (chapters 15 and 18). -/
  pwr : Pwr := {}
  /-- Clocks, housekeeping and compensation (chapter 16). -/
  clk : Clk := {}
  /-- Temperatures, thermal cut, Cone latch (chapter 16). -/
  therm : Therm := {}
  /-- The fault recorder (R477-R483). -/
  flog : Rec := {}
  /-- The Kiln log (R484-R488). -/
  kiln : Kiln := {}
  /-- Memories, Wedge pass, memory test (R489-R496). -/
  mem : Mem := {}
  /-- Link pattern test (R498-R501). -/
  lpt : Lpt := {}
  /-- Bridges of the field engines (chapter 04). -/
  bridges : Oct Bridge := Oct.all {}
  /-- Position front ends (chapter 05). -/
  fes : Oct FrontEnd := Oct.all {}
  /-- Gate drives (chapter 06). -/
  gates : Oct Gate := Oct.all {}
  deriving DecidableEq, Repr

/-- The state of the module (00_scope.md, 01_three_lanes_one_module.md). -/
structure State where
  /-- The three lanes (R3). -/
  lanes : Tri Lane := ⟨{ id := .A }, { id := .B }, { id := .C }⟩
  /-- Each lane's published copy of its last vote cycle; none before the first (R365
  11_dictionary_access.md). -/
  pub : Tri (Option Lane) := ⟨none, none, none⟩
  /-- The commands that wait, first in, first out. -/
  pending : List Instr := []
  /-- The model's own counter of values the spec leaves open (log entry 5); not the spec's. -/
  freeCtr : Nat := 0
  deriving DecidableEq, Repr

/-- The module right after reset: every lane starting, its stop line asserted, its nonvolatile
memory as delivered (R14, R385, R434). -/
def State.reset : State := {}

end Sys2Proof.Machine
end

