-- ==== Sys2Proof/Machine/Ops.lean ====
section
/-! DEFINITION. The shared operations of a lane: settings, time, fault events and the recorder, the
lane-out reaction, result objects, and the checks and answers of the dictionary server. -/

namespace Sys2Proof.Machine

/-! ### Lanes of the module -/

/-- The module with one lane replaced by what a function makes of it. (DESIGN CHOICE, log entry 98) -/
def State.on (s : State) (l : LaneId) (f : Lane → Lane) : State :=
  { s with lanes := s.lanes.set l (f (s.lanes.get l)) }

/-- The module with a function applied to every lane. -/
def State.onAll (s : State) (f : Lane → Lane) : State :=
  { s with lanes := s.lanes.map f }

/-- One lane of the module. -/
def State.lane (s : State) (l : LaneId) : Lane := s.lanes.get l

/-! ### Settings -/

/-- The working value of an object as little-endian bytes (11_dictionary_access.md R348). -/
def Lane.obj (L : Lane) (idx sub : Nat) : Nat :=
  storeGet L.dict.working (okey idx sub) (objDefault L.id idx sub)

/-- The working value of a REAL32 object. -/
def Lane.real (L : Lane) (idx sub : Nat) : Rat := r32 (L.obj idx sub)

/-- The lane with the working value of an object replaced. -/
def Lane.setObj (L : Lane) (idx sub raw : Nat) : Lane :=
  { L with dict := { L.dict with
      working := storePut L.dict.working (okey idx sub) raw (objDefault L.id idx sub) } }

/-- Index of an object of actuator `n` (R373). -/
def actIdx (n : Fin 8) (k : Nat) : Nat := 0x2800 + n.val * 0x100 + k

/-- Index of an object of bridge or front end `b` of the lane (R373). -/
def Lane.brIdx (L : Lane) (b : Fin 8) (k : Nat) : Nat := 0x3000 + L.id.num * 0x200 + b.val * 0x40 + k

/-- Index of an object of the lane's DC link (R373). -/
def Lane.dcIdx (L : Lane) (k : Nat) : Nat := 0x3800 + L.id.num * 0x10 + k

/-- DUTY of actuator `n` (01_three_lanes_one_module.md R32). -/
def Lane.duty (L : Lane) (n : Fin 8) : Nat := L.obj (actIdx n 0) 1

/-- WINDING_SETS of actuator `n` (R32). -/
def Lane.sets (L : Lane) (n : Fin 8) : Nat := L.obj (actIdx n 0) 2

/-- An actuator is mapped when its DUTY is not 0 (R531). -/
def Lane.mapped (L : Lane) (n : Fin 8) : Bool := L.duty n != 0

/-- The bridge of lane `l` that the map names for actuator `n`, as lane `L` holds the map (R32, R531). -/
def Lane.bridgeOf (L : Lane) (l : LaneId) (n : Fin 8) : Option (Fin 8) :=
  let v := L.obj (actIdx n 0) (3 + l.num)
  if h : v < 8 then some ⟨v, h⟩ else none

/-- The actuator that lane `L`'s own bridge `b` serves (R5, R531). -/
def Lane.actOf (L : Lane) (b : Fin 8) : Option (Fin 8) :=
  fin8.find? fun n => L.bridgeOf L.id n == some b

/-! ### Vote cycle timing -/

/-- tVOTE in microseconds: VOTE_RATIO network cycles of the loaded schedule
(02_vote_cycle_and_fault_tolerance.md R41, 08_tsuvas_network.md R258). -/
def Lane.tVote (L : Lane) : Nat :=
  L.obj 0x2600 1 * storeGet L.net.sched (okey 0x4800 4) (objDefault L.id 0x4800 4)

/-- The first inequality of R43 that the configured cycle points fail, 1-6. -/
def Lane.pointsFail (L : Lane) : Option Nat :=
  let c := L.obj 0x2600 2
  let d := L.obj 0x2600 3
  let o := L.obj 0x2600 4
  let a := L.obj 0x2600 5
  let y := L.obj 0x2600 6
  if c < 50 then some 1
  else if d < c + 60 + 100 then some 2
  else if o < d + 50 then some 3
  else if a < o + 50 then some 4
  else if y < a + 10 then some 5
  else if L.tVote < y + 180 then some 6
  else none

/-- A cycle point in microseconds: the configured one, or the fallback of R354 while R43 fails. -/
def Lane.point (L : Lane) (sub slow fast : Nat) : Nat :=
  if L.pointsFail.isNone then L.obj 0x2600 sub
  else if 1000 ≤ L.tVote then slow else fast

/-- tCLOSE (Table 2.1). -/
def Lane.tClose (L : Lane) : Nat := L.point 2 300 50
/-- tAGREE (Table 2.1). -/
def Lane.tAgree (L : Lane) : Nat := L.tClose + 60
/-- tDEAD (Table 2.1). -/
def Lane.tDead (L : Lane) : Nat := L.point 3 650 210
/-- tCOMP (Table 2.1). -/
def Lane.tComp (L : Lane) : Nat := L.point 4 700 260
/-- tAPPLY (Table 2.1). -/
def Lane.tApply (L : Lane) : Nat := L.point 5 750 310
/-- tCOPY (Table 2.1). -/
def Lane.tCopy (L : Lane) : Nat := L.point 6 800 320

/-- The lane's clocks run forward to a network time; never back. -/
def Lane.advance (L : Lane) (ns : Nat) : Lane :=
  if L.tb.ns < ns then
    { L with tb := { L.tb with ns := ns, frac := 0, mono := L.tb.mono + (ns - L.tb.ns) } }
  else L

/-- The lane's clocks run forward to an offset in microseconds of its vote cycle. -/
def Lane.toPoint (L : Lane) (us : Nat) : Lane := L.advance (L.vote.startNs + us * 1000)

/-- The lane takes part in vote cycles: role LEAD, FOLLOWER or SHADOW (R42). -/
def Lane.voting (L : Lane) : Bool := L.vote.role != .out

/-! ### Time of the fault recorder -/

/-- The time base runs and is seeded, so the recorder's copy follows it
(17_diagnostics_and_kiln_log.md R530). -/
def Lane.timeRuns (L : Lane) : Bool := L.tb.seeded && L.clk.netLock

/-- Network time as the fault recorder holds it (R530). -/
def Lane.recTime (L : Lane) : Nat :=
  if L.timeRuns then L.tb.ns else L.flog.copyNs + (L.tb.mono - L.flog.copyMono)

/-- Time-base state as the fault recorder holds it (R530). -/
def Lane.recState (L : Lane) : TState := if L.timeRuns then L.tb.state else L.flog.copyState

/-- The recorder's copy at the instant it loses the time base: its last value runs on, in HOLDOVER
when the time was valid, else INVALID (R530). -/
def Lane.loseTime (L : Lane) : Lane :=
  { L with flog := { L.flog with
      copyNs := L.recTime
      copyMono := L.tb.mono
      copyState := if L.recState = .invalid then .invalid else .holdover } }

/-- INC_LEARNED written from the increment last used (09_time_base_and_timed_actions.md R287). (DEDUCED, log entry 60) -/
def TimeBase.learn (t : TimeBase) (ppm : Rat) : TimeBase :=
  { t with incLearned := ((t.incBase : Int) + t.rateInc).toNat, learnPpm := ppm }

/-! ### Fault events (R477-R482) -/

/-- CLASS of a fault code (12_dictionary_index.md Table 12.7). -/
def codeClass (code : Nat) : Nat := code / 4096 % 16

/-- Whether the events have the same key (R480). -/
def Event.sameKey (e : Event) (code detId : Nat) : Bool :=
  e.pending && e.code == BitVec.ofNat 16 code && e.detId == BitVec.ofNat 32 detId

/-- An event coalesced into a record (R480). -/
def Event.absorb (e : Event) (ns : Nat) (st : TState) (level detVal : Nat) : Event :=
  { e with
    count := min (e.count + 1) 65535
    firstOfs := e.firstOfs + (ns - e.lastNs)
    lastNs := ns
    tstate := st
    level := max e.level level
    detVal := BitVec.ofNat 32 detVal }

/-- The ring without its oldest committed record; none when every record is pending (R481). -/
def dropOldest : List Event → Option (List Event)
  | [] => none
  | e :: t => if e.pending then (dropOldest t).map (e :: ·) else some t

/-- The ring with the event coalesced into the first record of its key, if there is one. -/
def coalesce (code detId ns : Nat) (st : TState) (level detVal : Nat) :
    List Event → Option (List Event)
  | [] => none
  | e :: t =>
    if e.sameKey code detId then some (e.absorb ns st level detVal :: t)
    else (coalesce code detId ns st level detVal t).map (e :: ·)

/-- The pending records are frozen and written to nonvolatile memory, the newest 4,096 kept (R482). -/
def Rec.commit (f : Rec) : Rec :=
  let p := f.ring.filter (·.pending)
  let nv := f.nv ++ p.map fun e => { e with pending := false }
  { f with
    ring := f.ring.map fun e => { e with pending := false }
    nv := nv.drop (nv.length - 4096)
    lastFrozen := p.length }

/-- One event counted as lost (R481). -/
def Rec.lose (f : Rec) (code : Nat) : Rec :=
  { f with srcLost := storeBump f.srcLost code 1, logLost := satInc f.logLost }

/-- An event enters the recorder: it coalesces, creates a record, or is lost (R480, R481). A record of level lane-out or
module-safe that it creates, or raises to such a level, is committed at once (R482). -/
def Rec.take (f : Rec) (code level detId detVal ns : Nat) (st : TState) : Rec :=
  let e : Event :=
    { lastNs := ns, code := BitVec.ofNat 16 code, tstate := st, level := level
      detId := BitVec.ofNat 32 detId, detVal := BitVec.ofNat 32 detVal, seq := f.seq }
  let g : Option Rec :=
    match coalesce code detId ns st level detVal f.ring with
    | some r => some { f with ring := r }
    | none =>
      if f.ring.length < 512 then some { f with ring := f.ring ++ [e], seq := f.seq + 1 }
      else (dropOldest f.ring).map fun r => { f with ring := r ++ [e], seq := f.seq + 1 }
  match g with
  | some g => if level = 3 ∨ level = 4 then g.commit else g
  | none => f.lose code

/-- The part of a fault event that does not depend on the recorder's queue: SRC_COUNT (R479),
FAULT_SEEN (R382), LAST_FAULT (R379) and FAULTS of the Kiln log (R486). -/
def Lane.countEvent (L : Lane) (code : Nat) : Lane :=
  let c := codeClass code
  { L with
    flog := { L.flog with
      srcCount := storeBump L.flog.srcCount code 1
      seen := L.flog.seen ||| BitVec.ofNat 16 (2 ^ c)
      seenNow := L.flog.seenNow ||| BitVec.ofNat 16 (2 ^ c)
      last := BitVec.ofNat 16 code
      lastNs := L.recTime }
    kiln := { L.kiln with faults := storeBump L.kiln.faults c 1 } }

/-- A fault event: code, level of Table 17.1 (0 record, 1 correct, 2 isolate, 3 lane-out, 4
module-safe, 5 held out of RUN, 6 held at a restore step) and details (R477, R479-R481). (DEDUCED, log entry 93) -/
def Lane.raise (L : Lane) (code level : Nat) (detId : Nat := 0) (detVal : Nat := 0) : Lane :=
  let M := L.countEvent code
  { M with flog := M.flog.take code level detId detVal L.recTime L.recState }

/-- A failing item of a configuration check: raised at level held out of RUN, active while the check fails
(R526, 03_steering_and_braking_services.md R527). (DEDUCED, log entry 76) -/
def Lane.cfgFault (L : Lane) (code detId : Nat) (detVal : Nat := 0) : Lane :=
  let M := L.raise code 5 detId detVal
  { M with flog := { M.flog with cfg := BitVec.ofNat 16 code :: M.flog.cfg } }

/-! ### Lane-out (Table 2.7, R72) -/

/-- A bridge that leaves the current loop: its loop state starts again at 0, the flags and counts that only the loop
drives are clear, and the running period's samples are discarded (04_field_engines.md R147, R148). -/
def Bridge.quiet (b : Bridge) : Bridge :=
  { b with idfw := 0, xd := 0, xq := 0, vprev := 0, computed := false, noSample := true
           fw := false, fwlim := false, vlim := false, curlim := false, shift := false, eShift := false, sat := false
           fwRun := 0, trackRun := 0, satRun := 0, overRun := 0
           lowRun := ⟨0, 0, 0⟩, refresh := ⟨false, false, false⟩, vectors := [] }

/-- A bridge whose lane lost its gates: DISABLED, its pending work dropped; requests of rank 3 and 4 stand, so they
place the bridge again once the stop line is released (R146, R148). (DEDUCED, log entry 96) -/
def Bridge.drop (b : Bridge) : Bridge := { b.quiet with mode := .disabled, passive := none, offsOk := false }

/-- Every gate output low, the chopper output too (01_three_lanes_one_module.md R24); outputs under soft
turn-off end it by themselves (06_gate_drive_and_bridge_protection.md R204). (DEDUCED, log entry 96) -/
def Lane.gatesLow (L : Lane) : Lane :=
  { L with
    bridges := L.bridges.map Bridge.drop
    gates := L.gates.map fun g => { g with onOut := 0, precharge := false, deadHeld := none }
    dc := { L.dc with chopOn := false } }

/-- The stop line asserts: the gates are low and x_SAFE falls (R24, R507). -/
def Lane.assertStop (L : Lane) : Lane :=
  { L.gatesLow with pwr := { L.pwr with stopLine := true } }

/-- Times kept within a window of nanoseconds before now. -/
def recent (now window : Nat) (l : List Nat) : List Nat :=
  l.filter fun t => now ≤ t + window

/-- Payload of TA_RESULT (09_time_base_and_timed_actions.md Table 9.9): entry and OUTCOME. -/
def taPayload (entry outcome : Nat) : BitVec 12 := BitVec.ofNat 12 (outcome * 256 + entry)

/-- The result object of a master. -/
def Res3.get (r : Res3) : Master → ResultObj
  | .host => r.host | .sideBand => r.sb | _ => r.peer

/-- The result objects with one master's replaced. -/
def Res3.set (r : Res3) (m : Master) (o : ResultObj) : Res3 :=
  match m with
  | .host => { r with host := o } | .sideBand => { r with sb := o } | _ => { r with peer := o }

/-- A submission while the result reads pending is busy (11_dictionary_access.md R369). -/
def Res3.busy (r : Res3) (m : Master) : Bool := (r.get m).state == .pending

/-- An accepted submission: SEQ rises, STATE is pending, the payload stays (R368). -/
def Res3.start (r : Res3) (m : Master) : Res3 :=
  r.set m { r.get m with seq := (r.get m).seq + 1, state := .pending }

/-- The action reached its outcome (R368). -/
def Res3.finish (r : Res3) (m : Master) (p : BitVec 12) : Res3 :=
  r.set m { r.get m with state := .ready, payload := p }

/-- The action is abandoned (R368). -/
def Res3.fail (r : Res3) (m : Master) : Res3 :=
  if r.busy m then r.set m { r.get m with state := .failed } else r

/-- Every pending result is abandoned (R368). -/
def Res3.failAll (r : Res3) : Res3 := ((r.fail .host).fail .sideBand).fail .peer

/-- The word a result object reads (Table 11.5). -/
def ResultObj.word (o : ResultObj) : Nat :=
  o.seq.toNat * 65536 + o.state.num * 4096 + o.payload.toNat

/-- The owning master's read of a ready or failed result consumes it (R368). -/
def Res3.consume (r : Res3) (m : Master) : Res3 :=
  let o := r.get m
  if o.state = .ready ∨ o.state = .failed then r.set m { o with state := .consumed } else r

/-- Every queued timed action is cancelled with OUTCOME 8, the masters' results told
(09_time_base_and_timed_actions.md R309, R310). -/
def Ta.cancelAll (t : Ta) : Ta :=
  { t with
    entries := []
    result := t.entries.foldl (fun r e =>
      match e.owner with
      | some m => if r.busy m then r.finish m (taPayload e.slot 8) else r
      | none => r) t.result }

/-- REINT_LIMIT lane-outs within 600 s hold the lane (R72). -/
def Lane.countOut (L : Lane) : Lane :=
  let outs := L.tb.mono :: recent L.tb.mono 600000000000 L.vote.outs
  { L with vote := { L.vote with
      outs := outs
      held := L.vote.held || decide (L.obj 0x2600 0x0A ≤ outs.length) } }

/-- The reaction of a lane-out (Table 2.7): stop line asserted, role OUT, timed actions cancelled;
it counts once towards R72 however many faults it answers. -/
def Lane.goOut (L : Lane) (code : Nat) : Lane :=
  if L.vote.outNow then L.assertStop
  else
    let M := L.assertStop.countOut
    { M with
      vote := { M.vote with
        role := .out, roleDue := none, relAtApply := false, clean := 0, outNow := true,
        outCause := BitVec.ofNat 16 code, wasRun := decide (L.pwr.state = .run), outSet := none,
        running := false }
      ta := M.ta.cancelAll
      pwr := { M.pwr with nflt := false, exit := false } }

/-- A fault event at level lane-out and its reaction. -/
def Lane.laneOut (L : Lane) (code : Nat) (detId : Nat := 0) (detVal : Nat := 0) : Lane :=
  (L.raise code 3 detId detVal).goOut code

/-! ### Fault words (R382) -/

/-- Codes of the fault reactions that are in force (R382): configuration faults, a lane-out until the
lane re-enters SHADOW or while it is held, isolated slip links, isolated winding sets, fault waits and
latches, isolated sensors and sources, the network, the chopper, sensors of temperature, latched
safety inputs and the Cone latch. -/
def Lane.activeCodes (L : Lane) : List Nat :=
  let cfg := L.flog.cfg.map (·.toNat)
  let out := if L.vote.outNow || L.vote.held || (L.pwr.kind == 2 && L.pwr.state == .starting) then
      [L.vote.outCause.toNat] else []
  let links := if L.links.ab.inUse && L.links.bc.inUse && L.links.ca.inUse then [] else [0x1201]
  let br := (fin8.map fun b => (L.bridges.get b).isolKinds).flatten
  let gd := if fin8.any fun b => (L.gates.get b).wait || (L.gates.get b).latch then [0x2000] else []
  let fe := if fin8.any fun b => (L.fes.get b).sensIsol then [0x3001] else []
  let src := if L.vote.sources.any (·.isolated) then [0x3FD0] else []
  let net := if L.net.netLost || L.net.timeMism || L.net.x.lost || L.net.y.lost ||
      L.net.x.blockedRun.any (8 ≤ ·) || L.net.y.blockedRun.any (8 ≤ ·) then [0x4FC2] else []
  let chop := if L.dc.chopFault || L.dc.uv2 || L.dc.ov3 || L.dc.hwHold then [0x6F83] else []
  let temp := if L.therm.broken ≠ 0 then [0x7002] else []
  let safe := if (fin8.any fun i => (L.safe.inp.get i).disc || (L.safe.inp.get i).tp) ||
      L.safe.tpo0.latched || L.safe.tpo1.latched then [0x8001] else []
  let cone := if L.therm.cone then [0x7FC1] else []
  cfg ++ out ++ links ++ br ++ gd ++ fe ++ src ++ net ++ chop ++ temp ++ safe ++ cone

/-- The bits of fault classes 1-12 a list of codes names (Table 12.8). -/
def classBits : List Nat → BitVec 16
  | [] => 0
  | c :: t => (BitVec.ofNat 16 (2 ^ codeClass c) &&& 0x1FFE) ||| classBits t

/-- FAULT_ACTIVE (Table 12.8). -/
def Lane.faultActive (L : Lane) : BitVec 16 := classBits L.activeCodes

/-- CFG_OK: step 6 has checked the configuration and no configuration fault is active; 0 after reset
(00_scope.md R14, Table 12.6). (DEDUCED, log entry 131) -/
def Lane.cfgOk (L : Lane) : Bool := L.flog.cfg.isEmpty && decide (7 ≤ L.pwr.step)

/-! ### The dictionary server: checks and answers -/

/-- Code 0x05040000. -/
def eTimeout : W32 := 0x05040000
/-- Code 0x05040001. -/
def eOrder : W32 := 0x05040001
/-- Code 0x06010000. -/
def eAccess : W32 := 0x06010000
/-- Code 0x06010001. -/
def eReadWo : W32 := 0x06010001
/-- Code 0x06010002. -/
def eWriteRo : W32 := 0x06010002
/-- Code 0x06020000. -/
def eNoObject : W32 := 0x06020000
/-- Code 0x06070010. -/
def eLength : W32 := 0x06070010
/-- Code 0x06090011. -/
def eNoSub : W32 := 0x06090011
/-- Code 0x08000021. -/
def eSeal : W32 := 0x08000021
/-- Code 0x08000022. -/
def eState : W32 := 0x08000022
/-- Code 0x0D000001. -/
def eBusy : W32 := 0x0D000001
/-- Code 0x0D000003. -/
def eConflict : W32 := 0x0D000003
/-- Code 0x0D000004. -/
def eNotCommitted : W32 := 0x0D000004
/-- Code 0x0D000005. -/
def eAuth : W32 := 0x0D000005
/-- Code 0x0D000006. -/
def eEngine : W32 := 0x0D000006

/-- The pairs and the network engine serve: from START_STEP 7 on, outside every entry and every cut of the logic
die (12_dictionary_index.md R380, 15_power_states_and_startup.md R448, 16_clocks_and_heat.md R468). (DESIGN CHOICE, log entry 15; DEDUCED, log entry 110) -/
def Lane.pairsUp (L : Lane) : Bool :=
  (decide (7 ≤ L.pwr.step)) && L.pwr.phase == 0 && !L.mem.testing && !L.therm.cutL &&
  (L.pwr.state == .starting || L.pwr.state == .hold || L.pwr.state == .run)

/-- LINK of the running pattern test (17_diagnostics_and_kiln_log.md Table 17.8). -/
def Lane.lptLink (L : Lane) : Nat := bits L.lpt.test.toNat 0 8

/-- A pattern test runs on a link (17_diagnostics_and_kiln_log.md R498). -/
def Lane.lptOn (L : Lane) (link : Nat) : Bool := L.lpt.running && L.lptLink == link

/-- The lane answers its side-band at all: it has supply and stands at step 1 or later, outside OFF
(R361, 15_power_states_and_startup.md R434, R448). (DESIGN CHOICE, log entry 15) -/
def Lane.sbReach (L : Lane) : Bool :=
  L.pwr.vinOn && !L.pwr.nrst && L.pwr.state != .off && (L.pwr.state != .starting || 1 ≤ L.pwr.step) && !L.lptOn 32

/-- A master reaches the lane and its answer reaches the master (12_dictionary_index.md R380,
15_power_states_and_startup.md R434, R448). (DESIGN CHOICE, log entry 15) -/
def Lane.reaches (L : Lane) (m : Master) : Bool := if m = .sideBand then L.sbReach else L.pairsUp

/-- A response leaves the lane (R356, R370): 0x0D000001 is counted in TXN_BUSY (R372), a response to the host waits
for an own service slot (R359), and a side-band request marks the time of its last transaction (R364). A master that
does not reach the lane gets no answer. -/
def Lane.answerWith (L : Lane) (r : Resp) : Lane :=
  if L.reaches r.m = false then L
  else
    let r := { r with atNs := L.tb.ns }
    { L with
      dict := { L.dict with
        resp := some r
        txnBusy := if r.code = eBusy then satInc L.dict.txnBusy else L.dict.txnBusy
        hostOut := if r.m = .host then L.dict.hostOut ++ [r] else L.dict.hostOut }
      sb := if r.m = .sideBand then { L.sb with lastAt := L.tb.mono } else L.sb }

/-- The lane's answer to a request. -/
def Lane.answer (L : Lane) (m : Master) (tid idx sub : Nat) (code : W32)
    (data : List Byte := []) : Lane :=
  L.answerWith { m := m, tid := tid, idx := idx, sub := sub, code := code, data := data }

/-- Transactions of a kind of master that are open (R372). -/
def Dict.open_ (d : Dict) : Master → Nat
  | .host => d.openHost | .sideBand => d.openSb | .supervisory => d.openSup | .peer => d.openPeer

/-- The limit of Table 11.2. -/
def txnLimit : Master → Nat
  | .host => 32 | .sideBand => 8 | .supervisory => 16 | .peer => 8

/-- The share of a kind of master is used up (R345). -/
def Lane.txnFull (L : Lane) (m : Master) : Bool := decide (txnLimit m ≤ L.dict.open_ m)

/-- One transaction opened. -/
def Dict.openTxn (d : Dict) : Master → Dict
  | .host => { d with openHost := d.openHost + 1 }
  | .sideBand => { d with openSb := d.openSb + 1 }
  | .supervisory => { d with openSup := d.openSup + 1 }
  | .peer => { d with openPeer := d.openPeer + 1 }

/-- One transaction closed. -/
def Dict.closeTxn (d : Dict) : Master → Dict
  | .host => { d with openHost := d.openHost - 1 }
  | .sideBand => { d with openSb := d.openSb - 1 }
  | .supervisory => { d with openSup := d.openSup - 1 }
  | .peer => { d with openPeer := d.openPeer - 1 }

/-- The buffer of a TID is discarded, its transaction closes. -/
def Dict.dropBuf (d : Dict) (m : Master) (key : Nat) : Dict :=
  if d.wbufs.any fun x => x.m == m && x.tid == key then
    { d.closeTxn m with wbufs := d.wbufs.filter fun x => !(x.m == m && x.tid == key) }
  else d

/-- The transaction fails: its buffer is discarded (R358). (DEDUCED, log entry 53) -/
def Lane.segFail (L : Lane) (m : Master) (tid idx sub : Nat) (code : W32) : Lane :=
  ({ L with dict := L.dict.dropBuf m tid } : Lane).answer m tid idx sub code

/-- Objects that the monitor domain itself holds (R361). -/
def monitorHolds (idx : Nat) : Bool :=
  idx = 0x2011 || idx = 0x2510 || idx = 0x2100 || idx = 0x2101 || idx = 0x2000 || idx = 0x2001 ||
  idx = 0x2402 || idx = 0x2403 || (0x5000 ≤ idx && idx ≤ 0x503F)

/-- Whether the lane's engines can serve a write by this master now (R361): a side-band request arrives at all, and the
pairs are up or the monitor domain serves the object by itself. -/
def Lane.canWrite (L : Lane) (m : Master) (idx sub : Nat) : Bool :=
  (m != .sideBand || L.sbReach) &&
  (L.pairsUp ||
   (m == .sideBand && L.pwr.monUp && L.pwr.state != .off &&
    (idx = 0x2510 || (idx = 0x2100 && sub = 2) ||
     (!isWide idx sub && (match findObj L.id idx sub with
       | some r => r.kept != .no
       | none => false)))))

/-- RWP needs DS2 compatibility mode and an unlocked master (13_safety_inputs_and_seal.md R408-R410). -/
def Lane.rwpOpen (L : Lane) (m : Master) : Bool :=
  L.obj 0x2405 1 == 1 &&
  (match m with
   | .host => L.ds2.unlockHost
   | .sideBand => L.ds2.unlockSb
   | _ => false)

/-- The seal or password step of R371: RWS needs the seal open, RWP the DS2 method and an unlock. -/
def Lane.sealErr (L : Lane) (m : Master) (acc : Acc) (window : Bool) : Option W32 :=
  match acc with
  | .rws => if (if window then L.rwpOpen m else L.safe.sealOpen) then none else some eSeal
  | .rwp => if L.rwpOpen m then none else some eSeal
  | _ => none

/-- WO objects whose owning rule asks for the open seal: SET_STORE (R384) and KEY_REVOKE (R419). -/
def needsSeal (idx sub : Nat) : Bool := (idx = 0x2404 && sub = 5) || (idx = 0x2502 && sub = 1)

/-- The length step of R371 (R343). -/
def lengthErr (ty : ObjType) (len : Nat) : Option W32 :=
  match ty, ty.size with
  | .str n, _ => if len ≤ n then none else some eLength
  | _, some n => if len = n then none else some eLength
  | _, none => none

/-- The checks of a complete write: the share of R345, then the order of R371: engine, object and subindex, access for the
master, authentication, seal or password, present state, length, range. `present` is the condition of
the object's owning rule; `window` marks a write through DS2_VALUE (R410). (DEDUCED, log entry 51) -/
def Lane.writeErr (L : Lane) (m : Master) (idx sub : Nat) (data : List Byte) (present window : Bool) :
    Option W32 :=
  if L.txnFull m then some eBusy
  else match findObj L.id idx sub with
  | none =>
    if holdsIdx L.id idx then
      (if isRecord L.id idx && sub == 0 then some eWriteRo else some eNoSub)
    else some eNoObject
  | some r =>
    if m = .supervisory ∨ m = .peer then some eAccess
    else if r.acc = .ro then some eWriteRo
    else if m = .sideBand ∧ L.sb.isOpen = false ∧ idx ≠ 0x2510 then some eAuth
    else if L.canWrite m idx sub = false then some eEngine
    else match L.sealErr m (if needsSeal idx sub then .rws else r.acc) window with
      | some e => some e
      | none =>
        if present = false then some eState
        else match lengthErr r.ty data.length with
          | some e => some e
          | none => rangeErr r.rng sub (ofBytes data)

/-- A complete side-band write is the one its verified tag performs: the write counter rises, and the value
that was pending is used up (R363). The session objects take no tag. (DEDUCED, log entry 54) -/
def Lane.sbCount (L : Lane) (m : Master) (idx : Nat) : Lane :=
  if m = .sideBand ∧ idx ≠ 0x2510 ∧ L.sb.isOpen then
    { L with sb := { L.sb with counter := L.sb.counter + 1, tagFails := 0, pend := none } }
  else L

/-- A complete write that acts on the lane alone (R347): the checks of R371, then the action. -/
def Lane.write (L : Lane) (m : Master) (tid idx sub : Nat) (data : List Byte) (present : Bool)
    (act : Lane → Lane) : Lane :=
  match L.writeErr m idx sub data present false with
  | some e => L.answer m tid idx sub e
  | none => (act (L.sbCount m idx)).answer m tid idx sub 0

/-- Kept-yes objects reach nonvolatile memory before the response (R347). -/
def Lane.storeObj (L : Lane) (idx sub raw : Nat) : Lane :=
  let M := L.setObj idx sub raw
  match findObj L.id idx sub with
  | some r =>
    if r.kept = .yes then
      { M with dict := { M.dict with
          kept := storePut M.dict.kept (okey idx sub) raw (objDefault L.id idx sub) } }
    else M
  | none => M

/-! ### Committing a module-wide write (R349) -/

/-- The vote cycle M of a prepare sent now: the first whose tCLOSE lies at least 20 microseconds
later (R349). -/
def Lane.commitCycle (L : Lane) : W32 :=
  if L.tb.ns + 20000 ≤ L.vote.startNs + L.tClose * 1000 then L.vote.cycle else L.vote.cycle + 1

/-- The commit that the writes of one group make in one vote cycle of the serving lane (R351). (DEDUCED, log entry 50) -/
def Lane.groupOf (L : Lane) (m : Master) (g : Nat) : Option Commit :=
  L.dict.outbox.find? fun c =>
    c.group == some g && c.m == m && c.server == L.id && c.madeIn == L.vote.cycle && c.cycle == L.commitCycle

/-- A commit prepared by the lane: identity, voting cycle, open transaction; the lane holds it among
the commits it knows and sends it to its peers (R349). -/
def Lane.prepareNew (L : Lane) (m : Master) (item : CommitItem) (g : Option Nat) (rwp : Bool) : Lane :=
  let c : Commit := { server := L.id, ctr := L.dict.commitCtr, cycle := L.commitCycle,
                      items := [item], group := g, m := m, tid := item.tid, rwp := rwp
                      madeIn := L.vote.cycle, full := g.any fun x => L.dict.badGroups.contains (m, x) }
  { L with dict := { (L.dict.openTxn m) with
      commitCtr := L.dict.commitCtr + 1
      prepared := L.dict.prepared + 1
      outbox := L.dict.outbox ++ [c]
      known := L.dict.known ++ [c] } }

/-- The same commit in a list. -/
def Commit.same (c d : Commit) : Bool := c.server == d.server && c.ctr == d.ctr

/-- A commit of the lane changed where it holds it. -/
def Lane.onCommit (L : Lane) (c : Commit) (f : Commit → Commit) : Lane :=
  let g := fun d : Commit => if d.same c then f d else d
  { L with dict := { L.dict with outbox := L.dict.outbox.map g, known := L.dict.known.map g } }

/-- A write added to the group commit of the cycle (R351); its transaction stays open too. (DEDUCED, log entry 50) -/
def Lane.prepareMore (L : Lane) (c : Commit) (item : CommitItem) : Lane :=
  let M := L.onCommit c fun d => { d with items := d.items ++ [item] }
  { M with dict := M.dict.openTxn c.m }

/-- A write of a group that fails its own checks: the writes of a group succeed only together, so the group's commit of this
vote cycle can no longer succeed (R351). (DEDUCED, log entry 50) -/
def Lane.failGroup (L : Lane) (m : Master) (g : Option Nat) : Lane :=
  match g with
  | none => L
  | some x =>
    let M : Lane := match L.groupOf m x with
      | some c => L.onCommit c fun d => { d with full := true }
      | none => L
    { M with dict := { M.dict with badGroups := (m, x) :: M.dict.badGroups } }

/-- A checked module-wide write becomes a commit (R349, R351): at most 8 prepares in a vote cycle, at
most 16 writes in a group, whose 17th fails the group. The answer of a write that opens a commit
follows the decision. (DEDUCED, log entry 51) -/
def Lane.prepare (L : Lane) (m : Master) (tid idx sub raw : Nat) (g : Option Nat) (rwp : Bool) :
    Lane :=
  let item : CommitItem := { idx := idx, sub := sub, raw := raw, tid := tid }
  if L.vote.running = false then L.answer m tid idx sub eEngine
  else if L.txnFull m then (L.failGroup m g).answer m tid idx sub eBusy
  else match g.bind (L.groupOf m) with
    | some c =>
      if c.items.length < 16 then L.prepareMore c item
      else (L.failGroup m g).answer m tid idx sub eBusy
    | none =>
      if 8 ≤ L.dict.prepared then (L.failGroup m g).answer m tid idx sub eBusy
      else L.prepareNew m item g rwp

/-- A complete write of a module-wide object: the checks of R371, then a prepare (R349). -/
def Lane.writeWide (L : Lane) (m : Master) (tid idx sub : Nat) (data : List Byte) (present : Bool)
    (g : Option Nat) (window : Bool) : Lane :=
  match L.writeErr m idx sub data present window with
  | some e => (L.failGroup m g).answer m tid idx sub e
  | none => (L.sbCount m idx).prepare m tid idx sub (ofBytes data) g window

end Sys2Proof.Machine
end

