-- ==== Sys2Proof/Machine/Thermal.lean ====
section
/-! DEFINITION. Clock monitoring, the housekeeping round, temperatures, thermal cuts and the Cone
latch, and the supply monitors (chapters 16 and 18). -/

namespace Sys2Proof.Machine

/-- The lane's logic runs: supplied, out of reset, outside STANDBY and OFF, at step 4 or later
(15_power_states_and_startup.md Table 15.1, Table 15.4). -/
def Lane.alive (L : Lane) : Bool :=
  L.pwr.vinOn && !L.pwr.nrst && decide (4 ≤ L.pwr.step) &&
  (L.pwr.state == .starting || L.pwr.state == .hold || L.pwr.state == .run)

/-- Absolute value. -/
def absR (x : Rat) : Rat := if x < 0 then -x else x

/-- The whole number nearest to a number, halves up. -/
def roundR (x : Rat) : Int := (x + 1 / 2).floor

/-- CLOCK_CHECK (16_clocks_and_heat.md R454, R459): MON_OSC_PPM is reported, and a difference of more
than 0.5 % takes the lane out. -/
def execClockCheck (l : LaneId) (ppm : Rat) (s : State) : Host.Outcome State Fault Refusal :=
  .next (s.on l fun L =>
    if L.alive then
      let ok := decide (absR ppm ≤ 5000)
      let M : Lane := { L with clk := { L.clk with monPpm := ppm, monOk := ok } }
      if ok then M else M.laneOut 0x1F41
    else L)

/-- PLL_UNLOCK (R459): after step 3 of a start, fault 0x1F42 and a lane-out; without its network clock
the recorder runs its own copy of the time (17_diagnostics_and_kiln_log.md R530). -/
def execPllUnlock (l : LaneId) (net : Bool) (s : State) : Host.Outcome State Fault Refusal :=
  .next (s.on l fun L =>
    if L.alive then
      let M : Lane := if net then L.loseTime else L
      let M : Lane := { M with clk := { M.clk with
        netLock := M.clk.netLock && !net, coreLock := M.clk.coreLock && net } }
      M.laneOut 0x1F42
    else L)

/-! ### Temperature sensors (R465-R467) -/

/-- Reading of temperature sensor `i`: L0-L3, then D0-D5 (Table 16.3, channels 50-59). -/
def Lane.temp (L : Lane) (i : Nat) : Rat := (L.clk.hk[50 + i]?).getD 0

/-- The sensors of a die. -/
def dieSensors (drive : Bool) : List Nat := if drive then [4, 5, 6, 7, 8, 9] else [0, 1, 2, 3]

/-- Working sensors of a die. -/
def Lane.working (L : Lane) (drive : Bool) : List Nat :=
  (dieSensors drive).filter fun i => !L.therm.broken.getLsbD i

/-- A number placed in an ascending list. -/
def insertR (x : Rat) : List Rat → List Rat
  | [] => [x]
  | y :: t => if x ≤ y then x :: y :: t else y :: insertR x t

/-- A list in ascending order. -/
def sortR (l : List Rat) : List Rat := l.foldr insertR []

/-- The median; of an even number, the mean of the middle two (R466). -/
def median (l : List Rat) : Option Rat :=
  let t := sortR l
  let n := t.length
  if n = 0 then none
  else if n % 2 = 1 then t[n / 2]?
  else match t[n / 2 - 1]?, t[n / 2]? with
    | some a, some b => some ((a + b) / 2)
    | _, _ => none

/-- The highest of a list. -/
def maxR : List Rat → Option Rat
  | [] => none
  | x :: t => some (t.foldl max x)

/-- A die's temperature: the highest working reading (R465). -/
def Lane.dieTemp (L : Lane) (drive : Bool) : Option Rat := maxR ((L.working drive).map L.temp)

/-- A reading outside -55 to +200 degrees C (R466). -/
def outOfScale (t : Rat) : Bool := decide (t < -55) || decide (200 < t)

/-- The run of a sensor after a round: departures of more than 15 K from the median of the other working
sensors of its die; a reading out of scale counts as three at once (R466, R467). -/
def Lane.sensorRun (L : Lane) (i : Nat) : Nat :=
  let ws := L.working (decide (4 ≤ i))
  let old := (L.therm.runs[i]?).getD 0
  if outOfScale (L.temp i) then 3
  else if ws.length < 3 then 0
  else match median ((ws.filter (· ≠ i)).map L.temp) with
    | some m => if 15 < absR (L.temp i - m) then old + 1 else 0
    | none => 0

/-- Two working sensors that differ by more than 15 K (R467). -/
def Lane.pairDiffers (L : Lane) (drive : Bool) : Bool :=
  match L.working drive with
  | [i, j] => decide (15 < absR (L.temp i - L.temp j))
  | _ => false

/-- The few-sensor case of a die (R467): 0 none, 1 no sensor, 2 one, 3 two that disagree. -/
def Lane.fewCase (L : Lane) (drive : Bool) : Nat :=
  match (L.working drive).length with
  | 0 => 1
  | 1 => 2
  | 2 => if 3 ≤ (if drive then L.therm.pairD else L.therm.pairL) then 3 else 0
  | _ => 0

/-- Temperatures and few-sensor cases evaluated; fault 0x7005 or 0x7045 on entering a case (R467). -/
def Lane.judgeTemps (L : Lane) : Lane :=
  let cl := L.fewCase false
  let cd := L.fewCase true
  let M : Lane := { L with therm := { L.therm with
    tLogic := L.dieTemp false, tDrive := L.dieTemp true, caseL := cl, caseD := cd } }
  let M := if cl ≠ 0 ∧ cl ≠ L.therm.caseL then M.raise 0x7005 0 else M
  if cd ≠ 0 ∧ cd ≠ L.therm.caseD then M.raise 0x7045 0 else M

/-- The warning flag of a die (R469): set above the threshold, cleared 5 K below. -/
def warnNext (old : Bool) (t : Option Rat) (thr : Rat) : Bool :=
  match t with
  | some x => if thr < x then true else if x ≤ thr - 5 then false else old
  | none => old

/-- Warnings of both dice (R469, Table 16.4). -/
def Lane.judgeWarn (L : Lane) : Lane :=
  let wl := warnNext L.therm.warnL L.therm.tLogic 135
  let wd := warnNext L.therm.warnD L.therm.tDrive 150
  let M : Lane := { L with therm := { L.therm with warnL := wl, warnD := wd } }
  let M := if wl && !L.therm.warnL then M.raise 0x7004 0 else M
  if wd && !L.therm.warnD then M.raise 0x7044 0 else M

/-- The cut sensors against the measured temperatures (R470). -/
def Lane.judgeCutSensors (L : Lane) : Lane :=
  let run := fun (drive : Bool) (old : Nat) (cut : Rat) =>
    match L.dieTemp drive with
    | some t => if 2 ≤ (L.working drive).length ∧ 15 < absR (cut - t) then old + 1 else 0
    | none => 0
  { L with therm := { L.therm with
      cutRunL := run false L.therm.cutRunL L.therm.tcutL
      cutRunD := run true L.therm.cutRunD L.therm.tcutD } }

/-! ### Compensation (R460, R462) -/

/-- The value of a curve of equally spaced points at an abscissa, end values outside (R460). -/
def interp (x0 step : Rat) (n : Nat) (y : Nat → Rat) (x : Rat) : Rat :=
  let k := ((x - x0) / step).floor
  if k < 0 then y 0
  else
    let i := k.toNat
    if n ≤ i + 1 then y (n - 1)
    else
      let d := (x - x0) / step - (i : Rat)
      y i + (y (i + 1) - y i) * d

/-- XTAL_CURVE at a temperature (R460). -/
def Lane.xtalCurve (L : Lane) (t : Rat) : Rat := interp (-40) 10 17 (fun i => L.real 0x2200 (0x10 + i)) t

/-- The temperature XTAL_TSRC gives; none where the source is absent or out of range (R460). -/
def Lane.xtalTemp (L : Lane) : Option Rat :=
  let src := L.obj 0x2200 2
  if src = 0xFE then L.therm.tLogic.map (· + L.real 0x2200 3)
  else
    let v := (L.clk.hk[src]?).getD 0
    if v < 0 ∨ 100 < v then none else some (v * L.real 0x2200 4 + L.real 0x2200 3)

/-- INC_BASE: INC_LEARNED adjusted by the change of the crystal's predicted frequency since it was
taken (09_time_base_and_timed_actions.md R287). -/
def Lane.incBaseNow (L : Lane) : Nat :=
  (roundR ((L.tb.incLearned : Rat) * (1 + L.tb.learnPpm / 1000000) /
    (1 + L.clk.xtalPpm / 1000000))).toNat

/-- The crystal's applied prediction moves by at most 0.05 ppm a round, or holds with fault 0x1F44
(R460); it feeds INC_BASE (R287). -/
def Lane.compensate (L : Lane) : Lane :=
  if L.obj 0x2200 2 = 0xFF then
    let M : Lane := { L with clk := { L.clk with xtalPpm := 0, compHold := false } }
    { M with tb := { M.tb with incBase := M.incBaseNow } }
  else match L.xtalTemp with
    | some t =>
      let p := L.xtalCurve t
      let d := max (-(1 / 20 : Rat)) (min (1 / 20 : Rat) (p - L.clk.xtalPpm))
      let M : Lane := { L with clk := { L.clk with xtalPpm := L.clk.xtalPpm + d, compHold := false } }
      { M with tb := { M.tb with incBase := M.incBaseNow } }
    | none =>
      let M : Lane := { L with clk := { L.clk with compHold := true } }
      if L.clk.compHold then M else M.raise 0x1F44 0

/-- Each die trims its main reference by the factory curve of its OTP at its own temperature, or holds (R462). -/
def Lane.trim (L : Lane) : Lane :=
  let set := fun (drive : Bool) (t : Option Rat) (was : Option Rat) =>
    match t with
    | some t => some (Config.bandgapTrim L.id drive t)
    | none => was
  let tl := L.therm.tLogic
  let td := L.therm.tDrive
  { L with clk := { L.clk with
      trimL := set false tl L.clk.trimL
      trimD := set true td L.clk.trimD
      bgHold := tl.isNone || td.isNone } }

/-- The check references on channels 24 and 25 (R462). -/
def Lane.judgeRefs (L : Lane) : Lane :=
  let out := fun c => decide (1 < absR ((L.clk.hk[c]?).getD 0))
  { L with clk := { L.clk with
      refRun := if out 24 then L.clk.refRun + 1 else 0
      refRunD := if out 25 then L.clk.refRunD + 1 else 0 } }

/-- The always-on oscillator (R454, R459): outside 3.2-4.8 MHz fault 0x1F43 and an invalid sleep
record. -/
def Lane.judgeAo (L : Lane) (hz : Rat) : Lane :=
  let ok := decide (3200000 ≤ hz) && decide (hz ≤ 4800000)
  let M : Lane := { L with
    clk := { L.clk with aoFreq := hz, aoOk := ok, aoBad := !ok }
    sleep := { L.sleep with valid := L.sleep.valid && ok } }
  if ok || L.clk.aoBad then M else M.raise 0x1F43 0

/-- The two readings of x_VDC, round by round (07_dc_link_and_braking_energy.md R218). -/
def Lane.judgeLinkSense (L : Lane) : Lane :=
  let second := (L.clk.hk[19]?).getD 0
  let out := decide (2 + absR L.dc.vdc / 50 < absR (second - L.dc.vdc))
  { L with dc := { L.dc with senseRun := if out then L.dc.senseRun + 1 else 0 } }

/-- The Kiln log's quantities of the running second that housekeeping gives
(17_diagnostics_and_kiln_log.md Table 17.3: H0, H1, H12). -/
def Lane.kilnRound (L : Lane) : Lane :=
  let hi := fun (o t : Option Rat) =>
    match o, t with
    | some a, some b => some (max a b)
    | some a, none => some a
    | none, b => b
  let v := (L.clk.hk[18]?).getD 0
  { L with kiln := { L.kiln with
      secTL := hi L.kiln.secTL L.therm.tLogic
      secTD := hi L.kiln.secTD L.therm.tDrive
      secVgd := some (match L.kiln.secVgd with
        | some a => min a v
        | none => v) } }

/-- The 64 channel values of a round; channels 61-63 read 0 (Table 16.3). -/
def hkList (v : List Rat) : List Rat :=
  (List.range 64).map fun c => if 61 ≤ c then 0 else (v[c]?).getD 0

/-- One housekeeping round, taken whole at the sample instant of its last channel (R463). (DEDUCED, log entry 90) -/
def Lane.hkRound (L : Lane) (n : Nat) (r : HkRound) : Lane :=
  let L := L.advance (n * 4000000 + 3937500)
  let L : Lane := { L with
    clk := { L.clk with hk := hkList r.vals, hkNs := n * 4000000 }
    therm := { L.therm with tcutL := r.tcutL, tcutD := r.tcutD } }
  let L : Lane := { L with therm := { L.therm with
    runs := (List.range 10).map L.sensorRun
    pairL := if L.pairDiffers false then L.therm.pairL + 1 else 0
    pairD := if L.pairDiffers true then L.therm.pairD + 1 else 0 } }
  ((((L.judgeTemps.judgeWarn.judgeCutSensors).compensate.trim.judgeRefs).judgeAo
    r.aoHz).judgeLinkSense).kilnRound

/-- HK_ROUND (R454, R459-R470). -/
def execHkRound (l : LaneId) (n : Nat) (r : HkRound) (s : State) : Host.Outcome State Fault Refusal :=
  .next (s.on l fun L => if L.alive then L.hkRound n r else L)

/-- SENSOR_BROKEN (R466): the sensor is excluded; its number 0-9 is the detail. -/
def execSensorBroken (l : LaneId) (i : Fin 10) (s : State) : Host.Outcome State Fault Refusal :=
  .next (s.on l fun L =>
    if 3 ≤ (L.therm.runs[i.val]?).getD 0 ∧ L.therm.broken.getLsbD i.val = false then
      let M : Lane := { L with therm := { L.therm with
        broken := L.therm.broken ||| BitVec.ofNat 10 (2 ^ i.val) } }
      (M.raise (if 4 ≤ i.val then 0x7042 else 0x7002) 2 i.val).judgeTemps
    else L)

/-- REFERENCE_CHECK_FAULT (R462). -/
def execReferenceCheckFault (l : LaneId) (s : State) : Host.Outcome State Fault Refusal :=
  .next (s.on l fun L =>
    if 3 ≤ L.clk.refRun ∨ 3 ≤ L.clk.refRunD then
      ({ L with clk := { L.clk with refRun := 0, refRunD := 0 } } : Lane).laneOut 0x6FC4
    else L)

/-- CUT_SENSOR_IMPLAUSIBLE (R470). -/
def execCutSensorImplausible (l : LaneId) (drive : Bool) (s : State) :
    Host.Outcome State Fault Refusal :=
  .next (s.on l fun L =>
    if 3 ≤ (if drive then L.therm.cutRunD else L.therm.cutRunL) then
      let M : Lane := { L with therm := { L.therm with
        suspect := true
        cutRunL := if drive then L.therm.cutRunL else 0
        cutRunD := if drive then 0 else L.therm.cutRunD } }
      M.laneOut (if drive then 0x7043 else 0x7003)
    else L)

/-- D2D_FRAME (R457): a frame that fails its CRC is discarded and counted; a lost frame of samples
leaves its period without samples, a lost frame of duties leaves the edges unloaded (R129). -/
def execD2dFrame (l : LaneId) (b : Fin 8) (up crcOk : Bool) (s : State) :
    Host.Outcome State Fault Refusal :=
  .next (s.on l fun L =>
    if L.alive = false then L
    else if crcOk then
      { L with clk := { L.clk with
          d2dUp := if up then 0 else L.clk.d2dUp
          d2dDown := if up then L.clk.d2dDown else 0 } }
    else
      let br := L.bridges.get b
      let br : Bridge := if up then { br with noSample := true } else { br with computed := false }
      { L with
        clk := { L.clk with
          d2dErrors := satInc L.clk.d2dErrors
          d2dUp := if up then L.clk.d2dUp + 1 else L.clk.d2dUp
          d2dDown := if up then L.clk.d2dDown else L.clk.d2dDown + 1 }
        bridges := L.bridges.set b br })

/-- D2D_LINK_FAILED (R457): 3 consecutive failed frames in either direction. -/
def execD2dLinkFailed (l : LaneId) (s : State) : Host.Outcome State Fault Refusal :=
  .next (s.on l fun L =>
    if 3 ≤ L.clk.d2dUp ∨ 3 ≤ L.clk.d2dDown then
      ({ L with clk := { L.clk with d2dUp := 0, d2dDown := 0 } } : Lane).laneOut 0x1F45
    else L)

/-! ### Thermal cuts and the Cone latch (R468-R473) -/

/-- The counted cuts after one more onset: cuts that begin within 1 ms count as one; those older than
600 s drop out (R472). -/
def cutOnsets (now : Nat) (l : List Nat) : List Nat :=
  match l with
  | [] => [now]
  | t :: _ => if now ≤ t + 1000000 then l else now :: recent now 600000000000 l

/-- CUTS_600 (Table 16.9). -/
def Lane.cuts600 (L : Lane) : Nat :=
  min 3 (recent L.tb.mono 600000000000 L.therm.onsets).length

/-- The monitor domain watches the lane's supplies and drive-die status lines: from step 1 on (R453). -/
def Lane.watched (L : Lane) : Bool :=
  L.pwr.vinOn && !L.pwr.nrst && decide (1 ≤ L.pwr.step) &&
  (L.pwr.state == .starting || L.pwr.state == .hold || L.pwr.state == .run)

/-- THERMAL_CUT (R468, R471, R472): the gates go low, the logic die's cut resets node, stars and
time base as well; the lane goes out, out of a start sequence too, and waits to cool. (DEDUCED, log entry 110) -/
def execThermalCut (l : LaneId) (drive : Bool) (s : State) : Host.Outcome State Fault Refusal :=
  .next (s.on l fun L =>
    if L.watched = false then L
    else
      let M : Lane := { L with
        therm := { L.therm with
          cutL := L.therm.cutL || !drive
          cutD := L.therm.cutD || drive
          cooling := true
          cuts := satInc L.therm.cuts
          onsets := cutOnsets L.tb.mono L.therm.onsets }
        kiln := { L.kiln with
          cutsLogic := if drive then L.kiln.cutsLogic else satInc L.kiln.cutsLogic
          cutsDrive := if drive then satInc L.kiln.cutsDrive else L.kiln.cutsDrive } }
      let down := fun c : Channel => { c with linkUp := c.linkUp.map fun _ => false }
      let M : Lane := if drive then M else { M.loseTime with
        net := { M.net with state := .halt, guardOpen := true, x := down M.net.x, y := down M.net.y }
        tb := { M.tb with seeded := false } }
      M.laneOut (if drive then 0x7041 else 0x7001))

/-- CONE_LATCH_TRIP (R472): by a Cone threshold, or by the third counted cut in 600 s. -/
def execConeLatchTrip (l : LaneId) (hot : Bool) (s : State) : Host.Outcome State Fault Refusal :=
  .next (s.on l fun L =>
    if L.watched = false ∨ (hot = false ∧ L.cuts600 < 3) then L
    else
      let M : Lane := { L with
        therm := { L.therm with
          cone := true
          coneOver := L.therm.coneOver || hot
          coneCount := L.therm.coneCount || !hot }
        kiln := { L.kiln with
          coneOver := if hot then satInc L.kiln.coneOver else L.kiln.coneOver
          coneCount := if hot then L.kiln.coneCount else satInc L.kiln.coneCount } }
      M.laneOut 0x7FC1)

/-- COOLING_DONE (R471): every cut sensor of the lane reads below its restart threshold. -/
def execCoolingDone (l : LaneId) (s : State) : Host.Outcome State Fault Refusal :=
  .next (s.on l fun L =>
    if L.therm.cooling then { L with therm := { L.therm with cooling := false, cutL := false, cutD := false } } else L)

/-! ### Supply monitors (18_balls_electrical_package.md R511, R513) -/

/-- VIN_UNDERVOLTAGE (R511): fault 0x6FC5, lane-out. -/
def execVinUndervoltage (l : LaneId) (s : State) : Host.Outcome State Fault Refusal :=
  .next (s.on l fun L => if L.watched then L.laneOut 0x6FC5 else L)

/-- VIN_OVERVOLTAGE (R511): fault 0x6FC3 at level record; the lane keeps running. -/
def execVinOvervoltage (l : LaneId) (s : State) : Host.Outcome State Fault Refusal :=
  .next (s.on l fun L => if L.watched then L.raise 0x6FC3 0 else L)

/-- The Cone latch cell clears when both supplies are below their thresholds (R473, R511). -/
def Lane.coneCell (L : Lane) : Lane :=
  if L.pwr.vinOn = false ∧ L.pwr.vaonOn = false then
    { L with therm := { L.therm with
        cone := false, coneOver := false, coneCount := false, onsets := [] } }
  else L

/-- AON_RESET (R511, R513, 09_time_base_and_timed_actions.md R312): the sleep record is invalid; fault
0x6FC6 while x_VIN is above its power-on threshold; the Cone latch cell may clear. -/
def execAonReset (l : LaneId) (s : State) : Host.Outcome State Fault Refusal :=
  .next (s.on l fun L =>
    let M : Lane := { L with
      pwr := { L.pwr with vaonOn := false }
      sleep := { L.sleep with valid := false } }
    if L.watched then M.raise 0x6FC6 0 else M.coneCell)

end Sys2Proof.Machine
end

