-- ==== Sys2Proof/Machine/Bridge.lean ====
section
/-! DEFINITION. The operations that the field engines, the position front ends, the gate drive and the
DC link share: machine data, electrical speed, the mode of a bridge by Table 4.6, isolation of a
winding set, rotor loss, and fault events of a bridge (chapters 04-07). -/

namespace Sys2Proof.Machine

/-! ### Access -/

/-- The lane with one bridge replaced by what a function makes of it. -/
def Lane.onBr (L : Lane) (b : Fin 8) (f : Bridge → Bridge) : Lane :=
  { L with bridges := L.bridges.set b (f (L.bridges.get b)) }

/-- The lane with one front end replaced. -/
def Lane.onFe (L : Lane) (b : Fin 8) (f : FrontEnd → FrontEnd) : Lane :=
  { L with fes := L.fes.set b (f (L.fes.get b)) }

/-- The lane with one gate drive replaced. -/
def Lane.onGate (L : Lane) (b : Fin 8) (f : Gate → Gate) : Lane :=
  { L with gates := L.gates.set b (f (L.gates.get b)) }

/-- A REAL32 of Table 4.1 for actuator `n`. -/
def Lane.mach (L : Lane) (n : Fin 8) (sub : Nat) : Rat := L.real (actIdx n 1) sub

/-- A REAL32 of Table 4.1 as the field engines use it: a committed value from the first period at or after tAPPLY
(04_field_engines.md R122). -/
def Lane.machNow (L : Lane) (n : Fin 8) (sub : Nat) : Rat :=
  r32 (match L.dict.held.find? fun p => p.1 == okey (actIdx n 1) sub with
    | some p => p.2
    | none => L.obj (actIdx n 1) sub)

/-- The lane as a period that starts at `tb` ns uses it (R122). -/
def Lane.fieldView (L : Lane) (tb : Rat) : Lane :=
  if ((L.vote.startNs + L.tApply * 1000 : Nat) : Rat) ≤ tb then { L with dict := { L.dict with held := [] } } else L

/-- POLE_PAIRS of actuator `n` (Table 4.1). -/
def Lane.polePairs (L : Lane) (n : Fin 8) : Nat := L.obj (actIdx n 1) 1

/-- PWM_FREQ of actuator `n` in Hz (Table 4.1). -/
def Lane.pwmFreq (L : Lane) (n : Fin 8) : Nat := L.obj (actIdx n 1) 0x0B

/-- A REAL32 of Table 5.5 for actuator `n`. -/
def Lane.posReal (L : Lane) (n : Fin 8) (sub : Nat) : Rat := L.real (actIdx n 2) sub

/-- A REAL32 of Table 7.4. -/
def Lane.dcReal (L : Lane) (sub : Nat) : Rat := L.real (L.dcIdx 0) sub

/-- Code of a bridge fault (04_field_engines.md R149, 06_gate_drive_and_bridge_protection.md R214). -/
def brCode (b : Fin 8) (kind : Nat) : Nat := 0x2000 + b.val * 0x40 + kind

/-- Code of a position fault (05_rotor_position.md R180). -/
def feCode (b : Fin 8) (kind : Nat) : Nat := 0x3000 + b.val * 0x40 + kind

/-- Code of a DC-link fault (07_dc_link_and_braking_energy.md R236). -/
def dcCode (kind : Nat) : Nat := 0x6F80 + kind

/-- A bridge and its front end work only where the map names them (R151), in a running lane. -/
def Lane.served (L : Lane) (b : Fin 8) : Bool := L.alive && (L.actOf b).isSome

/-- The agreed value of an input, when it is valid (02_vote_cycle_and_fault_tolerance.md R49). -/
def Lane.agreedVal (L : Lane) (num : Nat) : Option Int :=
  match L.vote.agreed.find? fun a => a.num == num with
  | some a => if a.valid then some a.val else none
  | none => none

/-- Agreed shaft angle of actuator `n` in revolutions (R153). -/
def Lane.agreedAngle (L : Lane) (n : Fin 8) : Option Rat :=
  (L.agreedVal (0x10 + n.val)).map fun v => (v : Rat) / 65536

/-- Agreed shaft speed of actuator `n` in revolutions per second (R153). -/
def Lane.agreedSpeed (L : Lane) (n : Fin 8) : Option Rat :=
  (L.agreedVal (0x18 + n.val)).map fun v => (v : Rat) / 65536

/-- A dead time in ns rounded up to ticks of 6.25 ns (R188). -/
def deadTicks (d : Nat) : Rat :=
  let t : Rat := (d : Rat) / (25 / 4)
  (t.ceil : Rat) * (25 / 4)

/-- Dead time of a bridge in ns: DEAD_TIME in whole ticks; it changes only while the bridge is DISABLED (R188).
(DEDUCED, log entry 103) -/
def Lane.deadTime (L : Lane) (b : Fin 8) : Rat :=
  deadTicks ((L.gates.get b).deadHeld.getD (L.obj (L.brIdx b 2) 1))

/-- A bridge that is not DISABLED keeps its dead time across a write of DEAD_TIME (R188). (DEDUCED, log entry 103) -/
def Lane.holdDead (L : Lane) (idx sub : Nat) : Lane :=
  match fin8.find? fun b => L.brIdx b 2 == idx with
  | some b =>
    if sub = 1 ∧ (L.bridges.get b).mode ≠ .disabled ∧ (L.gates.get b).deadHeld.isNone then
      L.onGate b fun g => { g with deadHeld := some (L.obj idx 1) }
    else L
  | none => L

/-! ### Electrical speed and back-EMF -/

/-- Speed of the own sensor in shaft revolutions per second (R152). -/
def Lane.sensorSpeed (L : Lane) (b : Fin 8) (n : Fin 8) : Rat :=
  let pp : Nat := if L.obj (actIdx n 2) 1 = 1 then 1 else max 1 (L.obj (actIdx n 2) 2)
  (L.fes.get b).speed / (pp : Rat)

/-- Electrical speed in rad/s of a shaft speed in revolutions per second. -/
def Lane.elec (L : Lane) (n : Fin 8) (w : Rat) : Rat := (L.polePairs n : Rat) * 2 * Config.pi * w

/-- Electrical speed of the set's source, in rad/s: its own, or POLE_PAIRS times the agreed shaft speed
where the source gives none (R164); none where neither exists. -/
def Lane.wElec (L : Lane) (b n : Fin 8) : Option Rat :=
  let f := L.fes.get b
  match f.asrc with
  | .sensor | .hfiCheck => some (L.elec n (L.sensorSpeed b n))
  | .observer => some f.wObs
  | .reacquire =>
    match f.acqW with
    | some w => some w
    | none => (L.agreedSpeed n).map (L.elec n)
  | _ => (L.agreedSpeed n).map (L.elec n)

/-- Whether the back-EMF of a speed lies above a share of vdc, E = √3 × PSI × |ωe| (R173). -/
def Lane.emfAbove (L : Lane) (n : Fin 8) (w share : Rat) : Bool :=
  let lim := share * L.dc.vdc
  decide (lim < 0) || decide (lim * lim < 3 * L.machNow n 5 * L.machNow n 5 * w * w)

/-- Whether the back-EMF of a speed lies below a share of vdc (R173). -/
def Lane.emfBelow (L : Lane) (n : Fin 8) (w share : Rat) : Bool :=
  let lim := share * L.dc.vdc
  decide (0 < lim) && decide (3 * L.machNow n 5 * L.machNow n 5 * w * w < lim * lim)

/-- Rotor-loss or isolated mode on entry (R173): active short above 0.8 × vdc and where no valid speed
exists, all-off otherwise. In REACQUIRE the short is pulsed (R175). -/
def Lane.chooseShort (L : Lane) (n : Fin 8) (w : Option Rat) : Bool :=
  match w with
  | some x => L.emfAbove n x (4 / 5)
  | none => true

/-- The two requests of R173 in a bridge: rank 3 when shorting, rank 4 otherwise; in REACQUIRE both
states stand at rank 4 (R175). -/
def Bridge.request (br : Bridge) (short reacq : Bool) : Bridge :=
  { br with short := short && !reacq, off := !short || reacq, pulsed := short && reacq }

/-- The requests withdrawn. -/
def Bridge.noRequest (br : Bridge) : Bridge := { br with short := false, off := false, pulsed := false }

/-! ### The mode of a bridge (Table 4.6) -/

/-- A protective opening of rank 2: fault wait or its try, latch, soft turn-off or hardware hold (Table 4.6). -/
def Lane.opened (L : Lane) (b : Fin 8) : Bool :=
  let g := L.gates.get b
  g.wait || g.trying || g.latch || g.soft != 0 || g.episode || L.dc.hwHold

/-- OV3 acts on sets in MODULATE, ALL_OFF or PULSED_SHORT, and keeps a shorted one shorted (R228). -/
def modeOv3 : Mode → Bool
  | .modulate | .allOff | .pulsedShort | .activeShort => true
  | _ => false

/-- A lane drives the bridge: role LEAD or FOLLOWER, set mapped and not isolated (Table 4.6, rank 6). -/
def Lane.drivesBridge (L : Lane) (b : Fin 8) : Bool :=
  L.vote.role.drives && (L.actOf b).isSome && (L.bridges.get b).isolKinds.isEmpty

/-- The rank that governs the bridge and the mode it gives (Table 4.6); a bridge that the map does not name stays
disabled (01_three_lanes_one_module.md R34). (DEDUCED, log entry 27) -/
def Lane.wanted (L : Lane) (b : Fin 8) : Nat × Mode :=
  let br := L.bridges.get b
  if L.pwr.stopLine || (L.actOf b).isNone then (1, .disabled)
  else if L.opened b then (2, .allOff)
  else if br.short || (L.dc.ov3 && modeOv3 br.mode) then (3, .activeShort)
  else if br.off then (4, if br.pulsed then .pulsedShort else .allOff)
  else match br.passive with
    | some m => (5, m)
    | none =>
      if L.drivesBridge b && !(L.dc.ov3) then (6, .modulate) else (7, .disabled)

/-- Gate outputs a mode commands between edges (Table 4.6): three low sides in a short and at a carrier
boundary, none otherwise. -/
def modeOutputs : Mode → BitVec 6
  | .modulate | .activeShort | .parkApply | .pulsedShort => 0b101010#6
  | _ => 0

/-- Outputs that have their supply: the low sides hang on x_VGD, each high side on its bootstrap supply; an output whose
supply is below its threshold or absent is held low (06_gate_drive_and_bridge_protection.md R183). -/
def Lane.supplied (L : Lane) (b : Fin 8) (o : BitVec 6) : BitVec 6 :=
  let uv := (L.gates.get b).bsUv
  let high := fun (low : Bool) (i : Nat) => if low then 0#6 else BitVec.ofNat 6 (2 ^ i)
  let lows : BitVec 6 := if L.pwr.vgdOn && !L.pwr.vgdBad then 0b101010#6 else 0
  o &&& (lows ||| high uv.u 0 ||| high uv.v 2 ||| high uv.w 4)

/-- The gate outputs of a bridge that are on at the lane's present time: those commanded on, or in precharge the low side
of U, V and W in turn, 2 microseconds each from the period's boundary (R183, R198). -/
def Lane.outOn (L : Lane) (b : Fin 8) : BitVec 6 :=
  let g := L.gates.get b
  let t := L.tb.ns - (L.bridges.get b).startNs
  let pre : BitVec 6 := if t < 2000 then 0b000010#6 else if t < 4000 then 0b001000#6
    else if t < 6000 then 0b100000#6 else 0
  L.supplied b (if g.precharge then pre else g.onOut)

/-- The measurement vectors of a period in PULSED_SHORT, each tWMIN long: U, U and V, V and W, W
(05_rotor_position.md R176). (DESIGN CHOICE, log entry 80) -/
def pulsedVectors : List (Tri3 Bool × Nat) :=
  [(⟨true, false, false⟩, 160), (⟨true, true, false⟩, 160), (⟨false, true, true⟩, 160), (⟨false, false, true⟩, 160)]

/-- A mode that runs the current loop (R132). -/
def modeLoops : Mode → Bool
  | .modulate | .parkApply => true
  | _ => false

/-- A commanded self-test of a bridge requested into any other mode aborts (R212). -/
def Lane.abortTest (L : Lane) (b : Fin 8) : Lane :=
  let g := L.gates.get b
  if g.testing then
    let r := match g.testBy with
      | some m => g.result.finish m (BitVec.ofNat 12 (2 * 1024))
      | none => g.result
    (L.onGate b fun g => { g with testing := false, testBy := none, result := r }).raise (brCode b 9) 0
  else L

/-- The bridge enters a mode: the loop state starts at 0, the samples and edges of the old mode are
dropped (R147, R148). -/
def Lane.setMode (L : Lane) (b : Fin 8) (m : Mode) : Lane :=
  let M := L.onBr b fun br =>
    { br.quiet with
      mode := m, offsOk := if m = .disabled then false else br.offsOk
      vectors := if m = .pulsedShort then pulsedVectors else [] }
  M.onGate b fun g => { g with
    onOut := L.supplied b (modeOutputs m), deadHeld := if m = .disabled then none else g.deadHeld }

/-- Precharge runs while a mapped bridge is DISABLED with its stop line released, and during a try
(06_gate_drive_and_bridge_protection.md R198); the hardware hold keeps every gate low (07_dc_link_and_braking_energy.md
R229). -/
def Lane.setPrecharge (L : Lane) (b : Fin 8) : Lane :=
  let on := !L.pwr.stopLine && (L.actOf b).isSome && !L.dc.hwHold && !(L.gates.get b).episode &&
    ((L.gates.get b).trying || (L.bridges.get b).mode == .disabled)
  L.onGate b fun g => { g with precharge := on }

/-- What acts at once on a bridge's mode: the stop line, a protective opening, and a request of rank 3
or 4 (R147). A return from a short to all-off and every entry of rank 5-7 waits for a boundary; a
bridge whose opening has ended returns through DISABLED (R230). A protective opening ends a commanded self-test
(06_gate_drive_and_bridge_protection.md R210, R212). (DEDUCED, log entry 97) -/
def Lane.settle (L : Lane) (b : Fin 8) : Lane :=
  let cur := (L.bridges.get b).mode
  let (rank, m) := L.wanted b
  let L := if m ≠ .disabled ∧ (m ≠ cur ∨ rank = 2) then L.abortTest b else L
  if m = cur then L.setPrecharge b
  else if rank ≤ 3 ∨ (rank = 4 ∧ cur ≠ .activeShort) then (L.setMode b m).setPrecharge b
  else L.setPrecharge b

/-- Every bridge settled. -/
def Lane.settleAll (L : Lane) : Lane := fin8.foldl Lane.settle L

/-! ### Isolation of winding sets and sensors (R149, R164) -/

/-- A winding set isolated by a fault without a new event: the source reads ISOLATED, and the bridge is
placed by R173. -/
def Lane.isolateSet (L : Lane) (b : Fin 8) (code : Nat) : Lane :=
  match L.actOf b with
  | none => L
  | some n =>
    let w := (L.agreedSpeed n).map (L.elec n)
    let M := L.onFe b fun f => { f with asrc := .isolated, due := none, hfiPhase := 0 }
    let M := M.onBr b fun br =>
      { (br.request (L.chooseShort n w) false) with
        isolKinds := if br.isolKinds.contains code then br.isolKinds else code :: br.isolKinds }
    M.settle b

/-- A fault at level isolate that isolates a winding set (R149). -/
def Lane.isolate (L : Lane) (b : Fin 8) (code : Nat) (detId : Nat := 0) (detVal : Nat := 0) : Lane :=
  (L.raise code 2 detId detVal).isolateSet b code

/-- One cause of isolation ends; with the last the set is free again, from the next period boundary on its own sensor or
on the agreed angle (log entry 10). -/
def Lane.unisolate (L : Lane) (b : Fin 8) (code : Nat) : Lane :=
  let rest := (L.bridges.get b).isolKinds.filter (· ≠ code)
  if (L.bridges.get b).isolKinds.contains code = false then L
  else
    let M := L.onBr b fun br => { br with isolKinds := rest }
    if rest ≠ [] then M
    else
      let M := M.onBr b Bridge.noRequest
      M.onFe b fun f => { f with due := some (if f.sensIsol then .borrowed else .sensor) }

/-- The set loses its rotor (R172, R173, R175, R178): fault 0x0A, active short or all-off by the last
observer speed; a third loss within 1 s isolates the set. -/
def Lane.loseRotor (L : Lane) (b n : Fin 8) (w : Rat) (raiseIt : Bool) : Lane :=
  let M := if raiseIt then L.raise (feCode b 0x0A) 0 else L
  let losses := L.tb.mono :: recent L.tb.mono 1000000000 (L.fes.get b).losses
  let short := L.chooseShort n (some w)
  let M := M.onFe b fun f =>
    { f with losses := losses, lostNs := L.tb.ns, acqRun := 0, acqLast := none, acqW := none, obsOk := false
             okRun := 0, due := none, hfiPhase := 0, asrc := if short then .lost else .reacquire }
  if 3 ≤ losses.length then M.isolate b (feCode b 0x0B)
  else (M.onBr b fun br => br.request short false).settle b

/-- The source that a set whose own sensor has been isolated takes (Table 5.2): BORROWED and OBSERVER from the next
period boundary (R164, R169), the loss of the rotor at once. A passage to LOST counts as a loss of R178 and raises no
fault 0x0A. (DESIGN CHOICE, log entry 128) -/
def Lane.leaveSensor (L : Lane) (b n : Fin 8) : Lane :=
  let f := L.fes.get b
  let w := absR (L.elec n (L.sensorSpeed b n))
  if w < L.posReal n 9 then L.onFe b fun f => { f with due := some .borrowed, hfiPhase := 0 }
  else if f.obsOk then L.onFe b fun f => { f with due := some .observer, hfiPhase := 0 }
  else L.loseRotor b n (L.elec n (L.sensorSpeed b n)) false

/-- The sensor of a front end is isolated: it is not used again until the lane restarts (R164). During the injection
check the set takes the rows of Table 5.2 that start at SENSOR. (DESIGN CHOICE, log entry 127) -/
def Lane.dropSensor (L : Lane) (b : Fin 8) : Lane :=
  match L.actOf b with
  | none => L
  | some n =>
    let f := L.fes.get b
    let M := L.onFe b fun f => { f with sensIsol := true }
    if f.asrc = .sensor ∨ f.asrc = .hfiCheck then M.leaveSensor b n else M

/-- A fault at level isolate that isolates a sensor (Table 5.4); a sensor is isolated once. -/
def Lane.isolateSensor (L : Lane) (b : Fin 8) (kind : Nat) : Lane :=
  if (L.fes.get b).sensIsol then L else (L.raise (feCode b kind) 2).dropSensor b

/-- The bridge modes of the sets that stand in LOST, REACQUIRE or ISOLATED follow their back-EMF (R173):
above 0.8 × vdc they short, below 0.7 × vdc they open. A change during REACQUIRE restarts the
acquisition (R175). A set that leaves at the next boundary follows no more. -/
def Lane.followEmf (L : Lane) (b : Fin 8) : Lane :=
  match L.actOf b with
  | none => L
  | some n =>
    let f := L.fes.get b
    let br := L.bridges.get b
    if f.due.isNone ∧ (f.asrc = .lost ∨ f.asrc = .reacquire ∨ f.asrc = .isolated) then
      let w := L.wElec b n
      let reacq := f.asrc == .reacquire
      let now := br.short || br.pulsed
      let next := match w with
        | none => true
        | some x => if now then !(L.emfBelow n x (7 / 10)) else L.emfAbove n x (4 / 5)
      if now = next then L
      else
        let M := L.onBr b fun br => br.request next reacq
        let M := if reacq then
            M.onFe b fun f => { f with acqRun := 0, acqLast := none, acqW := none }
          else if f.asrc = .lost ∧ next = false then M.onFe b fun f => { f with asrc := .reacquire }
          else M
        M.settle b
    else L

/-! ### Fault events of a bridge (06_gate_drive_and_bridge_protection.md R205-R208) -/

/-- Tries within the preceding 1 s, window ends included (R208). -/
def Lane.triesNow (L : Lane) (b : Fin 8) : List Nat :=
  recent L.tb.mono 1000000000 (L.gates.get b).tries

/-- A fault event of a bridge places it in a fault wait; with 3 tries in the preceding 1 s it latches
(R205, R208). (DEDUCED, log entry 79) -/
def Lane.gateEvent (L : Lane) (b : Fin 8) (kind : Nat) : Lane :=
  let M := L.onGate b fun g =>
    { g with onOut := 0, soft := 0, episode := false, trying := false, precharge := false, tries := L.triesNow b }
  if (L.gates.get b).latch then M.settle b
  else if 3 ≤ (L.triesNow b).length then
    let M := M.onGate b fun g =>
      { g with wait := false, latch := true, latchedKind := BitVec.ofNat 8 kind }
    M.isolate b (brCode b 0x0B) 0 kind
  else (M.onGate b fun g => { g with wait := true, waitKind := kind }).settle b

/-- A detection during a fault wait only counts in SRC_COUNT of its code (R205). -/
def Lane.countOnly (L : Lane) (code : Nat) : Lane :=
  { L with flog := { L.flog with srcCount := storeBump L.flog.srcCount code 1 } }

end Sys2Proof.Machine
end

