-- ==== Sys2Proof/Machine/Position.lean ====
section
/-! DEFINITION. Position front ends, angle sources, injection check, rotor loss and re-acquisition
(chapter 05). The back-EMF observer runs with the period computation of the field engine. -/

namespace Sys2Proof.Machine

/-- The part of a number after its whole part. -/
def fracR (x : Rat) : Rat := x - (x.floor : Rat)

/-- A number of revolutions brought within half a revolution of 0. -/
def wrapHalf (x : Rat) : Rat := x - (roundR x : Rat)

/-- SENSOR_TYPE of an actuator is BiSS-C (Table 5.5). -/
def Lane.bissMode (L : Lane) (n : Fin 8) : Bool := L.obj (actIdx n 2) 1 == 1

/-- The position after a number of sensor revolutions counted from the running one: each wrap of φ changes
REV_COUNT and its stored copy (R154). -/
def FrontEnd.place (f : FrontEnd) (x : Rat) (ns : Nat) : FrontEnd :=
  { f with phi := fracR x, phiNs := ns, revs := f.revs + x.floor, revsNv := f.revs + x.floor }

/-- φ as the field engine reads it from the converter, 16 bits a revolution (R160). -/
def Lane.phiRead (L : Lane) (b n : Fin 8) : Rat :=
  let p := (L.fes.get b).phi
  if L.bissMode n then p else ((p * 65536).floor : Rat) / 65536

/-- Revolutions of the sensor in one turn of the shaft: RES_PP, 1 in BiSS-C mode (R152). -/
def Lane.sensorPp (L : Lane) (n : Fin 8) : Nat :=
  if L.bissMode n then 1 else max 1 (L.obj (actIdx n 2) 2)

/-- Shaft angle of the own sensor in degrees (R152). -/
def Lane.shaftDeg (L : Lane) (b n : Fin 8) : Rat :=
  360 * (((L.fes.get b).revs : Rat) + L.phiRead b n) / (L.sensorPp n : Rat) - L.real (L.brIdx b 1) 6

/-- Electrical angle in degrees, 0-360, of a shaft angle in degrees (R152). -/
def Lane.elecDeg (L : Lane) (b n : Fin 8) (shaft : Rat) : Rat :=
  360 * fracR (((L.polePairs n : Rat) * shaft + L.real (L.brIdx b 1) 7) / 360)

/-- Degrees in radians. -/
def radOf (deg : Rat) : Rat := deg * Config.pi / 180

/-- The reported angles of a front end (R152, R182). -/
def Lane.showAngles (L : Lane) (b n : Fin 8) : Lane :=
  let sh := L.shaftDeg b n
  L.onFe b fun f =>
    { f with shaft := sh, thetaE := L.elecDeg b n sh, shaftSpd := 360 * L.sensorSpeed b n }

/-- Instant of a tick of the running period, as seconds from its start. -/
def Lane.tickS (L : Lane) (t : Rat) : Rat := t / L.clk.pwmHz

/-- Seconds from a network time to the start of the bridge's running period. -/
def sinceS (start ns : Nat) : Rat := ((start : Rat) - (ns : Rat)) / 1000000000

/-- The first aperture of the running period begins 144 ticks (tRING + tSET) after phase h rises: ts1, in seconds from
the period's start (04_field_engines.md R138, R140). R132 names ts1 as the centre of that aperture, R140 as its
beginning; the beginning is taken. (DESIGN CHOICE, log entry 124) -/
def Lane.ts1 (L : Lane) (b : Fin 8) : Rat :=
  let br := L.bridges.get b
  L.tickS ((br.loaded.get br.loadedOrd.u : Rat) + 144)

/-- The same instant of the next period, the edges of this one kept. -/
def Lane.nextTs1 (L : Lane) (b : Fin 8) : Rat := L.ts1 b + L.tickS ((L.bridges.get b).curLen : Rat)

/-- Electrical angle in radians of the own sensor `x` seconds after the start of the running period: its last sample
extrapolated with its speed (R160, R162). -/
def Lane.sensorAngle (L : Lane) (b n : Fin 8) (x : Rat) : Rat :=
  let f := L.fes.get b
  let turn := f.speed * (sinceS (L.bridges.get b).startNs f.phiNs + x) * 360 / (L.sensorPp n : Rat)
  radOf (L.elecDeg b n (L.shaftDeg b n + turn))

/-! ### Resolver mode (R157-R160) -/

/-- EXC_FREQ of a front end in kHz (Table 5.6). -/
def Lane.excFreq (L : Lane) (b : Fin 8) : Nat := L.obj (L.brIdx b 1) 1

/-- The excitation on x_EXCb: its frequency in kHz and its peak in V; none where the pins rest at 0 V, in a front end
without a mapped bridge (R151), in BiSS-C mode (R161) and after fault 0x03 (R159). -/
def Lane.excitation (L : Lane) (b : Fin 8) : Option (Nat × Rat) :=
  match L.actOf b with
  | some n =>
    if L.alive && !L.bissMode n && !(L.fes.get b).excCut then some (L.excFreq b, L.real (L.brIdx b 1) 2) else none
  | none => none

/-- One channel of a half period of excitation demodulated: the samples, 2.5 a microsecond from the half period's start,
against the excitation shifted by RES_PHASE (R157). (DEDUCED, log entry 129) -/
def Lane.demod (L : Lane) (b : Fin 8) (x : List Rat) : Rat :=
  let half : Rat := if (L.fes.get b).excHalf then Config.pi else 0
  let ref := fun k : Nat =>
    Config.sin (2 * Config.pi * (L.excFreq b : Rat) * (k : Rat) / 2500 + half + radOf (L.real (L.brIdx b 1) 4))
  let n : Nat := x.length
  if n = 0 then 0
  else 2 * (x.zipIdx.foldl (fun a p => a + p.1 * ref p.2) 0) / (n : Rat)

/-- Network time that a pair stands for: the demodulation delay, half of its half period, is taken off (R160). (DEDUCED,
log entry 129) -/
def Lane.pairNs (L : Lane) (b : Fin 8) : Nat := L.tb.ns - 250000 / L.excFreq b

/-- The tracking converter takes an accepted pair (R160): an error above 5 degrees in 4 updates, or a speed
beyond 60,000 revolutions per minute, is the tracking fault. -/
def Lane.track (L : Lane) (b : Fin 8) (sinV cosV : Rat) : Lane :=
  let f := L.fes.get b
  let dt := 1 / (2000 * (L.obj (L.brIdx b 1) 1 : Rat))
  let pred := f.phi + f.speed * dt
  let err := wrapHalf (Config.atan2 sinV cosV / (2 * Config.pi) - pred)
  let bw := L.real (L.brIdx b 1) 5
  let speed := f.speed + Config.rdcSpeedGain bw dt * err
  let big := decide (5 / 360 < absR err)
  let run := if 1000 < absR speed then 4 else if big then f.trackRun + 1 else 0
  L.onFe b fun f =>
    { (f.place (pred + Config.rdcAngleGain bw dt * err) (L.pairNs b)) with
      speed := speed, trackRun := run, trackFlag := f.trackFlag || big, lowRun := 0, highRun := 0 }

/-- A withheld pair: the converter coasts (R158). -/
def Lane.coast (L : Lane) (b : Fin 8) (low : Bool) : Lane :=
  let f := L.fes.get b
  let dt := 1 / (2000 * (L.obj (L.brIdx b 1) 1 : Rat))
  let run := f.lowRun + f.highRun + 1
  L.onFe b fun f =>
    { (f.place (f.phi + f.speed * dt) (L.pairNs b)) with
      ampFlag := true, lowRun := if low then run else 0, highRun := if low then 0 else run }

/-- A demodulated pair: within the window it feeds the converter, else it is withheld (R158). -/
def Lane.takePair (L : Lane) (b n : Fin 8) (sinV cosV amp : Rat) : Lane :=
  let full := L.real (L.brIdx b 1) 3 * amp
  let a2 := (sinV * sinV + cosV * cosV) / (full * full)
  let M := L.onFe b fun f => { f with resAmp := Config.sqrt a2, excHalf := !f.excHalf }
  let M := if a2 < 1 / 4 then M.coast b true
    else if 9 / 4 < a2 then M.coast b false
    else M.track b sinV cosV
  M.showAngles b n

/-- RESOLVER_PAIR (R157, R158, R160): a half period of a driven excitation. (DEDUCED, log entry 92) -/
def execResolverPair (l : LaneId) (b : Fin 8) (sinS cosS : List Rat) (s : State) :
    Host.Outcome State Fault Refusal :=
  .next (s.on l fun L =>
    match L.actOf b, L.excitation b with
    | some n, some (_, amp) =>
      if (L.fes.get b).sensIsol || L.lptOn (24 + b.val) then L else L.takePair b n (L.demod b sinS) (L.demod b cosS) amp
    | _, _ => L)

/-- RESOLVER_AMPLITUDE_FAULT (R158): four consecutive withheld pairs, fault 0x01 or 0x02. -/
def execResolverAmplitudeFault (l : LaneId) (b : Fin 8) (s : State) :
    Host.Outcome State Fault Refusal :=
  .next (s.on l fun L =>
    let f := L.fes.get b
    if L.served b = false then L
    else if 4 ≤ f.lowRun then L.isolateSensor b 1
    else if 4 ≤ f.highRun then L.isolateSensor b 2
    else L)

/-- EXCITATION_FAULT (R159): current below 2 mA or above 150 mA; the excitation is switched off. -/
def execExcitationFault (l : LaneId) (b : Fin 8) (mA : Nat) (s : State) :
    Host.Outcome State Fault Refusal :=
  .next (s.on l fun L =>
    if (L.excitation b).isSome && (decide (mA < 2) || decide (150 < mA)) then
      (L.onFe b fun f => { f with excCut := true, excFlag := true }).isolateSensor b 3
    else L)

/-- TRACKING_FAULT (R160). -/
def execTrackingFault (l : LaneId) (b : Fin 8) (s : State) : Host.Outcome State Fault Refusal :=
  .next (s.on l fun L => if L.served b ∧ 4 ≤ (L.fes.get b).trackRun then L.isolateSensor b 4 else L)

/-! ### BiSS-C mode (R161-R163) -/

/-- The bits of a frame as a number, the most significant first (R161). -/
def msbNat (l : List Bool) : Nat := l.foldl (fun a b => 2 * a + (if b then 1 else 0)) 0

/-- The 6-bit CRC of polynomial x^6 + x + 1 over bits, the most significant first (R161). -/
def bissCrc (l : List Bool) : BitVec 6 :=
  l.foldl (fun r b => (r <<< 1) ^^^ (if r.getLsbD 5 != b then 3#6 else 0)) 0

/-- What a BiSS-C frame carries (R161). -/
structure BissData where
  /-- The frame has its length and its CRC, transmitted inverted, holds. -/
  ok : Bool
  /-- Multi-turn field. -/
  mt : Nat
  /-- Single-turn field. -/
  st : Nat
  /-- nE. -/
  nE : Bool
  /-- nW. -/
  nW : Bool
  deriving DecidableEq, Repr

/-- A frame of `mt` multi-turn bits, `st` single-turn bits, nE, nW and the CRC (R161). -/
def bissData (mt st : Nat) (frame : List Bool) : BissData :=
  let data := frame.take (mt + st + 2)
  let crc := frame.drop (mt + st + 2)
  { ok := frame.length == mt + st + 8 && msbNat crc == 63 - (bissCrc data).toNat
    mt := msbNat (data.take mt), st := msbNat ((data.drop mt).take st)
    nE := data.getD (mt + st) false, nW := data.getD (mt + st + 1) false }

/-- Sensor revolutions since the last position sample, by its speed, at the first MA edge of the request (R162). -/
def FrontEnd.moved (f : FrontEnd) : Rat := f.speed * sinceS f.bissNs f.phiNs

/-- A discarded frame: the angle is extrapolated, FRAME_ERRORS counts (R163). -/
def Lane.bissDiscard (L : Lane) (b : Fin 8) : Lane :=
  L.onFe b fun f =>
    { (f.place (f.phi + f.moved) f.bissNs) with
      bissPending := false, bissRun := f.bissRun + 1, frameFlag := true
      frameErrors := satInc f.frameErrors }

/-- An accepted frame: the position at the first MA edge of its request, the speed from successive samples, the
multi-turn field in place of REV_COUNT where BISS_MT is above 0 (R154, R162). -/
def Lane.bissTake (L : Lane) (b n : Fin 8) (d : BissData) (delay : Nat) : Lane :=
  let stBits := L.obj (actIdx n 2) 3
  let mtBits := L.obj (actIdx n 2) 4
  let p : Rat := (d.st : Rat) / ((2 ^ stBits : Nat) : Rat)
  L.onFe b fun f =>
    let x := f.phi + f.moved
    let y := x + wrapHalf (p - x)
    let g := f.place y f.bissNs
    let g : FrontEnd := if mtBits = 0 then g else { g with revs := d.mt }
    { g with
      phi := p
      speed := match f.sample with
        | some (x0, t0) => if t0 < f.bissNs then ((f.revs : Rat) + y - x0) / sinceS f.bissNs t0 else f.speed
        | none => f.speed
      sample := some ((g.revs : Rat) + p, f.bissNs)
      lineNs := delay, bissPending := false, bissRun := 0, neRun := if d.nE then 0 else f.neRun + 1 }

/-- BISS_FRAME (R161-R163): the answer to the running request; nE low in 2 consecutive frames is fault 0x06, nW low
fault 0x0D. (DEDUCED, log entry 92) -/
def execBissFrame (l : LaneId) (b : Fin 8) (pos : List Bool) (nE nW : Bool) (crc : List Bool) (delay : Nat) (s : State) :
    Host.Outcome State Fault Refusal :=
  .next (s.on l fun L =>
    match L.actOf b with
    | none => L
    | some n =>
      if L.alive && L.bissMode n && (L.fes.get b).bissPending && !(L.fes.get b).sensIsol && !L.lptOn (24 + b.val) then
        let d := bissData (L.obj (actIdx n 2) 4) (L.obj (actIdx n 2) 3) (pos ++ [nE, nW] ++ crc)
        if d.ok then
          let M := L.bissTake b n d delay
          let M := if d.nW then M else (M.onFe b fun f => { f with warn := true }).raise (feCode b 0x0D) 0
          let M := if 2 ≤ (M.fes.get b).neRun then M.isolateSensor b 6 else M
          M.showAngles b n
        else (L.bissDiscard b).showAngles b n
      else L)

/-- BISS_FRAME_TIMEOUT (R163). -/
def execBissFrameTimeout (l : LaneId) (b : Fin 8) (s : State) : Host.Outcome State Fault Refusal :=
  .next (s.on l fun L =>
    match L.actOf b with
    | none => L
    | some n =>
      if L.alive && L.bissMode n && (L.fes.get b).bissPending && !(L.fes.get b).sensIsol && !L.lptOn (24 + b.val) then
        (L.bissDiscard b).showAngles b n
      else L)

/-- BISS_FRAME_FAULT (R163): three consecutive discarded frames. -/
def execBissFrameFault (l : LaneId) (b : Fin 8) (s : State) : Host.Outcome State Fault Refusal :=
  .next (s.on l fun L => if L.served b ∧ 3 ≤ (L.fes.get b).bissRun then L.isolateSensor b 5 else L)

/-! ### The injection check (R165, R166) -/

/-- HFI_BIAS_PHASE (R165): injection alone, then id* at +HFI_BIAS, then at -HFI_BIAS. -/
def execHfiBiasPhase (l : LaneId) (b : Fin 8) (s : State) : Host.Outcome State Fault Refusal :=
  .next (s.on l fun L =>
    let f := L.fes.get b
    if f.asrc = .hfiCheck ∧ 1 ≤ f.hfiPhase ∧ f.hfiPhase < 3 then
      L.onFe b fun f => { f with hfiPhase := f.hfiPhase + 1 }
    else L)

/-- Square of the magnitude of a response. -/
def Resp2.mag2 (r : Resp2) : Rat := r.c * r.c + r.s * r.s

/-- The d-axis and q-axis responses of step 1 differ by less than 5 % of the larger one (R166). (DEDUCED, log
entry 130) -/
def HfiSums.lowSaliency (h : HfiSums) : Bool :=
  let big := max h.d.mag2 h.q.mag2
  big == 0 || decide (361 / 400 * big < min h.d.mag2 h.q.mag2)

/-- The offset error of a check in degrees: the angle modulo 180 degrees of the q-axis response, turned by half a turn
where the ripple is larger under -HFI_BIAS (R165). -/
def HfiSums.offset (h : HfiSums) (th : Rat) : Rat :=
  if h.pos.mag2 < h.neg.mag2 then 360 * wrapHalf ((th + 180) / 360) else th

/-- |ωe| has reached HFI_SPEED (R166). -/
def Lane.hfiFast (L : Lane) (b n : Fin 8) : Bool :=
  match L.wElec b n with
  | some w => decide (L.posReal n 0x0E ≤ absR w)
  | none => false

/-- HFI_CHECK_END (R165, R166, Table 5.2): the check is aborted at speed, finds the saliency too low, passes or fails;
the set leaves HFI_CHECK at the next period boundary (R164). (DEDUCED, log entry 130) -/
def execHfiCheckEnd (l : LaneId) (b : Fin 8) (th : Rat) (s : State) :
    Host.Outcome State Fault Refusal :=
  .next (s.on l fun L =>
    match L.actOf b with
    | none => L
    | some n =>
      let f := L.fes.get b
      if f.asrc ≠ .hfiCheck ∨ f.due.isSome then L
      else
        let back := L.onFe b fun f => { f with due := some .sensor, hfiPhase := 0 }
        let r := f.hfi.offset th
        if L.hfiFast b n then back
        else if f.hfi.lowSaliency then (back.onFe b fun f => { f with hfiNa := true }).raise (feCode b 8) 0
        else if absR r ≤ L.posReal n 0x0F then back.onFe b fun f => { f with hfiResult := r, hfiDone := true }
        else (L.onFe b fun f =>
          { f with hfiResult := r, hfiPhase := 0, due := some .borrowed, sensIsol := true }).raise (feCode b 7) 2)

/-! ### Rotor loss and re-acquisition (R168-R178) -/

/-- OBSERVER_IMPLAUSIBLE (R168): fault 0x09; the observer is seeded again from the sensor. -/
def execObserverImplausible (l : LaneId) (b : Fin 8) (s : State) : Host.Outcome State Fault Refusal :=
  .next (s.on l fun L =>
    match L.actOf b with
    | none => L
    | some n =>
      if 32 ≤ (L.fes.get b).plausRun then
        let th := L.sensorAngle b n (L.nextTs1 b)
        let w := L.elec n (L.sensorSpeed b n)
        (L.onFe b fun f => { f with plausRun := 0, thObs := th, wObs := w }).raise (feCode b 9) 0
      else L)

/-- ROTOR_LOST (R172). -/
def execRotorLost (l : LaneId) (b : Fin 8) (s : State) : Host.Outcome State Fault Refusal :=
  .next (s.on l fun L =>
    match L.actOf b with
    | none => L
    | some n =>
      let f := L.fes.get b
      if f.asrc = .observer ∧ 3 ≤ f.resRun then
        (L.onFe b fun f => { f with resRun := 0 }).loseRotor b n f.wObs true
      else L)

/-- tSETTLE in ns: 3 × LD / RS, at most 10 ms (R175). -/
def Lane.tSettle (L : Lane) (n : Fin 8) : Nat :=
  (min (3000 * L.machNow n 3 / L.machNow n 2) 10000000).ceil.toNat

/-- SETTLE_EXPIRY (R175): tSETTLE after the loss; a shorted set enters REACQUIRE in PULSED_SHORT at the next boundary. -/
def execSettleExpiry (l : LaneId) (b : Fin 8) (s : State) : Host.Outcome State Fault Refusal :=
  .next (s.on l fun L =>
    match L.actOf b with
    | none => L
    | some n =>
      if (L.fes.get b).asrc = .lost ∧ (L.bridges.get b).short then
        (L.advance ((L.fes.get b).lostNs + L.tSettle n)).onFe b fun f => { f with due := some .reacquire }
      else L)

/-- ROTOR_ACQUIRED (R177): eight consistent estimates; the observer is seeded with the last one and its
speed, and the set returns to MODULATE with source OBSERVER at the next boundary. -/
def execRotorAcquired (l : LaneId) (b : Fin 8) (s : State) : Host.Outcome State Fault Refusal :=
  .next (s.on l fun L =>
    let f := L.fes.get b
    if f.asrc = .reacquire ∧ 8 ≤ f.acqRun then
      let M := L.onFe b fun f =>
        { f with due := some .observer, thObs := f.acqLast.getD f.thObs, wObs := f.acqW.getD f.wObs
                 acqRun := 0, resRun := 0 }
      (M.onBr b Bridge.noRequest).settle b
    else L)

/-- REACQUIRE_TIMEOUT (R178): 20 ms after the loss the set is isolated. -/
def execReacquireTimeout (l : LaneId) (b : Fin 8) (s : State) : Host.Outcome State Fault Refusal :=
  .next (s.on l fun L =>
    let f := L.fes.get b
    if f.asrc = .lost ∨ f.asrc = .reacquire then
      (L.advance (f.lostNs + 20000000)).isolate b (feCode b 0x0B)
    else L)

/-- REV_COUNT_WRITE (R154): accepted while the actuator's bridge of the lane is DISABLED. -/
def execRevCountWrite (l : LaneId) (m : Master) (tid : Nat) (b : Fin 8) (data : List Byte)
    (s : State) : Host.Outcome State Fault Refusal :=
  .next (s.on l fun L =>
    L.write m tid (L.brIdx b 1) 8 data ((L.bridges.get b).mode == .disabled) fun L =>
      let v := toSigned 32 (ofBytes data)
      L.onFe b fun f => { f with revs := v, revsNv := v })

end Sys2Proof.Machine
end

