-- ==== Sys2Proof/Machine/Field.lean ====
section
/-! DEFINITION. The field engines: carrier and lock, period boundary, current loop, edge placement,
observer and angle estimates of one period (chapters 04 and 05). -/

namespace Sys2Proof.Machine

/-! ### Placement of edges (R137-R141) -/

/-- A phase placed among phases sorted by falling duty; equal duties keep U before V before W (R137). -/
def insertPhase (d : Tri3 Rat) (p : Phase) : List Phase → List Phase
  | [] => [p]
  | q :: t => if d.get q < d.get p then p :: q :: t else q :: insertPhase d p t

/-- The phases h, m, l by duty (R137). -/
def rankPhases (d : Tri3 Rat) : Tri3 Phase :=
  match allPhases.foldl (fun l p => insertPhase d p l) [] with
  | [h, m, l] => ⟨h, m, l⟩
  | _ => ⟨.U, .V, .W⟩

/-- The edges of a period (R141). -/
structure Edges where
  /-- Phases h, m, l. -/
  order : Tri3 Phase
  /-- Rising edges in ticks. -/
  rise : Tri3 Int
  /-- Falling edges in ticks. -/
  fall : Tri3 Int
  /-- A shift is not 0. -/
  shifted : Bool
  deriving DecidableEq, Repr

/-- tWMIN in ticks: tRING 300 ns, tSET 600 ns and tAPER 100 ns (R138). -/
def twMin : Int := 160

/-- The apertures of a period in ticks, beginning and end: each begins tRING + tSET after the crossing that opens its
window and ends tAPER later, never after the crossing that closes it (R138, R140). -/
def Bridge.apertures (br : Bridge) : (Int × Int) × (Int × Int) :=
  let h := br.loaded.get br.loadedOrd.u
  let m := br.loaded.get br.loadedOrd.v
  let l := br.loaded.get br.loadedOrd.w
  ((h + 144, min (h + 160) m), (m + 144, min (m + 160) l))

/-- The edges of duties over a period of `n` ticks (R141); a leg under refresh moves its rising edge no
earlier (R196). (DEDUCED, log entry 39; DEDUCED, log entry 81) -/
def placeEdges (d : Tri3 Rat) (n : Nat) (refresh : Tri3 Bool) : Edges :=
  let o := rankPhases d
  let on := d.map fun x => roundR ((1 - x) * (n : Rat) / 2)
  let e : Int := (3 * (n : Rat) / 400).ceil
  let h := on.get o.u
  let m := on.get o.v
  let l := on.get o.w
  let need1 := max 0 (twMin - (m - h))
  let a := if refresh.get o.u then 0 else min need1 (h - e)
  let shM := need1 - a
  let shL := max 0 (twMin - (l - (m + shM)))
  let sh := ((Tri3.mk (0 : Int) 0 0).set o.u (-a)).set o.v shM |>.set o.w shL
  { order := o
    rise := Tri3.ofFn fun p => on.get p + sh.get p
    fall := Tri3.ofFn fun p => (n : Int) - on.get p + sh.get p
    shifted := !(a == 0 && shM == 0 && shL == 0) }

/-! ### Carrier, lock and boundary (R119-R125, R129, R145-R148) -/

/-- Nanoseconds as ticks of 6.25 ns. -/
def ticksOf (ns : Rat) : Rat := ns * 4 / 25

/-- Position j of the lane among the lanes that have a bridge for actuator `n`, in the order A, B, C (R121); it stands
whether a lane is OUT or not. -/
def Lane.carrierPos (L : Lane) (n : Fin 8) : Nat :=
  (allLanes.filter fun l => decide (l.num < L.id.num) && (L.bridgeOf l n).isSome).length

/-- I of R121 in degrees: INTERLEAVE, automatic by the number of winding sets. -/
def Lane.interleave (L : Lane) (n : Fin 8) : Nat :=
  let i := L.obj (actIdx n 1) 0x0C
  if i = 0xFFFF then (if L.sets n = 3 then 120 else if L.sets n = 2 then 180 else 0) else i

/-- Carrier period T of actuator `n` in ns. -/
def Lane.carrierT (L : Lane) (n : Fin 8) : Rat := 1000000000 / (L.pwmFreq n : Rat)

/-- The target of R121 nearest to a network time: tk + ((PHASE_BASE + j × I) / 360 + m) × T, rounded to ticks. -/
def Lane.carrierTarget (L : Lane) (n : Fin 8) (at_ : Rat) : Rat :=
  let t := L.carrierT n
  let phase := ((L.obj (actIdx n 1) 0x0D + L.carrierPos n * L.interleave n : Nat) : Rat) / 360 * t
  let m := roundR ((at_ - (L.vote.startNs : Rat) - phase) / t)
  (L.vote.startNs : Rat) + (roundR (ticksOf (phase + (m : Rat) * t)) : Rat) * 25 / 4

/-- Length of the next period and the fraction carried on: Nnom + δ (R123, R124). -/
def Lane.carrierLen (L : Lane) (n : Fin 8) (frac : Rat) (err : Rat) : Nat × Rat × Int :=
  let nom := L.clk.pwmHz / (L.pwmFreq n : Rat)
  let lim : Int := (nom / 1000).floor
  let want := roundR (-(ticksOf err) / 2)
  let δ := max (-lim) (min lim want)
  let whole := (nom + frac).floor
  ((whole + δ).toNat, nom + frac - (whole : Rat), δ)

/-- A carrier that does not run yet starts once the lane votes with a valid time base (R124). -/
def Lane.carrierRuns (L : Lane) (b : Fin 8) : Bool :=
  (L.bridges.get b).started || (L.voting && L.tb.state != .invalid)

/-- The values of the period that ends (R150). -/
def Bridge.meas (br : Bridge) : BrMeas :=
  { offset := br.iOffset, id := br.id, iq := br.iq, v := br.vprev, idfw := br.idfw, err := br.lockErr }

/-- The same of a front end (R182). -/
def FrontEnd.meas (f : FrontEnd) : FeMeas :=
  { theta := f.thetaE, shaft := f.shaft, spd := f.shaftSpd, hfi := f.hfiResult, amp := f.resAmp }

/-- The carrier at a boundary: phase error against R121, LOCK, and the length of the next period (R123-R125). The first
boundary of a carrier lies on a target. Vdc is sampled for the period (R132). -/
def Lane.carrierStep (L : Lane) (b n : Fin 8) (ns : Nat) (frac : Rat) : Lane :=
  let br := L.bridges.get b
  let target := L.carrierTarget n ((ns : Rat) + frac)
  let err : Rat := if br.started then (ns : Rat) + frac - target else 0
  let e := absR err
  let run := if e ≤ 25 then br.lockRun + 1 else 0
  let lock := if 100 < e then false else br.lock || decide (16 ≤ run)
  let far := decide (1000 < e)
  let (len, rest, δ) := L.carrierLen n br.frac err
  let cur := if br.started then br.len else len
  let M := L.onBr b fun br =>
    { br with started := true, startNs := if br.started then ns else (roundR target).toNat, lockErr := err
              lockRun := run, lock := lock, lockFar := far, delta := δ, curLen := cur, len := len, frac := rest
              noSample := false, vdc := L.dc.vdc, ended := br.meas }
  let M := M.onFe b fun f => { f with ended := f.meas }
  if far && !br.lockFar then M.raise (brCode b 0x23) 0 0 e.floor.toNat else M

/-- Short low-side intervals of a leg across the boundary (R196). -/
def Lane.lowInterval (L : Lane) (b : Fin 8) (old new : Bridge) (p : Phase) : Nat :=
  let ticks := (old.curLen : Int) - old.loadedFall.get p + new.loaded.get p
  let ns := (ticks : Rat) * (25 / 4) - 2 * L.deadTime b
  if ns < (L.obj (L.brIdx b 2) 0x0C : Rat) then old.lowRun.get p + 1 else 0

/-- A period with a shift counts in SHIFTED (R141). -/
def Bridge.countShift (br : Bridge) : Bridge :=
  { br with shifted := if br.shift then satInc br.shifted else br.shifted }

/-- The edges in force in the new period: those computed for it, or the old ones again, shifts included (R129, R141); the
low-side interval across the boundary is counted (R196). (DESIGN CHOICE, log entry 80) -/
def Lane.loadEdges (L : Lane) (b : Fin 8) (old : Bridge) : Lane :=
  let br := L.bridges.get b
  if modeLoops br.mode = false then L
  else
    let new : Bridge :=
      if br.computed then
        { br with loaded := br.rise, loadedFall := br.fall, loadedOrd := br.order, ldCmdRise := br.cmdRise
                  ldCmdFall := br.cmdFall, shift := br.eShift, computed := false, overRun := 0 }
      else { br with overrun := true, overRun := br.overRun + 1 }
    let M := L.onBr b fun _ => { new.countShift with lowRun := Tri3.ofFn (L.lowInterval b old new) }
    if br.computed then M else M.raise (brCode b 0x26) 0

/-- Mean of a list of samples, 0 of none. -/
def meanR (l : List Rat) : Rat :=
  let n : Nat := l.length
  if n = 0 then 0 else l.foldl (· + ·) 0 / (n : Rat)

/-- Entry to a mode that runs the loop, at a boundary: the period of entry runs the zero vector, shifted as R141 asks, and
its samples are the first that the loop uses (R148; log entry 11). -/
def Lane.startLoop (L : Lane) (b : Fin 8) (m : Mode) : Lane :=
  (L.setMode b m).onBr b fun br =>
    let z := placeEdges ⟨1 / 2, 1 / 2, 1 / 2⟩ br.curLen ⟨false, false, false⟩
    { br with loaded := z.rise, loadedFall := z.fall, loadedOrd := z.order, ldCmdRise := z.rise.map fun x : Int => (x : Rat)
              ldCmdFall := z.fall.map fun x : Int => (x : Rat), shift := z.shifted, noSample := false }.countShift

/-- Entry to MODULATE (R145, R148): LOCK, every bootstrap supply up and a frozen offset within its limit;
an offset beyond it isolates the set. The first entry after the lane starts may begin the injection
check (Table 5.2). -/
def Lane.enterModulate (L : Lane) (b n : Fin 8) : Lane :=
  let br := L.bridges.get b
  let off := meanR br.offsets
  let wait := if br.mode = .disabled then L.setPrecharge b else (L.setMode b .disabled).setPrecharge b
  if br.lock = false ∨ (L.gates.get b).bsUv ≠ ⟨false, false, false⟩ then wait
  else if L.real (L.brIdx b 0) 3 < absR off then
    (L.onBr b fun br => { br with iOffset := off, offsOk := false }).isolate b (brCode b 0x20)
  else
    let f := L.fes.get b
    let check := !f.modulated && f.asrc == .sensor && L.obj (actIdx n 2) 0x0B == 1 &&
      decide (absR (L.elec n (L.sensorSpeed b n)) < L.posReal n 0x0E)
    let M := (L.startLoop b .modulate).onBr b fun br => { br with iOffset := off, offsOk := true }
    let M := M.onFe b fun f =>
      { f with modulated := true
               asrc := if check then .hfiCheck else f.asrc
               hfiPhase := if check then 1 else f.hfiPhase
               hfi := if check then {} else f.hfi }
    M.onGate b fun g => { g with precharge := false }

/-- The mode of a bridge at a period boundary: every entry and return of Table 4.6 (R147). -/
def Lane.settleBoundary (L : Lane) (b n : Fin 8) : Lane :=
  let cur := (L.bridges.get b).mode
  let (rank, m) := L.wanted b
  let L := if m ≠ .disabled ∧ (m ≠ cur ∨ rank = 2) then L.abortTest b else L
  if m = cur then L.setPrecharge b
  else if rank = 6 then L.enterModulate b n
  else if modeLoops m then (L.startLoop b m).setPrecharge b
  else ((L.setMode b m).onBr b fun br => { br with noSample := false }).setPrecharge b

/-- A transition that waited for the boundary takes effect (R164, R169, R175, R177). -/
def Lane.takeDue (L : Lane) (b : Fin 8) : Lane :=
  match (L.fes.get b).due with
  | none => L
  | some .reacquire =>
    (L.onFe b fun f => { f with asrc := .reacquire, due := none, acqRun := 0, acqLast := none, acqW := none }).onBr b
      fun br => br.request true true
  | some a => L.onFe b fun f => { f with asrc := a, due := none }

/-- The transitions of the angle source that the speed alone decides (Table 5.2); the injection check is aborted at
HFI_SPEED (R166). -/
def Lane.sourceStep (L : Lane) (b n : Fin 8) : Lane :=
  let f := L.fes.get b
  let w := (L.wElec b n).map absR
  let below := match w with
    | some x => decide (x < L.posReal n 9)
    | none => false
  let above := match w with
    | some x => decide (L.posReal n 8 ≤ x)
    | none => false
  match f.asrc with
  | .observer => if below then L.onFe b fun f => { f with asrc := .borrowed } else L
  | .borrowed => if above && f.obsOk then L.onFe b fun f => { f with asrc := .observer } else L
  | .reacquire =>
    if below && (L.agreedAngle n).isSome then
      (L.onFe b fun f => { f with asrc := .borrowed, acqRun := 0 }).onBr b Bridge.noRequest
    else L
  | .hfiCheck => if L.hfiFast b n then L.onFe b fun f => { f with asrc := .sensor, hfiPhase := 0 } else L
  | .unmapped => L.onFe b fun f => { f with asrc := if f.sensIsol then .borrowed else .sensor }
  | _ => L

/-- What the drive die sees of the bootstrap supplies at a boundary: one above 7.8 V has recovered, one that has not risen
so far in a DISABLED bridge counts as low (06_gate_drive_and_bridge_protection.md R197). -/
def Gate.supplies (g : Gate) (mode : Mode) (bs : Tri3 Bool) : Gate :=
  { g with bsUv := Tri3.ofFn fun p => !(bs.get p) && (g.bsUv.get p || mode == .disabled), endTsw := g.tsw }

/-- PWM_PERIOD_BOUNDARY (R119, R121-R125, R129, R145-R148, R162, R198). -/
def execPwmPeriodBoundary (l : LaneId) (b : Fin 8) (ns : Nat) (frac : Rat) (bs : Tri3 Bool) (s : State) :
    Host.Outcome State Fault Refusal :=
  .next (s.on l fun L =>
    match L.actOf b with
    | none => L
    | some n =>
      if L.alive = false ∨ L.carrierRuns b = false then L
      else
        let old := L.bridges.get b
        let M := (L.advance ns).carrierStep b n ns frac
        let M := M.onGate b fun g => g.supplies old.mode bs
        let M := M.loadEdges b old
        let M := M.onFe b fun f =>
          { f with bissPending := M.bissMode n && !f.sensIsol, bissNs := (M.bridges.get b).startNs }
        ((M.takeDue b).sourceStep b n).settleBoundary b n)

/-! ### Angle and speed of a set (R152, R160, R162, R169, R170) -/

/-- tCLOSE of the set that the agreed values in use came from: this cycle's from tAGREE on (R170). -/
def Lane.agreedFrom (L : Lane) : Nat :=
  let c := L.vote.startNs + L.tClose * 1000
  if L.vote.startNs + L.tAgree * 1000 ≤ L.tb.ns then c else c - L.tVote * 1000

/-- Electrical angle in radians `x` seconds after the start of the running period, by the set's source. -/
def Lane.angleAt (L : Lane) (b n : Fin 8) (x : Rat) : Rat :=
  let f := L.fes.get b
  let start := (L.bridges.get b).startNs
  match f.asrc with
  | .sensor | .hfiCheck => L.sensorAngle b n x
  | .observer => f.thObs
  | _ =>
    let θ := (L.agreedAngle n).getD 0
    let ω := (L.agreedSpeed n).getD 0
    radOf (L.elecDeg b n (360 * (θ + ω * (sinceS start L.agreedFrom + x))))

/-- The setpoint of a period whose boundary lies at `tb` ns: released, or the one before until its
valid-from time (R127). -/
def Bridge.setpoint (br : Bridge) (tb : Rat) : Rat :=
  if (br.validFrom : Rat) ≤ tb then br.spReleased else br.spPrev

/-! ### Samples (R137, R145) -/

/-- Shunt full scale in A: 1.25 V over gain times resistance (R145). -/
def Lane.fullScale (L : Lane) (b : Fin 8) : Rat :=
  let gain : Rat := match L.obj (L.brIdx b 0) 2 with
    | 0 => 5
    | 1 => 10
    | 2 => 20
    | _ => 40
  5 / 4 / (gain * (L.real (L.brIdx b 0) 1 / 1000000))

/-- A sample at either end of the ADC range (R145). -/
def Lane.atEnd (L : Lane) (b : Fin 8) (i : Rat) : Bool :=
  let fs := L.fullScale b
  decide (i ≤ -fs) || decide (fs - fs / 2048 ≤ i)

/-- A sample: the mean of the two conversions of its aperture (R138). -/
def sampleMean (i : Rat × Rat) : Rat := (i.1 + i.2) / 2

/-- A conversion of the period at either end of the ADC range (R145). -/
def Lane.samplesFull (L : Lane) (b : Fin 8) (q : Samples) : Bool :=
  L.atEnd b q.i1.1 || L.atEnd b q.i1.2 || L.atEnd b q.i2.1 || L.atEnd b q.i2.2

/-- SAT of the period and its consecutive count (R145). -/
def Bridge.markSat (br : Bridge) (full : Bool) : Bridge :=
  { br with sat := full, satRun := if full then br.satRun + 1 else 0 }

/-- The three winding currents of a period from its two samples, less the offset: ih = s1, il = -s2,
im = -ih - il (R137). -/
def Bridge.currents (br : Bridge) (q : Samples) : Tri3 Rat :=
  let h := sampleMean q.i1 - br.iOffset
  let l := -(sampleMean q.i2 - br.iOffset)
  (((Tri3.mk (0 : Rat) 0 0).set br.loadedOrd.u h).set br.loadedOrd.v (-h - l)).set br.loadedOrd.w l

/-- clarke of R535. -/
def clarke (i : Tri3 Rat) : Rat × Rat := (i.u, (i.u + 2 * i.v) / Config.sqrt 3)

/-- park of R535. -/
def park (ab : Rat × Rat) (th : Rat) : Rat × Rat :=
  (ab.1 * Config.cos th + ab.2 * Config.sin th, -(ab.1 * Config.sin th) + ab.2 * Config.cos th)

/-- inv_park of R535. -/
def invPark (dq : Rat × Rat) (th : Rat) : Rat × Rat :=
  (dq.1 * Config.cos th - dq.2 * Config.sin th, dq.1 * Config.sin th + dq.2 * Config.cos th)

/-- inv_clarke of R535. -/
def invClarke (ab : Rat × Rat) : Tri3 Rat :=
  ⟨ab.1, (-ab.1 + Config.sqrt 3 * ab.2) / 2, (-ab.1 - Config.sqrt 3 * ab.2) / 2⟩

/-- A number confined to a range. -/
def clampR (x lo hi : Rat) : Rat := max lo (min hi x)

/-! ### The current loop (R132-R136, R226) -/

/-- iq* of the period: the park current in PARK_APPLY, else the setpoint by R127 (R132). -/
def Lane.iqStar (L : Lane) (b n : Fin 8) (tb : Rat) : Rat :=
  let br := L.bridges.get b
  if br.mode = .parkApply then L.real (actIdx n 0) 8 else br.setpoint tb

/-- id* of the period: the bias of the injection check, else 0 (R126, R165). -/
def Lane.idStar (L : Lane) (b n : Fin 8) : Rat :=
  match (L.fes.get b).hfiPhase with
  | 2 => L.posReal n 0x0D
  | 3 => -(L.posReal n 0x0D)
  | _ => 0

/-- The regeneration cut sets iqr to 0 whenever its sign is opposite to the electrical speed's (R226). -/
def Lane.regenLimit (L : Lane) (b : Fin 8) (iqr w : Rat) : Rat :=
  if L.dc.regenCut && (L.bridges.get b).mode == .modulate && decide (iqr * w < 0) then 0 else iqr

/-- The zero voltage vector with the integrators held, for a link below 1.0 V (R133). -/
def Bridge.zeroVector (br : Bridge) : Bridge :=
  { br with duty := ⟨1 / 2, 1 / 2, 1 / 2⟩, vlim := true, trackRun := 0, vAl := 0, vBe := 0 }

/-- The voltage computation of R132 for currents `id`, `iq`, angle `th` at ts1, speed `w`, and the time in
seconds from ts1 to the centre of the new period. The whole d-axis setpoint, bias included, counts against I_MAX (R134),
and no duty leaves 0.015-0.985, the injected voltage included (06_gate_drive_and_bridge_protection.md R195). -/
def Lane.loop (L : Lane) (b n : Fin 8) (id iq th w iqs t ahead inj : Rat) : Bridge :=
  let br := L.bridges.get b
  let vdc := br.vdc
  let ids := L.idStar b n
  let ld := L.machNow n 3 / 1000000
  let lq := L.machNow n 4 / 1000000
  let psi := L.machNow n 5
  let imax := L.machNow n 7
  let dem := L.machNow n 8
  let wb := 2 * Config.pi * L.machNow n 0x0A
  let vav := 97 / 100 * vdc / Config.sqrt 3
  let idfw := clampR (br.idfw - L.machNow n 9 * (br.vprev - 19 / 20 * vav) * t) (-dem) 0
  let iqm := Config.sqrt (max 0 (imax * imax - (ids + idfw) * (ids + idfw)))
  let lim := clampR iqs (-iqm) iqm
  let iqr := L.regenLimit b lim w
  let ed := ids + idfw - id
  let eq := iqr - iq
  let vd := wb * ld * ed + br.xd - w * lq * iq
  let vq := wb * lq * eq + br.xq + w * (ld * id + psi)
  let mag := Config.sqrt (vd * vd + vq * vq)
  let vdl := clampR vd (-vav) vav
  let room := Config.sqrt (vav * vav - vdl * vdl)
  let vql := clampR vq (-room) room
  let ki := wb * L.machNow n 2
  let ab := invPark (vdl + inj, vql) (th + w * ahead)
  let v := invClarke ab
  let o := (max v.u (max v.v v.w) + min v.u (min v.v v.w)) / 2
  let vlim := !(vdl == vd && vql == vq)
  let fwlim := decide (0 < dem) && idfw == -dem && decide (19 / 20 * vav < mag)
  { br with
    idfw := idfw, vprev := mag, iqr := iqr
    xd := if vdl = vd then br.xd + ki * ed * t else br.xd
    xq := if vql = vq then br.xq + ki * eq * t else br.xq
    vlim := vlim, curlim := lim != iqs
    fw := decide (idfw < 0), fwlim := fwlim, fwRun := if fwlim then br.fwRun + 1 else 0
    trackRun := if !vlim && decide (imax / 5 < absR (iqr - iq)) then br.trackRun + 1 else 0
    duty := v.map fun x => clampR (1 / 2 + (x - o) / vdc) (3 / 200) (197 / 200)
    vAl := ab.1, vBe := ab.2 }

/-- The duty limit of a leg under refresh: 1 - 2 × (BS_REFRESH + tDT) / T (R196). -/
def Lane.refreshDuty (L : Lane) (b n : Fin 8) (br : Bridge) : Tri3 Rat :=
  let cap := 1 - 2 * ((L.obj (L.brIdx b 2) 0x0C : Rat) + L.deadTime b) * (L.pwmFreq n : Rat) / 1000000000
  Tri3.ofFn fun p => if br.refresh.get p then min (br.duty.get p) cap else br.duty.get p

/-- The gate commands of a leg for its edges: each advanced by the delay last measured for the leg and direction (R139).
None where the falling command would come before the rising one, so that both gates of the leg would be on at once
(06_gate_drive_and_bridge_protection.md R184). -/
def Bridge.legCmd (br : Bridge) (e : Edges) (p : Phase) : Option (Rat × Rat) :=
  let rise := (e.rise.get p : Rat) - ticksOf (br.advance.get p)
  let fall := (e.fall.get p : Rat) - ticksOf (br.advanceF.get p)
  if fall < rise then none else some (rise, fall)

/-- A rising command is issued in the period before where its advance asks for it, but never before that period's
falling command of the leg (R139). -/
def Bridge.inOrder (br : Bridge) (p : Phase) (c : Rat) : Rat := max c (br.ldCmdFall.get p - (br.curLen : Rat))

/-- The duties become edges and gate commands for the next period (R139, R141, R196); a leg's command that the interlock
ignores leaves the commands it had (R184). -/
def Lane.loadDuty (L : Lane) (b n : Fin 8) (br : Bridge) : Bridge :=
  let d := L.refreshDuty b n br
  let e := placeEdges d br.len br.refresh
  let cmd := fun p => (br.legCmd e p).getD (br.cmdRise.get p, br.cmdFall.get p)
  { br with
    duty := d, order := e.order, rise := e.rise, fall := e.fall, eShift := e.shifted
    refresh := ⟨false, false, false⟩, computed := true
    cmdRise := Tri3.ofFn fun p => br.inOrder p (cmd p).1
    cmdFall := Tri3.ofFn fun p => max (br.inOrder p (cmd p).1) (cmd p).2 }

/-- The period's duties loaded; a command that the interlock ignores raises fault 0x0A at level record (R184). -/
def Lane.loadPeriod (L : Lane) (b n : Fin 8) (br : Bridge) : Lane :=
  let e := placeEdges (L.refreshDuty b n br) br.len br.refresh
  let M := L.onBr b fun _ => L.loadDuty b n br
  if allPhases.any fun p => (br.legCmd e p).isNone then M.raise (brCode b 0x0A) 0 else M

/-! ### The observer (R167, R168, R172) -/

/-- An angle in radians brought within half a turn of 0. -/
def wrapRad (x : Rat) : Rat := 2 * Config.pi * wrapHalf (x / (2 * Config.pi))

/-- One period of the back-EMF observer on the stationary current vector, with the tests of R168 and R172; the observer's
angle is that of the next period's ts1, and so is the sensor angle it is compared with. -/
def Lane.observe (L : Lane) (b n : Fin 8) (i : Rat × Rat) (we t : Rat) : FrontEnd :=
  let br := L.bridges.get b
  let f := L.fes.get b
  let rs := L.machNow n 2
  let ind := (L.machNow n 3 + L.machNow n 4) / 2 / 1000000
  let psi := L.machNow n 5
  let eA := br.vAl - rs * i.1 - ind * (i.1 - f.iAlPrev) / t
  let eB := br.vBe - rs * i.2 - ind * (i.2 - f.iBePrev) / t
  let pA := -(f.wObs * psi * Config.sin f.thObs)
  let pB := f.wObs * psi * Config.cos f.thObs
  let err := wrapRad (Config.atan2 eB eA - Config.atan2 pB pA)
  let bw := 2 * Config.pi * L.posReal n 6
  let w := f.wObs + bw * bw * t * err
  let th := f.thObs + w * t + 707 / 500 * bw * t * err
  let bound := L.posReal n 7 * absR f.wObs * psi
  let high := decide (bound * bound < (eA - pA) * (eA - pA) + (eB - pB) * (eB - pB))
  let seen := decide (L.posReal n 9 ≤ absR f.wObs)
  let fast := decide (L.posReal n 8 ≤ absR we)
  let θe := L.sensorAngle b n (L.nextTs1 b)
  let far := decide (radOf (L.posReal n 0x0A) < absR (wrapRad (th - θe)))
  let ok := fast && seen && !high && (f.sensIsol || !far)
  let okRun := if ok then f.okRun + 1 else 0
  { f with
    thObs := th, wObs := w, iAlPrev := i.1, iBePrev := i.2, okRun := okRun
    obsOk := ok && (f.obsOk || decide (16 ≤ okRun))
    plausRun := if f.asrc = .sensor ∧ fast ∧ far then f.plausRun + 1 else 0
    resRun := if f.asrc = .observer ∧ seen ∧ high then f.resRun + 1 else 0 }

/-! ### Angle estimates without an observer (R176, R177) -/

/-- The angle estimate of a period in REACQUIRE, from the switch nodes in ALL_OFF while the back-EMF is at
least 2 V, or from the short-circuit current in PULSED_SHORT (R176). -/
def Lane.estimate (L : Lane) (b n : Fin 8) (q : Samples) (w : Rat) : Option Rat :=
  let br := L.bridges.get b
  if br.mode = .pulsedShort then
    let iU := sampleMean q.i1 - br.iOffset
    let iW := -(sampleMean q.i2 - br.iOffset)
    let ab := clarke ⟨iU, -iU - iW, iW⟩
    some (Config.atan2 ab.2 ab.1 -
      Config.atan2 (-(w * L.machNow n 2)) (-(w * w * L.machNow n 3 / 1000000)))
  else
    let mean := (q.vU + q.vV + q.vW) / 3
    let ab := clarke ⟨q.vU - mean, q.vV - mean, q.vW - mean⟩
    if 3 * (ab.1 * ab.1 + ab.2 * ab.2) < 4 then none
    else some (Config.atan2 ab.2 ab.1 - Config.pi / 2 * (if w < 0 then -1 else 1))

/-- An estimate takes part in the acquisition: within REACQ_TOL of the angle predicted from the one before
it counts on, else the count starts again with it (R177). -/
def Lane.acquire (L : Lane) (b n : Fin 8) (w t : Rat) (est : Option Rat) : FrontEnd :=
  let f := L.fes.get b
  match est, f.acqLast with
  | none, _ => { f with acqRun := 0, acqLast := none }
  | some e, none => { f with acqRun := 1, acqLast := some e }
  | some e, some last =>
    let near := decide (absR (wrapRad (e - last - w * t)) ≤ radOf (L.posReal n 0x10))
    { f with
      acqRun := if near then f.acqRun + 1 else 1
      acqLast := some e
      acqW := some (wrapRad (e - last) / t) }

/-! ### The period computation -/

/-- The largest phase current of a period in % of I_MAX, for the Kiln log
(17_diagnostics_and_kiln_log.md Table 17.3). -/
def Lane.kilnCurrent (L : Lane) (b n : Fin 8) (i : Tri3 Rat) : Lane :=
  let x := max (absR i.u) (max (absR i.v) (absR i.w)) * 100 / L.mach n 7
  let v := match L.kiln.secI.get b with
    | some y => max x y
    | none => x
  { L with kiln := { L.kiln with secI := L.kiln.secI.set b (some v) } }

/-- A sample added to a response at PWM_FREQ / 4, whose cosine and sine run 1, 0, -1, 0 and 0, 1, 0, -1 over the
periods (R165). -/
def Resp2.add (r : Resp2) (k : Nat) (x : Rat) : Resp2 :=
  match k % 4 with
  | 0 => { r with c := r.c + x }
  | 1 => { r with s := r.s + x }
  | 2 => { r with c := r.c - x }
  | _ => { r with s := r.s - x }

/-- The sums of a period of the injection check, by its step (R165). -/
def HfiSums.add (h : HfiSums) (phase : Nat) (d q : Rat) : HfiSums :=
  match phase with
  | 0 => h
  | 1 => { h with k := h.k + 1, d := h.d.add h.k d, q := h.q.add h.k q }
  | 2 => { h with k := h.k + 1, pos := h.pos.add h.k d }
  | _ => { h with k := h.k + 1, neg := h.neg.add h.k d }

/-- The voltage injected on the d axis in a period of the check: HFI_V at PWM_FREQ / 4 (R165). -/
def Lane.injected (L : Lane) (b n : Fin 8) : Rat :=
  let f := L.fes.get b
  if f.hfiPhase = 0 then 0
  else L.posReal n 0x0C * Config.cos (Config.pi / 2 * (f.hfi.k : Rat) + Config.injPhase)

/-- A source with which the observer runs (R167). -/
def asrcObserves : ASrc → Bool
  | .sensor | .hfiCheck | .observer | .borrowed => true
  | _ => false

/-- A period of a bridge that modulates (R132-R141, R145, R165, R167). -/
def Lane.computeLoop (L : Lane) (b n : Fin 8) (q : Samples) (ctr : Nat) : Lane :=
  let br := L.bridges.get b
  let f := L.fes.get b
  let raw := br.currents q
  let i := if f.hfiPhase = 0 then raw else raw.map (Config.notch ((L.pwmFreq n : Rat) / 4) ctr)
  let ts1 := L.ts1 b
  let th := L.angleAt b n ts1
  let w := (L.wElec b n).getD 0
  let t := L.tickS (br.len : Rat)
  let ab := clarke i
  let (id, iq) := park ab th
  let tbS := L.tickS (br.curLen : Rat)
  let tb := (br.startNs : Rat) + tbS * 1000000000
  let out := if br.vdc < 1 then br.zeroVector
    else (L.fieldView tb).loop b n id iq th w (L.iqStar b n tb) t (tbS + t / 2 - ts1) (L.injected b n)
  let out : Bridge := { out.markSat (L.samplesFull b q) with id := id, iq := iq, iU := raw.u, iV := raw.v, iW := raw.w }
  let fe := if asrcObserves f.asrc then (L.fieldView tb).observe b n (clarke raw) w t else f
  let dq := park (clarke raw) th
  let M := L.onFe b fun _ => { fe with we := w, hfi := f.hfi.add f.hfiPhase dq.1 dq.2 }
  (M.loadPeriod b n out).kilnCurrent b n raw

/-- A period without samples holds the duties of the one before (R457). -/
def Lane.holdDuty (L : Lane) (b n : Fin 8) : Lane := L.loadPeriod b n (L.bridges.get b)

/-- The offset samples of a DISABLED bridge: the mean of the last 64, of as many as there are before, samples from before
an earlier modulation included (R145). (DESIGN CHOICE, log entry 125) -/
def Bridge.offsetSample (br : Bridge) (i : Rat) : Bridge :=
  let l := (i :: br.offsets).take 64
  { br with offsets := l, iOffset := meanR l }

/-- One period of a bridge that waits for its rotor (R176); the first estimate and prediction take speed 0 where neither
a measured nor an agreed speed exists (R177). (DESIGN CHOICE, log entry 126) -/
def Lane.computeAcquire (L : Lane) (b n : Fin 8) (q : Samples) : Lane :=
  let w := (L.wElec b n).getD 0
  let t := L.tickS ((L.bridges.get b).len : Rat)
  let fe := L.acquire b n w t (L.estimate b n q w)
  L.onFe b fun _ => { fe with we := w }

/-- The compute window of a period (R127, R132); a period whose samples are discarded or lost computes nothing from them
(R147, 16_clocks_and_heat.md R457). -/
def Lane.compute (L : Lane) (b n : Fin 8) (q : Samples) (ctr : Nat) : Lane :=
  let br := L.bridges.get b
  let M :=
    if br.noSample then (if modeLoops br.mode then L.holdDuty b n else L)
    else if modeLoops br.mode then L.computeLoop b n q ctr
    else
      let N := if br.mode = .disabled ∨ br.mode = .pulsedShort then
          L.onBr b fun br => br.markSat (L.samplesFull b q) else L
      if br.mode = .disabled then N.onBr b fun br => br.offsetSample (sampleMean q.i1)
      else if (L.fes.get b).asrc = .reacquire then N.computeAcquire b n q
      else N
  (M.followEmf b).showAngles b n

/-- PERIOD_COMPUTE (R127, R132-R145, R165-R170, R176). (DEDUCED, log entry 81) -/
def execPeriodCompute (l : LaneId) (b : Fin 8) (q : Samples) (s : State) :
    Host.Outcome State Fault Refusal :=
  let L := s.lane l
  match L.actOf b with
  | none => .next s
  | some n =>
    if L.alive && (L.bridges.get b).started then
      let t := s.on l fun L => L.compute b n q s.freeCtr
      .next { t with freeCtr := s.freeCtr + 1 }
    else .next s

/-! ### Faults of the field engines (Table 4.7) -/

/-- COMPUTE_OVERRUN_ISOLATE (R129): three consecutive overruns. -/
def execComputeOverrunIsolate (l : LaneId) (b : Fin 8) (s : State) :
    Host.Outcome State Fault Refusal :=
  .next (s.on l fun L =>
    if 3 ≤ (L.bridges.get b).overRun then
      (L.onBr b fun br => { br with overRun := 0 }).isolate b (brCode b 0x26)
    else L)

/-- SHUNT_SATURATION (R145). (DEDUCED, log entry 92) -/
def execShuntSaturation (l : LaneId) (b : Fin 8) (s : State) : Host.Outcome State Fault Refusal :=
  .next (s.on l fun L =>
    if 4 ≤ (L.bridges.get b).satRun then
      (L.onBr b fun br => { br with satRun := 0 }).isolate b (brCode b 0x21)
    else L)

/-- CURRENT_TRACKING_FAULT (Table 4.7). -/
def execCurrentTrackingFault (l : LaneId) (b : Fin 8) (s : State) :
    Host.Outcome State Fault Refusal :=
  .next (s.on l fun L =>
    if 100 ≤ (L.bridges.get b).trackRun then
      (L.onBr b fun br => { br with trackRun := 0 }).isolate b (brCode b 0x22)
    else L)

/-- FIELD_WEAKENING_EXHAUSTED (R136). -/
def execFieldWeakeningExhausted (l : LaneId) (b : Fin 8) (s : State) :
    Host.Outcome State Fault Refusal :=
  .next (s.on l fun L =>
    if 100 ≤ (L.bridges.get b).fwRun then
      (L.onBr b fun br => { br with fwRun := 0 }).raise (brCode b 0x25) 0
    else L)

/-- OSC_MEASURE (R123, R125): outside 156.8-163.2 MHz fault 0x24 and a lane-out. -/
def execOscMeasure (l : LaneId) (hz : Rat) (s : State) : Host.Outcome State Fault Refusal :=
  .next (s.on l fun L =>
    if L.alive then
      let ok := decide (156800000 ≤ hz) && decide (hz ≤ 163200000)
      let M : Lane := { L with clk := { L.clk with pwmHz := hz, pwmOk := ok } }
      if ok then M else M.laneOut 0x2FE4
    else L)

/-- BRIDGE_MODE_REQUEST (R146, R147): a request of rank 3 or 4 made or withdrawn. (DEDUCED, log entry 97) -/
def execBridgeModeRequest (l : LaneId) (b : Fin 8) (rank3 on : Bool) (s : State) :
    Host.Outcome State Fault Refusal :=
  .next (s.on l fun L =>
    if L.served b then
      (L.onBr b fun br => if rank3 then { br with short := on } else { br with off := on }).settle b
    else L)

/-- PARK_LOCK_COMPLETE (02_vote_cycle_and_fault_tolerance.md R79): the bridge goes all-off. -/
def execParkLockComplete (l : LaneId) (b : Fin 8) (s : State) : Host.Outcome State Fault Refusal :=
  .next (s.on l fun L =>
    let br := L.bridges.get b
    if br.passive = some .parkApply then
      let M := L.onBr b fun br => { br with passive := some .allOff }
      if br.mode = .parkApply then M.setMode b .allOff else M
    else L)

end Sys2Proof.Machine
end

