-- ==== Sys2Proof/Machine/Aes.lean ====
section
/-! DEFINITION. AES-128 (FIPS 197), AES-CMAC (RFC 4493) and the AES key unwrap (RFC 3394), the ciphers that
14_security.md R418, R426-R428 and 11_dictionary_access.md R362, R363 name. A block is a list of 16 numbers below
256, in the order of its bytes. -/

namespace Sys2Proof.Machine

/-- The substitution box, byte n at bits 8n (FIPS 197 5.1.1). -/
def aesBox : Nat :=
  0x16bb54b00f2d99416842e6bf0d89a18cdf2855cee9871e9b948ed9691198f8e19e1dc186b95735610ef6034866b53e708a8bbd4b1f74dde8c6b4a61c2e2578ba * 2 ^ 1536 +
  0x08ae7a65eaf4566ca94ed58d6d37c8e779e4959162acd3c25c2406490a3a32e0db0b5ede14b8ee4688902a22dc4f816073195d643d7ea7c41744975fec130ccd * 2 ^ 1024 +
  0xd2f3ff1021dab6bcf5389d928f40a351a89f3c507f02f94585334d43fbaaefd0cf584c4a39becb6a5bb1fc20ed00d153842fe329b3d63b52a05a6e1b1a2c8309 * 2 ^ 512 +
  0x75b227ebe28012079a059618c323c7041531d871f1e5a534ccf73f362693fdb7c072a49cafa2d4adf04759fa7dc982ca76abd7fe2b670130c56f6bf27b777c63 * 2 ^ 0

/-- Its inverse (FIPS 197 5.3.2). -/
def aesBoxInv : Nat :=
  0x7d0c2155631469e126d677ba7e042b17619953833cbbebc8b0f52aae4d3be0a0ef9cc9939f7ae52d0d4ab519a97f51605fec8027591012b131c7078833a8dd1f * 2 ^ 1536 +
  0xf45acd78fec0db9a2079d2c64b3e56fc1bbe18aa0e62b76f89c5291d711af1476edf751ce837f9e28535ade72274ac9673e6b4f0cecff297eadc674f4111913a * 2 ^ 1024 +
  0x6b8a130103bdafc1020f3fca8f1e2cd00645b3b80558e4f70ad3bc8c00abd890849d8da75746155edab9edfd5048706c92b6655dcc5ca4d41698688664f6f872 * 2 ^ 512 +
  0x25d18b6d49a25b76b224d92866a12e084ec3fa420b954cee3d23c2a632947b54cbe9dec444438e3487ff2f9b8239e37cfbd7f3819ea340bf38a53630d56a0952 * 2 ^ 0

/-- Byte n of a packed box. -/
def boxAt (w n : Nat) : Nat := (w >>> (8 * n)) % 256

/-- Multiplication by x in the field of AES. -/
def xtime (b : Nat) : Nat := if b < 128 then 2 * b else (2 * b) ^^^ 0x11B

/-- Two blocks added. -/
def xorList (a b : List Nat) : List Nat := List.zipWith (· ^^^ ·) a b

/-- A block's bytes picked by their places. -/
def pick (idx b : List Nat) : List Nat := idx.map fun i => (b[i]?).getD 0

/-- The next round key (FIPS 197 5.2). -/
def nextKey (k : List Nat) (rc : Nat) : List Nat :=
  let t := (pick [13, 14, 15, 12] k).map (boxAt aesBox)
  let t := match t with
    | a :: r => (a ^^^ rc) :: r
    | [] => []
  let w0 := xorList (k.take 4) t
  let w1 := xorList ((k.drop 4).take 4) w0
  let w2 := xorList ((k.drop 8).take 4) w1
  let w3 := xorList (k.drop 12) w2
  w0 ++ w1 ++ w2 ++ w3

/-- The round keys after a first one. -/
def roundKeys (k : List Nat) : List Nat → List (List Nat)
  | [] => [k]
  | rc :: t => k :: roundKeys (nextKey k rc) t

/-- The eleven round keys of a key. -/
def aesKeys (k : List Nat) : List (List Nat) :=
  roundKeys k [0x01, 0x02, 0x04, 0x08, 0x10, 0x20, 0x40, 0x80, 0x1B, 0x36]

/-- The columns of a block mixed (FIPS 197 5.1.3). -/
def mixColumns : List Nat → List Nat
  | a :: b :: c :: d :: t =>
    let e := a ^^^ b ^^^ c ^^^ d
    (a ^^^ e ^^^ xtime (a ^^^ b)) :: (b ^^^ e ^^^ xtime (b ^^^ c)) ::
      (c ^^^ e ^^^ xtime (c ^^^ d)) :: (d ^^^ e ^^^ xtime (d ^^^ a)) :: mixColumns t
  | _ => []

/-- The inverse of the mixing (FIPS 197 5.3.3). -/
def unmixColumns : List Nat → List Nat
  | a :: b :: c :: d :: t =>
    let u := xtime (xtime (a ^^^ c))
    let v := xtime (xtime (b ^^^ d))
    mixColumns [a ^^^ u, b ^^^ v, c ^^^ u, d ^^^ v] ++ unmixColumns t
  | _ => []

/-- Bytes substituted and rows shifted (FIPS 197 5.1.1, 5.1.2). -/
def subShift (b : List Nat) : List Nat :=
  (pick [0, 5, 10, 15, 4, 9, 14, 3, 8, 13, 2, 7, 12, 1, 6, 11] b).map (boxAt aesBox)

/-- Their inverses (FIPS 197 5.3.1, 5.3.2). -/
def unsubShift (b : List Nat) : List Nat :=
  (pick [0, 13, 10, 7, 4, 1, 14, 11, 8, 5, 2, 15, 12, 9, 6, 3] b).map (boxAt aesBoxInv)

/-- The rounds after the first key; the last mixes no columns. -/
def encRounds (b : List Nat) : List (List Nat) → List Nat
  | [] => b
  | [k] => xorList (subShift b) k
  | k :: t => encRounds (xorList (mixColumns (subShift b)) k) t

/-- One block enciphered under round keys. -/
def encBlock (ks : List (List Nat)) (b : List Nat) : List Nat :=
  match ks with
  | [] => b
  | k :: t => encRounds (xorList b k) t

/-- The rounds of the inverse cipher, the keys in falling order. -/
def decRounds (b : List Nat) : List (List Nat) → List Nat
  | [] => b
  | [k] => xorList b k
  | k :: t => decRounds (unsubShift (unmixColumns (xorList b k))) t

/-- One block deciphered under round keys. -/
def decBlock (ks : List (List Nat)) (b : List Nat) : List Nat :=
  match ks.reverse with
  | [] => b
  | k :: t => decRounds (unsubShift (xorList b k)) t

/-- A number of bytes, the most significant first. -/
def beNat (l : List Nat) : Nat := l.foldl (fun n b => 256 * n + b) 0

/-- The n low bytes of a number, the most significant first. -/
def beBytes : Nat → Nat → List Nat
  | 0, _ => []
  | n + 1, v => beBytes n (v / 256) ++ [v % 256]

/-- A subkey of CMAC from the one before (RFC 4493 2.3). -/
def cmacSub (l : Nat) : Nat :=
  if l < 2 ^ 127 then 2 * l else (2 * l) % 2 ^ 128 ^^^ 0x87

/-- The blocks of a message chained, at most n of them (RFC 4493 2.4). -/
def cmacChain (ks : List (List Nat)) (k1 k2 : Nat) : Nat → List Nat → List Nat → List Nat
  | 0, x, _ => x
  | n + 1, x, m =>
    if 16 < m.length then cmacChain ks k1 k2 n (encBlock ks (xorList x (m.take 16))) (m.drop 16)
    else
      let last := if m.length = 16 then xorList m (beBytes 16 k1)
        else xorList (m ++ [0x80] ++ List.replicate (15 - m.length) 0) (beBytes 16 k2)
      encBlock ks (xorList x last)

/-- AES-128-CMAC of a message (RFC 4493). -/
def cmac (key msg : List Nat) : List Nat :=
  let ks := aesKeys key
  let k1 := cmacSub (beNat (encBlock ks (List.replicate 16 0)))
  cmacChain ks k1 (cmacSub k1) (msg.length / 16 + 1) (List.replicate 16 0) msg

/-- The leftmost 64 bits of the CMAC over bytes, in CMAC output order (14_security.md R426). -/
def tag8 (key : BitVec 128) (msg : List Byte) : List Byte :=
  ((cmac (beBytes 16 key.toNat) (msg.map BitVec.toNat)).take 8).map (BitVec.ofNat 8)

/-- One step of the unwrap at count t, with A and the blocks in falling order, the one at hand first
(RFC 3394 2.2.2). -/
def unwrapStep (ks : List (List Nat)) (a : Nat) (r : List Nat) (t : Nat) : Nat × List Nat :=
  let b := decBlock ks (beBytes 8 (a ^^^ t) ++ r)
  (beNat (b.take 8), b.drop 8)

/-- One pass over the blocks in falling order; the count falls with them. -/
def unwrapPass (ks : List (List Nat)) (a t : Nat) : List (List Nat) → Nat × List (List Nat)
  | [] => (a, [])
  | r :: rest =>
    let p := unwrapStep ks a r t
    let q := unwrapPass ks p.1 (t - 1) rest
    (q.1, p.2 :: q.2)

/-- Bytes cut into blocks of 8, at most n of them. -/
def blocks8 : Nat → List Nat → List (List Nat)
  | 0, _ => []
  | n + 1, l => if l.length < 8 then [] else l.take 8 :: blocks8 n (l.drop 8)

/-- The six passes of the unwrap. -/
def unwrapPasses (ks : List (List Nat)) (a : Nat) (n : Nat) : Nat → List (List Nat) → Nat × List (List Nat)
  | 0, rs => (a, rs)
  | j + 1, rs =>
    let p := unwrapPass ks a (n * (j + 1)) rs
    unwrapPasses ks p.1 n j p.2

/-- The key that a wrapped key holds; none where its integrity check fails (RFC 3394 2.2.2). -/
def unwrapKey (kek : BitVec 128) (w : List Byte) : Option (List Nat) :=
  let v := w.map BitVec.toNat
  let rs := (blocks8 w.length (v.drop 8)).reverse
  let p := unwrapPasses (aesKeys (beBytes 16 kek.toNat)) (beNat (v.take 8)) rs.length 6 rs
  if p.1 = 0xA6A6A6A6A6A6A6A6 then some (p.2.reverse.flatten) else none

end Sys2Proof.Machine
end

