-- ==== Sys2Proof/Machine/Sha256.lean ====
section
/-! DEFINITION. SHA-256 (FIPS 180-4) and the verification of ECDSA signatures on the curve P-256 (FIPS 186-4), which
14_security.md R420, R423, R430 and 13_safety_inputs_and_seal.md R409 name. -/

namespace Sys2Proof.Machine

/-! ### SHA-256 -/

/-- The constants of the rounds. -/
def shaK : List Nat :=
  [0x428a2f98, 0x71374491, 0xb5c0fbcf, 0xe9b5dba5, 0x3956c25b, 0x59f111f1, 0x923f82a4, 0xab1c5ed5] ++
  [0xd807aa98, 0x12835b01, 0x243185be, 0x550c7dc3, 0x72be5d74, 0x80deb1fe, 0x9bdc06a7, 0xc19bf174] ++
  [0xe49b69c1, 0xefbe4786, 0x0fc19dc6, 0x240ca1cc, 0x2de92c6f, 0x4a7484aa, 0x5cb0a9dc, 0x76f988da] ++
  [0x983e5152, 0xa831c66d, 0xb00327c8, 0xbf597fc7, 0xc6e00bf3, 0xd5a79147, 0x06ca6351, 0x14292967] ++
  [0x27b70a85, 0x2e1b2138, 0x4d2c6dfc, 0x53380d13, 0x650a7354, 0x766a0abb, 0x81c2c92e, 0x92722c85] ++
  [0xa2bfe8a1, 0xa81a664b, 0xc24b8b70, 0xc76c51a3, 0xd192e819, 0xd6990624, 0xf40e3585, 0x106aa070] ++
  [0x19a4c116, 0x1e376c08, 0x2748774c, 0x34b0bcb5, 0x391c0cb3, 0x4ed8aa4a, 0x5b9cca4f, 0x682e6ff3] ++
  [0x748f82ee, 0x78a5636f, 0x84c87814, 0x8cc70208, 0x90befffa, 0xa4506ceb, 0xbef9a3f7, 0xc67178f2]

/-- The first hash value. -/
def shaH0 : List Nat := [0x6a09e667, 0xbb67ae85, 0x3c6ef372, 0xa54ff53a, 0x510e527f, 0x9b05688c, 0x1f83d9ab, 0x5be0cd19]

/-- A 32-bit word rotated to the right. -/
def rotr32 (x n : Nat) : Nat := (x >>> n ||| x <<< (32 - n)) % 2 ^ 32

/-- The word of a sliding window of 16 that follows it. -/
def shaNext (w : List Nat) : Nat :=
  let a := (w[1]?).getD 0
  let b := (w[14]?).getD 0
  let s0 := rotr32 a 7 ^^^ rotr32 a 18 ^^^ (a >>> 3)
  let s1 := rotr32 b 17 ^^^ rotr32 b 19 ^^^ (b >>> 10)
  ((w[0]?).getD 0 + s0 + (w[9]?).getD 0 + s1) % 2 ^ 32

/-- One round on the eight working words. -/
def shaRound (v : List Nat) (k w : Nat) : List Nat :=
  match v with
  | [a, b, c, d, e, f, g, h] =>
    let s1 := rotr32 e 6 ^^^ rotr32 e 11 ^^^ rotr32 e 25
    let ch := (e &&& f) ^^^ ((2 ^ 32 - 1 - e) &&& g)
    let t1 := h + s1 + ch + k + w
    let s0 := rotr32 a 2 ^^^ rotr32 a 13 ^^^ rotr32 a 22
    let maj := (a &&& b) ^^^ (a &&& c) ^^^ (b &&& c)
    [(t1 + s0 + maj) % 2 ^ 32, a, b, c, (d + t1) % 2 ^ 32, e, f, g]
  | _ => v

/-- The rounds over the constants, with the window of the message schedule. -/
def shaRounds (v w : List Nat) : List Nat → List Nat
  | [] => v
  | k :: t => shaRounds (shaRound v k (w.headD 0)) (w.drop 1 ++ [shaNext w]) t

/-- The 32-bit words of bytes, at most n of them, the most significant byte first. -/
def words32 : Nat → List Nat → List Nat
  | 0, _ => []
  | n + 1, l => if l.isEmpty then [] else beNat (l.take 4) :: words32 n (l.drop 4)

/-- The blocks of 64 bytes folded into the hash, at most n of them. -/
def shaBlocks : Nat → List Nat → List Nat → List Nat
  | 0, h, _ => h
  | n + 1, h, m =>
    if m.isEmpty then h
    else
      let v := shaRounds h (words32 16 (m.take 64)) shaK
      shaBlocks n (List.zipWith (fun a b => (a + b) % 2 ^ 32) h v) (m.drop 64)

/-- SHA-256 of bytes, as a number of 256 bits, the first byte the most significant. -/
def sha256 (m : List Byte) : Nat :=
  let n := m.length
  let pad := (119 - n % 64) % 64
  let all := m.map BitVec.toNat ++ [0x80] ++ List.replicate pad 0 ++ beBytes 8 (8 * n)
  (shaBlocks (n / 64 + 2) shaH0 all).foldl (fun a w => a * 2 ^ 32 + w) 0

/-! ### P-256 -/

/-- The prime of the field. -/
def p256P : Nat := 0xffffffff00000001000000000000000000000000ffffffffffffffffffffffff

/-- The order of the group. -/
def p256N : Nat := 0xffffffff00000000ffffffffffffffffbce6faada7179e84f3b9cac2fc632551

/-- The coefficient b of the curve. -/
def p256B : Nat := 0x5ac635d8aa3a93e7b3ebbd55769886bc651d06b0cc53b0f63bce3c3e27d2604b

/-- A point in Jacobian coordinates; Z 0 is the point at infinity. -/
structure JPoint where
  /-- X. -/
  x : Nat
  /-- Y. -/
  y : Nat
  /-- Z. -/
  z : Nat
  deriving DecidableEq, Repr

/-- The base point. -/
def p256G : JPoint :=
  { x := 0x6b17d1f2e12c4247f8bce6e563a440f277037d812deb33a0f4a13945d898c296
    y := 0x4fe342e2fe1a7f9b8ee7eb4a7c0f9e162bce33576b315ececbb6406837bf51f5, z := 1 }

/-- A power modulo m, the exponent's low n bits. -/
def powMod (m : Nat) : Nat → Nat → Nat → Nat
  | 0, _, _ => 1
  | n + 1, b, e =>
    let r := powMod m n (b * b % m) (e / 2)
    if e % 2 = 1 then b * r % m else r

/-- The inverse modulo a prime of 256 bits. -/
def invMod (m a : Nat) : Nat := powMod m 256 (a % m) (m - 2)

/-- a - b modulo the prime. -/
def subP (a b : Nat) : Nat := (a + p256P - b % p256P) % p256P

/-- A point doubled. -/
def JPoint.double (p : JPoint) : JPoint :=
  if p.z = 0 ∨ p.y = 0 then { x := 1, y := 1, z := 0 }
  else
    let zz := p.z * p.z % p256P
    let m := 3 * (subP p.x zz) * (p.x + zz) % p256P
    let yy := p.y * p.y % p256P
    let s := 4 * p.x * yy % p256P
    let x := subP (m * m % p256P) (2 * s)
    { x := x, y := subP (m * subP s x % p256P) (8 * (yy * yy % p256P)), z := 2 * p.y * p.z % p256P }

/-- Two points added. -/
def JPoint.add (p q : JPoint) : JPoint :=
  if p.z = 0 then q
  else if q.z = 0 then p
  else
    let zp := p.z * p.z % p256P
    let zq := q.z * q.z % p256P
    let u1 := p.x * zq % p256P
    let u2 := q.x * zp % p256P
    let s1 := p.y * zq % p256P * q.z % p256P
    let s2 := q.y * zp % p256P * p.z % p256P
    if u1 = u2 then
      if s1 = s2 then p.double else { x := 1, y := 1, z := 0 }
    else
      let h := subP u2 u1
      let r := subP s2 s1
      let hh := h * h % p256P
      let hhh := hh * h % p256P
      let v := u1 * hh % p256P
      let x := subP (r * r % p256P) (hhh + 2 * v)
      { x := x, y := subP (r * subP v x % p256P) (s1 * hhh % p256P), z := p.z * q.z % p256P * h % p256P }

/-- The sum of a p and b q, over the low n bits of both. -/
def twoMul (p q pq : JPoint) : Nat → Nat → Nat → JPoint
  | 0, _, _ => { x := 1, y := 1, z := 0 }
  | n + 1, a, b =>
    let r := (twoMul p q pq n (a / 2) (b / 2)).double
    match a % 2, b % 2 with
    | 0, 0 => r
    | 1, 0 => r.add p
    | 0, _ => r.add q
    | _, _ => r.add pq

/-- A public key, x then y, lies on the curve (14_security.md Table 14.3). -/
def onCurve (x y : Nat) : Bool :=
  decide (x < p256P) && decide (y < p256P) &&
  y * y % p256P == (x * x % p256P * x + p256P * 3 - 3 * x + p256B) % p256P

/-- The value of 32 bytes at an offset, the most significant first. -/
def be32At (b : List Byte) (k : Nat) : Nat := beNat (((b.drop k).take 32).map BitVec.toNat)

/-- An ECDSA signature, r then s, verifies over a hash under a public key, x then y. -/
def ecdsaOk (key sig : List Byte) (hash : Nat) : Bool :=
  let x := be32At key 0
  let y := be32At key 32
  let r := be32At sig 0
  let s := be32At sig 32
  if key.length ≠ 64 ∨ sig.length ≠ 64 ∨ onCurve x y = false ∨ r = 0 ∨ p256N ≤ r ∨ s = 0 ∨ p256N ≤ s then false
  else
    let w := invMod p256N s
    let q : JPoint := { x := x, y := y, z := 1 }
    let t := twoMul p256G q (p256G.add q) 256 (hash * w % p256N) (r * w % p256N)
    if t.z = 0 then false
    else
      let zi := invMod p256P t.z
      t.x * (zi * zi % p256P) % p256P % p256N == r

end Sys2Proof.Machine
end

