-- ==== Sys2Proof/Machine/Operands.lean ====
section
/-! DEFINITION. The forms of configured words that several commands read: schedule objects and slot
descriptors (chapter 08), input descriptors and placements (chapter 02). -/

namespace Sys2Proof.Machine

/-- A schedule object as loaded at the network-integration step (08_tsuvas_network.md R258). -/
def Lane.sched (L : Lane) (idx sub : Nat) : Nat :=
  storeGet L.net.sched (okey idx sub) (objDefault L.id idx sub)

/-- A slot descriptor (Table 8.6). -/
structure SlotDesc where
  /-- BUF. -/
  buf : Nat
  /-- RX. -/
  rx : Bool
  /-- OFS. -/
  ofs : Nat
  /-- REP. -/
  rep : Nat
  /-- CSTART. -/
  cstart : Bool
  /-- SYNC. -/
  sync : Bool
  /-- PORT. -/
  port : Nat
  /-- Payload bytes. -/
  len : Nat
  /-- OWNER. -/
  owner : Nat
  deriving DecidableEq, Repr

/-- The fields of a descriptor word (Table 8.6). -/
def slotDesc (v : Nat) : SlotDesc :=
  { buf := bits v 23 7, rx := bit v 22, ofs := bits v 19 3, rep := bits v 17 2, cstart := bit v 16
    sync := bit v 15, port := bits v 12 3, len := (bits v 5 7 + 1) * 8, owner := bits v 0 5 }

/-- Index and subindex of the descriptor of a static slot 0-255 (Table 8.7). -/
def slotObj (ch : Chan) (slot : Nat) : Nat × Nat :=
  let base := match ch with
    | .X => 0x4810
    | .Y => 0x4812
  (base + slot / 128, slot % 128 + 1)

/-- Descriptor of a static slot of the loaded schedule. -/
def Lane.slot (L : Lane) (ch : Chan) (slot : Nat) : SlotDesc :=
  slotDesc (L.sched (slotObj ch slot).1 (slotObj ch slot).2)

/-- Descriptor of a service slot 0-63 of the loaded schedule; its SYNC and CSTART are 0 (R257). -/
def Lane.svcSlot (L : Lane) (ch : Chan) (slot : Nat) : SlotDesc :=
  { slotDesc (L.sched (match ch with
    | .X => 0x4814
    | .Y => 0x4815) (slot + 1)) with sync := false, cstart := false }

/-- N_STATIC of a channel. -/
def Lane.nStatic (L : Lane) (ch : Chan) : Nat :=
  L.sched 0x4800 (match ch with
    | .X => 9
    | .Y => 10)

/-- N_SVC of a channel. -/
def Lane.nSvc (L : Lane) (ch : Chan) : Nat :=
  L.sched 0x4800 (match ch with
    | .X => 13
    | .Y => 14)

/-- A slot is used in a cycle when CYCLE mod 2^REP = OFS mod 2^REP (Table 8.6). -/
def SlotDesc.used (d : SlotDesc) (cycle : Nat) : Bool := cycle % 2 ^ d.rep == d.ofs % 2 ^ d.rep

/-- PLEN_MAX of a channel. -/
def Lane.plenMax (L : Lane) (ch : Chan) : Nat :=
  L.sched 0x4800 (match ch with
    | .X => 7
    | .Y => 8)

/-- SVC_PLEN of a channel. -/
def Lane.svcPlen (L : Lane) (ch : Chan) : Nat :=
  L.sched 0x4800 (match ch with
    | .X => 0x0B
    | .Y => 0x0C)

/-- CYCLE_LEN of the loaded schedule, microseconds. -/
def Lane.cycleLen (L : Lane) : Nat := L.sched 0x4800 4

/-- Input classes (02_vote_cycle_and_fault_tolerance.md R49). -/
inductive InClass where
  | discrete | analogue | sequenced | perLane
  deriving DecidableEq, Repr

/-- An input descriptor (Table 2.4). -/
structure InDesc where
  /-- CLASS. -/
  cls : InClass
  /-- PERSIST. -/
  persist : Nat
  /-- SAFE. -/
  safe : Nat
  /-- TOL. -/
  tol : Nat
  deriving DecidableEq, Repr

/-- The fields of an input descriptor word (Table 2.4). -/
def inDesc (v : Nat) : InDesc :=
  { cls := match bits v 30 2 with
      | 0 => .discrete
      | 1 => .analogue
      | 2 => .sequenced
      | _ => .perLane
    persist := bits v 24 6, safe := bits v 16 8, tol := bits v 0 16 }

/-- Descriptor of input `n`; none where its word is 0 (R53). -/
def Lane.input (L : Lane) (n : Nat) : Option InDesc :=
  let v := L.obj 0x2620 n
  if v = 0 then none else some (inDesc v)

/-! ### Slip links -/

/-- The view of one slip link. -/
def LinkG.get (g : LinkG) : LinkId → LinkView
  | .AB => g.ab | .BC => g.bc | .CA => g.ca

/-- The view of the link to a peer. -/
def Lane.linkTo (L : Lane) (p : LaneId) : LinkView :=
  match LinkId.between L.id p with
  | some k => L.links.get k
  | none => {}

/-- The views with one link's replaced. -/
def LinkG.set (g : LinkG) (k : LinkId) (v : LinkView) : LinkG :=
  match k with
  | .AB => { g with ab := v } | .BC => { g with bc := v } | .CA => { g with ca := v }

/-- The links in the order of their numbers (01_three_lanes_one_module.md R16). -/
def allLinks : List LinkId := [.AB, .BC, .CA]

/-- Number of a link. -/
def linkNum : LinkId → Nat
  | .AB => 0 | .BC => 1 | .CA => 2

/-- The lane with its view of one link replaced by what a function makes of it. -/
def Lane.onLink (L : Lane) (k : LinkId) (f : LinkView → LinkView) : Lane :=
  { L with links := L.links.set k (f (L.links.get k)) }

/-- The same for the link to a peer. -/
def Lane.onLinkTo (L : Lane) (p : LaneId) (f : LinkView → LinkView) : Lane :=
  match LinkId.between L.id p with
  | some k => L.onLink k f
  | none => L

/-- A message that fails its check sequence is discarded and counted in the error counter of the link it came over
(01_three_lanes_one_module.md R19). -/
def Lane.badMessage (L : Lane) (via : LaneId) : Lane :=
  L.onLinkTo via fun v => { v with errors := satInc v.errors, goodNow := false }

/-! ### Tsuvas frames as they stand on the line (08_tsuvas_network.md R242-R244) -/

end Sys2Proof.Machine

namespace Sys2Proof

open Sys2Proof.Machine

/-- The header of a frame, as a number whose bit n is header bit n (Table 8.3). -/
def FrameIn.hdr (f : FrameIn) : Nat := ofBytes ((f.bytes.drop 14).take 16)

/-- EtherType, in network order. -/
def FrameIn.ether (f : FrameIn) : Nat := beNat (((f.bytes.drop 12).take 2).map BitVec.toNat)

/-- VER. -/
def FrameIn.ver (f : FrameIn) : Nat := bits f.hdr 0 4

/-- KIND. -/
def FrameIn.kind (f : FrameIn) : Nat := bits f.hdr 4 4

/-- SYNC. -/
def FrameIn.sync (f : FrameIn) : Bool := bit f.hdr 8

/-- CSTART. -/
def FrameIn.cstart (f : FrameIn) : Bool := bit f.hdr 9

/-- CH is channel Y. -/
def FrameIn.chY (f : FrameIn) : Bool := bit f.hdr 10

/-- KEYID. -/
def FrameIn.keyId (f : FrameIn) : Nat := bits f.hdr 12 4

/-- Node number of SRC. -/
def FrameIn.node (f : FrameIn) : Nat := bits f.hdr 16 5

/-- Cluster number of SRC. -/
def FrameIn.cluster (f : FrameIn) : Nat := bits f.hdr 21 9

/-- SLOT. -/
def FrameIn.slot (f : FrameIn) : Nat := bits f.hdr 32 8

/-- Payload length by PLEN, bytes. -/
def FrameIn.plen (f : FrameIn) : Nat := (bits f.hdr 40 7 + 1) * 8

/-- SCHED_ID. -/
def FrameIn.schedId (f : FrameIn) : Nat := bits f.hdr 48 12

/-- CYCLE. -/
def FrameIn.cycle (f : FrameIn) : W32 := BitVec.ofNat 32 (bits f.hdr 64 32)

/-- Payload. -/
def FrameIn.payload (f : FrameIn) : List Byte := (f.bytes.drop 30).take f.plen

/-- Authentication tag. -/
def FrameIn.tag (f : FrameIn) : List Byte := (f.bytes.drop (30 + f.plen)).take 8

/-- The frame is complete and its FCS is correct (R246, check 1). -/
def FrameIn.fcsOk (f : FrameIn) : Bool :=
  let n := f.bytes.length
  f.whole && n == max (f.plen + 42) 64 && crc32 (f.bytes.take (n - 4)) == ofBytes (f.bytes.drop (n - 4))

end Sys2Proof

namespace Sys2Proof.Machine

/-- Input of a frame's tag in cycle c: CYC_HI, the header with CYCLE of that cycle, the payload (14_security.md
R426). -/
def tagInput (c hdr : Nat) (payload : List Byte) : List Byte :=
  toBytes 4 (c / 2 ^ 32) ++
    toBytes 16 (hdr % 2 ^ 64 + 2 ^ 64 * (c % 2 ^ 32) + 2 ^ 96 * (hdr / 2 ^ 96)) ++ payload

/-- The AES key in a slot (14_security.md R417). -/
def Sec.key (x : Sec) (n : Nat) : BitVec 128 :=
  BitVec.ofNat 128 (beNat (((x.keys[n]?).getD []).map BitVec.toNat))

/-- A frame with its tag, its pad and its FCS (Table 8.2). -/
def frameBytes (cluster mac ether hdr : Nat) (payload tag : List Byte) : List Byte :=
  let body := ([3, 0, 0, 0] ++ beBytes 2 cluster ++ beBytes 6 mac ++ beBytes 2 ether).map (BitVec.ofNat 8) ++
    toBytes 16 hdr ++ payload ++ tag
  let body := body ++ List.replicate (22 - payload.length) 0
  body ++ toBytes 4 (crc32 body)

/-- A response as a transfer message, padded to 8 bytes (11_dictionary_access.md Table 11.3, Table 11.4). -/
def Resp.message (r : Resp) : List Byte :=
  let err := r.code != 0
  let data := if err then [] else r.data
  let arg := if err then r.code.toNat else if r.op = 1 then r.total else 0
  ([r.op + 0x80, r.tid].map (BitVec.ofNat 8)) ++ toBytes 2 r.idx ++
    ([r.sub, 8 * b2n err + 2 * b2n r.pend + b2n (r.op == 1 && r.last && !err)].map (BitVec.ofNat 8)) ++
    toBytes 2 data.length ++ toBytes 4 r.ofs ++ toBytes 4 arg ++ data ++
    List.replicate ((8 - data.length % 8) % 8) 0

/-! ### The link under a pattern test (17_diagnostics_and_kiln_log.md R498-R501) -/

/-- The test ends with an outcome; the counts stay (R501). -/
def Lpt.stop (p : Lpt) (outcome : Nat) : Lpt :=
  if p.running then { p with running := false, lock := false, outcome := outcome } else p

/-- A test ends when the link it runs on goes down: outcome 7 (R501, Table 17.9). -/
def Lane.lptDown (L : Lane) (link : Nat) : Lane :=
  if L.lptOn link then { L with lpt := L.lpt.stop 7 } else L

end Sys2Proof.Machine
end

