-- ==== Sys2Proof/Machine/Gate.lean ====
section
/-! DEFINITION. Gate drive and bridge protection (chapter 06): rail, switch-node timing and drive
strength, bootstrap supplies, short-circuit episodes, fault waits and tries, latches, self-test. -/

namespace Sys2Proof.Machine

/-! ### Outputs -/

/-- Number of a phase 0-2. -/
def phaseNum : Phase → Nat
  | .U => 0 | .V => 1 | .W => 2

/-- Number of a gate output: UH 0, UL 1, VH 2, VL 3, WH 4, WL 5 (Table 6.8). -/
def outNum (p : Phase) (high : Bool) : Nat := 2 * phaseNum p + (if high then 0 else 1)

/-- The one bit of a gate output. -/
def outBit (i : Nat) : BitVec 6 := BitVec.ofNat 6 (2 ^ i)

/-- GATE_RAIL_FAULT (R186): every gate output of the lane low, the chopper's too; lane-out. -/
def execGateRailFault (l : LaneId) (low : Bool) (s : State) : Host.Outcome State Fault Refusal :=
  .next (s.on l fun L =>
    if L.alive && L.pwr.vgdOn then
      let M : Lane := { L with
        pwr := { L.pwr with vgdBad := true }
        kiln := { L.kiln with uvloVgd := if low then satInc L.kiln.uvloVgd else L.kiln.uvloVgd } }
      M.laneOut (if low then 0x6FC1 else 0x6FC2)
    else L)

/-! ### Dead time, switch-node timing, drive strength (R188-R193) -/

/-- A step after a measurement of tSW: up above the band, down below it, within its limits (R191). -/
def adaptStep (step lo hi : Nat) (tsw target : Rat) : Nat :=
  let w := max 2 (target / 10)
  if target + w < tsw then (if step < hi then step + 1 else step)
  else if tsw < target - w then (if lo < step then step - 1 else step)
  else step

/-- A measurement outside the band of R191. -/
def outOfBand (tsw target : Rat) : Bool :=
  let w := max 2 (target / 10)
  decide (target + w < tsw) || decide (tsw < target - w)

/-- One side of a pair (high side, low side). -/
def sideOf {α : Type} (p : α × α) (high : Bool) : α := if high then p.1 else p.2

/-- A pair with one side replaced. -/
def setSide {α : Type} (p : α × α) (high : Bool) (v : α) : α × α :=
  if high then (v, p.2) else (p.1, v)

/-- The adaptation of one output by one valid measurement (R191, R192): its source step when it made the
commutation coming on, its sink step when it made it going off; outside MODULATE and PARK_APPLY the measurement is
kept and no step moves. (DEDUCED, log entry 79) -/
def Lane.adapt (L : Lane) (b : Fin 8) (p : Phase) (high hard : Bool) (tsw : Rat) : Lane :=
  let o := fun k => L.obj (L.brIdx b 2) k
  let target : Nat := o 2
  let g := L.gates.get b
  let loops := modeLoops (L.bridges.get b).mode
  let old := sideOf (if hard then g.src.get p else g.snk.get p) high
  let new := if loops = false then old else if hard then adaptStep old (o 3) (o 4) tsw target else adaptStep old (o 5) (o 6) tsw target
  let run := sideOf (g.limRun.get p) high
  let run := if loops = false then run else if outOfBand tsw target && new == old then run + 1 else 0
  L.onGate b fun g =>
    { g with
      src := if hard then g.src.set p (setSide (g.src.get p) high new) else g.src
      snk := if hard then g.snk else g.snk.set p (setSide (g.snk.get p) high new)
      tsw := g.tsw.set p (setSide (g.tsw.get p) high tsw)
      limRun := g.limRun.set p (setSide (g.limRun.get p) high run) }

/-- A time as the drive die stamps it: the nearest whole number of eighths of a tick, 0.78 ns each (R190). -/
def timed (ns : Rat) : Rat := (roundR (ns * 32 / 25) : Rat) * 25 / 32

/-- The interlock holds the incoming gate off while the outgoing gate still reads high: neither gate of the leg is
commanded on (R184). -/
def Lane.heldOff (L : Lane) (b : Fin 8) (p : Phase) : Lane :=
  L.onGate b fun g => { g with
    onOut := g.onOut &&& ~~~(outBit (outNum p true)) &&& ~~~(outBit (outNum p false)) }

/-- A transition of a leg seen on its switch node: the measured delay for R139, the outputs that are on,
and the adaptation of R191. -/
def Lane.crossed (L : Lane) (b : Fin 8) (p : Phase) (rise : Bool) (edge : Rat) : Lane :=
  let dt := L.deadTime b
  let M := L.onBr b fun br =>
    if rise then { br with advance := br.advance.set p edge }
    else { br with advanceF := br.advanceF.set p edge }
  let M := M.onGate b fun g =>
    { g with
      onOut := L.supplied b ((g.onOut ||| outBit (outNum p rise)) &&& ~~~(outBit (outNum p (!rise))))
      noValid := g.noValid.set p (setSide (g.noValid.get p) rise 0) }
  if dt < edge then M.adapt b p rise true (edge - dt) else M.adapt b p (!rise) false edge

/-- The magnitude of a phase current above 0.1 × I_MAX (R193). -/
def Lane.phaseLoaded (L : Lane) (b : Fin 8) (p : Phase) : Bool :=
  let br := L.bridges.get b
  let i := match p with
    | .U => br.iU
    | .V => br.iV
    | .W => br.iW
  match L.actOf b with
  | some n => decide (L.machNow n 7 / 10 < absR i)
  | none => false

/-- A transition without a valid crossing, counted while the phase carries more than 0.1 × I_MAX (R193). -/
def Lane.missed (L : Lane) (b : Fin 8) (p : Phase) (rise : Bool) : Lane :=
  L.onGate b fun g => { g with noValid := g.noValid.set p (setSide (g.noValid.get p) rise
    (if L.phaseLoaded b p then sideOf (g.noValid.get p) rise + 1 else 0)) }

/-- A mode in which the legs of a bridge switch: by edges or by measurement vectors (Table 4.6). -/
def modeSwitches : Mode → Bool
  | .modulate | .parkApply | .pulsedShort => true
  | _ => false

/-- SWITCH_NODE_CROSSING (R184, R190, R191, R193): a crossing within 2 microseconds of the outgoing command is a
valid measurement; any other leaves the period without one. -/
def execSwitchNodeCrossing (l : LaneId) (b : Fin 8) (p : Phase) (c : Crossing) (s : State) :
    Host.Outcome State Fault Refusal :=
  .next (s.on l fun L =>
    if L.served b && modeSwitches (L.bridges.get b).mode then
      if c.stuck then (L.missed b p c.rise).heldOff b p
      else match c.edge with
        | some e => if 0 ≤ e ∧ e ≤ 2000 then L.crossed b p c.rise (timed e) else L.missed b p c.rise
        | none => L.missed b p c.rise
    else L)

/-- DRIVE_STRENGTH_LIMIT (R192): DRV_LIM and fault 0x06 at level record; the count starts again. -/
def execDriveStrengthLimit (l : LaneId) (b : Fin 8) (p : Phase) (high : Bool) (s : State) :
    Host.Outcome State Fault Refusal :=
  .next (s.on l fun L =>
    if 1000 ≤ sideOf ((L.gates.get b).limRun.get p) high then
      (L.onGate b fun g =>
        { g with drvLim := true, limRun := g.limRun.set p (setSide (g.limRun.get p) high 0) }).raise
          (brCode b 6) 0 (outNum p high)
    else L)

/-- SWITCH_NODE_SENSE_LOST (R193): fault 0x07, the winding set isolated. -/
def execSwitchNodeSenseLost (l : LaneId) (b : Fin 8) (p : Phase) (s : State) :
    Host.Outcome State Fault Refusal :=
  .next (s.on l fun L =>
    let r := (L.gates.get b).noValid.get p
    if 64 ≤ r.1 ∨ 64 ≤ r.2 then
      (L.onGate b fun g => { g with noValid := g.noValid.set p (0, 0) }).isolate b (brCode b 7)
        (phaseNum p)
    else L)

/-! ### Short-circuit detection and episodes (R194, R200-R204) -/

/-- A short-circuit detection: in a fault wait it only counts (R205); else it is recorded, opens or joins
the bridge's episode, and starts a soft turn-off of every output that is on (R202, R203). An episode
with no output on is open at once. (DEDUCED, log entry 79) -/
def Lane.detect (L : Lane) (b : Fin 8) (kind det : Nat) (on : BitVec 6) (flag : Gate → Gate) : Lane :=
  let g := L.gates.get b
  if g.wait then L.countOnly (brCode b kind)
  else
    let M := L.raise (brCode b kind) 1 det
    let M := M.onGate b fun g =>
      let g : Gate := if g.episode then g
        else { g with episode := true, epKind := kind, desat := 0, oc := false, gfb := false }
      flag { g with soft := g.soft ||| on, onOut := 0 }
    if (M.gates.get b).soft = 0 then M.gateEvent b (M.gates.get b).epKind else M.settle b

/-- GATE_READBACK_MISMATCH (R194): outputs under soft turn-off are excluded. -/
def execGateReadbackMismatch (l : LaneId) (b : Fin 8) (out : Fin 6) (s : State) :
    Host.Outcome State Fault Refusal :=
  .next (s.on l fun L =>
    let g := L.gates.get b
    if L.served b && !(g.soft.getLsbD out.val) then
      L.detect b 5 out.val (L.outOn b) fun g => { g with gfb := true }
    else L)

/-- DESATURATION_DETECT (R200): the comparator of a transistor that is on, a leg's pulse of any kind included; the other
gate of its leg is off (R202). -/
def execDesaturationDetect (l : LaneId) (b : Fin 8) (out : Fin 6) (s : State) :
    Host.Outcome State Fault Refusal :=
  .next (s.on l fun L =>
    let g := L.gates.get b
    let outs := L.outOn b
    let armed := g.wait || g.episode || outs.getLsbD out.val || modeSwitches (L.bridges.get b).mode
    if L.served b && armed then
      let other := if out.val % 2 = 0 then out.val + 1 else out.val - 1
      let on := if outs = 0 then 0 else (outs &&& ~~~(outBit other)) ||| outBit out.val
      L.detect b (if out.val % 2 = 0 then 1 else 2) out.val on fun g =>
        { g with desat := g.desat ||| outBit out.val }
    else L)

/-- HARD_OVERCURRENT (R201): in every mode; the detail names the gates that were on. -/
def execHardOvercurrent (l : LaneId) (b : Fin 8) (s : State) : Host.Outcome State Fault Refusal :=
  .next (s.on l fun L =>
    if L.served b then
      L.detect b 3 (L.outOn b).toNat (L.outOn b) fun g => { g with oc := true }
    else L)

/-- SOFT_TURNOFF_END (R202, R203, R205): the bridge is open; the episode is one fault event. -/
def execSoftTurnoffEnd (l : LaneId) (b : Fin 8) (s : State) : Host.Outcome State Fault Refusal :=
  .next (s.on l fun L =>
    if (L.gates.get b).episode then L.gateEvent b (L.gates.get b).epKind else L)

/-! ### Bootstrap supplies (R195-R198) -/

/-- BOOTSTRAP_REFRESH (R196): the field engine refreshes the leg in the next period it computes. -/
def execBootstrapRefresh (l : LaneId) (b : Fin 8) (p : Phase) (s : State) :
    Host.Outcome State Fault Refusal :=
  .next (s.on l fun L =>
    if 16 ≤ (L.bridges.get b).lowRun.get p then
      L.onBr b fun br => { br with refresh := br.refresh.set p true, lowRun := br.lowRun.set p 0 }
    else L)

/-- BOOTSTRAP_UVLO (R197, R205): the bridge opens and waits; in a wait it only counts, within an episode
it is recorded. -/
def execBootstrapUvlo (l : LaneId) (b : Fin 8) (p : Phase) (s : State) :
    Host.Outcome State Fault Refusal :=
  .next (s.on l fun L =>
    if L.served b then
      let M := L.onGate b fun g => { g with bsUv := g.bsUv.set p true }
      let M : Lane := { M with kiln := { M.kiln with
        uvloBs := M.kiln.uvloBs.set b (satInc (M.kiln.uvloBs.get b)) } }
      if (L.gates.get b).wait then M.countOnly (brCode b 4)
      else
        let M := M.raise (brCode b 4) 1 (phaseNum p)
        if (L.gates.get b).episode then M else M.gateEvent b 4
    else L)

/-! ### Fault waits and tries (R205-R209) -/

/-- FAULT_WAIT_END (R207, R208): a try is made, and precharge runs. -/
def execFaultWaitEnd (l : LaneId) (b : Fin 8) (s : State) : Host.Outcome State Fault Refusal :=
  .next (s.on l fun L =>
    if (L.gates.get b).wait then
      (L.onGate b fun g =>
        { g with wait := false, trying := true, tries := L.tb.mono :: L.triesNow b }).settle b
    else L)

/-- A bridge whose opening has ended takes the mode of Table 4.6; to MODULATE and the passive states it
returns through DISABLED (R207, R230). -/
def Lane.reopen (L : Lane) (b : Fin 8) : Lane :=
  let M := if 5 ≤ (L.wanted b).1 then L.setMode b .disabled else L
  M.settle b

/-- TRY_RELEASE (R207). -/
def execTryRelease (l : LaneId) (b : Fin 8) (s : State) : Host.Outcome State Fault Refusal :=
  .next (s.on l fun L =>
    if (L.gates.get b).trying then
      (L.onGate b fun g => { g with trying := false, bsUv := ⟨false, false, false⟩ }).reopen b
    else L)

/-- TRY_TIMEOUT (R207): the failed try is a new fault event of the same kind. -/
def execTryTimeout (l : LaneId) (b : Fin 8) (s : State) : Host.Outcome State Fault Refusal :=
  .next (s.on l fun L =>
    if (L.gates.get b).trying then L.gateEvent b (L.gates.get b).waitKind else L)

/-- The conditions of R207, as the drive die sees them and as the lane holds them. -/
def Lane.clearable (L : Lane) (b : Fin 8) (e : ClearIn) : Bool :=
  let g := L.gates.get b
  e.bsOk && e.vgdOk && !e.detects && e.low && L.pwr.vgdOn && !L.pwr.vgdBad && !g.episode && g.soft == 0 && g.onOut == 0

/-- A latched bridge is cleared, or the try history of one that is not (R209). -/
def Lane.gdClear (L : Lane) (b : Fin 8) : Lane :=
  if (L.gates.get b).latch then
    let M := L.onGate b fun g =>
      { g with latch := false, latchedKind := 0, tries := [], bsUv := ⟨false, false, false⟩ }
    (M.unisolate b (brCode b 0x0B)).reopen b
  else L.onGate b fun g => { g with tries := [] }

/-- GD_CLEAR (R209). -/
def execGdClear (l : LaneId) (m : Master) (tid : Nat) (b : Fin 8) (data : List Byte) (e : ClearIn)
    (s : State) : Host.Outcome State Fault Refusal :=
  .next (s.on l fun L =>
    L.write m tid (L.brIdx b 3) 1 data (L.clearable b e) fun L => L.gdClear b)

/-! ### Comparator self-test (R210-R212) -/

/-- A self-test may start: DISABLED, or ALL_OFF outside a protective opening, and no test running; a mapped bridge's or
not (R210, R211). (DEDUCED, log entry 63) -/
def Lane.testable (L : Lane) (b : Fin 8) : Bool :=
  let m := (L.bridges.get b).mode
  (m == .disabled || (m == .allOff && !L.opened b)) && !(L.gates.get b).testing

/-- SELFTEST (R211). (DEDUCED, log entry 63) -/
def execSelftest (l : LaneId) (m : Master) (tid : Nat) (b : Fin 8) (data : List Byte) (s : State) :
    Host.Outcome State Fault Refusal :=
  .next (s.on l fun L =>
    L.write m tid (L.brIdx b 3) 2 data (L.testable b) fun L =>
      L.onGate b fun g => { g with testing := true, testBy := some m, result := g.result.start m })

/-- The outcome of a self-test (R211, Table 6.10): a pass ends the isolation of an earlier failure, a
failure isolates the winding set. -/
def Lane.testDone (L : Lane) (b : Fin 8) (desat : BitVec 6) (oc : Bool) (bs : BitVec 3) : Lane :=
  let fail := desat != 0 || oc || bs != 0
  let p := BitVec.ofNat 12 (b2n fail * 1024 + bs.toNat * 128 + b2n oc * 64 + desat.toNat)
  let g := L.gates.get b
  let r := match g.testBy with
    | some m => g.result.finish m p
    | none => g.result
  let M := L.onGate b fun g => { g with testing := false, testBy := none, result := r }
  if fail then M.isolate b (brCode b 8) else (M.unisolate b (brCode b 8)).settle b

/-- SELFTEST_COMPLETE (R210-R212). -/
def execSelftestComplete (l : LaneId) (b : Fin 8) (e : TestEnd) (s : State) :
    Host.Outcome State Fault Refusal :=
  .next (s.on l fun L =>
    if (L.gates.get b).testing then
      match e with
      | .done desat oc bs => L.testDone b desat oc bs
      | .aborted => L.abortTest b
    else L)

end Sys2Proof.Machine
end

