-- ==== Sys2Proof/Machine/DcLink.lean ====
section
/-! DEFINITION. The DC link of a lane and its brake chopper: thresholds, current checks, energy account,
tests, hardware over-voltage and under-voltage (chapter 07). -/

namespace Sys2Proof.Machine

/-- Four consecutive samples satisfy a condition (R217). -/
def DcLink.all4 (d : DcLink) (p : Rat → Bool) : Bool := d.recent.length == 4 && d.recent.all p

/-- The chopper is available: fitted, not faulty, not hot (R221, R223). -/
def Lane.chopAvail (L : Lane) : Bool :=
  L.obj (L.dcIdx 0) 0x0B == 1 && !L.dc.chopFault && !L.dc.chopHot

/-- The stop line or the gate rail holds x_GCH low (R221, R229). -/
def Lane.chopHeld (L : Lane) : Bool := L.pwr.stopLine || L.pwr.vgdBad || !L.pwr.vgdOn

/-- A flag after a sample: set where the threshold is passed, cleared where its release is (Table 7.1). -/
def nextFlag (old set clear : Bool) : Bool := if set then true else if clear then false else old

/-- The chopper gate after a sample (R221, R223, R225, R229): at least 20 samples, 10 microseconds, between
two changes; a test turns it off 40 samples, 20 microseconds, after it turned it on. -/
def Lane.chopNext (L : Lane) (ov1 : Bool) : Bool :=
  let d := L.dc
  if L.chopHeld then false
  else if d.hwHold then true
  else if d.testing then d.chopOn && decide (d.chopRun < 40)
  else if L.chopAvail = false then false
  else if 20 ≤ d.chopRun then ov1
  else d.chopOn

/-- The thresholds of Table 7.1 judged on the last four samples (R219, R221, R223, R226, R228, R233). -/
def Lane.judgeLink (L : Lane) : Lane :=
  let d := L.dc
  let ov1 := L.dcReal 1
  let hyst := L.dcReal 6
  let avail := L.chopAvail
  let rel1 := if avail then ov1 - L.dcReal 2 else ov1 - hyst
  let n1 := nextFlag d.ov1 (d.all4 (ov1 < ·)) (d.all4 (· < rel1))
  let low2 := d.all4 (· < L.dcReal 3 - hyst)
  let n2 := nextFlag d.ov2 (d.all4 (L.dcReal 3 < ·)) low2
  let n3 := nextFlag d.ov3 (d.all4 (L.dcReal 4 < ·)) low2
  let cut := if avail then n2
    else nextFlag d.regenCut (d.all4 (ov1 < ·)) (d.all4 (· < ov1 - hyst))
  let low := nextFlag d.linkLow (d.all4 (· < L.dcReal 8)) (d.all4 (L.dcReal 8 + L.dcReal 0x0A < ·))
  let chop := L.chopNext n1
  let M : Lane := { L with dc := { d with
    ov1 := n1, ov2 := n2, ov3 := n3, regenCut := cut, linkLow := low, chopOn := chop
    chopRun := if chop = d.chopOn then d.chopRun else 0 } }
  let M := if cut && !d.regenCut then M.raise (dcCode 5) 0 else M
  if n3 && !d.ov3 then M.settleAll else M

/-- The converter of x_VDC reads 0 V to 80 V (R217). -/
def vdcReading (v : Rat) : Rat := max 0 (min 80 v)

/-- VDC_SAMPLE (R217-R228, R233, R173). -/
def execVdcSample (l : LaneId) (x : LinkSample) (s : State) : Host.Outcome State Fault Refusal :=
  .next (s.on l fun L =>
    if L.alive then
      let v := vdcReading x.v
      let hi := match L.kiln.secVdc with
        | some a => max a v
        | none => v
      let M : Lane := { L with
        dc := { L.dc with
          vdc := v, vdcNs := L.tb.ns, chi := x.chi, recent := (v :: L.dc.recent).take 4, chopRun := L.dc.chopRun + 1 }
        kiln := { L.kiln with secVdc := some hi } }
      fin8.foldl Lane.followEmf M.judgeLink
    else L)

/-- LINK_SENSE_DISAGREE (R218): 3 consecutive rounds. -/
def execLinkSenseDisagree (l : LaneId) (s : State) : Host.Outcome State Fault Refusal :=
  .next (s.on l fun L =>
    if 3 ≤ L.dc.senseRun then
      ({ L with dc := { L.dc with senseRun := 0 } } : Lane).laneOut (dcCode 0x0A)
    else L)

/-- KIND of the fault a current check finds against Iexp = vdc / CHOP_R, with the chopper on or off; 0 where it
passes (R222). -/
def Lane.chopVerdict (L : Lane) (on : Bool) (i : Rat) : Nat :=
  let e := L.dc.vdc / L.dcReal 0x0C
  if on then
    if i < 3 / 10 * e then 1
    else if i ≤ 7 / 10 * e ∨ 13 / 10 * e < i then 2
    else 0
  else if max 1 (e / 10) < i then 3
  else 0

/-- A running check counts towards three consecutive failures of its kind (R222). -/
def Lane.chopCheck (L : Lane) (i : Rat) : DcLink :=
  let d := L.dc
  let k := L.chopVerdict d.chopOn i
  if d.chopOn then
    { d with
      openRun := if k = 1 then d.openRun + 1 else 0
      wrongRun := if k = 2 then d.wrongRun + 1 else 0 }
  else { d with condRun := if k = 3 then d.condRun + 1 else 0 }

/-- A check of a running test (R225): the first two are on checks, any further one, which follows the turn-off at 20
microseconds, an off check. -/
def Lane.chopTestCheck (L : Lane) (i : Rat) : DcLink :=
  let d := L.dc
  let on := decide (d.testChecks < 2)
  let k := L.chopVerdict on i
  { d with
    testChecks := d.testChecks + 1
    testKind := if d.testKind = 0 then k else d.testKind
    chopOn := d.chopOn && on }

/-- CHOPPER_CURRENT_CHECK (R222, R225): no running check is made while CHOP_FAULT is set. -/
def execChopperCurrentCheck (l : LaneId) (i : Rat) (s : State) : Host.Outcome State Fault Refusal :=
  .next (s.on l fun L =>
    if L.alive then
      let d := if L.dc.testing then L.chopTestCheck i else if L.dc.chopFault then L.dc else L.chopCheck i
      { L with dc := { d with chi := i } }
    else L)

/-- The chopper is faulty: x_GCH low but for a hardware hold, CHOP_FAULT set and kept, the cut judged at OV1
(R222, R223, R229). (DEDUCED, log entry 82) -/
def Lane.chopFail (L : Lane) (kind : Nat) : Lane :=
  let M : Lane := { L with dc := { L.dc with
    chopFault := true, chopFaultKind := kind, openRun := 0, wrongRun := 0, condRun := 0 } }
  (M.raise (dcCode kind) 2).judgeLink

/-- Every winding set of the lane is isolated by the under-voltage of the link (R234). -/
def Lane.uvIsolate (L : Lane) : Lane :=
  let M : Lane := { L with dc := { L.dc with uv2 := true } }
  fin8.foldl (fun M b => M.isolateSet b (dcCode 8)) M

/-- CHOPPER_FAULT (R222): three consecutive failures of one kind. -/
def execChopperFault (l : LaneId) (s : State) : Host.Outcome State Fault Refusal :=
  .next (s.on l fun L =>
    if L.dc.chopFault then L
    else if 3 ≤ L.dc.openRun then L.chopFail 1
    else if 3 ≤ L.dc.wrongRun then L.chopFail 2
    else if 3 ≤ L.dc.condRun then L.chopFail 3
    else L)

/-- CHOPPER_ENERGY_UPDATE (R224). -/
def execChopperEnergyUpdate (l : LaneId) (s : State) : Host.Outcome State Fault Refusal :=
  .next (s.on l fun L =>
    if L.alive then
      let cap := L.dcReal 0x0F
      let e := max 0 (L.dc.energy + (L.dc.vdc * L.dc.chi - L.dcReal 0x0E) / 100000)
      let hot := nextFlag L.dc.chopHot (decide (cap < e)) (decide (e < cap / 2))
      let M : Lane := { L with dc := { L.dc with energy := e, chopHot := hot } }
      let M := if hot && !L.dc.chopHot then M.raise (dcCode 4) 0 else M
      M.judgeLink
    else L)

/-- CHOP_TEST (R225): accepted while CHOP_ENABLE is 1, the chopper is off and vdc lies within
UV2 to OV1 - CHOP_HYST. -/
def execChopTest (l : LaneId) (m : Master) (tid : Nat) (data : List Byte) (s : State) :
    Host.Outcome State Fault Refusal :=
  .next (s.on l fun L =>
    let d := L.dc
    let okNow := L.obj (L.dcIdx 0) 0x0B == 1 && !d.chopOn && !d.testing &&
      decide (L.dcReal 9 ≤ d.vdc) && decide (d.vdc ≤ L.dcReal 1 - L.dcReal 2)
    L.write m tid (L.dcIdx 2) 1 data okNow fun L =>
      { L with dc := { L.dc with
          testing := true, testChecks := 0, testKind := 0, chopOn := !L.chopHeld, chopRun := 0, openRun := 0, wrongRun := 0, condRun := 0 } })

/-- The outcome of a chopper test (R225): a pass clears CHOP_FAULT, a failure raises its fault at once. -/
def Lane.chopTested (L : Lane) (kind : Nat) : Lane :=
  let M : Lane := { L with dc := { L.dc with
    testing := false, chopOn := L.dc.hwHold && !L.chopHeld, chopRun := 0
    ctest := if kind = 0 then 1 else 2 } }
  if kind = 0 then
    { M with dc := { M.dc with chopFault := false, chopFaultKind := 0, openRun := 0, wrongRun := 0, condRun := 0 } }
  else M.chopFail kind

/-- CHOPPER_TEST_COMPLETE (R225): the off check ends the test, which passes when every check has passed. -/
def execChopperTestComplete (l : LaneId) (amps : Rat) (s : State) : Host.Outcome State Fault Refusal :=
  .next (s.on l fun L =>
    if L.dc.testing then L.chopTested (if L.dc.testKind = 0 then L.chopVerdict false amps else L.dc.testKind)
    else L)

/-- OV3_TIMEOUT (R228). -/
def execOv3Timeout (l : LaneId) (s : State) : Host.Outcome State Fault Refusal :=
  .next (s.on l fun L => if L.dc.ov3 then L.laneOut (dcCode 6) else L)

/-- HW_OV_TRIP (R229, R230): every bridge gate low, the chopper gate on; the third trip within 60 s takes
the lane out. (DEDUCED, log entry 82) -/
def execHwOvTrip (l : LaneId) (s : State) : Host.Outcome State Fault Refusal :=
  .next (s.on l fun L =>
    if L.alive && !L.dc.hwHold then
      let times := L.tb.mono :: recent L.tb.mono 60000000000 L.dc.hwTimes
      let M : Lane := { L with dc := { L.dc with
        hwHold := true, hwTrips := satInc L.dc.hwTrips, hwTimes := times, chopOn := !L.chopHeld
        chopRun := 0, testing := false } }
      let M := M.settleAll
      if 3 ≤ times.length then M.laneOut (dcCode 7) else M.raise (dcCode 7) 0
    else L)

/-- HW_OV_RELEASE (Table 7.1, R230, R221): the bridges return through DISABLED and precharge; an available chopper
stays on while vdc has not fallen below OV1 - CHOP_HYST. -/
def execHwOvRelease (l : LaneId) (s : State) : Host.Outcome State Fault Refusal :=
  .next (s.on l fun L =>
    if L.dc.hwHold then
      let on := L.dc.chopOn && L.chopAvail && L.dc.ov1
      let M : Lane := { L with dc := { L.dc with
        hwHold := false, chopOn := on, chopRun := if on then L.dc.chopRun else 0 } }
      (fin8.foldl (fun M b => M.reopen b) M).judgeLink
    else L)

/-- LINK_UNDERVOLTAGE (R234): fault 0x6F88, every winding set of the lane isolated. -/
def execLinkUndervoltage (l : LaneId) (s : State) : Host.Outcome State Fault Refusal :=
  .next (s.on l fun L =>
    if L.alive && !L.dc.uv2 then
      let M : Lane := { L with dc := { L.dc with uv2 := true } }
      fin8.foldl (fun M b => M.isolateSet b (dcCode 8)) (M.raise (dcCode 8) 2)
    else L)

/-- LINK_UV_RECOVER (R234): the isolation ends. -/
def execLinkUvRecover (l : LaneId) (s : State) : Host.Outcome State Fault Refusal :=
  .next (s.on l fun L =>
    if L.dc.uv2 then
      let M : Lane := { L with dc := { L.dc with uv2 := false } }
      fin8.foldl (fun M b => M.unisolate b (dcCode 8)) M
    else L)

end Sys2Proof.Machine
end

