-- ==== Sys2Proof/Machine/Time.lean ====
section
/-! DEFINITION. The time base, the uplink clock, timestamp queues and timed actions (chapter 09). -/

namespace Sys2Proof.Machine

/-! ### The counter (R285-R290) -/

/-- The increment of a tick in fraction steps: INC_BASE, RATE_INC and the share of a slew, held within 1.75
to 2.25 ns (R285, R287, R288). -/
def TimeBase.inc (t : TimeBase) : Nat :=
  let slew : Int := if t.slewTicks = 0 then 0 else roundR (t.slewRem * 4294967296 / (t.slewTicks : Rat))
  let i := (t.incBase : Int) + t.rateInc + slew
  (max 0x1C0000000 (min 0x240000000 i)).toNat

/-- One tick of the network clock (R285). -/
def TimeBase.tick (t : TimeBase) : TimeBase :=
  let f := t.frac.toNat + t.inc
  let share := if t.slewTicks = 0 then 0 else t.slewRem / (t.slewTicks : Rat)
  { t with
    ns := t.ns + f / 4294967296, frac := BitVec.ofNat 32 f, mono := t.mono + 2
    slewRem := if t.slewTicks ≤ 1 then 0 else t.slewRem - share
    slewTicks := t.slewTicks - 1 }

/-- A lane at one tick of its network clock: the time base counts while that clock runs (R285,
16_clocks_and_heat.md R453); `mono` is the model's own count of time and always runs. -/
def Lane.tick (L : Lane) : Lane :=
  if L.clk.netLock then { L with tb := L.tb.tick } else { L with tb := { L.tb with mono := L.tb.mono + 2 } }

/-- One tick in every lane (log entry 13). -/
def State.tickAll (s : State) : State := s.onAll Lane.tick

/-- An offset correction in ns joins the slew in progress over `n` ticks, or at 0.2 ns a tick where `n` is 0
(R288). (DEDUCED, log entry 77) -/
def TimeBase.slew (t : TimeBase) (o : Rat) (n : Nat) : TimeBase :=
  let sum := t.slewRem + o
  let ticks := if n = 0 then (absR sum * 5).ceil.toNat else n
  if sum = 0 then { t with slewRem := 0, slewTicks := 0 }
  else { t with slewRem := sum, slewTicks := ticks }

/-- SLEW_END (R288): the rest of the slew has been added, over the ticks that were left. (DEDUCED, log entry 77) -/
def execSlewEnd (l : LaneId) (s : State) : Host.Outcome State Fault Refusal :=
  .next (s.on l fun L =>
    if L.tb.slewTicks = 0 then L
    else
      let go := 2 * L.tb.slewTicks
      { L with tb := { L.tb with
          ns := ((L.tb.ns : Int) + (go : Int) + roundR L.tb.slewRem).toNat
          mono := L.tb.mono + go, slewRem := 0, slewTicks := 0 } })

/-- Network time is overwritten (R289): counted, recorded, every timed action cancelled. -/
def Lane.setTime (L : Lane) (ns : Nat) : Lane :=
  let M : Lane := { L with
    tb := { L.tb with ns := ns, frac := 0, slewRem := 0, slewTicks := 0, lastSet := ns, sets := satInc L.tb.sets }
    ta := L.ta.cancelAll }
  M.raise 0x5001 0

/-! ### Time states (R292-R294) -/

/-- TIME_UNC in ns (Table 9.3); none while INVALID, where it reads all ones. -/
def Lane.timeUnc (L : Lane) : Option Nat :=
  match L.tb.state with
  | .invalid => none
  | .synced => some 10
  | .holdover => some (L.tb.unc0 + L.obj 0x2300 6 * (L.tb.ns - L.tb.unc0At) / 1000000000)

/-- The time base enters HOLDOVER (R287, R292, R294). -/
def Lane.enterHoldover (L : Lane) (unc : Nat) : Lane :=
  let M : Lane := { L with tb := { (L.tb.learn L.clk.xtalPpm) with
    state := .holdover, unc0 := unc, unc0At := L.tb.ns } }
  M.raise 0x5002 0

/-- The state of a valid time base after a network cycle or a vote cycle (Table 9.3). -/
def Lane.judgeTime (L : Lane) (synced : Bool) : Lane :=
  match L.tb.state with
  | .invalid => L
  | .holdover => if synced then { L with tb := { L.tb with state := .synced } } else L
  | .synced => if synced then L else L.enterHoldover 10

/-- An INVALID time base becomes valid (R293); `unc` is TIME_UNC where it enters HOLDOVER so, which the spec
does not state (log entry 5). -/
def Lane.validate (L : Lane) (synced : Bool) (unc : Nat) : Lane :=
  if L.tb.state ≠ .invalid then L
  else if synced then { L with tb := { L.tb with state := .synced, seeded := true } }
  else ({ L with tb := { L.tb with seeded := true } } : Lane).enterHoldover unc

/-- SLEEP_RECORD_INVALIDATE (R312). -/
def execSleepRecordInvalidate (l : LaneId) (s : State) : Host.Outcome State Fault Refusal :=
  .next (s.on l fun L => { L with sleep := { L.sleep with valid := false } })

/-! ### The uplink clock (R295-R300) -/

/-- An offset carried forward at a rate in 0.001 ppb over network time in ns (R296). -/
def carried (offset rate : Int) (dt : Nat) : Int :=
  offset + roundR ((rate : Rat) * (dt : Rat) / 1000000000000)

/-- The uplink clock less network time, now (R296). -/
def Lane.uplOffsetNow (L : Lane) : Int := carried L.upl.offset L.upl.rate (L.tb.ns - L.upl.updNs)

/-- The uplink clock now, ns (R296). -/
def Lane.uplNow (L : Lane) : Int := (L.tb.ns : Int) + L.uplOffsetNow

/-- UPL_UNC now (R300). -/
def Lane.uplUnc (L : Lane) : Nat :=
  if L.upl.state = .holdover then
    L.upl.unc + L.obj 0x2300 6 * (L.tb.ns - L.upl.updNs) / 1000000000
  else L.upl.unc

/-- Flags of UPL_STATUS set in this vote cycle (00_scope.md R12). -/
def UplClock.mark (u : UplClock) (bitNo : Nat) : UplClock :=
  { u with w1cNow := u.w1cNow ||| BitVec.ofNat 16 (2 ^ bitNo) }

/-- A Sync within STEP_THR of the prediction: the servo tracks it; another grandmaster is told (R298). -/
def Lane.syncTrack (L : Lane) (g : SyncIn) (d : Int) (unc : Nat) : Lane :=
  let (o, r) := Config.servo d L.uplOffsetNow L.upl.rate
  let M : Lane := { L with upl := { L.upl with
    offset := o, rate := r, updNs := L.tb.ns, state := .synced, unc := unc
    candCount := if L.upl.state = .candidate then 0 else L.upl.candCount } }
  if g.gm ≠ L.upl.gm then
    ({ M with upl := { (M.upl.mark 3) with gmChanged := true } } : Lane).raise 0x5044 0
  else M

/-- A first Sync away from the prediction, or one that leaves the candidate too: a new candidate (R298). -/
def Lane.syncRefuse (L : Lane) (g : SyncIn) : Lane :=
  ({ L with upl := { (L.upl.mark 4) with
    cand := g.m, candNs := L.tb.ns, candCount := 1, state := .candidate
    stepRefused := true, refused := satInc L.upl.refused } } : Lane).raise 0x5042 0

/-- The step of the uplink clock onto its candidate (R298, R299). (DEDUCED, log entry 83) -/
def Lane.syncStep (L : Lane) (g : SyncIn) (unc : Nat) : Lane :=
  ({ L with
    upl := { (L.upl.mark 5) with
      offset := g.m, updNs := L.tb.ns, state := .synced, steps := satInc L.upl.steps, stepTaken := true
      accept := false, unc := unc }
    ct := { L.ct with stepSeen := true } } : Lane).raise 0x5043 0

/-- A Sync of the selected grandmaster (R298). (DEDUCED, log entry 83) -/
def Lane.takeSync (L : Lane) (g : SyncIn) (unc : Nat) : Lane :=
  let thr : Int := L.obj 0x2301 5
  let agree := L.obj 0x2301 6
  let d := g.m - L.uplOffsetNow
  if L.upl.state = .unset then
    { L with upl := { L.upl with offset := g.m, rate := 0, updNs := L.tb.ns, state := .synced, unc := unc } }
  else if d ≤ thr ∧ -thr ≤ d then
    let M := L.syncTrack g d unc
    { M with upl := { M.upl with gm := g.gm } }
  else
    let c := g.m - carried L.upl.cand L.upl.rate (L.tb.ns - L.upl.candNs)
    let near := L.upl.state == .candidate && decide (c ≤ thr) && decide (-thr ≤ c)
    let M := if near then
        ({ L with upl := { L.upl with candCount := min 255 (L.upl.candCount + 1) } } : Lane)
      else L.syncRefuse g
    let go := (decide (0 < agree) && decide (agree ≤ M.upl.candCount)) || (near && M.upl.accept)
    let M := if go then M.syncStep g unc else M
    { M with upl := { M.upl with gm := g.gm } }

/-- GPTP_SYNC (R298): a Sync of the selected grandmaster; the bound UPL_UNC of a tracked clock is a value the
spec does not state, so it is free (log entry 5). -/
def execGptpSync (l : LaneId) (g : SyncIn) (s : State) : Host.Outcome State Fault Refusal :=
  let L := s.lane l
  if L.alive && L.upl.link && !L.upl.gmSelf && L.upl.gmSel == g.gm then
    let unc := (roundR (Config.free 300 s.freeCtr)).toNat
    let t := s.on l fun L => L.takeSync g unc
    .next { t with freeCtr := s.freeCtr + 1 }
  else .next s

/-- GPTP_SYNC_TIMEOUT (R300). -/
def execGptpSyncTimeout (l : LaneId) (s : State) : Host.Outcome State Fault Refusal :=
  .next (s.on l fun L =>
    if L.alive && !L.upl.gmSelf && (L.upl.state == .synced || L.upl.state == .candidate) then
      ({ L with upl := { L.upl with state := .holdover, candCount := 0 } } : Lane).raise 0x5041 0
    else L)

/-- GPTP_ANNOUNCE (R295, R297): the algorithm selects a grandmaster, or the lane itself while GM_CAPABLE is
1; its offset then freezes, or is 0 if the clock was UNSET, and its rate is 0. -/
def execGptpAnnounce (l : LaneId) (a : AnnounceIn) (s : State) : Host.Outcome State Fault Refusal :=
  .next (s.on l fun L =>
    if L.alive && L.upl.link then
      if a.self then
        if L.obj 0x2301 2 = 1 ∧ L.upl.gmSelf = false then
          { L with upl := { L.upl with
              gmSelf := true, gmSel := a.gm, rate := 0, updNs := L.tb.ns
              offset := if L.upl.state = .unset then 0 else L.uplOffsetNow } }
        else L
      else { L with upl := { L.upl with gmSelf := false, gmSel := a.gm } }
    else L)

/-- SYNC_TRANSMISSION (R297): the grandmaster's Sync carries the uplink clock. -/
def execSyncTransmission (l : LaneId) (s : State) : Host.Outcome State Fault Refusal :=
  .next (s.on l fun L =>
    if L.alive && L.upl.link && L.upl.gmSelf then
      { L with upl := { L.upl with syncSent := L.upl.syncSent + 1 } }
    else L)

/-- STEP_ACCEPT (R299). (DEDUCED, log entry 83) -/
def execStepAccept (l : LaneId) (m : Master) (tid : Nat) (data : List Byte) (s : State) :
    Host.Outcome State Fault Refusal :=
  .next (s.on l fun L =>
    L.write m tid 0x2303 1 data (L.upl.state == .candidate) fun L =>
      { L with upl := { L.upl with accept := true } })

/-! ### Timestamp queues (R301-R304) -/

/-- Index of a queue's objects (R315). -/
def tsqIdx : TsqId → Nat
  | .x => 0x2330 | .y => 0x2331 | .u => 0x2332

/-- One queue. -/
def Tsq.get (t : Tsq) : TsqId → Queue
  | .x => t.x | .y => t.y | .u => t.u

/-- The queues with one replaced. -/
def Tsq.set (t : Tsq) (q : TsqId) (v : Queue) : Tsq :=
  match q with
  | .x => { t with x := v } | .y => { t with y := v } | .u => { t with u := v }

/-- A transmit stamp taken now (R286, R302, Table 9.6); a full queue drops it (R303). -/
def Lane.stamp (L : Lane) (q : TsqId) (tag : Nat) (late : Bool) : Lane :=
  let flags := b2n (L.tb.state == .holdover) + 2 * b2n (L.tb.state == .invalid) + 4 * b2n late
  let port := match q with
    | .x => 0
    | .y => 1
    | .u => 2
  let st : Stamp :=
    { ns := L.tb.ns, quarter := L.tb.frac.toNat / 1073741824, tag := BitVec.ofNat 16 tag
      flags := BitVec.ofNat 8 flags, port := port }
  let c := L.tsq.get q
  if c.items.length < 16 then { L with tsq := L.tsq.set q { c with items := c.items ++ [st] } }
  else
    ({ L with tsq := L.tsq.set q { c with
      ovf := true, ovfNow := true, ovfCount := satInc c.ovfCount } } : Lane).raise 0x5081 0 port

/-- TSQ_POP (R304): the head leaves when its tag equals the value written. -/
def execTsqPop (l : LaneId) (m : Master) (tid : Nat) (q : TsqId) (data : List Byte) (s : State) :
    Host.Outcome State Fault Refusal :=
  .next (s.on l fun L =>
    let c := L.tsq.get q
    let okNow := match c.items with
      | [] => false
      | h :: _ => h.tag.toNat == ofBytes data
    L.write m tid (tsqIdx q) 2 data okNow fun L =>
      { L with tsq := L.tsq.set q { L.tsq.get q with items := (L.tsq.get q).items.tail } })

/-! ### Contract windows (10_uplink_contracts_and_telemetry.md R322) -/

/-- The uplink clock at a network time, by the present pair (R296). -/
def Lane.uplAt (L : Lane) (ns : Nat) : Int :=
  L.upl.offset + roundR ((L.upl.rate : Rat) * (((ns : Int) - (L.upl.updNs : Int) : Int) : Rat) / 1000000000000)

/-- Bytes 6-21 of a destination entry hold a mapped IPv4 address (Table 10.9). -/
def destV4 (v : Nat) : Bool := bits v 48 96 == 0xFFFF * 2 ^ 80

/-- tULINE in tenths of a ns for a UDP payload (R322). -/
def uLine (v4 : Bool) (size : Nat) : Nat := (size + if v4 then 70 else 90) * 32

/-- Static slot that a contract names: channel and number (Table 10.1). -/
def ctSlot (source : Nat) : Chan × Nat := (if bit source 8 then .Y else .X, source % 256)

/-- Items of a telemetry set in use (R332). -/
def Lane.itemCount (L : Lane) (set : Nat) : Nat :=
  ((List.range 32).filter fun k => L.obj (0x4B10 + set) (k + 1) != 0).length

/-- UDP payload of an outbound contract in bytes (R336). -/
def Lane.ctBytes (L : Lane) (c : Contract) : Nat :=
  if c.dir = 0 then 48 + 16 * L.itemCount c.source
  else 64 + (L.slot (ctSlot c.source).1 (ctSlot c.source).2).len

/-- Line time of a contract's window in tenths of a ns (R322). -/
def Lane.ctLine (L : Lane) (c : Contract) : Nat := uLine (destV4 (L.obj 0x4A20 (c.dest + 1))) (L.ctBytes c)

/-- Time from the last guard start of a contract's windows to an instant of the uplink clock, both in tenths of a ns;
the guard lasts 5 microseconds (R322). -/
def Contract.sinceT (c : Contract) (t : Int) : Nat :=
  ((t - (c.phase * 10000 : Nat) + 50000) % ((max 1 c.period * 10000 : Nat) : Int)).toNat

/-- The same at an uplink instant in ns. -/
def Contract.since (c : Contract) (u : Int) : Nat := c.sinceT (u * 10)

/-- An uplink instant lies in a window of an outbound contract or in its guard band, from the contract's
first window on (R322, R323). -/
def Lane.inContract (L : Lane) (u : Int) : Bool :=
  L.ct.list.any fun c =>
    c.dir != 2 && decide (c.since u < 50000 + L.ctLine c) &&
    decide (L.uplAt c.nextNs * 10 ≤ u * 10 - (c.since u : Int) + 50000)

/-- The end of what keeps the gates of classes 0-6 closed at an instant of the uplink clock, in tenths of a ns: a
contract's window with its guard band (R322), or the 5 microseconds before a timed launch and its line time
(09_time_base_and_timed_actions.md R307); none where they are open. -/
def Lane.lowClosed (L : Lane) (t : Int) : Option Int :=
  let win := L.ct.list.findSome? fun c =>
    let e := t - (c.sinceT t : Int) + (50000 + L.ctLine c : Nat)
    if c.dir != 2 && decide (t < e) && decide (L.uplAt c.nextNs * 10 ≤ t - (c.sinceT t : Int) + 50000) then some e
    else none
  match win with
  | some e => some e
  | none => L.ta.entries.findSome? fun e =>
    let d := L.uplAt e.dueNs * 10
    if e.kind == 1 && decide (d - 50000 ≤ t) && decide (t < d + (e.lineNs * 10 : Nat)) then
      some (d + (e.lineNs * 10 : Nat))
    else none

/-- The first instant from one on at which the gates of classes 0-6 are open, over at most `n` closures (R322). -/
def Lane.lowOpenFrom (L : Lane) : Nat → Int → Int
  | 0, t => t
  | n + 1, t => match L.lowClosed t with
    | some e => L.lowOpenFrom n e
    | none => t

/-! ### Timed actions (R305-R310) -/

/-- A TIME80 of a time in ns with quarters of a nanosecond (Table 9.1). -/
def mkTime80 (ns : Nat) (quarter : Nat := 0) : Nat :=
  ns / 1000000000 * 4294967296 + ns % 1000000000 * 4 + quarter % 4

/-- A TIME80 in ns, with its fraction dropped; none where NS is not below 10^9 (Table 9.1). -/
def time80 (v : Nat) : Option Nat :=
  let sec := v / 2 ^ 32
  let ns := v / 4 % 2 ^ 30
  if ns < 1000000000 then some (sec * 1000000000 + ns) else none

/-- The lowest free entry of a share of the queue. (DEDUCED, log entry 84) -/
def Ta.freeSlot (t : Ta) (lo n : Nat) : Option Nat :=
  (List.range n).map (lo + ·) |>.find? fun k => !(t.entries.any fun e => e.slot == k)

/-- tLEAD of a kind in ns (Table 9.8). -/
def leadNs (kind : Nat) : Nat := if kind = 1 then 6000 else if kind = 2 then 1000 else 0

/-- The fields of a record lie in their ranges (Table 9.7, R306). -/
def recordOk (now : Nat) (r : Nat) : Bool :=
  let kind := bits r 80 8
  let past := bits r 88 8
  let arg := bits r 112 8
  let opt := bits r 120 8
  (match time80 (bits r 0 80) with
   | some due => decide (due ≤ now + 1000000000000)
   | none => false) &&
  (kind == 1 || kind == 2) && decide (past ≤ 2) && (if kind = 1 then decide (arg < 64) else arg == 0) &&
  (if kind = 1 then decide (opt ≤ 1) else opt == 0)

/-- A submission accepted by the dictionary server ends at once with an outcome (R310). -/
def Lane.taEnd (L : Lane) (m : Master) (entry outcome : Nat) : Lane :=
  { L with ta := { L.ta with result := (L.ta.result.start m).finish m (taPayload entry outcome) } }

/-- A submission queued (R306). -/
def Lane.taQueue (L : Lane) (m : Master) (slot : Nat) (e : TaEntry) : Lane :=
  { L with ta := { L.ta with
      entries := L.ta.entries ++ [{ e with slot := slot, owner := some m }]
      result := L.ta.result.start m } }

/-- A launch starts within the line time of one already queued (R306). -/
def Ta.overlaps (t : Ta) (due : Nat) : Bool :=
  t.entries.any fun e => e.kind == 1 && decide (e.dueNs ≤ due) && decide (due < e.dueNs + e.lineNs)

/-- A record written to TA_SUBMIT is taken (R305, R306, Table 9.8,
10_uplink_contracts_and_telemetry.md R323). (DEDUCED, log entry 84) -/
def Lane.taSubmit (L : Lane) (m : Master) (r lineNs : Nat) : Lane :=
  let now := L.tb.ns
  let kind := bits r 80 8
  let past := bits r 88 8
  let due := (time80 (bits r 0 80)).getD 0
  if recordOk now r = false then L.taEnd m 0xFF 5
  else match L.ta.freeSlot 0 88 with
    | none => L.taEnd m 0xFF 4
    | some slot =>
      let late := decide (due < now + leadNs kind)
      let due1 := if late then now + leadNs kind else due
      if kind = 1 ∧ (L.ta.overlaps due1 ∨ L.inContract (L.uplAt due1)) then L.taEnd m 0xFF 6
      else if late ∧ past = 2 then
        let M : Lane := { L with ta := { L.ta with rejected := satInc L.ta.rejected } }
        (M.raise 0x50C2 0 0 (bits r 96 16)).taEnd m 0xFF 3
      else
        L.taQueue m slot
          { kind := kind, dueNs := due1, tag := BitVec.ofNat 16 (bits r 96 16), arg := bits r 112 8
            tsreq := bit r 120, lineNs := lineNs, late := late }

/-- TA_SUBMIT (R305, R306, R310, 11_dictionary_access.md R369). -/
def execTaSubmit (l : LaneId) (m : Master) (tid : Nat) (data : List Byte) (lineNs : Nat) (s : State) :
    Host.Outcome State Fault Refusal :=
  .next (s.on l fun L =>
    match L.writeErr m 0x2310 1 data true false with
    | some e => L.answer m tid 0x2310 1 e
    | none =>
      if L.ta.result.busy m then L.answer m tid 0x2310 1 eBusy
      else ((L.sbCount m 0x2310).taSubmit m (ofBytes data) lineNs).answer m tid 0x2310 1 0)

/-- Entries of a master with a tag, but for those whose DUE falls in this tick, are cancelled (R309). -/
def Ta.cancelTag (t : Ta) (m : Master) (tag : W16) (now : Nat) : Ta :=
  let hit := fun e : TaEntry => e.owner == some m && e.tag == tag && decide (now < e.dueNs)
  { t with
    entries := t.entries.filter fun e => !hit e
    result := (t.entries.filter hit).foldl (fun r e =>
      if r.busy m then r.finish m (taPayload e.slot 7) else r) t.result }

/-- TA_CANCEL (R309). -/
def execTaCancel (l : LaneId) (m : Master) (tid : Nat) (data : List Byte) (s : State) :
    Host.Outcome State Fault Refusal :=
  .next (s.on l fun L =>
    L.write m tid 0x2310 2 data true fun L =>
      { L with ta := L.ta.cancelTag m (BitVec.ofNat 16 (ofBytes data)) L.tb.ns })

/-- The most recent sample of a capture source: its time and its value; none for 0xFFFF (R308). -/
def Lane.capture (L : Lane) (src : Nat) : Nat × Rat :=
  if h : src % 256 < 8 then
    let b : Fin 8 := ⟨src % 256, h⟩
    match src / 256 with
    | 0 => (L.clk.hkNs + src * 62500, (L.clk.hk[src]?).getD 0)
    | 1 => ((L.fes.get b).phiNs, (L.fes.get b).shaft)
    | 2 => ((L.bridges.get b).startNs, (L.bridges.get b).iq)
    | 3 => (L.dc.vdcNs, L.dc.vdc)
    | _ => (L.tb.ns, 0)
  else if src < 64 then (L.clk.hkNs + src * 62500, (L.clk.hk[src]?).getD 0)
  else (L.tb.ns, 0)

/-- CAP_DATA written (R308): the offsets from DUE and the values of the eight sources. -/
def Lane.captureAll (L : Lane) (due : Nat) : Lane :=
  let one := fun k =>
    let (t, v) := L.capture (L.obj 0x2320 (k + 1))
    (toSigned 32 (ofSigned 32 ((t : Int) - (due : Int))), Config.real32 v)
  { L with ta := { L.ta with capTime := due, capData := (List.range 8).map one } }

/-- The pending setpoints of every bridge become the released ones, valid from tAPPLY (R127). -/
def Lane.releaseSetpoints (L : Lane) : Lane :=
  let valid := L.vote.startNs + L.tApply * 1000
  { L with bridges := L.bridges.map fun br =>
      match br.spPending with
      | some v => { br with spPrev := br.spReleased, spReleased := v, spPending := none, validFrom := valid
                            stale := false }
      | none => br }

/-- What a due entry does, and its outcome (R307, R308). -/
def Lane.taAct (L : Lane) (e : TaEntry) (full : Bool) : Lane × Nat :=
  let ran := if e.late then 2 else 1
  if e.kind = 0 then (L.releaseSetpoints, ran)
  else if e.kind = 2 then (L.captureAll e.dueNs, ran)
  else if full && L.upl.link then
    let M : Lane := { L with ta := { L.ta with launched := e.tag.toNat :: L.ta.launched } }
    (if e.tsreq then M.stamp .u e.tag.toNat e.late else M, ran)
  else (L.raise 0x50C4 0 0 e.tag.toNat, 9)

/-- A due entry runs and leaves the queue; one executed late is counted and recorded (R306, R310). (DEDUCED, log entry 84) -/
def Lane.taRun (L : Lane) (e : TaEntry) (full : Bool) : Lane :=
  let L := L.advance e.dueNs
  let L : Lane := { L with ta := { L.ta with entries := L.ta.entries.filter fun x => x.slot != e.slot } }
  let (M, outcome) := L.taAct e full
  let M := if outcome = 2 then
      ({ M with ta := { M.ta with late := satInc M.ta.late } } : Lane).raise 0x50C1 0 0 e.tag.toNat
    else M
  match e.owner with
  | some m =>
    if M.ta.result.busy m then
      { M with ta := { M.ta with result := M.ta.result.finish m (taPayload e.slot outcome) } }
    else M
  | none => M

/-- TIMED_ACTION_DUE (R127, R307, R308, R310). -/
def execTimedActionDue (l : LaneId) (slot : Nat) (full : Bool) (s : State) :
    Host.Outcome State Fault Refusal :=
  .next (s.on l fun L =>
    match L.ta.entries.find? fun e => e.slot == slot with
    | some e => L.taRun e full
    | none => L)

end Sys2Proof.Machine
end

