-- ==== Sys2Proof/Machine/Tsuvas.lean ====
section
/-! DEFINITION. The lane's Tsuvas network: slot arithmetic, stars and guardians, frames received and sent,
start-up, clock synchronisation, loss of a channel or of the network (chapter 08). -/

namespace Sys2Proof.Machine

/-! ### Slot arithmetic (R242, R253, R254) -/

/-- tLINE of a payload in ns (R242). -/
def tLine (p : Nat) : Nat := (max (p + 42) 64 + 20) * 8

/-- tACC in ns (Table 8.5). -/
def Lane.tAcc (L : Lane) : Nat := 30 + 16 * L.sched 0x4800 5

/-- tAP in ns (Table 8.5). -/
def Lane.tAp (L : Lane) : Nat := L.tAcc + 30

/-- tGUARD in ns (Table 8.5). -/
def Lane.tGuard (L : Lane) : Nat := 2 * L.tAcc + 60 + (L.sched 0x4800 6 + 7) / 8 * 8

/-- tSLOT of a channel in ns (Table 8.5). -/
def Lane.tSlot (L : Lane) (ch : Chan) : Nat :=
  tLine (L.plenMax ch) + L.tGuard

/-- tSVC of a channel in ns (Table 8.5). -/
def Lane.tSvc (L : Lane) (ch : Chan) : Nat :=
  tLine (L.svcPlen ch) + L.tGuard

/-- Network idle time of a channel in ns (R254). -/
def Lane.nit (L : Lane) (ch : Chan) : Int :=
  (L.cycleLen * 1000 : Nat) - ((L.nStatic ch * L.tSlot ch + L.nSvc ch * L.tSvc ch : Nat) : Int)

/-- tNIT of the lane in ns (R254). -/
def Lane.tNit (L : Lane) : Int := min (L.nit .X) (L.nit .Y)

/-- Start of a slot from its cycle's start, ns (R254). -/
def Lane.slotStart (L : Lane) (ch : Chan) (service : Bool) (k : Nat) : Nat :=
  if service then L.nStatic ch * L.tSlot ch + k * L.tSvc ch else k * L.tSlot ch

/-- Length of a slot, ns. -/
def Lane.slotLen (L : Lane) (ch : Chan) (service : Bool) : Nat :=
  if service then L.tSvc ch else L.tSlot ch

/-- Descriptor of a slot of either kind (R257). -/
def Lane.desc (L : Lane) (ch : Chan) (service : Bool) (k : Nat) : SlotDesc :=
  if service then L.svcSlot ch k else L.slot ch k

/-- The slot exists in the channel's segment (R254). -/
def Lane.slotIn (L : Lane) (ch : Chan) (service : Bool) (k : Nat) : Bool :=
  decide (k < if service then L.nSvc ch else L.nStatic ch)

/-- NODE_DELAY of a node on a channel, ns (Table 8.7). -/
def Lane.nodeDelay (L : Lane) (ch : Chan) (node : Nat) : Nat :=
  L.sched (match ch with
    | .X => 0x4816
    | .Y => 0x4817) (node + 1)

/-- The node's own time for a network time: the cluster counter while it runs on one (R290). -/
def Lane.nodeTime (L : Lane) (ns : Nat) : Int := (ns : Int) + L.tb.cluster.getD 0

/-- Network time of an instant of the node's time (R290). -/
def Lane.netTime (L : Lane) (t : Nat) : Nat := ((t : Int) - L.tb.cluster.getD 0).toNat

/-- Start of the running network cycle in the node's time (R240). -/
def Lane.cycleStart (L : Lane) : Nat := L.net.cycleNow * (L.cycleLen * 1000)

/-- Action point of a slot in the node's time (R254, R255). -/
def Lane.actionPoint (L : Lane) (ch : Chan) (service : Bool) (k : Nat) : Nat :=
  L.cycleStart + L.slotStart ch service k + L.tAp

/-- tREADY of a slot as network time: 5 microseconds before its start (R255). -/
def Lane.tReady (L : Lane) (ch : Chan) (service : Bool) (k : Nat) : Nat :=
  L.netTime (L.cycleStart + L.slotStart ch service k - 5000)

/-- The instant at which a frame that the owner of a slot sends at its action point reaches this lane's star, in the
node's time (R250). -/
def Lane.atStar (L : Lane) (ch : Chan) (service : Bool) (k : Nat) : Nat :=
  L.actionPoint ch service k + L.nodeDelay ch (L.desc ch service k).owner

/-- tEXP of a slot in the node's time (R246). -/
def Lane.tExp (L : Lane) (ch : Chan) (service : Bool) (k : Nat) : Int :=
  (L.atStar ch service k + 320 : Nat)

/-- One channel. -/
def Node.ch (n : Node) : Chan → Channel
  | .X => n.x | .Y => n.y

/-- The node with one channel replaced. -/
def Node.setCh (n : Node) (ch : Chan) (c : Channel) : Node :=
  match ch with
  | .X => { n with x := c } | .Y => { n with y := c }

/-- The lane with one channel replaced by what a function makes of it. -/
def Lane.onCh (L : Lane) (ch : Chan) (f : Channel → Channel) : Lane :=
  { L with net := L.net.setCh ch (f (L.net.ch ch)) }

/-- Number of a channel in a UNIT. -/
def chanNum : Chan → Nat
  | .X => 0 | .Y => 1

/-- A list with the element at an index replaced. -/
def setAt {α : Type} (l : List α) (i : Nat) (v : α) : List α :=
  match l, i with
  | [], _ => []
  | _ :: t, 0 => v :: t
  | x :: t, i + 1 => x :: setAt t i v

/-- Code of a Tsuvas fault (R278). -/
def tsCode (unit kind : Nat) : Nat := 0x4000 + unit * 0x40 + kind

/-! ### Node states and guardians (R251, R259) -/

/-- The node enters a state; its guardians are in NORMAL mode in ACTIVE and during a holdover, never in MUTE (R251).
A node that mutes at a cycle's end observes the whole of the next one (R265). (DEDUCED, log entry 104) -/
def Lane.setNode (L : Lane) (st : NState) : Lane :=
  { L with net := { L.net with
      state := st
      guardOpen := st == .mute || !(st == .active || L.net.holdover)
      csCycles := 0, csConfirm := 0, csSeen := false
      obsBad := false, obsCycle := if st = .mute then 1 else 0, csNodes := 0, lowSync := 0
      leader := L.net.leader && (st == .coldstart || st == .active)
      peerOk := L.net.peerOk && st == .coldstart
      mayLead := L.net.mayLead && st == .listen } }

/-- The node returns to LISTEN. -/
def Lane.listen (L : Lane) : Lane := L.setNode .listen

/-- The node enters ACTIVE: network time slews to the cluster counter (R290). -/
def Lane.activate (L : Lane) : Lane :=
  let M := L.setNode .active
  let tb := match M.tb.cluster with
    | some o => { M.tb.slew (o : Rat) 0 with cluster := none }
    | none => M.tb
  { M with tb := tb, net := { M.net with timeMism := false } }

/-- Slots of the schedule that a port owns (R251). -/
def Lane.portSlots (L : Lane) (ch : Chan) (port : Nat) : Nat :=
  ((List.range (L.nStatic ch)).filter fun k => (L.slot ch k).port == port).length +
  ((List.range (L.nSvc ch)).filter fun k => (L.svcSlot ch k).port == port).length

/-- The slot that runs at an offset of the cycle, static or service; none in the idle time (R254). -/
def Lane.slotAt (L : Lane) (ch : Chan) (ofs : Nat) : Option (Bool × Nat) :=
  let st := L.nStatic ch * L.tSlot ch
  if ofs < st then some (false, ofs / L.tSlot ch)
  else if (ofs - st) / L.tSvc ch < L.nSvc ch then some (true, (ofs - st) / L.tSvc ch)
  else none

/-- The slot of the running cycle at an instant of network time. -/
def Lane.slotNow (L : Lane) (ch : Chan) (ns : Nat) : Option (Bool × Nat) :=
  let t := L.nodeTime ns - (L.cycleStart : Int)
  if t < 0 then none else L.slotAt ch t.toNat

/-- Whether the guardian in NORMAL mode admits a start, and the network time at which the star ends the frame (R250):
the port of the current slot's descriptor, in a cycle the slot is used in, within its window; the frame ends at most
tLINE(PLEN) - 96 ns after the window closes. -/
def Lane.guardAdmits (L : Lane) (ch : Chan) (port ns : Nat) : Option Nat :=
  match L.slotNow ch ns with
  | none => none
  | some (sv, k) =>
    let d := L.desc ch sv k
    let mid := L.atStar ch sv k
    if d.port == port && port != 7 && d.used L.net.cycleNow && decide ((L.nodeTime ns - (mid : Int)).natAbs ≤ L.tAcc)
    then some (L.netTime (mid + L.tAcc + tLine d.len - 96))
    else none

/-- A blocked start (R248). -/
def Channel.block (c : Channel) (port : Nat) : Channel :=
  { c with
    blocks := setAt c.blocks port (satInc ((c.blocks[port]?).getD 0))
    blockedNow := setAt c.blockedNow port true }

/-- Rank of a port among starts of one capture quantum: the internal port, the branches, the cascade port (R249). -/
def portRank (port : Nat) : Nat := if port = 6 then 0 else port + 1

/-- A port takes part in the star: the internal port, or an external one whose link is up and under no test (R241,
17_diagnostics_and_kiln_log.md R500); none while the logic die's cut holds the stars in reset
(16_clocks_and_heat.md R468). -/
def Lane.portServes (L : Lane) (ch : Chan) (port : Nat) : Bool :=
  !L.therm.cutL && (port == 6 || (((L.net.ch ch).linkUp[port]?).getD false && !L.lptOn (chanNum ch * 8 + port)))

/-- The star repeats an admitted frame, 320 ns after its arrival, to every port that serves, the arrival port included,
and ends it at a limit (R248, R250, R251). -/
def Lane.repeatFrame (L : Lane) (ch : Chan) (port : Nat) (f : StarStart) (limit : Nat) : Lane :=
  let out := (List.range 7).map fun k => L.portServes ch k
  L.onCh ch fun c => { c with
    busyNs := f.ns, busyUntil := f.ns + f.len, busyPort := port, outPorts := out, outNs := f.ns + 320
    limitNs := limit, cut := false }

/-- The guardian's answer to a start (R250, R251): the instant at which the star ends the frame, none for a block. In
OPEN mode a port may start as many frames in a cycle as it owns slots, and one. -/
def Lane.admits (L : Lane) (ch : Chan) (port : Nat) (f : StarStart) : Option Nat :=
  if L.net.guardOpen then
    if ((L.net.ch ch).openStarts[port]?).getD 0 ≤ L.portSlots ch port then some (f.ns + tLine (L.plenMax ch) - 96)
    else none
  else L.guardAdmits ch port f.ns

/-- STAR_FRAME_ARRIVAL (R248-R252); a port whose link is down or under test takes none. While the star repeats a frame it
blocks every other start, but one of higher rank in the same 8 ns capture quantum, which takes the star and blocks the
frame it found there. (DEDUCED, log entry 78; DEDUCED, log entry 134) -/
def execStarFrameArrival (l : LaneId) (ch : Chan) (port : Nat) (f : StarStart) (s : State) :
    Host.Outcome State Fault Refusal :=
  .next (s.on l fun L =>
    if L.alive = false ∨ 7 ≤ port ∨ L.portServes ch port = false then L
    else
      let c := L.net.ch ch
      let tie := decide (f.ns < c.busyUntil) && f.ns / 8 == c.busyNs / 8 && decide (portRank port < portRank c.busyPort)
      let adm := L.admits ch port f
      let L := if L.net.guardOpen then
          L.onCh ch fun c => { c with openStarts := setAt c.openStarts port (((c.openStarts[port]?).getD 0) + 1) }
        else L
      match adm with
      | none => L.onCh ch fun c => c.block port
      | some limit =>
        if tie then (L.onCh ch fun x => x.block c.busyPort).repeatFrame ch port f limit
        else if f.ns < c.busyUntil then L.onCh ch fun c => c.block port
        else L.repeatFrame ch port f limit)

/-- GUARDIAN_TRUNCATE (R250, R251): a frame that still runs at its limit ends there, marked for every receiver to
discard. -/
def execGuardianTruncate (l : LaneId) (ch : Chan) (s : State) : Host.Outcome State Fault Refusal :=
  .next (s.on l fun L =>
    let c := L.net.ch ch
    if L.alive && decide (c.limitNs < c.busyUntil) then
      L.onCh ch fun c => { c with busyUntil := c.limitNs, cut := true }
    else L)

/-- GUARDIAN_HOLDOVER_END (R251): 100 ms after the network engine restarted. -/
def execGuardianHoldoverEnd (l : LaneId) (s : State) : Host.Outcome State Fault Refusal :=
  .next (s.on l fun L =>
    if L.net.holdover then
      { L with net := { L.net with holdover := false, guardOpen := !(L.net.state == .active) } }
    else L)

/-- PORT_LINK_CHANGE (R241, Table 8.13): a lost link on a port that owns a slot is fault 0x09; it ends a test
on the port (17_diagnostics_and_kiln_log.md R501). -/
def execPortLinkChange (l : LaneId) (ch : Chan) (port : Nat) (up : Bool) (s : State) :
    Host.Outcome State Fault Refusal :=
  .next (s.on l fun L =>
    if L.alive && !L.therm.cutL && decide (port < 6) then
      let was := ((L.net.ch ch).linkUp[port]?).getD false
      let M := L.onCh ch fun c => { c with linkUp := setAt c.linkUp port up }
      let M := if up then M else M.lptDown (chanNum ch * 8 + port)
      if was && !up && decide (0 < L.portSlots ch port) then
        M.raise (tsCode (chanNum ch * 8 + port) 9) 0
      else M
    else L)

/-- PORT_BLOCKED_PERSIST (Table 8.13). -/
def execPortBlockedPersist (l : LaneId) (ch : Chan) (port : Nat) (s : State) :
    Host.Outcome State Fault Refusal :=
  .next (s.on l fun L =>
    if 8 ≤ ((L.net.ch ch).blockedRun[port]?).getD 0 then
      L.raise (tsCode (chanNum ch * 8 + port) 7) 0
    else L)

/-! ### Frames received (R243-R246, R263-R265, R269, R293) -/

/-- NODE_ROLE: sync node, cold-start node, follow-only (Table 8.7). -/
def Lane.nodeRole (L : Lane) (k : Nat) : Bool := bit (L.sched 0x4800 0x0F) k

/-- The frame is one that the star ended at its limit, so the receiver discards it (R250). -/
def Lane.wasCut (L : Lane) (ch : Chan) (f : FrameIn) : Bool :=
  let c := L.net.ch ch
  c.cut && decide (((f.arrNs : Int) - (c.outNs : Int)).natAbs ≤ 16)

/-- Checks 1-3 and 5 of R246: what every state asks of a frame, the tag apart. -/
def Lane.frameForm (L : Lane) (ch : Chan) (f : FrameIn) : Bool :=
  let sv := f.kind == 1
  let d := L.desc ch sv f.slot
  f.fcsOk && !L.wasCut ch f && f.ether == L.sched 0x4800 1 && f.ver == 1 && decide (f.kind ≤ 1) &&
  f.schedId == L.sched 0x4800 0x10 && f.chY == (ch == .Y) && L.slotIn ch sv f.slot &&
  d.port != 7 && f.cluster == L.sched 0x4800 2 && f.node == d.owner && f.sync == d.sync &&
  f.cstart == d.cstart && f.plen == d.len

/-- The tag verifies under a written, unrevoked frame key, for the number of the receiver's network cycle (R245,
14_security.md R426). -/
def Lane.frameTag (L : Lane) (f : FrameIn) (c : Nat) : Bool :=
  decide (f.keyId < 8) && L.sec.serving.getLsbD f.keyId &&
  tag8 (L.sec.key f.keyId) (tagInput c f.hdr f.payload) == f.tag

/-- The deviation of a frame from its slot's tEXP in the node's time (R269). -/
def Lane.deviation (L : Lane) (ch : Chan) (f : FrameIn) : Int :=
  L.nodeTime f.arrNs - L.tExp ch (f.kind == 1) f.slot

/-- CYC_TIME of a sync block in ns (Table 8.4). -/
def cycTime (p : List Byte) : Option Nat := time80 (ofBytes (p.take 10))

/-- TSTAT of a sync block (Table 8.4). -/
def tstat (p : List Byte) : Nat := ((p[10]?).map BitVec.toNat).getD 0

/-- EXT_CORR of a sync block (Table 8.4). -/
def extCorr (p : List Byte) : Int := toSigned 16 (ofBytes ((p.drop 12).take 2))

/-- The sync node's value of the cycle: its channel X deviation where that frame is valid (R269). -/
def addDev (l : List SyncVal) (v : SyncVal) : List SyncVal :=
  match l.find? fun x => x.node == v.node with
  | none => l ++ [v]
  | some o => if v.onX && !o.onX then l.map fun x => if x.node == v.node then v else x else l

/-- A sync frame passes: its deviation, and the designated external correction of the lowest-numbered sync
node with EXTSRC set (R269, R273). -/
def Lane.takeDev (L : Lane) (ch : Chan) (f : FrameIn) : Lane :=
  let v : SyncVal := { node := f.node, dev := L.deviation ch f, onX := ch == .X }
  let ext := if bit (tstat f.payload) 2 then
      (match L.net.extDes with
       | some (n, e) => if f.node < n then some (f.node, extCorr f.payload) else some (n, e)
       | none => some (f.node, extCorr f.payload))
    else L.net.extDes
  { L with net := { L.net with devNow := addDev L.net.devNow v, extDes := ext } }

/-- The frame is stored where its slot's descriptor has RX; of a fill frame only the sync block counts
(R255-R257). -/
def Lane.storeFrame (L : Lane) (ch : Chan) (f : FrameIn) : Lane :=
  let sv := f.kind == 1
  let d := L.desc ch sv f.slot
  if sv || !d.rx || (d.sync && bit (tstat f.payload) 3) then L
  else
    let stop : Int := (L.cycleStart + L.slotStart ch sv f.slot + L.slotLen ch sv : Nat) - L.tb.cluster.getD 0
    let r : RxFrame :=
      { ch := ch, slot := f.slot, payload := f.payload, fresh := true, arrNs := f.arrNs, endNs := stop.toNat }
    { L with net := { L.net with rxFrames :=
        r :: L.net.rxFrames.filter fun x =>
          !(x.ch == ch && x.slot == f.slot) || (x.fresh && L.vote.running) } }

/-- A static slot's frame passes: the slot counts as valid (R279). -/
def Channel.pass (c : Channel) (f : FrameIn) : Channel :=
  { c with passed := if f.kind = 0 then f.slot :: c.passed else c.passed }

/-- A frame of another node that passes R246 in ACTIVE or MUTE. -/
def Lane.acceptFrame (L : Lane) (ch : Chan) (f : FrameIn) (unc : Nat) : Lane :=
  let M := L.onCh ch fun c => { c.pass f with gotFrame := true }
  let M := if f.sync then M.takeDev ch f else M
  let M := if f.sync && L.net.state == .active && bit (tstat f.payload) 0 then
      M.validate (decide (2 ≤ M.net.devNow.length)) unc
    else M
  M.storeFrame ch f

/-- A frame whose tag fails counts in AUTH_FAIL, fault 0x9081 with channel and slot (R246, R426). -/
def Lane.badTag (L : Lane) (ch : Chan) (f : FrameIn) : Lane :=
  ({ L with net := { L.net with authFail := satInc L.net.authFail } } : Lane).raise 0x9081 0
    (chanNum ch * 256 + f.slot % 256)

/-- Checks 4 and 6 of R246 with a window (R265 widens it). -/
def Lane.inWindow (L : Lane) (ch : Chan) (f : FrameIn) (w : Nat) : Bool :=
  (L.desc ch (f.kind == 1) f.slot).used L.net.cycleNow && decide ((L.deviation ch f).natAbs ≤ w) &&
  f.cycle == BitVec.ofNat 32 L.net.cycleNow

/-- The widened window of an observed cycle: tACC + 2 × RCORR_MAX × tCYCLE (R265). -/
def Lane.wideAcc (L : Lane) : Nat := L.tAcc + 2 * L.sched 0x4800 0x12 * L.cycleLen / 1000

/-- What a frame tells a node that observes a whole cycle in INTEGRATE or MUTE (R265): cold-start nodes count by their
valid sync frames. A frame that fails its tag alone counts in AUTH_FAIL (R246). -/
def Lane.observeFrame (L : Lane) (ch : Chan) (f : FrameIn) : Lane :=
  let wrongId := f.fcsOk && f.schedId != L.sched 0x4800 0x10
  let fits := L.frameForm ch f && L.inWindow ch f L.wideAcc
  let tagged := L.frameTag f L.net.cycleNow
  let good := fits && tagged
  let timeOk := match cycTime f.payload with
    | some t => decide (((t : Int) - (L.cycleStart : Int)).natAbs ≤ L.tAcc)
    | none => false
  let bad := wrongId || (f.sync && !(good && timeOk))
  let L := if fits && !tagged then L.badTag ch f else L
  let M : Lane := { L with net := { L.net with
    obsBad := L.net.obsBad || bad
    csNodes := if good && f.sync && f.cstart then L.net.csNodes + 1 else L.net.csNodes } }
  let M := if good then M.onCh ch fun c => c.pass f else M
  if good && f.sync then M.takeDev ch f else M

/-- Number of the cycle that a sync frame names: by its CYC_TIME, with its CYCLE as the low word (R240, R264). -/
def Lane.namedCycle (L : Lane) (f : FrameIn) : Nat :=
  (cycTime f.payload).getD 0 / (L.cycleLen * 1000) / 4294967296 * 4294967296 + f.cycle.toNat

/-- The first frame of an integration (R264): the node's time is set so that the arrival equals the instant
the frame names; it goes into network time while that is INVALID or the lane is OUT (R289), else into the
cluster counter (R290). -/
def Lane.firstFrame (L : Lane) (ch : Chan) (f : FrameIn) (unc : Nat) : Lane :=
  match cycTime f.payload with
  | none => L
  | some ct =>
    let arr : Nat := ct + L.slotStart ch false f.slot + L.tAp + L.nodeDelay ch f.node + 320
    let shift : Int := (arr : Int) - (f.arrNs : Int)
    let M := if L.tb.state = .invalid ∨ L.vote.role = .out then
        let N := L.setTime ((L.tb.ns : Int) + shift).toNat
        let N : Lane := { N with tb := { N.tb with cluster := none } }
        if bit (tstat f.payload) 0 then N.validate false unc else N
      else { L with tb := { L.tb with cluster := some shift } }
    let c := L.namedCycle f
    let M : Lane := { M with
      net := { M.net with cycleNow := c, rcorr := 0, devNow := [], devEven := [], extDes := none }
      tb := { M.tb with rateInc := 0 } }
    M.setNode .integrate

/-- A cold start given up: fault 0x4005, LISTEN with a backoff (R261, R263). -/
def Lane.abandonCold (L : Lane) : Lane :=
  let M := L.listen
  ({ M with net := { M.net with backoff := true, leader := false } } : Lane).raise (tsCode 0 5) 0

/-- A frame in COLDSTART (R263): one of another cold-start node that is accepted within its window confirms; an
accepted cold-start frame that starts outside it shows a second timeline and ends the attempt. -/
def Lane.coldFrame (L : Lane) (ch : Chan) (f : FrameIn) : Lane :=
  let near := decide ((L.deviation ch f).natAbs ≤ L.tAcc)
  if L.frameForm ch f = false then L
  else if near then
    if L.inWindow ch f L.tAcc = false then L
    else if L.frameTag f L.net.cycleNow then
      let M := L.onCh ch fun c => c.pass f
      { M with net := { M.net with csSeen := M.net.csSeen || f.cstart } }
    else L.badTag ch f
  else if f.cstart && L.frameTag f (L.namedCycle f) then L.abandonCold
  else L

/-- The start of a frame reaches the receiver: the static slot of that instant is not empty (R279). -/
def Lane.frameStarts (L : Lane) (ch : Chan) (f : FrameIn) : Lane :=
  match L.slotNow ch f.arrNs with
  | some (false, k) => L.onCh ch fun c => { c with started := k :: c.started }
  | _ => L

/-- A frame at the receiver, by the node's state (R246). In LISTEN the node has no cycle of its own, so the tag is
computed for the cycle that the sync frame names (R264). (DEDUCED, log entry 133) -/
def Lane.rxFrame (L : Lane) (ch : Chan) (f : FrameIn) (unc : Nat) : Lane :=
  if f.cluster = L.sched 0x4800 2 ∧ f.node = L.sched 0x4800 3 then L
  else
    let L := L.frameStarts ch f
    match L.net.state with
    | .halt => L
    | .listen =>
      if L.net.barred then L
      else if f.sync && L.frameForm ch f then
        if L.frameTag f (L.namedCycle f) then L.firstFrame ch f unc else L.badTag ch f
      else L
    | .coldstart => L.coldFrame ch f
    | .integrate => L.observeFrame ch f
    | .mute =>
      let L := L.observeFrame ch f
      if L.frameForm ch f && L.inWindow ch f L.tAcc && L.frameTag f L.net.cycleNow then L.acceptFrame ch f unc else L
    | .active =>
      if L.frameForm ch f && L.inWindow ch f L.tAcc then
        if L.frameTag f L.net.cycleNow then L.acceptFrame ch f unc else L.badTag ch f
      else L

/-- TSUVAS_FRAME_RECEIVED (R243-R246, R256, R263-R265, R269, R273, R293). -/
def execTsuvasFrameReceived (l : LaneId) (ch : Chan) (f : FrameIn) (s : State) :
    Host.Outcome State Fault Refusal :=
  if (s.lane l).alive then
    let unc := (roundR (Config.free 292 s.freeCtr)).toNat
    let t := s.on l fun L => L.rxFrame ch f unc
    .next { t with freeCtr := s.freeCtr + 1 }
  else .next s

/-! ### Frames sent and slots counted (R255, R279, R302) -/

/-- Own slots named in TS_REQ (R302). -/
def Lane.tsReq (L : Lane) (ch : Chan) (slot : Nat) : Bool :=
  let idx := match ch with
    | .X => 0x2330
    | .Y => 0x2331
  [5, 6, 7, 8].any fun k => L.obj idx k == slot

/-- A transmit buffer. -/
def Lane.txBuf (L : Lane) (buf : Nat) : TxBuf :=
  (L.net.txBufs.find? fun b => b.buf == buf).getD { buf := buf }

/-- An own slot left empty, or filled, for want of data (R255, R280). -/
def Lane.txMissed (L : Lane) (ch : Chan) (slot : Nat) : Lane :=
  let k := L.kiln
  ({ L with
    net := { L.net with txEmpty := satInc L.net.txEmpty }
    kiln := match ch with
      | .X => { k with txX := k.txX + 1 }
      | .Y => { k with txY := k.txY + 1 } } : Lane).raise (tsCode (chanNum ch) 8) 0 slot

/-- The lane sends EXTSRC (R274). -/
def Lane.sendsExt (L : Lane) : Bool := L.net.extSrc && L.vote.role != .out

/-- The header of a frame that the lane sends (Table 8.3). -/
def Lane.txHeader (L : Lane) (ch : Chan) (service : Bool) (slot : Nat) : List Byte :=
  let d := L.desc ch service slot
  toBytes 16 (1 + 16 * b2n service + 2 ^ 8 * b2n d.sync + 2 ^ 9 * b2n d.cstart + 2 ^ 10 * chanNum ch +
    2 ^ 12 * (L.sched 0x4800 0x16 % 16) + 2 ^ 16 * (L.sched 0x4800 3 % 32) + 2 ^ 21 * (L.sched 0x4800 2 % 512) +
    2 ^ 32 * (slot % 256) + 2 ^ 40 * ((d.len / 8 - 1) % 128) + 2 ^ 48 * (L.sched 0x4800 0x10 % 4096) +
    2 ^ 64 * (L.net.cycleNow % 2 ^ 32))

/-- The sync block that the network engine writes at the launch of a sync frame (Table 8.4, R255, R274, R292). -/
def Lane.syncBlock (L : Lane) (fill : Bool) : List Byte :=
  let ext := L.sendsExt
  toBytes 10 (mkTime80 L.cycleStart) ++
    toBytes 2 (b2n (L.tb.state != .invalid) + 2 * b2n (L.tb.state == .holdover) + 4 * b2n ext + 8 * b2n fill) ++
    toBytes 4 (ofSigned 16 (if ext then L.net.extReq else 0))

/-- The lane's own sync frame takes part in the choice of the external correction (R273). (DEDUCED, log entry 104) -/
def Lane.ownExt (L : Lane) : Lane :=
  let n := L.sched 0x4800 3
  let first := match L.net.extDes with
    | some (k, _) => decide (n < k)
    | none => true
  if L.sendsExt && first then { L with net := { L.net with extDes := some (n, L.net.extReq) } } else L

/-- Data byte k of a committed payload (R281, 10_uplink_contracts_and_telemetry.md R337): a DIR 2 region's, else of the
agreed outputs and the status, whose layout is open. -/
def TxBuf.byte (b : TxBuf) (k : Nat) : Byte :=
  match b.regions.find? fun r => decide (r.1 ≤ k) && decide (k < r.1 + r.2.length) with
  | some r => (r.2[k - r.1]?).getD 0
  | none => Config.txByte ((b.out.map fun o => o.demand.list).getD []) b.status k

/-- Responses that fit a number of payload bytes, in order, those formed by an instant (11_dictionary_access.md R355,
R359). -/
def fitting (room at_ : Nat) : List Resp → List Resp
  | [] => []
  | r :: t =>
    if r.atNs ≤ at_ ∧ r.message.length ≤ room then r :: fitting (room - r.message.length) at_ t else []

/-- The responses that an own service slot carries: those formed by its tREADY that fit its payload. -/
def Lane.slotResponses (L : Lane) (ch : Chan) (slot : Nat) : List Resp :=
  fitting (L.svcSlot ch slot).len (L.tReady ch true slot) L.dict.hostOut

/-- Payload of a frame that the lane sends (R244, R255, 11_dictionary_access.md R355). -/
def Lane.txPayload (L : Lane) (ch : Chan) (service : Bool) (slot : Nat) (fill : Bool) : List Byte :=
  let d := L.desc ch service slot
  let b := L.txBuf d.buf
  let lead := if service then ((L.slotResponses ch slot).map Resp.message).flatten
    else if d.sync then L.syncBlock fill else []
  let rest := if service || fill then List.replicate (d.len - lead.length) 0
    else ((List.range d.len).drop lead.length).map b.byte
  lead ++ rest

/-- The frame that the lane sends in an own slot (R242, R245, 14_security.md R426). -/
def Lane.txBytes (L : Lane) (ch : Chan) (service : Bool) (slot : Nat) (fill : Bool) : List Byte :=
  let hdr := ofBytes (L.txHeader ch service slot)
  let p := L.txPayload ch service slot fill
  let tag := tag8 (L.sec.key (L.sched 0x4800 0x16)) (tagInput L.net.cycleNow hdr p)
  frameBytes (L.sched 0x4800 2) (Config.macAddr L.id).toNat (L.sched 0x4800 1) hdr p tag

/-- A frame leaves in an own slot at its action point, with its transmit stamp where TS_REQ names the slot; launch clears
READY, and responses sent leave their queue. -/
def Lane.sendFrame (L : Lane) (ch : Chan) (service : Bool) (slot : Nat) (fill : Bool) : Lane :=
  let L := L.advance (L.netTime (L.actionPoint ch service slot))
  let d := L.desc ch service slot
  let b := L.txBuf d.buf
  let L := if d.sync then L.ownExt else L
  let tx : TxSent :=
    { ch := ch, slot := slot, service := service, fill := fill, cycle := L.net.cycleNow
      out := if fill || service then none else b.out, status := if fill || service then 0 else b.status
      regions := if fill || service then [] else b.regions
      header := L.txHeader ch service slot
      sync := if d.sync then L.syncBlock fill else []
      atNs := L.tb.ns
      bytes := L.txBytes ch service slot fill }
  let M : Lane := { L with
    net := { L.net with
      lastTx := some tx
      txBufs := if fill || service then L.net.txBufs else
        L.net.txBufs.map fun x => if x.buf == b.buf then { x with ready := false } else x }
    dict := { L.dict with
      hostOut := if service then L.dict.hostOut.drop (L.slotResponses ch slot).length else L.dict.hostOut } }
  if !service && L.tsReq ch slot then
    M.stamp (match ch with
      | .X => .x
      | .Y => .y) (slot + 256 * (L.net.cycleNow % 256)) false
  else M

/-- The buffer of an own static slot was READY at the slot's tREADY (R255). -/
def Lane.slotReady (L : Lane) (ch : Chan) (slot : Nat) : Bool :=
  let b := L.txBuf (L.slot ch slot).buf
  b.ready && decide (b.readyNs ≤ L.tReady ch false slot)

/-- What the lane does at the action point of an own static slot in ACTIVE (R255): a committed frame, a fill frame, or an
empty slot. -/
def Lane.launchStatic (L : Lane) (ch : Chan) (slot : Nat) : Lane :=
  let d := L.slot ch slot
  let ready := L.slotReady ch slot
  let first := L.net.cycleNow % (max 1 (L.obj 0x2600 1)) == 0
  if d.sync || d.cstart then
    if first && ready then L.sendFrame ch false slot false
    else
      let M := L.sendFrame ch false slot true
      if first then M.txMissed ch slot else M
  else if ready then L.sendFrame ch false slot false
  else L.txMissed ch slot

/-- SLOT_LAUNCH (R255, R260, R262, R302): the action point of an own slot. A service slot carries the responses that were
formed by its tREADY (11_dictionary_access.md R359). While an entry is in its phases the node sends nothing
(15_power_states_and_startup.md Table 15.3). -/
def execSlotLaunch (l : LaneId) (ch : Chan) (slot : Nat) (service : Bool) (s : State) :
    Host.Outcome State Fault Refusal :=
  .next (s.on l fun L =>
    let d := L.desc ch service slot
    let own := d.port == 6 && L.slotIn ch service slot && d.used L.net.cycleNow
    if L.alive && own then
      match L.net.state with
      | .coldstart =>
        if ch = .X ∧ d.cstart ∧ L.net.csFrom ≤ L.net.cycleNow then L.sendFrame ch service slot true else L
      | .active =>
        if service then
          if (L.slotResponses ch slot).isEmpty then L else L.sendFrame ch true slot false
        else L.launchStatic ch slot
      | _ => L
    else L)

/-- One count of a slot raised (R279). -/
def bumpSlot (l : List (Nat × SlotCount)) (slot : Nat) (f : SlotCount → SlotCount) :
    List (Nat × SlotCount) :=
  match l with
  | [] => [(slot, f {})]
  | (k, c) :: t =>
    if slot < k then (slot, f {}) :: (k, c) :: t
    else if slot = k then (k, f c) :: t
    else (k, c) :: bumpSlot t slot f

/-- SLOT_END (R279): valid, invalid or empty; the lane's own slots count elsewhere. (DEDUCED, log entry 78) -/
def execSlotEnd (l : LaneId) (ch : Chan) (slot : Nat) (s : State) : Host.Outcome State Fault Refusal :=
  .next (s.on l fun L =>
    let d := L.slot ch slot
    let counts := L.alive && L.slotIn ch false slot && d.port != 7 && d.port != 6 && d.used L.net.cycleNow
    let c := L.net.ch ch
    let miss := fun k : SlotCount =>
      if c.started.contains slot then { k with invalid := satInc k.invalid }
      else { k with empty := satInc k.empty }
    if counts && !c.passed.contains slot then
      L.onCh ch fun x => { x with slots := bumpSlot x.slots slot miss }
    else L)

/-! ### Clock synchronisation (R266, R269-R273) -/

/-- The fault-tolerant midpoint (R270). -/
def ftm (v : List Rat) : Option Rat :=
  let n := v.length
  if n < 2 then none
  else
    let k := if n ≤ 2 then 0 else if n ≤ 7 then 1 else 2
    let t := ((sortR v).drop k).take (n - 2 * k)
    match t.head?, t.getLast? with
    | some a, some b => some ((a + b) / 2)
    | _, _ => none

/-- Deviations of a cycle, the lane's own 0 among them where it is a sync node (R269). -/
def Lane.devs (L : Lane) (l : List SyncVal) : List SyncVal :=
  if L.nodeRole 0 then { node := L.sched 0x4800 3, dev := 0, onX := true } :: l else l

/-- Ticks of the network clock in a cycle, at the present increment (R287). -/
def Lane.cycleTicks (L : Lane) : Rat :=
  (L.cycleLen * 1000 : Nat) * 4294967296 / (L.tb.inc : Rat)

/-- The midpoints of R270 at the end of a cycle: of the deviations, and of their changes since the cycle before. -/
def Lane.midpoints (L : Lane) : Option (Rat × Rat) :=
  let now := L.devs L.net.devNow
  let old := L.devs L.net.devEven
  let rates := now.filterMap fun v =>
    (old.find? fun o => o.node == v.node).map fun o => ((v.dev - o.dev : Int) : Rat)
  match ftm (now.map fun v => (v.dev : Rat)), ftm rates with
  | some o, some r => some (o, r)
  | _, _ => none

/-- The corrections pass their limits (R270). -/
def Lane.beyond (L : Lane) : Bool :=
  match L.midpoints with
  | some (o, r) =>
    let rmax : Rat := (L.sched 0x4800 0x12 : Rat) * (L.cycleLen : Rat) / 1000
    decide ((L.sched 0x4800 0x11 : Rat) < absR o) || decide (rmax < absR (L.net.rcorr - r))
  | none => false

/-- The corrections at the end of a cycle (R270): none, a mute, or rate and offset with the external
correction, slewed over the first half of the idle time (R271, R288). (DEDUCED, log entry 77) -/
def Lane.correct (L : Lane) : Lane :=
  let extMax : Rat := (L.sched 0x4800 0x13 : Rat)
  let ext := match L.net.extDes with
    | some (_, e) => clampR' (e : Rat) extMax
    | none => 0
  match L.midpoints with
  | some (o, r) =>
    let rate := L.net.rcorr - r
    if L.beyond then
      let M : Lane := { L with net := { L.net with mutes := satInc L.net.mutes, extApplied := false } }
      (M.setNode .mute).raise (tsCode 63 3) 0
    else
      let n := (L.tNit / 4).toNat
      { L with
        net := { L.net with
          rcorr := rate, ocorrLast := -o, extLast := roundR ext, extApplied := L.net.extDes.isSome }
        tb := { L.tb.slew (ext - o) n with rateInc := roundR (rate * 4294967296 / L.cycleTicks) } }
  | none => { L with net := { L.net with extApplied := false } }
where
  /-- A number held within plus or minus a bound. -/
  clampR' (x bound : Rat) : Rat := max (-bound) (min bound x)

/-- A node at the end of a cycle it observed (R265): valid, it corrects and enters ACTIVE; with an ACTIVE
peer in contact it waits for the comparison of R268. -/
def Lane.observedEnd (L : Lane) (peerActive : Bool) : Lane :=
  if L.net.obsCycle = 0 then
    { L with net := { L.net with obsCycle := 1, obsBad := false } }
  else
    let n := L.net.devNow.length
    let good := !L.net.obsBad && (decide (2 ≤ n) || (L.nodeRole 1 && decide (1 ≤ L.net.csNodes)))
    if good = false then L.listen
    else if peerActive && !L.net.peerOk then L
    else if L.beyond then L.correct
    else L.correct.activate

/-- Channel runs at the end of a cycle (R276, Table 8.13). -/
def Channel.cycleEnd (c : Channel) (active : Bool) : Channel :=
  { c with
    lostRun := if active && !c.gotFrame then c.lostRun + 1 else 0
    okRun := if c.gotFrame then c.okRun + 1 else 0
    gotFrame := false, started := [], passed := []
    blockedRun := List.zipWith (fun (b : Bool) n => if b then n + 1 else 0) c.blockedNow c.blockedRun
    blockedNow := c.blockedNow.map fun _ => false
    openStarts := c.openStarts.map fun _ => 0 }

/-- The network cycle ends (R240, R265, R266, R269-R271, R276, R292). The corrections of an odd cycle are computed as
its idle time begins, so that their slew runs within it (R271). -/
def Lane.cycleEnd (L : Lane) (peerActive : Bool) : Lane :=
  let next := (L.net.cycleNow + 1) * (L.cycleLen * 1000)
  let L := L.advance (L.netTime (next - L.tNit.toNat))
  let active := L.net.state == .active
  let count := (L.devs L.net.devNow).length
  let L : Lane := { L with net := { L.net with
    syncCount := count
    lowSync := if active && decide (count < 2) then L.net.lowSync + 1 else 0
    x := L.net.x.cycleEnd active, y := L.net.y.cycleEnd active } }
  let L := match L.net.state with
    | .active => if L.net.cycleNow % 2 = 1 then L.correct else L
    | .integrate | .mute => L.observedEnd peerActive
    | _ => L
  let L := L.judgeTime ((L.net.state == .active && decide (2 ≤ count)) || L.tb.disc)
  let L := if L.tb.slewTicks = 0 then L.advance (L.netTime next) else L
  let L := if L.pwr.phase = 0 then L else L.setNode .halt
  { L with
    net := { L.net with
      csNodes := 0, devEven := L.net.devNow, devNow := [], extDes := none, cycleNow := L.net.cycleNow + 1 } }

/-- A peer that a lane counts as in contact (R267): by its vote cycles, and while it runs none, as in the
network-integration step, by the slip link in use to a running peer. (DEDUCED, log entry 132) -/
def State.reachesPeer (s : State) (l p : LaneId) : Bool :=
  let L := s.lane l
  p != l && (if L.vote.running then L.vote.contact.get p else (L.linkTo p).inUse && (s.lane p).alive)

/-- Another lane in contact whose node is ACTIVE in its own cluster (R267, R268). -/
def State.peerActive (s : State) (l : LaneId) : Bool :=
  allLanes.any fun p => s.reachesPeer l p && (s.lane p).net.state == .active

/-- The peer whose time the lane reads: the first in contact that is ACTIVE, in the order A, B, C (R267). -/
def State.firstActive (s : State) (l : LaneId) : Option LaneId :=
  allLanes.find? fun p => s.reachesPeer l p && (s.lane p).net.state == .active

/-- NETWORK_CYCLE_END. -/
def execNetworkCycleEnd (l : LaneId) (s : State) : Host.Outcome State Fault Refusal :=
  .next (s.on l fun L => if L.alive then L.cycleEnd (s.peerActive l) else L)

/-- SYNC_LOSS (R266). -/
def execSyncLoss (l : LaneId) (s : State) : Host.Outcome State Fault Refusal :=
  .next (s.on l fun L =>
    if L.net.state = .active ∧ L.sched 0x4800 0x15 ≤ L.net.lowSync then
      L.listen.raise (tsCode 63 4) 0
    else L)

/-! ### Start-up (R260-R263, R267, R268) -/

/-- Whether R267 lets the lane lead: after a read of an ACTIVE peer's time, or as PREF_LEAD, or without
PREF_LEAD in contact. -/
def State.leadAllowed (s : State) (l : LaneId) : Bool :=
  let L := s.lane l
  if s.peerActive l then L.net.mayLead
  else
    let p := LaneId.ofNum (L.obj 0x2600 7)
    p == l || !(s.reachesPeer l p)

/-- LISTEN_TIMEOUT (R260, R267): a cold-start node that is not follow-only leads a cold start; it sends from the first
cycle of its own network time that starts after the timeout. -/
def execListenTimeout (l : LaneId) (s : State) : Host.Outcome State Fault Refusal :=
  .next (s.on l fun L =>
    if L.net.state == .listen && L.nodeRole 1 && !(L.nodeRole 2) && !L.net.backoff && !L.net.barred &&
        s.leadAllowed l then
      let c := (L.nodeTime L.tb.ns).toNat / (max 1 (L.cycleLen * 1000))
      let M : Lane := { L with net := { L.net with
        startups := satInc L.net.startups, leader := true, cycleNow := c, csFrom := c + 1, devNow := [], devEven := [] } }
      M.setNode .coldstart
    else L)

/-- COLDSTART_COLLISION (R261): the node ends its transmission. -/
def execColdstartCollision (l : LaneId) (s : State) : Host.Outcome State Fault Refusal :=
  .next (s.on l fun L =>
    if L.net.state = .coldstart then
      ({ L with net := { L.net with
          collisions := satInc L.net.collisions
          lastTx := L.net.lastTx.map fun x => { x with cut := true } } } : Lane).abandonCold
    else L)

/-- BACKOFF_EXPIRY (R261). -/
def execBackoffExpiry (l : LaneId) (s : State) : Host.Outcome State Fault Refusal :=
  .next (s.on l fun L => { L with net := { L.net with backoff := false } })

/-- COLDSTART_CYCLE_END (R263, R268). -/
def execColdstartCycleEnd (l : LaneId) (s : State) : Host.Outcome State Fault Refusal :=
  .next (s.on l fun L =>
    if L.net.state = .coldstart then
      let n := L.net
      let confirm := if n.csSeen then n.csConfirm + 1 else 0
      let cycles := n.csCycles + 1
      if 2 ≤ confirm ∧ (s.peerActive l = false ∨ n.peerOk) then L.activate
      else if 8 ≤ cycles then L.abandonCold
      else { L with net := { n with csConfirm := confirm, csCycles := cycles, csSeen := false } }
    else L)

/-- A read of a peer's time that counts, in LISTEN: the lane takes it and may lead (R267, R289, R290). -/
def Lane.takePeerTime (L : Lane) (src : Lane) (t unc : Nat) : Lane :=
  let M := if L.tb.state = .invalid ∨ L.vote.role = .out then
      let N := L.setTime t
      let N : Lane := { N with tb := { N.tb with seedPeer := true, cluster := none } }
      if src.tb.state = .invalid then N else N.validate false unc
    else { L with tb := { L.tb with cluster := some ((t : Int) - (L.tb.ns : Int)) } }
  { M with net := { M.net with mayLead := true, peerOk := true } }

/-- The comparison of R268: within 5 microseconds the node may enter ACTIVE, else it returns to LISTEN for
1 s. -/
def Lane.comparePeer (L : Lane) (t : Nat) : Lane :=
  let d := (L.nodeTime L.tb.ns - (t : Int)).natAbs
  if d ≤ 5000 then { L with net := { L.net with peerOk := true } }
  else
    let M := L.listen
    ({ M with net := { M.net with timeMism := true, barred := true } } : Lane).raise (tsCode 63 6) 2

/-- PEER_TIME_READ (R267, R268): a read whose round trip is at most 20 microseconds counts. (DEDUCED, log entry 104) -/
def execPeerTimeRead (l src : LaneId) (rttNs ns : Nat) (s : State) : Host.Outcome State Fault Refusal :=
  let L := s.lane l
  let P := s.lane src
  if L.alive && s.firstActive l == some src && decide (rttNs ≤ 20000) then
    let t := ns + rttNs / 2
    let unc := (roundR (Config.free 292 s.freeCtr)).toNat
    let r := s.on l fun L =>
      match L.net.state with
      | .listen => if L.net.barred then L else L.takePeerTime P t unc
      | .integrate | .mute | .coldstart => L.comparePeer t
      | _ => L
    .next { r with freeCtr := s.freeCtr + 1 }
  else .next s

/-- TIME_MISMATCH_RETRY (R268). -/
def execTimeMismatchRetry (l : LaneId) (s : State) : Host.Outcome State Fault Refusal :=
  .next (s.on l fun L => { L with net := { L.net with barred := false } })

/-! ### Loss of a channel or of the network (R276, R277) -/

/-- CHANNEL_LOST (R276). -/
def execChannelLost (l : LaneId) (ch : Chan) (s : State) : Host.Outcome State Fault Refusal :=
  .next (s.on l fun L =>
    let c := L.net.ch ch
    if L.net.state = .active ∧ 3 ≤ c.lostRun ∧ c.lost = false then
      (L.onCh ch fun c => { c with lost := true }).raise (tsCode (chanNum ch) 1) 0
    else L)

/-- CHANNEL_RESTORED (R276). -/
def execChannelRestored (l : LaneId) (ch : Chan) (s : State) : Host.Outcome State Fault Refusal :=
  .next (s.on l fun L =>
    if (L.net.ch ch).lost ∧ 3 ≤ (L.net.ch ch).okRun then L.onCh ch fun c => { c with lost := false }
    else L)

/-- NETWORK_LOST (R277). -/
def execNetworkLost (l : LaneId) (s : State) : Host.Outcome State Fault Refusal :=
  .next (s.on l fun L =>
    if 3 ≤ L.net.netBad ∧ L.net.netLost = false then
      ({ L with net := { L.net with netLost := true } } : Lane).raise (tsCode 63 2) 2
    else L)

/-- NETWORK_RESTORED (R277). -/
def execNetworkRestored (l : LaneId) (s : State) : Host.Outcome State Fault Refusal :=
  .next (s.on l fun L =>
    if L.net.netLost ∧ 3 ≤ L.net.netGood then { L with net := { L.net with netLost := false } } else L)

end Sys2Proof.Machine
end

