-- ==== Sys2Proof/Machine/Service.lean ====
section
/-! DEFINITION. Steering and braking services: the tasks of a vote cycle, the controlled stop, stored
curves, allocation, force distribution, slip control, position and clamp loops, torque sharing and
overload budgets (chapter 03, 01_three_lanes_one_module.md R36, 02_vote_cycle_and_fault_tolerance.md
R74-R77). -/

namespace Sys2Proof.Machine

/-! ### Agreed inputs as the services read them -/

/-- The agreed input of a number; an absent one is invalid. -/
def Lane.agreedIn (L : Lane) (num : Nat) : Agreed :=
  (L.vote.agreed.find? fun a => a.num == num).getD { num := num }

/-- A number a REAL32 of a record gives; a NaN or an infinity gives a value the spec does not state
(log entry 5). -/
def recReal (raw : Nat) : Rat := if finite32 raw then r32 raw else Config.free 86 raw

/-- V0 of the record of a sequenced command (Table 2.15). -/
def Agreed.v0 (a : Agreed) : Nat := bits a.val.toNat 0 32

/-- V1 of the record of a sequenced command (Table 2.15). -/
def Agreed.v1 (a : Agreed) : Nat := bits a.val.toNat 32 32

/-- The agreed value of a safety input is active; an invalid one carries its safe value (R49, R89). -/
def Lane.siActive (L : Lane) (i : Nat) : Bool := (L.agreedIn (1 + i)).val != 0

/-- The handwheel: the actuator with DUTY 1 (02_vote_cycle_and_fault_tolerance.md R529). -/
def Lane.handwheel (L : Lane) : Option (Fin 8) := fin8.find? fun n => L.duty n == 1

/-- Agreed shaft angle of an actuator in degrees, the previous one while invalid (R49, R529). -/
def Lane.angleDeg (L : Lane) (n : Fin 8) : Rat := ((L.agreedIn (0x10 + n.val)).val : Rat) * 360 / 65536

/-- Agreed shaft speed of an actuator in degrees per second. -/
def Lane.speedDeg (L : Lane) (n : Fin 8) : Rat := ((L.agreedIn (0x18 + n.val)).val : Rat) * 360 / 65536

/-- Both agreed values of the handwheel are valid (Table 3.1). -/
def Lane.hwValid (L : Lane) : Bool :=
  match L.handwheel with
  | some n => (L.agreedIn (0x10 + n.val)).valid && (L.agreedIn (0x18 + n.val)).valid
  | none => false

/-- The agreed pedal position in %, and whether it is valid (R90). -/
def Lane.pedal (L : Lane) : Rat × Bool :=
  if L.obj 0x4100 4 = 0 then
    let a := L.agreedIn 0x20
    ((a.val : Rat) / 100, a.valid)
  else
    let i := L.obj 0x4100 8
    let ok := (L.agreedIn (1 + i)).valid && (L.agreedIn (2 + i)).valid && (L.agreedIn (3 + i)).valid
    match L.siActive i, L.siActive (i + 1), L.siActive (i + 2) with
    | false, false, false => (0, ok)
    | true, false, false => (3333 / 100, ok)
    | true, true, false => (6667 / 100, ok)
    | true, true, true => (100, ok)
    | _, _, _ => (L.svc.pedalPos, false)

/-- tVOTE in seconds. -/
def Lane.tVoteS (L : Lane) : Rat := (L.tVote : Rat) / 1000000

/-- The wheel inputs: WHEEL_IN of the eight actuators, then the four REF_WHEEL; 0 none (Table 3.7). -/
def Lane.wheelNum (L : Lane) (i : Nat) : Nat := L.obj 0x4108 (i + 1)

/-- The wheel of index `i` is stale: it has no input, or its age is at WHEEL_AGE (R87). -/
def Lane.wheelStale (L : Lane) (i : Nat) : Bool :=
  L.wheelNum i == 0 || decide (L.obj 0x4100 0x0C ≤ ((L.svc.ageWheel[i]?).getD 0).toNat)

/-- Agreed speed of a wheel at the tread, m/s. -/
def Lane.wheelSpeed (L : Lane) (i : Nat) : Rat := recReal (L.agreedIn (L.wheelNum i)).v0

/-- The load of axle `i` (0-3) is stale (R87). -/
def Lane.loadStale (L : Lane) (i : Nat) : Bool :=
  decide (L.obj 0x4100 0x0B ≤ ((L.svc.ageLoad[i]?).getD 0).toNat)

/-- Load of axle `i` in kN: agreed, or LOAD_DEFAULT while stale (R87, R103). -/
def Lane.axleLoad (L : Lane) (i : Nat) : Rat :=
  if L.loadStale i then L.real 0x4102 (i + 1) else recReal (L.agreedIn (0x23 + i)).v0

/-- The host's curvature demand is stale. -/
def Lane.curvStale (L : Lane) : Bool := decide (L.obj 0x4300 1 ≤ L.svc.ageCurv.toNat)

/-- The host's deceleration demand is stale. -/
def Lane.decelStale (L : Lane) : Bool := decide (L.obj 0x4300 1 ≤ L.svc.ageDecel.toNat)

/-- The handwheel is stale (Table 3.1). -/
def Lane.hwStale (L : Lane) : Bool := decide (3 ≤ L.svc.ageHw.toNat)

/-- The pedal is stale (Table 3.1). -/
def Lane.pedalStale (L : Lane) : Bool := decide (3 ≤ L.svc.agePedal.toNat)

/-! ### Winding sets (01_three_lanes_one_module.md R36, Table 1.7) -/

/-- Number of drivers as the lane knows them: the module state (02_vote_cycle_and_fault_tolerance.md R77). -/
def Lane.mstate (L : Lane) : Nat := (allLanes.filter fun l => L.vote.drivers.get l).length

/-- The set of lane `l` on actuator `n` exists, its lane drives, and the agreed inputs do not show it
isolated (R36, R110). A lane whose entries are missing keeps what was last agreed. -/
def Lane.setLeft (L : Lane) (l : LaneId) (n : Fin 8) : Bool :=
  (L.bridgeOf l n).isSome && L.vote.drivers.get l &&
  (match L.vote.agreedOwn.get l with
   | some p => !(p.isol.get n)
   | none => true)

/-- The rotor of a set is lost: LOST or REACQUIRE (05_rotor_position.md R179). -/
def lostRotor (a : ASrc) : Bool := a == .lost || a == .reacquire

/-- The set's own sensor has left its angle (05_rotor_position.md R164). -/
def noSensor (a : ASrc) : Bool :=
  a == .observer || a == .borrowed || a == .lost || a == .reacquire || a == .isolated

/-- The set counts as working in this cycle: not isolated, not in LOST or REACQUIRE, a fault wait, an
active short by OV3 or a hardware hold (R36, R179, R206, R228, R230). A lane that runs uncompared carries the share it
last computed, so the sets of the peer it lost count as they last did (02_vote_cycle_and_fault_tolerance.md R70). (DEDUCED, log entry 45) -/
def Lane.setWorks (L : Lane) (l : LaneId) (n : Fin 8) : Bool :=
  if L.vote.alone.get l then (L.bridgeOf l n).isSome && (L.svc.working.get l).get n
  else L.setLeft l n &&
  (match L.vote.agreedOwn.get l with
   | some p => !lostRotor (p.asrc.get n) && !(p.wait.get n) && !p.ov3 && !p.hwHold
   | none => (L.svc.working.get l).get n)

/-- REGEN_CUT of a lane as agreed (07_dc_link_and_braking_energy.md R227). -/
def Lane.cutOf (L : Lane) (l : LaneId) : Bool :=
  match L.vote.agreedOwn.get l with
  | some p => p.regenCut
  | none => false

/-- The sets that work for a torque: for braking torque those of a lane with REGEN_CUT do not count
(R227). -/
def Lane.setsFor (L : Lane) (n : Fin 8) (braking : Bool) : List LaneId :=
  allLanes.filter fun l => L.setWorks l n && !(braking && L.cutOf l)

/-- Sets left on an actuator (R110). -/
def Lane.setsLeft (L : Lane) (n : Fin 8) : Nat := (allLanes.filter fun l => L.setLeft l n).length

/-- An actuator with two or three winding sets has only one left (R110). -/
def Lane.oneSet (L : Lane) (n : Fin 8) : Bool :=
  L.mapped n && decide (2 ≤ L.sets n) && L.setsLeft n == 1

/-- The set of a lane runs without its position sensor, as the agreed per-lane inputs report it (R179). -/
def Lane.sensorGone (L : Lane) (l : LaneId) (n : Fin 8) : Bool :=
  match L.vote.agreedOwn.get l with
  | some p => noSensor (p.asrc.get n)
  | none => false

/-- An actuator is lost (Table 1.7); a single-winding one is with its position sensor too (R37). -/
def Lane.actLost (L : Lane) (n : Fin 8) : Bool :=
  L.mapped n && (L.setsLeft n == 0 ||
    (L.sets n == 1 && allLanes.any fun l => L.setLeft l n && L.sensorGone l n))

/-- The position of a triple-wound actuator rests on one sensor (02_vote_cycle_and_fault_tolerance.md Table 2.9). (DEDUCED, log entry 117) -/
def Lane.oneSensor (L : Lane) (n : Fin 8) : Bool :=
  let ds := allLanes.filter fun l => L.vote.drivers.get l && (L.bridgeOf l n).isSome
  L.mapped n && L.sets n == 3 && ds.any (L.sensorGone · n) &&
  decide ((ds.filter fun l => !L.sensorGone l n).length ≤ 1)

/-! ### Task 1: age counters, sources, stored curves (R86-R95) -/

/-- An age counter: 0 when its input is new, else one more, saturating (R87). -/
def ageStep (a : W16) (new : Bool) : W16 := if new then 0 else if a = 0xFFFF then a else a + 1

/-- A stored curve at an input (R93, R95), its 33 pairs in one value. -/
def curveAt (raw : Nat) (u : Rat) : Rat :=
  let x := fun i => r32 (bits raw (64 * i) 32)
  let y := fun i => r32 (bits raw (64 * i + 32) 32)
  if u ≤ x 0 then y 0
  else if x 32 ≤ u then y 32
  else
    let i := (List.range 33).foldl (fun m k => if x k ≤ u then k else m) 0
    y i + (u - x i) * (y (i + 1) - y i) / (x (i + 1) - x i)

/-- The on/off state of a curve (R93, R94). -/
def curveOn (on : Bool) (u onTh offTh : Rat) : Bool :=
  if !on && decide (onTh < u) then true else if on && decide (u < offTh) then false else on

/-- Sign of a number. -/
def signR (x : Rat) : Rat := if x < 0 then -1 else if x = 0 then 0 else 1

/-- A service's source is the driver's (R89): value 1, or value 2 with its safety input active. -/
def Lane.driverSource (L : Lane) (src input : Nat) : Bool :=
  src == 1 || (src == 2 && L.siActive input)

/-- The curves of both driver inputs; an invalid input leaves the curve's state (R94). -/
def Lane.curves (L : Lane) : Svc :=
  let v := L.svc
  let th := match L.handwheel with
    | some n => L.angleDeg n
    | none => 0
  let hwOn := if L.hwValid then curveOn v.hwOn (absR th) (L.real 0x4200 2) (L.real 0x4200 3) else v.hwOn
  let p := L.pedal
  let pedOn := if p.2 then curveOn v.pedalOn p.1 (L.real 0x4200 5) (L.real 0x4200 6) else v.pedalOn
  { v with
    hwOn := hwOn, pedalOn := pedOn, pedalPos := p.1
    hwOut := if hwOn then signR th * curveAt (L.obj 0x4200 1) (absR th) else 0
    pedalOut := if pedOn then curveAt (L.obj 0x4200 4) p.1 else 0 }

/-- An agreed host command carries values that are taken (R86). -/
def commandOk (curvature : Bool) (a : Agreed) : Bool :=
  finite32 a.v0 && (if curvature then finite32 a.v1 && decide (0 < r32 a.v1) else decide (0 ≤ r32 a.v0))

/-- A new host command that is not taken is fault 0x4FCB (R86). -/
def Lane.refuseCommand (L : Lane) (num : Nat) (curvature : Bool) : Lane :=
  let a := L.agreedIn num
  if a.isNew && !commandOk curvature a then L.raise 0x4FCB 0 num a.seq.toNat else L

/-- The agreed command is new and taken. -/
def Lane.takes (L : Lane) (num : Nat) (curvature : Bool) : Bool :=
  let a := L.agreedIn num
  a.isNew && commandOk curvature a

/-- The steered actuator farthest from the tracking point, the lowest-numbered among equals; none where every one
stands at it (R534). -/
def Lane.heldLead (L : Lane) : Option (Fin 8) :=
  let d := fun n : Fin 8 => L.real 0x4001 (n.val + 1)
  fin8.foldl (fun (m : Option (Fin 8)) n =>
    if L.duty n = 2 ∧ d n ≠ 0 then
      (match m with
       | some k => if absR (d k) < absR (d n) then some n else some k
       | none => some n)
    else m) none

/-- Curvature that the held angles stand for (R534). -/
def Lane.heldCurv (L : Lane) : Rat :=
  match L.heldLead with
  | some n => Config.tan (radOf (L.svc.heldAng.get n)) / L.real 0x4001 (n.val + 1)
  | none => 0

/-- The axle that leads out of the hold follows at once; the other steered axles converge (R534). -/
def Lane.endSteerHold (L : Lane) : Svc :=
  { L.svc with
    holdSteer := false, kappa := L.heldCurv, stop := { L.svc.stop with curv := L.heldCurv }
    converging := Oct.ofFn fun n => L.duty n == 2 && L.heldLead != some n }

/-- Age counters and commands of this cycle (R86, R87). -/
def Lane.ageAll (L : Lane) : Svc :=
  let v := L.svc
  let c := L.takes 0x21 true
  let d := L.takes 0x22 false
  { v with
    ageCurv := ageStep v.ageCurv c
    ageDecel := ageStep v.ageDecel d
    ageHw := ageStep v.ageHw L.hwValid
    agePedal := ageStep v.agePedal L.pedal.2
    ageWheel := (List.range 12).map fun i =>
      ageStep ((v.ageWheel[i]?).getD 0) (L.wheelNum i != 0 && (L.agreedIn (L.wheelNum i)).isNew)
    ageLoad := (List.range 4).map fun i =>
      ageStep ((v.ageLoad[i]?).getD 0) (L.agreedIn (0x23 + i)).isNew
    hostCurv := if c then r32 (L.agreedIn 0x21).v0 else v.hostCurv
    hostRate := if c then r32 (L.agreedIn 0x21).v1 else v.hostRate
    hostDecel := if d then r32 (L.agreedIn 0x22).v0 else v.hostDecel
    armCurv := v.armCurv || c
    armDecel := v.armDecel || d
    stop := { v.stop with
      newCurv := c || (v.stop.newCurv && decide ((ageStep v.ageCurv c).toNat < L.obj 0x4300 1))
      newDecel := d || (v.stop.newDecel && decide ((ageStep v.ageDecel d).toNat < L.obj 0x4300 1)) }
    steerHw := L.driverSource (L.obj 0x4000 1) (L.obj 0x4000 2)
    brakePed := L.driverSource (L.obj 0x4100 1) (L.obj 0x4100 2) }

/-! ### Task 2: controlled stop and limp profile (R110-R115) -/

/-- The causes of a controlled stop that are present (R110, R114): host silence, SIMPLEX, stop input,
source fault, actuator. -/
structure Causes where
  /-- Host silence. -/
  host : Bool
  /-- SIMPLEX. -/
  simplex : Bool
  /-- STOP_INPUT. -/
  input : Bool
  /-- Source fault. -/
  source : Bool
  /-- An actuator reduced to one set or lost. -/
  act : Bool
  deriving DecidableEq, Repr

/-- The causes present in this cycle; none while no lane drives (R85). Host silence is judged for each command from
its first agreed one on (R88, R110). (DEDUCED, log entry 41) -/
def Lane.causes (L : Lane) : Causes :=
  let v := L.svc
  let on := decide (0 < L.mstate)
  let si := L.obj 0x4300 6
  { host := on && ((v.armCurv && !v.steerHw && L.curvStale) || (v.armDecel && !v.brakePed && L.decelStale))
    simplex := L.mstate == 1
    input := on && si != 0xFF && L.siActive si
    source := on && ((v.steerHw && L.hwStale) || (v.brakePed && L.pedalStale))
    act := on && fin8.any fun n => L.oneSet n || L.actLost n || L.oneSensor n }

/-- The causes still present in a running stop (R114): one of host silence until a new command of each host-sourced
service has been agreed. -/
def Lane.causesLeft (L : Lane) : Causes :=
  let v := L.svc
  { L.causes with
    host := L.causes.host || (v.stop.host && decide (0 < L.mstate) &&
      ((!v.steerHw && !v.stop.newCurv) || (!v.brakePed && !v.stop.newDecel))) }

/-- Any cause. -/
def Causes.any (c : Causes) : Bool := c.host || c.simplex || c.input || c.source || c.act

/-- Causes join a stop, or start one: its profile starts at the deceleration demand applied before, its
curvature hold of STOP_HOLD at the curvature allocated before (R110-R112). Host silence that joins awaits a new command
of each host-sourced service (R114). -/
def Lane.stopFor (L : Lane) (c : Causes) : Lane :=
  if c.any = false then L
  else
    let p := L.svc.stop
    let p : Stop :=
      if p.active then p
      else { active := true, start := L.svc.decel, prof := L.svc.decel, curv := L.svc.kappa
             holdMs := (L.obj 0x4300 4 : Nat) }
    let p : Stop :=
      if c.host && !p.host then { p with newCurv := L.takes 0x21 true, newDecel := L.takes 0x22 false } else p
    { L with svc := { L.svc with stop := { p with
        host := p.host || c.host, simplex := p.simplex || c.simplex, input := p.input || c.input
        source := p.source || c.source, act := p.act || c.act } } }

/-- The limp profile (R115). -/
def Lane.limps (L : Lane) : Bool :=
  L.mstate == 1 || (decide (0 < L.mstate) && fin8.any fun n => L.duty n == 2 && L.oneSet n)

/-- Once the compare has decided who drives on: SIMPLEX and an actuator reduced or lost start the stop in this very
cycle, and the limp profile follows (R110, R115). (DEDUCED, log entry 118) -/
def Lane.judgeStop (L : Lane) : Lane :=
  if L.voting then
    let c := L.causes
    let M := L.stopFor { c with host := false, input := false, source := false }
    { M with svc := { M.svc with limp := M.limps } }
  else L

/-- A value moved towards another by at most a step each way. -/
def stepTo (x target up down : Rat) : Rat := x + clampR (target - x) (-down) up

/-- Task 2 of Table 3.12: the stop starts or goes on. (DEDUCED, log entry 41; DEDUCED, log entry 42) -/
def Lane.task2 (L : Lane) : Lane :=
  let was := L.svc.stop.active
  let M := L.stopFor L.causes
  let p := M.svc.stop
  let jerk := M.real 0x4300 3 * M.tVoteS
  let p : Stop :=
    if p.active then
      { p with
        prof := if M.svc.standstill then p.prof
          else stepTo p.prof (max (M.real 0x4300 2) p.start) jerk jerk
        holdMs := if was then p.holdMs - (M.tVote : Rat) / 1000 else p.holdMs }
    else p
  { M with svc := { M.svc with stop := p, limp := M.limps } }

/-! ### Task 3: steering allocation (R96, R97, R111, R534) -/

/-- AXLE_D of actuator `n`. -/
def Lane.axleD (L : Lane) (n : Fin 8) : Rat := L.real 0x4001 (n.val + 1)

/-- Steered actuators with a distance (R97). -/
def Lane.steered (L : Lane) : List (Fin 8) := fin8.filter fun n => L.duty n == 2 && L.axleD n != 0

/-- The factor of the limp profile (R97, R115). -/
def Lane.limpK (L : Lane) : Rat := if L.svc.limp then L.real 0x4000 4 else 1

/-- κlim (R97); none with no steered actuator off the tracking point. -/
def Lane.curvLim (L : Lane) : Option Rat :=
  L.steered.foldl (fun m n =>
    let k := Config.tan (radOf (L.real 0x4002 (n.val + 1))) / absR (L.axleD n)
    match m with
    | some x => some (min x k)
    | none => some k) none

/-- RATE_LIMIT of axle `n` over one vote cycle in radians (R97). -/
def Lane.axleStep (L : Lane) (n : Fin 8) : Rat :=
  radOf (L.real 0x4003 (n.val + 1) * L.limpK) * L.tVoteS

/-- The allocation of R97: the new curvature, ANGLE_LIM and RATE_LIM. -/
def Lane.allocate (L : Lane) (src rate prev : Rat) : Rat × Bool × Bool :=
  let t := match L.curvLim with
    | some k => clampR src (-k) k
    | none => src
  let s0 := clampR (t - prev) (-(rate * L.tVoteS)) (rate * L.tVoteS)
  let s := L.steered.foldl (fun s n =>
    let d := L.axleD n
    let a0 := Config.atan (prev * d)
    let m := L.axleStep n
    let hi := (Config.tan (a0 + m) - prev * d) / d
    let lo := (Config.tan (a0 - m) - prev * d) / d
    clampR s (min lo hi) (max lo hi)) s0
  (prev + s, decide (t ≠ src), decide (s ≠ s0))

/-- The rate r of R97 by the source in use, the limp factor in it; the host sets no limit before its first command.
(DESIGN CHOICE, log entry 119) -/
def Lane.curvRate (L : Lane) : Rat :=
  let m := L.real 0x4000 3
  (if L.svc.steerHw || L.svc.hostRate == 0 then m else min L.svc.hostRate m) * L.limpK

/-- Source curvature and rate r of this cycle (R89, R97, R111): a stop holds the curvature allocated before it, then
ramps, and at standstill holds what the ramp reached. -/
def Lane.curvSource (L : Lane) : Rat × Rat :=
  let v := L.svc
  let r := L.curvRate
  if v.stop.active && !(v.steerHw && !L.hwStale) then
    if v.stop.ramp = false then (v.stop.curv, r)
    else if v.standstill then (v.kappa, r)
    else (0, min (L.real 0x4300 5) r)
  else if v.steerHw then (v.hwOut, r)
  else (v.hostCurv, r)

/-- Axle angle of the allocated curvature in degrees (R96). -/
def Lane.axleAngle (L : Lane) (n : Fin 8) (k : Rat) : Rat :=
  Config.atan (k * L.axleD n) * 180 / Config.pi

/-- A converging axle moves from its held angle (R534). (DEDUCED, log entry 38) -/
def Lane.converge (L : Lane) (n : Fin 8) (k : Rat) : Rat :=
  let m := L.real 0x4003 (n.val + 1) * L.limpK * L.tVoteS
  stepTo (L.svc.heldAng.get n) (L.axleAngle n k) m m

/-- Shaft references of the steered actuators from axle angles in degrees (R96). (DEDUCED, log entry 35) -/
def Lane.steerRefs (L : Lane) (ang : Fin 8 → Rat) : Oct Rat :=
  Oct.ofFn fun n => if L.duty n = 2 then L.real 0x4004 (n.val + 1) * ang n else L.svc.thetaRef.get n

/-- The start hold: the agreed axle angles of the first cycle are held (R88). (DEDUCED, log entry 35) -/
def Lane.holdAngles (L : Lane) : Lane :=
  let ang : Oct Rat :=
    if L.svc.heldSet then L.svc.heldAng
    else Oct.ofFn fun n => if L.duty n = 2 then L.angleDeg n / L.real 0x4004 (n.val + 1) else 0
  let refs := L.steerRefs ang.get
  { L with svc := { L.svc with
      heldSet := true, heldAng := ang, thetaRef := refs, angleLim := false, rateLim := false
      thetaPrev := if L.svc.heldSet then L.svc.thetaPrev else refs } }

/-- Task 1 of Table 3.12. -/
def Lane.task1 (L : Lane) : Lane :=
  let M := (L.refuseCommand 0x21 true).refuseCommand 0x22 false
  let M : Lane := { M with svc := M.ageAll }
  let M : Lane := { M with svc := M.curves }
  let newSteer := if M.svc.steerHw then M.hwValid else M.takes 0x21 true
  let newBrake := if M.svc.brakePed then M.pedal.2 else M.takes 0x22 false
  let M : Lane :=
    if M.svc.holdSteer && newSteer then
      let N := M.holdAngles
      { N with svc := N.endSteerHold }
    else M
  if M.svc.holdBrake && newBrake then { M with svc := { M.svc with holdBrake := false } } else M

/-- Task 3 of Table 3.12. (DEDUCED, log entry 38; DEDUCED, log entry 42) -/
def Lane.task3 (L : Lane) : Lane :=
  if L.svc.holdSteer then L.holdAngles
  else
    let (src, r) := L.curvSource
    let (k, al, rl) := L.allocate src r L.svc.kappa
    let held := Oct.ofFn fun n => if L.svc.converging.get n then L.converge n k else L.svc.heldAng.get n
    let conv := Oct.ofFn fun n => L.svc.converging.get n && held.get n != L.axleAngle n k
    let ang := fun n => if L.svc.converging.get n then held.get n else L.axleAngle n k
    { L with svc := { L.svc with
        kappa := k, angleLim := al, rateLim := rl || fin8.any conv.get
        heldAng := held, converging := conv, thetaRef := L.steerRefs ang } }

/-! ### Task 4: reference speed, deceleration demand, force distribution (R102-R105, R108, R112, R113) -/

/-- The largest magnitude among the wheel speeds that are not stale (R108). -/
def Lane.vMax (L : Lane) : Option Rat :=
  maxR (((List.range 12).filter fun i => !L.wheelStale i).map fun i => absR (L.wheelSpeed i))

/-- The reference speed (R108). -/
def Lane.vrefNext (L : Lane) : Option Rat :=
  match L.vMax, L.svc.vref with
  | none, _ => none
  | some v, none => some v
  | some v, some p => some (max v (p - L.real 0x4109 7 * L.tVoteS))

/-- The deceleration demand a (R88, R102, R112). (DEDUCED, log entry 42) -/
def Lane.decelNext (L : Lane) : Rat :=
  let v := L.svc
  let ped := if L.pedalStale then 0 else v.pedalOut
  if v.stop.active then
    let h := if v.stop.host || L.decelStale then 0 else v.hostDecel
    max v.stop.prof (max ped h)
  else if v.holdBrake then L.real 0x4300 2
  else
    let src :=
      if v.brakePed then v.pedalOut
      else if L.obj 0x4100 3 = 1 && !L.pedalStale then max v.hostDecel v.pedalOut
      else v.hostDecel
    stepTo v.decel src (L.real 0x4100 9 * L.tVoteS) (L.real 0x4100 0x0A * L.tVoteS)

/-- Axle of brake actuator `n`, 0 none (Table 3.7). -/
def Lane.axleOf (L : Lane) (n : Fin 8) : Nat := L.obj 0x4103 (n.val + 1)

/-- Brake actuators of an axle (1-4) that work in this cycle (R103, R104). -/
def Lane.brakesOf (L : Lane) (axle : Nat) : List (Fin 8) :=
  fin8.filter fun n => L.duty n == 3 && L.axleOf n == axle && allLanes.any fun l => L.setWorks l n

/-- AXLE_WEIGHT of axle 1-4. -/
def Lane.axleWeight (L : Lane) (axle : Nat) : Rat := L.real 0x4101 axle

/-- Force of an axle for a deceleration (R103). -/
def Lane.axleForce (L : Lane) (a : Rat) (axle : Nat) : Rat :=
  let mass := ((List.range 4).map fun i =>
    if 0 < L.axleWeight (i + 1) then L.axleLoad i * 1000 else 0).sum / (980665 / 100000)
  let sum := ((List.range 4).map fun i =>
    if L.brakesOf (i + 1) ≠ [] then L.axleWeight (i + 1) * L.axleLoad i else 0).sum
  if sum = 0 then Config.free 103 axle
  else a * mass * L.axleWeight axle * L.axleLoad (axle - 1) / sum

/-- Wheel force of a brake actuator (R103). -/
def Lane.wheelForce (L : Lane) (a : Rat) (n : Fin 8) : Rat :=
  let ax := L.axleOf n
  let bs := L.brakesOf ax
  if ax = 0 ∨ !bs.contains n then 0 else L.axleForce a ax / (bs.length : Rat)

/-- Task 4 of Table 3.12. Where standstill already holds as a stop begins, the clamp demand held is that of the stop's
first cycle. (DEDUCED, log entry 45; DESIGN CHOICE, log entry 121) -/
def Lane.task4 (L : Lane) : Lane :=
  let vref := L.vrefNext
  let still := match vref with
    | some v => decide (v < L.real 0x4300 7)
    | none => false
  let a := L.decelNext
  let force := Oct.ofFn fun n => L.wheelForce a n
  let want := Oct.ofFn fun n => force.get n * L.real 0x4104 (n.val + 1)
  let clamp := Oct.ofFn fun n => min (want.get n) (L.real 0x4105 (n.val + 1))
  let holds := still && (L.svc.stop.active || L.svc.holdBrake)
  let hold := if holds then some (L.svc.standHold.getD clamp) else none
  let loadDef := (List.range 4).any fun i => decide (0 < L.axleWeight (i + 1)) && L.loadStale i
  { L with svc := { L.svc with
      vref := vref, standstill := still, decel := a, axleForce := force, clampPrev := L.svc.clamp
      clamp := hold.getD clamp, standHold := hold, loadDef := loadDef
      shortfall := fin8.any fun n => decide (clamp.get n < want.get n) } }

/-! ### Task 5: wheel-slip control (R109, R113) -/

/-- Slip control acts on brake actuator `n` (R109). -/
def Lane.slipActs (L : Lane) (n : Fin 8) : Bool :=
  L.obj 0x4109 8 == 1 && !L.wheelStale n.val && L.svc.standHold.isNone &&
  (match L.svc.vref with
   | some v => decide (L.real 0x4109 3 ≤ v)
   | none => false)

/-- One cycle of the procedure of R109; HOLD passes to REAPPLY at SLIP_HOLD_EXPIRY. -/
def Lane.slipStep (L : Lane) (n : Fin 8) (w : SlipWheel) (c : Rat) : SlipWheel :=
  let v := L.svc.vref.getD 0
  let lam := (v - absR (L.wheelSpeed n.val)) / v
  let up := decide (L.real 0x4109 1 < lam)
  match w.st with
  | .apply => { w with cs := c, st := if up then .release else .apply }
  | .release =>
    let cs := max 0 (w.cs - L.real 0x4109 4 * L.tVoteS)
    if lam < L.real 0x4109 2 then { st := .hold, cs := cs, th := 0 } else { w with cs := cs }
  | .hold =>
    let th := w.th + (L.tVote : Rat) / 1000
    { w with th := th, st := if up then .release else .hold }
  | .reapply =>
    let cs := w.cs + L.real 0x4109 5 * L.tVoteS
    if up then { w with cs := cs, st := .release }
    else if c ≤ cs then { w with cs := c, st := .apply }
    else { w with cs := cs }

/-- Task 5 of Table 3.12. -/
def Lane.task5 (L : Lane) : Lane :=
  let next := Oct.ofFn fun n =>
    let c := L.svc.clamp.get n
    if L.duty n = 3 ∧ L.slipActs n then L.slipStep n (L.svc.slip.get n) c
    else ({ st := .apply, cs := c } : SlipWheel)
  { L with svc := { L.svc with
      slip := next, clamp := Oct.ofFn fun n => min (next.get n).cs (L.svc.clamp.get n) } }

/-! ### Task 7: position and clamp loops, handwheel feel (R99, R101, R106, R107, R130) -/

/-- The bound of R130 on a torque opposite to the agreed speed; none for motoring torque. -/
def Lane.regenBound (L : Lane) (n : Fin 8) (t : Rat) : Option Rat :=
  let w := radOf (L.speedDeg n)
  if t * w < 0 then
    some (((L.setsFor n true).length : Rat) * L.mach n 0x0E / absR w)
  else none

/-- The shaft reference of a brake actuator (R106), by its contact in use. -/
def Lane.clampRef (L : Lane) (n : Fin 8) : Rat :=
  let c := L.svc.clamp.get n
  let x := (L.svc.contact.get n).inUse
  if 0 < c then x + curveAt (L.obj 0x4106 (n.val + 1)) c else x - L.real 0x4100 0x0F

/-- The position loop: torque demand, and the integrator where sharing does not limit the torque (R99). -/
def Lane.posLoop (L : Lane) (n : Fin 8) (ref prev : Rat) : Rat × Rat :=
  let w := L.speedDeg n
  let k := fun sub => L.real (actIdx n 0) sub
  let ff := if L.obj (actIdx n 0) 0x13 = 1 then (ref - prev) / L.tVoteS else 0
  let ew := k 0x10 * (ref - L.angleDeg n) + ff - w
  let i := L.svc.integ.get n
  let t := k 0x11 * ew + i
  let own : Option Rat := if 0 < k 0x14 then some (k 0x14) else none
  let tmax := match own, L.regenBound n t with
    | some a, some b => some (min a b)
    | some a, none => some a
    | none, b => b
  match tmax with
  | some m =>
    if m ≤ absR t then (signR t * m, i) else (t, i + k 0x12 * ew * L.tVoteS)
  | none => (t, i + k 0x12 * ew * L.tVoteS)

/-- The feel torque of the handwheel (R101, R130). -/
def Lane.feel (L : Lane) (n : Fin 8) : Rat :=
  let k := fun sub => L.real 0x4005 sub
  let th := L.angleDeg n
  let w := L.speedDeg n
  let s := match L.svc.vref with
    | some v => k 2 + (1 - k 2) * min v (k 3) / k 3
    | none => 1
  let t1 := match fin8.find? fun m => L.duty m == 2 with
    | some m => L.svc.demand.get m
    | none => 0
  let stiff := if L.svc.steerHw then -(k 1) * s * th - k 5 * t1 else 0
  let t := stiff - k 4 * w - k 7 * max 0 (absR th - k 6) * signR th
  let t := clampR t (-(k 8)) (k 8)
  match L.regenBound n t with
  | some m => clampR t (-m) m
  | none => t

/-- A master's pending contact position comes into use once the actuator is released (R107). (DEDUCED, log entry 44) -/
def Lane.contactDue (L : Lane) (n : Fin 8) (c : ContactSt) : ContactSt :=
  match c.pending with
  | some x => if L.svc.clamp.get n = 0 then { c with inUse := x, pending := none } else c
  | none => c

/-- The contact position is learned (R107): the first torque above CONTACT_TORQUE after the clamp rose
from 0 gives a candidate. (DEDUCED, log entry 44) -/
def Lane.learn (L : Lane) (n : Fin 8) (t : Rat) : Lane :=
  let c := L.contactDue n (L.svc.contact.get n)
  let rise := decide (0 < L.svc.clamp.get n) && (c.learning || L.svc.clampPrev.get n == 0)
  let x := L.angleDeg n
  let hit := rise && decide (L.real 0x4100 0x0E < t)
  let c : ContactSt := { c with learning := rise && !hit }
  let put := fun (M : Lane) c => ({ M with svc := { M.svc with contact := M.svc.contact.set n c } } : Lane)
  if hit = false then put L c
  else if absR (x - c.inUse) ≤ L.real 0x4100 0x0D then
    let M := put L { c with inUse := x }
    if c.pending.isSome then M else M.storeObj 0x4107 (n.val + 1) (Config.real32 x).toNat
  else (put L c).raise 0x3FD1 0 n.val (Config.real32 x).toNat

/-- The loop of one actuator. -/
def Lane.loopOf (L : Lane) (n : Fin 8) : Lane :=
  let set := fun (M : Lane) (ref t i : Rat) =>
    ({ M with svc := { M.svc with
        thetaPrev := M.svc.thetaPrev.set n ref, thetaRef := M.svc.thetaRef.set n ref
        demand := M.svc.demand.set n t, integNext := M.svc.integNext.set n i } } : Lane)
  match L.duty n with
  | 2 =>
    let ref := L.svc.thetaRef.get n
    let (t, i) := L.posLoop n ref (L.svc.thetaPrev.get n)
    set L ref t i
  | 3 =>
    let c := L.contactDue n (L.svc.contact.get n)
    let M : Lane := { L with svc := { L.svc with contact := L.svc.contact.set n c } }
    let ref := M.clampRef n
    let (t, i) := M.posLoop n ref (M.svc.thetaPrev.get n)
    (set M ref t i).learn n t
  | _ => L

/-- Task 7 of Table 3.12: the handwheel reads the demand of the cycle before, then the loops run. -/
def Lane.task7 (L : Lane) : Lane :=
  let f := L.handwheel.map fun n => (n, L.feel n)
  let M := fin8.foldl Lane.loopOf L
  match f with
  | some (n, t) => { M with svc := { M.svc with demand := M.svc.demand.set n t } }
  | none => M

/-! ### Task 8: torque sharing and overload budgets (R36, R74, R77, R115, R438) -/

/-- J of a ramp: ceil(tRAMP / tVOTE), at least 1 (R74). -/
def Lane.rampSteps (L : Lane) : Nat :=
  max 1 ((L.obj 0x2600 9 * 1000 + L.tVote - 1) / L.tVote)

/-- Step of a set's ramp in this cycle: a set that comes back starts at 1 (R74, R179, R206, R228, R230,
R234); none outside a ramp. Where the map names no set the steps of the lane's ramp count on. (DEDUCED, log entry 47) -/
def Lane.rampNext (L : Lane) (l : LaneId) (n : Fin 8) : Option Nat :=
  let mapped := (L.bridgeOf l n).isSome
  if L.vote.drivers.get l = false ∨ (mapped ∧ L.setWorks l n = false) then none
  else match (L.svc.ramp.get l).get n with
    | some j => if L.rampSteps ≤ j then none else some (j + 1)
    | none => if !mapped || (L.svc.working.get l).get n then none else some 1

/-- Factor of a set that ramps, in or out; none outside a ramp (R74, R438). (DEDUCED, log entry 47) -/
def Lane.rampFactor (L : Lane) (l : LaneId) (n : Fin 8) : Option Rat :=
  let j : Nat := L.rampSteps
  match L.svc.exitStep.get l with
  | some e => some (1 - (e : Rat) / (j : Rat))
  | none => ((L.svc.ramp.get l).get n).map fun k => (k : Rat) / (j : Rat)

/-- The share of a set of the demand `d` before any limit (R36, R74, R438). -/
def Lane.shareOf (L : Lane) (n : Fin 8) (ws : List LaneId) (d : Rat) (l : LaneId) : Rat :=
  let full := ws.filter fun x => (L.rampFactor x n).isNone
  let each := d / (ws.length : Rat)
  let part := fun x => match L.rampFactor x n with
    | some f => f * each
    | none => 0
  if !ws.contains l then 0
  else if full = [] then each
  else if full.contains l then (d - (ws.map part).sum) / (full.length : Rat)
  else part l

/-- Cap of a set's overload budget in ms (R77). (DEDUCED, log entry 46) -/
def Lane.budgetCap (L : Lane) (l : LaneId) (n : Fin 8) : Rat :=
  if L.mstate = 1 ∨ (L.sets n = 3 ∧ L.setWorks l n ∧ (L.setsFor n false).length = 1) then 10000 else 30000

/-- A budget over one vote cycle (R77). (DEDUCED, log entry 46) -/
def Lane.budgetNext (L : Lane) (l : LaneId) (n : Fin 8) (share : Rat) : Rat :=
  let t : Rat := (L.tVote : Rat) / 1000
  let b := (L.svc.budget.get l).get n
  let b := if Config.rating n < absR share then b - t else b + t / 10
  max 0 (min b (L.budgetCap l n))

/-- The limit of a set's torque: 150 % of its continuous rating, or the rating once its budget is spent
(Table 2.5). -/
def shareLim (n : Fin 8) (budget : Rat) : Rat :=
  if budget = 0 then Config.rating n else Config.rating n * 3 / 2

/-- A share held within a limit. -/
def limited (n : Fin 8) (budget x : Rat) : Rat := clampR x (-(shareLim n budget)) (shareLim n budget)

/-- The actuator has a position loop (R99). -/
def Lane.hasLoop (L : Lane) (n : Fin 8) : Bool := L.duty n == 2 || L.duty n == 3

/-- Task 8 of Table 3.12; a loop integrates in a cycle whose torque sharing leaves whole (R99). (DEDUCED, log entry 37) -/
def Lane.task8 (L : Lane) : Lane :=
  let ramp := Tri.ofFn fun l => Oct.ofFn fun n => L.rampNext l n
  let M : Lane := { L with svc := { L.svc with ramp := ramp } }
  let ws := fun n => M.setsFor n (decide (M.svc.demand.get n * M.speedDeg n < 0))
  let raw := Tri.ofFn fun l => Oct.ofFn fun n => M.shareOf n (ws n) (M.svc.demand.get n) l
  let budget := Tri.ofFn fun l => Oct.ofFn fun n => M.budgetNext l n ((raw.get l).get n)
  let share := Tri.ofFn fun l => Oct.ofFn fun n =>
    limited n ((budget.get l).get n) ((raw.get l).get n)
  let lim := Oct.ofFn fun n => allLanes.any fun l => (share.get l).get n != (raw.get l).get n
  { M with svc := { M.svc with
      share := share, budget := budget, sharingLim := lim
      integ := Oct.ofFn fun n =>
        if M.hasLoop n && !(lim.get n) then M.svc.integNext.get n else M.svc.integ.get n
      working := Tri.ofFn fun l => Oct.ofFn fun n => M.setWorks l n
      shortfall := M.svc.shortfall ||
        (M.mstate == 1 && fin8.any fun n => M.duty n == 3 && lim.get n) } }

/-! ### Service status (Table 3.11) and the release of a stop (R114) -/

/-- A Bool at a bit. -/
def flag (b : Bool) (k : Nat) : Nat := if b then 2 ^ k else 0

/-- SERVICE_STATUS of the services' state (Table 3.11). STEER_RAMP stays set from the ramp's begin to standstill, also once
the curvature has reached 0. (DEDUCED, log entry 43; DESIGN CHOICE, log entry 120) -/
def Lane.serviceWord (L : Lane) : Nat :=
  let v := L.svc
  let p := v.stop
  flag p.active 0 + flag p.host 1 + flag p.simplex 2 + flag p.input 3 + flag p.source 4 + flag v.limp 5 +
  flag (p.ramp && !v.standstill && !(v.steerHw && !L.hwStale)) 6 + flag v.standstill 7 + flag v.steerHw 8 + flag v.brakePed 9 +
  flag v.angleLim 10 + flag v.rateLim 11 + flag L.hwStale 12 + flag L.pedalStale 13 + flag v.loadDef 14 +
  flag v.shortfall 15 + (fin8.map fun n => flag ((v.slip.get n).st != .apply) (16 + n.val)).sum + flag p.act 24

/-- The release condition of R114 as the state stands. -/
def Lane.releaseOk (L : Lane) : Bool := L.svc.stop.active && L.svc.standstill && !L.causesLeft.any

/-- The stop ends when no cause is present (R114). -/
def Lane.releaseStop (L : Lane) : Lane :=
  if L.causesLeft.any then L else { L with svc := { L.svc with stop := {}, standHold := none } }

/-! ### Task 9: the output set (R55, R126) -/

/-- The output set of the lane (R55): demands, shares, q-axis setpoints, status, decisions, inputs. (DEDUCED, log entry 37) -/
def Lane.outputs (L : Lane) : OutSet :=
  { sender := L.id
    demand := L.svc.demand
    share := L.svc.share
    iq := Tri.ofFn fun l => Oct.ofFn fun n => (L.svc.share.get l).get n / L.mach n 6
    status := BitVec.ofNat 32 L.serviceWord
    decisions := L.vote.decisions
    inputs := L.vote.agreed
    own := L.vote.agreedOwn }

/-- The freeze: an output set not frozen by tDEAD is not offered (R56). -/
def Lane.task9 (L : Lane) (endUs : Nat) : Lane :=
  { L with vote := { L.vote with
      frozenUs := some endUs
      outSet := if endUs ≤ L.tDead then some L.outputs else none } }

/-! ### The commands -/

/-- End of a task's window from the cycle's start in µs (R116). -/
def Lane.windowEnd (L : Lane) (task : Nat) : Nat :=
  let b := match task with
    | 1 => 400
    | 2 => 420
    | 3 => 460
    | 4 => 500
    | 5 => 530
    | 6 => 550
    | 7 => 610
    | 8 => 630
    | _ => 650
  L.tAgree + (b - 360) * (L.tDead - L.tAgree) / 290

/-- The work of a task; task 6 serves the requests that arrive as commands of their own (R359). (DEDUCED, log entry 36) -/
def Lane.runTask (L : Lane) (task endUs : Nat) : Lane :=
  match task with
  | 1 => L.task1
  | 2 => L.task2
  | 3 => L.task3
  | 4 => L.task4
  | 5 => L.task5
  | 7 => L.task7
  | 8 => L.task8
  | 9 => L.task9 endUs
  | _ => L

/-- SERVICE_TASK_END (R116, R117): the tasks end in their order after tAGREE; one that ends after its window
is fault 0xAFC2, and the following tasks still run. (DEDUCED, log entry 36) -/
def execServiceTaskEnd (l : LaneId) (task endUs : Nat) (s : State) : Host.Outcome State Fault Refusal :=
  .next (s.on l fun L =>
    if L.alive && L.voting && L.vote.agreedNow && task == L.vote.tasks + 1 && decide (task ≤ 9) then
      let M := (L.toPoint endUs).runTask task endUs
      let M : Lane := { M with vote := { M.vote with tasks := task } }
      if M.windowEnd task < endUs then M.raise 0xAFC2 0 task endUs else M
    else L)

/-- What an input that has become stale does at once (Table 3.1): host silence and a source fault start the
controlled stop, a stale wheel leaves slip control, a stale load gives way to LOAD_DEFAULT. -/
def Lane.staleNow (L : Lane) (k : AgeKind) : Lane :=
  let c := L.causes
  let none_ : Causes := ⟨false, false, false, false, false⟩
  match k with
  | .curvature | .decel => L.stopFor { none_ with host := c.host }
  | .handwheel | .pedal => L.stopFor { none_ with source := c.source }
  | .wheel i =>
    if h : i.val < 8 then
      let n : Fin 8 := ⟨i.val, h⟩
      { L with svc := { L.svc with
          slip := L.svc.slip.set n { (L.svc.slip.get n) with st := .apply, cs := L.svc.clamp.get n } } }
    else L
  | .load i =>
    if 0 < L.axleWeight (i.val + 1) then { L with svc := { L.svc with loadDef := true } } else L

/-- The input's counter stands at its limit (R87). -/
def Lane.staleKind (L : Lane) : AgeKind → Bool
  | .curvature => L.curvStale
  | .decel => L.decelStale
  | .handwheel => L.hwStale
  | .pedal => L.pedalStale
  | .wheel n => L.wheelStale n.val
  | .load n => L.loadStale n.val

/-- AGE_LIMIT_REACHED (R87, R110). (DEDUCED, log entry 41) -/
def execAgeLimitReached (l : LaneId) (k : AgeKind) (s : State) : Host.Outcome State Fault Refusal :=
  .next (s.on l fun L => if L.alive && L.voting && L.staleKind k then L.staleNow k else L)

/-- STOP_HOLD_EXPIRY (R111): the held curvature starts to ramp towards 0. (DEDUCED, log entry 40) -/
def execStopHoldExpiry (l : LaneId) (s : State) : Host.Outcome State Fault Refusal :=
  .next (s.on l fun L =>
    if L.svc.stop.active && decide (L.svc.stop.holdMs ≤ 0) then
      { L with svc := { L.svc with stop := { L.svc.stop with ramp := true } } }
    else L)

/-- SLIP_HOLD_EXPIRY (R109): a wheel in HOLD passes to REAPPLY at HOLD_TIME. (DEDUCED, log entry 40) -/
def execSlipHoldExpiry (l : LaneId) (n : Fin 8) (s : State) : Host.Outcome State Fault Refusal :=
  .next (s.on l fun L =>
    let w := L.svc.slip.get n
    if w.st == .hold && decide ((L.obj 0x4109 6 : Rat) ≤ w.th) then
      { L with svc := { L.svc with slip := L.svc.slip.set n { w with st := .reapply } } }
    else L)

/-- OVERLOAD_BUDGET_EXHAUSTED (02_vote_cycle_and_fault_tolerance.md R77): the set is limited to its continuous
rating. -/
def execOverloadBudgetExhausted (l : LaneId) (n : Fin 8) (s : State) : Host.Outcome State Fault Refusal :=
  .next (s.onAll fun L =>
    if L.voting && (L.svc.budget.get l).get n == 0 then
      let row := L.svc.share.get l
      let x := row.get n
      let y := limited n 0 x
      { L with svc := { L.svc with
          share := L.svc.share.set l (row.set n y)
          sharingLim := if x = y then L.svc.sharingLim else L.svc.sharingLim.set n true } }
    else L)

/-- STOP_RELEASE (R114): the serving lane judges the condition against its last completed vote cycle, then
the write commits. -/
def execStopRelease (l : LaneId) (m : Master) (tid : Nat) (data : List Byte) (s : State) :
    Host.Outcome State Fault Refusal :=
  .next (s.on l fun L => L.writeWide m tid 0x4300 9 data L.vote.lastRelOk none false)

/-- CONTACT_WRITE (R107): a module-wide write; the value is pending for the loop once it is in force. -/
def execContactWrite (l : LaneId) (m : Master) (tid : Nat) (n : Fin 8) (data : List Byte) (s : State) :
    Host.Outcome State Fault Refusal :=
  .next (s.on l fun L => L.writeWide m tid 0x4107 (n.val + 1) data true none false)

end Sys2Proof.Machine
end

