-- ==== Sys2Proof/Machine/Checks.lean ====
section
/-! DEFINITION. The checks of a configuration (12_dictionary_index.md R526, Table 12.14): the actuator map,
cycle points, curves, carriers and machines, position sensing, gate drive, DC link, safety inputs, service
relations, input placements and the schedule. -/

namespace Sys2Proof.Machine

/-- One failing item: code, DETAIL_ID, DETAIL_VAL. -/
abbrev CfgFail := Nat × Nat × Nat

/-- Number of the first rule of a list that fails, counting from 1. -/
def firstFail (l : List Bool) : Option Nat := (l.findIdx? fun b => !b).map (· + 1)

/-- The failing items among numbered ones. -/
def failsOf {α : Type} (l : List α) (rules : α → List Bool) (code : α → Nat) : List CfgFail :=
  l.filterMap fun x => (firstFail (rules x)).map fun r => (code x, r, 0)

/-- Bridge entry of actuator `n` in lane `l`, 0xFF none (01_three_lanes_one_module.md R32). -/
def Lane.entryOf (L : Lane) (l : LaneId) (n : Fin 8) : Nat := L.obj (actIdx n 0) (3 + l.num)

/-- The rules of the actuator map for one actuator (R33). -/
def Lane.mapRules (L : Lane) (n : Fin 8) : List Bool :=
  [ if L.duty n = 0 then L.sets n == 0 else decide (1 ≤ L.sets n ∧ L.sets n ≤ 3),
    (allLanes.filter fun l => L.entryOf l n != 0xFF).length == L.sets n,
    allLanes.all fun l => L.entryOf l n == 0xFF || fin8.all fun k => k == n || L.entryOf l k != L.entryOf l n,
    L.duty n != 1 || fin8.all fun k => k == n || L.duty k != 1 ]

/-- The map (R33). -/
def Lane.mapFails (L : Lane) : List CfgFail := failsOf fin8 L.mapRules fun n => 0xC002 + 0x40 * n.val

/-- The cycle points (02_vote_cycle_and_fault_tolerance.md R43). -/
def Lane.pointFails (L : Lane) : List CfgFail :=
  match L.pointsFail with
  | some i => [(0xCFC3, i, 0)]
  | none => []

/-- The rules of a stored curve, its hysteresis last (03_steering_and_braking_services.md R92). -/
def curveRules (raw : Nat) (hyst : Option (Rat × Rat)) : List Bool :=
  let x := fun i => r32 (bits raw (64 * i) 32)
  let y := fun i => r32 (bits raw (64 * i + 32) 32)
  [ (List.range 66).all fun i => finite32 (bits raw (32 * i) 32),
    decide (0 ≤ x 0),
    (List.range 32).all fun i => decide (x i < x (i + 1)),
    decide (0 ≤ y 0) && (List.range 32).all fun i => decide (y i ≤ y (i + 1)),
    match hyst with
    | some (on, off) => decide (0 ≤ off ∧ off < on ∧ on ≤ x 32)
    | none => true ]

/-- The stored curves (R92). -/
def Lane.curveFails (L : Lane) : List CfgFail :=
  failsOf fin8 (fun n => curveRules (L.obj 0x4106 (n.val + 1)) none) (fun n => 0xC004 + 0x40 * n.val) ++
  failsOf [(0xC004 + 0x40 * 32, 1), (0xC004 + 0x40 * 33, 4)]
    (fun c : Nat × Nat => curveRules (L.obj 0x4200 c.2)
      (some (L.real 0x4200 (c.2 + 1), L.real 0x4200 (c.2 + 2)))) (·.1)

/-- Mapped actuators. -/
def Lane.mappedActs (L : Lane) : List (Fin 8) := fin8.filter fun n => L.mapped n

/-- Two actuators have bridges on one field engine in some lane (04_field_engines.md R120). -/
def Lane.sharePair (L : Lane) (n k : Fin 8) : Bool :=
  allLanes.any fun l => L.entryOf l n != 0xFF && L.entryOf l k != 0xFF && L.entryOf l n / 2 == L.entryOf l k / 2

/-- The rules of the carrier, machine and current loop of an actuator (R120). -/
def Lane.machRules (L : Lane) (n : Fin 8) : List Bool :=
  let f := L.pwmFreq n
  let kt := L.mach n 6
  [ L.tVote * f % 1000000 == 0,
    L.mappedActs.all fun k => !(L.sharePair n k) || L.pwmFreq k == f,
    decide (L.mach n 0x0A ≤ (f : Rat) / 10),
    decide (absR (kt - 3 / 2 * (L.polePairs n : Rat) * L.mach n 5) ≤ kt / 10),
    decide (L.mach n 8 < L.mach n 7) ]

/-- Carriers, machines and current loops (R120). -/
def Lane.machFails (L : Lane) : List CfgFail :=
  failsOf L.mappedActs L.machRules fun n => 0xC005 + 0x40 * n.val

/-- The rules of an actuator's position sensing (05_rotor_position.md R156). -/
def Lane.posRules (L : Lane) (n : Fin 8) : List Bool :=
  let o := fun sub => L.obj (actIdx n 2) sub
  let biss := o 1 == 1
  [ biss || L.polePairs n % o 2 == 0,
    decide (L.posReal n 9 < L.posReal n 8),
    decide (L.posReal n 0x0D < L.mach n 7),
    !biss || decide (((o 4 + o 3 + 11 : Nat) : Rat) / (o 5 : Rat) + 2 ≤ 600000 / (L.pwmFreq n : Rat)) ]

/-- Position sensing (R156). -/
def Lane.posFails (L : Lane) : List CfgFail :=
  failsOf L.mappedActs L.posRules fun n => 0xC006 + 0x40 * n.val

/-- The rules of an own bridge's gate drive (06_gate_drive_and_bridge_protection.md R215). -/
def Lane.gateRules (L : Lane) (b : Fin 8) : List Bool :=
  match L.actOf b with
  | none => []
  | some n =>
    let o := fun sub => L.obj (L.brIdx b 2) sub
    let t := 1000000000 / (L.pwmFreq n : Rat)
    let oc := L.real (L.brIdx b 2) 0x0B
    [ decide (2 * deadTicks (o 1) + 100 ≤ 3 / 200 * t),
      decide (o 2 + 20 ≤ o 1),
      decide (6 / 5 * L.mach n 7 ≤ oc) && decide (oc ≤ 19 / 20 * L.fullScale b),
      decide (o 3 ≤ o 7 ∧ o 7 ≤ o 4),
      decide (o 5 ≤ o 8 ∧ o 8 ≤ o 6) ]

/-- Gate drive (R215). -/
def Lane.gateFails (L : Lane) : List CfgFail := failsOf fin8 L.gateRules fun b => 0xC007 + 0x40 * b.val

/-- The rules of the lane's DC link (07_dc_link_and_braking_energy.md R220). -/
def Lane.linkRules (L : Lane) : List Bool :=
  let v := L.dcReal
  let regen := ((fin8.filter fun n => (L.bridgeOf L.id n).isSome).map fun n => L.mach n 0x0E).sum
  [ decide (v 9 + v 0x0A < v 8), decide (v 8 < v 1 - v 2), decide (v 1 + 1 ≤ v 3), decide (v 3 + 1 ≤ v 4),
    decide (v 4 + 1 ≤ v 5), decide (v 6 < v 3 - v 1),
    L.obj (L.dcIdx 0) 0x0B != 1 || decide (regen ≤ v 0x0E) ]

/-- The DC link (R220). -/
def Lane.linkFails (L : Lane) : List CfgFail := failsOf [()] (fun _ => L.linkRules) fun _ => 0xCF88

/-- The rules of one safety input that objects name (13_safety_inputs_and_seal.md R391). -/
def Lane.inputRules (L : Lane) (i : Fin 8) : List Bool :=
  let off := L.obj 0x2400 (i.val + 1) % 4 == 0
  let s := L.obj 0x4100 8
  [ !(off && L.obj 0x4000 1 == 2 && L.obj 0x4000 2 == i.val),
    !(off && L.obj 0x4100 1 == 2 && L.obj 0x4100 2 == i.val),
    !(off && L.obj 0x4300 6 == i.val),
    !(off && L.obj 0x4100 4 == 1 && decide (s ≤ i.val ∧ i.val ≤ s + 2)) ]

/-- Safety inputs named while off (R391). -/
def Lane.inputFails (L : Lane) : List CfgFail := failsOf fin8 L.inputRules fun i => 0xC009 + 0x40 * i.val

/-- The service relations (03_steering_and_braking_services.md R527). -/
def Lane.serviceFails (L : Lane) : List CfgFail :=
  failsOf [()] (fun _ =>
    [ decide (L.real 0x4109 2 < L.real 0x4109 1),
      (List.range 12).all fun i =>
        L.wheelNum i == 0 ||
        (match L.input (L.wheelNum i) with
         | some d => d.cls == .sequenced
         | none => false) ]) fun _ => 0xCFCB

/-- A placement names a used static slot with RX set, and its record lies in that slot's payload
(02_vote_cycle_and_fault_tolerance.md R533); `get` reads the schedule. -/
def placeOk (get : Nat → Nat → Nat) (v : Nat) : Bool :=
  let ch : Chan := if bit v 31 then .Y else .X
  let slot := bits v 16 8
  let n := get 0x4800 (match ch with
    | .X => 9
    | .Y => 10)
  let d := slotDesc (get (slotObj ch slot).1 (slotObj ch slot).2)
  decide (slot < n) && d.port != 7 && d.rx && decide (bits v 0 10 + 16 ≤ d.len)

/-- The input placements (R533). -/
def Lane.placeFails (L : Lane) (get : Nat → Nat → Nat) : List CfgFail :=
  ((List.range 254).map (· + 1)).filterMap fun nn =>
    let v := L.obj 0x2621 nn
    if v = 0xFFFFFFFF ∨ placeOk get v then none else some (0xCFCC, nn, 0)

/-! ### The schedule (08_tsuvas_network.md R283) -/

/-- Descriptors of the slots of a channel that are in use, with their segment and number (Table 8.6). -/
def Lane.slotsOf (L : Lane) (ch : Chan) : List (Bool × Nat × SlotDesc) :=
  (((List.range (L.nStatic ch)).map fun k => (false, k, L.slot ch k)) ++
   ((List.range (L.nSvc ch)).map fun k => (true, k, L.svcSlot ch k))).filter fun x => x.2.2.port != 7

/-- Both channels' slots in use. -/
def Lane.slotsAll (L : Lane) : List (Chan × Bool × Nat × SlotDesc) :=
  (L.slotsOf .X).map (fun x => (.X, x)) ++ (L.slotsOf .Y).map fun x => (.Y, x)

/-- Elements of a list without repeats. -/
def distinct : List Nat → List Nat
  | [] => []
  | x :: t => if t.contains x then distinct t else x :: distinct t

/-- Words of every descriptor of the segments have their reserved bits 0. -/
def Lane.reservedZero (L : Lane) : Bool :=
  [Chan.X, Chan.Y].all fun ch =>
    ((List.range (L.nStatic ch)).all fun k =>
      decide (L.sched (slotObj ch k).1 (slotObj ch k).2 < 2 ^ 30)) &&
    ((List.range (L.nSvc ch)).all fun k => decide (L.sched (match ch with
      | .X => 0x4814
      | .Y => 0x4815) (k + 1) < 2 ^ 30))

/-- Largest less smallest of a list of numbers. -/
def spread (l : List Nat) : Nat :=
  match l with
  | [] => 0
  | x :: t => t.foldl max x - t.foldl min x

/-- Starts of the lane's own slots, static and service, in the network cycles from the start of a vote cycle on whose
first network cycle has CYCLE c modulo 8; ns from that start (R254, R257). -/
def Lane.ownStarts (L : Lane) (c : Nat) : List Nat :=
  let own := L.slotsAll.filter fun x => x.2.2.2.port == 6
  ((List.range (8 + max 1 (L.obj 0x2600 1))).map fun r =>
    (own.filter fun x => x.2.2.2.used (c + r)).map fun x =>
      r * L.cycleLen * 1000 + L.slotStart x.1 x.2.1 x.2.2.1).flatten

/-- An enabled cycle point of CP5-CP7 lies in the vote cycle; a TX_COMMIT leaves 20 microseconds before the
tREADY of the first own slot after it (rule 11 of Table 8.17). -/
def Lane.cyclePointOk (L : Lane) (v : Nat) : Bool :=
  let ofs := bits v 0 16
  !(bit v 31) ||
  (decide (ofs < L.tVote) &&
   (bits v 24 4 != 1 || (List.range 8).all fun j =>
    match ((L.ownStarts (j * L.obj 0x2600 1 % 8)).filter fun x => decide (ofs * 1000 ≤ x)).min? with
    | some x => decide (ofs * 1000 + 25000 ≤ x)
    | none => true))

/-- The rules of Table 8.17 in their order. (DEDUCED, log entry 75) -/
def Lane.schedRules (L : Lane) : List Bool :=
  let all := L.slotsAll
  let owners := fun (p : SlotDesc → Bool) => distinct ((all.filter fun x => p x.2.2.2).map (·.2.2.2.owner))
  let cold := owners (·.cstart)
  let sync := owners (·.sync)
  let own := all.filter fun x => x.2.2.2.port == 6
  let coldPorts := (all.filter fun x => x.1 == .X && x.2.2.2.cstart).map (·.2.2.2.port)
  let uses := fun (ch : Chan) (o : Nat) => all.any fun x => x.1 == ch && x.2.2.2.owner == o
  [ decide (L.cycleLen ≠ 0 ∧ 1000000 % L.cycleLen = 0 ∧ 500 ≤ L.obj 0x2600 1 * L.cycleLen),
    [Chan.X, Chan.Y].all fun ch => decide (5000 ≤ L.nit ch),
    L.reservedZero && all.all fun x =>
      if x.2.1 then x.2.2.2.len == L.svcPlen x.1
      else decide (x.2.2.2.len ≤ L.plenMax x.1) && (!x.2.2.2.sync || decide (16 ≤ x.2.2.2.len)),
    decide (2 ≤ cold.length ∧ cold.length ≤ 4) && cold.all fun o =>
      (all.any fun x => x.1 == .X && x.2.2.2.cstart && x.2.2.2.rep == 0 && x.2.2.2.owner == o) &&
      sync.contains o,
    decide (3 ≤ sync.length ∧ sync.length ≤ 8) && sync.all fun o =>
      [Chan.X, Chan.Y].all fun ch => !(uses ch o) ||
        (let m := all.filter fun x => x.1 == ch && x.2.2.2.sync && x.2.2.2.owner == o
         m.length == 1 && m.all fun x => x.2.2.2.rep == 0),
    coldPorts.all (fun p => decide (p ≤ 4) || p == 6) || coldPorts.all (· == 5),
    [Chan.X, Chan.Y].all fun ch =>
      decide (spread ((L.slotsOf ch).map fun x => L.nodeDelay ch x.2.2.owner) ≤ L.sched 0x4800 6),
    decide (20 * ((L.sched 0x4800 0x11 + L.sched 0x4800 0x13 : Nat) : Int) ≤ L.tNit) && decide (5000 ≤ L.tNit),
    (let tx := own.map (·.2.2.2.buf)
     let rx := (all.filter fun x => x.2.2.2.rx).map (·.2.2.2.buf)
     (distinct tx).length == tx.length && (distinct rx).length == rx.length),
    (all.all fun x => (x.2.2.2.port == 6) == (x.2.2.2.owner == L.sched 0x4800 3)) &&
      (own.any fun x => x.2.2.2.sync) == L.nodeRole 0 && (own.any fun x => x.2.2.2.cstart) == L.nodeRole 1 &&
      own.all fun x => x.2.1 || x.2.2.2.sync || x.2.2.2.cstart ||
        (2 ^ x.2.2.2.rep == L.obj 0x2600 1 && x.2.2.2.ofs == 0),
    [6, 7, 8].all fun k => L.cyclePointOk (L.sched 0x4802 k) ]

/-- SCHED_STATUS of the loaded schedule (R283). -/
def Lane.schedCode (L : Lane) : Nat := (firstFail L.schedRules).getD 0

/-! ### Running the checks -/

/-- The failing items of a check, by the KIND of its codes (Table 12.14). -/
def Lane.checkFails (L : Lane) (get : Nat → Nat → Nat) (kind : Nat) : List CfgFail :=
  match kind with
  | 2 => L.mapFails
  | 3 => L.pointFails
  | 4 => L.curveFails
  | 5 => L.machFails
  | 6 => L.posFails
  | 7 => L.gateFails
  | 8 => L.linkFails
  | 9 => L.inputFails
  | 11 => L.serviceFails
  | 12 => L.placeFails get
  | _ => []

/-- A check runs: its faults hold for the items that fail now, one event for each (R526). -/
def Lane.runCheck (get : Nat → Nat → Nat) (L : Lane) (kind : Nat) : Lane :=
  let fails := L.checkFails get kind
  let M : Lane := { L with flog := { L.flog with cfg := L.flog.cfg.filter fun c => c.toNat % 64 != kind } }
  fails.foldl (fun M f => M.cfgFault f.1 f.2.1 f.2.2) M

/-- Every check of a selected configuration set. -/
def Lane.checkAll (L : Lane) : Lane := [2, 3, 4, 5, 6, 7, 8, 9, 11, 12].foldl (Lane.runCheck L.sched) L

/-- The checks that a commit of an object brings about. (DEDUCED, log entry 76) -/
def checksFor (idx sub : Nat) : List Nat :=
  if 0x2800 ≤ idx ∧ idx < 0x3000 then
    match idx % 0x100 with
    | 0 => if sub ≤ 5 then [2] else if 0x10 ≤ sub then [11] else []
    | 1 => if sub = 1 ∨ sub = 7 ∨ sub = 0x0B then [5, 6] else [5]
    | 2 => [6]
    | _ => []
  else if 0x3000 ≤ idx ∧ idx < 0x3600 then (if idx % 0x40 = 2 then [7] else [])
  else if 0x3800 ≤ idx ∧ idx < 0x3830 then [8]
  else if idx = 0x2600 then (if sub ≤ 6 then [3] else [])
  else if idx = 0x2400 then [9]
  else if idx = 0x2621 then [12]
  else if idx = 0x4106 ∨ idx = 0x4200 then [4, 9, 11]
  else if 0x4000 ≤ idx ∧ idx ≤ 0x4300 then [9, 11]
  else []

/-- What follows a value's coming into force: the checks that name its object. -/
def Lane.afterWrite (L : Lane) (idx sub : Nat) : Lane :=
  (checksFor idx sub).foldl (Lane.runCheck L.sched) L

end Sys2Proof.Machine
end

