-- ==== Sys2Proof/Machine/SafetyIo.lean ====
section
/-! DEFINITION. Safety inputs, test pulses, safety reset, the seal, stored sets and the DS2 password
(chapter 13). -/

namespace Sys2Proof.Machine

/-- SI_MODE of input `i` (13_safety_inputs_and_seal.md R389). -/
def Lane.siMode (L : Lane) (i : Fin 8) : Nat := L.obj 0x2400 (i.val + 1)

/-- The state two channel levels give in a mode: active, inactive, or none for a disagreement
(Table 13.1). -/
def inputState (mode : Nat) (c1 c2 : Bool) : Option Bool :=
  match mode % 4 with
  | 1 => if c1 = c2 then some c1 else none
  | 2 => if c1 = c2 then none else some c1
  | _ => none

/-- N, the discrepancy time in samples (R392). -/
def Lane.discSamples (L : Lane) (i : Fin 8) : Nat := 4 * L.obj 0x2401 (i.val + 1)

/-- One input at a sample (R390, R392, R394): a changed mode drops value and count, an agreeing sample
gives the value, a disagreeing one counts from s0. An input that is off is not sampled. -/
def SafeIn.sample (x : SafeIn) (mode : Nat) (c1 c2 : Bool) : SafeIn :=
  let y : SafeIn :=
    if x.modeUsed = mode then x else { x with has := false, value := false, dis := none }
  let z : SafeIn := { y with modeUsed := mode, ch1 := c1, ch2 := c2 }
  if mode % 4 = 0 then { z with has := false, value := false, dis := none }
  else match inputState mode c1 c2 with
    | some v => { z with value := v, has := true, dis := none }
    | none => { z with dis := some (match y.dis with
        | some k => k + 1
        | none => 0) }

/-- The value as of the last sample taken at least 5 microseconds before an instant, none before the first agreeing
sample (R390). -/
def SafeIn.asOf (x : SafeIn) (ns : Nat) : Option Bool :=
  if ns < x.atNs + 5000 then x.was else if x.has then some x.value else none

/-- An input with the value it had noted before a sample at an instant (R390). -/
def SafeIn.note (x : SafeIn) (ns : Nat) : SafeIn :=
  { x with was := if x.has then some x.value else none, atNs := ns }

/-- The copy of an input is valid (R390, SI_VALID): on, an agreeing sample taken, no fault latched. -/
def Lane.siValid (L : Lane) (i : Fin 8) : Bool :=
  let x := L.safe.inp.get i
  L.siMode i % 4 != 0 && x.has && !x.disc && !x.tp

/-- Whether input `i` selects test-pulse output `o` (R395); false is x_TPO0, true x_TPO1. -/
def Lane.selects (L : Lane) (o : Bool) (i : Fin 8) : Bool :=
  L.siMode i / 4 % 4 == (if o then 2 else 1)

/-- Whether any input selects the output. -/
def Lane.tpoUsed (L : Lane) (o : Bool) : Bool := fin8.any (L.selects o)

/-- A test-pulse output of the lane. -/
def Safe.tpo (x : Safe) (o : Bool) : Tpo := if o then x.tpo1 else x.tpo0

/-- The outputs with one replaced. -/
def Safe.setTpo (x : Safe) (o : Bool) (t : Tpo) : Safe :=
  if o then { x with tpo1 := t } else { x with tpo0 := t }

/-- The lane with one input replaced. -/
def Lane.setIn (L : Lane) (i : Fin 8) (x : SafeIn) : Lane :=
  { L with safe := { L.safe with inp := L.safe.inp.set i x } }

/-- A test-pulse fault of input `i` latches, channel in the detail (R396, R398). -/
def Lane.latchTp (L : Lane) (i : Fin 8) (channel : Nat) : Lane :=
  let x := L.safe.inp.get i
  if x.tp then L
  else (L.setIn i { x with tp := true }).raise (0x8002 + 0x40 * i.val) 2 channel

/-- A read-back of a selected output (R396): two consecutive failures latch a fault of the output and
of every input that selects it. -/
def Lane.readBack (L : Lane) (o ok : Bool) : Lane :=
  let t := L.safe.tpo o
  if L.tpoUsed o = false then L
  else if ok then { L with safe := L.safe.setTpo o ({ t with run := 0 }) }
  else
    let M : Lane := { L with safe := L.safe.setTpo o ({ t with run := t.run + 1 }) }
    if 2 ≤ t.run + 1 ∧ t.latched = false then
      let u : Tpo := { M.safe.tpo o with latched := true }
      let K : Lane := { M with safe := M.safe.setTpo o u }
      let K := K.raise (if o then 0x8281 else 0x8241) 2
      fin8.foldl (fun J i => if J.selects o i then J.latchTp i 0 else J) K
    else M

/-- The outputs drive high while an input selects them, outside their pulses (R395). -/
def Lane.tpoRest (L : Lane) : Lane :=
  let t0 : Tpo := { L.safe.tpo0 with level := L.tpoUsed false }
  let t1 : Tpo := { L.safe.tpo1 with level := L.tpoUsed true }
  { L with safe := { L.safe with tpo0 := t0, tpo1 := t1 } }

/-- x_SRST at a sample (R399, R400): a press starts a count, a release ends it with its length; a
level that is active at the first sample after a start counts for nothing until it falls. -/
def Lane.sampleSrst (L : Lane) (lv : Bool) : Lane :=
  let x := L.safe
  if x.sampled = false then
    let M : Lane := { L with safe := { x with
      sampled := true, srst := lv, atStart := lv, press := none, released := none, stuck := false } }
    if lv then M.raise 0x8202 0 else M
  else if lv then
    { L with safe := { x with
        srst := true, released := none
        press := if x.atStart then none
          else if x.srst then x.press.map (· + 1) else some 0 } }
  else
    { L with safe := { x with
        srst := false, atStart := false, press := none
        released := if x.stuck then none else x.press.map (· + 1)
        stuck := false } }

/-- The seal at a sample (R402): SEAL falls at the first sample that does not read open. -/
def Lane.sampleSeal (L : Lane) (s1 s2 : Bool) : Lane :=
  let x := L.safe
  { L with safe := { x with
      openRun := if s1 && !s2 then x.openRun + 1 else 0
      sealOpen := x.sealOpen && s1 && !s2
      equalRun := if s1 = s2 then x.equalRun + 1 else 0
      disagree := x.disagree && decide (s1 = s2) } }

/-- The monitor samples (R388): from the PLL step on, until STANDBY or OFF. -/
def Lane.sampling (L : Lane) : Bool :=
  !L.pwr.nrst && L.pwr.vinOn && decide (3 ≤ L.pwr.step) &&
  (L.pwr.state == .starting || L.pwr.state == .hold || L.pwr.state == .run)

/-- SAFETY_SAMPLE: inputs, read-backs, x_SRST and the seal (R388-R402). In STANDBY only the seal is
sampled, while the monitor domain is powered. -/
def Lane.sample (L : Lane) (n : Nat) (p : SafetyPins) : Lane :=
  if L.sampling then
    let M := (L.advance (n * 250000)).tpoRest
    let M := { M with safe := { M.safe with
        inp := Oct.ofFn fun i => ((M.safe.inp.get i).note (n * 250000)).sample (M.siMode i) (p.ch1.get i) (p.ch2.get i) } }
    let M := (M.readBack false p.back0).readBack true p.back1
    (M.sampleSrst p.srst).sampleSeal p.seal1 p.seal2
  else if L.pwr.state = .standby ∧ L.pwr.monUp then L.sampleSeal p.seal1 p.seal2
  else L

/-- SAFETY_SAMPLE (R388). -/
def execSafetySample (l : LaneId) (n : Nat) (p : SafetyPins) (s : State) :
    Host.Outcome State Fault Refusal :=
  .next (s.on l fun L => L.sample n p)

/-- DISCREPANCY_FAULT (R392, R398): the channels still disagree at s0 + N + 1. -/
def execDiscrepancyFault (l : LaneId) (i : Fin 8) (s : State) : Host.Outcome State Fault Refusal :=
  .next (s.on l fun L =>
    let x := L.safe.inp.get i
    match x.dis with
    | some k =>
      if L.discSamples i + 1 ≤ k ∧ x.disc = false ∧ L.siMode i % 4 ≠ 0 then
        (L.setIn i { x with disc := true }).raise (0x8001 + 0x40 * i.val) 2
      else L
    | none => L)

/-- Whether the release at the last sample counts as a safety reset (R399). -/
def Lane.resetCounts (L : Lane) : Bool :=
  match L.safe.released with
  | some k => decide (200 ≤ k ∧ k ≤ 8000)
  | none => false

/-- What a safety reset does to one input: a discrepancy latch clears where the channels agree or the
input is off, a test-pulse latch clears (R401). -/
def SafeIn.reset (x : SafeIn) (off : Bool) : SafeIn :=
  { x with disc := x.disc && x.dis.isSome && !off, tp := false, run1 := 0, run2 := 0 }

/-- SAFETY_RESET (R401). -/
def execSafetyReset (l : LaneId) (s : State) : Host.Outcome State Fault Refusal :=
  .next (s.on l fun L =>
    if L.resetCounts then
      let M : Lane := { L with safe := { L.safe with
        released := none
        inp := Oct.ofFn fun i => (L.safe.inp.get i).reset (L.siMode i % 4 == 0)
        tpo0 := { L.safe.tpo0 with latched := false, run := 0 }
        tpo1 := { L.safe.tpo1 with latched := false, run := 0 } } }
      M.raise 0x8203 0
    else L)

/-- SRST_STUCK (R400): a press still active at press + 8,001 samples. -/
def execSrstStuck (l : LaneId) (s : State) : Host.Outcome State Fault Refusal :=
  .next (s.on l fun L =>
    match L.safe.press with
    | some k =>
      if 8001 ≤ k ∧ L.safe.stuck = false then
        ({ L with safe := { L.safe with stuck := true } } : Lane).raise 0x8201 0
      else L
    | none => L)

/-- SEAL_OPEN (R402, R404): 8 consecutive open samples; in RUN fault 0x8402 at level record. -/
def execSealOpen (l : LaneId) (s : State) : Host.Outcome State Fault Refusal :=
  .next (s.on l fun L =>
    if 8 ≤ L.safe.openRun ∧ L.safe.sealOpen = false then
      let M : Lane := { L with safe := { L.safe with sealOpen := true } }
      if M.pwr.state = .run then M.raise 0x8402 0 else M
    else L)

/-- SEAL_DISAGREE (R402): 400 consecutive samples with equal levels. -/
def execSealDisagree (l : LaneId) (s : State) : Host.Outcome State Fault Refusal :=
  .next (s.on l fun L =>
    if 400 ≤ L.safe.equalRun ∧ L.safe.disagree = false then
      ({ L with safe := { L.safe with disagree := true } } : Lane).raise 0x8401 0
    else L)

/-- Start of pulse `n` of an output in network time: 50 microseconds after a multiple of 20 ms, offset
by 10 ms for x_TPO1 (R395). -/
def pulseStart (o : Bool) (n : Nat) : Nat := n * 20000000 + (if o then 10000000 else 0) + 50000

/-- TEST_PULSE (R395): a selected output drives low. -/
def execTestPulse (l : LaneId) (o : Bool) (n : Nat) (s : State) : Host.Outcome State Fault Refusal :=
  .next (s.on l fun L =>
    if L.sampling then
      let M := L.advance (pulseStart o n)
      { M with safe := M.safe.setTpo o ({ M.safe.tpo o with level := false }) }
    else L)

/-- One channel of an input at the check of a pulse (R396): a channel that read high at the sample
must read low; the number of consecutive failures afterwards. -/
def chanRun (run : Nat) (before now : Bool) : Nat :=
  if before then (if now then run + 1 else 0) else run

/-- The channel checks of one input (R396). -/
def Lane.pulseIn (L : Lane) (i : Fin 8) (c1 c2 : Bool) : Lane :=
  let x := L.safe.inp.get i
  let r1 := chanRun x.run1 x.ch1 c1
  let r2 := chanRun x.run2 x.ch2 c2
  let M := L.setIn i { x with run1 := r1, run2 := r2 }
  if 2 ≤ r1 then M.latchTp i 1 else if 2 ≤ r2 then M.latchTp i 2 else M

/-- TEST_PULSE_CHECK (R396): the output must read low, and each channel it feeds; the pulse ends. -/
def execTestPulseCheck (l : LaneId) (o backLow : Bool) (ch1 ch2 : Oct Bool) (s : State) :
    Host.Outcome State Fault Refusal :=
  .next (s.on l fun L =>
    if L.sampling && L.tpoUsed o then
      (fin8.foldl (fun J i =>
        if J.selects o i && J.siMode i % 4 != 0 then J.pulseIn i (ch1.get i) (ch2.get i) else J)
        (L.readBack o backLow)).tpoRest
    else L)

/-! ### Configuration sets (R384, R405-R407) -/

/-- Every index the lane serves that holds settings, in ascending order (R406). -/
def allIdx (l : LaneId) : List Nat :=
  let plain := fun lo hi => (objRows.filter fun r => lo ≤ r.lo && r.lo < hi).foldl
    (fun acc r => if acc.getLast? = some r.lo then acc else acc ++ [r.lo]) []
  let acts := (List.range 8).flatMap fun n => (List.range 3).map fun k => 0x2800 + n * 0x100 + k
  let brs := (List.range 8).flatMap fun b => (List.range 4).map fun k =>
    0x3000 + l.num * 0x200 + b * 0x40 + k
  let dcs := (List.range 3).map fun k => 0x3800 + l.num * 0x10 + k
  plain 0 0x2331 ++ [0x2331, 0x2332] ++ plain 0x2333 0x2800 ++ acts ++ brs ++ dcs ++
    plain 0x4000 0x4B10 ++ (List.range 16).map (0x4B10 + ·) ++ (List.range 16).map (0x4B30 + ·) ++
    plain 0x4B40 0x6000

/-- Every object of a lane whose row passes a test, with index, subindex and row, ascending. -/
def objsWhere (l : LaneId) (f : Nat → Nat → ObjRow → Bool) : List (Nat × Nat × ObjRow) :=
  (allIdx l).flatMap fun idx => (rowsOf l idx).flatMap fun r =>
    ((List.range (r.shi + 1 - r.slo)).map (r.slo + ·)).filterMap fun sub =>
      if (findObj l idx sub).isSome && f idx sub r then some (idx, sub, r) else none

/-- The value a set-kept object has, with CP0-CP4 following the cycle points
(08_tsuvas_network.md Table 8.16). -/
def Lane.setValue (L : Lane) (idx sub : Nat) : Nat :=
  if idx = 0x4802 ∧ sub ≤ 5 then 0x8F000000 + L.obj 0x2600 (sub + 1) else L.obj idx sub

/-- The bytes CRC-32 runs over for a list of objects (R406). -/
def Lane.objBytes (L : Lane) (os : List (Nat × Nat × ObjRow)) : List Byte :=
  os.flatMap fun o => toBytes ((o.2.2.ty.size).getD 0) (L.setValue o.1 o.2.1)

/-- SET_CRC of the lane's working set-kept values; 0 is stored as 1 (R406). -/
def Lane.setCrc (L : Lane) : Nat :=
  let c := crc32 (L.objBytes (objsWhere L.id fun _ _ r => r.kept == .cfg))
  if c = 0 then 1 else c

/-- CFG_DIGEST: the CRC over every module-wide object with access RW, RWS or RWP
(11_dictionary_access.md R354). -/
def Lane.cfgDigest (L : Lane) : Nat :=
  crc32 (L.objBytes (objsWhere L.id fun idx sub r =>
    isWide idx sub && (r.acc == .rw || r.acc == .rws || r.acc == .rwp)))

/-- The set-kept part of the working values. -/
def Lane.cfgVals (L : Lane) : Store :=
  L.dict.working.filter fun p =>
    match findObj L.id (p.1 / 256) (p.1 % 256) with
    | some r => r.kept == .cfg
    | none => false

/-- A list with the entry at a place replaced. -/
def listSet {α : Type} : List α → Nat → α → List α
  | [], _, _ => []
  | _ :: t, 0, a => a :: t
  | h :: t, n + 1, a => h :: listSet t n a

/-- CHK_OK: the set was restored and CHK_IN is the low byte of its SET_CRC (R407). -/
def Lane.evalChk (L : Lane) : Lane :=
  let crc := ((L.dict.sets[L.safe.setSel]?).map fun x => x.crc.toNat).getD 0
  { L with safe := { L.safe with
      chkOk := L.safe.restored && decide (L.safe.setSel < 4) && L.safe.chkIn == crc % 256 } }

/-- Working values stored as set `n`, SET_CRC updated, CHK_OK re-evaluated where the set is the
selected one (R384, R406, R407). -/
def Lane.storeSet (L : Lane) (n : Nat) : Lane :=
  let st : StoredSet := { vals := L.cfgVals, crc := BitVec.ofNat 32 L.setCrc, intact := true }
  let M : Lane := { L with dict := { L.dict with sets := listSet L.dict.sets n st } }
  if L.safe.setSel = n then M.evalChk else M

/-- SET_CRC of set `n` (Table 12.11). -/
def Lane.crcOfSet (L : Lane) (n : Nat) : W32 := ((L.dict.sets[n]?).map (·.crc)).getD 0

/-- SET_STORE (12_dictionary_index.md R384): accepted only while the seal reads open. -/
def execSetStore (l : LaneId) (m : Master) (tid : Nat) (data : List Byte) (s : State) :
    Host.Outcome State Fault Refusal :=
  .next (s.on l fun L => L.write m tid 0x2404 5 data true fun K => K.storeSet (ofBytes data))

/-! ### The DS2 compatibility method (R408-R411) -/

/-- MASTER_ID of a change-log entry (Table 13.3). -/
def Lane.masterId (L : Lane) (m : Master) : Nat :=
  if m = .sideBand then L.sb.sessions.toNat % 65536 else L.ds2.hostSrc

/-- One entry of the change log, the newest first, 64 kept (R411). (DEDUCED, log entry 61) -/
def Lane.logChange (L : Lane) (kind : Nat) (m : Master) (idx sub len old new ns : Nat) : Lane :=
  let e : Change :=
    { ns := ns, kind := kind, m := m, tstate := L.recState, masterId := L.masterId m, idx := idx
      sub := sub, len := len, old := BitVec.ofNat 32 old, new := BitVec.ofNat 32 new
      seq := L.ds2.seq }
  { L with ds2 := { L.ds2 with log := (e :: L.ds2.log).take 64, seq := L.ds2.seq + 1 } }

/-- A master unlocked or locked. -/
def Ds2.setUnlock (d : Ds2) (m : Master) (v : Bool) : Ds2 :=
  match m with
  | .host => { d with unlockHost := v }
  | .sideBand => { d with unlockSb := v }
  | _ => d

/-- A failed password entry (R409): it is counted and raised, the third in a row blocks. -/
def Lane.pwFail (L : Lane) : Lane :=
  let M := ({ L with ds2 := { L.ds2 with fails := min (L.ds2.fails + 1) 3 } } : Lane).raise 0x8441 0
  if 3 ≤ M.ds2.fails ∧ M.ds2.blocked = false then
    ({ M with ds2 := { M.ds2 with blocked := true } } : Lane).raise 0x8442 0
  else M

/-- What DS2_PW_HASH holds for a password: the first 8 bytes of SHA-256 over it and LANE_UID, as the object's value
(R409). -/
def Lane.pwHash (L : Lane) (data : List Byte) : Nat :=
  let h := sha256 (data ++ toBytes 8 (Config.laneUid L.id).toNat)
  ofBytes (((beBytes 32 h).take 8).map (BitVec.ofNat 8))

/-- DS2_PASSWORD (R408, R409); while blocked every entry fails. A message whose ARG is not its length fails its order
(11_dictionary_access.md R358). -/
def execDs2Password (l : LaneId) (m : Master) (tid total : Nat) (data : List Byte) (s : State) :
    Host.Outcome State Fault Refusal :=
  .next (s.on l fun L =>
    if data.length ≠ total ∧ L.reaches m ∧ m ≠ .supervisory ∧ m ≠ .peer then L.segFail m tid 0x2405 2 eOrder
    else match L.writeErr m 0x2405 2 data (L.obj 0x2405 1 == 1) false with
    | some e => L.answer m tid 0x2405 2 e
    | none =>
      let L := L.sbCount m 0x2405
      if L.ds2.blocked then L.answer m tid 0x2405 2 eAuth
      else if L.obj 0x2405 6 ≠ 0 ∧ L.obj 0x2405 6 = L.pwHash data then
        ({ L with ds2 := { L.ds2.setUnlock m true with fails := 0 } } : Lane).answer m tid 0x2405 2 0
      else L.pwFail.answer m tid 0x2405 2 eAuth)

/-- DS2_STORE (R410): as SET_STORE with the RWP condition in place of the seal, entered in the change
log. -/
def execDs2Store (l : LaneId) (m : Master) (tid : Nat) (data : List Byte) (s : State) :
    Host.Outcome State Fault Refusal :=
  .next (s.on l fun L => L.write m tid 0x2405 5 data true fun K =>
    let n := ofBytes data
    let old := (K.crcOfSet n).toNat
    let M := K.storeSet n
    let M : Lane := { M with ds2 := { M.ds2 with lastStore := n } }
    M.logChange 2 m 0x2404 n 1 old (M.crcOfSet n).toNat M.recTime)

/-- DS2_LOCK (R409). -/
def execDs2Lock (l : LaneId) (m : Master) (tid : Nat) (data : List Byte) (s : State) :
    Host.Outcome State Fault Refusal :=
  .next (s.on l fun L => L.write m tid 0x2405 8 data true fun K =>
    { K with ds2 := K.ds2.setUnlock m false })

/-- DS2_BLOCK_EXPIRY (R409): 60 s after blocking entries are allowed again; only a success resets the
failure count. -/
def execDs2BlockExpiry (l : LaneId) (s : State) : Host.Outcome State Fault Refusal :=
  .next (s.on l fun L =>
    { L with ds2 := { L.ds2 with blocked := false } })

/-- DS2_UNLOCK_TIMEOUT (R409). -/
def execDs2UnlockTimeout (l : LaneId) (m : Master) (s : State) : Host.Outcome State Fault Refusal :=
  .next (s.on l fun L => { L with ds2 := L.ds2.setUnlock m false })

end Sys2Proof.Machine
end

