-- ==== Sys2Proof/Machine/Commit.lean ====
section
/-! DEFINITION. Module-wide commits: votes at tCLOSE, the decision at tAGREE, the values in force from the
next vote cycle (11_dictionary_access.md R349-R354). -/

namespace Sys2Proof.Machine

/-! ### Votes (R350) -/

/-- Whether the access code lets the lane take the write (R350): an RWS object needs the lane's own seal
open, a write by the RWP condition DS2 compatibility mode in the lane. -/
def Lane.voteAccess (L : Lane) (c : Commit) (acc : Acc) : Option W32 :=
  let ds2 := L.obj 0x2405 1 == 1
  match acc with
  | .rws => if (if c.rwp then ds2 else L.safe.sealOpen) then none else some eSeal
  | .rwp => if ds2 then none else some eSeal
  | .ro => some eWriteRo
  | _ => none

/-- The carrier of an actuator may be written in this lane: PWM_FREQ, INTERLEAVE, PHASE_BASE and POLE_PAIRS only while
its bridge here is DISABLED (04_field_engines.md R122). (DEDUCED, log entry 102) -/
def Lane.carrierFree (L : Lane) (idx sub : Nat) : Bool :=
  if 0x2800 ≤ idx ∧ idx < 0x3000 ∧ idx % 256 = 1 ∧ (sub = 1 ∨ sub = 0x0B ∨ sub = 0x0C ∨ sub = 0x0D) then
    match (fin8.find? fun n => actIdx n 1 == idx).bind (L.bridgeOf L.id) with
    | some b => (L.bridges.get b).mode == .disabled
    | none => true
  else true

/-- A value of Table 4.1 that a commit replaces serves the field engines until tAPPLY (04_field_engines.md R122). -/
def Lane.holdField (L : Lane) (idx sub : Nat) : Lane :=
  if 0x2800 ≤ idx ∧ idx < 0x3000 ∧ idx % 256 = 1 ∧ !(L.dict.held.any fun p => p.1 == okey idx sub) then
    { L with dict := { L.dict with held := L.dict.held ++ [(okey idx sub, L.obj idx sub)] } }
  else L

/-- The code of a no vote on one write, none for yes (R350). (DEDUCED, log entry 102) -/
def Lane.voteItem (L : Lane) (c : Commit) (i : CommitItem) : Option W32 :=
  match findObj L.id i.idx i.sub with
  | none => some eNoObject
  | some r =>
    if isWide i.idx i.sub = false then some eNoObject
    else match L.voteAccess c r.acc with
      | some e => some e
      | none =>
        if i.idx = 0x4300 ∧ i.sub = 9 ∧ L.vote.lastRelOk = false then some eState
        else if L.carrierFree i.idx i.sub = false then some eState
        else rangeErr r.rng i.sub i.raw

/-- The lane's vote on a commit it holds (R350, R351). -/
def Lane.voteOn (L : Lane) (c : Commit) : Vote :=
  let no := c.items.filterMap (L.voteItem c)
  { server := c.server, ctr := c.ctr, yes := no.isEmpty && !c.full, code := no.headD 0, items := c.items }

/-- The votes that the lane enters at tCLOSE, on the commits whose voting cycle this is (R351). -/
def Lane.votes (L : Lane) : List Vote :=
  (L.dict.known.filter fun c => c.cycle == L.vote.cycle && c.decided.isNone).map L.voteOn

/-! ### The decision (R351) -/

/-- The same commit in two votes. -/
def Vote.same (v w : Vote) : Bool := v.server == w.server && v.ctr == w.ctr

/-- The commits that the votes of the agreed input set name, each once. -/
def namedVotes (own : Tri (Option PerLane)) : List Vote :=
  let all := (allLanes.map fun l => ((own.get l).map (·.votes)).getD []).flatten
  all.foldl (fun acc v => if acc.any v.same then acc else acc ++ [v]) []

/-- The vote of a lane on a commit; no code where it holds none. -/
def voteOf (p : PerLane) (c : Vote) : Bool × W32 :=
  match p.votes.find? c.same with
  | some v => (v.yes, v.code)
  | none => (false, 0)

/-- The first rule of R351: the serving lane's set took part, and every lane that took part voted yes. -/
def voteMeets (own : Tri (Option PerLane)) (c : Vote) : Bool :=
  (own.get c.server).isSome &&
  allLanes.all fun l => match own.get l with
    | some p => (voteOf p c).1
    | none => true

/-- The code of a commit that fails without a conflict: the first no vote that gives one, else 0x0D000004. -/
def voteCode (own : Tri (Option PerLane)) (c : Vote) : W32 :=
  let codes := allLanes.filterMap fun l =>
    (own.get l).bind fun p => if (voteOf p c).1 || (voteOf p c).2 == 0 then none else some (voteOf p c).2
  if (own.get c.server).isNone then eNotCommitted else codes.headD eNotCommitted

/-- Order of the commits of one voting cycle: serving lane, then order of preparation. -/
def Vote.before (v w : Vote) : Bool :=
  if v.server = w.server then decide (0 < (w.ctr - v.ctr).toNat) && decide ((w.ctr - v.ctr).toNat ≤ 32767)
  else decide (v.server.num < w.server.num)

/-- A commit names an object. -/
def Vote.names (v : Vote) (i : CommitItem) : Bool := v.items.any fun j => j.idx == i.idx && j.sub == i.sub

/-- A commit gives an object a value. (DEDUCED, log entry 49) -/
def Vote.gives (v : Vote) (i : CommitItem) : Bool :=
  v.items.any fun j => j.idx == i.idx && j.sub == i.sub && j.raw == i.raw

/-- The commits of the cycle give an object different values (R351). (DEDUCED, log entry 49) -/
def itemConflict (cs : List Vote) (i : CommitItem) : Bool := cs.any fun v => v.names i && !v.gives i

/-- No commit that names the object comes before this one. -/
def itemFirst (cs : List Vote) (v : Vote) (i : CommitItem) : Bool :=
  !(cs.any fun w => w.names i && w.before v)

/-- A write of a commit would succeed: a commit with the same object and value meets the votes and, in a
conflict, comes first (R351). -/
def itemOk (own : Tri (Option PerLane)) (cs : List Vote) (i : CommitItem) : Bool :=
  cs.any fun v => v.gives i && voteMeets own v && (!itemConflict cs i || itemFirst cs v i)

/-- The outcome of a commit: none when it succeeds, else its code (R351). -/
def commitOutcome (own : Tri (Option PerLane)) (cs : List Vote) (c : Vote) : Option W32 :=
  let bad := c.items.filter fun i => !itemOk own cs i
  if bad = [] ∧ c.items ≠ [] then none
  else if bad.any fun i => itemConflict cs i && !itemFirst cs c i then some eConflict
  else some (voteCode own c)

/-- The serving lane answers each write of a commit and closes its transactions (R352). -/
def Lane.answerCommit (L : Lane) (c : Commit) (code : W32) : Lane :=
  c.items.foldl (fun L i =>
    ({ L with dict := L.dict.closeTxn c.m } : Lane).answer c.m i.tid i.idx i.sub code) L

/-- One commit decided in a lane (R351, R352, R354): CFG_GEN and COMMITS rise with a success,
COMMIT_FAILS with a failure. -/
def Lane.decideOne (L : Lane) (v : Vote) (out : Option W32) : Lane :=
  let hit := fun c : Commit => c.server == v.server && c.ctr == v.ctr
  let held := L.dict.known.find? hit
  let mark := fun c : Commit => if hit c then { c with decided := some true } else c
  let d := L.dict
  let d : Dict := match out with
    | none => { d with
        known := d.known.map mark, commits := satInc d.commits, cfgGen := d.cfgGen + 1 }
    | some _ => { d with
        known := d.known.filter fun c => !hit c
        commitFails := satInc d.commitFails }
  let M : Lane := { L with
    dict := { d with outbox := d.outbox.filter fun c => !hit c }
    svc := { L.svc with cfgGen := d.cfgGen }
    vote := { L.vote with decisions := L.vote.decisions ++ [(v.server, v.ctr, out.isNone)] } }
  match held with
  | some c => if v.server = L.id then M.answerCommit c (out.getD 0) else M
  | none => M

/-- Every commit of the voting cycle decided, from the agreed input set alone (R351). -/
def Lane.decideCommits (L : Lane) : Lane :=
  let own := L.vote.agreedOwn
  let cs := namedVotes own
  cs.foldl (fun M v => M.decideOne v (commitOutcome own cs v)) L

/-! ### In force (R352) -/

/-- A committed contact position is pending for the loop (03_steering_and_braking_services.md R107). -/
def Lane.contactWritten (L : Lane) (i : CommitItem) : Lane :=
  if h : 1 ≤ i.sub ∧ i.sub ≤ 8 then
    let n : Fin 8 := ⟨i.sub - 1, by omega⟩
    let c := L.svc.contact.get n
    { L with svc := { L.svc with contact := L.svc.contact.set n { c with pending := some (r32 i.raw) } } }
  else L

/-- One committed write comes into force at the start of M + 1 (R352, R354); the serving lane enters a
window write in its change log (13_safety_inputs_and_seal.md R411). -/
def Lane.force (L : Lane) (c : Commit) (i : CommitItem) : Lane :=
  let old := L.obj i.idx i.sub
  let M :=
    if i.idx = 0x4300 ∧ i.sub = 9 then L.releaseStop
    else
      let M := (L.holdField i.idx i.sub).storeObj i.idx i.sub i.raw
      if i.idx = 0x4107 then M.contactWritten i else M
  let M := M.afterWrite i.idx i.sub
  let len := match findObj L.id i.idx i.sub with
    | some r => r.ty.size.getD 0
    | none => 0
  if c.server = L.id ∧ c.rwp then
    M.logChange 1 c.m i.idx i.sub len (old % 2 ^ 32) (i.raw % 2 ^ 32) M.vote.startNs
  else M

/-- What follows a change of the map: a bridge that it no longer names stays disabled, its front end unmapped
(01_three_lanes_one_module.md R34, 05_rotor_position.md R151). -/
def Lane.remap (L : Lane) : Lane :=
  let M : Lane := { L with fes := Oct.ofFn fun b =>
    let f := L.fes.get b
    if (L.actOf b).isSome then f else { f with asrc := .unmapped, due := none, hfiPhase := 0 } }
  M.settleAll

/-- The commits decided in the cycle before come into force; one whose voting cycle passed without a
decision has failed (R351, R352). -/
def Lane.forceCommits (L : Lane) : Lane :=
  let go := L.dict.known.filter fun c => c.decided == some true
  let late := L.dict.known.filter fun c =>
    c.decided.isNone && decide (c.cycle.toNat < L.vote.cycle.toNat)
  let gone := fun c : Commit => c.decided == some true || late.any c.same
  let M : Lane := { L with dict := { L.dict with
    known := L.dict.known.filter fun c => !gone c
    outbox := L.dict.outbox.filter fun c => !gone c } }
  let M := go.foldl (fun M c => c.items.foldl (fun M i => M.force c i) M) M
  let M := if go.isEmpty then M else M.remap
  late.foldl (fun M c => if c.server = M.id then
    ({ M with dict := { M.dict with commitFails := satInc M.dict.commitFails } } : Lane).answerCommit c
      eNotCommitted
    else M) M

end Sys2Proof.Machine
end

