-- ==== Sys2Proof/Machine/Security.lean ====
section
/-! DEFINITION. Keys, secure boot, debug access, and the side-band session (chapter 14 and
11_dictionary_access.md R362-R364). -/

namespace Sys2Proof.Machine

/-- One bit of a key-slot word. -/
def slotBit (w : BitVec 16) (n : Nat) : Bool := w.getLsbD n

/-- A slot is written and not revoked (14_security.md R417). -/
def Lane.keyOk (L : Lane) (n : Nat) : Bool := slotBit L.sec.written n && !slotBit L.sec.revoked n

/-- A slot serves frames now: a revoked slot stops at the start of the next network cycle (R419). -/
def Lane.keyServes (L : Lane) (n : Nat) : Bool := slotBit L.sec.serving n

/-- The uplink has an address family switched on (10_uplink_contracts_and_telemetry.md R318). -/
def Lane.uplinkOn (L : Lane) : Bool := L.obj 0x4A00 5 != 0 || L.obj 0x4A00 6 != 0

/-- Every key slot needed for RUN is written and not revoked (R417). -/
def Lane.keysOk (L : Lane) : Bool :=
  let tx := L.obj 0x4800 0x16
  decide (tx < 8) && L.keyOk tx && L.keyOk 10 && L.keyOk 11 &&
  (!L.uplinkOn || L.keyOk 8 || L.keyOk 9)

/-- The conditions of R386 to enter RUN. -/
def Lane.runOk (L : Lane) : Bool :=
  L.pwr.step == 9 && L.sec.bootOk && L.cfgOk && L.safe.chkOk && !L.safe.sealOpen && !L.therm.cone &&
  !L.vote.held && L.keysOk

/-- The key that a KEYPROV register brings for a slot, unwrapped under the transport key: 24 wrapped bytes of an AES
key, 72 of a P-256 public key, which must lie on the curve (R418). -/
def Lane.provKey (L : Lane) (reg : List Byte) (slot : Nat) : Option (List Byte) :=
  if slot < 11 then (unwrapKey L.sec.transport ((reg.drop 4).take 24)).map fun k => k.map (BitVec.ofNat 8)
  else
    match unwrapKey L.sec.transport ((reg.drop 4).take 72) with
    | some k =>
      if onCurve (beNat (k.take 32)) (beNat (k.drop 32)) then some (k.map (BitVec.ofNat 8)) else none
    | none => none

/-- Result of a KEYPROV update, the conditions of Table 14.3 in order (R418). -/
def Lane.keyprovResult (L : Lane) (reg : List Byte) (otpOk : Bool) : Nat :=
  let slot := ((reg[0]?).map (·.toNat)).getD 0
  let lane := ((reg[1]?).map (·.toNat)).getD 0
  if L.pwr.state = .run then 1
  else if L.safe.sealOpen = false then 2
  else if lane ≠ L.id.num ∨ 12 < slot then 3
  else if slotBit L.sec.written slot then 4
  else if (L.provKey reg slot).isNone then 5
  else if otpOk = false then 6
  else 0

/-- KEYPROV at Update-DR (R418): the slot is written only when every condition holds; byte 0 then
returns the result. (DEDUCED, log entry 91) -/
def execKeyprov (l : LaneId) (head wrapped : List Byte) (otpOk : Bool) (s : State) : Host.Outcome State Fault Refusal :=
  .next (s.on l fun L =>
    let reg := head ++ wrapped
    let r := L.keyprovResult reg otpOk
    let slot := ((reg[0]?).map (·.toNat)).getD 0
    let b := BitVec.ofNat 16 (2 ^ slot)
    if r = 0 then
      ({ L with sec := { L.sec with
          ir := 2, keyprov := 0, written := L.sec.written ||| b
          keys := L.sec.keys.set slot ((L.provKey reg slot).getD [])
          serving := L.sec.serving ||| b } } : Lane).raise 0x9181 0 slot
    else
      ({ L with sec := { L.sec with ir := 2, keyprov := r } } : Lane).raise 0x9182 0 r)

/-- IDCODE (R430): the data register captures the device identification. -/
def execJtagIdcode (l : LaneId) (s : State) : Host.Outcome State Fault Refusal :=
  .next (s.on l fun L => { L with sec := { L.sec with
    ir := 0, dr := BitVec.ofNat 64 (Config.idcode l).toNat } })

/-- BYPASS (R430): the bypass register is selected. -/
def execJtagBypass (l : LaneId) (s : State) : Host.Outcome State Fault Refusal :=
  .next (s.on l fun L => { L with sec := { L.sec with ir := 1, dr := 0 } })

/-- The present-state condition of KEY_REVOKE (R419): the mask names neither slot 10 or 11 nor the slot
of KEYID_TX, and leaves an unrevoked uplink key while one is written. -/
def Lane.revokeOk (L : Lane) (mask : Nat) : Bool :=
  let left := fun n => L.keyOk n && !bit mask n
  !bit mask 10 && !bit mask 11 && !bit mask (L.obj 0x4800 0x16) &&
  (!(slotBit L.sec.written 8 || slotBit L.sec.written 9) || left 8 || left 9)

/-- KEY_REVOKE (R419): the seal must read open; each slot named is revoked for good and stops serving at
the next network cycle. -/
def execKeyRevoke (l : LaneId) (m : Master) (tid : Nat) (data : List Byte) (s : State) :
    Host.Outcome State Fault Refusal :=
  .next (s.on l fun L => L.write m tid 0x2502 1 data (L.revokeOk (ofBytes data)) fun K =>
    let mask := ofBytes data
    let M : Lane := { K with sec := { K.sec with revoked := K.sec.revoked ||| BitVec.ofNat 16 mask } }
    (List.range 16).foldl (fun J n => if bit mask n then J.raise 0x9183 0 n else J) M)

/-- The code a read of an object by a master fails with before its value is looked at: WO objects are
not read, and while the pairs are down only what R361 names is served. -/
def Lane.readErr (L : Lane) (m : Master) (idx sub : Nat) : Option W32 :=
  if L.txnFull m then some eBusy
  else match findObj L.id idx sub with
  | none =>
    if holdsIdx L.id idx then
      (if isRecord L.id idx && sub == 0 then none else some eNoSub)
    else some eNoObject
  | some r =>
    if r.acc = .wo then some eReadWo
    else if (m != .sideBand || L.sbReach) &&
        (L.pairsUp || (m == .sideBand && L.pwr.monUp && L.pwr.state != .off &&
          (monitorHolds idx || r.kept != .no))) then none
    else some eEngine

/-- A fresh draw of the module's own count of open values. -/
def State.drawn (s : State) : State := { s with freeCtr := s.freeCtr + 1 }

/-- The 16 bytes of a debug challenge: a value drawn, then LANE_UID (R430). -/
def Lane.dbgBytes (L : Lane) (c : W64) : List Byte := toBytes 8 c.toNat ++ toBytes 8 (Config.laneUid L.id).toNat

/-- DBG_CHALLENGE (R430): bytes 0-7 drawn afresh at each read, bytes 8-15 LANE_UID. -/
def execDbgChallenge (l : LaneId) (m : Master) (tid : Nat) (s : State) :
    Host.Outcome State Fault Refusal :=
  let c := Config.draw s.freeCtr
  .next (s.drawn.on l fun L =>
    match L.readErr m 0x2501 1 with
    | some e => L.answer m tid 0x2501 1 e
    | none =>
      ({ L with sec := { L.sec with dbgChallenge := some c } } : Lane).answer m tid 0x2501 1 0
        (L.dbgBytes c))

/-- A debug response verifies over the last challenge, under Everaty's debug key, whose hash is in the factory OTP, or
under a written, unrevoked key in slot 12 (R430). (DEDUCED, log entry 91) -/
def Lane.dbgSigOk (L : Lane) (data : List Byte) : Bool :=
  match L.sec.dbgChallenge with
  | none => false
  | some c =>
    let h := sha256 (L.dbgBytes c)
    (sha256 L.sec.dbgKey == L.sec.dbgHash.toNat && ecdsaOk L.sec.dbgKey data h) ||
    (L.keyOk 12 && ecdsaOk ((L.sec.keys[12]?).getD []) data h)

/-- A refused debug response (R430): the third in a row blocks. -/
def Lane.dbgFail (L : Lane) : Lane :=
  let M := ({ L with sec := { L.sec with
    dbgFails := min (L.sec.dbgFails + 1) 3 } } : Lane).raise 0x9142 0
  if 3 ≤ M.sec.dbgFails ∧ M.sec.dbgBlocked = false then
    ({ M with sec := { M.sec with dbgBlocked := true } } : Lane).raise 0x9143 0
  else M

/-- Debug opens (R431): DEBUG set, the stop line asserted, the lane holds role OUT. -/
def Lane.dbgOpen (L : Lane) : Lane :=
  let M : Lane := L.assertStop
  ({ M with
    sec := { M.sec with debug := true, dbgFails := 0 }
    vote := { M.vote with role := .out, running := false, clean := 0, roleDue := none } } : Lane).raise
      0x9141 0

/-- DBG_RESPONSE (R430, R431): only outside RUN; each challenge admits one response. (DEDUCED, log entry 91) -/
def execDbgResponse (l : LaneId) (m : Master) (tid : Nat) (rPart sPart : List Byte) (s : State) :
    Host.Outcome State Fault Refusal :=
  .next (s.on l fun L =>
    let data := rPart ++ sPart
    match L.writeErr m 0x2501 2 data (L.pwr.state != .run) false with
    | some e => L.answer m tid 0x2501 2 e
    | none =>
      let L := L.sbCount m 0x2501
      if L.sec.dbgBlocked then L.answer m tid 0x2501 2 eAuth
      else
        let good := L.dbgSigOk data
        let M : Lane := { L with sec := { L.sec with dbgChallenge := none } }
        if good then M.dbgOpen.answer m tid 0x2501 2 0
        else M.dbgFail.answer m tid 0x2501 2 eAuth)

/-- DBG_BLOCK_EXPIRY (R430): 60 s after three failures responses are judged again; only a success
resets the count. -/
def execDbgBlockExpiry (l : LaneId) (s : State) : Host.Outcome State Fault Refusal :=
  .next (s.on l fun L => { L with sec := { L.sec with dbgBlocked := false } })

/-- Firmware banks of the lane. -/
def Sec.bank (x : Sec) (n : Nat) : Bank := if n = 1 then x.bank1 else x.bank0

/-- A bank passes secure boot (R420). -/
def Sec.bankPasses (x : Sec) (n : Nat) : Bool :=
  (x.bank n).ok && x.minFw.toNat ≤ (x.bank n).version.toNat

/-- Secure boot (R420, R422): the active bank, else the other with fault 0x9001, else fault 0x9002 with
BOOT_OK 0, which keeps the lane out of RUN (Table 14.5); a booted FLOOR above MIN_FW_VERSION raises it. -/
def Lane.secureBoot (L : Lane) : Lane :=
  let a := L.sec.active
  let o := 1 - a
  let ok0 := L.sec.bankPasses 0
  let ok1 := L.sec.bankPasses 1
  let M : Lane := { L with sec := { L.sec with bank0Ok := ok0, bank1Ok := ok1 } }
  if L.sec.bankPasses a = false ∧ L.sec.bankPasses o = false then
    ({ M with sec := { M.sec with bootOk := false } } : Lane).raise 0x9002 5
  else
    let n := if L.sec.bankPasses a then a else o
    let K : Lane := { M with sec := { M.sec with
      bootOk := true, booted := n, fallback := decide (n ≠ a), running := (M.sec.bank n).version } }
    let K := if n = a then K else K.raise 0x9001 0
    if K.sec.minFw.toNat < (K.sec.bank n).floor.toNat then
      ({ K with sec := { K.sec with minFw := (K.sec.bank n).floor } } : Lane).raise 0x9003 0
    else K

/-! ### Side-band sessions (11_dictionary_access.md R360-R364) -/

/-- A session closes: its pending write is discarded, the side-band's DS2 unlock ends
(R364, R409), and the close is recorded with its cause. -/
def Lane.sbClose (L : Lane) (cause : Nat) : Lane :=
  if L.sb.isOpen then
    ({ L with
      sb := { L.sb with isOpen := false, pend := none, tagFails := 0 }
      ds2 := { L.ds2 with unlockSb := false } } : Lane).raise 0x9104 0 cause
  else L

/-- A side-band request arrives: in STANDBY it powers the monitor domain alone, whose SEAL starts
at 0 (R361, 13_safety_inputs_and_seal.md R388). -/
def Lane.sbWake (L : Lane) : Lane :=
  if L.pwr.state = .standby ∧ L.pwr.monUp = false then
    { L with
      pwr := { L.pwr with monUp := true }
      safe := { L.safe with sealOpen := false, openRun := 0, equalRun := 0 } }
  else L

/-- SB_CHALLENGE (R362): a value drawn afresh at each read. -/
def execSbChallenge (l : LaneId) (s : State) : Host.Outcome State Fault Refusal :=
  let c := Config.draw s.freeCtr
  .next (s.drawn.on l fun L =>
    if L.sbReach then
      let M := L.sbWake
      ({ M with sb := { M.sb with challenge := some c } } : Lane).answer .sideBand 0 0x2510 1 0
        (toBytes 8 c.toNat)
    else L)

/-- A new session: write counter 0, opening recorded (R362). -/
def Lane.sbOpen (L : Lane) (c : W64) : Lane :=
  let M := L.sbClose 0
  ({ M with sb := { M.sb with
      isOpen := true, bound := c, challenge := none, counter := 0, tagFails := 0, pend := none
      sessions := M.sb.sessions + 1 } } : Lane).raise 0x9101 0

/-- The lane identity that a session's response covers: LANE_UID and the lane's number (R362). (DEDUCED, log entry
135) -/
def Lane.sbIdentity (L : Lane) : List Byte := toBytes 8 (Config.laneUid L.id).toNat

/-- The response that opens a session to a challenge (R362). -/
def Lane.sbExpected (L : Lane) (c : W64) : List Byte := tag8 (L.sec.key 10) (toBytes 8 c.toNat ++ L.sbIdentity)

/-- The tag of a session's pending write: over the challenge, the write counter, the index, the subindex and the value
(R363). -/
def Lane.sbTagFor (L : Lane) (p : SbPend) : List Byte :=
  tag8 (L.sec.key 10) (toBytes 8 L.sb.bound.toNat ++ toBytes 4 L.sb.counter.toNat ++ toBytes 2 p.idx ++
    toBytes 1 p.sub ++ p.data)

/-- SB_RESPONSE (R362): verified against the last challenge read; a failure leaves an open session. (DEDUCED, log entry 91) -/
def execSbResponse (l : LaneId) (data : List Byte) (s : State) : Host.Outcome State Fault Refusal :=
  .next (s.on l fun L =>
    if L.sbReach = false then L
    else
      let M := L.sbWake
      match M.sb.challenge with
      | some c =>
        if data == M.sbExpected c && M.keyOk 10 then (M.sbOpen c).answer .sideBand 0 0x2510 2 0
        else (M.raise 0x9102 0).answer .sideBand 0 0x2510 2 eAuth
      | none => (M.raise 0x9102 0).answer .sideBand 0 0x2510 2 eAuth)

/-- SB_CLOSE (R364). -/
def execSbClose (l : LaneId) (m : Master) (tid : Nat) (data : List Byte) (s : State) :
    Host.Outcome State Fault Refusal :=
  .next (s.on l fun L => L.write m tid 0x2510 4 data true fun K => K.sbClose 1)

/-- SESSION_TIMEOUT (R364): 60 s without a side-band transaction. -/
def execSessionTimeout (l : LaneId) (s : State) : Host.Outcome State Fault Refusal :=
  .next (s.on l fun L => L.sbClose 2)

/-- CAN_BUS_OFF (R364). -/
def execCanBusOff (l : LaneId) (s : State) : Host.Outcome State Fault Refusal :=
  .next (s.on l fun L => L.sbClose 4)

/-- MONITOR_REST (R361, R364): the monitor domain returns to rest in STANDBY; SEAL reads 0 while it
rests. -/
def execMonitorRest (l : LaneId) (s : State) : Host.Outcome State Fault Refusal :=
  .next (s.on l fun L =>
    if L.pwr.state = .standby then
      let M := L.sbClose 6
      { M with
        pwr := { M.pwr with monUp := false }
        safe := { M.safe with sealOpen := false, openRun := 0, equalRun := 0 } }
    else L)

end Sys2Proof.Machine
end

