-- ==== Sys2Proof/Machine/Start.lean ====
section
/-! DEFINITION. What a start of a lane does to its state, whatever began it, and the save phase that
entry to STANDBY or OFF and the on-command memory test share (chapters 15 and 17). -/

namespace Sys2Proof.Machine

/-- A result object over a lane start: pending becomes failed, any other idle
(11_dictionary_access.md R368). -/
def ResultObj.atStart (o d : ResultObj) : ResultObj :=
  if o.state = .pending then { o with state := .failed } else d

/-- The three copies over a lane start. -/
def Res3.atStart (r d : Res3) : Res3 :=
  ⟨r.host.atStart d.host, r.sb.atStart d.sb, r.peer.atStart d.peer⟩

/-- The committed Kiln copy with the higher KILN_SEQ whose CRC holds (R487). -/
def Kiln.newest (k : Kiln) : Option KilnCopy :=
  match k.copy0.crcOk, k.copy1.crcOk with
  | true, true => some (if k.copy0.seq.toNat < k.copy1.seq.toNat then k.copy1 else k.copy0)
  | true, false => some k.copy0
  | false, true => some k.copy1
  | false, false => none

/-- The RAM part of the Kiln log loaded at a start (R487). -/
def Kiln.load (k : Kiln) : Kiln :=
  let c : KilnCopy := k.newest.getD {}
  { k with
    ram := c.ram, secTL := none, secTD := none, secVdc := none, secI := Oct.all none
    secSlack := none, secMiss := 0, secVgd := none, lastEmptyX := [], lastEmptyY := [], txX := 0
    txY := 0 }

/-- A commit of the Kiln image, alternately to two copies (R487). -/
def Lane.kilnWrite (L : Lane) : Lane :=
  let k := L.kiln
  let c : KilnCopy := { seq := k.seq + 1, ram := k.ram, crcOk := true, commitNs := L.recTime }
  { L with kiln :=
      if (k.seq + 1).toNat % 2 = 1 then { k with seq := k.seq + 1, copy1 := c }
      else { k with seq := k.seq + 1, copy0 := c } }

/-- A start of a kind counted in the Kiln log (R486): 0 cold, 1 warm, 2 restart, 3 wake. -/
def Kiln.countStart (k : Kiln) (kind : Nat) : Kiln :=
  match kind with
  | 0 => { k with cold := satInc k.cold }
  | 1 => { k with warm := satInc k.warm }
  | 2 => { k with restarts := satInc k.restarts }
  | _ => { k with wakes := satInc k.wakes }

/-- The recorder at a lane start: counters, FAULT_SEEN and LAST_FAULT start at 0 (R479,
12_dictionary_index.md R382); the ring survives a restart after a lane-out only (R477); a lane that has
not seeded its time base reads INVALID (R530). (DEDUCED, log entry 74) -/
def Rec.atStart (f : Rec) (keepRing : Bool) (copyNs mono : Nat) : Rec :=
  { f with
    ring := if keepRing then f.ring else []
    srcCount := [], srcLost := [], logLost := 0, seen := 0, seenNow := 0, last := 0, lastNs := 0
    copyNs := copyNs, copyMono := mono, copyState := .invalid }

/-- The dictionary server at a lane start: nothing open, nothing staged, counts 0; nonvolatile parts stay, and
across a start without step 1 the configuration values too, until step 6 restores them (R13, R14, R377). -/
def Dict.atStart (d : Dict) (l : LaneId) (keepWorking : Bool) : Dict :=
  { d with
    working := if keepWorking then d.working.filter fun p =>
        match findObj l (p.1 / 256) (p.1 % 256) with
        | some r => r.kept != .no
        | none => false
      else d.kept
    commits := 0, commitFails := 0, txnBusy := 0, openHost := 0, openSb := 0, openSup := 0
    openPeer := 0, snaps := [], wbufs := [], prepared := 0, badGroups := [], outbox := [], known := [], held := [], resp := none, hostOut := []
    progRes := d.progRes.atStart {}
    staging := d.staging.map fun g => { g with image := none, installed := false, busy := none } }

/-- Bridge gate drive at a lane start: the latch is kept (06_gate_drive_and_bridge_protection.md R208). -/
def Gate.atStart (g : Gate) : Gate :=
  { latch := g.latch, latchedKind := g.latchedKind, result := g.result.atStart {} }

/-- A position front end at a lane start: the stored revolution count stays
(05_rotor_position.md R154). -/
def FrontEnd.atStart (f : FrontEnd) : FrontEnd := { revs := f.revsNv, revsNv := f.revsNv }

/-- A channel whose star keeps its rails over a start: its ports' links stay up (08_tsuvas_network.md R251, R252). -/
def Channel.atStart (c : Channel) : Channel := { linkUp := c.linkUp }

/-- The node at a start that keeps the logic rails: the stars run on with the schedule they hold (08_tsuvas_network.md
R251, R252). -/
def Node.atStart (n : Node) : Node := { x := n.x.atStart, y := n.y.atStart, sched := n.sched }

/-- The stars lose their rails: every link goes down (08_tsuvas_network.md R252). -/
def Lane.starsDown (L : Lane) : Lane :=
  let down := fun c : Channel => { c with linkUp := c.linkUp.map fun _ => false }
  { L with net := { L.net with x := down L.net.x, y := down L.net.y } }

/-- The logic and drive dice of the lane at a start: every quantity at its value at lane start, what the
nonvolatile memory holds kept. `keepTime` leaves the time base running
(15_power_states_and_startup.md R446). -/
def Lane.resetLogic (L : Lane) (keepWorking keepTime : Bool) : Lane :=
  let vote : VoteG :=
    { outs := L.vote.outs, held := L.vote.held, outCause := L.vote.outCause, wasRun := L.vote.wasRun }
  let dc : DcLink :=
    { chopFault := L.dc.chopFault, chopFaultKind := L.dc.chopFaultKind, hwTimes := L.dc.hwTimes
      hwTrips := L.dc.hwTrips }
  let tb : TimeBase :=
    if keepTime then L.tb
    else
      { ns := L.tb.ns, mono := L.tb.mono, incLearned := L.tb.incLearned, learnPpm := L.tb.learnPpm
        incBase := L.tb.incLearned, lastTime := L.tb.lastTime }
  let ta : Ta := {}
  let ct : Ct := { list := L.ct.list, result := L.ct.result.atStart {} }
  { L with
    dict := L.dict.atStart L.id keepWorking, vote := vote, links := {}, svc := {}, dc := dc
    net := if keepWorking then L.net.atStart else {}
    tb := tb, upl := {}, tsq := {}, ta := { ta with result := L.ta.result.atStart ta.result }, ct := ct
    kiln := L.kiln.load, lpt := {}, bridges := Oct.all {}, fes := L.fes.map FrontEnd.atStart
    gates := L.gates.map Gate.atStart }

/-- The monitor domain at a start that passes step 1: latched states are reloaded from nonvolatile
memory and from the Cone latch cell (R382, 17_diagnostics_and_kiln_log.md Table 17.7). -/
def Lane.resetMonitor (L : Lane) : Lane :=
  let inp := L.safe.inp.map fun x => ({ disc := x.disc, tp := x.tp } : SafeIn)
  let safe : Safe :=
    { inp := inp, tpo0 := { latched := L.safe.tpo0.latched }, tpo1 := { latched := L.safe.tpo1.latched } }
  let sec : Sec :=
    { written := L.sec.written, keys := L.sec.keys, transport := L.sec.transport, fwHash := L.sec.fwHash
      dbgHash := L.sec.dbgHash, dbgKey := L.sec.dbgKey, revoked := L.sec.revoked, serving := L.sec.written &&& ~~~L.sec.revoked
      bank0 := L.sec.bank0, bank1 := L.sec.bank1, active := L.sec.active, minFw := L.sec.minFw }
  let therm : Therm :=
    { onsets := L.therm.onsets, cone := L.therm.cone, coneOver := L.therm.coneOver
      coneCount := L.therm.coneCount }
  { L with
    sb := {}, safe := safe, ds2 := { log := L.ds2.log, seq := L.ds2.seq }, sec := sec, clk := {}
    therm := therm
    flog := { L.flog.atStart false L.tb.lastTime L.tb.mono with cfg := [] } }

/-- A start through step 1 (R449): cold unless a valid Wedge pass record is found, which the start
invalidates; step 5 owes the groups the record leaves untested, every group at a cold start. (DEDUCED, log entry 14) -/
def Lane.powerUp (L : Lane) (kind : Nat) : Lane :=
  let found := L.mem.valid
  let wake := decide (kind = 3)
  let kind := if found then kind else 0
  let owed : BitVec 16 := if found then L.mem.untested else 0xFFFF
  let M := (L.resetLogic false false).resetMonitor
  let pwr : Pwr :=
    { state := .starting, step := 1, kind := kind, wedgeOk := found, startRef := L.tb.mono, stepRef := L.tb.mono
      upSince := L.tb.mono, wakeSrc := if wake then L.pwr.wakeSrc else 0
      vinOn := true, vaonOn := true }
  { M with
    pwr := pwr
    mem := { M.mem with valid := false, running := false, testing := false, demand := false
                        owed := owed, result := M.mem.result.atStart {} }
    kiln := M.kiln.countStart kind }

/-- A restart at step 4, 5 or 7 of the restore order, the monitor domain running on (R446, R449,
R495): kind 2 after a lane-out, else 1, when the ring starts empty and its pending records are written first. Volatile
objects and the fields of reset value 0 return to their defaults (00_scope.md R13, R14); what step 6 writes stays across a
restart at step 7, and crystal and locks, which steps 2 and 3 established, stay. (DEDUCED, log entry 106; DEDUCED, log
entry 131) -/
def Lane.restartAt (L : Lane) (step kind : Nat) (keepTime wedgeOk : Bool) (owed : BitVec 16) : Lane :=
  let L := L.sbClose 5
  let M := L.resetLogic true keepTime
  let pwr : Pwr := { L.pwr with
    state := .starting, step := step, stuckAt := false, kind := kind, wedgeOk := wedgeOk
    waitShadow := false, startRef := L.tb.mono, stepRef := L.tb.mono, upSince := L.tb.mono, exit := false, exitTo := 0
    exitPassive := false, phase := 0, toOff := false, abandon := false, asleep := false
    latched := false, announce := false, monUp := true, stopLine := true, sbStb := false, nflt := false
    startTime := 0, wakeSrc := 0, vgdBad := false }
  let boot := decide (step ≤ 6)
  { M with
    pwr := pwr
    sb := { sessions := M.sb.sessions }
    ds2 := { log := M.ds2.log, seq := M.ds2.seq }
    sec := { M.sec with
      debug := false, dbgFails := 0, dbgBlocked := false, dbgChallenge := none
      bootOk := M.sec.bootOk && !boot, bank0Ok := M.sec.bank0Ok && !boot, bank1Ok := M.sec.bank1Ok && !boot
      fallback := M.sec.fallback && !boot, booted := if boot then 0 else M.sec.booted }
    safe := { M.safe with
      chkOk := M.safe.chkOk && !boot, restored := M.safe.restored && !boot
      setSel := if boot then 0xFF else M.safe.setSel, chkIn := if boot then 0 else M.safe.chkIn }
    clk :=
      { xtalOk := M.clk.xtalOk, coreLock := M.clk.coreLock, netLock := M.clk.netLock, trimL := M.clk.trimL
        trimD := M.clk.trimD, xtalPpm := if keepTime then M.clk.xtalPpm else 0 }
    therm :=
      { broken := if kind = 2 then M.therm.broken else 0, onsets := M.therm.onsets, cone := M.therm.cone
        coneOver := M.therm.coneOver, coneCount := M.therm.coneCount
        caseL := if kind = 2 then M.therm.caseL else 0, caseD := if kind = 2 then M.therm.caseD else 0, cutL := M.therm.cutL, cutD := M.therm.cutD }
    flog := (if kind = 2 then M.flog else M.flog.commit).atStart (kind = 2) L.recTime L.tb.mono
    mem := { M.mem with valid := false, running := false, testing := false, demand := false, owed := owed
                        result := if L.mem.testing then L.mem.result else L.mem.result.atStart {} }
    kiln := M.kiln.countStart kind }

/-! ### The save phase (Table 15.3, phase 1) -/

/-- Open host, supervisory and peer transactions end with 0x0D000006 (Table 15.3). -/
def Dict.abortAll (d : Dict) : Dict :=
  { d with
    openHost := 0, openSup := 0, openPeer := 0
    snaps := d.snaps.filter (·.m == .sideBand)
    wbufs := d.wbufs.filter (·.m == .sideBand)
    known := d.known.filter fun c => c.m == .sideBand
    outbox := d.outbox.filter fun c => c.m == .sideBand }

/-- The save phase begins: stop line asserted, gate rail off, role OUT, transactions aborted, timed
actions cancelled; entry is announced in the per-lane inputs (R445). -/
def Lane.saveBegin (L : Lane) : Lane :=
  let M := L.assertStop
  { M with
    vote := { M.vote with role := .out, roleDue := none, relAtApply := false, clean := 0 }
    dict := M.dict.abortAll
    ta := M.ta.cancelAll
    pwr := { M.pwr with phase := 1, announce := true, vgdOn := false, exit := false, pending := 0
                        nflt := false } }

/-- The save phase ends: the node is silent and its guardians open (08_tsuvas_network.md R251), INC_LEARNED and LAST_TIME written, Kiln log and fault ring
committed (Table 15.3). -/
def Lane.saveEnd (L : Lane) : Lane :=
  let M : Lane := { L with
    net := { L.net with state := .halt, guardOpen := true }
    vote := { L.vote with running := false }
    tb := { L.tb.learn L.clk.xtalPpm with lastTime := L.tb.ns }
    flog := L.flog.commit }
  M.kilnWrite

/-- A march over the memory groups begins at group 0 (17_diagnostics_and_kiln_log.md R490). -/
def Mem.march (m : Mem) : Mem :=
  { m with running := true, group := 0, pUntested := 0, pRows := 0, pUncover := false, pFailed := 0 }

end Sys2Proof.Machine
end

