-- ==== Sys2Proof/Machine/Diag.lean ====
section
/-! DEFINITION. The fault recorder, the Kiln log, the memories and their tests, the compare check and
the link pattern test (chapter 17). -/

namespace Sys2Proof.Machine

/-! ### Fault recorder (R477-R483) -/

/-- LOG_COMMIT (R482): at a whole multiple of 10 ms the pending records are frozen and written. -/
def execLogCommit (l : LaneId) (n : Nat) (s : State) : Host.Outcome State Fault Refusal :=
  .next (s.on l fun L =>
    if L.watched then
      let M := L.advance (n * 10000000)
      { M with flog := M.flog.commit }
    else L)

/-! ### Kiln log (R484-R488) -/

/-- The bin of a value in a histogram with 15 rising edges between bins (Table 17.3). -/
def binOf (edges : List Rat) (x : Rat) : Nat := (edges.filter fun e => decide (e ≤ x)).length

/-- Edges of H0 (Table 17.3). -/
def edgesTL : List Rat := [-20, 0, 20, 40, 60, 80, 90, 100, 110, 120, 125, 130, 135, 140, 150]
/-- Edges of H1. -/
def edgesTD : List Rat := [-20, 0, 20, 40, 60, 80, 100, 110, 120, 130, 140, 145, 150, 160, 175]
/-- Edges of H2. -/
def edgesV : List Rat := [9, 18, 24, 30, 36, 42, 46, 48, 50, 52, 54, 56, 58, 60, 62]
/-- Edges of H3-H10. -/
def edgesI : List Rat := [5, 10, 20, 30, 40, 50, 60, 70, 80, 85, 90, 95, 100, 110, 120]
/-- Edges of H12. -/
def edgesG : List Rat :=
  [8, 44 / 5, 19 / 2, 10, 21 / 2, 11, 113 / 10, 23 / 2, 117 / 10, 119 / 10, 121 / 10, 123 / 10, 25 / 2,
   13, 14]
/-- Falling edges of H11, bins 0-13. -/
def edgesS : List Int := [200, 150, 100, 80, 60, 50, 40, 30, 20, 15, 10, 5, 2, 0]

/-- The bin of H11: one miss 14, more 15, else by the smallest slack. -/
def slackBin (slack : Option Int) (miss : Nat) : Option Nat :=
  if 2 ≤ miss then some 15
  else if miss = 1 then some 14
  else slack.map fun x => min 13 (edgesS.filter fun e => decide (x < e)).length

/-- One more second in a bin of histogram `k`; none adds nothing (R485). -/
def addBin (h : Store) (k : Nat) (b : Option Nat) : Store :=
  match b with
  | some i => storeBump h (16 * k + min i 15) 1
  | none => h

/-- The histograms after a second (R485). -/
def Lane.histNext (L : Lane) : Store :=
  let k := L.kiln
  let h := addBin k.ram.hist 0 (k.secTL.map (binOf edgesTL))
  let h := addBin h 1 (k.secTD.map (binOf edgesTD))
  let h := addBin h 2 (k.secVdc.map (binOf edgesV))
  let h := fin8.foldl (fun a b => addBin a (3 + b.val) ((k.secI.get b).map (binOf edgesI))) h
  let h := addBin h 11 (slackBin k.secSlack k.secMiss)
  addBin h 12 (k.secVgd.map (binOf edgesG))

/-- Empty slots of a channel since the last update, added to their owners; the lane's own node counts
its own empty slots (R486). -/
def Lane.emptyNext (L : Lane) (ch : Chan) (c : Channel) (old last : Store) (own : Nat) : Store :=
  let me := L.sched 0x4800 3
  let one := fun (a : Store) (p : Nat × SlotCount) =>
    let d := L.slot ch p.1
    if d.owner = me then a
    else storeBump a d.owner (p.2.empty.toNat - storeGet last p.1 0)
  storeBump (c.slots.foldl one old) me own

/-- The empty counts of a channel by slot, as the last update's. -/
def emptyNow (c : Channel) : Store :=
  c.slots.foldl (fun a p => storePut a p.1 p.2.empty.toNat 0) []

/-- The Kiln log's update at a whole second (R485, R486). -/
def Lane.kilnSecond (L : Lane) : Lane :=
  let k := L.kiln
  let ram : KilnRam :=
    { hist := L.histNext
      onSec := satInc k.ram.onSec
      runSec := if L.pwr.state = .run then satInc k.ram.runSec else k.ram.runSec
      emptyX := L.emptyNext .X L.net.x k.ram.emptyX k.lastEmptyX k.txX
      emptyY := L.emptyNext .Y L.net.y k.ram.emptyY k.lastEmptyY k.txY }
  { L with kiln := { k with
      ram := ram, secTL := none, secTD := none, secVdc := none, secI := Oct.all none
      secSlack := none, secMiss := 0, secVgd := none, txX := 0, txY := 0
      lastEmptyX := emptyNow L.net.x, lastEmptyY := emptyNow L.net.y
      firstNs := some (k.firstNs.getD L.recTime) } }

/-- KILN_SECOND (R485, R486); while the logic rails are down nothing is updated. -/
def execKilnSecond (l : LaneId) (n : Nat) (s : State) : Host.Outcome State Fault Refusal :=
  .next (s.on l fun L => if L.alive then (L.advance (n * 1000000000)).kilnSecond else L)

/-- KILN_COMMIT (R487). -/
def execKilnCommit (l : LaneId) (n : Nat) (s : State) : Host.Outcome State Fault Refusal :=
  .next (s.on l fun L => if L.alive then (L.advance (n * 10000000000)).kilnWrite else L)

/-! ### Memories (R489-R496) -/

/-- The memory group of an SRAM block 0-47 (Table 17.4). -/
def groupOfBlock (blk : Nat) : Nat := if blk < 32 then blk / 4 else 8 + (blk - 32) / 2

/-- DETAIL_ID of a memory cell (R491). -/
def cellId (c : FailCell) : Nat := c.inst % 256 + c.addr % 65536 * 256 + c.bit % 256 * 16777216

/-- The row of a cell. -/
def cellRow (c : FailCell) : Nat := c.addr / 64

/-- The same cell. -/
def sameCell (c d : FailCell) : Bool := c.inst == d.inst && c.addr == d.addr && c.bit == d.bit

/-- Each cell once (R491). -/
def cellsOnce : List FailCell → List FailCell
  | [] => []
  | c :: t => c :: (cellsOnce t).filter fun d => !sameCell c d

/-- A list without repeats. -/
def dedup {α : Type} [DecidableEq α] : List α → List α
  | [] => []
  | a :: t => if a ∈ t then dedup t else a :: dedup t

/-- Rows of a block that a map replaces (R491). -/
def sparesOf (m : List (Nat × List Nat)) (blk : Nat) : List Nat :=
  ((m.find? fun p => p.1 == blk).map (·.2)).getD []

/-- The map with the rows of one block replaced, blocks ascending. -/
def setSpares : List (Nat × List Nat) → Nat → List Nat → List (Nat × List Nat)
  | [], blk, rows => [(blk, rows)]
  | (b, r) :: t, blk, rows =>
    if blk < b then (blk, rows) :: (b, r) :: t
    else if blk = b then (b, rows) :: t
    else (b, r) :: setSpares t blk rows

/-- Spare rows assigned for failing rows of blocks; a block that would need more than 16 gets none
(R491, R492). Answers the map, the count of rows assigned and whether a block was beyond repair. -/
def assignRows (m : List (Nat × List Nat)) (bad : List (Nat × Nat)) :
    List (Nat × List Nat) × Nat × Bool :=
  (dedup (bad.map (·.1))).foldl (fun acc blk =>
    let rows := dedup ((bad.filter fun p => p.1 == blk).map (·.2))
    let used := sparesOf acc.1 blk
    if used.length + rows.length ≤ 16 then
      (setSpares acc.1 blk (used ++ rows), acc.2.1 + rows.length, acc.2.2)
    else (acc.1, acc.2.1, true)) (m, 0, false)

/-- ROWS_REPAIRED rises by a number of rows, saturating (R484, Table 17.2). -/
def Kiln.addRows (k : Kiln) (n : Nat) : Kiln :=
  { k with rows := BitVec.ofNat 32 (min (2 ^ 32 - 1) (k.rows.toNat + n)) }

/-- Each failing cell is one event (R491). -/
def Lane.raiseCells (L : Lane) (cells : List FailCell) : Lane :=
  cells.foldl (fun J c =>
    J.raise (0xB003 + 0x40 * groupOfBlock c.inst) 1 (cellId c) (c.bg % 256 + c.elem % 256 * 256)) L

/-- The end of a group's slot in a pass: events, spares, UNTESTED (R491, R492). -/
def Lane.groupEnd (L : Lane) (cells : List FailCell) : Lane :=
  let g := L.mem.group
  let cs := cellsOnce (cells.filter fun c => groupOfBlock c.inst == g)
  let M := L.raiseCells cs
  let a := assignRows M.mem.spares (cs.map fun c => (c.inst, cellRow c))
  let M : Lane := { M with
    mem := { M.mem with
      spares := a.1
      pRows := min 63 (M.mem.pRows + a.2.1)
      pUncover := M.mem.pUncover || a.2.2
      pUntested := if a.2.2 then M.mem.pUntested ||| BitVec.ofNat 16 (2 ^ g) else M.mem.pUntested
      pFailed := if cs.isEmpty then M.mem.pFailed else M.mem.pFailed + 1
      group := g + 1 }
    kiln := M.kiln.addRows a.2.1 }
  if a.2.2 then M.raise (0xB004 + 0x40 * g) 0 else M

/-- The record of Table 17.5 written at the end of a pass (R493). -/
def Mem.record (m : Mem) (how : Nat) (untested : BitVec 16) : Mem :=
  { m with
    running := false, valid := true, test := m.testing, ended := how, untested := untested
    newRows := m.pRows, uncover := m.pUncover, failed := m.pFailed }

/-- OUTCOME of a complete on-command test (Table 17.11). -/
def Mem.outcome (m : Mem) : Nat := if m.pUncover then 2 else if m.pFailed = 0 then 0 else 1

/-- A complete pass: the record is written; an on-command test restarts from step 5 as a warm start that
finds it (R493, R495). -/
def Lane.passEnd (L : Lane) : Lane :=
  let M : Lane := { L with mem := L.mem.record 0 L.mem.pUntested }
  if M.mem.testing then
    let r := M.mem.result.finish M.mem.testBy (BitVec.ofNat 12 (M.mem.outcome * 256))
    ({ M with mem := { M.mem with result := r } } : Lane).restartAt 5 1 true true M.mem.untested
  else M

/-- WEDGE_GROUP_END (R490-R493, R495). -/
def execWedgeGroupEnd (l : LaneId) (cells : List FailCell) (s : State) :
    Host.Outcome State Fault Refusal :=
  .next (s.on l fun L =>
    if L.mem.running then
      let M := L.groupEnd cells
      if 16 ≤ M.mem.group then M.passEnd else M
    else L)

/-- Groups from a number on. -/
def groupsFrom (g : Nat) : BitVec 16 := BitVec.ofNat 16 (65536 - 2 ^ g)

/-- MARCH_ELEMENT_END (R446, R496): a pass that a request, a wake or a demand stops ends with its
record, and the lane restarts from step 5. -/
def execMarchElementEnd (l : LaneId) (s : State) : Host.Outcome State Fault Refusal :=
  .next (s.on l fun L =>
    if L.mem.running = false then L
    else if L.mem.demand then
      let M : Lane := { L with mem := L.mem.record 2 0 }
      let M := M.raise 0xBFC6 0
      let r := M.mem.result.finish M.mem.testBy 0x300
      ({ M with mem := { M.mem with result := r } } : Lane).restartAt 5 1 true true 0
    else if L.pwr.abandon then
      let left := L.mem.pUntested ||| groupsFrom L.mem.group
      let M : Lane := { L with mem := L.mem.record 1 left }
      M.restartAt 5 1 true false left
    else L)

/-- SCRUB_PASS (01_three_lanes_one_module.md R26, R494): corrected words; a word corrected at two
successive scrubs has its row marked. -/
def execScrubPass (l : LaneId) (cells : List FailCell) (s : State) : Host.Outcome State Fault Refusal :=
  .next (s.on l fun L =>
    if L.alive then
      let M := cells.foldl (fun J c =>
        let g := groupOfBlock c.inst
        let J := J.raise (0xB001 + 0x40 * g) 1 (cellId c)
        if (c.inst, c.addr) ∈ L.mem.lastFix then
          let J := J.raise (0xB005 + 0x40 * g) 0 (cellId c)
          if (c.inst, cellRow c) ∈ J.mem.marked then J
          else { J with mem := { J.mem with marked := J.mem.marked ++ [(c.inst, cellRow c)] } }
        else J) L
      { M with mem := { M.mem with lastFix := dedup (cells.map fun c => (c.inst, c.addr)) } }
    else L)

/-- A memory test begins: announced, save phase, then a pass; the lane reads as starting at step 5
(R495). -/
def Lane.testBegin (L : Lane) (m : Master) : Lane :=
  let M := L.saveBegin
  { M with
    pwr := { M.pwr with state := .starting, step := 5 }
    mem := { M.mem with testing := true, testBy := m, demand := false, result := M.mem.result.start m } }

/-- MEM_TEST (R495): accepted only in HOLD with START_STEP 9. -/
def execMemTest (l : LaneId) (m : Master) (tid : Nat) (data : List Byte) (s : State) :
    Host.Outcome State Fault Refusal :=
  .next (s.on l fun L =>
    let ok := L.pwr.state == .hold && L.pwr.step == 9 && L.pwr.phase == 0
    match L.writeErr m 0x5200 1 data ok false with
    | some e => L.answer m tid 0x5200 1 e
    | none =>
      if L.mem.result.busy m then L.answer m tid 0x5200 1 eBusy
      else ((L.sbCount m 0x5200).answer m tid 0x5200 1 0).testBegin m)

/-- A demand for service stops the pass at the end of its current march element (R496). -/
def Lane.testDemand (L : Lane) : Lane :=
  if L.mem.testing then { L with mem := { L.mem with demand := true } } else L

/-- Senders in role LEAD or FOLLOWER whose input sets the ports of a lane under test relay (R47, R496). -/
def State.driversSeen (s : State) (l : LaneId) : Nat :=
  (allLanes.filter fun p => p != l && (s.lane p).alive && (s.lane p).vote.running && (s.lane p).vote.role.drives).length

/-- MEM_TEST_DEMAND (R496): the monitor sees fewer than two drivers send. -/
def execMemTestDemand (l : LaneId) (s : State) : Host.Outcome State Fault Refusal :=
  if s.driversSeen l < 2 then .next (s.on l Lane.testDemand) else .next s

/-- COMPARE_SELF_CHECK (R497): in each vote cycle whose number is a multiple of 1,000; a failed compare check takes the
lane out. -/
def execCompareSelfCheck (l : LaneId) (pass : Bool) (s : State) : Host.Outcome State Fault Refusal :=
  .next (s.on l fun L =>
    if L.alive && L.vote.running && L.vote.cycle.toNat % 1000 == 0 && !pass then L.laneOut 0x1FDC else L)

/-! ### Link pattern test (R498-R501) -/

/-- Numbers that name a link (Table 17.8). -/
def lptHas (n : Nat) : Bool :=
  n ≤ 5 || (8 ≤ n && n ≤ 13) || (16 ≤ n && n ≤ 18) || (24 ≤ n && n ≤ 32)

/-- The far lane of a slip link under test (Table 17.8). -/
def Lane.lptPeer (L : Lane) (link : Nat) : LaneId := LaneId.ofNum (L.id.num + (link - 16))

/-- Why a start is refused: 5 the present state, 6 the link (R500); 0 where it may begin. -/
def Lane.lptRefusal (L : Lane) (m : Master) (v : Nat) : Nat :=
  let k := bits v 0 8
  if L.pwr.state ≠ .hold ∨ L.lpt.running then 5
  else if lptHas k = false then 6
  else if (k = 17 ∨ k = 18) ∧ (L.vote.drivers.get L.id || L.vote.drivers.get (L.lptPeer k)) then 6
  else if k = 32 ∧ m = .sideBand then 6
  else 0

/-- The checker's counts brought up to date (R499). -/
def Lpt.take (p : Lpt) (rx : LptRx) : Lpt :=
  if p.running then
    { p with
      lock := rx.lock
      bits := BitVec.ofNat 64 (min (p.bits.toNat + rx.bits) (2 ^ 64 - 1))
      errors := BitVec.ofNat 32 (min (p.errors.toNat + rx.errors) (2 ^ 32 - 1))
      lockLoss := BitVec.ofNat 32 (min (p.lockLoss.toNat + rx.losses) (2 ^ 32 - 1)) }
  else p

/-- The fields of LPT_CTRL that hold a value between writes: LOOP, PATTERN, DURATION, LINK. -/
def lptKeep (v : Nat) : W32 := BitVec.ofNat 32 (Nat.land v 0x1CFFFFFF)

/-- The running test is on a slip link and not looped back, so the far lane's test feeds the checker (R500). -/
def Lane.lptFar (L : Lane) : Option LaneId :=
  if (L.lptOn 17 || L.lptOn 18) && !bit L.lpt.test.toNat 28 then some (L.lptPeer L.lptLink) else none

/-- Two lanes run a test towards each other on their slip link. -/
def State.lptPair (s : State) (l p : LaneId) : Bool :=
  (s.lane l).lptFar == some p && (s.lane p).lptFar == some l

/-- What the checker of a lane receives: on a slip link nothing it could lock on while the far lane runs no test of the
link (R500). -/
def State.lptRx (s : State) (l : LaneId) (rx : LptRx) : LptRx :=
  match (s.lane l).lptFar with
  | some p => if s.lptPair l p then rx else { lock := false }
  | none => rx

/-- One inverted bit at a checker: a locked one counts exactly one error (R499). -/
def Lpt.hit (p : Lpt) : Lpt := { p with errors := if p.running && p.lock then satInc p.errors else p.errors }

/-- A write of LPT_CTRL (R499-R501): START begins a test, STOP ends it, INJECT inverts one transmitted bit; a running
test keeps the settings it began with. -/
def Lane.lptWrite (L : Lane) (m : Master) (tid : Nat) (data : List Byte) (rx : LptRx) : Lane :=
  let v := ofBytes data
  let L : Lane := { L with lpt := L.lpt.take rx }
  let why := if data.length = 4 ∧ bit v 31 then L.lptRefusal m v else 0
  match L.writeErr m 0x5300 1 data (why == 0) false with
  | some e =>
    let L : Lane := if e = eState then { L with lpt := { L.lpt with
      outcome := if L.lpt.running then L.lpt.outcome else why } } else L
    L.answer m tid 0x5300 1 e
  | none =>
    let p : Lpt := { L.lpt with ctrl := lptKeep v }
    let M : Lane :=
      if bit v 31 then
        ({ L with lpt := { ctrl := lptKeep v, test := lptKeep v, running := true, outcome := 1 } } : Lane).raise 0x4841 0
      else if bit v 30 then { L with lpt := p.stop 3 }
      else if bit v 29 && L.lptFar.isNone then { L with lpt := p.hit }
      else { L with lpt := p }
    (M.sbCount m 0x5300).answer m tid 0x5300 1 0

/-- The write inverts a transmitted bit: INJECT alone, and no check refuses it. -/
def Lane.lptInjects (L : Lane) (m : Master) (data : List Byte) : Bool :=
  let v := ofBytes data
  bit v 29 && !bit v 31 && !bit v 30 && (L.writeErr m 0x5300 1 data true false).isNone

/-- A write of LPT_CTRL in the module: a bit inverted on a slip link reaches the far lane's checker (R499, R500). -/
def State.lptWrite (s : State) (l : LaneId) (m : Master) (tid : Nat) (data : List Byte) (rx : LptRx) : State :=
  let t := s.on l fun L => L.lptWrite m tid data (s.lptRx l rx)
  match (s.lane l).lptFar with
  | some p =>
    if s.lptPair l p && (s.lane l).lptInjects m data then t.on p fun P => { P with lpt := P.lpt.hit } else t
  | none => t

/-- LPT_START (R500). -/
def execLptStart (l : LaneId) (m : Master) (tid : Nat) (data : List Byte) (s : State) :
    Host.Outcome State Fault Refusal :=
  .next (s.lptWrite l m tid data { lock := (s.lane l).lpt.lock })

/-- LPT_STOP (R501). -/
def execLptStop (l : LaneId) (m : Master) (tid : Nat) (data : List Byte) (rx : LptRx) (s : State) :
    Host.Outcome State Fault Refusal :=
  .next (s.lptWrite l m tid data rx)

/-- LPT_INJECT (R499): a locked checker counts exactly one error. -/
def execLptInject (l : LaneId) (m : Master) (tid : Nat) (data : List Byte) (rx : LptRx) (s : State) :
    Host.Outcome State Fault Refusal :=
  .next (s.lptWrite l m tid data rx)

/-- LPT_DURATION_END (R501). -/
def execLptDurationEnd (l : LaneId) (rx : LptRx) (s : State) : Host.Outcome State Fault Refusal :=
  .next (s.on l fun L => { L with lpt := (L.lpt.take (s.lptRx l rx)).stop 2 })

/-- A demand ends the test with fault 0x4842 (R501). -/
def Lane.lptDemand (L : Lane) : Lane :=
  if L.lpt.running then ({ L with lpt := L.lpt.stop 4 } : Lane).raise 0x4842 0 else L

end Sys2Proof.Machine
end

