-- ==== Sys2Proof/Machine/Requests.lean ====
section
/-! DEFINITION. Power requests: acceptance by the present state, exit, entry, wake
(15_power_states_and_startup.md R434-R447). -/

namespace Sys2Proof.Machine

/-- STANDSTILL of the last completed vote cycle (R437, 03_steering_and_braking_services.md Table 3.11). -/
def Lane.stoodStill (L : Lane) : Bool := bit L.vote.lastStatus.toNat 7

/-- Entry to STANDBY or OFF begins with its save phase (R445). -/
def Lane.enter (L : Lane) (toOff : Bool) : Lane :=
  let M := L.saveBegin
  { M with pwr := { M.pwr with toOff := toOff, abandon := false, asleep := false, latched := false
                               exitTo := 0, exitPassive := false } }

/-- OFF: every domain is off, the sleep record with the always-on domain (R434, R445). -/
def Lane.goOff (L : Lane) : Lane :=
  let M := (L.sbClose 6).starsDown
  { M with
    pwr := { M.pwr with state := .off, phase := 0, step := 0, monUp := false, sbStb := true, announce := false }
    sleep := { M.sleep with valid := false } }

/-- A wake from STANDBY: step 1 of the restore order, its source recorded by the bits of WAKE_EN (R442). (DEDUCED, log entry 69) -/
def Lane.wakeUp (L : Lane) (src : Byte) : Lane :=
  let M : Lane := { L with pwr := { L.pwr with wakeSrc := src } }
  M.powerUp 3

/-- A RUN or HOLD request, or a wake event, during an entry (R446, R447): after the latch it is held for
the power-down's end; in the calibration the lane restarts from step 7 at once; in the save phase and
the Wedge pass the step in progress ends first. Fault 0x1FD9 records the abandonment. `src` is the bit of WAKE_EN. (DEDUCED, log entry 69; DEDUCED, log entry 109) -/
def Lane.preEmpt (L : Lane) (src : Byte) : Lane :=
  if L.pwr.asleep then
    { L with pwr := { L.pwr with latched := true, wakeSrc := src ||| 0x80 } }
  else if L.pwr.abandon then L
  else
    let M := L.raise 0x1FD9 0
    if M.pwr.phase = 3 then M.restartAt 7 1 true false 0
    else { M with pwr := { M.pwr with abandon := true } }

/-- A request accepted by a driver: it sets EXIT (R437). (DEDUCED, log entry 71) -/
def Lane.exitFor (L : Lane) (k : Nat) : Lane := { L with pwr := { L.pwr with exit := true, exitTo := k } }

/-- A driver withdraws its exit for a request towards a more active state (R441); while PASSIVE is held,
the request becomes the state that follows it. (DEDUCED, log entry 71) -/
def Lane.stay (L : Lane) (k : Nat) : Lane :=
  if L.pwr.exitPassive then { L with pwr := { L.pwr with exitTo := k } }
  else { L with pwr := { L.pwr with exit := false, exitTo := 0 } }

/-- PWR_REQ `k` (1 RUN, 2 HOLD, 3 STANDBY, 4 OFF) in a starting lane (Table 15.2, R441): RUN is refused, and
during a memory test a side-band RUN is a demand (17_diagnostics_and_kiln_log.md R496). (DEDUCED, log entry 71) -/
def Lane.reqStarting (L : Lane) (m : Master) (k : Nat) : Lane × W32 :=
  if k = 1 then (if m = .sideBand then L.testDemand else L, eState)
  else ({ L with pwr := { L.pwr with pending := if k = 2 then 0 else k - 1 } }, 0)

/-- PWR_REQ during an entry (Table 15.2). (DEDUCED, log entry 70; DEDUCED, log entry 72) -/
def Lane.reqEntry (L : Lane) (k : Nat) : Lane × W32 :=
  if k = 3 then (L, 0)
  else if k = 4 then ({ L with pwr := { L.pwr with toOff := true } }, 0)
  else if L.pwr.phase = 4 ∧ L.pwr.asleep = false then (L, eEngine)
  else (L.preEmpt 4, 0)

/-- PWR_REQ in HOLD (Table 15.2). -/
def Lane.reqHold (L : Lane) (k : Nat) : Lane × W32 :=
  if k = 1 then
    if L.runOk then ({ L.lptDemand with pwr := { L.lptDemand.pwr with state := .run } }, 0) else (L, eState)
  else if k = 2 then (L, 0)
  else (L.lptDemand.enter (k = 4), 0)

/-- PWR_REQ in RUN (Table 15.2, R437, R441). (DEDUCED, log entry 109) -/
def Lane.reqRun (L : Lane) (k : Nat) : Lane × W32 :=
  if L.vote.role.drives || L.pwr.exitPassive then
    if L.pwr.exit then
      if k < 3 ∧ k < L.pwr.exitTo then (L.stay k, 0)
      else if L.stoodStill || L.pwr.exitPassive then (L.exitFor k, 0)
      else (L, eState)
    else if k = 1 then (L, 0)
    else if L.stoodStill then (L.exitFor k, 0)
    else (L, eState)
  else if k = 1 then (L, 0)
  else if k = 2 then ({ L with pwr := { L.pwr with state := .hold } }, 0)
  else (L.enter (k = 4), 0)

/-- PWR_REQ in STANDBY (Table 15.2, R444). (DEDUCED, log entry 70) -/
def Lane.reqStandby (L : Lane) (k : Nat) : Lane × W32 :=
  if k = 3 then (L, 0)
  else if k = 4 then (L.goOff, 0)
  else if bit (L.obj 0x2101 1) 2 then (L.wakeUp 4, 0)
  else (L, eState)

/-- A request by the present state (Table 15.2): the lane after it and its code. -/
def Lane.request (L : Lane) (m : Master) (k : Nat) : Lane × W32 :=
  if L.pwr.phase ≠ 0 ∧ L.mem.testing = false then L.reqEntry k
  else match L.pwr.state with
    | .starting => L.reqStarting m k
    | .hold => L.reqHold k
    | .run => L.reqRun k
    | .standby => L.reqStandby k
    | .off => (L, eEngine)

/-- A write of `k` to PWR_REQ (R436): accepted or refused by the present state, answered at once. -/
def Lane.powerWrite (L : Lane) (m : Master) (tid k : Nat) : Lane :=
  if L.reaches m = false then L
  else
    let L := if m = .sideBand then L.sbWake else L
    match L.writeErr m 0x2100 2 [BitVec.ofNat 8 k] true false with
    | some e => L.answer m tid 0x2100 2 e
    | none =>
      let c := (L.request m k).2
      let L := if c = 0 then L.sbCount m 0x2100 else L
      ((L.answer m tid 0x2100 2 c).request m k).1

/-- A held request is evaluated when the lane reaches SHADOW (R441, R450). (DEDUCED, log entry 64) -/
def Lane.heldRequest (L : Lane) : Lane :=
  let k := L.pwr.pending
  if k = 0 then L
  else (({ L with pwr := { L.pwr with pending := 0 } } : Lane).request .host (k + 1)).1

end Sys2Proof.Machine
end

