-- ==== Sys2Proof/Machine/Flags.lean ====
section
/-! DEFINITION. Every status word that gathers flags of the lane: SERVICE_STATUS stands in Service, here are
REDUND_STATUS and LANE_STATUS with the instants at which their fields are taken
(02_vote_cycle_and_fault_tolerance.md Table 2.11, 12_dictionary_index.md R380, Table 12.6). -/

namespace Sys2Proof.Machine

/-! ### Slip links as a lane sees them (02_vote_cycle_and_fault_tolerance.md R48) -/

/-- The lane that is neither of two different lanes. -/
def thirdOf (a b : LaneId) : LaneId := LaneId.ofNum (6 - a.num - b.num)

/-- Whether a link touches a lane. -/
def linkTouches (k : LinkId) (l : LaneId) : Bool := k.ends.1 == l || k.ends.2 == l

/-! ### REDUND_STATUS (Table 2.11) -/

/-- A torque-share ramp runs in or out (R74, 15_power_states_and_startup.md R438). -/
def Lane.ramping (L : Lane) : Bool :=
  allLanes.any fun l => (L.svc.exitStep.get l).isSome ||
    fin8.any fun n => match (L.svc.ramp.get l).get n with
      | some j => decide (j < L.rampSteps)
      | none => false

/-- Some driver's set on some actuator does not work (01_three_lanes_one_module.md R36). -/
def Lane.setMissing (L : Lane) : Bool :=
  allLanes.any fun l => L.vote.drivers.get l && fin8.any fun n =>
    (L.bridgeOf l n).isSome && !((L.svc.working.get l).get n)

/-- REDCAP (Table 2.5): DUPLEX or SIMPLEX, a set that does not work, or a ramp that has not ended. -/
def Lane.redcap (L : Lane) : Bool :=
  decide (1 ≤ L.mstate) && (decide (L.mstate ≤ 2) || L.setMissing || L.ramping)

/-- LEAD: the number of the lead lane, 3 for none. -/
def leadNum (o : Option LaneId) : Nat :=
  match o with
  | some l => l.num
  | none => 3

/-- REDUND_STATUS as the state stands at a cycle's end (Table 2.11). (DEDUCED, log entry 17; DEDUCED, log entry 28) -/
def Lane.redundWord (L : Lane) : Nat :=
  let v := L.vote
  let link := fun k => (L.links.get k).inUse && (L.links.get k).valid
  v.role.num + 4 * L.mstate + 16 * leadNum v.lead + flag L.ramping 6 + flag L.redcap 7 + flag L.svc.limp 8 +
  flag L.svc.stop.active 9 + flag v.split 10 + flag v.held 11 + flag v.contact.a 12 + flag v.contact.b 13 +
  flag v.contact.c 14 + flag (link .AB) 15 + flag (link .BC) 16 + flag (link .CA) 17 + flag v.unres 18 +
  flag v.selfFlag 19

/-- REDUND_STATUS as it reads (R380): of the last completed vote cycle; without vote cycles only HELD. -/
def Lane.redundStatus (L : Lane) : Nat :=
  if L.vote.running then L.vote.lastRedund else 0x30 + flag L.vote.held 11

/-! ### LANE_STATUS (Table 12.6) -/

/-- The fields that read their present value (R380). -/
def Lane.laneLive (L : Lane) : Nat :=
  16 * L.pwr.step + 256 * L.pwr.state.num + flag (!L.pwr.stopLine) 16 + flag L.pwr.nflt 17 +
  flag L.therm.cone 19 + flag L.safe.sealOpen 24

/-- The fields that lanes without vote cycles read as 0 (R380). -/
def Lane.laneCyclic (L : Lane) : Nat :=
  L.vote.role.num + 4 * L.mstate + flag L.redcap 10 + flag L.svc.stop.active 11 + flag L.net.netLost 12 +
  flag (L.net.state == .active) 13

/-- CFG_SET: the set selected at the start (13_safety_inputs_and_seal.md R405). -/
def Lane.cfgSet (L : Lane) : Nat := if L.safe.setSel = 0xFF then 0 else L.safe.setSel % 4

/-- The other fields. -/
def Lane.laneOther (L : Lane) : Nat :=
  16384 * L.recState.num + flag L.vote.held 18 + flag L.cfgOk 20 + 2097152 * L.cfgSet + flag L.safe.chkOk 23 +
  flag (L.obj 0x2405 1 == 1) 25 + 67108864 * (L.pwr.kind % 4) + flag L.pwr.wedgeOk 28 + flag L.sec.bootOk 29 +
  flag L.sec.debug 30

/-- LANE_STATUS without its live fields, as the state stands at a cycle's end. -/
def Lane.laneWord (L : Lane) : Nat := L.laneCyclic + L.laneOther

/-- LANE_STATUS as it reads (R380). -/
def Lane.laneStatus (L : Lane) : Nat :=
  L.laneLive + (if L.vote.running then L.vote.lastLane else L.laneOther)

/-! ### FAULT_ACTIVE and x_nFLT (Table 12.8, 18_balls_electrical_package.md R507) -/

/-- x_nFLT is high in a lane that has reached SHADOW and has no fault in force. -/
def Lane.nfltLevel (L : Lane) : Bool := L.pwr.step == 9 && L.faultActive == 0

end Sys2Proof.Machine
end

