-- ==== Sys2Proof/Machine/Vote.lean ====
section
/-! DEFINITION. The first half of a vote cycle: its start, input close, the exchange of input sets and their
agreement (02_vote_cycle_and_fault_tolerance.md R41-R54, R70). -/

namespace Sys2Proof.Machine

/-! ### Who takes part -/

/-- The lane passes the cycle's points: a voting lane, a lane that waits for SHADOW, and one that announces
entry until its save phase ends (R42, 15_power_states_and_startup.md R445, R450). -/
def Lane.runs (L : Lane) : Bool :=
  L.alive && (L.voting || L.pwr.waitShadow || (L.vote.running && L.pwr.announce))

/-- The lane sends an input set (R47, R445). (DEDUCED, log entry 34) -/
def Lane.sends (L : Lane) : Bool := L.alive && (L.voting || (L.vote.running && L.pwr.announce))

/-- Either lane of a link runs a pattern test on it, so it carries no other traffic
(17_diagnostics_and_kiln_log.md R498). -/
def State.linkTested (s : State) (k : LinkId) : Bool :=
  let on := fun a b : LaneId => let L := s.lane a
    (L.lptOn 17 && L.lptPeer 17 == b) || (L.lptOn 18 && L.lptPeer 18 == b)
  on k.ends.1 k.ends.2 || on k.ends.2 k.ends.1

/-- A pattern test holds the link between two lanes. -/
def State.testedBetween (s : State) (a b : LaneId) : Bool :=
  match LinkId.between a b with
  | some k => s.linkTested k
  | none => false

/-- The third lane can relay between two lanes: its rails are up and both its links are in use and carry traffic
(R47, R48). (DEDUCED, log entry 19) -/
def State.relayPath (s : State) (a b : LaneId) : Bool :=
  let t := thirdOf a b
  (s.lane t).alive && ((s.lane a).linkTo t).inUse && ((s.lane b).linkTo t).inUse &&
  !s.testedBetween a t && !s.testedBetween b t

/-- A lane uses the messages of its direct link to a peer: in use, or the only path (R48). (DEDUCED, log entry 19) -/
def State.usesLink (s : State) (a b : LaneId) : Bool := ((s.lane a).linkTo b).inUse || !s.relayPath a b

/-- The lane over whose link the messages of `b` come to `a`: `b` itself while the direct link is used, else the third
lane that relays; none where no path is left (R46-R48). -/
def State.via (s : State) (a b : LaneId) : Option LaneId :=
  if a = b then none
  else if s.usesLink a b && !s.testedBetween a b then some b
  else if s.relayPath a b then some (thirdOf a b)
  else none

/-! ### Start of a vote cycle -/

/-- The status words of the completed cycle (R380). -/
def Lane.latchCycle (L : Lane) : Lane :=
  if L.vote.running then
    { L with vote := { L.vote with
        lastStatus := BitVec.ofNat 32 L.serviceWord
        lastRedund := L.redundWord
        lastLane := L.laneWord
        lastRelOk := L.releaseOk } }
  else L

/-- The last cycle's traffic over one's own link to a peer is judged (R48): what the peer sent to the lane was
due, and the link's runs are brought up to date. (DEDUCED, log entry 20) -/
def LinkView.judge (v : LinkView) (dueIn dueOut dueCopy : Bool) : LinkView :=
  let data := v.gotIn || v.gotOut || v.gotCopy || v.gotRelay
  { v with
    valid := data
    badRun := if data then 0 else v.badRun + 1
    goodPrev := v.goodNow && (!dueIn || v.gotIn) && (!dueOut || v.gotOut) && (!dueCopy || v.gotCopy)
    goodNow := true, gotIn := false, gotOut := false, gotCopy := false, gotRelay := false, errNow := false }

/-- The link between the other two lanes, as the agreed inputs report it. (DEDUCED, log entry 17) -/
def Lane.farLink (L : Lane) (k : LinkId) : Bool :=
  let ok := fun l => match L.vote.agreedOwn.get l with
    | some p => p.linkClean.get (LaneId.ofNum (linkNum k))
    | none => false
  ok k.ends.1 && ok k.ends.2

/-- Every link judged at a cycle's start. (DEDUCED, log entry 18) -/
def Lane.judgeLinks (L : Lane) (s : State) : Lane :=
  allLinks.foldl (fun M k =>
    if linkTouches k L.id then
      let p := s.lane (if k.ends.1 = L.id then k.ends.2 else k.ends.1)
      let takes := L.vote.role == .follower || L.vote.role == .shadow || L.pwr.waitShadow
      M.onLink k fun v => v.judge p.vote.inset.isSome p.vote.outSet.isSome (p.vote.copyOut && takes)
    else M.onLink k fun v => { v with valid := L.farLink k }) L

/-- The lane's network has no use in this cycle (08_tsuvas_network.md R277). -/
def Lane.netDown (L : Lane) : Bool := L.net.state != .active || (L.net.x.lost && L.net.y.lost)

/-- What counts in every vote cycle of the module: the network's runs (R277). -/
def Lane.countNet (L : Lane) : Lane :=
  { L with net := { L.net with
      netBad := if L.netDown then L.net.netBad + 1 else 0
      netGood := if L.netDown then 0 else L.net.netGood + 1 } }

/-- What counts in the vote cycles a lane runs: the network's runs (R277), x_NFLT (18_balls_electrical_package.md
R507), the ages of received contract data (10_uplink_contracts_and_telemetry.md Table 10.5). -/
def Lane.countCycle (L : Lane) : Lane :=
  let M := L.countNet
  { M with
    pwr := { M.pwr with nflt := L.nfltLevel }
    ct := { M.ct with list := M.ct.list.map fun c => { c with inAge := min 0xFFFF (c.inAge + 1) } } }

/-- The record of one cycle cleared for the next. -/
def VoteG.fresh (v : VoteG) (k startNs : Nat) : VoteG :=
  { v with
    cycle := BitVec.ofNat 32 k, startNs := startNs, running := true, cycles := v.cycles + 1
    agreedNow := false, tasks := 0, inset := none, rx := ⟨none, none, none⟩, rxDirect := ⟨false, false, false⟩
    frozenUs := none, outSet := none, offered := ⟨none, none, none⟩, selfFlags := ⟨false, false, false⟩
    selfFlag := false, agreedOut := none, unres := false, dirty := false, copyOut := false, copyOver := false
    missOut := false, decisions := [] }

/-- Flags of the cycle before leave, those that read "of the last vote cycle" into their latched copies
(00_scope.md R12, 04_field_engines.md Table 4.9, 05_rotor_position.md Table 5.7, 06_gate_drive_and_bridge_protection.md
Table 6.8, 11_dictionary_access.md R349). -/
def Lane.freshFlags (L : Lane) : Lane :=
  let q := fun q : Queue => { q with ovfNow := false }
  { L with
    dict := { L.dict with prepared := 0, badGroups := [] }
    flog := { L.flog with seenNow := 0 }
    upl := { L.upl with w1cNow := 0 }
    tsq := { x := q L.tsq.x, y := q L.tsq.y, u := q L.tsq.u }
    gates := L.gates.map fun g => { g with drvLim := false, drvLast := g.drvLim }
    bridges := L.bridges.map fun b => { b with stale := false, overrun := false, staleLast := b.stale, overLast := b.overrun }
    fes := L.fes.map fun f =>
      { f with ampFlag := false, trackFlag := false, frameFlag := false, warn := false, ampLast := f.ampFlag
               trackLast := f.trackFlag, frameLast := f.frameFlag, warnLast := f.warn } }

/-- A lane that runs passes into vote cycle `k` (R41, R42): the completed cycle is latched and judged, the
decided commits come into force. Another lane sends nothing in the cycle (R47); what counts by vote cycles
counts in it too (R12, 08_tsuvas_network.md R277). (DEDUCED, log entry 34) -/
def Lane.startCycle (L : Lane) (s : State) (k : Nat) : Lane :=
  if L.runs then
    let start := k * L.tVote * 1000
    let M := (((L.latchCycle).judgeLinks s).countCycle).freshFlags
    let M := M.advance start
    ({ M with vote := M.vote.fresh k start } : Lane).forceCommits
  else
    let M := (L.countNet).freshFlags
    { M with vote := { M.vote with inset := none, outSet := none, copyOut := false } }

/-- The torque-share ramp of lane `l` starts at step 0 (R74); its steps count whatever actuators the map names. (DEDUCED, log entry 33) -/
def Lane.rampFrom0 (L : Lane) (l : LaneId) : Lane :=
  { L with svc := { L.svc with ramp := L.svc.ramp.set l (Oct.all (some 0)) } }

/-- Role changes due at the cycle's start (R74, R75): a shadow becomes FOLLOWER, a lane whose ramp ended
LEAD while the old lead becomes FOLLOWER. -/
def State.roleChanges (s : State) : State :=
  allLanes.foldl (fun t l =>
    match (t.lane l).vote.roleDue with
    | some .follower =>
      let t := t.on l fun L => { L with vote := { L.vote with role := .follower, roleDue := none, relAtApply := true } }
      t.onAll fun L => L.rampFrom0 l
    | some .lead =>
      let t := t.onAll fun L =>
        if L.vote.role = .lead then { L with vote := { L.vote with role := .follower } } else L
      t.on l fun L => { L with vote := { L.vote with role := .lead, roleDue := none } }
    | some r => t.on l fun L => { L with vote := { L.vote with role := r, roleDue := none } }
    | none => t) s

/-- The lanes in succession order from PREF_LEAD (R69). -/
def succession (pref : Nat) : List LaneId := [LaneId.ofNum pref, LaneId.ofNum (pref + 1), LaneId.ofNum (pref + 2)]

/-- The first lane in succession order with a property (R69). -/
def Lane.successor (L : Lane) (p : LaneId → Bool) : Option LaneId := (succession (L.obj 0x2600 7)).find? p

/-- A lane drives (R68). -/
def State.drives (s : State) (l : LaneId) : Bool := (s.lane l).vote.role.drives

/-- Some lane drives. -/
def State.anyDrives (s : State) : Bool := allLanes.any s.drives

/-- The lane that sends the state copy as lane `L` sees it: the lead, or while none drives the first SHADOW lane
in contact in succession order (R65, R68, 15_power_states_and_startup.md R440). -/
def State.copySource (s : State) (L : Lane) : Option LaneId :=
  if s.anyDrives then allLanes.find? fun l => (s.lane l).vote.role == .lead
  else L.successor fun l => (s.lane l).vote.role == .shadow && (l == L.id || L.vote.contact.get l)

/-- The start state of the state vector (R440): every quantity at its value at lane start, the contact positions
from CONTACT. -/
def Lane.startSvc (L : Lane) : Svc :=
  { cfgGen := L.dict.cfgGen
    contact := Oct.ofFn fun n => { inUse := L.real 0x4107 (n.val + 1) } }

/-- The power state, step and role of a lane that enters SHADOW (15_power_states_and_startup.md R450). -/
def Lane.shadowState (L : Lane) : Lane :=
  let p := L.pwr
  let run := p.kind == 2 && L.vote.wasRun && ({ L with pwr := { p with step := 9 } } : Lane).runOk
  { L with
    vote := { L.vote with role := .shadow, outNow := false, clean := 0 }
    pwr := { p with
      state := if run then .run else .hold
      step := 9, waitShadow := false
      startTime := BitVec.ofNat 32 (min (2 ^ 32 - 1) ((L.tb.mono - p.startRef) / 1000)) } }

/-- REV_COUNT of a lane that enters SHADOW while another drives (05_rotor_position.md R154): the count that brings
its angle nearest to the agreed one; with a multi-turn encoder its field stands. -/
def Lane.revSync (L : Lane) : Lane :=
  fin8.foldl (fun M b =>
    match M.actOf b with
    | none => M
    | some n =>
      match M.agreedAngle n with
      | none => M
      | some a =>
        let f := M.fes.get b
        let off := a - M.shaftDeg b n / 360
        let pp : Rat := (M.sensorPp n : Rat)
        let r := toSigned 32 (ofSigned 32 (f.revs + roundR (off * pp)))
        if M.bissMode n ∧ 0 < M.obj (actIdx n 2) 4 then M else M.onFe b fun g => { g with revs := r, revsNv := r }) L

/-- Entry to SHADOW (15_power_states_and_startup.md R450, R451): HOLD, or RUN after a lane-out in RUN; then a
held request is evaluated. -/
def Lane.enterShadow (L : Lane) (driver : Bool) : Lane :=
  let M := L.shadowState
  let M := if driver then M.revSync else M
  M.heldRequest

/-- A waiting lane enters SHADOW with a copy it adopted, or with the start state when it ran the cycle before
and found no copy source in contact (R440, R450); a lane under the hold of R72 stays OUT.
(DEDUCED, log entry 108) -/
def State.shadowEntry (s : State) (old : State) : State :=
  allLanes.foldl (fun t l =>
    let L := t.lane l
    if L.alive && L.pwr.waitShadow && L.vote.running && !L.vote.outNow && !L.vote.held then
      if L.vote.adopted then t.on l fun L => L.enterShadow old.anyDrives
      else if (old.lane l).vote.running &&
          !(allLanes.any fun p => p != l && L.vote.contact.get p && (old.lane p).voting) then
        t.on l fun L => ({ L with svc := L.startSvc, vote := { L.vote with agreed := [] } } : Lane).enterShadow false
      else t
    else t) s

/-- The drivers that fell silent: a driver whose rails are down sent no word of it, so its peers learn of it only as
contact lost (R70, R82, 01_three_lanes_one_module.md R20). (DEDUCED, log entry 100) -/
def State.silentFor (s : State) (L : Lane) : Tri Bool := Tri.ofFn fun p =>
  p != L.id && (L.vote.silent.get p || (L.vote.drivers.get p && !s.drives p && !(s.lane p).alive))

/-- The lane runs uncompared beside a peer that still drives, so the two see roles of their own (R70). (DEDUCED, log entry 101) -/
def State.apart (s : State) (L : Lane) : Bool := allLanes.any fun p => L.vote.alone.get p && s.drives p

/-- The drivers and the lead as every running lane knows them; a lane that runs uncompared counts itself
without the peers it lost (R70). (DEDUCED, log entry 24; DEDUCED, log entry 31) -/
def State.views (s : State) : State :=
  let lead := allLanes.find? fun l => (s.lane l).vote.role == .lead
  s.onAll fun L =>
    if L.vote.running then
      { L with vote := { L.vote with
          drivers := Tri.ofFn fun p => s.drives p && !(L.vote.alone.get p)
          silent := s.silentFor L
          lead := if s.apart L then L.vote.lead else lead
          adopted := false } }
    else L

/-- The published copies of the lanes' last vote cycle (11_dictionary_access.md R365). (DEDUCED, log entry 34; DEDUCED, log entry 94) -/
def State.publish (s : State) : State :=
  { s with pub := Tri.ofFn fun l =>
      let L := s.lane l
      if L.runs && L.vote.running then some L.latchCycle else s.pub.get l }

/-- VOTE_CYCLE_START (R41, R42, R74, R75, R440, R450). -/
def execVoteCycleStart (k : Nat) (s : State) : Host.Outcome State Fault Refusal :=
  let t := s.publish.onAll fun L => L.startCycle s k
  .next (t.roleChanges.shadowEntry s).views

/-! ### Input close (R45, R153, R390, R529, R532) -/

/-- Numbers of the agreed inputs that carry an entry (R53, R529): the two examples of R529 are the only numbers that count
as not used. (DESIGN CHOICE, log entry 114) -/
def Lane.inputNums (L : Lane) : List Nat :=
  (List.range 255).filter fun n =>
    (L.input n).isSome &&
    if n = 0 then false
    else if n ≤ 8 then true
    else if n < 0x10 then false
    else if h : n < 0x18 then L.mapped ⟨n - 0x10, by omega⟩
    else if h : n < 0x20 then L.mapped ⟨n - 0x18, by omega⟩
    else if n = 0x20 then L.obj 0x4100 4 == 0
    else n ≤ 0x26 || 0x40 ≤ n

/-- The lane's own sensor of an actuator gives a valid copy (R153). -/
def Lane.sensorValid (L : Lane) (b : Fin 8) : Bool :=
  let f := L.fes.get b
  !f.sensIsol && (f.asrc == .sensor || f.asrc == .hfiCheck)

/-- The angle or speed entry of an actuator: a signed 32-bit integer, as of the last PWM period that ended (R153); a lane
without a bridge on it has no valid copy. -/
def Lane.angleEntry (L : Lane) (n : Fin 8) (speed : Bool) : Entry :=
  let num := (if speed then 0x18 else 0x10) + n.val
  match L.bridgeOf L.id n with
  | none => { num := num }
  | some b =>
    let e := (L.fes.get b).ended
    { num := num, valid := L.sensorValid b
      val := toSigned 32 (ofSigned 32 (roundR ((if speed then e.spd else e.shaft) * 65536 / 360))) }

/-- The pedal's entry (03_steering_and_braking_services.md R90). -/
def Lane.pedalEntry (L : Lane) : Entry :=
  let rd := fun sub => (L.clk.hk[L.obj 0x4100 sub]?).getD 0
  let a := rd 5
  let b := rd 6
  { num := 0x20, valid := decide (absR (a - b) ≤ L.real 0x4100 7), val := roundR ((a + b) / 2 * 100) }

/-- The KIND that input `n` needs (R532). -/
def Lane.kindFits (L : Lane) (n kind : Nat) : Bool :=
  if n = 0x21 then kind == 1
  else if n = 0x22 then kind == 2
  else if n ≤ 0x26 then kind == 4
  else if (List.range 12).any fun i => L.wheelNum i == n then kind == 3
  else kind == 3 || kind == 16

/-- The frame that carries input `n` in this cycle: the latest fresh one of its slot that had ended at tCLOSE
(R256, R532). -/
def Lane.frameFor (L : Lane) (n : Nat) : Option (List Byte) :=
  let v := L.obj 0x2621 n
  if v = 0xFFFFFFFF then none
  else
    let ch : Chan := if bit v 31 then .Y else .X
    let f := L.net.rxFrames.find? fun f =>
      f.fresh && f.ch == ch && f.slot == bits v 16 8 && decide (f.endNs ≤ L.tb.ns)
    f.map fun f => (f.payload.drop (bits v 0 10)).take 16

/-- The entry of an input that arrives in a frame (R532); invalid while the network is lost
(08_tsuvas_network.md R277). -/
def Lane.recordEntry (L : Lane) (n : Nat) (d : InDesc) : Entry :=
  match L.frameFor n with
  | none => { num := n }
  | some r =>
    let seq := BitVec.ofNat 16 (ofBytes (r.take 2))
    let fits := r.length == 16 && L.kindFits n (ofBytes ((r.drop 2).take 1)) && !L.net.netLost
    if d.cls = .sequenced then { num := n, valid := fits, seq := seq, val := (ofBytes (r.drop 4) : Nat) }
    else
      let v := toSigned 32 (ofBytes ((r.drop 4).take 4))
      { num := n, valid := fits && (d.cls != .discrete || decide (0 ≤ v ∧ v ≤ 255)), val := v }

/-- The entry of one input. -/
def Lane.entry (L : Lane) (n : Nat) : Entry :=
  if h : 1 ≤ n ∧ n ≤ 8 then
    let i : Fin 8 := ⟨n - 1, by omega⟩
    let x := L.safe.inp.get i
    let v := x.asOf L.tb.ns
    { num := n, valid := L.siMode i % 4 != 0 && v.isSome && !x.disc && !x.tp, val := if v = some true then 1 else 0 }
  else if h : 0x10 ≤ n ∧ n < 0x18 then L.angleEntry ⟨n - 0x10, by omega⟩ false
  else if h : 0x18 ≤ n ∧ n < 0x20 then L.angleEntry ⟨n - 0x18, by omega⟩ true
  else if n = 0x20 then L.pedalEntry
  else match L.input n with
    | some d => L.recordEntry n d
    | none => { num := n }

/-- A set of the lane on an actuator with a property of its bridge. -/
def Lane.ownSets (L : Lane) (p : Fin 8 → Bool) : Oct Bool :=
  Oct.ofFn fun n => match L.bridgeOf L.id n with
    | some b => p b
    | none => false

/-- The lane's own time is valid (R54). -/
def Lane.ownTime (L : Lane) : Bool := L.net.state == .active && L.tb.state != .invalid && !L.net.netLost

/-- The module's own per-lane entries (R529). (DEDUCED, log entry 48) -/
def Lane.perLane (L : Lane) : PerLane :=
  { linkClean := ⟨L.links.ab.goodPrev, L.links.bc.goodPrev, L.links.ca.goodPrev⟩
    timeValid := L.ownTime
    asrc := Oct.ofFn fun n => match L.bridgeOf L.id n with
      | some b => (L.fes.get b).asrc
      | none => .unmapped
    wait := L.ownSets fun b => (L.gates.get b).wait || (L.gates.get b).trying || !(L.bridges.get b).isolKinds.isEmpty
    isol := L.ownSets fun b => !(L.bridges.get b).isolKinds.isEmpty
    vdc := L.dc.vdc, linkLow := L.dc.linkLow, uv2 := L.dc.uv2, regenCut := L.dc.regenCut, ov3 := L.dc.ov3
    hwHold := L.dc.hwHold, votes := L.votes, exit := L.pwr.exit && L.vote.role.drives, entry := L.pwr.announce
    pstate := L.pwr.state, clean := L.vote.clean.toNat }

/-- The input set of the lane at tCLOSE (R45); its self-check state tells that no lane-out is in force. (DESIGN
CHOICE, log entry 111) -/
def Lane.makeInset (L : Lane) : InSet :=
  { sender := L.id, role := L.vote.role, cycle := L.vote.cycle, closeNs := L.tb.ns, selfOk := !L.vote.outNow
    entries := L.inputNums.map L.entry, own := L.perLane }

/-- The measured values that reads report until the next input close, those of the last period that ended
(04_field_engines.md R150, 05_rotor_position.md R182,
06_gate_drive_and_bridge_protection.md R216, 07_dc_link_and_braking_energy.md R237). (DEDUCED, log entry 105) -/
def Lane.closeReads (L : Lane) : Lane :=
  { L with
    bridges := L.bridges.map fun b => { b with rd := b.ended }
    fes := L.fes.map fun f => { f with rd := f.ended }
    gates := L.gates.map fun g => { g with rdTsw := g.endTsw }
    dc := { L.dc with rdVdc := L.dc.vdc, rdChi := L.dc.chi } }

/-- tCLOSE in one lane (R42, R45): its inputs freeze, and the frames considered are no longer new. -/
def Lane.close (L : Lane) : Lane :=
  if L.runs && L.vote.running then
    let M := L.toPoint L.tClose
    let M := M.closeReads
    let set := if M.sends then some M.makeInset else none
    { M with
      vote := { M.vote with inset := set }
      net := { M.net with rxFrames := M.net.rxFrames.map fun f =>
        if f.endNs ≤ M.tb.ns then { f with fresh := false } else f } }
  else L

/-- INPUT_CLOSE (R42, R45, R350). -/
def execInputClose (s : State) : Host.Outcome State Fault Refusal := .next (s.onAll Lane.close)

/-! ### The exchange (R45-R48) -/

/-- A set as it arrives: the listed entries differ from what was sent. -/
def InSet.arrived (x : InSet) (other : List (Nat × Bool × Int)) : InSet :=
  { x with entries := x.entries.map fun e =>
      match other.find? fun o => o.1 == e.num with
      | some o => { e with valid := o.2.1, val := o.2.2 }
      | none => e }

/-- Code of an input set that is late or fails its check (Table 2.8). -/
def setCode (src : LaneId) : Nat := 0x1002 + 0x40 * src.num

/-- A copy over the direct link (R46, R48). -/
def Lane.takeDirect (L : Lane) (src : LaneId) (x : InSet) (crcOk use : Bool) : Lane :=
  if crcOk = false ∨ x.cycle ≠ L.vote.cycle then
    let M := L.onLinkTo src fun v => { v with errors := satInc v.errors, goodNow := false, errNow := true }
    M.raise (setCode src) 0 (if crcOk then 2 else 1) L.vote.cycle.toNat
  else
    let M := L.onLinkTo src fun v => { v with gotIn := true }
    if use then { M with vote := { M.vote with
      rx := M.vote.rx.set src (some x), rxDirect := M.vote.rxDirect.set src true } }
    else M

/-- A copy that the third lane relayed (R46). -/
def Lane.takeRelayed (L : Lane) (src : LaneId) (x : InSet) (crcOk : Bool) : Lane :=
  let third := thirdOf L.id src
  if crcOk = false ∨ x.cycle ≠ L.vote.cycle then
    L.onLinkTo third fun v => { v with errors := satInc v.errors, goodNow := false }
  else
    let M := L.onLinkTo third fun v => { v with gotRelay := true }
    if (M.vote.rx.get src).isSome then M
    else { M with vote := { M.vote with rx := M.vote.rx.set src (some x) } }

/-- A message of the running cycle arrives by an offset of the cycle in network time. -/
def Lane.byPoint (L : Lane) (us : Nat) : Bool := decide (L.tb.ns ≤ L.vote.startNs + us * 1000)

/-- INPUT_SET_RECEIVED (R45-R48): a set that has not arrived by tCLOSE + 50 microseconds takes no part. -/
def execInputSetReceived (dst src : LaneId) (direct crcOk : Bool) (other : List (Nat × Bool × Int)) (s : State) :
    Host.Outcome State Fault Refusal :=
  let L := s.lane dst
  match (s.lane src).vote.inset, LinkId.between dst src with
  | some x, some k =>
    let x := x.arrived other
    if L.runs && L.vote.running && !L.vote.agreedNow && L.byPoint (L.tClose + 50) then
      if direct then
        if s.linkTested k then .next s
        else .next (s.on dst fun L => L.takeDirect src x crcOk (s.usesLink dst src))
      else if s.relayPath dst src then .next (s.on dst fun L => L.takeRelayed src x crcOk)
      else .next s
    else .next s
  | _, _ => .next s

end Sys2Proof.Machine
end

