-- ==== Sys2Proof/Machine/Agree.lean ====
section
/-! DEFINITION. Input agreement: contact, the agreed inputs and their sources, time discipline, exits, and the
decision of commits (02_vote_cycle_and_fault_tolerance.md R46-R54, R70). -/

namespace Sys2Proof.Machine

/-- The input sets that take part in a lane's agreement (R46). -/
def Lane.gotSets (L : Lane) : Tri (Option InSet) := L.vote.rx.set L.id L.vote.inset

/-! ### Contact (R70, 15_power_states_and_startup.md R439) -/

/-- Peers in contact in this cycle; the lane itself always is. -/
def Lane.contacts (L : Lane) : Tri Bool := Tri.ofFn fun p => p == L.id || (L.gotSets.get p).isSome

/-- A voting peer whose set arrived by neither path is recorded (Table 2.8), but for one whose exit or entry has
been agreed, and one whose set failed its check. (DEDUCED, log entry 22) -/
def Lane.missing (L : Lane) (s : State) : Lane :=
  allLanes.foldl (fun M p =>
    if p != L.id && ((s.lane p).voting || L.vote.silent.get p) && !(L.vote.gone.get p) && (L.gotSets.get p).isNone &&
        !(L.linkTo p).errNow then
      M.raise (setCode p) 0 0 L.vote.cycle.toNat
    else M) L

/-- The drivers that count for contact: those known and those that fell silent since it was last judged, less those
whose exit or entry has been agreed (R70, R82). (DEDUCED, log entry 100) -/
def Lane.counted (L : Lane) : List LaneId :=
  allLanes.filter fun p => (L.vote.drivers.get p || L.vote.silent.get p) && (p == L.id || !(L.vote.gone.get p))

/-- Contact judged (R70): a lane that runs uncompared does so until the peer's input set arrives again, and is
SPLIT meanwhile (Table 2.11). (DEDUCED, log entry 22; DEDUCED, log entry 101) -/
def Lane.judgeContact (L : Lane) : Lane :=
  let c := L.contacts
  let others := L.counted.filter (· ≠ L.id)
  let lost := others.filter fun p => !c.get p
  let alone := Tri.ofFn fun p => L.vote.alone.get p && !c.get p
  let M : Lane := { L with vote := { L.vote with contact := c, alone := alone, silent := ⟨false, false, false⟩ } }
  let M : Lane :=
    if L.vote.role.drives = false ∨ lost = [] ∨ lost.length ≠ others.length then M
    else if 2 ≤ lost.length then M.laneOut 0x1FC7 0 L.vote.cycle.toNat
    else
      let N := M.raise 0x1FC8 0 0 L.vote.cycle.toNat
      { N with vote := { N.vote with
          drivers := Tri.ofFn fun p => p == L.id
          alone := Tri.ofFn fun p => N.vote.alone.get p || lost.contains p } }
  { M with vote := { M.vote with split := allLanes.any M.vote.alone.get } }

/-! ### Time (R54, 08_tsuvas_network.md R274, 09_time_base_and_timed_actions.md R294) -/

/-- The lane whose input close is the reference: the lead, else the first in the order A, B, C that has valid
time (R54). (DEDUCED, log entry 16) -/
def Lane.timeRef (L : Lane) : Option (LaneId × Nat) :=
  let valid := fun p => (L.gotSets.get p).bind fun x => if x.own.timeValid then some (p, x.closeNs) else none
  match L.vote.lead.bind valid with
  | some r => some r
  | none => (allLanes.filterMap valid).head?

/-- Ticks of the network clock in a vote cycle. -/
def Lane.voteTicks (L : Lane) : Rat := (L.tVote * 1000 : Nat) * 4294967296 / (L.tb.inc : Rat)

/-- The time base follows the reference's input close (R294). -/
def Lane.discipline (L : Lane) (ofs : Int) (synced : Bool) : Lane :=
  let change : Rat := match L.tb.discLast with
    | some o => ((ofs - o : Int) : Rat)
    | none => 0
  let rate := L.tb.rateInc - roundR (change * 4294967296 / L.voteTicks)
  { L with tb := { (L.tb.slew (-(ofs : Rat)) 0) with rateInc := rate, disc := synced, discLast := some ofs } }

/-- Time judged against the reference of R54: more than 5 microseconds off is out of step; a lane without valid
time of its own is disciplined. (DEDUCED, log entry 16) -/
def Lane.judgeClose (L : Lane) (s : State) : Lane :=
  let free := fun M : Lane => { M with tb := { M.tb with disc := false, discLast := none } }
  match L.vote.inset, L.timeRef with
  | some x, some (r, ns) =>
    let ofs := (x.closeNs : Int) - (ns : Int)
    if 5000 < ofs.natAbs then L.laneOut 0x5010
    else if x.own.timeValid then free L
    else L.discipline ofs ((s.lane r).tb.state == .synced)
  | _, _ => free L

/-- The external correction that a DT3 lane sends (R274): own input close against the middle or the mean of the
valid ones. (DEDUCED, log entry 21) -/
def Lane.judgeExt (L : Lane) : Lane :=
  let close := fun p => (L.gotSets.get p).map (·.closeNs)
  let valid := sortR ((allLanes.filterMap fun p => (L.gotSets.get p).bind fun x =>
    if x.own.timeValid then some x.closeNs else none).map fun t => (t : Rat))
  let ref := match valid with
    | [a, b] => some ((a + b) / 2)
    | [_, b, _] => some b
    | _ => none
  let lim : Rat := (L.sched 0x4800 0x13 : Rat)
  let req := match close L.id, ref with
    | some own, some r => roundR (clampR (-((own : Rat) - r)) (-lim) lim)
    | _, _ => 0
  let src := L.sched 0x4800 0x14 == 1 && allLanes.any fun p => p != L.id && (close p).isSome
  { L with net := { L.net with extSrc := src, extReq := if src then req else 0 } }

/-! ### Selection (R49, R50, Table 2.3) -/

/-- Sequence number a is newer than b (R50). -/
def seqNewer (a b : W16) : Bool := decide (1 ≤ (a - b).toNat ∧ (a - b).toNat ≤ 32767)

/-- A value that more than half of a list carry. -/
def majorityOf (l : List Int) : Option Int := l.find? fun v => decide (l.length < 2 * (l.filter (· == v)).length)

/-- The middle one of three numbers. -/
def middleOf (a b c : Int) : Int := max (min a b) (min (max a b) c)

/-- A discrete input (R49). -/
def agreeDiscrete (n : Nat) (safe : Int) (v : List Int) : Agreed :=
  match v with
  | [] => { num := n, valid := false, val := safe }
  | [a] => { num := n, valid := true, val := a }
  | [a, b] => { num := n, valid := true, val := if a = b then a else safe }
  | l => { num := n, valid := true, val := (majorityOf l).getD safe }

/-- An analogue input; the mean of two is rounded towards zero (R49). -/
def agreeAnalogue (n : Nat) (last : Int) (v : List Int) : Agreed :=
  match v with
  | [] => { num := n, valid := false, val := last }
  | [a] => { num := n, valid := true, val := a }
  | [a, b] => { num := n, valid := true, val := (a + b).tdiv 2 }
  | a :: b :: c :: _ => { num := n, valid := true, val := middleOf a b c }

/-- The newest sequence number among copies that is newer than the last agreed one (R50); before any has been agreed every
number is newer. (DEDUCED, log entry 32; DESIGN CHOICE, log entry 112) -/
def newestSeq (prev : Agreed) (v : List Entry) : Option W16 :=
  (v.filter fun e => !prev.seen || seqNewer e.seq prev.seq).foldl (fun m e =>
    match m with
    | some q => some (if seqNewer e.seq q then e.seq else q)
    | none => some e.seq) none

/-- A sequenced command (R50): the agreed record, and the sequence number that found no majority. (DEDUCED, log entry 32) -/
def agreeSequenced (prev : Agreed) (v : List Entry) : Agreed × Option W16 :=
  match newestSeq prev v with
  | none => ({ prev with isNew := false }, none)
  | some q =>
    match majorityOf ((v.filter fun e => e.seq == q).map (·.val)) with
    | some x => ({ prev with valid := true, isNew := true, seen := true, seq := q, val := x }, none)
    | none => ({ prev with isNew := false }, some q)

/-! ### Sources (R52) -/

/-- The tracking of one lane's source of an input. -/
def Lane.sourceOf (L : Lane) (n : Nat) (p : LaneId) : Source :=
  (L.vote.sources.find? fun x => x.num == n && x.lane == p).getD { num := n, lane := p }

/-- The tracking with one source's entry replaced; a source at rest has none. -/
def putSource (l : List Source) (x : Source) : List Source :=
  let rest := l.filter fun y => !(y.num == x.num && y.lane == x.lane)
  if x.run = 0 ∧ x.isolated = false then rest else x :: rest

/-- The lane's copy of an input that counts as valid: its set took part and its source is not isolated (R49,
R52). -/
def Lane.copyOf (L : Lane) (n : Nat) (p : LaneId) : Option Entry :=
  match L.gotSets.get p with
  | none => none
  | some x => x.entries.find? fun e => e.num == n && e.valid && !(L.sourceOf n p).isolated

/-- A copy departs from the agreed value: an analogue one by more than TOL, a discrete one at all (R52). -/
def departs (d : InDesc) (x a : Int) : Bool :=
  if d.cls = .analogue then decide (d.tol < (x - a).natAbs) else x != a

/-- One source judged against the agreed value (R52): PERSIST counted cycles out of tolerance in a row isolate
it, fault 0x3FD0; an own angle sensor is then isolated too. -/
def Lane.judgeSource (L : Lane) (n : Nat) (d : InDesc) (a : Int) (p : LaneId) : Lane :=
  match L.copyOf n p with
  | none => L
  | some e =>
    let x := L.sourceOf n p
    let run := if departs d e.val a then x.run + 1 else 0
    let iso := decide (0 < run ∧ d.persist ≤ run)
    let M : Lane := { L with vote := { L.vote with sources := putSource L.vote.sources { x with run := run, isolated := iso } } }
    if iso then
      let M := M.raise 0x3FD0 2 (n + 256 * p.num)
      if h : p = L.id ∧ 0x10 ≤ n ∧ n < 0x18 then
        match M.bridgeOf M.id ⟨n - 0x10, by omega⟩ with
        | some b => M.dropSensor b
        | none => M
      else M
    else M

/-- One input agreed: the lane after the records it causes, and the agreed input. -/
def Lane.agreeInput (L : Lane) (n : Nat) : Lane × Agreed :=
  match L.input n with
  | none => (L, { num := n })
  | some d =>
    let v := allLanes.filterMap (L.copyOf n)
    let prev := L.agreedIn n
    match d.cls with
    | .discrete =>
      let a := agreeDiscrete n d.safe (v.map (·.val))
      (if a.valid then allLanes.foldl (fun M p => M.judgeSource n d a.val p) L else L, a)
    | .analogue =>
      let a := agreeAnalogue n prev.val (v.map (·.val))
      (if a.valid then allLanes.foldl (fun M p => M.judgeSource n d a.val p) L else L, a)
    | .sequenced =>
      let (a, bad) := agreeSequenced prev v
      (match bad with
       | some q => L.raise 0x4FCA 0 n q.toNat
       | none => L, a)
    | .perLane =>
      let per := Tri.ofFn fun p => (L.copyOf n p).map (·.val)
      (L, { num := n, valid := !v.isEmpty, per := per })

/-- Every input agreed (R49). -/
def Lane.agreeInputs (L : Lane) : Lane :=
  let r := L.inputNums.foldl (fun (acc : Lane × List Agreed) n =>
    let (M, a) := acc.1.agreeInput n
    (M, acc.2 ++ [a])) (L, [])
  { r.1 with vote := { r.1.vote with agreed := r.2 } }

/-- Without an agreed shaft angle every lane raises the fault of R171 once and isolates its own sets
(05_rotor_position.md R171). -/
def Lane.judgeShafts (L : Lane) : Lane :=
  fin8.foldl (fun M b =>
    match M.actOf b with
    | none => M
    | some n =>
      let bad := !(M.agreedIn (0x10 + n.val)).valid
      let was := (M.fes.get b).shaftInv
      let M := M.onFe b fun f => { f with shaftInv := bad }
      if bad && !was then M.isolate b (feCode b 0x0C) else M) L

/-! ### Per-lane entries: exits, links (R48, 15_power_states_and_startup.md R437-R441) -/

/-- The agreed per-lane entries. -/
def Lane.agreeOwn (L : Lane) : Lane :=
  let own := Tri.ofFn fun p => (L.gotSets.get p).map (·.own)
  { L with vote := { L.vote with
      agreedOwn := own
      gone := Tri.ofFn fun p => match own.get p with
        | some x => x.exit || x.entry
        | none => L.vote.gone.get p } }

/-- The exit flag of a lane as agreed; a lane without entries keeps its exit. (DEDUCED, log entry 25) -/
def Lane.exits (L : Lane) (p : LaneId) : Bool :=
  match L.vote.agreedOwn.get p with
  | some x => x.exit
  | none => (L.svc.exitStep.get p).isSome

/-- The exit ramp of a lane over one cycle (R438, R441): a flag starts or goes on with it, a withdrawn flag
turns it back from its present step. -/
def Lane.exitStepOf (L : Lane) (p : LaneId) : Lane :=
  let v := L.svc
  let set := fun (e : Option Nat) => ({ v with exitStep := v.exitStep.set p e } : Svc)
  if L.vote.drivers.get p = false then { L with svc := set none }
  else match L.exits p, v.exitStep.get p with
    | true, some e => { L with svc := set (some (min L.rampSteps (e + 1))) }
    | true, none => { L with svc := set (some 1) }
    | false, some e =>
      let back := Oct.ofFn fun n => if (L.bridgeOf p n).isSome then some (L.rampSteps - e) else (v.ramp.get p).get n
      { L with svc := { (set none) with ramp := v.ramp.set p back } }
    | false, none => L

/-- The agreed exit flags (R438): with a driver left the exiting lanes ramp down, else the module enters PASSIVE
at tAPPLY. (DEDUCED, log entry 25) -/
def Lane.judgeExits (L : Lane) : Lane :=
  let ds := allLanes.filter fun p => L.vote.drivers.get p
  if ds ≠ [] ∧ ds.all L.exits then
    { L with
      svc := { L.svc with exitStep := ⟨none, none, none⟩ }
      pwr := { L.pwr with exitPassive := L.pwr.exitPassive || L.vote.role.drives } }
  else allLanes.foldl (fun M p => M.exitStepOf p) L

/-- Cycles in which both reports on a link were clean (R48). (DEDUCED, log entry 45; DEDUCED, log entry 48) -/
def Lane.judgeReports (L : Lane) : Lane :=
  allLinks.foldl (fun M k => M.onLink k fun v =>
    { v with cleanRun := if L.farLink k then v.cleanRun + 1 else 0 }) L

/-! ### tAGREE -/

/-- What agreement does in a voting lane (R49-R54, R70, R351). -/
def Lane.agreeAll (L : Lane) (s : State) : Lane :=
  let M := (L.missing s).judgeContact
  let M := if M.voting then M.judgeClose s else M
  if M.voting = false then M
  else
    let M := M.judgeExt.agreeInputs.agreeOwn
    (M.judgeShafts.judgeExits.judgeReports).decideCommits

/-- tAGREE in one lane; a lane that waits for SHADOW or announces entry only judges contact. -/
def Lane.agree (L : Lane) (s : State) : Lane :=
  if L.runs && L.vote.running && !L.vote.agreedNow then
    let M := L.toPoint L.tAgree
    let M := if M.voting then M.agreeAll s
      else { M with vote := { M.vote with contact := M.contacts } }
    { M with vote := { M.vote with agreedNow := true } }
  else L

/-- INPUT_AGREEMENT (R42, R49-R54, R70). -/
def execInputAgreement (s : State) : Host.Outcome State Fault Refusal := .next (s.onAll fun L => L.agree s)

end Sys2Proof.Machine
end

