-- ==== Sys2Proof/Machine/Compare.lean ====
section
/-! DEFINITION. The second half of a vote cycle: compute deadline, output compare, apply and the state copy
(02_vote_cycle_and_fault_tolerance.md R55-R69, R73, R78, 04_field_engines.md R127, R128). -/

namespace Sys2Proof.Machine

/-! ### Compute deadline (R56, R57) -/

/-- A deadline miss (R56, R57): two in a row, or 5 in 1,000 consecutive vote cycles, are due a lane-out at the
compare; the event that completes the count carries its level (R525). -/
def Lane.missDeadline (L : Lane) : Lane :=
  let v := L.vote
  let hist := v.cycles :: v.missHist.filter fun c => decide (v.cycles < c + 1000)
  let out := decide (2 ≤ v.missRun + 1) || decide (5 ≤ hist.length)
  let M : Lane := { L with
    vote := { v with
      misses := satInc v.misses, missRun := v.missRun + 1, missHist := hist, missOut := v.missOut || out }
    kiln := { L.kiln with secMiss := L.kiln.secMiss + 1 } }
  M.raise 0xAFC1 (if out then 3 else 0) 0 (v.frozenUs.getD 0xFFFFFFFF)

/-- A deadline met: its slack enters the Kiln second (17_diagnostics_and_kiln_log.md Table 17.3). -/
def Lane.meetDeadline (L : Lane) : Lane :=
  let slack := (L.tDead : Int) - ((L.vote.frozenUs.getD 0 : Nat) : Int)
  { L with
    vote := { L.vote with missRun := 0 }
    kiln := { L.kiln with secSlack := some (match L.kiln.secSlack with
      | some x => min x slack
      | none => slack) } }

/-- tDEAD in one lane: what it froze is what it offers (R55, R56). -/
def Lane.deadline (L : Lane) : Lane :=
  if L.alive && L.voting && L.vote.running && L.vote.inset.isSome then
    let M := L.toPoint L.tDead
    let M := if M.vote.outSet.isSome then M.meetDeadline else M.missDeadline
    { M with vote := { M.vote with offered := M.vote.offered.set M.id M.vote.outSet } }
  else L

/-- COMPUTE_DEADLINE (R56, R57). -/
def execComputeDeadline (s : State) : Host.Outcome State Fault Refusal := .next (s.onAll Lane.deadline)

/-! ### Output sets (R19, R48, R55) -/

/-- A set as it arrives: the listed setpoints differ from what was offered. -/
def OutSet.arrived (x : OutSet) (other : List (LaneId × Fin 8 × Rat)) : OutSet :=
  { x with iq := other.foldl (fun q o => q.set o.1 ((q.get o.1).set o.2.1 o.2.2)) x.iq }

/-- The lane over whose link a message of `src` comes: the sender itself, or the third lane that relays it (R46-R48). -/
def viaOf (dst src : LaneId) (direct : Bool) : LaneId := if direct then src else thirdOf dst src

/-- A message of `src` can reach `dst` this way: over the direct link unless a pattern test holds it, else by the third
lane's relay (R46-R48). -/
def State.path (s : State) (dst src : LaneId) (direct : Bool) : Bool :=
  match LinkId.between dst src with
  | some k => if direct then !s.linkTested k else s.relayPath dst src
  | none => false

/-- An output set taken into the compare. -/
def Lane.offer (L : Lane) (src : LaneId) (x : OutSet) (flagged : Bool) : Lane :=
  { L with vote := { L.vote with
      offered := L.vote.offered.set src (some x), selfFlags := L.vote.selfFlags.set src flagged } }

/-- An output set that reaches the lane before tCOMP and passes its check: a direct one is used while its link is, a
relayed one where no set of the sender is held (R19, R48). (DEDUCED, log entry 20; DEDUCED, log entry 115) -/
def Lane.takeOutput (L : Lane) (src : LaneId) (x : OutSet) (direct use flagged : Bool) : Lane :=
  if direct then
    let M := L.onLinkTo src fun v => { v with gotOut := true }
    if use then M.offer src x flagged else M
  else
    let M := L.onLinkTo (thirdOf L.id src) fun v => { v with gotRelay := true }
    if (M.vote.offered.get src).isSome then M else M.offer src x flagged

/-- OUTPUT_SET_RECEIVED (R19, R48, R55, R58). -/
def execOutputSetReceived (dst src : LaneId) (way : Way) (flagged : Bool) (other : List (LaneId × Fin 8 × Rat))
    (s : State) : Host.Outcome State Fault Refusal :=
  let L := s.lane dst
  match (s.lane src).vote.outSet with
  | none => .next s
  | some x =>
    if L.alive && L.voting && L.vote.running && s.path dst src way.direct &&
        decide (L.tb.ns < L.vote.startNs + L.tComp * 1000) then
      .next (s.on dst fun L =>
        if way.crcOk then L.takeOutput src (x.arrived other) way.direct (s.usesLink dst src) flagged
        else L.badMessage (viaOf dst src way.direct))
    else .next s

/-! ### The procedure of R59 -/

/-- What the procedure decides. -/
inductive Decided where
  /-- An agreed output; a driver outvoted by it; every driver's set self-flagged. -/
  | agreed (out : OutSet) (outvoted : Option LaneId) (flagged : Bool)
  /-- No agreed output, for a self-flag beside a missing set. -/
  | none_
  /-- Three-way disagreement. -/
  | three
  /-- Unresolved disagreement of two drivers. -/
  | unresolved
  /-- No driver offered a set. -/
  | noDriver
  deriving DecidableEq, Repr

/-- Two sets are identical, whoever sent them. -/
def sameOut (a b : OutSet) : Bool := decide ({ a with sender := .A } = ({ b with sender := .A } : OutSet))

/-- The compare of R59 over the drivers' offered sets; `expected` counts the drivers of the cycle, `shadow` is the
set of a shadow lane. Flagged identical sets count as every driver's (R60) only where every expected driver offered.
(DESIGN CHOICE, log entry 113) -/
def compareSets (expected : Nat) (d : List (LaneId × OutSet)) (shadow : Option OutSet) (flag : LaneId → Bool) :
    Decided :=
  match d with
  | [] => .noDriver
  | [(a, x)] =>
    if expected = 1 then .agreed x none (flag a) else if flag a then .none_ else .agreed x none false
  | [(a, x), (b, y)] =>
    if sameOut x y then .agreed x none (expected == 2 && flag a && flag b)
    else match shadow.map fun z => (sameOut z x, sameOut z y) with
      | some (true, false) => .agreed x (some b) false
      | some (false, true) => .agreed y (some a) false
      | _ =>
        if flag a && !flag b then .agreed y (some a) false
        else if flag b && !flag a then .agreed x (some b) false
        else .unresolved
  | (a, x) :: (b, y) :: (c, z) :: _ =>
    if sameOut x y && sameOut x z then .agreed x none (flag a && flag b && flag c)
    else if sameOut x y then .agreed x (some c) false
    else if sameOut x z then .agreed x (some b) false
    else if sameOut y z then .agreed y (some a) false
    else .three

/-- The drivers of the compare: those the lane knows, less the lanes that have gone OUT in this cycle; one that fell
silent is still expected (R59, 01_three_lanes_one_module.md R20). (DEDUCED, log entry 23; DEDUCED, log entry 100) -/
def Lane.compareDrivers (L : Lane) (s : State) : List LaneId :=
  allLanes.filter fun p => L.vote.drivers.get p && ((s.lane p).vote.role != .out || !(s.lane p).alive)

/-- The decision of a lane. -/
def Lane.decide_ (L : Lane) (s : State) (ds : List LaneId) : Decided :=
  let d := ds.filterMap fun p => (L.vote.offered.get p).map fun x => (p, x)
  let shadow := (allLanes.filterMap fun p =>
    if (s.lane p).vote.role = .shadow then L.vote.offered.get p else none).head?
  compareSets ds.length d shadow L.vote.selfFlags.get

/-! ### What a decision does -/

/-- The passive state of an actuator's bridges (Table 2.6). (DEDUCED, log entry 27) -/
def Lane.passiveMode (L : Lane) (n : Fin 8) : Mode :=
  match L.obj (actIdx n 0) 6 with
  | 1 => .activeShort
  | 2 => .allOff
  | 3 => .parkApply
  | _ => if L.duty n = 3 then .parkApply else .activeShort

/-- The lane's bridges enter the passive states of their actuators (R78), where its gate rail is up, its stop line
released and the bridge has no latched fault. -/
def Lane.enterPassive (L : Lane) : Lane :=
  if L.pwr.stopLine || !L.pwr.vgdOn || L.pwr.vgdBad then L
  else
    let M := fin8.foldl (fun M b =>
      match M.actOf b with
      | some n =>
        if (M.gates.get b).latch then M else M.onBr b fun br => { br with passive := some (M.passiveMode n) }
      | none => M) L
    M.settleAll

/-- The bridges of a lost actuator go to their configured passive state; they leave it with the actuator's loss, where the
module is not in PASSIVE (01_three_lanes_one_module.md Table 1.7, R37). (DEDUCED, log entry 123) -/
def Lane.lostPassive (L : Lane) : Lane :=
  if L.vote.role.drives = false || L.vote.passive || L.pwr.stopLine || !L.pwr.vgdOn || L.pwr.vgdBad then L
  else
    let M := fin8.foldl (fun M b =>
      match M.actOf b with
      | some n =>
        let p := (M.bridges.get b).passive
        if M.actLost n then
          (if p.isSome || (M.gates.get b).latch then M
           else M.onBr b fun br => { br with passive := some (M.passiveMode n) })
        else M.onBr b fun br => { br with passive := none }
      | none => M) L
    if decide (M.bridges = L.bridges) then L else M.settleAll

/-- The module-safe reaction in one lane (R80): PASSIVE; a driver becomes SHADOW. (DEDUCED, log entry 26) -/
def Lane.moduleSafe (L : Lane) : Lane :=
  let M : Lane := { L with vote := { L.vote with
    passive := true, roleDue := none, relAtApply := false, missOut := false
    drivers := ⟨false, false, false⟩
    role := if L.vote.role.drives then .shadow else L.vote.role
    clean := 0, dirty := true, agreedOut := none } }
  if L.vote.role.drives then M.enterPassive else M

/-- A lane outvoted at the compare: every deciding lane records it, the lane itself goes OUT (R59, R525). -/
def Lane.outvote (L : Lane) (p : LaneId) : Lane :=
  let code := 0x1001 + 0x40 * p.num
  if p = L.id then L.laneOut code else L.raise code 3

/-- An unresolved disagreement (R62): two in a row, or 3 in 1,000 vote cycles, leave the LEAD alone. -/
def Lane.unresolve (L : Lane) : Lane :=
  let v := L.vote
  let hist := v.cycles :: v.unresHist.filter fun c => decide (v.cycles < c + 1000)
  let done := decide (2 ≤ v.unresRun + 1) || decide (3 ≤ hist.length)
  let M : Lane := { L with vote := { v with
    unres := true, unresRun := v.unresRun + 1, unresHist := hist, unresolved := satInc v.unresolved } }
  let M := M.raise 0x1FC4 (if done then 3 else 0) 0 v.cycle.toNat
  if done && v.role == .follower then M.goOut 0x1FC4 else M

/-- A run of cycles without an agreed output (R61): record, module-safe at the second in a row. -/
def Lane.noAgreed (L : Lane) (code run : Nat) : Lane :=
  let M := L.raise code (if 2 ≤ run then 4 else 0) 0 L.vote.cycle.toNat
  if 2 ≤ run then M.moduleSafe else M

/-- The runs of R61 and R62 after a decision. -/
def VoteG.runs (v : VoteG) (d : Decided) : VoteG :=
  { v with
    threeRun := if d = .three then v.threeRun + 1 else 0
    noneRun := if d = .noDriver then v.noneRun + 1 else 0
    unresRun := if d = .unresolved then v.unresRun else 0
    unres := d = .three
    agreedOut := match d with
      | .agreed x _ _ => some x
      | _ => none
    latestOut := match d with
      | .agreed x _ _ => some x
      | _ => v.latestOut }

/-- The decision's consequences in one lane (R59-R62). -/
def Lane.decision (L : Lane) (d : Decided) : Lane :=
  let M : Lane := { L with vote := L.vote.runs d }
  match d with
  | .agreed _ o f =>
    let M := if f then M.raise 0x1FC6 0 0 M.vote.cycle.toNat else M
    (match o with
     | some p => M.outvote p
     | none => M)
  | .none_ => M
  | .three => M.noAgreed 0x1FC2 M.vote.threeRun
  | .noDriver => M.noAgreed 0x1FC3 M.vote.noneRun
  | .unresolved => M.unresolve

/-- A shadow's cycle is not clean when its set is not the agreed output (R59, R60). -/
def Lane.judgeShadow (L : Lane) (ref : Option OutSet) : Lane :=
  if L.vote.role ≠ .shadow then L
  else
    let ok := match L.vote.outSet, ref with
      | some x, some y => sameOut x y
      | _, _ => false
    if ok then L else { L with vote := { L.vote with dirty := true, clean := 0 } }

/-- The reference of a module start (15_power_states_and_startup.md R440): the copy source's set; for the copy
source itself the set of another SHADOW lane that equals its own. -/
def Lane.startRef (L : Lane) (s : State) : Option OutSet :=
  match s.copySource L with
  | none => none
  | some c =>
    if c = L.id then
      (allLanes.filterMap fun p =>
        if p ≠ L.id ∧ (s.lane p).vote.role = .shadow then
          (L.vote.offered.get p).filter fun y => match L.vote.outSet with
            | some x => sameOut x y
            | none => false
        else none).head?
    else L.vote.offered.get c

/-- The agreed setpoints go into the pending slots and their apply action is queued, due at tAPPLY - 10
microseconds (04_field_engines.md R126-R128); without an agreed output, or where the action is rejected, the
bridges hold their setpoints. -/
def Lane.handSetpoints (L : Lane) : Lane :=
  let own := fin8.filterMap fun b => (L.actOf b).map fun n => (b, n)
  let hold := fun M : Lane => own.foldl (fun M x => M.onBr x.1 fun br => { br with stale := true }) M
  if L.vote.role.drives = false then L
  else match L.vote.agreedOut with
    | none => hold L
    | some o =>
      let due := L.vote.startNs + L.tApply * 1000 - 10000
      match L.ta.freeSlot 88 8, decide (L.tb.ns ≤ due) with
      | some k, true =>
        let M := own.foldl (fun M x =>
          M.onBr x.1 fun br => { br with spPending := some ((o.iq.get L.id).get x.2) }) L
        { M with ta := { M.ta with entries := M.ta.entries ++ [{ slot := k, kind := 0, dueNs := due, owner := none }] } }
      | _, _ => own.foldl (fun M x => M.raise (brCode x.1 0x27) 0) (hold L)

/-- A lane-out by R57 that is due (R57, R61). -/
def Lane.missReaction (L : Lane) : Lane := if L.vote.missOut then L.goOut 0xAFC1 else L

/-- A lane that runs uncompared finds a fault in its own outputs: a lane-out, and nothing is agreed (R58, R70). (DEDUCED, log entry 101) -/
def Lane.splitFault (L : Lane) : Lane := ({ L with vote := L.vote.runs .none_ } : Lane).outvote L.id

/-- No driver is left at the compare of a module that drove: the cycle began with drivers that have all taken a
lane-out, or the cycle before ended so (R61). (DEDUCED, log entry 116) -/
def Lane.lostDrivers (L : Lane) : Bool :=
  !L.vote.passive && ((allLanes.any L.vote.drivers.get) || decide (0 < L.vote.noneRun))

/-- tCOMP in one lane (R58-R62, R70); `flags` is the Saggar monitor's finding on the lane's own outputs. -/
def Lane.compare (L : Lane) (s : State) (flag : Bool) : Lane :=
  if L.alive && L.voting && L.vote.running then
    let M := L.toPoint L.tComp
    let M : Lane := { M with vote := { M.vote with
      selfFlag := flag, selfFlags := M.vote.selfFlags.set M.id flag } }
    let ds := M.compareDrivers s
    if ds = [] then
      if M.lostDrivers then ((M.decision .noDriver).judgeShadow none).missReaction
      else (M.judgeShadow (M.startRef s)).missReaction
    else if flag && M.vote.split && M.vote.role.drives then M.splitFault
    else
      let M := M.decision (M.decide_ s ds)
      let M := M.judgeShadow M.vote.agreedOut
      M.missReaction
  else L

/-- The lead lost at the compare is succeeded by the next driver in succession order (R69). (DEDUCED, log entry 24) -/
def State.succeed (s : State) : State :=
  if allLanes.any fun l => (s.lane l).vote.role == .lead then s
  else
    let ds := allLanes.filter s.drives
    match ds.head? with
    | none => s
    | some d =>
      match (s.lane d).successor ds.contains with
      | some l => s.on l fun L => { L with vote := { L.vote with role := .lead } }
      | none => s

/-- Drivers and lead as the lanes know them once the compare has changed roles (R69, R77). (DEDUCED, log entry 24) -/
def State.viewsNow (s : State) : State :=
  let lead := allLanes.find? fun l => (s.lane l).vote.role == .lead
  s.onAll fun L =>
    if L.vote.running then
      { L with vote := { L.vote with
          drivers := Tri.ofFn fun p => L.vote.drivers.get p && s.drives p
          silent := s.silentFor L
          lead := if s.apart L then L.vote.lead else lead } }
    else L

/-- OUTPUT_COMPARE (R58-R63, R69, R110, R440, R127): what the compare has left of the module may start the controlled
stop in this cycle. -/
def execOutputCompare (flags : Tri Bool) (s : State) : Host.Outcome State Fault Refusal :=
  let t := s.onAll fun L => L.compare s (flags.get L.id)
  .next (t.succeed.viewsNow.onAll fun L => if L.alive && L.vote.running then L.judgeStop.handSetpoints else L)

/-! ### Apply (R64, R74, R127, R438) -/

/-- Apply actions that are due run (R127). -/
def Lane.runApplies (L : Lane) : Lane :=
  (L.ta.entries.filter fun e => e.kind == 0 && decide (e.dueNs ≤ L.tb.ns)).foldl (fun M e => M.taRun e false) L

/-- tAPPLY in one lane: released setpoints, a stop line released by R74, the PASSIVE of an exit (R438). -/
def Lane.apply (L : Lane) : Lane :=
  if L.alive && L.vote.running then
    let M := (L.toPoint L.tApply).runApplies
    let M : Lane :=
      if M.vote.relAtApply then
        ({ M with vote := { M.vote with relAtApply := false }, pwr := { M.pwr with stopLine := false } } : Lane).settleAll
      else M
    let M : Lane := ({ M with dict := { M.dict with held := [] } } : Lane).lostPassive
    if M.pwr.exitPassive && M.vote.role.drives then
      ({ M with vote := { M.vote with role := .shadow, clean := 0 } } : Lane).enterPassive
    else M
  else L

/-- APPLY (R42, R64, R74, R438). -/
def execApply (s : State) : Host.Outcome State Fault Refusal :=
  .next (s.onAll Lane.apply).viewsNow

/-! ### State copy (R65-R67, R73) -/

/-- STATE_COPY (R65, R69, R440): the lead, or the copy source of a module start, sends its state vector. -/
def execStateCopy (s : State) : Host.Outcome State Fault Refusal :=
  .next (s.onAll fun L =>
    if L.alive && L.voting && L.vote.running && s.copySource L == some L.id then
      let M := L.toPoint L.tCopy
      { M with vote := { M.vote with copyOut := true } }
    else L)

/-- The module-wide values a lane holds, as CFG_DIGEST covers them (11_dictionary_access.md R354). -/
def wideOf (st : Store) : Store := st.filter fun p => isWide (p.1 / 256) (p.1 % 256)

/-- A store with its module-wide values replaced by another's. -/
def takeWide (own src : Store) : Store :=
  (wideOf src).foldl (fun st p => storeIns st p.1 p.2) (own.filter fun p => !isWide (p.1 / 256) (p.1 % 256))

/-- The values of the Kept-yes objects among module-wide ones. -/
def keptOf (l : LaneId) (st : Store) : Store :=
  st.filter fun p => match findObj l (p.1 / 256) (p.1 % 256) with
    | some r => r.kept == .yes
    | none => false

/-- The lane takes every module-wide value of the source (R354); the configuration checks run anew. (DEDUCED, log entry
137) -/
def Lane.takeConfig (L : Lane) (src : Lane) : Lane :=
  if wideOf L.dict.working = wideOf src.dict.working then L
  else
    let w := takeWide L.dict.working src.dict.working
    let k := takeWide L.dict.kept (keptOf L.id src.dict.working)
    ({ L with dict := { L.dict with working := w, kept := k } } : Lane).checkAll

/-- The copied state adopted (R66, R67, R354). -/
def Lane.adopt (L : Lane) (src : Lane) : Lane :=
  let ok := decide (wideOf L.dict.working = wideOf src.dict.working)
  let M := L.takeConfig src
  { M with
    svc := src.svc
    dict := { M.dict with cfgGen := src.dict.cfgGen }
    vote := { M.vote with
      agreed := src.vote.agreed, sources := src.vote.sources, adopted := true, digestOk := ok } }

/-- The state of a follower equals the copy (R66). (DEDUCED, log entry 30) -/
def Lane.sameState (L : Lane) (src : Lane) : Bool :=
  decide (L.svc = src.svc) && decide (L.vote.agreed = src.vote.agreed) &&
  decide (L.vote.sources = src.vote.sources) && decide (wideOf L.dict.working = wideOf src.dict.working)

/-- A follower that finds a divergence corrects it; 3 in 1,000 vote cycles take it OUT (R66). (DEDUCED, log entry 30) -/
def Lane.diverge (L : Lane) (src : Lane) : Lane :=
  let v := L.vote
  let hist := v.cycles :: v.divHist.filter fun c => decide (v.cycles < c + 1000)
  let out := decide (3 ≤ hist.length)
  let M := (L.adopt src).raise 0x1FC5 (if out then 3 else 1) 0 v.cycle.toNat
  let M : Lane := { M with vote := { M.vote with divHist := hist } }
  if out then M.goOut 0x1FC5 else M

/-- A complete copy is used (R65-R67). -/
def Lane.useCopy (L : Lane) (src : Lane) : Lane :=
  if L.vote.role = .follower then
    if L.sameState src then { L with vote := { L.vote with adopted := true } } else L.diverge src
  else if L.vote.role = .shadow ∨ L.pwr.waitShadow then L.adopt src
  else L

/-- A copy arrives complete and passes its check: a direct one is used while its link is, a relayed one where none has been
used in the cycle (R48, R65). (DEDUCED, log entry 115) -/
def Lane.takeCopy (L : Lane) (src : Lane) (direct use : Bool) : Lane :=
  if direct then
    let M := L.onLinkTo src.id fun v => { v with gotCopy := true }
    if use && !M.vote.adopted then M.useCopy src else M
  else
    let M := L.onLinkTo (thirdOf L.id src.id) fun v => { v with gotRelay := true }
    if M.vote.adopted then M else M.useCopy src

/-- STATE_VECTOR_RECEIVED (R19, R65-R67): a copy that is incomplete at tCOPY + 150 microseconds is not used. -/
def execStateVectorReceived (c : CopyIn) (s : State) : Host.Outcome State Fault Refusal :=
  let l := c.lane
  match allLanes.find? fun p => p != l && (s.lane p).vote.copyOut && s.path l p c.way.direct with
  | none => .next s
  | some p =>
    .next (s.on l fun L =>
      if L.runs && L.vote.running && !L.vote.copyOver && L.byPoint (L.tCopy + 150) then
        if c.way.crcOk then L.takeCopy (s.lane p) c.way.direct (s.usesLink l p)
        else L.badMessage (viaOf l p c.way.direct)
      else L)

/-- The lane's input set reached every peer that votes (R73). -/
def State.heard (s : State) (l : LaneId) : Bool :=
  allLanes.all fun p => p == l || !(s.lane p).voting || ((s.lane p).vote.rx.get l).isSome

/-- A shadow's cycle at its end (R67, R73, R354, R440). -/
def Lane.endShadow (L : Lane) (s : State) : Lane :=
  let source := s.copySource L == some L.id
  let ok := s.heard L.id && L.vote.outSet.isSome && !L.vote.dirty && !L.vote.selfFlag &&
    (source || (L.vote.adopted && L.vote.digestOk))
  let c : Nat := if ok then min 10000 (L.vote.clean.toNat + 1) else 0
  { L with vote := { L.vote with clean := BitVec.ofNat 16 c } }

/-- tCOPY + 150 microseconds in one lane: no copy is adopted any more, and a shadow's cycle is judged (R67, R73). -/
def Lane.copyEnd (L : Lane) (s : State) : Lane :=
  if L.runs && L.vote.running && !L.vote.copyOver then
    let M := L.toPoint (L.tCopy + 150)
    let M := if M.vote.role = .shadow then M.endShadow s else M
    { M with vote := { M.vote with copyOver := true } }
  else L

/-- STATE_COPY_DEADLINE (R67, R73). -/
def execStateCopyDeadline (s : State) : Host.Outcome State Fault Refusal := .next (s.onAll fun L => L.copyEnd s)

end Sys2Proof.Machine
end

