-- ==== Sys2Proof/Machine/Roles.lean ====
section
/-! DEFINITION. Roles and power states as they change between vote cycles: lockstep faults, slip links out of and
into use, promotion, takeback, restart after a lane-out, power requests, exits and the formation of the first
drivers (02_vote_cycle_and_fault_tolerance.md R48, R58, R70-R76, 15_power_states_and_startup.md R436-R441). -/

namespace Sys2Proof.Machine

/-- LOCKSTEP_FAULT (01_three_lanes_one_module.md R22, R58): a lane-out at once, nothing is offered. -/
def execLockstepFault (l : LaneId) (service : Bool) (s : State) : Host.Outcome State Fault Refusal :=
  .next (s.on l fun L => if L.alive then L.laneOut 0x1FC1 (if service then 1 else 0) else L)

/-! ### Slip links (R48) -/

/-- A voting lane at an end of a link finds it without valid data for 3 vote cycles. -/
def Lane.findsBad (L : Lane) (k : LinkId) : Bool :=
  L.voting && L.vote.running && linkTouches k L.id && (L.links.get k).inUse && decide (3 ≤ (L.links.get k).badRun)

/-- A link out of use in one lane's view; the third time within 600 s bars it until a lane restarts. (DEDUCED, log entry 18) -/
def Lane.cutLink (L : Lane) (k : LinkId) : Lane :=
  L.onLink k fun v =>
    let times := L.tb.mono :: recent L.tb.mono 600000000000 v.isolTimes
    { v with inUse := false, cleanRun := 0, isolTimes := times, barred := v.barred || decide (3 ≤ times.length) }

/-- A link taken out of use in one lane's view; its lanes that vote raise the fault (Table 2.8). -/
def Lane.isolateLink (L : Lane) (k : LinkId) : Lane :=
  let M := L.cutLink k
  if L.voting && linkTouches k L.id then M.raise (0x1201 + 0x40 * linkNum k) 2 else M

/-- The two lanes of a link are in contact with each other (R70). -/
def State.inContact (s : State) (k : LinkId) : Bool :=
  (s.lane k.ends.1).vote.contact.get k.ends.2 || (s.lane k.ends.2).vote.contact.get k.ends.1

/-- SLIP_LINK_ISOLATE (R48): a link that is the only path between two lanes in contact is never isolated. -/
def execSlipLinkIsolate (k : LinkId) (s : State) : Host.Outcome State Fault Refusal :=
  let bad := allLanes.any fun l => (s.lane l).findsBad k
  if bad && (s.relayPath k.ends.1 k.ends.2 || !s.inContact k) then
    .next (s.onAll fun L => if L.runs && L.vote.running then L.isolateLink k else L)
  else .next s

/-- A link returned to use in one lane's view. -/
def Lane.returnLink (L : Lane) (k : LinkId) : Lane :=
  let v := L.links.get k
  if v.inUse || v.barred || decide (v.cleanRun < L.obj 0x2600 8) then L
  else
    let M := L.onLink k fun v => { v with inUse := true, badRun := 0 }
    if linkTouches k L.id then M.raise (0x1202 + 0x40 * linkNum k) 0 else M

/-- SLIP_LINK_RETURN (R48). -/
def execSlipLinkReturn (k : LinkId) (s : State) : Host.Outcome State Fault Refusal :=
  .next (s.onAll fun L => if L.voting && L.vote.running then L.returnLink k else L)

/-- A lane starts anew: its sources count again in the other lanes (R52), and its links may return (R48). -/
def State.laneStarted (s : State) (l : LaneId) : State :=
  s.onAll fun L => allLinks.foldl (fun M k =>
    if linkTouches k l then M.onLink k fun v => { v with barred := false } else M)
    { L with vote := { L.vote with sources := L.vote.sources.filter fun x => x.lane != l } }

/-! ### Promotion and takeback (R74, R75) -/

/-- SHADOW_PROMOTE (R74): FOLLOWER at the start of the next vote cycle. -/
def execShadowPromote (l : LaneId) (s : State) : Host.Outcome State Fault Refusal :=
  .next (s.on l fun L =>
    if L.alive && L.vote.role == .shadow && L.pwr.state == .run && s.anyDrives && !L.vote.passive &&
        decide (L.obj 0x2600 8 ≤ L.vote.clean.toNat) then
      { L with vote := { L.vote with roleDue := some .follower } }
    else L)

/-- The ramp of the lane's own sets has ended. (DEDUCED, log entry 33) -/
def Lane.rampDone (L : Lane) : Bool :=
  fin8.all fun n => match (L.svc.ramp.get L.id).get n with
    | some j => decide (L.rampSteps ≤ j)
    | none => true

/-- RAMP_COMPLETE (R75): PREF_LEAD takes LEAD back at the start of the next vote cycle. -/
def execRampComplete (l : LaneId) (s : State) : Host.Outcome State Fault Refusal :=
  .next (s.on l fun L =>
    if L.alive && L.vote.role == .follower && L.obj 0x2600 7 == l.num && L.rampDone && !L.vote.split then
      { L with vote := { L.vote with roleDue := some .lead } }
    else L)

/-! ### Restart after a lane-out (R71, R72, R449, R471) -/

/-- The restart at step 4 (R449): every group is owed a test where the cause was of class 0xB; an ACTIVE node's
guardians stay in holdover (08_tsuvas_network.md R251). (DEDUCED, log entry 29) -/
def Lane.restartOut (L : Lane) : Lane :=
  let owed : BitVec 16 := if codeClass L.vote.outCause.toNat = 0xB then 0xFFFF else 0
  let M := L.restartAt 4 2 false false owed
  if L.net.state = .active then
    { M with net := { M.net with holdover := true, guardOpen := false, cycleNow := L.net.cycleNow } }
  else M

/-- LANE_RESTART (R71, R72, R449, R471, 06_gate_drive_and_bridge_protection.md R186): not while held, cooling or latched
by the Cone latch, nor before x_VIN has recovered and a gate rail that failed has risen above 8.8 V, nor from a step at
which the lane stays (R448). (DEDUCED, log entry 108) -/
def execLaneRestart (l : LaneId) (r : Rails) (s : State) : Host.Outcome State Fault Refusal :=
  let L := s.lane l
  if L.watched && L.vote.outNow && !L.pwr.stuckAt && !L.vote.held && !L.therm.cone && !L.therm.cooling && r.vinOk &&
      (!L.pwr.vgdBad || r.vgdOk) then
    .next ((s.laneStarted l).on l Lane.restartOut)
  else .next s

/-- REINT_RELEASE (R72): the hold ends and its count starts anew. -/
def execReintRelease (l : LaneId) (m : Master) (tid : Nat) (data : List Byte) (s : State) :
    Host.Outcome State Fault Refusal :=
  .next (s.on l fun L =>
    L.write m tid 0x2602 1 data true fun L => { L with vote := { L.vote with held := false, outs := [] } })

/-! ### Power requests (15_power_states_and_startup.md R434-R441) -/

/-- PWR_REQ_RUN (R386, R436). -/
def execPwrReqRun (l : LaneId) (m : Master) (tid : Nat) (s : State) : Host.Outcome State Fault Refusal :=
  .next (s.on l fun L => L.powerWrite m tid 1)

/-- PWR_REQ_HOLD (R436). -/
def execPwrReqHold (l : LaneId) (m : Master) (tid : Nat) (s : State) : Host.Outcome State Fault Refusal :=
  .next (s.on l fun L => L.powerWrite m tid 2)

/-- PWR_REQ_STANDBY (R436, R445). -/
def execPwrReqStandby (l : LaneId) (m : Master) (tid : Nat) (s : State) : Host.Outcome State Fault Refusal :=
  .next (s.on l fun L => L.powerWrite m tid 3)

/-- PWR_REQ_OFF (R436, R445). -/
def execPwrReqOff (l : LaneId) (m : Master) (tid : Nat) (s : State) : Host.Outcome State Fault Refusal :=
  .next (s.on l fun L => L.powerWrite m tid 4)

/-- AUTO_RUN_REQUEST (R436): under AUTO_RUN 1 a lane in HOLD enters RUN at the first vote cycle start at which
R386 holds. -/
def execAutoRunRequest (l : LaneId) (s : State) : Host.Outcome State Fault Refusal :=
  .next (s.on l fun L =>
    if L.alive && L.vote.running && L.obj 0x2100 3 == 1 && L.pwr.state == .hold && L.runOk then
      { L.lptDemand with pwr := { L.lptDemand.pwr with state := .run } }
    else L)

/-! ### Exits (R437-R439) -/

/-- After its exit the lane goes on to the state its request named (R438). -/
def Lane.proceed (L : Lane) (k : Nat) : Lane :=
  let M : Lane := { L with pwr := { L.pwr with exit := false, exitTo := 0, exitPassive := false } }
  match k with
  | 2 => { M with pwr := { M.pwr with state := .hold } }
  | 3 => M.enter false
  | 4 => M.enter true
  | _ => M

/-- A driver leaves its part: SHADOW with its stop line asserted (R438). -/
def Lane.leaveDrive (L : Lane) : Lane :=
  let M := L.assertStop
  { M with vote := { M.vote with role := .shadow, clean := 0 } }

/-- EXIT_RAMP_END (R438): the exiting lane becomes SHADOW, the successor takes LEAD where it held it, then the
lane goes on to its requested state. -/
def execExitRampEnd (l : LaneId) (s : State) : Host.Outcome State Fault Refusal :=
  let L := s.lane l
  let done := match L.svc.exitStep.get l with
    | some e => decide (L.rampSteps ≤ e)
    | none => false
  if L.alive && L.pwr.exit && !L.pwr.exitPassive && L.vote.role.drives && done then
    let t := (s.on l Lane.leaveDrive).onAll fun M => { M with svc := { M.svc with exitStep := M.svc.exitStep.set l none } }
    .next ((t.succeed.views.onAll fun M => if M.alive && M.vote.running then M.judgeStop else M).on l
      fun M => M.proceed L.pwr.exitTo)
  else .next s

/-- EXIT_PASSIVE_END (R438): the hold in PASSIVE ends. -/
def execExitPassiveEnd (s : State) : Host.Outcome State Fault Refusal :=
  .next (s.onAll fun L =>
    if L.alive && L.pwr.exitPassive && L.vote.role == .shadow then L.leaveDrive.proceed L.pwr.exitTo else L)

/-! ### The first drivers of a module (R88, R440) -/

/-- The lane may become one of the first drivers. (DEDUCED, log entry 26) -/
def Lane.mayForm (L : Lane) : Bool :=
  L.alive && L.vote.running && L.vote.role == .shadow && L.pwr.state == .run && !L.vote.passive && !L.pwr.exit &&
  decide (L.obj 0x2600 8 ≤ L.vote.clean.toNat)

/-- The lanes that form a module: each may, and is in contact with another that may (R440). (DEDUCED, log entry 31) -/
def State.formers (s : State) : List LaneId :=
  allLanes.filter fun l => (s.lane l).mayForm && allLanes.any fun p =>
    p != l && (s.lane p).mayForm && (s.lane l).vote.contact.get p && (s.lane p).vote.contact.get l

/-- The services' state at a module start (R88, R440): age counters at their limits, both start holds on, no ramp,
every set of the new drivers working. -/
def Lane.moduleStart (L : Lane) (ds : List LaneId) : Lane :=
  let lim := fun n : Nat => BitVec.ofNat 16 n
  { L with
    vote := { L.vote with everDrove := true }
    svc := { L.svc with
      ageCurv := lim (L.obj 0x4300 1), ageDecel := lim (L.obj 0x4300 1), ageHw := 3, agePedal := 3
      ageWheel := List.replicate 12 (lim (L.obj 0x4100 0x0C)), ageLoad := List.replicate 4 (lim (L.obj 0x4100 0x0B))
      armCurv := false, armDecel := false, holdSteer := true, holdBrake := true, heldSet := false, vref := none
      ramp := Tri.all (Oct.all none)
      working := Tri.ofFn fun l => Oct.ofFn fun n => ds.contains l && (L.bridgeOf l n).isSome } }

/-- MODULE_FORMATION (R88, R440): all lanes that meet the conditions become drivers together, the first in
succession order the lead; their stop lines release at tAPPLY of the cycle. -/
def execModuleFormation (s : State) : Host.Outcome State Fault Refusal :=
  let ds := s.formers
  match ds.head? with
  | none => .next s
  | some d =>
    if s.anyDrives then .next s
    else
      let lead := (s.lane d).successor ds.contains
      let t := s.onAll fun L =>
        let M := if L.voting then L.moduleStart ds else L
        if ds.contains L.id then
          { M with vote := { M.vote with
              role := if lead = some L.id then .lead else .follower, relAtApply := true, roleDue := none } }
        else M
      .next t.views

end Sys2Proof.Machine
end

