-- ==== Sys2Proof/Machine/Read.lean ====
section
/-! DEFINITION. What a read of each object returns: identity, status words, measured values, counters,
records and images (the object tables of every chapter, 12_dictionary_index.md R373-R384). -/

namespace Sys2Proof.Machine

/-- The bytes of a REAL32 value (11_dictionary_access.md Table 11.1). -/
def rd32 (x : Rat) : Nat := (Config.real32 x).toNat

/-- A REAL32 that reads the quiet NaN where there is none (16_clocks_and_heat.md R467). -/
def rdOpt (x : Option Rat) : Nat :=
  match x with
  | some v => rd32 v
  | none => 0x7FC00000

/-- ASCII codes of a text as little-endian bytes. -/
def chars (l : List Char) : Nat := ofBytes (l.map fun c => BitVec.ofNat 8 c.toNat)

/-- One upper-case hexadecimal digit. -/
def hexDigit (n : Nat) : Char := (['0', '1', '2', '3', '4', '5', '6', '7', '8', '9', 'A', 'B', 'C', 'D', 'E', 'F'][n % 16]?).getD '0'

/-- Decimal digits without leading zeros. -/
def decimal (n : Nat) : List Char := (Nat.toDigits 10 n)

/-- Bits of a list of flags, the first in bit 0. -/
def flagBits : List Bool → Nat
  | [] => 0
  | b :: t => b2n b + 2 * flagBits t

/-! ### Identity and lane status (Tables 12.2, 12.5) -/

/-- ERROR_REGISTER (Table 12.3). -/
def errorRegister (active : BitVec 16) : Nat :=
  let on := fun c : Nat => active.getLsbD c
  flag (active != 0) 0 + flag (on 2) 1 + flag (on 6) 2 + flag (on 7) 3 + flag (on 4 || on 5) 4 +
  flag ([1, 3, 8, 9, 10, 11, 12].any on) 7

/-- HW_VERSION (R528). -/
def hwVersion (rev : Nat) : Nat :=
  chars ['L', hexDigit (rev / 4096), hexDigit (rev / 256), '-', 'D', hexDigit (rev / 16), hexDigit rev]

/-- SW_VERSION (R528). -/
def swVersion (v : W32) : Nat :=
  chars (decimal (v.toNat / 65536) ++ ['.'] ++ decimal (v.toNat % 65536) ++ ['.'] ++ decimal (Config.patch v))

/-- PROGRAM_CONTROL as it reads: 0 nothing staged, 1 staged, 2 staged image installed (Table 12.2). -/
def Staging.control (g : Staging) : Nat := if g.image.isNone then 0 else if g.installed then 2 else 1

/-- The result object at subindex 0x10-0x12 (11_dictionary_access.md R367). -/
def Res3.word (r : Res3) (sub : Nat) : Nat :=
  match sub with
  | 0x10 => r.host.word
  | 0x11 => r.sb.word
  | _ => r.peer.word

/-- Objects 0x1000-0x2001. (DEDUCED, log entry 85) -/
def Lane.readIdent (L : Lane) (idx sub : Nat) : Option Nat :=
  let st := (L.dict.staging[sub - 1]?).getD {}
  let rev := (Config.siliconRev L.id).toNat
  match idx, sub with
  | 0x1001, _ => some (errorRegister L.faultActive)
  | 0x1009, _ => some (hwVersion rev)
  | 0x100A, _ => some (swVersion L.sec.running)
  | 0x1018, 3 => some L.sec.running.toNat
  | 0x1018, 4 => some Config.serial.toNat
  | 0x1F51, _ => some st.control
  | 0x1F56, _ => some st.id.toNat
  | 0x1F5A, k => some (L.dict.progRes.word k)
  | 0x2000, 2 => some L.id.num
  | 0x2000, 3 => some (Config.laneUid L.id).toNat
  | 0x2000, 4 => some (Config.macAddr L.id).toNat
  | 0x2000, 5 => some rev
  | 0x2000, 6 => some L.sec.running.toNat
  | 0x2001, 1 => some L.laneStatus
  | 0x2001, 2 => some L.faultActive.toNat
  | 0x2001, 3 => some L.flog.seen.toNat
  | 0x2001, 4 => some L.flog.last.toNat
  | 0x2001, 5 => some (mkTime80 L.flog.lastNs)
  | 0x2001, 6 => some (min ((L.tb.mono - L.pwr.upSince) / 1000000) 0xFFFFFFFF)
  | _, _ => none

/-! ### Transactions, power, clocks and heat (Tables 11.7, 12.10, 15.8, 16.7) -/

/-- SB_SESSION (11_dictionary_access.md Table 11.7). -/
def Sb.word (b : Sb) : Nat := flag b.isOpen 0 + 256 * b.tagFails + 65536 * (b.counter.toNat % 65536)

/-- Set bits of a 16-bit word. -/
def popcount16 (v : BitVec 16) : Nat := ((List.range 16).filter fun i => v.getLsbD i).length

/-- PWR_DETAIL (15_power_states_and_startup.md Table 15.9); while an exit is held, PENDING reads its
request. (DEDUCED, log entry 86) -/
def Lane.pwrDetail (L : Lane) : Nat :=
  let held := if L.pwr.exitTo ≠ 0 then L.pwr.exitTo - 1 else L.pwr.pending
  held % 4 + 4 * (L.pwr.phase % 8) + flag (L.svc.exitStep.get L.id).isSome 5 + flag L.pwr.exit 6 +
  flag L.pwr.latched 7 + 256 * popcount16 L.mem.untested

/-- CLK_STATUS (16_clocks_and_heat.md Table 16.8). -/
def Clk.word (c : Clk) : Nat :=
  flagBits [c.xtalOk, c.coreLock, c.netLock, c.monOk, c.aoOk, c.pwmOk, c.compHold, c.bgHold]

/-- THERM_STATUS (Table 16.9). -/
def Lane.thermWord (L : Lane) : Nat :=
  let t := L.therm
  flagBits [t.cutL, t.cutD, t.cooling, t.cone, t.coneCount, t.coneOver] + 64 * min L.cuts600 3 +
  256 * flagBits [t.suspect, t.warnL, t.warnD]

/-- Objects 0x2010-0x2203. -/
def Lane.readPower (L : Lane) (idx sub : Nat) : Option Nat :=
  match idx, sub with
  | 0x2010, 1 => some (L.dict.openHost + 256 * L.dict.openSb + 65536 * L.dict.openSup + 16777216 * L.dict.openPeer)
  | 0x2010, 2 => some L.dict.txnBusy.toNat
  | 0x2010, 3 => some L.dict.commits.toNat
  | 0x2010, 4 => some L.dict.commitFails.toNat
  | 0x2100, 1 => some L.pwr.state.num
  | 0x2100, 4 => some L.pwrDetail
  | 0x2100, 5 => some L.pwr.startTime.toNat
  | 0x2101, 3 => some L.pwr.wakeSrc.toNat
  | 0x2200, 1 => some (rd32 L.clk.xtalPpm)
  | 0x2200, 5 => some L.clk.word
  | 0x2200, 6 => some (rd32 L.clk.monPpm)
  | 0x2200, 7 => some (rd32 L.clk.aoFreq)
  | 0x2200, 8 => some L.clk.d2dErrors.toNat
  | 0x2201, 0x0B => some L.therm.broken.toNat
  | 0x2201, 0x0C => some (rdOpt L.therm.tLogic)
  | 0x2201, 0x0D => some (rdOpt L.therm.tDrive)
  | 0x2201, 0x0E => some (rd32 L.therm.tcutL)
  | 0x2201, 0x0F => some (rd32 L.therm.tcutD)
  | 0x2201, k => some (rd32 (L.temp (k - 1)))
  | 0x2202, k => some (rd32 ((L.clk.hk[k - 1]?).getD 0))
  | 0x2203, 1 => some L.therm.cuts.toNat
  | 0x2203, 2 => some (b2n L.therm.cone)
  | 0x2203, 3 => some L.thermWord
  | _, _ => none

/-! ### Time (Tables 9.12-9.15) -/

/-- TB_STATUS (09_time_base_and_timed_actions.md Table 9.13). -/
def TimeBase.word (t : TimeBase) : Nat :=
  t.state.num + 4 * flagBits [t.slewTicks != 0, t.seedAo, t.seedUpl, t.seedPeer, t.cluster.isSome, t.disc]

/-- UPL_STATUS (Table 9.14). (DEDUCED, log entry 86) -/
def UplClock.word (u : UplClock) : Nat :=
  u.state.num + 4 * flagBits [u.gmSelf, u.gmChanged, u.stepRefused, u.stepTaken, u.link]

/-- TSQ_STATUS (Table 9.15). -/
def Queue.word (q : Queue) : Nat := q.items.length + flag q.ovf 8

/-- TSQ_HEAD (Table 9.6); an empty queue reads zeros with FLAGS bit 7 set (R304). -/
def Queue.head (q : Queue) : Nat :=
  match q.items with
  | [] => 2 ^ 103
  | s :: _ =>
    mkTime80 s.ns s.quarter + s.tag.toNat * 2 ^ 80 + s.flags.toNat * 2 ^ 96 + s.port * 2 ^ 104

/-- CAP_DATA (R308). -/
def Ta.capBytes (t : Ta) : Nat :=
  ofBytes (toBytes 10 (mkTime80 t.capTime) ++
    t.capData.flatMap fun p => toBytes 4 (ofSigned 32 p.1) ++ toBytes 4 p.2.toNat)

/-- Objects 0x2300-0x2320. -/
def Lane.readTime (L : Lane) (idx sub : Nat) : Option Nat :=
  let u := L.upl
  match idx, sub with
  | 0x2300, 1 => some L.tb.word
  | 0x2300, 2 => some (mkTime80 L.tb.ns (L.tb.frac.toNat / 1073741824))
  | 0x2300, 3 => some (match L.timeUnc with
    | some n => min n (2 ^ 64 - 1)
    | none => 2 ^ 64 - 1)
  | 0x2300, 4 => some L.tb.inc
  | 0x2300, 5 => some L.tb.incLearned
  | 0x2300, 8 => some (mkTime80 L.tb.lastSet)
  | 0x2300, 9 => some L.tb.sets.toNat
  | 0x2300, 0x0A => some (mkTime80 L.tb.lastTime)
  | 0x2302, 1 => some u.word
  | 0x2302, 2 => some (ofSigned 64 u.offset)
  | 0x2302, 3 => some (ofSigned 32 u.rate)
  | 0x2302, 4 => some (mkTime80 L.uplNow.toNat)
  | 0x2302, 5 => some L.uplUnc
  | 0x2302, 6 => some u.gmSel.toNat
  | 0x2302, 7 => some (ofSigned 64 u.cand)
  | 0x2302, 8 => some u.candCount
  | 0x2302, 9 => some u.steps.toNat
  | 0x2302, 0x0A => some u.refused.toNat
  | 0x2310, 3 => some L.ta.entries.length
  | 0x2310, 4 => some L.ta.late.toNat
  | 0x2310, 5 => some L.ta.rejected.toNat
  | 0x2310, k => some (L.ta.result.word k)
  | 0x2320, 9 => some L.ta.capBytes
  | _, _ => none

/-- Objects 0x2330-0x2332. -/
def Lane.readQueue (L : Lane) (idx sub : Nat) : Option Nat :=
  let q := match idx with
    | 0x2330 => L.tsq.x
    | 0x2331 => L.tsq.y
    | _ => L.tsq.u
  match sub with
  | 1 => some q.head
  | 3 => some q.word
  | 4 => some q.ovfCount.toNat
  | _ => none

/-! ### Safety inputs, seal, sets, DS2, security (Tables 12.11, 12.12, 13.5, 14.6) -/

/-- One flag of each safety input, input 0 in bit 0. -/
def inputBits (f : Fin 8 → Bool) : Nat := flagBits (fin8.map f)

/-- DS2_STATUS (13_safety_inputs_and_seal.md Table 13.6). -/
def Ds2.word (d : Ds2) : Nat :=
  flag d.unlockHost 0 + flag d.unlockSb 1 + 16 * d.fails + flag d.blocked 8

/-- CHANGE_LOG entry (Table 13.3). -/
def Change.raw (c : Change) : Nat :=
  ofBytes (toBytes 10 (mkTime80 c.ns) ++ toBytes 1 c.kind ++ toBytes 1 (c.m.num + 4 * c.tstate.num) ++
    toBytes 2 c.masterId ++ toBytes 2 c.idx ++ toBytes 1 c.sub ++ [0] ++ toBytes 2 c.len ++
    toBytes 4 c.old.toNat ++ toBytes 4 c.new.toNat ++ toBytes 4 c.seq.toNat)

/-- BOOT_STATUS (14_security.md Table 14.7). -/
def Sec.word (x : Sec) : Nat :=
  x.active % 2 + 2 * (x.booted % 2) + flag x.fallback 2 + flag x.bank0Ok 3 + flag x.bank1Ok 4 +
  flag x.dbgBlocked 7 + 256 * (x.dbgFails % 4)

/-- Objects 0x2402-0x2510. -/
def Lane.readSafe (L : Lane) (idx sub : Nat) : Option Nat :=
  let x := L.safe
  match idx, sub with
  | 0x2402, 1 => some (inputBits (fun i => (x.inp.get i).value) + 256 * inputBits fun i => (x.inp.get i).disc)
  | 0x2402, 2 => some (flagBits [x.srst, x.stuck, x.atStart])
  | 0x2402, 3 => some (inputBits (fun i => (x.inp.get i).tp) + flag x.tpo0.latched 8 + flag x.tpo1.latched 9)
  | 0x2402, 4 => some (inputBits L.siValid)
  | 0x2403, 1 => some (flagBits [x.sealOpen, x.disagree])
  | 0x2403, 2 => some x.setSel
  | 0x2403, 3 => some x.chkIn
  | 0x2404, k => some (L.crcOfSet (k - 1)).toNat
  | 0x2405, 5 => some L.ds2.lastStore
  | 0x2405, 7 => some L.ds2.word
  | 0x2406, k => some (((L.ds2.log[k - 1]?).map Change.raw).getD 0)
  | 0x2500, 1 => some L.sec.word
  | 0x2500, 2 => some L.sec.written.toNat
  | 0x2500, 3 => some L.sec.minFw.toNat
  | 0x2502, 2 => some L.sec.revoked.toNat
  | 0x2510, 5 => some L.sb.word
  | _, _ => none

/-! ### Redundancy, bridges, front ends, gates, DC link (Tables 2.10, 4.8, 5.6, 6.7, 7.4) -/

/-- OVL_BUDGET of the bridge's winding set (02_vote_cycle_and_fault_tolerance.md Table 2.10). -/
def Lane.budgetOf (L : Lane) (b : Fin 8) : Nat :=
  match L.actOf b with
  | some n => ((L.svc.budget.get L.id).get n).floor.toNat
  | none => 30000

/-- Objects 0x2601-0x2603. -/
def Lane.readVote (L : Lane) (idx sub : Nat) : Option Nat :=
  match idx, sub with
  | 0x2601, 1 => some L.redundStatus
  | 0x2601, 2 => some L.vote.clean.toNat
  | 0x2601, 3 => some L.vote.misses.toNat
  | 0x2601, 4 => some L.vote.unresolved.toNat
  | 0x2601, k => some (L.budgetOf ⟨(k - 0x10) % 8, Nat.mod_lt _ (by decide)⟩)
  | 0x2603, 1 => some L.dict.cfgGen.toNat
  | 0x2603, 2 => some L.cfgDigest
  | 0x4300, 0x0A => some (if L.vote.running then L.vote.lastStatus.toNat else 0)
  | _, _ => none

/-- BRIDGE_STATUS (04_field_engines.md Table 4.9). -/
def Lane.bridgeWord (L : Lane) (b : Fin 8) : Nat :=
  let r := L.bridges.get b
  (if L.opened b && !L.pwr.stopLine then 2 else r.mode.num) +
  8 * flagBits [!r.isolKinds.isEmpty, r.lock, r.fw, r.fwlim, r.vlim, r.curlim, r.shift, r.offsOk, r.sat,
                r.overLast, r.staleLast]

/-- POS_STATUS (05_rotor_position.md Table 5.7); an unmapped front end reads ASRC 0b111. -/
def Lane.posWord (L : Lane) (b : Fin 8) : Nat :=
  let f := L.fes.get b
  (if (L.actOf b).isSome then f.asrc else .unmapped).num + 16 * min 3 (recent L.tb.mono 1000000000 f.losses).length +
  64 * flagBits [f.ampLast, f.trackLast, f.excFlag, f.frameLast, f.warnLast, f.shaftInv, f.sensIsol, f.obsOk,
                 f.hfiDone, f.hfiNa]

/-- GATE_STATUS (06_gate_drive_and_bridge_protection.md Table 6.8). -/
def Lane.gateWord (L : Lane) (b : Fin 8) : Nat :=
  let g := L.gates.get b
  8 * flagBits [g.testing, g.wait, g.latch] + 64 * min 3 (L.triesNow b).length +
  256 * flagBits [g.precharge, g.soft != 0, g.drvLast, g.gfb, g.bsUv.u, g.bsUv.v, g.bsUv.w, g.oc] +
  65536 * g.desat.toNat

/-- HS_STEPS or LS_STEPS (Table 6.9). -/
def Gate.steps (g : Gate) (high : Bool) : Nat :=
  let one := fun p : Phase =>
    (if high then (g.src.get p).1 else (g.src.get p).2) % 16 +
    16 * ((if high then (g.snk.get p).1 else (g.snk.get p).2) % 16)
  one .U + 256 * one .V + 65536 * one .W

/-- TSW of an output in the order UH, UL, VH, VL, WH, WL. -/
def Gate.tswOf (g : Gate) (k : Nat) : Rat :=
  let p : Phase := match k / 2 with
    | 0 => .U
    | 1 => .V
    | _ => .W
  if k % 2 = 0 then (g.rdTsw.get p).1 else (g.rdTsw.get p).2

/-- Objects of a bridge of the lane. (DEDUCED, log entry 105) -/
def Lane.readBridge (L : Lane) (b : Fin 8) (base sub : Nat) : Option Nat :=
  let r := L.bridges.get b
  let f := L.fes.get b
  let g := L.gates.get b
  match base, sub with
  | 0x3000, 4 => some (L.bridgeWord b)
  | 0x3000, 5 => some (rd32 r.rd.offset)
  | 0x3000, 6 => some (rd32 r.rd.id)
  | 0x3000, 7 => some (rd32 r.rd.iq)
  | 0x3000, 8 => some (rd32 r.rd.v)
  | 0x3000, 9 => some (rd32 r.rd.idfw)
  | 0x3000, 0x0A => some (ofSigned 32 (roundR r.rd.err))
  | 0x3000, 0x0B => some r.shifted.toNat
  | 0x3001, 8 => some (ofSigned 32 f.revs)
  | 0x3001, 9 => some (L.posWord b)
  | 0x3001, 0x0A => some (rd32 f.rd.theta)
  | 0x3001, 0x0B => some (rd32 f.rd.shaft)
  | 0x3001, 0x0C => some (rd32 f.rd.spd)
  | 0x3001, 0x0D => some (rd32 f.rd.hfi)
  | 0x3001, 0x0E => some (rd32 f.rd.amp)
  | 0x3001, 0x0F => some f.frameErrors.toNat
  | 0x3002, 0x0D => some (L.gateWord b)
  | 0x3002, 0x0E => some (g.steps true)
  | 0x3002, 0x0F => some (g.steps false)
  | 0x3002, k => if 0x10 ≤ k then some (rd32 (g.tswOf (k - 0x10))) else none
  | 0x3003, 4 => some g.latchedKind.toNat
  | 0x3003, k => some (g.result.word k)
  | _, _ => none

/-- DC_STATUS (07_dc_link_and_braking_energy.md Table 7.5). -/
def DcLink.word (d : DcLink) : Nat :=
  16 * flagBits [d.uv2, d.linkLow, d.regenCut, d.ov1, d.ov2, d.ov3, d.hwHold, d.chopOn, d.chopHot, d.chopFault] +
  16384 * (d.ctest % 4)

/-- Objects of the lane's DC link. (DEDUCED, log entry 105) -/
def Lane.readLink (L : Lane) (base sub : Nat) : Option Nat :=
  match base, sub with
  | 0x3801, 1 => some L.dc.word
  | 0x3801, 2 => some (rd32 L.dc.rdVdc)
  | 0x3801, 3 => some (rd32 L.dc.rdChi)
  | 0x3801, 4 => some (rd32 L.dc.energy)
  | 0x3801, 5 => some L.dc.hwTrips.toNat
  | _, _ => none

/-! ### Tsuvas and uplink (Tables 8.11, 8.14, 10.9) -/

/-- TS_STATUS (08_tsuvas_network.md Table 8.15). -/
def Node.word (n : Node) (ext : Bool) : Nat :=
  n.state.num + 2048 * flagBits [n.leader, n.backoff, n.guardOpen, n.extApplied, ext, n.x.lost, n.y.lost,
                                 n.netLost, n.timeMism] + 1048576 * (n.syncCount % 16)

/-- The counts of a static slot (R279). -/
def Channel.slotCount (c : Channel) (slot : Nat) : SlotCount :=
  ((c.slots.find? fun p => p.1 == slot).map (·.2)).getD {}

/-- EMPTY and INVALID counts at 0x4910-0x4917. -/
def Node.slotCounts (n : Node) (idx sub : Nat) : Nat :=
  let k := idx - 0x4910
  let c := if k % 4 < 2 then n.x else n.y
  let x := c.slotCount (k % 2 * 128 + sub - 1)
  if k < 4 then x.empty.toNat else x.invalid.toNat

/-- A saturating signed 16-bit number. -/
def sat16 (i : Int) : Nat := ofSigned 16 (max (-32768) (min 32767 i))

/-- Objects 0x4801-0x4917. -/
def Lane.readNet (L : Lane) (idx sub : Nat) : Option Nat :=
  let n := L.net
  match idx, sub with
  | 0x4801, 1 => some (L.tSlot .X)
  | 0x4801, 2 => some (L.tSlot .Y)
  | 0x4801, 3 => some (L.tSvc .X)
  | 0x4801, 4 => some (L.tSvc .Y)
  | 0x4801, 5 => some (ofSigned 32 (L.nit .X))
  | 0x4801, 6 => some (ofSigned 32 (L.nit .Y))
  | 0x4801, 7 => some L.tAcc
  | 0x4801, 8 => some L.tAp
  | 0x4801, 9 => some n.schedStatus
  | 0x4802, k => if k ≤ 5 then some (L.setValue 0x4802 k) else none
  | 0x4900, 1 => some (n.word L.sendsExt)
  | 0x4900, 2 => some (n.cycleNow % 2 ^ 32)
  | 0x4900, 3 => some (sat16 (roundR n.ocorrLast))
  | 0x4900, 4 => some (sat16 (roundR n.rcorr))
  | 0x4900, 5 => some (sat16 n.extLast)
  | 0x4900, 6 => some n.startups.toNat
  | 0x4900, 7 => some n.collisions.toNat
  | 0x4900, 8 => some n.mutes.toNat
  | 0x4900, 9 => some n.authFail.toNat
  | 0x4900, 0x0A => some n.txEmpty.toNat
  | 0x4900, 0x0B => some n.cpOverrun.toNat
  | 0x4901, k => some ((n.x.blocks[k - 1]?).getD 0).toNat
  | 0x4902, k => some ((n.y.blocks[k - 1]?).getD 0).toNat
  | 0x4903, k => some (b2n ((n.x.linkUp[k - 1]?).getD false))
  | 0x4904, k => some (b2n ((n.y.linkUp[k - 1]?).getD false))
  | i, k => if 0x4910 ≤ i ∧ i ≤ 0x4917 then some (n.slotCounts i k) else none

/-- CONTRACT record with the assigned phase (10_uplink_contracts_and_telemetry.md Table 10.1). -/
def Contract.raw (c : Contract) : Nat :=
  ofBytes (toBytes 2 c.tag ++ toBytes 1 (c.dir + flag c.stamp 7) ++ toBytes 1 c.dest ++ toBytes 2 c.source ++
    toBytes 2 c.offset ++ toBytes 4 c.period ++ toBytes 2 c.size ++ toBytes 2 c.horizon ++
    toBytes 4 c.latBound ++ toBytes 4 c.phase)

/-- The items of a telemetry set in subindex order: index and subindex (R332). -/
def Lane.setItems (L : Lane) (set : Nat) : List (Nat × Nat × Nat) :=
  ((List.range 32).map (· + 1)).filterMap fun k =>
    let v := L.obj (0x4B10 + set) k
    if v = 0 then none else some (bits v 16 16, bits v 8 8, L.obj (0x4B30 + set) k)

/-- Objects 0x4A01-0x4B50. -/
def Lane.readUplink (L : Lane) (idx sub : Nat) : Option Nat :=
  let t := L.ct
  match idx, sub with
  | 0x4A01, 3 => some t.list.length
  | 0x4A01, k => some (t.result.word k)
  | 0x4A10, k => some (((t.list.find? fun c => c.num == k - 1).map Contract.raw).getD 0)
  | 0x4A30, 1 => some t.winSent.toNat
  | 0x4A30, 2 => some t.winMissed.toNat
  | 0x4A30, 3 => some t.rxDropped.toNat
  | 0x4A30, 4 => some t.inOver.toNat
  | 0x4A30, 5 => some t.authFail.toNat
  | 0x4B50, k => some (48 + 16 * (L.setItems (k - 1)).length)
  | _, _ => none

/-! ### Diagnostics (Tables 12.13, 17.11) -/

/-- KINDs of the sources of a unit of a fault class: the fault tables of every chapter
(17_diagnostics_and_kiln_log.md R479, R483). -/
def sourceKinds (cls unit : Nat) : List Nat :=
  let upTo := fun n => (List.range n).map (· + 1)
  match cls with
  | 1 =>
    if unit < 3 then [2] else if 8 ≤ unit ∧ unit ≤ 10 then [1, 2] else if unit = 61 then upTo 5
    else if unit = 63 then upTo 8 ++ [0x12, 0x13, 0x14, 0x15, 0x19, 0x1A, 0x1B, 0x1C, 0x1D] else []
  | 2 =>
    if unit < 8 then upTo 11 ++ [0x20, 0x21, 0x22, 0x23, 0x25, 0x26, 0x27] else if unit = 63 then [0x24] else []
  | 3 => if unit < 8 then upTo 13 else if unit = 63 then [0x10, 0x11] else []
  | 4 =>
    (if unit ≤ 1 then [1] else []) ++ (if unit = 0 then [5] else []) ++
    (if unit ≤ 6 ∨ (8 ≤ unit ∧ unit ≤ 14) then [7] else []) ++ (if unit ≤ 1 then [8] else []) ++
    (if unit ≤ 5 ∨ (8 ≤ unit ∧ unit ≤ 13) then [9] else []) ++
    (if unit = 32 then [1, 2, 4] else if unit = 33 then [1, 2] else if unit = 63 then [2, 3, 4, 6, 10, 11] else [])
  | 5 => match unit with
    | 0 => [1, 2, 3, 0x10]
    | 1 => upTo 4
    | 2 => [1]
    | 3 => [1, 2, 4]
    | _ => []
  | 6 => if unit = 62 then upTo 10 else if unit = 63 then upTo 6 else []
  | 7 => if unit < 2 then upTo 6 else if unit = 63 then [1] else []
  | 8 =>
    if unit < 8 then [1, 2] else match unit with
    | 8 => upTo 3
    | 9 | 10 => [1]
    | 16 => upTo 5
    | 17 => [1, 2]
    | 18 => [1]
    | _ => []
  | 9 => match unit with
    | 0 => upTo 3
    | 1 => upTo 6
    | 2 => [1]
    | 3 => [1, 2]
    | 4 => upTo 4
    | 5 | 6 => upTo 3
    | _ => []
  | 10 => if unit < 8 then [8] else if unit = 63 then [1, 2] else []
  | 11 => if unit < 16 then upTo 5 else if unit = 63 then [6] else []
  | 12 =>
    if unit < 8 then [2, 4, 5, 6, 7, 9] else if unit = 32 ∨ unit = 33 then [4] else if unit = 62 then [8]
    else if unit = 63 then [1, 3, 10, 11, 12] else []
  | _ => []

/-- SRC_CODES: every source of the lane in ascending order of its code (R479). (DEDUCED, log entry 85) -/
def sourceCodes : List Nat :=
  (List.range 13).flatMap fun c => (List.range 64).flatMap fun u =>
    (sourceKinds c u).map fun k => c * 4096 + u * 64 + k

/-- SRC_COUNT of source `s` (R479). (DEDUCED, log entry 85) -/
def Lane.sourceCount (L : Lane) (s : Nat) : Nat :=
  match sourceCodes[s]? with
  | some c => storeGet L.flog.srcCount c 0
  | none => 0

/-- An event record (Table 17.1). -/
def Event.bytes (e : Event) (lane : Nat) : List Byte :=
  toBytes 10 (mkTime80 e.lastNs) ++ toBytes 2 e.code.toNat ++ toBytes 1 (lane + 4 * e.tstate.num) ++
  toBytes 1 e.level ++ toBytes 2 e.count ++ toBytes 4 (min (e.firstOfs / 1000) 0xFFFFFFFF) ++
  toBytes 4 e.detId.toNat ++ toBytes 4 e.detVal.toNat ++ toBytes 4 e.seq.toNat

/-- LOG_READ: the committed records, oldest first, then the pending ones (R483). -/
def Lane.logBytes (L : Lane) : List Byte :=
  (L.flog.nv ++ L.flog.ring.filter (·.pending)).flatMap fun e => e.bytes L.id.num

/-- Counts of a store at ascending keys as 4-byte words. -/
def countWords (s : Store) (n : Nat) : List Byte := (List.range n).flatMap fun k => toBytes 4 (storeGet s k 0)

/-- The Kiln log image but for its CRC (Table 17.2). -/
def Lane.kilnBody (L : Lane) (ram : KilnRam) : List Byte :=
  let k := L.kiln
  let when_ := ((k.newest).map (·.commitNs)).getD 0
  let words := fun l : List W32 => l.flatMap fun w => toBytes 4 w.toNat
  let head := toBytes 4 (chars ['K', 'I', 'L', 'N']) ++ [1] ++ toBytes 1 L.id.num ++ [0, 0] ++
    toBytes 8 (Config.laneUid L.id).toNat ++ toBytes 4 k.seq.toNat ++ toBytes 10 (mkTime80 when_) ++
    toBytes 10 (mkTime80 (k.firstNs.getD 0)) ++ List.replicate 24 0
  let body := countWords ram.hist 208 ++ words [ram.onSec, ram.runSec, k.cold, k.warm, k.restarts, k.wakes] ++
    countWords k.faults 16 ++ words (k.uvloVgd :: k.uvloBs.list) ++
    words [k.cutsLogic, k.cutsDrive, k.coneOver, k.coneCount, k.rows] ++
    countWords ram.emptyX 32 ++ countWords ram.emptyY 32
  head ++ body ++ List.replicate (65532 - 1296) 0

/-- KILN (R488): the image as of the last update; the last committed copy while the logic rails are
down. -/
def Lane.kilnBytes (L : Lane) : List Byte :=
  let ram := if L.alive then L.kiln.ram else ((L.kiln.newest).getD {}).ram
  let b := L.kilnBody ram
  b ++ toBytes 4 (crc32 b)

/-- WEDGE_RESULT (Table 17.5). -/
def Mem.word (m : Mem) : Nat :=
  m.failed % 32 + flag m.uncover 5 + 64 * (m.newRows % 64) + 4096 * m.untested.toNat + 268435456 * (m.ended % 4) +
  flag m.test 30 + flag m.valid 31

/-- REPAIR_MAP (R503). -/
def Mem.repairBytes (m : Mem) : List Byte :=
  (List.range 48).flatMap fun i =>
    let rows := sparesOf m.spares i
    toBytes 1 i ++ toBytes 1 rows.length ++ (List.range 16).flatMap fun k => toBytes 2 ((rows[k]?).getD 0xFFFF)

/-- LPT_STATUS (Table 17.9). -/
def Lpt.word (p : Lpt) : Nat := flag p.running 2 + flag p.lock 3 + 16 * (p.outcome % 16)

/-- Objects 0x5000-0x5300 of fixed size. -/
def Lane.readDiag (L : Lane) (idx sub : Nat) : Option Nat :=
  let f := L.flog
  match idx, sub with
  | 0x5000, 1 => some f.ring.length
  | 0x5000, 2 => some f.nv.length
  | 0x5000, 4 => some f.logLost.toNat
  | 0x5000, 5 => some (f.ring.filter (·.pending)).length
  | 0x5001, 1 => some sourceCodes.length
  | 0x5100, 2 => some L.kiln.seq.toNat
  | 0x5200, 2 => some L.mem.word
  | 0x5200, 4 => some L.mem.marked.length
  | 0x5200, k => some (L.mem.result.word k)
  | 0x5300, 1 => some (L.lpt.ctrl.toNat + flag L.lpt.running 31)
  | 0x5300, 2 => some L.lpt.errors.toNat
  | 0x5300, 3 => some L.lpt.word
  | 0x5300, 4 => some L.lpt.bits.toNat
  | 0x5300, 5 => some L.lpt.lockLoss.toNat
  | i, k => if 0x5010 ≤ i ∧ i ≤ 0x503F then some (L.sourceCount ((i - 0x5010) * 254 + k - 1)) else none

/-- Objects of type DOMAIN. -/
def Lane.readDomain (L : Lane) (idx sub : Nat) : List Byte :=
  match idx, sub with
  | 0x5000, 3 => L.logBytes
  | 0x5001, 2 => sourceCodes.flatMap fun c => toBytes 2 c
  | 0x5001, 3 => sourceCodes.flatMap fun c => toBytes 4 (storeGet L.flog.srcLost c 0)
  | 0x5100, 1 => L.kilnBytes
  | 0x5200, 3 => L.mem.repairBytes
  | _, _ => []

/-! ### A read -/

/-- The value an object has that is not a working value: none for one that is. -/
def Lane.computed (L : Lane) (idx sub : Nat) : Option Nat :=
  let b : Fin 8 := ⟨idx % 0x200 / 0x40 % 8, Nat.mod_lt _ (by decide)⟩
  if idx < 0x2010 then L.readIdent idx sub
  else if idx < 0x2300 then L.readPower idx sub
  else if idx < 0x2330 then L.readTime idx sub
  else if idx < 0x2400 then L.readQueue idx sub
  else if idx < 0x2600 then L.readSafe idx sub
  else if idx < 0x2800 ∨ idx = 0x4300 then L.readVote idx sub
  else if idx < 0x3000 then none
  else if idx < 0x3600 then L.readBridge b (0x3000 + idx % 0x40) sub
  else if idx < 0x4000 then L.readLink (0x3800 + idx % 0x10) sub
  else if idx < 0x4800 then none
  else if idx < 0x4A00 then L.readNet idx sub
  else if idx < 0x5000 then L.readUplink idx sub
  else L.readDiag idx sub

/-- The value of one object at this instant, as the full bytes of its type (11_dictionary_access.md R342,
R348, R352, R357). Subindex 0 of a record reads its highest subindex (R341). -/
def Lane.readObj (L : Lane) (idx sub : Nat) : List Byte :=
  match findObj L.id idx sub with
  | none => if isRecord L.id idx && sub == 0 then toBytes 1 (highestSub L.id idx) else []
  | some r =>
    match r.ty.size with
    | none => L.readDomain idx sub
    | some n =>
      if r.acc = .rws ∨ r.acc = .rwp then
        toBytes n (match idx, sub with
          | 0x2405, 5 => L.ds2.lastStore
          | _, _ => L.obj idx sub)
      else toBytes n ((L.computed idx sub).getD (L.obj idx sub))

/-- The value a read of an object returns; DS2_VALUE reads its target's (13_safety_inputs_and_seal.md
R410). -/
def Lane.readValue (L : Lane) (idx sub : Nat) : List Byte :=
  if idx = 0x2405 ∧ sub = 4 then
    let t := L.obj 0x2405 3
    if t = 0 then [] else L.readObj (bits t 16 16) (bits t 8 8)
  else L.readObj idx sub

end Sys2Proof.Machine
end

