-- ==== Sys2Proof/Machine/Uplink.lean ====
section
/-! DEFINITION. The uplink: cycle points, frames received, delivery contracts, telemetry snapshots and contract
windows (chapter 10). -/

namespace Sys2Proof.Machine

/-! ### Admission of a contract (R325-R328, Tables 10.1-10.3) -/

/-- The record of Table 10.1; its PHASE stands as written. -/
def ctRecord (r : Nat) : Contract :=
  { tag := bits r 0 16, dir := bits r 16 2, stamp := bit r 23, dest := bits r 24 8, source := bits r 32 16
    offset := bits r 48 16, period := bits r 64 32, size := bits r 96 16, horizon := bits r 112 16
    latBound := bits r 128 32, phase := bits r 160 32 }

/-- A destination entry holds an address whose family is switched on (rule 3). -/
def Lane.destOk (L : Lane) (k : Nat) : Bool :=
  let v := L.obj 0x4A20 (k + 1)
  decide (k < 16) && v != 0 && (if destV4 v then L.obj 0x4A00 5 != 0 else L.obj 0x4A00 6 != 0)

/-- A contract's slot is used in the lane's schedule (rule 3). -/
def Lane.ctSlotUsed (L : Lane) (c : Contract) : Bool :=
  let (ch, k) := ctSlot c.source
  decide (c.source < 512) && decide (k < L.nStatic ch) && (L.slot ch k).port != 7

/-- Rule 3 of Table 10.3; `rsv` are the reserved bits of DIR. -/
def Lane.ctFields (L : Lane) (c : Contract) (rsv : Nat) : Bool :=
  rsv == 0 &&
  (match c.dir with
   | 0 => L.destOk c.dest && decide (c.source < 16) && c.offset == 0 && c.size == 0 && c.horizon == 0
   | 1 =>
     L.destOk c.dest && L.ctSlotUsed c && c.offset == 0 && c.size == 0 && decide (1 ≤ c.horizon) &&
     decide (c.horizon ≤ 60000)
   | 2 =>
     c.dest == 0 && L.ctSlotUsed c && (L.slot (ctSlot c.source).1 (ctSlot c.source).2).port == 6 && c.horizon == 0
   | _ => false)

/-- Rule 4 of Table 10.3. -/
def Lane.ctPeriod (L : Lane) (c : Contract) : Bool :=
  if c.dir = 2 then c.period != 0 && c.period % (max 1 L.tVote) == 0
  else decide (250 ≤ c.period) && L.obj 0x4A00 4 * 1000 % (max 1 c.period) == 0

/-- Rule 5 of Table 10.3. -/
def Lane.ctRoom (L : Lane) (c : Contract) : Bool :=
  if c.dir = 2 then
    decide (c.offset + c.size + 4 ≤ (L.slot (ctSlot c.source).1 (ctSlot c.source).2).len) &&
    decide (L.obj 0x4A00 0x0A ≤ c.offset) &&
    L.ct.list.all fun d =>
      d.dir != 2 || d.source != c.source || decide (d.offset + d.size + 4 ≤ c.offset) ||
      decide (c.offset + c.size + 4 ≤ d.offset)
  else decide (L.ctBytes c ≤ 1400)

/-- An enabled cycle point CP5-CP7 with a task: its offset in microseconds (R281). -/
def Lane.taskPoint (L : Lane) (task : Nat) : Option Nat :=
  (([6, 7, 8].map fun k => L.sched 0x4802 k).find? fun v => bit v 31 && bits v 24 4 == task).map (bits · 0 16)

/-- tNEXT - tCP5 of an own slot in ns: its first instance that carries data and whose tREADY follows the
TX_COMMIT point (R328). -/
def Lane.txDelay (L : Lane) (ch : Chan) (k cp : Nat) : Nat :=
  let start := L.slotStart ch false k
  let first := if cp * 1000 + 5000 < start then start else start + L.tVote * 1000
  first + L.tAp - cp * 1000

/-- The minimum bound of Table 10.2 in tenths of a ns; none where no TX_COMMIT point is enabled. -/
def Lane.ctMinimum (L : Lane) (c : Contract) : Option Nat :=
  let (ch, k) := ctSlot c.source
  match c.dir with
  | 0 => some (L.tVote * 10000 + 400000 + L.ctLine c)
  | 1 => some (2 ^ (L.slot ch k).rep * L.cycleLen * 10000 + 100000 + L.ctLine c)
  | _ => (L.taskPoint 1).map fun cp => L.tVote * 10000 + L.txDelay ch k cp * 10 + 20000

/-- Rule 6 of Table 10.3. -/
def Lane.ctLatency (L : Lane) (c : Contract) : Bool :=
  match L.ctMinimum c with
  | some m => decide (m ≤ c.latBound * 10)
  | none => false

/-- The windows and guard bands of two contracts never overlap (R327): their phases modulo the greatest
common divisor of the periods. -/
def Lane.windowsApart (L : Lane) (c d : Contract) : Bool :=
  let g := max 1 (Nat.gcd (c.period * 10000) (d.period * 10000))
  let gap := (((d.phase : Int) - (c.phase : Int)) * 10000 % (g : Int)).toNat
  decide (50000 + L.ctLine c ≤ gap) && decide (gap + 50000 + L.ctLine d ≤ g)

/-- The phase clears every other contract's windows (R327). -/
def Lane.clearsContracts (L : Lane) (c : Contract) : Bool :=
  L.ct.list.all fun d => d.dir == 2 || L.windowsApart c d

/-- The phase clears every queued launch, from the contract's first window on (R327, rule 9). -/
def Lane.clearsLaunches (L : Lane) (c : Contract) : Bool :=
  let first := L.uplAt (L.tb.ns + 1000000) * 10
  L.ta.entries.all fun e =>
    if e.kind ≠ 1 then true
    else
      let u := L.uplAt e.dueNs
      let d := c.since u
      let w : Int := u * 10 - (d : Int) + 50000
      !((decide (d < 50000 + L.ctLine c) && decide (first ≤ w)) ||
        (decide (c.period * 10000 - d < e.lineNs * 10) && decide (first ≤ w + (c.period * 10000 : Nat))))

/-- The lowest free phase from `p` on, among the next `n` (R327). -/
def Lane.freePhase (L : Lane) (c : Contract) : Nat → Nat → Option Nat
  | 0, _ => none
  | n + 1, p =>
    let d := { c with phase := p }
    if L.clearsContracts d && L.clearsLaunches d then some p else L.freePhase c n (p + 1)

/-- Rule 8 of Table 10.3: the share of the uplink's time stays within 80 %. -/
def Lane.ctShare (L : Lane) (c : Contract) : Bool :=
  let share := fun d : Contract =>
    if d.dir = 2 then (0 : Rat) else ((50000 + L.ctLine d : Nat) : Rat) / ((max 1 d.period * 10000 : Nat) : Rat)
  decide (((c :: L.ct.list).map share).sum ≤ 4 / 5)

/-- Rule 10 of Table 10.3. (DEDUCED, log entry 88) -/
def Lane.ctSource (L : Lane) (c : Contract) : Bool :=
  c.dir != 0 || ((L.taskPoint 2).isSome && decide (0 < L.itemCount c.source))

/-- Rules 1-6 of Table 10.3 in their order. (DEDUCED, log entry 88) -/
def Lane.ctRules (L : Lane) (c : Contract) (rsv : Nat) : List Bool :=
  [ decide (L.ct.list.length < 64),
    c.tag != 0 && L.ct.list.all fun d => d.tag != c.tag,
    L.ctFields c rsv, L.ctPeriod c, L.ctRoom c, L.ctLatency c ]

/-- The phase a contract gets, or the rule of 7-10 that fails (Table 10.3, R327). (DEDUCED, log entry 88) -/
def Lane.ctPhase (L : Lane) (c : Contract) : Nat ⊕ Nat :=
  let last := fun p : Nat =>
    let d := { c with phase := p }
    if L.ctShare d = false then .inr 8
    else if c.dir ≠ 2 ∧ L.clearsLaunches d = false then .inr 9
    else if L.ctSource d = false then .inr 10
    else .inl p
  if c.dir = 2 then last c.phase
  else if c.phase = 0xFFFFFFFF then
    match L.freePhase c c.period 0 with
    | some p => last p
    | none => .inr 7
  else if c.phase < c.period ∧ L.clearsContracts c then last c.phase
  else .inr 7

/-- The outcome of a submission: the phase, or the REASON (R326). -/
def Lane.placeContract (L : Lane) (c : Contract) (rsv : Nat) : Nat ⊕ Nat :=
  match firstFail (L.ctRules c rsv) with
  | some r => .inr r
  | none => L.ctPhase c

/-- The lowest contract number in no use. -/
def Ct.freeNum (t : Ct) : Nat :=
  ((List.range 64).find? fun k => !(t.list.any fun c => c.num == k)).getD 0

/-- A contract placed among those admitted, numbers rising. -/
def Ct.add (t : Ct) (c : Contract) : Ct :=
  { t with list := t.list.filter (fun d => decide (d.num < c.num)) ++ c ::
      t.list.filter (fun d => decide (c.num < d.num)) }

/-- A write to CT_RESULT of its master: REASON and CONTRACT (Table 10.10). -/
def Lane.ctEnd (L : Lane) (m : Master) (reason num : Nat) : Lane :=
  { L with ct := { L.ct with
      result := (L.ct.result.start m).finish m (BitVec.ofNat 12 (reason * 64 + num)) } }

/-- A record written to CT_SUBMIT is judged (R326, R327). -/
def Lane.ctSubmit (L : Lane) (m : Master) (r : Nat) : Lane :=
  let c := ctRecord r
  match L.placeContract c (bits r 18 5) with
  | .inr reason => L.ctEnd m reason 0
  | .inl p =>
    let n := L.ct.freeNum
    let d : Contract := { c with num := n, phase := p, nextNs := L.tb.ns + 1000000 }
    ({ L with ct := L.ct.add d } : Lane).ctEnd m 0 n

/-- CT_SUBMIT (R325, R326). -/
def execCtSubmit (l : LaneId) (m : Master) (tid : Nat) (data : List Byte) (s : State) :
    Host.Outcome State Fault Refusal :=
  .next (s.on l fun L =>
    match L.writeErr m 0x4A01 1 data true false with
    | some e => L.answer m tid 0x4A01 1 e
    | none =>
      if L.ct.result.busy m then L.answer m tid 0x4A01 1 eBusy
      else ((L.sbCount m 0x4A01).ctSubmit m (ofBytes data)).answer m tid 0x4A01 1 0)

/-- CT_WITHDRAW (R329): a tag in no use is refused in the present state. (DEDUCED, log entry 87) -/
def execCtWithdraw (l : LaneId) (m : Master) (tid : Nat) (data : List Byte) (s : State) :
    Host.Outcome State Fault Refusal :=
  .next (s.on l fun L =>
    let hit := L.ct.list.find? fun c => c.tag == ofBytes data
    match L.writeErr m 0x4A01 2 data hit.isSome false with
    | some e => L.answer m tid 0x4A01 2 e
    | none =>
      if L.ct.result.busy m then L.answer m tid 0x4A01 2 eBusy
      else match hit with
        | some c =>
          let L := L.sbCount m 0x4A01
          let M : Lane := { L with ct := { L.ct with list := L.ct.list.filter fun d => d.num != c.num } }
          (M.ctEnd m 0 c.num).answer m tid 0x4A01 2 0
        | none => L.answer m tid 0x4A01 2 eState)

/-! ### The telemetry snapshot (R332-R334) -/

/-- The last tCLOSE that has passed (Table 10.4). -/
def Lane.lastClose (L : Lane) : Nat :=
  let c := L.vote.startNs + L.tClose * 1000
  if c ≤ L.tb.ns then c else c - L.tVote * 1000

/-- Objects that the lane updates once per vote cycle: service, redundancy, bridge, position, gate and DC-link
status and measured values (Table 10.4). -/
def perCycle (idx sub : Nat) : Bool :=
  (idx == 0x2001 && sub == 1) || (idx == 0x2601 && (sub == 1 || 0x10 ≤ sub)) || (idx == 0x4300 && sub == 0x0A) ||
  (decide (0x3000 ≤ idx) && decide (idx < 0x3600) &&
   ((idx % 0x40 == 0 && decide (4 ≤ sub) && decide (sub ≤ 0x0A)) ||
    (idx % 0x40 == 1 && decide (9 ≤ sub) && decide (sub ≤ 0x0E)) ||
    (idx % 0x40 == 2 && decide (0x0D ≤ sub)))) ||
  (decide (0x3800 ≤ idx) && decide (idx < 0x3840) && idx % 0x10 == 1 && decide (sub ≤ 4))

/-- Production time of an item (Table 10.4). (DEDUCED, log entry 87) -/
def Lane.prodTime (L : Lane) (idx sub : Nat) : Nat :=
  if perCycle idx sub then L.lastClose
  else if idx = 0x2202 then L.clk.hkNs + (sub - 1) * 62500
  else if idx = 0x2201 ∧ sub ≤ 0x0A then L.clk.hkNs + (sub - 1) * 62500
  else L.tb.ns

/-- The source marks the value invalid (R335): an angle or speed without a valid sensor, a temperature of an
excluded sensor, a die temperature with none left. -/
def Lane.itemValid (L : Lane) (idx sub : Nat) : Bool :=
  if 0x3000 ≤ idx ∧ idx < 0x3600 ∧ idx % 0x40 = 1 ∧ (sub = 0x0B ∨ sub = 0x0C) then
    !(L.fes.get ⟨idx % 0x200 / 0x40 % 8, Nat.mod_lt _ (by decide)⟩).shaftInv
  else if idx = 0x2201 ∧ sub ≤ 0x0A then !(L.therm.broken.getLsbD (sub - 1))
  else if idx = 0x2201 ∧ sub = 0x0C then L.therm.tLogic.isSome
  else if idx = 0x2201 ∧ sub = 0x0D then L.therm.tDrive.isSome
  else true

/-- No value produced since the lane started: a housekeeping value before the first round (R335). -/
def Lane.itemNever (L : Lane) (idx sub : Nat) : Bool :=
  (idx == 0x2202 || (idx == 0x2201 && decide (sub ≤ 0x0A))) && L.clk.hk.isEmpty

/-- One item taken (R333). -/
def Lane.snapItem (L : Lane) (set idx sub hor : Nat) : SnapItem :=
  { set := set, idx := idx, sub := sub, prodNs := L.prodTime idx sub, horizonUs := hor
    valid := L.itemValid idx sub, never := L.itemNever idx sub
    value := BitVec.ofNat 32 (ofBytes (L.readValue idx sub)) }

/-- TELEM_SNAPSHOT: every item of every set, with the uplink clock as it stands (R333). (DEDUCED, log entry 87) -/
def Lane.telemSnapshot (L : Lane) : Lane :=
  let items := (List.range 16).flatMap fun k => (L.setItems k).map fun x => L.snapItem k x.1 x.2.1 x.2.2
  let t : TSnap :=
    { prodNs := L.tb.ns, offset := L.uplOffsetNow, rate := L.upl.rate, ustate := L.upl.state, unc := L.uplUnc
      role := L.vote.role, mstate := L.mstate, stepped := L.ct.stepSeen, items := items }
  { L with ct := { L.ct with snaps := (t :: L.ct.snaps).take 4, stepSeen := false } }

/-! ### TX_COMMIT (R281, R337) -/

/-- The newest datagram whose last bit arrived at least 2 microseconds before the raise is taken; older ones
count in IN_OVERWRITTEN, later ones wait (R337). -/
def Contract.takeIn (c : Contract) (raise : Nat) : Contract × Nat :=
  let ready := c.inWait.filter fun p => decide (p.1 + 2000 ≤ raise)
  match ready.getLast? with
  | none => (c, 0)
  | some p =>
    ({ c with inData := p.2, inAge := 0, inCount := c.inCount + 1
              inWait := c.inWait.filter fun q => decide (raise < q.1 + 2000) }, ready.length - 1)

/-- The region of a DIR 2 contract: offset and bytes (R337). -/
def Contract.region (c : Contract) : Nat × List Byte :=
  (c.offset, toBytes 4 (c.inAge * 65536 + c.inCount.toNat) ++ c.inData)

/-- Buffers of the lane's own static slots (R281). -/
def Lane.ownBufs (L : Lane) : List (Chan × Nat × Nat) :=
  [Chan.X, Chan.Y].flatMap fun ch => (List.range (L.nStatic ch)).filterMap fun k =>
    let d := L.slot ch k
    if d.port = 6 then some (ch, k, d.buf) else none

/-- TX_COMMIT writes the latest agreed outputs, the status and the DIR 2 regions into the lane's transmit
buffers and sets READY (R281, R337). -/
def Lane.txCommit (L : Lane) : Lane :=
  let taken := L.ct.list.map fun c => if c.dir = 2 then c.takeIn L.tb.ns else (c, 0)
  let list := taken.map (·.1)
  let lostIn := (taken.map (·.2)).sum
  let fill := fun (x : Chan × Nat × Nat) => ({
    buf := x.2.2, ready := true, readyNs := L.tb.ns, out := L.vote.latestOut, status := L.vote.lastStatus
    regions := (list.filter fun c => c.dir == 2 && ctSlot c.source == (x.1, x.2.1)).map Contract.region } : TxBuf)
  let own := L.ownBufs
  let bufs := own.map fill ++ L.net.txBufs.filter fun b => !(own.any fun x => x.2.2 == b.buf)
  { L with
    ct := { L.ct with
      list := list, inOver := BitVec.ofNat 32 (min (L.ct.inOver.toNat + lostIn) 0xFFFFFFFF) }
    net := { L.net with txBufs := bufs } }

/-- CYCLE_POINT_RAISE (R281, R282): CP0-CP4 are the vote cycle's own points, which have commands of their
own; a raise whose task still runs is dropped and counted. -/
def execCyclePointRaise (l : LaneId) (cp : Fin 8) (busy : Bool) (s : State) :
    Host.Outcome State Fault Refusal :=
  .next (s.on l fun L =>
    let v := L.sched 0x4802 (cp.val + 1)
    if L.runs = false ∨ L.vote.running = false ∨ cp.val < 5 ∨ bit v 31 = false ∨ bits v 24 4 = 0 then L
    else
      let M := L.toPoint (bits v 0 16)
      if busy then
        ({ M with net := { M.net with cpOverrun := satInc M.net.cpOverrun } } : Lane).raise
          (0xA000 + cp.val * 0x40 + 8) 0
      else if bits v 24 4 = 1 then M.txCommit
      else if bits v 24 4 = 2 then M.telemSnapshot
      else M)

/-! ### Contract windows (R322, R323, R331, R335, R336) -/

/-- The first window of a contract that opens at or after an uplink instant, ns (R322). -/
def Contract.windowFrom (c : Contract) (u : Int) : Int :=
  let p : Int := (max 1 c.period * 1000 : Nat)
  u + ((c.phase * 1000 : Nat) - u) % p

/-- Network time of an uplink instant (R296). -/
def Lane.netAt (L : Lane) (w : Int) : Nat :=
  let d : Int := w - L.uplNow
  ((L.tb.ns : Int) + roundR ((d : Rat) / (1 + (L.upl.rate : Rat) / 1000000000000))).toNat

/-- A time within a snapshot in the uplink clock, by its latched pair (R333). -/
def TSnap.upl (t : TSnap) (ns : Nat) : Int :=
  (ns : Int) + t.offset + roundR ((t.rate : Rat) * (((ns : Int) - (t.prodNs : Int) : Int) : Rat) / 1000000000000)

/-- A signed offset saturated to 32 bits (Table 10.6). -/
def sat32 (lo i : Int) : Int := max lo (min 2147483647 i)

/-- Item descriptor of a snapshot's item at a window (Table 10.6, R335): index, subindex, STATUS, PROD_OFS,
VALID_OFS, VALUE. -/
def TSnap.describe (t : TSnap) (w : Int) (x : SnapItem) : Nat × Nat × Nat × Int × Int × Nat :=
  let p := t.upl x.prodNs
  let h := t.upl (x.prodNs + x.horizonUs * 1000)
  let raise := t.upl t.prodNs
  let status := if x.never then 3 else if x.valid = false then 2 else if h < w then 1 else 0
  (x.idx, x.sub, status, sat32 (-2147483648) (p - raise), sat32 (-2147483647) (h - raise),
   if x.never then 0 else x.value.toNat)

/-- SRC of a record (Table 10.5, R320). -/
def Lane.srcField (L : Lane) : Nat := L.id.num * 16384 + L.sched 0x4800 2 * 32 + L.sched 0x4800 3

/-- UNC of a record (Table 10.5). -/
def uncField (st : UState) (unc : Nat) : Nat := if st = .unset ∨ 0xFFFFFFFF < unc then 0xFFFFFFFF else unc

/-- NEXT_DUE: the end of the contract's next window (Table 10.5). -/
def Lane.nextDue (L : Lane) (c : Contract) (w : Int) : Int :=
  w + (c.period * 1000 : Nat) + (L.ctLine c / 10 : Nat)

/-- The telemetry record of a window from a snapshot (R335, Tables 10.5, 10.6). (DEDUCED, log entry 89) -/
def Lane.telemRecord (L : Lane) (c : Contract) (t : TSnap) (w : Int) : Record :=
  { tag := c.tag, kind := 0, src := L.srcField, stateByte := t.role.num + 4 * (t.mstate % 4), seq := c.seq
    prodUpl := t.upl t.prodNs, nextDue := L.nextDue c w, unc := uncField t.ustate t.unc
    flags := flag (t.ustate == .unset) 0 + flag (t.ustate == .holdover) 1 + flag t.stepped 2 + flag c.missed 3 +
      flag (c.lastProd == some t.prodNs) 4
    items := (t.items.filter fun x => x.set == c.source).map (t.describe w) }

/-- The forwarded record of a window from a stored frame (R335, R336). (DEDUCED, log entry 89) -/
def Lane.forwardRecord (L : Lane) (c : Contract) (f : RxFrame) (w : Int) : Record :=
  let p := L.uplAt f.arrNs
  let h : Int := (c.horizon * 1000000 : Nat)
  { tag := c.tag, kind := 1, src := L.srcField, stateByte := L.vote.role.num + 4 * (L.mstate % 4), seq := c.seq
    prodUpl := p, nextDue := L.nextDue c w, unc := uncField L.upl.state L.uplUnc
    flags := flag (L.upl.state == .unset) 0 + flag (L.upl.state == .holdover) 1 + flag c.missed 3 +
      flag (c.lastProd == some f.arrNs) 4
    items := [(0, 0, if p + h < w then 1 else 0, 0, sat32 (-2147483647) h, f.payload.length)]
    payload := f.payload }

/-- What a window sends, with its production time; none where it stays empty (R331). -/
def Lane.windowRecord (L : Lane) (c : Contract) (w : Int) : Option (Nat × Record) :=
  if L.upl.link = false ∨ L.lptOn 16 then none
  else if c.dir = 0 then
    (L.ct.snaps.find? fun t => decide (t.prodNs + 40000 ≤ L.tb.ns)).map fun t => (t.prodNs, L.telemRecord c t w)
  else
    let (ch, k) := ctSlot c.source
    (L.net.rxFrames.find? fun f => f.ch == ch && f.slot == k).map fun f => (f.arrNs, L.forwardRecord c f w)

/-- One contract changed in the list. -/
def Ct.onNum (t : Ct) (n : Nat) (f : Contract → Contract) : Ct :=
  { t with list := t.list.map fun c => if c.num == n then f c else c }

/-- A window that stays empty (R331). -/
def Lane.windowEmpty (L : Lane) (c : Contract) : Lane :=
  let t := L.ct.onNum c.num fun c =>
    { c with seq := c.seq + 1, missed := true, everEmpty := true, nextNs := L.tb.ns + 1 }
  let M : Lane := { L with ct := { t with winMissed := satInc t.winMissed } }
  if c.everEmpty then M else M.raise 0x4802 0 c.num

/-- Input of a datagram's tag: F, the addresses, the ports, the payload (14_security.md R427). -/
def dgInput (f : Int) (d : Datagram) : List Byte :=
  toBytes 8 (f % 2 ^ 64).toNat ++ d.src ++ d.dst ++ toBytes 2 d.sport ++ toBytes 2 d.dport ++ d.payload

/-- The tag of a datagram under a key for an F (14_security.md R427). -/
def dgTag (key : BitVec 128) (f : Int) (d : Datagram) : List Byte := tag8 key (dgInput f d)

/-- Number of the uplink key that the lane sends under: the lower one that serves (14_security.md R427). -/
def Lane.uplKey (L : Lane) : Nat := if L.keyServes 8 then 8 else 9

/-- The lane's own address of a family in 16 bytes, IPv4 mapped (R318, 14_security.md R427); the object holds an IPv4
address as a number and the bytes of an IPv6 address in order. -/
def Lane.ownAddr (L : Lane) (v6 : Bool) : List Byte :=
  if v6 then toBytes 16 (L.obj 0x4A00 6)
  else List.replicate 10 0 ++ [0xFF, 0xFF] ++ (beBytes 4 (L.obj 0x4A00 5)).map (BitVec.ofNat 8)

/-- A datagram that the lane sends, closed by its tag; F is the uplink clock at its first bit (14_security.md R427). -/
def Lane.sealed (L : Lane) (u : Int) (d : Datagram) : Datagram :=
  { d with tag := dgTag (L.sec.key L.uplKey) (u / 1000000) d }

/-- Bytes of a record (Tables 10.5 and 10.6, R336). -/
def Record.bytes (r : Record) : List Byte :=
  toBytes 1 1 ++ toBytes 1 r.kind ++ toBytes 2 r.src ++ toBytes 2 r.tag ++ toBytes 1 r.stateByte ++
    toBytes 1 r.items.length ++ toBytes 4 r.seq.toNat ++ toBytes 10 (mkTime80 r.prodUpl.toNat) ++
    toBytes 10 (mkTime80 r.nextDue.toNat) ++ toBytes 4 r.unc ++ toBytes 1 r.flags ++ toBytes 3 0 ++
    (r.items.flatMap fun i => toBytes 2 i.1 ++ toBytes 1 i.2.1 ++ toBytes 1 i.2.2.1 ++
      toBytes 4 (ofSigned 32 i.2.2.2.1) ++ toBytes 4 (ofSigned 32 i.2.2.2.2.1) ++ toBytes 4 i.2.2.2.2.2) ++
    r.payload

/-- The frame that carries a record to a destination entry, in traffic class 7 as its window opens (R322, R323,
R336). -/
def Lane.recordFrame (L : Lane) (dest : Nat) (r : Record) : UplFrame :=
  let v := L.obj 0x4A20 (dest + 1)
  let b := toBytes 28 v
  { vid := ofBytes ((b.drop 24).take 2), pcp := ofBytes ((b.drop 26).take 1), cls := 7, atT := L.uplNow * 10
    dg := L.sealed L.uplNow
      { v6 := !(destV4 v), mac := b.take 6, src := L.ownAddr (!(destV4 v)), dst := (b.drop 6).take 16
        sport := L.obj 0x4A00 7, dport := ofBytes ((b.drop 22).take 2), payload := r.bytes } }

/-- A best-effort frame: traffic class 0, tagged with UPL_VID and BE_PCP, as soon as its gate is open (R319, R322). -/
def Lane.lowFrame (L : Lane) (d : Datagram) : UplFrame :=
  let t := L.lowOpenFrom (L.ct.list.length + L.ta.entries.length) (L.uplNow * 10)
  { vid := L.obj 0x4A00 2, pcp := L.obj 0x4A00 3, cls := 0, atT := t, dg := L.sealed (t / 10) d }

/-- A window that sends its record (R323, R336), stamped where the contract asks for it (R302). -/
def Lane.windowSend (L : Lane) (c : Contract) (prod : Nat) (r : Record) : Lane :=
  let t := L.ct.onNum c.num fun c =>
    { c with seq := c.seq + 1, missed := false, lastProd := some prod, nextNs := L.tb.ns + 1 }
  let M : Lane := { L with ct := { t with
    winSent := satInc t.winSent, sent := some r, datagram := some (L.recordFrame c.dest r) } }
  if c.stamp then M.stamp .u c.tag false else M

/-- CONTRACT_WINDOW (R323): the next window of an outbound contract opens. -/
def execContractWindow (l : LaneId) (n : Nat) (s : State) : Host.Outcome State Fault Refusal :=
  .next (s.on l fun L =>
    match L.ct.list.find? fun c => c.num == n with
    | some c =>
      if L.pairsUp && c.dir != 2 then
        let w := c.windowFrom (L.uplAt (max L.tb.ns c.nextNs))
        let M := L.advance (L.netAt w)
        match M.windowRecord c w with
        | some (p, r) => M.windowSend c p r
        | none => M.windowEmpty c
      else L
    | none => L)

/-! ### The link and what it brings (R318, R331, R337, 14_security.md R427-R428) -/

/-- UPLINK_LINK_CHANGE (R331): the link that goes down is fault 0x4801, and it ends a pattern test on it
(17_diagnostics_and_kiln_log.md R501). -/
def execUplinkLinkChange (l : LaneId) (up : Bool) (s : State) : Host.Outcome State Fault Refusal :=
  .next (s.on l fun L =>
    if L.alive then
      let M : Lane := { L with upl := { L.upl with link := up } }
      if up then M
      else if L.upl.link then (M.lptDown 16).raise 0x4801 0
      else M
    else L)

/-- A dropped frame (R318). -/
def Lane.rxDrop (L : Lane) : Lane := { L with ct := { L.ct with rxDropped := satInc L.ct.rxDropped } }

/-- A reply to ARP, a neighbour solicitation or an echo request (R318). -/
def Lane.reply (L : Lane) : Lane := { L with ct := { L.ct with replies := L.ct.replies + 1 } }

/-- A dropped datagram of a tag that verifies at no F: counted and raised (14_security.md R428). -/
def Lane.authDrop (L : Lane) : Lane :=
  ({ L with ct := { L.ct with authFail := satInc L.ct.authFail } } : Lane).raise 0x90C1 0

/-- The datagram verifies at one of F = Fr - 2 to Fr + 1 under an uplink key that serves (14_security.md R427, R428). -/
def Lane.tagOk (L : Lane) (d : Datagram) : Bool :=
  let fr := L.uplNow / 1000000
  [(-2 : Int), -1, 0, 1].any fun o => [8, 9].any fun k =>
    L.keyServes k && dgTag (L.sec.key k) (fr + o) d == d.tag

/-- The replay cache with the entries of the last 5 ms (14_security.md R428). -/
def Lane.replayNow (L : Lane) : List (List Byte × List Byte × Nat) :=
  L.ct.replay.filter fun e => decide (L.tb.mono < e.2.2 + 5000000)

/-- A datagram whose tag verifies at no F, or one that is a replay or finds the cache full, is dropped
(14_security.md R428); `forward` counts it in RX_DROPPED too (R337). An accepted one is served. (DEDUCED, log entry 89) -/
def Lane.datagram (L : Lane) (d : Datagram) (forward : Bool) (serve : Lane → Lane) : Lane :=
  if L.tagOk d = false then (if forward then L.rxDrop else L).authDrop
  else
    let kept := L.replayNow
    let M : Lane := { L with ct := { L.ct with replay := kept } }
    if (kept.any fun e => e.1 == d.tag && e.2.1 == d.src) || decide (512 ≤ kept.length) then
      (M.rxDrop).raise 0x90C2 0
    else serve { M with ct := { M.ct with replay := kept ++ [(d.tag, d.src, L.tb.mono)] } }

/-- The frame of a datagram is at most 1,522 bytes long, VLAN tag included: 22 bytes of MAC header, VLAN tag and FCS,
the IP and UDP headers, the payload and its tag (R316). -/
def fitsFrame (d : Datagram) : Bool := decide (22 + (if d.v6 then 48 else 28) + d.payload.length + d.tag.length ≤ 1522)

/-- A DIR 2 datagram joins the arrivals of its contract, or is dropped (R337). -/
def Lane.takeForward (L : Lane) (tag : Nat) (payload : List Byte) : Lane :=
  match L.ct.list.find? fun c => c.dir == 2 && c.tag == tag with
  | some c =>
    if payload.length ≤ c.size then
      { L with ct := L.ct.onNum c.num fun c => { c with inWait := c.inWait ++ [(L.tb.ns, payload)] } }
    else L.rxDrop
  | none => L.rxDrop

/-- UPLINK_FRAME_RECEIVED (R318, R337): `ns` is the network time of its last bit. -/
def execUplinkFrameReceived (l : LaneId) (ns : Nat) (f : UplinkIn) (s : State) :
    Host.Outcome State Fault Refusal :=
  .next (s.on l fun L =>
    if L.pairsUp && L.upl.link && !L.lptOn 16 then
      let M := L.advance ns
      let v4 := M.obj 0x4A00 5 != 0
      let v6 := M.obj 0x4A00 6 != 0
      match f with
      | .foreign => M.rxDrop
      | .arp own => if own && v4 then M.reply else M
      | .neighbour own => if own && v6 then M.reply else M
      | .echo six => if if six then v6 else v4 then M.reply else M
      | .gptp => M
      | .udp d =>
        if (if d.v6 then v6 else v4) = false ∨ fitsFrame d = false then M.rxDrop
        else if d.dst ≠ M.ownAddr d.v6 then M
        else if d.dport = M.obj 0x4A00 8 then
          M.datagram d false fun N => { N with ct := { N.ct with asked := some d, replied := none } }
        else if d.dport = M.obj 0x4A00 9 then
          M.datagram d true fun N => N.takeForward (ofBytes (d.payload.take 2)) (d.payload.drop 2)
        else M
      | .unserved => M
    else L)

end Sys2Proof.Machine
end

