-- ==== Sys2Proof/Machine/Restore.lean ====
section
/-! DEFINITION. Supply, x_nRST, wake sources, the phases of an entry and the steps of the restore order
(chapter 15, 09_time_base_and_timed_actions.md R291, R313, 13_safety_inputs_and_seal.md R405-R407,
18_balls_electrical_package.md R511). -/

namespace Sys2Proof.Machine

/-! ### Supply and x_nRST (R435, R449, R511) -/

/-- Every domain of the lane is held in reset: gates low, stop line asserted, role OUT, no session
(R435). (DEDUCED, log entry 14) -/
def Lane.heldReset (L : Lane) : Lane :=
  let M := (L.sbClose 5).assertStop.starsDown
  { M with
    vote := { M.vote with role := .out, roleDue := none, running := false }
    pwr := { M.pwr with
      state := .starting, step := 0, phase := 0, stuckAt := false, waitShadow := false, announce := false
      monUp := false, vgdOn := false, exit := false, exitTo := 0, exitPassive := false, toOff := false
      abandon := false, asleep := false, latched := false, pending := 0, nflt := false }
    mem := { M.mem with running := false, testing := false } }

/-- VIN_POWER_ON (R435): x_VIN rises through its power-on threshold. (DEDUCED, log entry 14) -/
def execVinPowerOn (l : LaneId) (s : State) : Host.Outcome State Fault Refusal :=
  let L := s.lane l
  if L.pwr.vinOn ∧ L.pwr.step ≠ 0 ∨ L.pwr.state = .off ∧ L.pwr.vinOn ∨ L.pwr.phase ≠ 0 then .next s
  else if L.pwr.nrst then .next (s.on l fun L => { L with pwr := { L.pwr with vinOn := true, vaonOn := true } })
  else .next ((s.laneStarted l).on l fun L => L.powerUp 1)

/-- NRST_ASSERT (R435). -/
def execNrstAssert (l : LaneId) (s : State) : Host.Outcome State Fault Refusal :=
  .next (s.on l fun L =>
    let M := L.heldReset
    { M with pwr := { M.pwr with nrst := true } })

/-- NRST_RELEASE (R435): the sleep record is invalid, and the lane starts. -/
def execNrstRelease (l : LaneId) (s : State) : Host.Outcome State Fault Refusal :=
  if (s.lane l).pwr.nrst then
    .next ((s.laneStarted l).on l fun L =>
      let M : Lane := { L with
        pwr := { L.pwr with nrst := false }
        sleep := { L.sleep with valid := false, aoCount := 0 } }
      if M.pwr.vinOn then M.powerUp 1 else M)
  else .next s

/-- VIN_BELOW_POWER_ON (R511, R473, 17_diagnostics_and_kiln_log.md R482): the lane is held in reset, and the hold of
02_vote_cycle_and_fault_tolerance.md R72 ends with its count; records whose commit write had not completed are
lost (`written` tells), the others stay. (DEDUCED, log entry 74; DEDUCED, log entry 108) -/
def execVinBelowPowerOn (l : LaneId) (written aonLow : Bool) (s : State) : Host.Outcome State Fault Refusal :=
  .next (s.on l fun L =>
    if L.pwr.vinOn then
      let nv := if written then L.flog.nv else L.flog.nv.take (L.flog.nv.length - L.flog.lastFrozen)
      let M := L.heldReset
      let M : Lane := { M with
        vote := { M.vote with held := false, outs := [] }
        pwr := { M.pwr with vinOn := false, vaonOn := M.pwr.vaonOn && !aonLow }
        flog := { M.flog with ring := [], nv := nv, lastFrozen := 0 }
        sleep := { M.sleep with valid := M.sleep.valid && !aonLow } }
      M.coneCell
    else L)

/-! ### Wake sources (R442-R447) -/

/-- Bit of WAKE_EN of a source (12_dictionary_index.md Table 12.10). -/
def wakeBit : WakeSrc → Nat
  | .pin => 0 | .pattern => 1

/-- WAKE_EVENT (R442, R443, R446, R447): an enabled source wakes a lane in STANDBY, or meets an entry; the
pattern detectors are armed from the power-down phase on. (DEDUCED, log entry 62) -/
def execWakeEvent (l : LaneId) (src : WakeSrc) (s : State) : Host.Outcome State Fault Refusal :=
  let L := s.lane l
  let code : Byte := BitVec.ofNat 8 (2 ^ wakeBit src)
  if L.pwr.vinOn = false ∨ L.pwr.nrst ∨ bit (L.obj 0x2101 1) (wakeBit src) = false then .next s
  else if L.pwr.state = .standby then .next ((s.laneStarted l).on l fun L => L.wakeUp code)
  else if L.pwr.phase = 0 ∨ L.mem.testing ∨ (src = .pattern ∧ L.pwr.phase ≠ 4) then .next s
  else if L.pwr.phase = 4 ∧ L.pwr.asleep = false then .next s
  else .next (s.on l fun L => L.preEmpt code)

/-! ### Entry phases (R445-R447, 17_diagnostics_and_kiln_log.md R495) -/

/-- The save phase ends: an abandoned entry restarts from step 7, else the march over the memories begins. -/
def Lane.phase1End (L : Lane) : Lane :=
  let M := L.saveEnd
  if M.pwr.abandon ∧ M.mem.testing = false then M.restartAt 7 1 true false 0
  else { M with pwr := { M.pwr with phase := 2 }, mem := M.mem.march }

/-- The Wedge pass has written its record: calibration for STANDBY, power-down for OFF; an entry abandoned
after its last element restarts from step 5. -/
def Lane.phase2End (L : Lane) : Lane :=
  if L.mem.running ∨ L.mem.testing then L
  else if L.pwr.abandon then L.restartAt 5 1 true false L.mem.untested
  else { L with pwr := { L.pwr with phase := if L.pwr.toOff then 4 else 3 } }

/-- The calibration ends: the sleep record is latched (09_time_base_and_timed_actions.md R311), invalid while
the always-on oscillator is out of range (16_clocks_and_heat.md R459). -/
def Lane.phase3End (L : Lane) (r : PhaseReport) : Lane :=
  let M := L.advance r.te
  { M with
    sleep := { M.sleep with
      valid := !M.clk.aoBad, te := M.tb.ns, ce := r.ce % 2 ^ 56, ncal := r.ncal, unc := M.timeUnc, aoCount := r.ce % 2 ^ 56 }
    pwr := { M.pwr with phase := 4, asleep := true } }

/-- Power-down ends: OFF, or STANDBY, where a latched wake is replayed at once (Table 15.3, R441, R447). (DEDUCED, log entry 62) -/
def Lane.phase4End (L : Lane) : Lane :=
  if L.pwr.latched then L.wakeUp L.pwr.wakeSrc
  else if L.pwr.toOff then L.goOff
  else
    let M := (L.sbClose 6).loseTime.starsDown
    { M with
      pwr := { M.pwr with state := .standby, phase := 0, monUp := false, sbStb := true, announce := false }
      clk := { M.clk with xtalOk := false, coreLock := false, netLock := false }
      safe := { M.safe with sealOpen := false, openRun := 0, equalRun := 0 } }

/-- ENTRY_PHASE_END (R445). -/
def execEntryPhaseEnd (l : LaneId) (r : PhaseReport) (s : State) : Host.Outcome State Fault Refusal :=
  .next (s.on l fun L =>
    match L.pwr.phase with
    | 1 => L.phase1End
    | 2 => L.phase2End
    | 3 => L.phase3End r
    | 4 => L.phase4End
    | _ => L)

/-! ### Restore order: common (R448) -/

/-- Allotted time of the running step in ns (Table 15.4). -/
def Lane.stepNs (L : Lane) : Nat :=
  let full := L.pwr.kind == 0 || (L.pwr.kind == 2 && L.mem.owed != 0)
  match L.pwr.step with
  | 1 => 1000000
  | 2 => 5000000
  | 3 => 500000
  | 4 => 5000000
  | 5 => if full then 301000000 else 5000000 + 18500000 * popcount16 L.mem.owed
  | 6 => 60000000
  | 7 => 50000000
  | 8 => 20000000
  | _ => 0

/-- The lane's clocks at the end of the running step's allotment. -/
def Lane.allotted (L : Lane) : Lane :=
  let due := L.pwr.stepRef + L.stepNs
  let M := L.advance (L.tb.ns + (due - L.tb.mono))
  { M with pwr := { M.pwr with stepRef := max due L.tb.mono } }

/-- The lane stays at its step with a fault (R448, Table 15.6). (DEDUCED, log entry 64) -/
def Lane.stuck (L : Lane) (code : Nat) (detId : Nat := 0) : Lane :=
  let M := L.raise code 6 detId
  { M with pwr := { M.pwr with stuckAt := true } }

/-- The next step begins. -/
def Lane.toStep (L : Lane) (k : Nat) : Lane := { L with pwr := { L.pwr with step := k } }

/-- Codes of the start tests of a step (17_diagnostics_and_kiln_log.md Table 17.7, Table 17.10). -/
def startTests (step : Nat) : List Nat :=
  match step with
  | 1 => [0x1FDD, 0x8481]
  | 4 => [0x1FDA, 0x7006]
  | 8 => [0x1FDB, 0x7046, 0x6F89]
  | _ => []

/-! ### Steps 1-6 -/

/-- Step 1: a start with the Cone latch held ends here (16_clocks_and_heat.md R473). -/
def Lane.step1End (L : Lane) : Lane :=
  if L.therm.cone then { L with pwr := { L.pwr with stuckAt := true } } else L.toStep 2

/-- Step 2, the crystal. -/
def Lane.step2End (L : Lane) (done : Bool) : Lane :=
  if done then ({ L with clk := { L.clk with xtalOk := true } } : Lane).toStep 3 else L.stuck 0x1FD2

/-- Step 3, the PLLs. -/
def Lane.step3End (L : Lane) (done : Bool) : Lane :=
  if done then ({ L with clk := { L.clk with coreLock := true, netLock := true } } : Lane).toStep 4
  else L.stuck 0x1FD3

/-- Step 4, the logic rails. -/
def Lane.step4End (L : Lane) (done : Bool) : Lane := if done then L.toStep 5 else L.stuck 0x1FD4

/-- Rows marked by the scrubber enter the map; where an SRAM block has no spare left for them its group is recorded
as beyond repair (17_diagnostics_and_kiln_log.md R492, R494). (DEDUCED, log entry 107) -/
def Lane.mapMarked (L : Lane) : Lane :=
  let a := assignRows L.mem.spares L.mem.marked
  let full := (dedup (L.mem.marked.map (·.1))).filter fun blk =>
    16 < (sparesOf L.mem.spares blk).length +
      (dedup ((L.mem.marked.filter fun p => p.1 == blk).map (·.2))).length
  let gs := dedup (full.map groupOfBlock)
  let M : Lane := { L with
    mem := { L.mem with
      spares := a.1, marked := [], uncover := L.mem.uncover || a.2.2
      untested := gs.foldl (fun w g => w ||| BitVec.ofNat 16 (2 ^ g)) L.mem.untested }
    kiln := L.kiln.addRows a.2.1 }
  gs.foldl (fun J g => J.raise (0xB004 + 0x40 * g) 0) M

/-- Step 5: failing cells of the groups tested get spare rows, then the rows marked by the scrubber; a group still
beyond repair keeps the lane at the step (17_diagnostics_and_kiln_log.md R491, R492, R494). -/
def Lane.step5End (L : Lane) (done : Bool) (cells : List FailCell) : Lane :=
  let cs := cellsOnce (cells.filter fun c => L.mem.owed.getLsbD (groupOfBlock c.inst))
  let M := L.raiseCells cs
  let a := assignRows M.mem.spares (cs.map fun c => (c.inst, cellRow c))
  let M := ({ M with
    mem := { M.mem with spares := a.1, owed := 0 }
    kiln := M.kiln.addRows a.2.1 } : Lane).mapMarked
  if done && !a.2.2 then M.toStep 6 else M.stuck 0x1FD5

/-- The selection and check pins (13_safety_inputs_and_seal.md R405). -/
def Lane.takePins (L : Lane) (pins : Option (Nat × Nat)) : Lane :=
  match pins with
  | some (k, c) => { L with safe := { L.safe with setSel := k % 4, chkIn := c % 256, restored := false } }
  | none =>
    ({ L with safe := { L.safe with setSel := 0xFF, chkIn := 0, restored := false } } : Lane).raise 0x8404 0

/-- The selected set is restored, or the lane runs on the object defaults (13_safety_inputs_and_seal.md
R407). -/
def Lane.restoreSet (L : Lane) : Lane :=
  let rest := L.dict.working.filter fun p =>
    match findObj L.id (p.1 / 256) (p.1 % 256) with
    | some r => r.kept != .cfg
    | none => false
  let M : Lane := { L with dict := { L.dict with working := rest } }
  match (if L.safe.setSel < 4 then L.dict.sets[L.safe.setSel]? else none) with
  | none => M
  | some st =>
    if st.crc = 0 then M.raise 0x8405 0
    else if st.intact then
      { M with
        dict := { M.dict with working := st.vals.foldl (fun w p =>
            storePut w p.1 p.2 (objDefault L.id (p.1 / 256) (p.1 % 256))) rest }
        safe := { M.safe with restored := true } }
    else M.cfgFault 0xCFC1 0

/-- The schedule objects as the working values stand (08_tsuvas_network.md R258). -/
def Lane.loadSched (L : Lane) : Lane :=
  { L with net := { L.net with
      sched := L.dict.working.filter fun p => decide (0x480000 ≤ p.1) && decide (p.1 < 0x481800) } }

/-- Step 6: secure boot, pins, set, checks of the configuration (14_security.md R420, R407, R526). (DEDUCED, log entry 73; DEDUCED, log entry 76) -/
def Lane.step6End (L : Lane) (done : Bool) (pins : Option (Nat × Nat)) : Lane :=
  let L := ({ L with flog := { L.flog with cfg := [] } } : Lane).secureBoot
  if L.sec.bootOk = false ∨ done = false then { L with pwr := { L.pwr with stuckAt := true } }
  else
    let M := ((L.takePins pins).restoreSet).evalChk
    let M := if M.safe.restored && !M.safe.chkOk then M.raise 0x8403 0 else M
    (M.loadSched.checkAll).toStep 7

/-! ### Step 7: network integration -/

/-- The schedule is loaded and checked (08_tsuvas_network.md R258, R283): the node enters LISTEN, or stays in
HALT with a configuration fault. -/
def Lane.integrate (L : Lane) : Lane :=
  let L : Lane := { L with flog := { L.flog with cfg := L.flog.cfg.filter (· ≠ 0xCFCA) } }
  let M := L.loadSched
  let code := M.schedCode
  let M : Lane := { M with net := { M.net with schedStatus := code } }
  if code = 0 then M.listen else (M.cfgFault 0xCFCA 0 code).setNode .halt

/-- Stored contracts are admitted again in ascending number, each with its phase; one that fails a rule is
dropped (10_uplink_contracts_and_telemetry.md R330). (DEDUCED, log entry 66) -/
def Lane.readmit (L : Lane) : Lane :=
  L.ct.list.foldl (fun M c =>
    let d : Contract := { num := c.num, tag := c.tag, dir := c.dir, stamp := c.stamp, dest := c.dest, source := c.source
                          offset := c.offset, period := c.period, size := c.size, horizon := c.horizon
                          latBound := c.latBound, phase := c.phase }
    match M.placeContract d 0 with
    | .inl _ => { M with ct := M.ct.add d }
    | .inr reason => M.raise 0x4804 0 c.num reason) { L with ct := { L.ct with list := [] } }

/-- Network time after a sleep, and TIME_UNC (09_time_base_and_timed_actions.md R313); `cw` is the always-on
count at wake. (DEDUCED, log entry 68) -/
def Lane.afterSleep (L : Lane) (cw : Nat) : Nat × Nat :=
  let k := L.sleep
  let tcal : Rat := 50000000
  let dt : Rat := (((cw + 2 ^ 56 - k.ce) % 2 ^ 56 : Nat) : Rat) * tcal / (k.ncal : Rat)
  let unc : Rat := ((k.unc.getD (2 ^ 64 - 1) : Nat) : Rat) + tcal / (k.ncal : Rat) +
    (1 / (k.ncal : Rat) + (L.obj 0x2300 7 : Rat) / 1000000) * dt
  (k.te + (roundR dt).toNat, (roundR unc).toNat)

/-- Seeding from a valid sleep record, or from LAST_TIME with fault 0x5003 (R313). (DEDUCED, log entry 67) -/
def Lane.seedWake (L : Lane) (cw : Nat) : Lane :=
  if L.sleep.valid then
    let r := L.afterSleep cw
    let M := L.setTime r.1
    ({ M with tb := { M.tb with seedAo := true }, sleep := { M.sleep with valid := false } } : Lane).enterHoldover r.2
  else (L.setTime L.tb.lastTime).raise 0x5003 0

/-- The time base is seeded once, from the first source of R291 at hand; `unc` is a free value (log
entry 5). (DEDUCED, log entry 67) -/
def Lane.seedTime (L : Lane) (peer : Option (Nat × Lane)) (unc cw : Nat) : Lane :=
  let L : Lane := { L with sleep := { L.sleep with aoCount := cw % 2 ^ 56 } }
  if L.tb.seeded then L
  else
    let M := match peer with
      | some (t, src) => L.takePeerTime src t unc
      | none =>
        if L.obj 0x2301 7 = 1 ∧ L.upl.state = UState.synced then
          let M := L.setTime L.uplNow.toNat
          let M : Lane := { M with
            upl := { M.upl with offset := 0, updNs := M.tb.ns }
            tb := { M.tb with seedUpl := true } }
          M.validate false unc
        else if L.pwr.wakeSrc ≠ 0 ∧ L.pwr.kind ≠ 2 then L.seedWake cw
        else L.setTime L.tb.lastTime
    { M with tb := { M.tb with seeded := true } }

/-- The peer whose time step 7 reads: the first lane ACTIVE in its own cluster (08_tsuvas_network.md R267). -/
def State.seedPeer (s : State) (l : LaneId) (r : Option (Nat × Nat)) : Option (Nat × Lane) :=
  r.bind fun x =>
    if x.2 ≤ 20000 then
      (allLanes.find? fun p => p != l && (s.lane p).alive && (s.lane p).net.state == .active).map fun p =>
        (x.1 + x.2 / 2, s.lane p)
    else none

/-- Step 7: schedule, contracts, time base; the monitor releases the stop line for step 8 (R448, R536). (DEDUCED, log entry 73) -/
def Lane.step7End (L : Lane) (peer : Option (Nat × Lane)) (unc cw : Nat) : Lane :=
  let M := ((L.integrate).readmit).seedTime peer unc cw
  let M := M.toStep 8
  ({ M with
    pwr := { M.pwr with stopLine := false }
    dc := { M.dc with energy := M.dcReal 0x0F / 2 } } : Lane).settleAll

/-! ### Step 8: gate rail -/

/-- A bridge at the end of step 8: every output takes its initial drive strengths; a mapped one takes its own sensor, its
comparator test, a latch that survived (06_gate_drive_and_bridge_protection.md R189, R208, R211). -/
def Lane.bridgeStart (L : Lane) (fails : Oct Bool) (b : Fin 8) : Lane :=
  let a := L.obj (L.brIdx b 2) 7
  let k := L.obj (L.brIdx b 2) 8
  let g := { L.gates.get b with src := ⟨(a, a), (a, a), (a, a)⟩, snk := ⟨(k, k), (k, k), (k, k)⟩ }
  let L : Lane := { L with gates := L.gates.set b g }
  match L.actOf b with
  | none => L
  | some _ =>
    let f := { L.fes.get b with asrc := .sensor }
    let M : Lane := { L with fes := L.fes.set b f }
    let M := if fails.get b then M.isolate b (brCode b 8) else M
    if g.latch then M.isolateSet b (brCode b 0x0B) else M

/-- The chopper test of step 8 (07_dc_link_and_braking_energy.md R225): x_GCH has been on for 20 microseconds and is
off again; the three readings are checked in their order. -/
def Lane.chopStart (L : Lane) (i : Rat × Rat × Rat) : Lane :=
  if L.obj (L.dcIdx 0) 0x0B ≠ 1 then L
  else if L.dc.vdc < L.dcReal 9 then { L with dc := { L.dc with ctest := 3 } }
  else
    let a := L.chopVerdict true i.1
    let b := L.chopVerdict true i.2.1
    let c := L.chopVerdict false i.2.2
    L.chopTested (if a ≠ 0 then a else if b ≠ 0 then b else c)

/-- Step 8: the gate rail with the tests that need it; the stop line asserts as the step ends (R448, R536). A rail
that stays low is the fault 0x6FC1 and the lane-out of 06_gate_drive_and_bridge_protection.md R186 (R451). (DEDUCED, log entry 65) -/
def Lane.step8End (L : Lane) (r : StepReport) : Lane :=
  if r.done then
    let M : Lane := { L with pwr := { L.pwr with vgdOn := true, vgdBad := false } }
    let M := fin8.foldl (fun M b => M.bridgeStart r.bridgeFail b) M
    let M := (M.chopStart r.chopI).assertStop
    { M with pwr := { M.pwr with waitShadow := true } }
  else
    let M : Lane := { L with pwr := { L.pwr with vgdOn := true, vgdBad := true } }
    (M.laneOut 0x6FC1).assertStop

/-! ### The command -/

/-- A step ends with what it found; a failed start test keeps the lane at the step
(17_diagnostics_and_kiln_log.md R497). -/
def Lane.stepEnd (L : Lane) (r : StepReport) (peer : Option (Nat × Lane)) (unc : Nat) : Lane :=
  let k := L.pwr.step
  let L := L.allotted
  if r.latent ∈ startTests k then (if k = 8 then (L.stuck r.latent).assertStop else L.stuck r.latent)
  else match k with
    | 1 => L.step1End
    | 2 => L.step2End r.done
    | 3 => L.step3End r.done
    | 4 => L.step4End r.done
    | 5 => L.step5End r.done r.cells
    | 6 => L.step6End r.done r.pins
    | 7 => L.step7End peer unc r.aoCount
    | 8 => L.step8End r
    | _ => L

/-- The lane passes the restore order and has not stopped in it, by a fault of a step or by a lane-out
(16_clocks_and_heat.md R471). (DEDUCED, log entry 108) -/
def Lane.restoring (L : Lane) : Bool :=
  L.pwr.vinOn && !L.pwr.nrst && L.pwr.state == .starting && L.pwr.phase == 0 && !L.mem.testing &&
  !L.pwr.stuckAt && !L.pwr.waitShadow && !L.vote.outNow

/-- RESTORE_STEP_END (R448); before step 1 it stands for the supply that has come up (R435). -/
def execRestoreStepEnd (l : LaneId) (r : StepReport) (s : State) : Host.Outcome State Fault Refusal :=
  let L := s.lane l
  if L.restoring = false then .next s
  else if L.pwr.step = 0 then .next ((s.laneStarted l).on l fun L => L.powerUp 1)
  else if L.pwr.step = 7 then
    let unc := (roundR (Config.free 292 s.freeCtr)).toNat
    let peer := s.seedPeer l r.peerTime
    let t := (s.laneStarted l).on l fun L => L.stepEnd r peer unc
    .next { t with freeCtr := s.freeCtr + 1 }
  else .next (s.on l fun L => L.stepEnd r none 0)

end Sys2Proof.Machine
end

