-- ==== Sys2Proof/Machine/Dict.lean ====
section
/-! DEFINITION. The dictionary server: reads, segmented transfers, writes of every object, peer and supervisory
reads, side-band writes, result objects, program download, the DS2 window (chapter 11, 12_dictionary_index.md
R377-R382, 13_safety_inputs_and_seal.md R408-R411, 14_security.md R423-R425). -/

namespace Sys2Proof.Machine

/-! ### Result objects (R367-R369) -/

/-- Index of a result object in a lane. -/
def Lane.resultIdx (L : Lane) : ResultKind → Nat
  | .ta => 0x2310 | .ct => 0x4A01 | .selftest b => L.brIdx b 3 | .prog => 0x1F5A | .mem => 0x5200

/-- The result objects an index of the lane holds. -/
def Lane.resultAt (L : Lane) (idx : Nat) : Option ResultKind :=
  if idx = 0x2310 then some .ta
  else if idx = 0x4A01 then some .ct
  else if idx = 0x1F5A then some .prog
  else if idx = 0x5200 then some .mem
  else if baseIdx L.id idx = some 0x3003 then some (.selftest ⟨idx % 0x200 / 0x40 % 8, Nat.mod_lt _ (by decide)⟩)
  else none

/-- Subindex of a master's copy; readers without one have none (R374). -/
def resultSub : Master → Nat
  | .host => 0x10 | .sideBand => 0x11 | .peer => 0x12 | .supervisory => 0x13

/-- The three copies of a result object changed. -/
def Lane.onResult (L : Lane) (k : ResultKind) (f : Res3 → Res3) : Lane :=
  match k with
  | .ta => { L with ta := { L.ta with result := f L.ta.result } }
  | .ct => { L with ct := { L.ct with result := f L.ct.result } }
  | .selftest b =>
    let g := L.gates.get b
    { L with gates := L.gates.set b { g with result := f g.result } }
  | .prog => { L with dict := { L.dict with progRes := f L.dict.progRes } }
  | .mem => { L with mem := { L.mem with result := f L.mem.result } }

/-- The owning master's read of a ready or failed result consumes it (R368). -/
def Lane.consumeRead (L : Lane) (m : Master) (idx sub : Nat) : Lane :=
  match L.resultAt idx with
  | some k => if sub = resultSub m then L.onResult k fun r => r.consume m else L
  | none => L

/-! ### Reads (R352, R357) -/

/-- PEND: the lane holds an open commit of the object, or one that succeeded and is not yet in force (R352). -/
def Lane.pendOf (L : Lane) (idx sub : Nat) : Bool :=
  L.dict.known.any fun c => c.decided != some false && c.items.any fun i => i.idx == idx && i.sub == sub

/-- A read response with its data at an offset of a value of `total` bytes (R356). -/
def Lane.answerData (L : Lane) (m : Master) (tid idx sub ofs total : Nat) (data : List Byte) (last : Bool) : Lane :=
  L.answerWith { m := m, tid := tid, idx := idx, sub := sub, data := data, pend := L.pendOf idx sub, last := last
                 op := 1, ofs := ofs, total := total }

/-- The snapshot of a TID ends, its transaction closes. -/
def Dict.dropSnap (d : Dict) (m : Master) (key : Nat) : Dict :=
  if d.snaps.any fun x => x.m == m && x.tid == key then
    { d.closeTxn m with snaps := d.snaps.filter fun x => !(x.m == m && x.tid == key) }
  else d

/-- A read with OFFSET 0: a snapshot of the whole value, kept while more of it is to be read (R357); `value` is
what the read returns. -/
def Lane.readFirst (L : Lane) (m : Master) (tid key idx sub len : Nat) (value : List Byte) : Lane :=
  let L : Lane := { L with dict := L.dict.dropSnap m key }
  match L.readErr m idx sub with
  | some e => L.answer m tid idx sub e
  | none =>
    if value.length ≤ len then (L.answerData m tid idx sub 0 value.length value true).consumeRead m idx sub
    else
      let x : Snapshot := { m := m, tid := key, idx := idx, sub := sub, data := value }
      ({ L with dict := { L.dict.openTxn m with snaps := L.dict.snaps ++ [x] } } : Lane).answerData m tid idx sub
        0 value.length (value.take len) false

/-- A later read of a snapshot (R357); one that has lapsed fails with 0x05040000. -/
def Lane.readNext (L : Lane) (m : Master) (tid key idx sub ofs len : Nat) : Lane :=
  match L.dict.snaps.find? fun x => x.m == m && x.tid == key with
  | none => L.answer m tid idx sub eTimeout
  | some x =>
    let rest := x.data.drop ofs
    if rest.length ≤ len then
      ({ L with dict := L.dict.dropSnap m key } : Lane).answerData m tid idx sub ofs x.data.length rest true
    else L.answerData m tid idx sub ofs x.data.length (rest.take len) false

/-- A read request of a master, its values taken from `P` (R357, R365). -/
def Lane.serveRead (L P : Lane) (m : Master) (tid key idx sub ofs len : Nat) : Lane :=
  if L.reaches m = false then L
  else
    let L := if m = .sideBand then L.sbWake else L
    if ofs = 0 then L.readFirst m tid key idx sub len (P.readValue idx sub)
    else L.readNext m tid key idx sub ofs len

/-- A read of one of the two challenges draws it afresh (R362, 14_security.md R430). -/
def Lane.readDraw (L : Lane) (m : Master) (tid key idx sub len : Nat) (c : W64) : Lane :=
  if L.reaches m = false then L
  else
    let L := if m = .sideBand then L.sbWake else L
    let L := if (L.readErr m idx sub).isSome then L
      else if idx = 0x2510 then ({ L with sb := { L.sb with challenge := some c } } : Lane)
      else { L with sec := { L.sec with dbgChallenge := some c } }
    L.readFirst m tid key idx sub len (if idx = 0x2510 then toBytes 8 c.toNat else L.dbgBytes c)

/-- A read request at lane `l`. (DEDUCED, log entry 57) -/
def State.serveRead (s : State) (l : LaneId) (m : Master) (tid key idx sub ofs len : Nat) : State :=
  if ofs = 0 ∧ sub = 1 ∧ (idx = 0x2510 ∨ idx = 0x2501) then
    s.drawn.on l fun L => L.readDraw m tid key idx sub len (Config.draw s.freeCtr)
  else
    s.on l fun L => L.serveRead (if m = .supervisory then (s.pub.get l).getD L else L) m tid key idx sub ofs len

/-- TRANSFER_READ (R357). -/
def execTransferRead (l : LaneId) (m : Master) (tid idx sub ofs len : Nat) (s : State) :
    Host.Outcome State Fault Refusal :=
  .next (s.serveRead l m tid tid idx sub ofs len)

/-- RESULT_READ (R368): a read of the copy of master `own`. -/
def execResultRead (l : LaneId) (m : Master) (tid : Nat) (k : ResultKind) (own : Master) (s : State) :
    Host.Outcome State Fault Refusal :=
  .next (s.serveRead l m tid tid ((s.lane l).resultIdx k) (resultSub own) 0 4)

/-- Messages of the reply datagram so far (R365). -/
def Lane.supSoFar (L : Lane) : List Byte := (L.ct.replied.map (·.dg.payload)).getD []

/-- The response joins the one datagram that answers the messages of the datagram asked, to its sender's address and
port (R365, 10_uplink_contracts_and_telemetry.md R319). -/
def Lane.supReply (L : Lane) : Lane :=
  match L.ct.asked, L.dict.resp with
  | some q, some r =>
    let d : Datagram :=
      { v6 := q.v6, mac := q.mac, src := q.dst, dst := q.src, sport := q.dport, dport := q.sport
        payload := L.supSoFar ++ r.message }
    { L with ct := { L.ct with replied := some (L.lowFrame d) } }
  | _, _ => L

/-- SUPERVISORY_READ (R365): served from the published copy, as much as a datagram of 1,400 bytes holds; any message but
READ is refused. (DEDUCED, log entry 57) -/
def execSupervisoryRead (l : LaneId) (tid idx sub ofs len op : Nat) (s : State) :
    Host.Outcome State Fault Refusal :=
  let L := s.lane l
  if L.reaches .supervisory = false ∨ L.upl.link = false ∨ L.lptOn 16 then .next s
  else
    let t :=
      if op = 1 then s.serveRead l .supervisory tid tid idx sub ofs (min len (1384 - L.supSoFar.length))
      else s.on l fun L => L.answer .supervisory tid idx sub (if op = 2 ∨ op = 3 then eAccess else eOrder)
    .next (t.on l Lane.supReply)

/-- PEER_READ (R19, R366), over the slip link in use between the two lanes or the third lane's relay. (DEDUCED, log entry 57) -/
def execPeerRead (l : LaneId) (msg : SlipMsg) (tid idx sub ofs len : Nat) (s : State) :
    Host.Outcome State Fault Refusal :=
  let src := msg.src
  match s.via l src with
  | some v =>
    if (s.lane src).alive ∧ (s.lane l).alive then
      if msg.crcOk then .next (s.serveRead l .peer tid (tid + 256 * (1 + src.num)) idx sub ofs len)
      else .next (s.on l fun L => L.badMessage v)
    else .next s
  | none => .next s

/-- SNAPSHOT_LAPSE (R357): 100 ms without a request on the TID. -/
def execSnapshotLapse (l : LaneId) (m : Master) (tid : Nat) (s : State) : Host.Outcome State Fault Refusal :=
  .next (s.on l fun L => { L with dict := L.dict.dropSnap m tid })

/-! ### Segmented writes (R358) -/

/-- The buffer of a TID. -/
def Dict.bufOf (d : Dict) (m : Master) (tid : Nat) : Option WriteBuf :=
  d.wbufs.find? fun x => x.m == m && x.tid == tid

/-- A segment continues its buffer: same object and total, contiguous offset (R358). -/
def WriteBuf.fits (x : WriteBuf) (idx sub ofs total : Nat) : Bool :=
  x.idx == idx && x.sub == sub && x.total == total && x.data.length == ofs

/-- A segment without LAST (R358): buffered, its order checked and nothing else. (DEDUCED, log entry 52) -/
def Lane.takeSegment (L : Lane) (m : Master) (tid idx sub ofs total : Nat) (data : List Byte) : Lane :=
  if m = .supervisory ∨ m = .peer then L.answer m tid idx sub eAccess
  else if total ≤ ofs + data.length then L.segFail m tid idx sub eOrder
  else if ofs = 0 then
    let L : Lane := { L with dict := L.dict.dropBuf m tid }
    if L.txnFull m then L.answer m tid idx sub eBusy
    else
      let x : WriteBuf := { m := m, tid := tid, idx := idx, sub := sub, total := total, data := data }
      ({ L with dict := { L.dict.openTxn m with wbufs := L.dict.wbufs ++ [x] } } : Lane).answer m tid idx sub 0
  else match L.dict.bufOf m tid with
    | none => L.answer m tid idx sub eOrder
    | some x =>
      if x.fits idx sub ofs total then
        let add := fun y : WriteBuf => if y.m == m && y.tid == tid then { y with data := y.data ++ data } else y
        ({ L with dict := { L.dict with wbufs := L.dict.wbufs.map add } } : Lane).answer m tid idx sub 0
      else L.segFail m tid idx sub eOrder

/-- TRANSFER_WRITE_SEGMENT (R358). -/
def execTransferWriteSegment (l : LaneId) (m : Master) (tid idx sub ofs total : Nat) (data : List Byte)
    (s : State) : Host.Outcome State Fault Refusal :=
  .next (s.on l fun L =>
    if L.reaches m then
      (if m = .sideBand then L.sbWake else L).takeSegment m tid idx sub ofs total data
    else L)

/-- TRANSFER_ABORT (R358): no response. -/
def execTransferAbort (l : LaneId) (m : Master) (tid : Nat) (s : State) : Host.Outcome State Fault Refusal :=
  .next (s.on l fun L =>
    if m = .supervisory ∨ m = .peer then L.answer m tid 0 0 eAccess
    else { L with dict := (L.dict.dropSnap m tid).dropBuf m tid })

/-- SEGMENT_TIMEOUT (R358): the gap fails the transaction; a submission that lapses so leaves its result failed
(R368). (DEDUCED, log entry 53) -/
def execSegmentTimeout (l : LaneId) (m : Master) (tid : Nat) (s : State) : Host.Outcome State Fault Refusal :=
  .next (s.on l fun L =>
    match L.dict.bufOf m tid with
    | none => L
    | some x =>
      let M := L.segFail m tid x.idx x.sub eTimeout
      let fail := fun r : Res3 => r.set m { r.get m with state := .failed }
      if x.sub = 1 ∧ x.idx = 0x2310 ∧ !L.ta.result.busy m then M.onResult .ta fail
      else if x.sub = 1 ∧ x.idx = 0x4A01 ∧ !L.ct.result.busy m then M.onResult .ct fail
      else M)

/-! ### Writes of plain objects (R347, R348) -/

/-- The target of the DS2 window may be any RWS object but DS2_MODE and DS2_PW_HASH (R410). -/
def Lane.windowOk (L : Lane) (raw : Nat) : Bool :=
  let idx := bits raw 16 16
  let sub := bits raw 8 8
  (match findObj L.id idx sub with
   | some r => r.acc == .rws
   | none => false) && !(idx == 0x2405 && (sub == 1 || sub == 6))

/-- A telemetry item names an object of at most 4 bytes that every master may read
(10_uplink_contracts_and_telemetry.md R332). -/
def Lane.itemOk (L : Lane) (raw : Nat) : Bool :=
  match findObj L.id (bits raw 16 16) (bits raw 8 8) with
  | some r => r.acc != .wo && (match r.ty.size with
    | some n => decide (n ≤ 4)
    | none => false)
  | none => false

/-- The part of an object's range that names other objects. -/
def Lane.namesErr (L : Lane) (idx sub raw : Nat) : Option W32 :=
  if raw = 0 then none
  else if idx = 0x2405 ∧ sub = 3 then (if L.windowOk raw then none else some eRange)
  else if 0x4B10 ≤ idx ∧ idx < 0x4B20 then (if L.itemOk raw then none else some eRange)
  else none

/-- The present-state condition of objects without a command of their own: ITEM of a set that an admitted
contract uses is refused (10_uplink_contracts_and_telemetry.md R332), and the carrier of an actuator whose bridge is not
DISABLED (04_field_engines.md R122). (DEDUCED, log entry 102) -/
def Lane.plainNow (L : Lane) (idx sub : Nat) : Bool :=
  L.carrierFree idx sub && !(decide (0x4B10 ≤ idx) && decide (idx < 0x4B20) &&
    L.ct.list.any fun c => c.dir == 0 && c.source == idx - 0x4B10)

/-- All checks of a write of a plain object. -/
def Lane.plainErr (L : Lane) (m : Master) (idx sub : Nat) (data : List Byte) (window : Bool) : Option W32 :=
  match L.writeErr m idx sub data (L.plainNow idx sub) window with
  | some e => some e
  | none => L.namesErr idx sub (ofBytes data)

/-- A value enters the lane: stored, acted on, its checks run (R347, R348); INC_LEARNED feeds the time base, and
changes of DS2_MODE and DS2_PW_HASH enter the change log (13_safety_inputs_and_seal.md R409, R411). -/
def Lane.storeLocal (L : Lane) (m : Master) (idx sub raw : Nat) : Lane :=
  let old := L.obj idx sub
  let M := (L.holdDead idx sub).storeObj idx sub raw
  let M :=
    if idx = 0x2300 ∧ sub = 5 then
      ({ M with tb := { M.tb with incLearned := raw, learnPpm := M.clk.xtalPpm } } : Lane)
    else if idx = 0x2405 ∧ sub = 1 then
      let N : Lane := if raw = 0 then { M with ds2 := { M.ds2 with unlockHost := false, unlockSb := false } } else M
      if old = raw then N else N.logChange 3 m idx sub 1 old raw N.recTime
    else if idx = 0x2405 ∧ sub = 6 ∧ old ≠ raw then
      M.logChange 4 m idx sub 8 (old % 2 ^ 32) (raw % 2 ^ 32) M.recTime
    else M
  M.afterWrite idx sub

/-- A complete write of a plain object: module-wide ones become a commit (R347, R349). -/
def Lane.plainWrite (L : Lane) (m : Master) (tid idx sub : Nat) (data : List Byte) (g : Option Nat) : Lane :=
  match L.plainErr m idx sub data false with
  | some e => (L.failGroup m g).answer m tid idx sub e
  | none =>
    if isWide idx sub then (L.sbCount m idx).prepare m tid idx sub (ofBytes data) g false
    else ((L.sbCount m idx).storeLocal m idx sub (ofBytes data)).answer m tid idx sub 0

/-! ### W1C flags (00_scope.md R12) -/

/-- Bits a W1C write clears: those written 1 without an event in this vote cycle. -/
def w1cMask {w : Nat} (v now : BitVec w) : BitVec w := ~~~(v &&& ~~~now)

/-- FAULT_SEEN_CLEAR (12_dictionary_index.md R382). -/
def execFaultSeenClear (l : LaneId) (m : Master) (tid : Nat) (data : List Byte) (s : State) :
    Host.Outcome State Fault Refusal :=
  .next (s.on l fun L => L.write m tid 0x2001 3 data true fun K =>
    { K with flog := { K.flog with
        seen := K.flog.seen &&& w1cMask (BitVec.ofNat 16 (ofBytes data)) K.flog.seenNow } })

/-- A write of UPL_STATUS (09_time_base_and_timed_actions.md Table 9.14). -/
def Lane.uplStatusWrite (L : Lane) (m : Master) (tid : Nat) (data : List Byte) : Lane :=
  L.write m tid 0x2302 1 data true fun K =>
    let keep := w1cMask (BitVec.ofNat 16 (ofBytes data)) K.upl.w1cNow
    { K with upl := { K.upl with
        gmChanged := K.upl.gmChanged && keep.getLsbD 3
        stepRefused := K.upl.stepRefused && keep.getLsbD 4
        stepTaken := K.upl.stepTaken && keep.getLsbD 5 } }

/-- A write of TSQ_STATUS of a queue (Table 9.15). -/
def Lane.tsqStatusWrite (L : Lane) (m : Master) (tid : Nat) (q : TsqId) (data : List Byte) : Lane :=
  L.write m tid (tsqIdx q) 3 data true fun K =>
    let c := K.tsq.get q
    { K with tsq := K.tsq.set q { c with ovf := c.ovf && (!(bit (ofBytes data) 8) || c.ovfNow) } }

/-! ### Program download (12_dictionary_index.md R377, R378, 14_security.md R423-R425) -/

/-- One PROGRAM_DATA subindex. -/
def Dict.stage (d : Dict) (k : Fin 5) : Staging := (d.staging[k.val]?).getD {}

/-- One PROGRAM_DATA subindex replaced. -/
def Lane.setStage (L : Lane) (k : Fin 5) (g : Staging) : Lane :=
  { L with dict := { L.dict with staging := listSet L.dict.staging k.val g } }

/-- Largest image of a subindex in bytes (Table 12.2). -/
def imageMax (k : Fin 5) : Nat := if k.val = 0 then 4194304 else 262144

/-! #### What the bytes of an image say (14_security.md R423) -/

/-- A field of an image header, n bytes from byte k (Table 14.4). -/
def imgField (img : List Byte) (k n : Nat) : Nat := ofBytes ((img.drop k).take n)

/-- LENGTH of an image's body. -/
def imgLen (img : List Byte) : Nat := imgField img 24 4

/-- The body of an image. -/
def imgBody (img : List Byte) : List Byte := (img.drop 128).take (imgLen img)

/-- MAGIC, KIND and FORMAT match the subindex, LENGTH the staged size (R424, check 1); 64 bytes of public key follow a
firmware body. -/
def imgKindOk (k : Fin 5) (img : List Byte) : Bool :=
  let fw := k.val = 0
  img.take 4 == (if fw then [0x44, 0x54, 0x33, 0x46] else [0x43, 0x48, 0x4D, 0x54]) &&
  imgField img 4 1 == (if fw then 1 else 2) && imgField img 5 1 == 1 &&
  img.length == 128 + imgLen img + (if fw then 64 else 0)

/-- The key is verified, the signature over bytes 0-63 verifies and DIGEST matches (R420, R424, check 2): Everaty's key
stands after a firmware body and must have the factory hash; slot 11 holds the key of configuration. -/
def Lane.imgSigOk (L : Lane) (k : Fin 5) (img : List Byte) : Bool :=
  let key := if k.val = 0 then img.drop (128 + imgLen img) else (L.sec.keys[11]?).getD []
  (if k.val = 0 then sha256 key == L.sec.fwHash.toNat else L.keyOk 11) &&
  ecdsaOk key ((img.drop 64).take 64) (sha256 (img.take 64)) &&
  sha256 (imgBody img) == be32At img 32

/-- The records of a configuration body, at most n of them: index, subindex and value; none where one is cut short. -/
def imgRecords : Nat → List Byte → Option (List (Nat × Nat × List Byte))
  | 0, b => if b.isEmpty then some [] else none
  | n + 1, b =>
    if b.isEmpty then some []
    else
      let len := ofBytes ((b.drop 3).take 2)
      if b.length < 5 + len then none
      else (imgRecords n (b.drop (5 + len))).map fun t =>
        (ofBytes (b.take 2), ofBytes ((b.drop 2).take 1), (b.drop 5).take len) :: t

/-- Every record names a set-kept object that the lane serves with a value in its range (R424, check 3). -/
def Lane.recordsOk (L : Lane) (rs : List (Nat × Nat × List Byte)) : Bool :=
  rs.all fun r => match findObj L.id r.1 r.2.1 with
    | some o => o.kept == .cfg && r.2.2.length == (o.ty.size).getD 0 && (rangeErr o.rng r.2.1 (ofBytes r.2.2)).isNone
    | none => false

/-- The stored values that a configuration body yields: an object it omits has its default (R423). -/
def Lane.recordVals (L : Lane) (rs : List (Nat × Nat × List Byte)) : Store :=
  rs.foldl (fun w r => storePut w (okey r.1 r.2.1) (ofBytes r.2.2) (objDefault L.id r.1 r.2.1)) []

/-- The CRC of R406 over the values that a body yields. -/
def Lane.valsCrc (L : Lane) (vals : Store) : Nat :=
  ({ L with dict := { L.dict with working := vals, held := [] } } : Lane).setCrc

/-- SERIAL and LANE name the lane, and its records are valid (R424, check 3). -/
def Lane.imgNames (L : Lane) (img : List Byte) : Bool :=
  imgField img 16 4 == Config.serial.toNat && imgField img 20 1 == L.id.num &&
  (match imgRecords img.length (imgBody img) with
   | some rs => L.recordsOk rs
   | none => false)

/-- The values of a configuration image. -/
def Lane.imgVals (L : Lane) (img : List Byte) : Store :=
  L.recordVals ((imgRecords img.length (imgBody img)).getD [])

/-! #### Staging and installation -/

/-- PROGRAM_STAGE (R377, R358): the segment with LAST completes what is buffered under its TID, and the complete image
replaces any image staged earlier; one whose end is not its ARG, or whose ARG is not that of the segments before, fails
its order. (DEDUCED, log entry 56) -/
def execProgramStage (l : LaneId) (m : Master) (tid : Nat) (k : Fin 5) (total : Nat) (data : List Byte) (s : State) :
    Host.Outcome State Fault Refusal :=
  .next (s.on l fun L =>
    if L.reaches m = false then L
    else
      let buf := (L.dict.bufOf m tid).filter fun x => x.idx == 0x1F50 && x.sub == k.val + 1
      let img := ((buf.map fun x => x.data).getD []) ++ data
      if m ≠ .supervisory ∧ m ≠ .peer ∧ (img.length ≠ total ∨ (buf.any fun x => x.total != total)) then
        L.segFail m tid 0x1F50 (k.val + 1) eOrder
      else
        let L : Lane := { L with dict := L.dict.dropBuf m tid }
        match L.writeErr m 0x1F50 (k.val + 1) [] true false with
        | some e => L.answer m tid 0x1F50 (k.val + 1) e
        | none =>
          if imageMax k < img.length then L.answer m tid 0x1F50 (k.val + 1) eAbove
          else
            let M := L.sbCount m 0x1F50
            (M.setStage k { M.dict.stage k with image := some img, installed := false }).answer m tid 0x1F50
              (k.val + 1) 0)

/-- The OUTCOME of an installation as its checks decide it, 0 where it goes on (Table 12.4, R378, R424). (DEDUCED, log entry 56) -/
def Lane.installCheck (L : Lane) (k : Fin 5) : Nat :=
  match (L.dict.stage k).image with
  | none => 4
  | some i =>
    if k.val ≠ 0 ∧ L.pwr.state = .run ∧ L.safe.setSel = k.val - 1 then 5
    else if imgKindOk k i = false then 2
    else if L.imgSigOk k i = false then 1
    else if k.val ≠ 0 ∧ L.imgNames i = false then 2
    else if k.val ≠ 0 ∧ L.valsCrc (L.imgVals i) ≠ imgField i 28 4 then 1
    else if k.val = 0 ∧ imgField i 8 4 < L.sec.minFw.toNat then 3
    else 0

/-- PROGRAM_INSTALL (R377, R424): a check that fails ends the installation at once. (DEDUCED, log entry 56) -/
def execProgramInstall (l : LaneId) (m : Master) (tid : Nat) (k : Fin 5) (s : State) :
    Host.Outcome State Fault Refusal :=
  .next (s.on l fun L =>
    match L.writeErr m 0x1F51 (k.val + 1) [1] true false with
    | some e => L.answer m tid 0x1F51 (k.val + 1) e
    | none =>
      if L.dict.progRes.busy m || (L.dict.stage k).busy.isSome then L.answer m tid 0x1F51 (k.val + 1) eBusy
      else
        let out := L.installCheck k
        let M := ((L.sbCount m 0x1F51).onResult .prog fun r => r.start m).answer m tid 0x1F51 (k.val + 1) 0
        if out = 0 then M.setStage k { M.dict.stage k with busy := (M.dict.stage k).image, busyBy := m }
        else (M.onResult .prog fun r => r.finish m (BitVec.ofNat 12 (out * 256))).raise (0x9040 + out) 0)

/-- What an installation leaves: a firmware bank, marked active, or a stored set (R378, R425). -/
def Lane.installed (L : Lane) (k : Fin 5) (i : List Byte) : Lane :=
  if k.val = 0 then
    let b : Bank :=
      { ok := true, version := BitVec.ofNat 32 (imgField i 8 4), floor := BitVec.ofNat 32 (imgField i 12 4)
        crc := BitVec.ofNat 32 (crc32 i) }
    if L.sec.active = 0 then { L with sec := { L.sec with bank1 := b, active := 1 } }
    else { L with sec := { L.sec with bank0 := b, active := 0 } }
  else
    let st : StoredSet := { vals := L.imgVals i, crc := BitVec.ofNat 32 (imgField i 28 4), intact := true }
    let M : Lane := { L with dict := { L.dict with sets := listSet L.dict.sets (k.val - 1) st } }
    if L.safe.setSel = k.val - 1 then M.evalChk else M

/-- PROGRAM_INSTALL_COMPLETE (R425). -/
def execProgramInstallComplete (l : LaneId) (k : Fin 5) (s : State) : Host.Outcome State Fault Refusal :=
  .next (s.on l fun L =>
    let g := L.dict.stage k
    match g.busy with
    | none => L
    | some i =>
      let M := L.installed k i
      let M := M.setStage k { g with busy := none, id := BitVec.ofNat 32 (crc32 i), installed := g.installed || g.image == some i }
      (M.onResult .prog fun r => r.finish g.busyBy 0).raise 0x9046 0)

/-- PROGRAM_DISCARD (R377): a staged image that has not been installed is discarded. -/
def execProgramDiscard (l : LaneId) (m : Master) (tid : Nat) (k : Fin 5) (s : State) :
    Host.Outcome State Fault Refusal :=
  .next (s.on l fun L => L.write m tid 0x1F51 (k.val + 1) [3] true fun K =>
    let g := K.dict.stage k
    if g.installed then K else K.setStage k { g with image := none })

/-! ### The DS2 window (13_safety_inputs_and_seal.md R410, R411) -/

/-- A write of DS2_VALUE (R410): a write of the target by the RWP condition; a local one enters the change log at
once, a module-wide one when it comes into force. -/
def Lane.windowWrite (L : Lane) (m : Master) (tid : Nat) (data : List Byte) (g : Option Nat) : Lane :=
  let t := L.obj 0x2405 3
  let idx := bits t 16 16
  let sub := bits t 8 8
  match L.writeErr m 0x2405 4 data (t != 0) false with
  | some e => (L.failGroup m g).answer m tid 0x2405 4 e
  | none =>
    match L.plainErr m idx sub data true with
    | some e => (L.failGroup m g).answer m tid 0x2405 4 e
    | none =>
      let M := L.sbCount m 0x2405
      if isWide idx sub then M.prepare m tid idx sub (ofBytes data) g true
      else
        let old := M.obj idx sub
        let N := M.storeLocal m idx sub (ofBytes data)
        (N.logChange 1 m idx sub data.length (old % 2 ^ 32) (ofBytes data % 2 ^ 32) N.recTime).answer m tid
          0x2405 4 0

/-- DS2_VALUE (R410). (DEDUCED, log entry 59) -/
def execDs2Value (l : LaneId) (m : Master) (tid : Nat) (data : List Byte) (grp : Option (Fin 16)) (s : State) :
    Host.Outcome State Fault Refusal :=
  .next (s.on l fun L => L.windowWrite m tid data (grp.map (·.val)))

/-! ### A complete write of any object -/

/-- The state a meaning leads to. -/
def State.after (s : State) : Host.Outcome State Fault Refusal → State
  | .next t => t
  | .fault _ => s
  | .refused _ => s

/-- Queue of an index (Table 9.12). -/
def tsqOf (idx : Nat) : TsqId := if idx = 0x2330 then .x else if idx = 0x2331 then .y else .u

/-- Bridge of an index of the lane. -/
def bridgeOfIdx (idx : Nat) : Fin 8 := ⟨idx % 0x200 / 0x40 % 8, Nat.mod_lt _ (by decide)⟩

/-- A write of PWR_REQ (15_power_states_and_startup.md R436). -/
def Lane.powerBytes (L : Lane) (m : Master) (tid : Nat) (data : List Byte) : Lane :=
  match L.writeErr m 0x2100 2 data true false with
  | some e => L.answer m tid 0x2100 2 e
  | none => L.powerWrite m tid (ofBytes data)

/-- A write of PROGRAM_CONTROL (12_dictionary_index.md Table 12.2). -/
def State.programControl (s : State) (l : LaneId) (m : Master) (tid : Nat) (k : Fin 5) (data : List Byte) : State :=
  if data = [1] then s.after (execProgramInstall l m tid k s)
  else if data = [3] then s.after (execProgramDiscard l m tid k s)
  else s.on l fun L => L.answer m tid 0x1F51 (k.val + 1)
    ((L.writeErr m 0x1F51 (k.val + 1) data true false).getD eRange)

/-- Writes below 0x2400 whose object has an action of its own. (DEDUCED, log entry 58; DEDUCED, log entry 60) -/
def State.writeLow (s : State) (l : LaneId) (m : Master) (tid idx sub : Nat) (data : List Byte) (e : WriteEnv) :
    Option State :=
  let k : Fin 5 := ⟨(sub - 1) % 5, Nat.mod_lt _ (by decide)⟩
  match idx, sub with
  | 0x2001, 3 => some (s.after (execFaultSeenClear l m tid data s))
  | 0x2100, 2 => some (s.on l fun L => L.powerBytes m tid data)
  | 0x2302, 1 => some (s.on l fun L => L.uplStatusWrite m tid data)
  | 0x2303, 1 => some (s.after (execStepAccept l m tid data s))
  | 0x2310, 1 => some (s.after (execTaSubmit l m tid data e.lineNs s))
  | 0x2310, 2 => some (s.after (execTaCancel l m tid data s))
  | i, j =>
    if i = 0x1F50 ∧ 1 ≤ j ∧ j ≤ 5 then some (s.after (execProgramStage l m tid k data.length data s))
    else if i = 0x1F51 ∧ 1 ≤ j ∧ j ≤ 5 then some (s.programControl l m tid k data)
    else if 0x2330 ≤ i ∧ i ≤ 0x2332 ∧ j = 2 then some (s.after (execTsqPop l m tid (tsqOf i) data s))
    else if 0x2330 ≤ i ∧ i ≤ 0x2332 ∧ j = 3 then some (s.on l fun L => L.tsqStatusWrite m tid (tsqOf i) data)
    else none

/-- Writes from 0x2400 on whose object has an action of its own. (DEDUCED, log entry 58; DEDUCED, log entry 61) -/
def State.writeHigh (s : State) (l : LaneId) (m : Master) (tid idx sub : Nat) (data : List Byte)
    (g : Option Nat) (e : WriteEnv) : Option State :=
  match idx, sub with
  | 0x2404, 5 => some (s.after (execSetStore l m tid data s))
  | 0x2405, 2 => some (s.after (execDs2Password l m tid data.length data s))
  | 0x2405, 4 => some (s.on l fun L => L.windowWrite m tid data g)
  | 0x2405, 5 => some (s.after (execDs2Store l m tid data s))
  | 0x2405, 8 => some (s.after (execDs2Lock l m tid data s))
  | 0x2501, 2 => some (s.after (execDbgResponse l m tid (data.take 32) (data.drop 32) s))
  | 0x2502, 1 => some (s.after (execKeyRevoke l m tid data s))
  | 0x2510, 4 => some (s.after (execSbClose l m tid data s))
  | 0x2602, 1 => some (s.after (execReintRelease l m tid data s))
  | 0x4300, 9 => some (s.on l fun L => L.writeWide m tid 0x4300 9 data L.vote.lastRelOk g false)
  | 0x4A01, 1 => some (s.after (execCtSubmit l m tid data s))
  | 0x4A01, 2 => some (s.after (execCtWithdraw l m tid data s))
  | 0x5200, 1 => some (s.after (execMemTest l m tid data s))
  | 0x5300, 1 => some (s.lptWrite l m tid data e.rx)
  | i, j =>
    match baseIdx l i, j with
    | some 0x3001, 8 => some (s.after (execRevCountWrite l m tid (bridgeOfIdx i) data s))
    | some 0x3003, 1 => some (s.after (execGdClear l m tid (bridgeOfIdx i) data e.gate s))
    | some 0x3003, 2 => some (s.after (execSelftest l m tid (bridgeOfIdx i) data s))
    | some 0x3802, 1 => some (s.after (execChopTest l m tid data s))
    | _, _ => none

/-- A complete write of any object: its own action, or a plain write (R347, R349). (DEDUCED, log entry 58) -/
def State.performWrite (s : State) (l : LaneId) (m : Master) (tid idx sub : Nat) (data : List Byte)
    (g : Option Nat) (e : WriteEnv) : State :=
  match (if idx < 0x2400 then s.writeLow l m tid idx sub data e else s.writeHigh l m tid idx sub data g e) with
  | some t => t
  | none => s.on l fun L => L.plainWrite m tid idx sub data g

/-- OBJECT_WRITE (R347, R358): the message with LAST ends its segments, and the write is performed as one. -/
def execObjectWrite (l : LaneId) (m : Master) (tid idx sub ofs total : Nat) (grp : Option (Fin 16))
    (data : List Byte) (e : WriteEnv) (s : State) : Host.Outcome State Fault Refusal :=
  let L := s.lane l
  let g := grp.map (·.val)
  if L.reaches m = false then .next s
  else
    let s := if m = .sideBand then s.on l Lane.sbWake else s
    let t := s.on l fun L => { L with dict := L.dict.dropBuf m tid }
    if m = .supervisory ∨ m = .peer then .next (s.on l fun L => L.answer m tid idx sub eAccess)
    else if ofs + data.length ≠ total then .next (s.on l fun L => L.segFail m tid idx sub eOrder)
    else if ofs = 0 then .next (t.performWrite l m tid idx sub data g e)
    else match L.dict.bufOf m tid with
      | some x =>
        if x.fits idx sub ofs total then .next (t.performWrite l m tid idx sub (x.data ++ data) g e)
        else .next (s.on l fun L => L.segFail m tid idx sub eOrder)
      | none => .next (s.on l fun L => L.segFail m tid idx sub eOrder)

/-! ### Side-band writes (R363) -/

/-- The code the checks of R371 give a value download, 0 where it may be held pending: the write tried on the
side; entries that the tag itself decides are judged by their present state alone. (DEDUCED, log entry 55) -/
def State.downloadCode (s : State) (l : LaneId) (idx sub : Nat) (data : List Byte) : W32 :=
  let L := s.lane l
  if idx = 0x2405 ∧ sub = 2 then (L.writeErr .sideBand idx sub data (L.obj 0x2405 1 == 1) false).getD 0
  else if idx = 0x2501 ∧ sub = 2 then (L.writeErr .sideBand idx sub data (L.pwr.state != .run) false).getD 0
  else
    let q := s.on l fun L => { L with dict := { L.dict with resp := none } }
    let t := q.performWrite l .sideBand 0 idx sub data none {}
    ((t.lane l).dict.resp.map (·.code)).getD 0

/-- SIDEBAND_VALUE_DOWNLOAD (R363): checked and held pending; a new download replaces a pending one. (DEDUCED, log entry 55) -/
def execSidebandValueDownload (l : LaneId) (idx sub : Nat) (data : List Byte) (s : State) :
    Host.Outcome State Fault Refusal :=
  if (s.lane l).sbReach = false ∨ idx = 0x2510 then .next s
  else
    let t := s.on l Lane.sbWake
    let code := t.downloadCode l idx sub data
    .next (t.on l fun L =>
      let M : Lane := if code = 0 then
          { L with sb := { L.sb with pend := some { idx := idx, sub := sub, data := data } } }
        else L
      M.answer .sideBand 0 idx sub code)

/-- A tag that fails: the pending write is discarded; the third in a row closes the session (R363, R364). (DEDUCED, log entry 54) -/
def Lane.tagFail (L : Lane) : Lane :=
  let M := ({ L with sb := { L.sb with pend := none, tagFails := L.sb.tagFails + 1 } } : Lane).raise 0x9103 0
  (if 3 ≤ M.sb.tagFails then M.sbClose 3 else M).answer .sideBand 0 0x2510 3 eAuth

/-- SB_TAG (R363): a tag that verifies performs the pending write, and the counter rises. (DEDUCED, log entry 54) -/
def execSbTag (l : LaneId) (data : List Byte) (e : WriteEnv) (s : State) : Host.Outcome State Fault Refusal :=
  if (s.lane l).sbReach = false then .next s
  else
    let s := s.on l Lane.sbWake
    let L := s.lane l
    if L.sb.isOpen = false then .next (s.on l fun L => L.answer .sideBand 0 0x2510 3 eAuth)
    else match L.sb.pend with
      | none => .next (s.on l fun L => L.answer .sideBand 0 0x2510 3 eState)
      | some p =>
        if data == L.sbTagFor p then
          let q := s.on l fun L => { L with sb := { L.sb with pend := none, tagFails := 0 } }
          let t := q.performWrite l .sideBand 0 p.idx p.sub p.data none e
          .next (t.on l fun M =>
            if M.sb.isOpen then { M with sb := { M.sb with counter := L.sb.counter + 1 } } else M)
        else .next (s.on l Lane.tagFail)

/-! ### Prepares (R349, R350) -/

/-- COMMIT_PREPARE_RECEIVED (R19, R350): a prepare that arrives before the lane's tCLOSE of its voting cycle is voted
on; a later writing of the group replaces what the lane holds of the commit. -/
def execCommitPrepareReceived (l : LaneId) (msg : SlipMsg) (ctr : W16) (s : State) : Host.Outcome State Fault Refusal :=
  let src := msg.src
  match s.via l src, (s.lane src).dict.outbox.find? fun c => c.server == src && c.ctr == ctr with
  | none, _ => .next s
  | some _, none => .next s
  | some v, some c =>
    let L := s.lane l
    let early := decide (L.vote.cycle.toNat < c.cycle.toNat) ||
      (L.vote.cycle == c.cycle && decide (L.tb.ns < L.vote.startNs + L.tClose * 1000))
    if L.alive ∧ msg.crcOk = false then .next (s.on l fun L => L.badMessage v)
    else if L.alive ∧ L.vote.running ∧ early then
      .next (s.on l fun L => { L with dict := { L.dict with
        known := (L.dict.known.filter fun d => !d.same c) ++ [c] } })
    else .next s

end Sys2Proof.Machine
end

