-- ==== Sys2Proof/Machine/Events.lean ====
section
/-! DEFINITION. Fault events that reach the recorder as such, with the reaction that their level sets
(02_vote_cycle_and_fault_tolerance.md R80, 17_diagnostics_and_kiln_log.md R477), and double-bit errors of the memories
(R494). -/

namespace Sys2Proof.Machine

/-! ### Reactions (02_vote_cycle_and_fault_tolerance.md R80, Table 2.7) -/

/-- A position fault takes the sensor, or the winding set, of a front end out of use (05_rotor_position.md Table 5.4). -/
def Lane.positionOut (L : Lane) (b : Fin 8) (kind code : Nat) : Lane :=
  if 1 ≤ kind ∧ kind ≤ 7 then L.dropSensor b else L.isolateSet b code

/-- A DC-link fault takes the chopper, or every winding set of the lane, out of use (07_dc_link_and_braking_energy.md
R236). -/
def Lane.linkOut (L : Lane) (kind : Nat) : Lane :=
  if 1 ≤ kind ∧ kind ≤ 3 then
    ({ L with dc := { L.dc with chopFault := true, chopFaultKind := kind } } : Lane).judgeLink
  else if kind = 8 then L.uvIsolate
  else L

/-- A safety-input fault latches the copy of an input, or the read-back of a test-pulse output
(13_safety_inputs_and_seal.md Table 13.4). -/
def Lane.inputOut (L : Lane) (unit kind : Nat) : Lane :=
  if h : unit < 8 then
    let x := L.safe.inp.get ⟨unit, h⟩
    L.setIn ⟨unit, h⟩ (if kind = 1 then { x with disc := true } else { x with tp := true })
  else if unit = 9 ∨ unit = 10 then
    let o := unit == 10
    { L with safe := L.safe.setTpo o { L.safe.tpo o with latched := true } }
  else L

/-- The source of an input that fault 0x3FD0 names in its detail is isolated (R52, R525). -/
def Lane.sourceOut (L : Lane) (n lane : Nat) : Lane :=
  if lane < 3 then
    { L with vote := { L.vote with
        sources := putSource L.vote.sources { L.sourceOf n (LaneId.ofNum lane) with isolated := true } } }
  else L

/-- The slip link of a number is out of use (R48). -/
def Lane.linkNumOut (L : Lane) (k : Nat) : Lane :=
  match allLinks[k]? with
  | some k => L.cutLink k
  | none => L

/-- What a fault at level isolate takes out of use: the winding set, sensor, chopper, link, network, input source, input
copy or temperature sensor that its code names (R80, Table 2.8 and the fault tables of the chapters). -/
def Lane.takeOut (L : Lane) (code detId : Nat) : Lane :=
  let unit := code / 64 % 64
  let kind := code % 64
  match code / 4096 with
  | 1 => if 0x1201 ≤ code ∧ kind = 1 then L.linkNumOut ((code - 0x1201) / 64) else L
  | 2 => if h : unit < 8 then L.isolateSet ⟨unit, h⟩ code else L
  | 3 =>
    if h : unit < 8 then L.positionOut ⟨unit, h⟩ kind code
    else if code = 0x3FD0 then L.sourceOut (detId % 256) (detId / 256)
    else L
  | 4 =>
    if code = 0x4FC2 then { L with net := { L.net with netLost := true } }
    else if code = 0x4FC6 then { L with net := { L.net with timeMism := true, barred := true } }
    else L
  | 6 => L.linkOut (code - 0x6F80)
  | 7 =>
    if code = 0x7002 ∨ code = 0x7042 then
      ({ L with therm := { L.therm with
        broken := L.therm.broken ||| BitVec.ofNat 10 (2 ^ (detId % 16)) } } : Lane).judgeTemps
    else L
  | 8 => L.inputOut unit kind
  | _ => L

/-- The reaction of a level in the lane of the event (R80): isolate, lane-out, held out of RUN, held at a restore step. -/
def Lane.react (L : Lane) (code level detId : Nat) : Lane :=
  match level with
  | 2 => L.takeOut code detId
  | 3 => L.goOut code
  | 5 => { L with flog := { L.flog with cfg := BitVec.ofNat 16 code :: L.flog.cfg } }
  | 6 => { L with pwr := { L.pwr with stuckAt := L.pwr.stuckAt || L.pwr.state == .starting } }
  | _ => L

/-! ### FAULT_EVENT -/

/-- The event is counted and recorded; one that finds the input queue full counts only in SRC_COUNT, SRC_LOST, LOG_LOST
and FAULTS (17_diagnostics_and_kiln_log.md R479-R481). -/
def Lane.record (L : Lane) (code level detId detVal : Nat) (full : Bool) : Lane :=
  if full then
    let K := L.countEvent code
    { K with flog := K.flog.lose code }
  else L.raise code level detId detVal

/-- FAULT_EVENT (17_diagnostics_and_kiln_log.md R477, R479-R481): its level sets the reaction, whether it is recorded or
not; module-safe is taken by every lane (R80). -/
def execFaultEvent (l : LaneId) (code : W16) (level : Fin 7) (detId detVal : W32) (full : Bool)
    (s : State) : Host.Outcome State Fault Refusal :=
  let t := s.on l fun L =>
    (L.record code.toNat level.val detId.toNat detVal.toNat full).react code.toNat level.val detId.toNat
  .next (if level.val = 4 then t.onAll fun L => if L.alive then L.moduleSafe else L else t)

/-! ### Double-bit errors (17_diagnostics_and_kiln_log.md R494) -/

/-- The frame or message that stood in a failing word of the frame buffers is discarded. -/
def Lane.discard (L : Lane) : Held → Lane
  | .none => L
  | .tx n => { L with net := { L.net with txBufs := L.net.txBufs.filter fun b => b.buf != n } }
  | .answers => { L with dict := { L.dict with hostOut := [] } }
  | .segments m tid => { L with dict := L.dict.dropBuf m tid }
  | .snapshot m tid => { L with dict := L.dict.dropSnap m tid }

/-- SRAM_DOUBLE_BIT_ERROR: lane-out in core memory; in the frame buffers a record, and what the word held is discarded. -/
def execSramDoubleBitError (l : LaneId) (g : Fin 16) (cell : Nat × Nat) (held : Held) (s : State) :
    Host.Outcome State Fault Refusal :=
  .next (s.on l fun L =>
    if L.alive then
      let id := cellId { inst := cell.1, addr := cell.2 }
      if g.val < 8 then L.laneOut (0xB002 + 0x40 * g.val) id
      else (L.raise (0xB002 + 0x40 * g.val) 0 id).discard held
    else L)

end Sys2Proof.Machine
end

