-- ==== Sys2Proof/Machine/Dispatch.lean ====
section
/-! DEFINITION. One arm for each command: a direct call of its meaning. -/

namespace Sys2Proof.Machine

/-- The effect of a command on everything but the queue. -/
def exec (i : Instr) (s : State) : Host.Outcome State Fault Refusal :=
  match i with
  | .voteCycleStart k => Sys2Proof.Machine.execVoteCycleStart k s
  | .inputClose => Sys2Proof.Machine.execInputClose s
  | .inputSetReceived dst src direct crcOk other => Sys2Proof.Machine.execInputSetReceived dst src direct crcOk other s
  | .inputAgreement => Sys2Proof.Machine.execInputAgreement s
  | .serviceTaskEnd l task endUs => Sys2Proof.Machine.execServiceTaskEnd l task endUs s
  | .computeDeadline => Sys2Proof.Machine.execComputeDeadline s
  | .outputSetReceived dst src way flagged other => Sys2Proof.Machine.execOutputSetReceived dst src way flagged other s
  | .outputCompare flags => Sys2Proof.Machine.execOutputCompare flags s
  | .apply => Sys2Proof.Machine.execApply s
  | .stateCopy => Sys2Proof.Machine.execStateCopy s
  | .stateVectorReceived c => Sys2Proof.Machine.execStateVectorReceived c s
  | .stateCopyDeadline => Sys2Proof.Machine.execStateCopyDeadline s
  | .lockstepFault l service => Sys2Proof.Machine.execLockstepFault l service s
  | .slipLinkIsolate k => Sys2Proof.Machine.execSlipLinkIsolate k s
  | .slipLinkReturn k => Sys2Proof.Machine.execSlipLinkReturn k s
  | .shadowPromote l => Sys2Proof.Machine.execShadowPromote l s
  | .rampComplete l => Sys2Proof.Machine.execRampComplete l s
  | .overloadBudgetExhausted l n => Sys2Proof.Machine.execOverloadBudgetExhausted l n s
  | .parkLockComplete l b => Sys2Proof.Machine.execParkLockComplete l b s
  | .laneRestart l r => Sys2Proof.Machine.execLaneRestart l r s
  | .reintRelease l m tid data => Sys2Proof.Machine.execReintRelease l m tid data s
  | .ageLimitReached l k => Sys2Proof.Machine.execAgeLimitReached l k s
  | .stopHoldExpiry l => Sys2Proof.Machine.execStopHoldExpiry l s
  | .slipHoldExpiry l n => Sys2Proof.Machine.execSlipHoldExpiry l n s
  | .stopRelease l m tid data => Sys2Proof.Machine.execStopRelease l m tid data s
  | .contactWrite l m tid n data => Sys2Proof.Machine.execContactWrite l m tid n data s
  | .pwmPeriodBoundary l b ns frac bs => Sys2Proof.Machine.execPwmPeriodBoundary l b ns frac bs s
  | .periodCompute l b q => Sys2Proof.Machine.execPeriodCompute l b q s
  | .computeOverrunIsolate l b => Sys2Proof.Machine.execComputeOverrunIsolate l b s
  | .shuntSaturation l b => Sys2Proof.Machine.execShuntSaturation l b s
  | .currentTrackingFault l b => Sys2Proof.Machine.execCurrentTrackingFault l b s
  | .fieldWeakeningExhausted l b => Sys2Proof.Machine.execFieldWeakeningExhausted l b s
  | .oscMeasure l hz => Sys2Proof.Machine.execOscMeasure l hz s
  | .bridgeModeRequest l b rank3 on => Sys2Proof.Machine.execBridgeModeRequest l b rank3 on s
  | .resolverPair l b sinS cosS => Sys2Proof.Machine.execResolverPair l b sinS cosS s
  | .resolverAmplitudeFault l b => Sys2Proof.Machine.execResolverAmplitudeFault l b s
  | .excitationFault l b mA => Sys2Proof.Machine.execExcitationFault l b mA s
  | .trackingFault l b => Sys2Proof.Machine.execTrackingFault l b s
  | .bissFrame l b pos nE nW crc delay => Sys2Proof.Machine.execBissFrame l b pos nE nW crc delay s
  | .bissFrameTimeout l b => Sys2Proof.Machine.execBissFrameTimeout l b s
  | .bissFrameFault l b => Sys2Proof.Machine.execBissFrameFault l b s
  | .hfiBiasPhase l b => Sys2Proof.Machine.execHfiBiasPhase l b s
  | .hfiCheckEnd l b th => Sys2Proof.Machine.execHfiCheckEnd l b th s
  | .observerImplausible l b => Sys2Proof.Machine.execObserverImplausible l b s
  | .rotorLost l b => Sys2Proof.Machine.execRotorLost l b s
  | .settleExpiry l b => Sys2Proof.Machine.execSettleExpiry l b s
  | .rotorAcquired l b => Sys2Proof.Machine.execRotorAcquired l b s
  | .reacquireTimeout l b => Sys2Proof.Machine.execReacquireTimeout l b s
  | .revCountWrite l m tid b data => Sys2Proof.Machine.execRevCountWrite l m tid b data s
  | .gateRailFault l low => Sys2Proof.Machine.execGateRailFault l low s
  | .switchNodeCrossing l b p c => Sys2Proof.Machine.execSwitchNodeCrossing l b p c s
  | .driveStrengthLimit l b p high => Sys2Proof.Machine.execDriveStrengthLimit l b p high s
  | .switchNodeSenseLost l b p => Sys2Proof.Machine.execSwitchNodeSenseLost l b p s
  | .gateReadbackMismatch l b out => Sys2Proof.Machine.execGateReadbackMismatch l b out s
  | .bootstrapRefresh l b p => Sys2Proof.Machine.execBootstrapRefresh l b p s
  | .bootstrapUvlo l b p => Sys2Proof.Machine.execBootstrapUvlo l b p s
  | .desaturationDetect l b out => Sys2Proof.Machine.execDesaturationDetect l b out s
  | .hardOvercurrent l b => Sys2Proof.Machine.execHardOvercurrent l b s
  | .softTurnoffEnd l b => Sys2Proof.Machine.execSoftTurnoffEnd l b s
  | .faultWaitEnd l b => Sys2Proof.Machine.execFaultWaitEnd l b s
  | .tryRelease l b => Sys2Proof.Machine.execTryRelease l b s
  | .tryTimeout l b => Sys2Proof.Machine.execTryTimeout l b s
  | .gdClear l m tid b data e => Sys2Proof.Machine.execGdClear l m tid b data e s
  | .selftest l m tid b data => Sys2Proof.Machine.execSelftest l m tid b data s
  | .selftestComplete l b e => Sys2Proof.Machine.execSelftestComplete l b e s
  | .vdcSample l x => Sys2Proof.Machine.execVdcSample l x s
  | .linkSenseDisagree l => Sys2Proof.Machine.execLinkSenseDisagree l s
  | .chopperCurrentCheck l amps => Sys2Proof.Machine.execChopperCurrentCheck l amps s
  | .chopperFault l => Sys2Proof.Machine.execChopperFault l s
  | .chopperEnergyUpdate l => Sys2Proof.Machine.execChopperEnergyUpdate l s
  | .chopTest l m tid data => Sys2Proof.Machine.execChopTest l m tid data s
  | .chopperTestComplete l amps => Sys2Proof.Machine.execChopperTestComplete l amps s
  | .ov3Timeout l => Sys2Proof.Machine.execOv3Timeout l s
  | .hwOvTrip l => Sys2Proof.Machine.execHwOvTrip l s
  | .hwOvRelease l => Sys2Proof.Machine.execHwOvRelease l s
  | .linkUndervoltage l => Sys2Proof.Machine.execLinkUndervoltage l s
  | .linkUvRecover l => Sys2Proof.Machine.execLinkUvRecover l s
  | .starFrameArrival l ch port f => Sys2Proof.Machine.execStarFrameArrival l ch port f s
  | .guardianTruncate l ch => Sys2Proof.Machine.execGuardianTruncate l ch s
  | .guardianHoldoverEnd l => Sys2Proof.Machine.execGuardianHoldoverEnd l s
  | .tsuvasFrameReceived l ch f => Sys2Proof.Machine.execTsuvasFrameReceived l ch f s
  | .slotLaunch l ch slot service => Sys2Proof.Machine.execSlotLaunch l ch slot service s
  | .slotEnd l ch slot => Sys2Proof.Machine.execSlotEnd l ch slot s
  | .networkCycleEnd l => Sys2Proof.Machine.execNetworkCycleEnd l s
  | .listenTimeout l => Sys2Proof.Machine.execListenTimeout l s
  | .coldstartCollision l => Sys2Proof.Machine.execColdstartCollision l s
  | .backoffExpiry l => Sys2Proof.Machine.execBackoffExpiry l s
  | .coldstartCycleEnd l => Sys2Proof.Machine.execColdstartCycleEnd l s
  | .syncLoss l => Sys2Proof.Machine.execSyncLoss l s
  | .peerTimeRead l src rttNs ns => Sys2Proof.Machine.execPeerTimeRead l src rttNs ns s
  | .timeMismatchRetry l => Sys2Proof.Machine.execTimeMismatchRetry l s
  | .channelLost l ch => Sys2Proof.Machine.execChannelLost l ch s
  | .channelRestored l ch => Sys2Proof.Machine.execChannelRestored l ch s
  | .networkLost l => Sys2Proof.Machine.execNetworkLost l s
  | .networkRestored l => Sys2Proof.Machine.execNetworkRestored l s
  | .portLinkChange l ch port up => Sys2Proof.Machine.execPortLinkChange l ch port up s
  | .portBlockedPersist l ch port => Sys2Proof.Machine.execPortBlockedPersist l ch port s
  | .cyclePointRaise l cp busy => Sys2Proof.Machine.execCyclePointRaise l cp busy s
  | .slewEnd l => Sys2Proof.Machine.execSlewEnd l s
  | .gptpSync l g => Sys2Proof.Machine.execGptpSync l g s
  | .gptpSyncTimeout l => Sys2Proof.Machine.execGptpSyncTimeout l s
  | .gptpAnnounce l a => Sys2Proof.Machine.execGptpAnnounce l a s
  | .stepAccept l m tid data => Sys2Proof.Machine.execStepAccept l m tid data s
  | .tsqPop l m tid q data => Sys2Proof.Machine.execTsqPop l m tid q data s
  | .taSubmit l m tid data lineNs => Sys2Proof.Machine.execTaSubmit l m tid data lineNs s
  | .taCancel l m tid data => Sys2Proof.Machine.execTaCancel l m tid data s
  | .timedActionDue l slot full => Sys2Proof.Machine.execTimedActionDue l slot full s
  | .sleepRecordInvalidate l => Sys2Proof.Machine.execSleepRecordInvalidate l s
  | .uplinkFrameReceived l ns f => Sys2Proof.Machine.execUplinkFrameReceived l ns f s
  | .supervisoryRead l tid idx sub ofs len op => Sys2Proof.Machine.execSupervisoryRead l tid idx sub ofs len op s
  | .uplinkLinkChange l up => Sys2Proof.Machine.execUplinkLinkChange l up s
  | .contractWindow l n => Sys2Proof.Machine.execContractWindow l n s
  | .ctSubmit l m tid data => Sys2Proof.Machine.execCtSubmit l m tid data s
  | .ctWithdraw l m tid data => Sys2Proof.Machine.execCtWithdraw l m tid data s
  | .transferRead l m tid idx sub ofs len => Sys2Proof.Machine.execTransferRead l m tid idx sub ofs len s
  | .transferWriteSegment l m tid idx sub ofs total data => Sys2Proof.Machine.execTransferWriteSegment l m tid idx sub ofs total data s
  | .transferAbort l m tid => Sys2Proof.Machine.execTransferAbort l m tid s
  | .snapshotLapse l m tid => Sys2Proof.Machine.execSnapshotLapse l m tid s
  | .segmentTimeout l m tid => Sys2Proof.Machine.execSegmentTimeout l m tid s
  | .objectWrite l m tid idx sub ofs total grp data e => Sys2Proof.Machine.execObjectWrite l m tid idx sub ofs total grp data e s
  | .commitPrepareReceived l msg ctr => Sys2Proof.Machine.execCommitPrepareReceived l msg ctr s
  | .peerRead l msg tid idx sub ofs len => Sys2Proof.Machine.execPeerRead l msg tid idx sub ofs len s
  | .sidebandValueDownload l idx sub data => Sys2Proof.Machine.execSidebandValueDownload l idx sub data s
  | .sbChallenge l => Sys2Proof.Machine.execSbChallenge l s
  | .sbResponse l data => Sys2Proof.Machine.execSbResponse l data s
  | .sbTag l data e => Sys2Proof.Machine.execSbTag l data e s
  | .sbClose l m tid data => Sys2Proof.Machine.execSbClose l m tid data s
  | .sessionTimeout l => Sys2Proof.Machine.execSessionTimeout l s
  | .canBusOff l => Sys2Proof.Machine.execCanBusOff l s
  | .monitorRest l => Sys2Proof.Machine.execMonitorRest l s
  | .resultRead l m tid k own => Sys2Proof.Machine.execResultRead l m tid k own s
  | .programStage l m tid sub total data => Sys2Proof.Machine.execProgramStage l m tid sub total data s
  | .programInstall l m tid sub => Sys2Proof.Machine.execProgramInstall l m tid sub s
  | .programInstallComplete l sub => Sys2Proof.Machine.execProgramInstallComplete l sub s
  | .programDiscard l m tid sub => Sys2Proof.Machine.execProgramDiscard l m tid sub s
  | .setStore l m tid data => Sys2Proof.Machine.execSetStore l m tid data s
  | .faultSeenClear l m tid data => Sys2Proof.Machine.execFaultSeenClear l m tid data s
  | .pwrReqRun l m tid => Sys2Proof.Machine.execPwrReqRun l m tid s
  | .pwrReqHold l m tid => Sys2Proof.Machine.execPwrReqHold l m tid s
  | .pwrReqStandby l m tid => Sys2Proof.Machine.execPwrReqStandby l m tid s
  | .pwrReqOff l m tid => Sys2Proof.Machine.execPwrReqOff l m tid s
  | .autoRunRequest l => Sys2Proof.Machine.execAutoRunRequest l s
  | .exitRampEnd l => Sys2Proof.Machine.execExitRampEnd l s
  | .exitPassiveEnd => Sys2Proof.Machine.execExitPassiveEnd s
  | .moduleFormation => Sys2Proof.Machine.execModuleFormation s
  | .wakeEvent l src => Sys2Proof.Machine.execWakeEvent l src s
  | .vinPowerOn l => Sys2Proof.Machine.execVinPowerOn l s
  | .nrstAssert l => Sys2Proof.Machine.execNrstAssert l s
  | .nrstRelease l => Sys2Proof.Machine.execNrstRelease l s
  | .restoreStepEnd l r => Sys2Proof.Machine.execRestoreStepEnd l r s
  | .entryPhaseEnd l r => Sys2Proof.Machine.execEntryPhaseEnd l r s
  | .wedgeGroupEnd l cells => Sys2Proof.Machine.execWedgeGroupEnd l cells s
  | .safetySample l n p => Sys2Proof.Machine.execSafetySample l n p s
  | .discrepancyFault l n => Sys2Proof.Machine.execDiscrepancyFault l n s
  | .safetyReset l => Sys2Proof.Machine.execSafetyReset l s
  | .srstStuck l => Sys2Proof.Machine.execSrstStuck l s
  | .sealOpen l => Sys2Proof.Machine.execSealOpen l s
  | .sealDisagree l => Sys2Proof.Machine.execSealDisagree l s
  | .testPulse l o n => Sys2Proof.Machine.execTestPulse l o n s
  | .testPulseCheck l o backLow ch1 ch2 => Sys2Proof.Machine.execTestPulseCheck l o backLow ch1 ch2 s
  | .ds2Password l m tid total data => Sys2Proof.Machine.execDs2Password l m tid total data s
  | .ds2Value l m tid data grp => Sys2Proof.Machine.execDs2Value l m tid data grp s
  | .ds2Store l m tid data => Sys2Proof.Machine.execDs2Store l m tid data s
  | .ds2Lock l m tid data => Sys2Proof.Machine.execDs2Lock l m tid data s
  | .ds2BlockExpiry l => Sys2Proof.Machine.execDs2BlockExpiry l s
  | .ds2UnlockTimeout l m => Sys2Proof.Machine.execDs2UnlockTimeout l m s
  | .keyprov l head wrapped otpOk => Sys2Proof.Machine.execKeyprov l head wrapped otpOk s
  | .jtagIdcode l => Sys2Proof.Machine.execJtagIdcode l s
  | .jtagBypass l => Sys2Proof.Machine.execJtagBypass l s
  | .keyRevoke l m tid data => Sys2Proof.Machine.execKeyRevoke l m tid data s
  | .dbgChallenge l m tid => Sys2Proof.Machine.execDbgChallenge l m tid s
  | .dbgResponse l m tid rPart sPart => Sys2Proof.Machine.execDbgResponse l m tid rPart sPart s
  | .dbgBlockExpiry l => Sys2Proof.Machine.execDbgBlockExpiry l s
  | .clockCheck l ppm => Sys2Proof.Machine.execClockCheck l ppm s
  | .pllUnlock l net => Sys2Proof.Machine.execPllUnlock l net s
  | .hkRound l n r => Sys2Proof.Machine.execHkRound l n r s
  | .sensorBroken l n => Sys2Proof.Machine.execSensorBroken l n s
  | .referenceCheckFault l => Sys2Proof.Machine.execReferenceCheckFault l s
  | .cutSensorImplausible l drive => Sys2Proof.Machine.execCutSensorImplausible l drive s
  | .d2dFrame l b up crcOk => Sys2Proof.Machine.execD2dFrame l b up crcOk s
  | .d2dLinkFailed l => Sys2Proof.Machine.execD2dLinkFailed l s
  | .thermalCut l drive => Sys2Proof.Machine.execThermalCut l drive s
  | .coneLatchTrip l hot => Sys2Proof.Machine.execConeLatchTrip l hot s
  | .coolingDone l => Sys2Proof.Machine.execCoolingDone l s
  | .vinUndervoltage l => Sys2Proof.Machine.execVinUndervoltage l s
  | .vinOvervoltage l => Sys2Proof.Machine.execVinOvervoltage l s
  | .aonReset l => Sys2Proof.Machine.execAonReset l s
  | .faultEvent l code level detId detVal full => Sys2Proof.Machine.execFaultEvent l code level detId detVal full s
  | .logCommit l n => Sys2Proof.Machine.execLogCommit l n s
  | .kilnSecond l n => Sys2Proof.Machine.execKilnSecond l n s
  | .kilnCommit l n => Sys2Proof.Machine.execKilnCommit l n s
  | .scrubPass l cells => Sys2Proof.Machine.execScrubPass l cells s
  | .sramDoubleBitError l g cell held => Sys2Proof.Machine.execSramDoubleBitError l g cell held s
  | .memTest l m tid data => Sys2Proof.Machine.execMemTest l m tid data s
  | .memTestDemand l => Sys2Proof.Machine.execMemTestDemand l s
  | .compareSelfCheck l pass => Sys2Proof.Machine.execCompareSelfCheck l pass s
  | .lptStart l m tid data => Sys2Proof.Machine.execLptStart l m tid data s
  | .lptStop l m tid data rx => Sys2Proof.Machine.execLptStop l m tid data rx s
  | .lptInject l m tid data rx => Sys2Proof.Machine.execLptInject l m tid data rx s
  | .lptDurationEnd l rx => Sys2Proof.Machine.execLptDurationEnd l rx s
  | .vinBelowPowerOn l written aonLow => Sys2Proof.Machine.execVinBelowPowerOn l written aonLow s
  | .syncTransmission l => Sys2Proof.Machine.execSyncTransmission l s
  | .marchElementEnd l => Sys2Proof.Machine.execMarchElementEnd l s

end Sys2Proof.Machine
end

