-- ==== Sys2Proof/Machine/Step.lean ====
section
/-! DEFINITION. One step of the module: the command at the front of the queue, or one tick of the network
clock while none waits (log entry 13). -/

namespace Sys2Proof.Machine

/-- One step: the front command acts on the module with the rest of the queue; on an empty queue one tick
of the 500 MHz network clock passes in every lane (log entry 13). -/
def step (s : State) : Host.Outcome State Fault Refusal :=
  match s.pending with
  | c :: rest => exec c { s with pending := rest }
  | [] => .next s.tickAll

/-- The module with a command put at the front of its queue. -/
def State.push (s : State) (c : Instr) : State := { s with pending := c :: s.pending }

/-- The module with the command a table word spells at the front of its queue; unchanged where the word spells
none. -/
def State.withFetchWord (s : State) (nbits w : Nat) : State :=
  match Sys2Proof.decodeTableWord nbits w with
  | some c => s.push c
  | none => s

end Sys2Proof.Machine
end

