-- ==== Sys2Proof/Safety.lean ====
section
/-! DEFINITION. What the statements say of a step: which parts of the module stay as they were, and what a
well-kept module is. -/

namespace Sys2Proof.Machine

/-- Nothing outside the lanes changed: the published copies, the queue and the model's own counter. -/
def LanesOnly (s t : State) : Prop := t.pub = s.pub ∧ t.pending = s.pending ∧ t.freeCtr = s.freeCtr

/-- Nothing but lane `l` changed. -/
def OnlyLane (l : LaneId) (s t : State) : Prop := (∀ p, p ≠ l → t.lane p = s.lane p) ∧ LanesOnly s t

/-- The canonical form of a store: keys strictly rising. -/
def storeSorted : Store → Bool
  | [] => true
  | [_] => true
  | a :: b :: t => decide (a.1 < b.1) && storeSorted (b :: t)

/-- No entry of a store equals what an unlisted key reads as. -/
def storeLean (d : Nat → Nat) (st : Store) : Bool := st.all fun p => p.2 != d p.1

/-- Lane `l` stands at place `l` of the module (00_scope.md R3). -/
def State.placed (s : State) : Prop := ∀ l, (s.lane l).id = l

/-- No two lanes hold role LEAD (02_vote_cycle_and_fault_tolerance.md R68). -/
def State.oneLead (s : State) : Prop :=
  ∀ l p, (s.lane l).vote.role = .lead → (s.lane p).vote.role = .lead → l = p

end Sys2Proof.Machine
end

