-- ==== Sys2Proof/Certificates/Slice0/Obligations.lean ====
section
/-! DEFINITION. The statements about the module: what each command does, what it leaves, and what every step
keeps. -/

open Sys2Proof Sys2Proof.Machine

/-- A vote cycle starts. VOTE_CYCLE_START completes in every state. A lane that passes the cycle's points, does
not wait for SHADOW and holds no commit enters cycle k at k times tVOTE with nothing frozen, offered or
agreed; a lane that does not run keeps its cycle and sends nothing. Queue and free counter stay. -/
def Obligations.VoteCycleStart : Prop :=
    ∀ (s : State) (k : Nat), ∃ t, exec (.voteCycleStart k) s = .next t ∧ t.pending = s.pending ∧ t.freeCtr = s.freeCtr ∧
    (∀ l, (s.lane l).runs = true → (s.lane l).pwr.waitShadow = false → (s.lane l).dict.known = [] →
      (t.lane l).vote.cycle = BitVec.ofNat 32 k ∧ (t.lane l).vote.startNs = k * (s.lane l).tVote * 1000 ∧
      (t.lane l).vote.running = true ∧ (t.lane l).vote.agreedNow = false ∧ (t.lane l).vote.tasks = 0 ∧
      (t.lane l).vote.inset = none ∧ (t.lane l).vote.frozenUs = none ∧ (t.lane l).vote.outSet = none ∧
      (t.lane l).vote.offered = ⟨none, none, none⟩ ∧ (t.lane l).vote.agreedOut = none) ∧
    (∀ l, (s.lane l).runs = false →
      (t.lane l).vote.cycle = (s.lane l).vote.cycle ∧ (t.lane l).vote.running = (s.lane l).vote.running ∧
      (t.lane l).vote.inset = none ∧ (t.lane l).vote.outSet = none)

/-- Promotion of a shadow, takeback of the lead, and when role changes take effect. While no lane waits for SHADOW
and no commit is open: a lane due FOLLOWER is FOLLOWER after VOTE_CYCLE_START, its stop line due to release at
tAPPLY and its ramp at step 0 in every lane; a lane alone due LEAD is LEAD, and no other lane is. A shadow in
RUN with the configured count of clean cycles, while a lane drives and the module is not barred, is due
FOLLOWER; the follower that PREF_LEAD names, its ramp ended and no split, is due LEAD. Nothing else changes. -/
def Obligations.PromotionAndTakeback : Prop :=
    (∀ (s : State) (k : Nat) (l : LaneId),
    (∀ p, (s.lane p).pwr.waitShadow = false ∧ (s.lane p).dict.known = []) →
    (∀ p, p ≠ l → (s.lane p).vote.roleDue = none) →
    ((s.lane l).vote.roleDue = some .follower →
      ∃ t, exec (.voteCycleStart k) s = .next t ∧ (t.lane l).vote.role = .follower ∧
        (t.lane l).vote.roleDue = none ∧ (t.lane l).vote.relAtApply = true ∧
        (∀ p, (t.lane p).svc.ramp.get l = Oct.all (some 0)) ∧
        (∀ p, p ≠ l → (t.lane p).vote.role = (s.lane p).vote.role)) ∧
    ((s.lane l).vote.roleDue = some .lead →
      ∃ t, exec (.voteCycleStart k) s = .next t ∧ (t.lane l).vote.role = .lead ∧
        (t.lane l).vote.roleDue = none ∧ (∀ p, p ≠ l → (t.lane p).vote.role ≠ .lead) ∧
        (∀ p, p ≠ l → (s.lane p).vote.role = .lead → (t.lane p).vote.role = .follower) ∧
        (∀ p, p ≠ l → (s.lane p).vote.role ≠ .lead → (t.lane p).vote.role = (s.lane p).vote.role))) ∧
    (∀ (s : State) (l : LaneId),
    ((s.lane l).alive = true → (s.lane l).vote.role = .shadow → (s.lane l).pwr.state = .run →
      s.anyDrives = true → (s.lane l).vote.passive = false →
      (s.lane l).obj 0x2600 8 ≤ (s.lane l).vote.clean.toNat →
      exec (.shadowPromote l) s =
        .next (s.on l fun L => { L with vote := { L.vote with roleDue := some .follower } })) ∧
    ((s.lane l).alive = true → (s.lane l).vote.role = .follower → (s.lane l).obj 0x2600 7 = l.num →
      (s.lane l).rampDone = true → (s.lane l).vote.split = false →
      exec (.rampComplete l) s =
        .next (s.on l fun L => { L with vote := { L.vote with roleDue := some .lead } })))

/-- Input close freezes the input set and agreement runs once in a vote cycle. INPUT_CLOSE completes in every
state. In a lane that runs the cycle time stands at tCLOSE or later; when the lane sends, its set carries its
number, role, cycle and close time and one entry for each agreed input that carries one; when it does not send
it holds no set. A lane that does not run is unchanged. INPUT_AGREEMENT completes in every state. A lane that
does not run the cycle, or has agreed in it, is unchanged; every other lane has agreed afterwards; one that
does not vote then stands at tAGREE or later, keeps its role and judges its peers in contact by the sets that
arrived. -/
def Obligations.InputCloseAndAgreement : Prop :=
    (∀ s : State, ∃ t, exec .inputClose s = .next t ∧ LanesOnly s t ∧
    (∀ l, ((s.lane l).runs && (s.lane l).vote.running) = false → t.lane l = s.lane l) ∧
    (∀ l, ((s.lane l).runs && (s.lane l).vote.running) = true →
      (t.lane l).tb.ns = max (s.lane l).tb.ns ((s.lane l).vote.startNs + (s.lane l).tClose * 1000) ∧
      (t.lane l).vote.role = (s.lane l).vote.role ∧
      ((s.lane l).sends = false → (t.lane l).vote.inset = none) ∧
      ((s.lane l).sends = true → ∃ x, (t.lane l).vote.inset = some x ∧ x.sender = (s.lane l).id ∧
        x.role = (s.lane l).vote.role ∧ x.cycle = (s.lane l).vote.cycle ∧ x.closeNs = (t.lane l).tb.ns ∧
        x.entries.map (·.num) = (s.lane l).inputNums))) ∧
    (∀ s : State, ∃ t, exec .inputAgreement s = .next t ∧ LanesOnly s t ∧
    (∀ l, ((s.lane l).runs && (s.lane l).vote.running && !(s.lane l).vote.agreedNow) = false → t.lane l = s.lane l) ∧
    (∀ l, ((s.lane l).runs && (s.lane l).vote.running && !(s.lane l).vote.agreedNow) = true →
      (t.lane l).vote.agreedNow = true ∧
      ((s.lane l).voting = false →
        (t.lane l).tb.ns = max (s.lane l).tb.ns ((s.lane l).vote.startNs + (s.lane l).tAgree * 1000) ∧
        (t.lane l).vote.role = (s.lane l).vote.role ∧
        ∀ p, (t.lane l).vote.contact.get p =
          (p == (s.lane l).id || (((s.lane l).vote.rx.set (s.lane l).id (s.lane l).vote.inset).get p).isSome))))

/-- Input sets arrive before tAGREE and output sets before tCOMP. INPUT_SET_RECEIVED completes. A copy that is at
hand by tCLOSE + 50 us: one over the direct link, passing its check and of the running cycle, is held as a
direct copy where that link is used, and only noted for the link where it is not; one that fails its check or
names another cycle counts one link error, is a record of fault 0x1002 of the sender and is not held. A copy
relayed by the third lane is held where no copy of the sender is, else only noted; one that fails counts one
error of the relaying link. Without a set, after agreement, later than that instant or over a link under test
nothing changes. OUTPUT_SET_RECEIVED completes. A voting lane takes a peer's offered output set and its self-
flag before tCOMP: a direct one where the direct link is used, a relayed one where it holds no set of the
sender; one that fails its check is discarded and counted on the link it came over. Without a set, or from
tCOMP on, nothing changes. -/
def Obligations.SetsReceived : Prop :=
    ((∀ (s : State) (dst src : LaneId) (k : LinkId) (x : InSet) (other : List (Nat × Bool × Int)),
      (s.lane src).vote.inset = some x → LinkId.between dst src = some k →
      (s.lane dst).runs = true → (s.lane dst).vote.running = true → (s.lane dst).vote.agreedNow = false →
      (s.lane dst).tb.ns ≤ (s.lane dst).vote.startNs + ((s.lane dst).tClose + 50) * 1000 →
      (s.linkTested k = false → x.cycle = (s.lane dst).vote.cycle → s.usesLink dst src = true →
        exec (.inputSetReceived dst src true true other) s = .next (s.on dst fun L =>
          let M := L.onLinkTo src fun v => { v with gotIn := true }
          { M with vote := { M.vote with
            rx := M.vote.rx.set src (some (x.arrived other)), rxDirect := M.vote.rxDirect.set src true } })) ∧
      (s.linkTested k = false → x.cycle = (s.lane dst).vote.cycle → s.usesLink dst src = false →
        exec (.inputSetReceived dst src true true other) s = .next (s.on dst fun L =>
          L.onLinkTo src fun v => { v with gotIn := true })) ∧
      (s.linkTested k = false → ∀ crcOk, (crcOk = false ∨ x.cycle ≠ (s.lane dst).vote.cycle) →
        exec (.inputSetReceived dst src true crcOk other) s = .next (s.on dst fun L =>
          (L.onLinkTo src fun v => { v with errors := satInc v.errors, goodNow := false, errNow := true }).raise
            (0x1002 + 0x40 * src.num) 0 (if crcOk then 2 else 1) L.vote.cycle.toNat)) ∧
      (s.relayPath dst src = true → x.cycle = (s.lane dst).vote.cycle →
        exec (.inputSetReceived dst src false true other) s = .next (s.on dst fun L =>
          let M := L.onLinkTo (thirdOf L.id src) fun v => { v with gotRelay := true }
          if (M.vote.rx.get src).isSome then M
          else { M with vote := { M.vote with rx := M.vote.rx.set src (some (x.arrived other)) } })) ∧
      (s.relayPath dst src = true → ∀ crcOk, (crcOk = false ∨ x.cycle ≠ (s.lane dst).vote.cycle) →
        exec (.inputSetReceived dst src false crcOk other) s = .next (s.on dst fun L =>
          L.onLinkTo (thirdOf L.id src) fun v => { v with errors := satInc v.errors, goodNow := false }))) ∧
    (∀ (s : State) (dst src : LaneId) (direct crcOk : Bool) (other : List (Nat × Bool × Int)),
      ((s.lane src).vote.inset = none ∨ (s.lane dst).vote.agreedNow = true ∨
        (s.lane dst).vote.startNs + ((s.lane dst).tClose + 50) * 1000 < (s.lane dst).tb.ns ∨
        (∃ k, LinkId.between dst src = some k ∧ direct = true ∧ s.linkTested k = true)) →
      exec (.inputSetReceived dst src direct crcOk other) s = .next s)) ∧
    ((∀ (s : State) (dst src : LaneId) (x : OutSet) (direct flagged : Bool) (other : List (LaneId × Fin 8 × Rat)),
      (s.lane src).vote.outSet = some x → (s.lane dst).alive = true → (s.lane dst).voting = true →
      (s.lane dst).vote.running = true → s.path dst src direct = true →
      (s.lane dst).tb.ns < (s.lane dst).vote.startNs + (s.lane dst).tComp * 1000 →
      (direct = true → s.usesLink dst src = true →
        exec (.outputSetReceived dst src { direct := direct } flagged other) s = .next (s.on dst fun L =>
          let M := L.onLinkTo src fun v => { v with gotOut := true }
          { M with vote := { M.vote with
            offered := M.vote.offered.set src (some (x.arrived other))
            selfFlags := M.vote.selfFlags.set src flagged } })) ∧
      (direct = true → s.usesLink dst src = false →
        exec (.outputSetReceived dst src { direct := direct } flagged other) s = .next (s.on dst fun L =>
          L.onLinkTo src fun v => { v with gotOut := true })) ∧
      (direct = false →
        exec (.outputSetReceived dst src { direct := direct } flagged other) s = .next (s.on dst fun L =>
          let M := L.onLinkTo (thirdOf L.id src) fun v => { v with gotRelay := true }
          if (M.vote.offered.get src).isSome then M
          else { M with vote := { M.vote with
            offered := M.vote.offered.set src (some (x.arrived other))
            selfFlags := M.vote.selfFlags.set src flagged } })) ∧
      exec (.outputSetReceived dst src { direct := direct, crcOk := false } flagged other) s = .next (s.on dst fun L =>
        L.onLinkTo (if direct then src else thirdOf dst src) fun v =>
          { v with errors := satInc v.errors, goodNow := false })) ∧
    (∀ (s : State) (dst src : LaneId) (way : Way) (flagged : Bool) (other : List (LaneId × Fin 8 × Rat)),
      ((s.lane src).vote.outSet = none ∨
        (s.lane dst).vote.startNs + (s.lane dst).tComp * 1000 ≤ (s.lane dst).tb.ns) →
      exec (.outputSetReceived dst src way flagged other) s = .next s))

/-- What the classes select from valid copies. Of two discrete copies that differ the safe value is agreed; with
three, a value two of them carry is agreed. Of three analogue copies the agreed value is one of them with
neither all above nor all below it. A sequenced command is taken only when its number is newer than the last,
and then a majority of the copies with that number carries its value. -/
def Obligations.SelectionOfInputs : Prop :=
    (∀ n safe a b, a ≠ b → (agreeDiscrete n safe [a, b]).val = safe ∧ (agreeDiscrete n safe [a, b]).valid = true) ∧
    (∀ n safe a b c v, (v = a ∧ v = b) ∨ (v = a ∧ v = c) ∨ (v = b ∧ v = c) →
      (agreeDiscrete n safe [a, b, c]).val = v ∧ (agreeDiscrete n safe [a, b, c]).valid = true) ∧
    (∀ n last a b c, (agreeAnalogue n last [a, b, c]).val ∈ [a, b, c] ∧
      min a (min b c) ≤ (agreeAnalogue n last [a, b, c]).val ∧ (agreeAnalogue n last [a, b, c]).val ≤ max a (max b c) ∧
      2 ≤ ([a, b, c].filter fun x => decide (x ≤ (agreeAnalogue n last [a, b, c]).val)).length ∧
      2 ≤ ([a, b, c].filter fun x => decide ((agreeAnalogue n last [a, b, c]).val ≤ x)).length) ∧
    (∀ prev v, (agreeSequenced prev v).1.isNew = true →
      (prev.seen = true → seqNewer (agreeSequenced prev v).1.seq prev.seq = true) ∧
      (v.filter fun e => e.seq == (agreeSequenced prev v).1.seq).length <
        2 * (v.filter fun e => e.seq == (agreeSequenced prev v).1.seq && e.val == (agreeSequenced prev v).1.val).length) ∧
    (∀ prev v, (agreeSequenced prev v).1.isNew = false →
      (agreeSequenced prev v).1.val = prev.val ∧ (agreeSequenced prev v).1.seq = prev.seq)

/-- The service tasks of a vote cycle. After tAGREE the next task in order ends and is counted, whatever its end;
no other lane changes. Task 1 sets the age of the host's deceleration input, task 4 the reference speed, task
9 freezes the output set at tDEAD at the latest. A task that ends after its window has run like any other, and
its end is fault 0xAFC2 at level record with the task's order in the detail; task 9 offers an output set only
by tDEAD. -/
def Obligations.ServiceTasks : Prop :=
    ∀ (s : State) (l : LaneId) (task endUs : Nat), (s.lane l).alive = true → (s.lane l).voting = true →
    (s.lane l).vote.agreedNow = true → task = (s.lane l).vote.tasks + 1 → task ≤ 9 →
    ∃ t, exec (.serviceTaskEnd l task endUs) s = .next t ∧ OnlyLane l s t ∧ (t.lane l).vote.tasks = task ∧
      (task = 1 → (t.lane l).svc.ageDecel = ageStep (s.lane l).svc.ageDecel ((s.lane l).takes 0x22 false)) ∧
      (task = 4 → ∀ v p, (s.lane l).vMax = some v → (s.lane l).svc.vref = some p →
        (t.lane l).svc.vref = some (max v (p - (s.lane l).real 0x4109 7 * (s.lane l).tVoteS))) ∧
      (task = 9 → (t.lane l).vote.frozenUs = some endUs ∧ (t.lane l).vote.outSet =
        (if endUs ≤ (s.lane l).tDead then some (s.lane l).outputs else none)) ∧
      ((s.lane l).windowEnd task < endUs → ∃ M : Lane, t.lane l = M.raise 0xAFC2 0 task endUs ∧ M.vote.tasks = task ∧
        (t.lane l).flog.last = 0xAFC2)

/-- The compute deadline. COMPUTE_DEADLINE completes in every state. A voting lane that sent an input set offers
what it froze: with an output set its run of misses ends, without one it counts a miss, and the second in a
row is due a lane-out at the compare. Its role stays. -/
def Obligations.ComputeDeadline : Prop :=
    ∀ s : State, ∃ t, exec .computeDeadline s = .next t ∧ LanesOnly s t ∧
    (∀ l, ((s.lane l).alive && (s.lane l).voting && (s.lane l).vote.running && (s.lane l).vote.inset.isSome) = false →
      t.lane l = s.lane l) ∧
    (∀ l, ((s.lane l).alive && (s.lane l).voting && (s.lane l).vote.running && (s.lane l).vote.inset.isSome) = true →
      (t.lane l).vote.role = (s.lane l).vote.role ∧
      (t.lane l).vote.offered.get (s.lane l).id = (s.lane l).vote.outSet ∧
      ((s.lane l).vote.outSet.isSome = true →
        (t.lane l).vote.missRun = 0 ∧ (t.lane l).vote.misses = (s.lane l).vote.misses ∧ (t.lane l).flog = (s.lane l).flog) ∧
      ((s.lane l).vote.outSet = none →
        (t.lane l).vote.misses = satInc (s.lane l).vote.misses ∧
        (t.lane l).vote.missRun = (s.lane l).vote.missRun + 1 ∧
        (1 ≤ (s.lane l).vote.missRun → (t.lane l).vote.missOut = true) ∧
        (t.lane l).flog.last = 0xAFC1))

/-- The compare outvotes only a set that differs from the agreed one. Whatever sets up to three different drivers
offered, whatever the shadow's set and the self-flags: an agreed output is the set of one of the drivers; a
driver that is outvoted offered a set that is not identical to it, and another driver offered it. With all
sets identical nobody is outvoted. -/
def Obligations.CompareOutvotes : Prop :=
    ∀ (n : Nat) (d : List (LaneId × OutSet)) (shadow : Option OutSet) (flag : LaneId → Bool),
    d.length ≤ 3 → (d.map Prod.fst).Nodup →
    (∀ o p f, compareSets n d shadow flag = .agreed o p f → ∃ q, (q, o) ∈ d ∧ p ≠ some q) ∧
    (∀ o p f, compareSets n d shadow flag = .agreed o (some p) f → ∃ x, (p, x) ∈ d ∧ sameOut o x = false) ∧
    (∀ o, (∀ x ∈ d, sameOut o x.2 = true) → ∀ r p f, compareSets n d shadow flag = .agreed r p f → p = none)

/-- The compare of agreeing sets, and what apply releases. OUTPUT_COMPARE completes in every state with queue,
copies and free counter as before; a lane without a running cycle that does not drive is unchanged. A voting
lane of the cycle that saw drivers, and whose decision is one agreed output with nobody outvoted and no miss
due, holds that output and the monitor's finding on its own; a shadow keeps bridges, gates and timed actions,
a driver queues its apply action due 10 us before tAPPLY and hands each mapped bridge the agreed setpoint,
where a slot is free and the time is not past. A lane that the decision outvotes is OUT afterwards, its stop
line asserted. APPLY completes in every state. A lane that runs the cycle stands at tAPPLY or later; where its
stop line was due to release it is released and its role stays; where one queued apply action is due by then,
each bridge's pending setpoint is released, valid from tAPPLY, and the queue is empty; with an empty queue, no
release due, no exit to PASSIVE and a lane that does not drive, power, bridges and gates stay. A lane that
does not run the cycle keeps everything. -/
def Obligations.CompareAndApply : Prop :=
    ((∀ (s : State) (flags : Tri Bool), ∃ t, exec (.outputCompare flags) s = .next t ∧ LanesOnly s t ∧
      (∀ l, (s.lane l).vote.running = false → (s.lane l).vote.role.drives = false → t.lane l = s.lane l) ∧
      (∀ l x o, (s.lane l).alive = true → (s.lane l).voting = true → (s.lane l).vote.running = true →
        (s.lane l).vote.missOut = false → (s.lane l).compareDrivers s ≠ [] →
        (flags.get (s.lane l).id && (s.lane l).vote.split && (s.lane l).vote.role.drives) = false →
        Lane.decide_ { (s.lane l) with vote := { (s.lane l).vote with
            selfFlag := flags.get (s.lane l).id
            selfFlags := (s.lane l).vote.selfFlags.set (s.lane l).id (flags.get (s.lane l).id) } } s
          ((s.lane l).compareDrivers s) = .agreed x o false →
        (o = none →
          (t.lane l).vote.agreedOut = some x ∧ (t.lane l).vote.selfFlag = flags.get (s.lane l).id ∧
          ((s.lane l).vote.role = .shadow → (t.lane l).bridges = (s.lane l).bridges ∧
            (t.lane l).gates = (s.lane l).gates ∧ (t.lane l).ta = (s.lane l).ta) ∧
          ((s.lane l).vote.role.drives = true →
            max (s.lane l).tb.ns ((s.lane l).vote.startNs + (s.lane l).tComp * 1000) ≤
              (s.lane l).vote.startNs + (s.lane l).tApply * 1000 - 10000 →
            ∀ k, (s.lane l).ta.freeSlot 88 8 = some k →
              (t.lane l).ta.entries = (s.lane l).ta.entries ++ [{ slot := k, kind := 0, owner := none, dueNs :=
                (s.lane l).vote.startNs + (s.lane l).tApply * 1000 - 10000 }] ∧
              ∀ b n, (s.lane l).actOf b = some n →
                ((t.lane l).bridges.get b).spPending = some ((x.iq.get (s.lane l).id).get n))) ∧
        (o = some (s.lane l).id → (s.lane l).vote.outNow = false →
          (t.lane l).vote.role = .out ∧ (t.lane l).vote.outNow = true ∧ (t.lane l).pwr.stopLine = true)))) ∧
    (∀ s : State, ∃ t, exec .apply s = .next t ∧ LanesOnly s t ∧
    (∀ l, (s.lane l).vote.running = false → t.lane l = s.lane l) ∧
    (∀ l, (s.lane l).alive = true → (s.lane l).vote.running = true → (s.lane l).ta.entries = [] →
      (t.lane l).tb.ns = max (s.lane l).tb.ns ((s.lane l).vote.startNs + (s.lane l).tApply * 1000)) ∧
    (∀ l, (s.lane l).alive = true → (s.lane l).vote.running = true → (s.lane l).ta.entries = [] →
      (s.lane l).vote.relAtApply = true → (s.lane l).pwr.exitPassive = false →
      (t.lane l).pwr.stopLine = false ∧ (t.lane l).vote.relAtApply = false ∧
      (t.lane l).vote.role = (s.lane l).vote.role) ∧
    (∀ l e, (s.lane l).alive = true → (s.lane l).vote.running = true → (s.lane l).ta.entries = [e] →
      e.kind = 0 → e.owner = none → e.late = false →
      e.dueNs ≤ (s.lane l).vote.startNs + (s.lane l).tApply * 1000 →
      (t.lane l).ta.entries = [] ∧ ∀ b v, ((s.lane l).bridges.get b).spPending = some v →
        ((t.lane l).bridges.get b).spReleased = v ∧ ((t.lane l).bridges.get b).spPending = none ∧
        ((t.lane l).bridges.get b).validFrom = (s.lane l).vote.startNs + (s.lane l).tApply * 1000) ∧
    (∀ l, (s.lane l).alive = true → (s.lane l).vote.running = true → (s.lane l).ta.entries = [] →
      (s.lane l).vote.relAtApply = false → (s.lane l).pwr.exitPassive = false →
      (s.lane l).vote.role.drives = false →
      (t.lane l).pwr = (s.lane l).pwr ∧ (t.lane l).bridges = (s.lane l).bridges ∧ (t.lane l).gates = (s.lane l).gates))

/-- The state copy is sent, adopted and judged. STATE_COPY completes: the copy source sends in its cycle, its
services' state and role as before, and every other lane is unchanged. STATE_VECTOR_RECEIVED completes: a copy
at hand by tCOPY + 150 us over the direct link it uses gives a shadow that has adopted none its services'
state, agreed inputs and sources; a follower equal to it only notes it, one that differs takes it with fault
0x1FC5; a copy that fails its check counts one error of its link; when no lane sends nothing changes.
STATE_COPY_DEADLINE completes: no copy is adopted any more in the cycle; a shadow's count of clean cycles
rises by one to at most 10,000 when its set was heard by every voting peer, it offered a set, was neither
dirty nor flagged, and is the source or adopted an equal configuration, else it is 0; another lane's count
stays. -/
def Obligations.StateCopy : Prop :=
    (∀ s : State, ∃ t, exec .stateCopy s = .next t ∧ LanesOnly s t ∧ ∀ l,
      let go := (s.lane l).alive && (s.lane l).voting && (s.lane l).vote.running &&
        s.copySource (s.lane l) == some (s.lane l).id
      (go = true → (t.lane l).vote.copyOut = true ∧ (t.lane l).svc = (s.lane l).svc ∧
        (t.lane l).vote.role = (s.lane l).vote.role) ∧
      (go = false → t.lane l = s.lane l)) ∧
    (∀ (s : State) (l p : LaneId) (direct : Bool),
      allLanes.find? (fun p => p != l && (s.lane p).vote.copyOut && s.path l p direct) = some p →
      (s.lane l).runs = true → (s.lane l).vote.running = true → (s.lane l).vote.copyOver = false →
      (s.lane l).tb.ns ≤ (s.lane l).vote.startNs + ((s.lane l).tCopy + 150) * 1000 →
      (exec (.stateVectorReceived { lane := l, way := { direct := direct, crcOk := false } }) s = .next (s.on l fun L =>
        L.onLinkTo (if direct then p else thirdOf l p) fun v =>
          { v with errors := satInc v.errors, goodNow := false })) ∧
      (direct = true → s.usesLink l p = true → (s.lane l).vote.adopted = false →
        ∃ t, exec (.stateVectorReceived { lane := l, way := { direct := direct } }) s = .next t ∧ OnlyLane l s t ∧
          ((s.lane l).vote.role = .shadow → (t.lane l).svc = (s.lane p).svc ∧
            (t.lane l).vote.agreed = (s.lane p).vote.agreed ∧ (t.lane l).vote.sources = (s.lane p).vote.sources ∧
            (t.lane l).vote.adopted = true ∧ (t.lane l).vote.role = .shadow ∧
            (t.lane l).dict.cfgGen = (s.lane p).dict.cfgGen) ∧
          ((s.lane l).vote.role = .follower → (s.lane l).sameState (s.lane p) = true →
            (t.lane l).svc = (s.lane l).svc ∧ (t.lane l).vote.adopted = true ∧ (t.lane l).flog = (s.lane l).flog) ∧
          ((s.lane l).vote.role = .follower → (s.lane l).sameState (s.lane p) = false →
            (t.lane l).svc = (s.lane p).svc ∧ (t.lane l).vote.agreed = (s.lane p).vote.agreed ∧
            (t.lane l).flog.last = 0x1FC5))) ∧
    (∀ (s : State) (c : CopyIn), (∀ p, (s.lane p).vote.copyOut = false) →
      exec (.stateVectorReceived c) s = .next s) ∧
    (∀ s : State, ∃ t, exec .stateCopyDeadline s = .next t ∧ LanesOnly s t ∧
      (∀ l, ((s.lane l).runs && (s.lane l).vote.running && !(s.lane l).vote.copyOver) = false →
        t.lane l = s.lane l) ∧
      (∀ l, ((s.lane l).runs && (s.lane l).vote.running && !(s.lane l).vote.copyOver) = true →
        (t.lane l).vote.copyOver = true ∧ (t.lane l).svc = (s.lane l).svc ∧
        (t.lane l).vote.role = (s.lane l).vote.role ∧
        ((s.lane l).vote.role ≠ .shadow → (t.lane l).vote.clean = (s.lane l).vote.clean) ∧
        ((s.lane l).vote.role = .shadow → (t.lane l).vote.clean.toNat =
          if s.heard (s.lane l).id && (s.lane l).vote.outSet.isSome && !(s.lane l).vote.dirty &&
            !(s.lane l).vote.selfFlag && (s.copySource (s.lane l) == some (s.lane l).id ||
              ((s.lane l).vote.adopted && (s.lane l).vote.digestOk))
          then min 10000 ((s.lane l).vote.clean.toNat + 1) else 0)))

/-- A lockstep fault takes the lane out at once. LOCKSTEP_FAULT completes. In a lane whose rails are up and that
is not already out it leaves role OUT, the stop line asserted, every bridge DISABLED with all gate outputs
commanded low, the chopper off, no output set, no queued timed action and fault 0x1FC1 as the last one;
services, dictionary and network stay, and no other lane changes. A lane already out has the fault recorded
and its stop line asserted again. A lane whose rails are down is unchanged. -/
def Obligations.LockstepFault : Prop :=
    ∀ (s : State) (l : LaneId) (service : Bool),
    ((s.lane l).alive = true → (s.lane l).vote.outNow = false →
      ∃ t, exec (.lockstepFault l service) s = .next t ∧ OnlyLane l s t ∧
        (t.lane l).vote.role = .out ∧ (t.lane l).vote.outSet = none ∧ (t.lane l).vote.running = false ∧
        (t.lane l).vote.outNow = true ∧ (t.lane l).vote.outCause = 0x1FC1 ∧
        (t.lane l).pwr.stopLine = true ∧ (t.lane l).pwr.nflt = false ∧ (t.lane l).ta.entries = [] ∧
        (t.lane l).dc.chopOn = false ∧ (t.lane l).flog.last = 0x1FC1 ∧
        (∀ b, ((t.lane l).bridges.get b).mode = .disabled ∧ ((t.lane l).gates.get b).onOut = 0) ∧
        (t.lane l).svc = (s.lane l).svc ∧ (t.lane l).dict = (s.lane l).dict ∧ (t.lane l).net = (s.lane l).net) ∧
    ((s.lane l).alive = true → (s.lane l).vote.outNow = true →
      exec (.lockstepFault l service) s =
        .next (s.on l fun L => (L.raise 0x1FC1 3 (if service then 1 else 0)).assertStop)) ∧
    ((s.lane l).alive = false → exec (.lockstepFault l service) s = .next s)

/-- Slip links go out of use and return. SLIP_LINK_ISOLATE completes: a link that a voting lane at its end found
without valid data for 3 cycles goes out of use in every lane that runs the cycle, when the third lane relays,
with fault 0x1201 of the link in its own voting lanes; a third time within 600 s bars it; other links, votes
and lanes stay. A link that no lane finds bad, or that is the only path between two lanes in contact, stays in
use. SLIP_LINK_RETURN completes: in each voting lane of the cycle a link out of use that is not barred returns
after the configured run of clean cycles; other links and votes stay. -/
def Obligations.SlipLinks : Prop :=
    (∀ (s : State) (k : LinkId), (∃ l, (s.lane l).findsBad k = true) → s.relayPath k.ends.1 k.ends.2 = true →
      ∃ t, exec (.slipLinkIsolate k) s = .next t ∧ LanesOnly s t ∧
        (∀ l, ((s.lane l).runs && (s.lane l).vote.running) = false → t.lane l = s.lane l) ∧
        (∀ l, ((s.lane l).runs && (s.lane l).vote.running) = true →
          ((t.lane l).links.get k).inUse = false ∧
          (2 ≤ (recent (s.lane l).tb.mono 600000000000 ((s.lane l).links.get k).isolTimes).length →
            ((t.lane l).links.get k).barred = true) ∧
          (∀ j, j ≠ k → (t.lane l).links.get j = (s.lane l).links.get j) ∧
          (t.lane l).vote = (s.lane l).vote ∧
          (((s.lane l).voting && linkTouches k (s.lane l).id) = true →
            (t.lane l).flog.last = BitVec.ofNat 16 (0x1201 + 0x40 * linkNum k)))) ∧
    (∀ (s : State) (k : LinkId),
      ((∀ l, (s.lane l).findsBad k = false) ∨ (s.relayPath k.ends.1 k.ends.2 = false ∧ s.inContact k = true)) →
      exec (.slipLinkIsolate k) s = .next s) ∧
    (∀ (s : State) (k : LinkId), ∃ t, exec (.slipLinkReturn k) s = .next t ∧ LanesOnly s t ∧
      ∀ l, (s.lane l).voting = true → (s.lane l).vote.running = true → ((s.lane l).links.get k).barred = false →
        (s.lane l).obj 0x2600 8 ≤ ((s.lane l).links.get k).cleanRun →
        ((t.lane l).links.get k).inUse = true ∧ (t.lane l).vote = (s.lane l).vote ∧
        (∀ j, j ≠ k → (t.lane l).links.get j = (s.lane l).links.get j))

/-- Overload budget, park lock and the restart after a lane-out. OVERLOAD_BUDGET_EXHAUSTED completes: a set whose
budget is spent is limited to its continuous rating in every voting lane, all other shares, budgets and votes
unchanged, and other lanes too. PARK_LOCK_COMPLETE completes: a bridge whose requested passive state is
PARK_APPLY has all-off requested instead; one in PARK_APPLY stands in ALL_OFF with no output on, every other
bridge unchanged; with no such request nothing changes. LANE_RESTART completes: a lane that is out, not held,
not cooling, not latched, not kept at a restore step, with x_VIN recovered and a failed gate rail risen,
starts at step 4 with its stop line asserted, and the other lanes judge its sources anew; while x_VIN has not
recovered, or the lane is held or cooling, nothing changes. -/
def Obligations.BudgetParkRestart : Prop :=
    (∀ (s : State) (l : LaneId) (n : Fin 8), ∃ t, exec (.overloadBudgetExhausted l n) s = .next t ∧ LanesOnly s t ∧
      (∀ p, ((s.lane p).voting && ((s.lane p).svc.budget.get l).get n == 0) = false → t.lane p = s.lane p) ∧
      (∀ p, ((s.lane p).voting && ((s.lane p).svc.budget.get l).get n == 0) = true →
        ((t.lane p).svc.share.get l).get n = limited n 0 (((s.lane p).svc.share.get l).get n) ∧
        (∀ q m, q ≠ l ∨ m ≠ n → ((t.lane p).svc.share.get q).get m = ((s.lane p).svc.share.get q).get m) ∧
        (t.lane p).svc.budget = (s.lane p).svc.budget ∧ (t.lane p).vote = (s.lane p).vote)) ∧
    (∀ (s : State) (l : LaneId) (b : Fin 8), ((s.lane l).bridges.get b).passive = some .parkApply →
      ((s.lane l).bridges.get b).mode ≠ .parkApply →
      exec (.parkLockComplete l b) s =
        .next (s.on l fun L => L.onBr b fun br => { br with passive := some .allOff })) ∧
    (∀ (s : State) (l : LaneId) (b : Fin 8), ((s.lane l).bridges.get b).passive = some .parkApply →
      ((s.lane l).bridges.get b).mode = .parkApply →
      ∃ t, exec (.parkLockComplete l b) s = .next t ∧ OnlyLane l s t ∧
        ((t.lane l).bridges.get b).mode = .allOff ∧ ((t.lane l).bridges.get b).passive = some .allOff ∧
        ((t.lane l).gates.get b).onOut = 0 ∧ ∀ c, c ≠ b → (t.lane l).bridges.get c = (s.lane l).bridges.get c) ∧
    (∀ (s : State) (l : LaneId) (b : Fin 8), ((s.lane l).bridges.get b).passive ≠ some .parkApply →
      exec (.parkLockComplete l b) s = .next s) ∧
    (∀ (s : State) (l : LaneId), (s.lane l).watched = true → (s.lane l).vote.outNow = true →
      (s.lane l).pwr.stuckAt = false → (s.lane l).vote.held = false → (s.lane l).therm.cone = false →
      (s.lane l).therm.cooling = false → ∀ vgdOk, ((s.lane l).pwr.vgdBad = true → vgdOk = true) →
      ∃ t, exec (.laneRestart l { vgdOk := vgdOk }) s = .next t ∧ LanesOnly s t ∧
        (t.lane l).pwr.state = .starting ∧ (t.lane l).pwr.step = 4 ∧ (t.lane l).pwr.stopLine = true ∧
        (t.lane l).pwr.kind = 2 ∧ (t.lane l).vote.role = .out ∧
        (∀ p, p ≠ l → (t.lane p).vote.sources = (s.lane p).vote.sources.filter fun x => x.lane != l)) ∧
    (∀ (s : State) (l : LaneId) (r : Rails),
      (r.vinOk = false ∨ (s.lane l).vote.held = true ∨ (s.lane l).therm.cooling = true) →
      exec (.laneRestart l r) s = .next s)

/-- Limits and holds of the services, and the writes that release them. AGE_LIMIT_REACHED completes: in a voting
lane a wheel speed at its limit takes its wheel out of slip control, its clamp reference at the clamp demand;
a host input at its limit joins a controlled stop with the host cause where that cause is present, the
handwheel or pedal with the source cause; a load of a weighted axle sets the default-load flag; an input not
at its limit changes nothing. STOP_HOLD_EXPIRY completes: the curvature hold of an active stop that has run
out starts to ramp, and nothing else changes. SLIP_HOLD_EXPIRY completes: a wheel whose hold time has run
passes to REAPPLY, and nothing else changes. STOP_RELEASE and CONTACT_WRITE complete: a write that passes its
checks in a lane that runs vote cycles becomes one prepared commit of that object and value, in the voting
cycle of R349, and opens a transaction. REINT_RELEASE completes: a write that passes its checks ends the hold
and its count and is answered at once. A write that fails its checks is answered with its error code alone. No
other lane changes. -/
def Obligations.ServiceTimersAndWrites : Prop :=
    ((∀ (s : State) (l : LaneId) (k : AgeKind),
      ((s.lane l).alive && (s.lane l).voting && (s.lane l).staleKind k) = false →
      exec (.ageLimitReached l k) s = .next s) ∧
    (∀ (s : State) (l : LaneId), (s.lane l).alive = true → (s.lane l).voting = true →
      (∀ (i : Fin 12) (h : i.val < 8), (s.lane l).wheelStale i.val = true →
        exec (.ageLimitReached l (.wheel i)) s = .next (s.on l fun L => { L with svc := { L.svc with
          slip := L.svc.slip.set ⟨i.val, h⟩ { (L.svc.slip.get ⟨i.val, h⟩) with
            st := .apply, cs := L.svc.clamp.get ⟨i.val, h⟩ } } })) ∧
      (∀ i : Fin 12, 8 ≤ i.val → exec (.ageLimitReached l (.wheel i)) s = .next s) ∧
      (∀ i : Fin 4, (s.lane l).loadStale i.val = true → 0 < (s.lane l).axleWeight (i.val + 1) →
        exec (.ageLimitReached l (.load i)) s =
          .next (s.on l fun L => { L with svc := { L.svc with loadDef := true } })) ∧
      (∀ k, k = .curvature ∨ k = .decel → (s.lane l).staleKind k = true →
        ((s.lane l).causes.host = false → exec (.ageLimitReached l k) s = .next s) ∧
        ((s.lane l).causes.host = true →
          ∃ t, exec (.ageLimitReached l k) s = .next t ∧ OnlyLane l s t ∧
            (t.lane l).svc.stop.active = true ∧ (t.lane l).svc.stop.host = true ∧
            ((s.lane l).svc.stop.active = false → (t.lane l).svc.stop.prof = (s.lane l).svc.decel) ∧
            (t.lane l).vote = (s.lane l).vote ∧ (t.lane l).bridges = (s.lane l).bridges)) ∧
      (∀ k, k = .handwheel ∨ k = .pedal → (s.lane l).staleKind k = true →
        ((s.lane l).causes.source = false → exec (.ageLimitReached l k) s = .next s) ∧
        ((s.lane l).causes.source = true →
          ∃ t, exec (.ageLimitReached l k) s = .next t ∧ OnlyLane l s t ∧
            (t.lane l).svc.stop.active = true ∧ (t.lane l).svc.stop.source = true ∧
            (t.lane l).vote = (s.lane l).vote ∧ (t.lane l).bridges = (s.lane l).bridges))) ∧
    (∀ (s : State) (l : LaneId), (s.lane l).svc.stop.active = true → (s.lane l).svc.stop.holdMs ≤ 0 →
      exec (.stopHoldExpiry l) s = .next (s.on l fun L =>
        { L with svc := { L.svc with stop := { L.svc.stop with ramp := true } } })) ∧
    (∀ (s : State) (l : LaneId) (n : Fin 8), ((s.lane l).svc.slip.get n).st = .hold →
      ((s.lane l).obj 0x4109 6 : Rat) ≤ ((s.lane l).svc.slip.get n).th →
      exec (.slipHoldExpiry l n) s = .next (s.on l fun L => { L with svc := { L.svc with
        slip := L.svc.slip.set n { (L.svc.slip.get n) with st := .reapply } } }))) ∧
    (∀ (s : State) (l : LaneId) (m : Master) (tid : Nat) (data : List Byte),
    ((s.lane l).writeErr m 0x4300 9 data (s.lane l).vote.lastRelOk false = none →
      (s.lane l).vote.running = true → (s.lane l).dict.prepared < 8 →
      ∃ t, exec (.stopRelease l m tid data) s = .next t ∧ OnlyLane l s t ∧
        (t.lane l).dict.prepared = (s.lane l).dict.prepared + 1 ∧
        (t.lane l).dict.open_ m = (s.lane l).dict.open_ m + 1 ∧ (t.lane l).svc = (s.lane l).svc ∧
        ∃ c, (t.lane l).dict.outbox = (s.lane l).dict.outbox ++ [c] ∧ c.server = (s.lane l).id ∧
          c.ctr = (s.lane l).dict.commitCtr ∧ c.cycle = (s.lane l).commitCycle ∧
          c.items = [{ idx := 0x4300, sub := 9, raw := ofBytes data, tid := tid }]) ∧
    (∀ e, (s.lane l).writeErr m 0x4300 9 data (s.lane l).vote.lastRelOk false = some e →
      exec (.stopRelease l m tid data) s = .next (s.on l fun L => L.answer m tid 0x4300 9 e)) ∧
    (∀ n : Fin 8, (s.lane l).writeErr m 0x4107 (n.val + 1) data true false = none →
      (s.lane l).vote.running = true → (s.lane l).dict.prepared < 8 →
      ∃ t, exec (.contactWrite l m tid n data) s = .next t ∧ OnlyLane l s t ∧
        (t.lane l).dict.prepared = (s.lane l).dict.prepared + 1 ∧
        (t.lane l).dict.commitCtr = (s.lane l).dict.commitCtr + 1 ∧
        (t.lane l).dict.open_ m = (s.lane l).dict.open_ m + 1 ∧
        (t.lane l).dict.working = (s.lane l).dict.working ∧ (t.lane l).svc = (s.lane l).svc ∧
        ∃ c, (t.lane l).dict.outbox = (s.lane l).dict.outbox ++ [c] ∧ c.server = (s.lane l).id ∧
          c.ctr = (s.lane l).dict.commitCtr ∧ c.cycle = (s.lane l).commitCycle ∧
          c.items = [{ idx := 0x4107, sub := n.val + 1, raw := ofBytes data, tid := tid }]) ∧
    (∀ (n : Fin 8) (e : W32), (s.lane l).writeErr m 0x4107 (n.val + 1) data true false = some e →
      exec (.contactWrite l m tid n data) s = .next (s.on l fun L => L.answer m tid 0x4107 (n.val + 1) e)) ∧
    ((s.lane l).writeErr m 0x2602 1 data true false = none →
      exec (.reintRelease l m tid data) s = .next (s.on l fun L =>
        let M := L.sbCount m 0x2602
        ({ M with vote := { M.vote with held := false, outs := [] } } : Lane).answer m tid 0x2602 1 0)) ∧
    (∀ e, (s.lane l).writeErr m 0x2602 1 data true false = some e →
      exec (.reintRelease l m tid data) s = .next (s.on l fun L => L.answer m tid 0x2602 1 e)))

/-- The carrier at a period boundary, the oscillator and mode requests. PWM_PERIOD_BOUNDARY completes: at a
boundary of a mapped bridge of a running lane whose carrier runs, the phase error of a started carrier is the
boundary's time less the target of R121, and a carrier that starts does so on that target with error 0; LOCK
is lost above 100 ns and gained at the 16th boundary in a row within 25 ns; vdc is sampled, a waiting change
of the angle source is taken, no other bridge, no vote, no service changes. Without a mapped bridge, a running
lane or a carrier nothing changes. OSC_MEASURE completes: a rate inside 156.8 to 163.2 MHz is taken, one
outside is a lane-out with fault 0x2FE4; a lane that does not run ignores it. BRIDGE_MODE_REQUEST completes: a
served bridge takes or drops the request of rank 3 or 4 and settles; any other bridge ignores it. -/
def Obligations.PeriodBoundary : Prop :=
    ∀ (s : State) (l : LaneId),
    (∀ (b n : Fin 8) (ns : Nat) (frac : Rat) (bs : Tri3 Bool), (s.lane l).actOf b = some n → (s.lane l).alive = true →
      (s.lane l).carrierRuns b = true →
      ∃ t, exec (.pwmPeriodBoundary l b ns frac bs) s = .next t ∧ OnlyLane l s t ∧
        (t.lane l).tb.ns = max (s.lane l).tb.ns ns ∧
        ((t.lane l).bridges.get b).started = true ∧
        (((s.lane l).bridges.get b).started = true →
          ((t.lane l).bridges.get b).startNs = ns ∧
          ((t.lane l).bridges.get b).lockErr = (ns : Rat) + frac - (s.lane l).carrierTarget n (ns + frac)) ∧
        (((s.lane l).bridges.get b).started = false →
          ((t.lane l).bridges.get b).startNs = (roundR ((s.lane l).carrierTarget n (ns + frac))).toNat ∧
          ((t.lane l).bridges.get b).lockErr = 0) ∧
        ((t.lane l).bridges.get b).lock = (if 100 < absR ((t.lane l).bridges.get b).lockErr then false else
          ((s.lane l).bridges.get b).lock || (decide (absR ((t.lane l).bridges.get b).lockErr ≤ 25) &&
            decide (15 ≤ ((s.lane l).bridges.get b).lockRun))) ∧
        ((t.lane l).bridges.get b).vdc = (s.lane l).dc.vdc ∧ ((t.lane l).fes.get b).due = none ∧
        (∀ c, c ≠ b → (t.lane l).bridges.get c = (s.lane l).bridges.get c) ∧
        (t.lane l).vote = (s.lane l).vote ∧ (t.lane l).svc = (s.lane l).svc) ∧
    (∀ (b : Fin 8) (ns : Nat) (frac : Rat) (bs : Tri3 Bool), ((s.lane l).actOf b = none ∨ (s.lane l).alive = false ∨
        (s.lane l).carrierRuns b = false) → exec (.pwmPeriodBoundary l b ns frac bs) s = .next s) ∧
    (∀ hz : Rat, (s.lane l).alive = true → 156800000 ≤ hz → hz ≤ 163200000 →
      exec (.oscMeasure l hz) s = .next (s.on l fun L => { L with clk := { L.clk with pwmHz := hz, pwmOk := true } })) ∧
    (∀ hz : Rat, (s.lane l).alive = true → (hz < 156800000 ∨ 163200000 < hz) →
      exec (.oscMeasure l hz) s = .next (s.on l fun L =>
        ({ L with clk := { L.clk with pwmHz := hz, pwmOk := false } } : Lane).laneOut 0x2FE4)) ∧
    (∀ hz : Rat, (s.lane l).alive = false → exec (.oscMeasure l hz) s = .next s) ∧
    (∀ (b : Fin 8) (on : Bool), (s.lane l).served b = true →
      exec (.bridgeModeRequest l b true on) s =
        .next (s.on l fun L => (L.onBr b fun br => { br with short := on }).settle b) ∧
      exec (.bridgeModeRequest l b false on) s =
        .next (s.on l fun L => (L.onBr b fun br => { br with off := on }).settle b)) ∧
    (∀ (b : Fin 8) (r on : Bool), (s.lane l).served b = false → exec (.bridgeModeRequest l b r on) s = .next s)

/-- What governs a bridge's mode. A bridge that is settled stands in the mode of the governing rank whenever that
rank is 1, 2 or 3: DISABLED while the stop line is asserted or the map does not name it, ALL_OFF in a
protective opening, ACTIVE_SHORT on a short request. A mode newly entered puts no output on but the three low
sides, and settling one bridge leaves every other bridge and gate drive as it was. -/
def Obligations.ModesByRank : Prop :=
    ∀ (L : Lane) (b : Fin 8),
    (L.pwr.stopLine = true ∨ L.actOf b = none → ((L.settle b).bridges.get b).mode = .disabled) ∧
    (∀ n, L.pwr.stopLine = false → L.actOf b = some n → L.opened b = true →
      ((L.settle b).bridges.get b).mode = .allOff) ∧
    (∀ n, L.pwr.stopLine = false → L.actOf b = some n → L.opened b = false → (L.bridges.get b).short = true →
      ((L.settle b).bridges.get b).mode = .activeShort) ∧
    (∀ c, c ≠ b → (L.settle b).bridges.get c = L.bridges.get c ∧ (L.settle b).gates.get c = L.gates.get c) ∧
    (((L.settle b).bridges.get b).mode ≠ (L.bridges.get b).mode →
      ((L.settle b).gates.get b).onOut &&& 0b010101#6 = 0)

/-- One period's computation. PERIOD_COMPUTE completes: of a mapped, started bridge of a running lane it uses one
free value and changes no other lane and no vote. A DISABLED bridge whose samples count averages the last
offset samples, 64 at most. A bridge that modulates on its own sensor has its edges computed and keeps its
mode, and its three winding currents add to 0 when its phases differ. Without a mapped, started bridge of a
running lane nothing changes. -/
def Obligations.PeriodCompute : Prop :=
    ∀ (s : State) (l : LaneId) (b : Fin 8) (q : Samples),
    (∀ n, (s.lane l).actOf b = some n → (s.lane l).alive = true → ((s.lane l).bridges.get b).started = true →
    ∃ t, exec (.periodCompute l b q) s = .next t ∧ t.freeCtr = s.freeCtr + 1 ∧ t.pub = s.pub ∧ t.pending = s.pending ∧
      (∀ p, p ≠ l → t.lane p = s.lane p) ∧ (t.lane l).vote = (s.lane l).vote ∧
      (((s.lane l).bridges.get b).mode = .disabled → ((s.lane l).bridges.get b).noSample = false →
        ((t.lane l).bridges.get b).offsets = (sampleMean q.i1 :: ((s.lane l).bridges.get b).offsets).take 64 ∧
        ((t.lane l).bridges.get b).iOffset =
          meanR ((sampleMean q.i1 :: ((s.lane l).bridges.get b).offsets).take 64)) ∧
      (((s.lane l).bridges.get b).mode = .modulate → ((s.lane l).bridges.get b).noSample = false →
        ((s.lane l).fes.get b).asrc = .sensor →
        ((t.lane l).bridges.get b).computed = true ∧ ((t.lane l).bridges.get b).mode = .modulate ∧
        (((s.lane l).bridges.get b).loadedOrd.u ≠ ((s.lane l).bridges.get b).loadedOrd.v →
          ((s.lane l).bridges.get b).loadedOrd.u ≠ ((s.lane l).bridges.get b).loadedOrd.w →
          ((s.lane l).bridges.get b).loadedOrd.v ≠ ((s.lane l).bridges.get b).loadedOrd.w →
          ((t.lane l).bridges.get b).iU + ((t.lane l).bridges.get b).iV + ((t.lane l).bridges.get b).iW = 0))) ∧
    (((s.lane l).actOf b = none ∨ (s.lane l).alive = false ∨ ((s.lane l).bridges.get b).started = false) →
      exec (.periodCompute l b q) s = .next s)

/-- The samples of a period find their windows. For every three duties and every period, with no leg under refresh
or with any, the rising edge of the middle phase lies at least 160 ticks after that of the highest, and that
of the lowest at least 160 ticks after the middle one; each phase's pulse keeps its width, and the three
phases are ordered by falling duty. -/
def Obligations.EdgesApart : Prop :=
    ∀ (d : Tri3 Rat) (n : Nat) (refresh : Tri3 Bool),
    let e := placeEdges d n refresh
    160 ≤ e.rise.get e.order.v - e.rise.get e.order.u ∧ 160 ≤ e.rise.get e.order.w - e.rise.get e.order.v ∧
    d.get e.order.v ≤ d.get e.order.u ∧ d.get e.order.w ≤ d.get e.order.v ∧
    (∀ p, e.fall.get p - e.rise.get p = (n : Int) - 2 * roundR ((1 - d.get p) * (n : Rat) / 2)) ∧
    (refresh.get e.order.u = true → e.rise.get e.order.u = roundR ((1 - d.get e.order.u) * (n : Rat) / 2))

/-- Bridge faults that a run of periods completes. COMPUTE_OVERRUN_ISOLATE, SHUNT_SATURATION,
CURRENT_TRACKING_FAULT and SWITCH_NODE_SENSE_LOST complete: when its run is complete, a compute overrun, a
saturated shunt, a current that does not track and a lost switch-node sense isolate the winding set under
their fault codes, and the run starts again. FIELD_WEAKENING_EXHAUSTED completes: a complete run is a record.
While a run is not complete nothing changes. -/
def Obligations.CountedFaults : Prop :=
    ∀ (s : State) (l : LaneId) (b : Fin 8),
    (3 ≤ ((s.lane l).bridges.get b).overRun → exec (.computeOverrunIsolate l b) s = .next (s.on l fun L =>
      (L.onBr b fun br => { br with overRun := 0 }).isolate b (0x2000 + b.val * 0x40 + 0x26))) ∧
    (((s.lane l).bridges.get b).overRun < 3 → exec (.computeOverrunIsolate l b) s = .next s) ∧
    (4 ≤ ((s.lane l).bridges.get b).satRun → exec (.shuntSaturation l b) s = .next (s.on l fun L =>
      (L.onBr b fun br => { br with satRun := 0 }).isolate b (0x2000 + b.val * 0x40 + 0x21))) ∧
    (((s.lane l).bridges.get b).satRun < 4 → exec (.shuntSaturation l b) s = .next s) ∧
    (100 ≤ ((s.lane l).bridges.get b).trackRun → exec (.currentTrackingFault l b) s = .next (s.on l fun L =>
      (L.onBr b fun br => { br with trackRun := 0 }).isolate b (0x2000 + b.val * 0x40 + 0x22))) ∧
    (((s.lane l).bridges.get b).trackRun < 100 → exec (.currentTrackingFault l b) s = .next s) ∧
    (100 ≤ ((s.lane l).bridges.get b).fwRun → exec (.fieldWeakeningExhausted l b) s = .next (s.on l fun L =>
      (L.onBr b fun br => { br with fwRun := 0 }).raise (0x2000 + b.val * 0x40 + 0x25) 0)) ∧
    (((s.lane l).bridges.get b).fwRun < 100 → exec (.fieldWeakeningExhausted l b) s = .next s) ∧
    (∀ p, ((64 ≤ (((s.lane l).gates.get b).noValid.get p).1 ∨ 64 ≤ (((s.lane l).gates.get b).noValid.get p).2) →
        exec (.switchNodeSenseLost l b p) s = .next (s.on l fun L =>
          (L.onGate b fun g => { g with noValid := g.noValid.set p (0, 0) }).isolate b (0x2000 + b.val * 0x40 + 7)
            (phaseNum p))) ∧
      ((((s.lane l).gates.get b).noValid.get p).1 < 64 → (((s.lane l).gates.get b).noValid.get p).2 < 64 →
        exec (.switchNodeSenseLost l b p) s = .next s))

/-- Isolating a winding set. A fault that isolates the set of a mapped bridge leaves its angle source ISOLATED,
the fault among the causes of its isolation and the set requested short or all-off; every other bridge, front
end and gate drive, the services, the vote and the dictionary are unchanged. Isolating an unmapped bridge only
records the fault. -/
def Obligations.IsolationOfASet : Prop :=
    ∀ (L : Lane) (b : Fin 8) (code detId detVal : Nat),
    (∀ n, L.actOf b = some n →
      ((L.isolate b code detId detVal).fes.get b).asrc = .isolated ∧
      code ∈ ((L.isolate b code detId detVal).bridges.get b).isolKinds ∧
      ((L.isolate b code detId detVal).bridges.get b).short ≠ ((L.isolate b code detId detVal).bridges.get b).off ∧
      (∀ k ∈ (L.bridges.get b).isolKinds, k ∈ ((L.isolate b code detId detVal).bridges.get b).isolKinds) ∧
      (∀ c, c ≠ b → (L.isolate b code detId detVal).bridges.get c = L.bridges.get c ∧
        (L.isolate b code detId detVal).fes.get c = L.fes.get c ∧
        (L.isolate b code detId detVal).gates.get c = L.gates.get c) ∧
      (L.isolate b code detId detVal).vote = L.vote ∧ (L.isolate b code detId detVal).svc = L.svc ∧
      (L.isolate b code detId detVal).dict = L.dict ∧ (L.isolate b code detId detVal).pwr = L.pwr) ∧
    (L.actOf b = none → L.isolate b code detId detVal = L.raise code 2 detId detVal)

/-- Resolver pairs, BiSS-C frames and the faults of a sensor. RESOLVER_PAIR completes: a demodulated pair below
half or above one and a half times full amplitude is withheld and counted, an accepted pair ends both counts;
without a driven excitation, with an isolated sensor or on an interface under test nothing changes.
RESOLVER_AMPLITUDE_FAULT, TRACKING_FAULT and BISS_FRAME_FAULT complete: in a served front end four withheld
pairs, four tracking errors and three discarded frames isolate the sensor under their own kinds; before that,
or unserved, nothing changes. EXCITATION_FAULT completes: a current outside 2 to 150 mA switches the
excitation off and isolates the sensor, any other changes nothing. Isolating the sensor of a mapped front end
marks it isolated and leaves every other front end, the vote and the dictionary; of one already isolated it
changes nothing. BISS_FRAME completes: a frame that answers the running request and holds its CRC sets the
angle to the position field and ends the run of discarded frames, puts the multi-turn field in place of the
revolution count where it has one, warns on nW low and isolates the sensor at the second nE low in a row; one
that fails is discarded and counted. BISS_FRAME_TIMEOUT completes and does the same as a failed frame. Without
a request nothing changes. -/
def Obligations.RotorSensors : Prop :=
    ((∀ (s : State) (l : LaneId) (b : Fin 8),
    (∀ (n : Fin 8) (f : Nat) (amp : Rat) (x y : List Rat), (s.lane l).actOf b = some n →
      (s.lane l).excitation b = some (f, amp) → ((s.lane l).fes.get b).sensIsol = false →
      (s.lane l).lptOn (24 + b.val) = false →
      ∃ t, exec (.resolverPair l b x y) s = .next t ∧ OnlyLane l s t ∧
        (let full := (s.lane l).real ((s.lane l).brIdx b 1) 3 * amp
         let u := (s.lane l).demod b x
         let v := (s.lane l).demod b y
         let a2 := (u * u + v * v) / (full * full)
         let f := (s.lane l).fes.get b
         let g := (t.lane l).fes.get b
         g.resAmp = Config.sqrt a2 ∧ g.excHalf = !f.excHalf ∧
         (a2 < 1 / 4 → g.lowRun = f.lowRun + f.highRun + 1 ∧ g.highRun = 0 ∧ g.ampFlag = true) ∧
         (9 / 4 < a2 → g.highRun = f.lowRun + f.highRun + 1 ∧ g.lowRun = 0 ∧ g.ampFlag = true) ∧
         (1 / 4 ≤ a2 → a2 ≤ 9 / 4 → g.lowRun = 0 ∧ g.highRun = 0 ∧ g.ampFlag = f.ampFlag)) ∧
        (∀ c, c ≠ b → (t.lane l).fes.get c = (s.lane l).fes.get c) ∧ (t.lane l).bridges = (s.lane l).bridges) ∧
    (∀ x y : List Rat, ((s.lane l).excitation b = none ∨ ((s.lane l).fes.get b).sensIsol = true ∨
        (s.lane l).lptOn (24 + b.val) = true) → exec (.resolverPair l b x y) s = .next s) ∧
    ((s.lane l).served b = true →
      (4 ≤ ((s.lane l).fes.get b).lowRun →
        exec (.resolverAmplitudeFault l b) s = .next (s.on l fun L => L.isolateSensor b 1)) ∧
      (((s.lane l).fes.get b).lowRun < 4 → 4 ≤ ((s.lane l).fes.get b).highRun →
        exec (.resolverAmplitudeFault l b) s = .next (s.on l fun L => L.isolateSensor b 2)) ∧
      (4 ≤ ((s.lane l).fes.get b).trackRun →
        exec (.trackingFault l b) s = .next (s.on l fun L => L.isolateSensor b 4)) ∧
      (3 ≤ ((s.lane l).fes.get b).bissRun →
        exec (.bissFrameFault l b) s = .next (s.on l fun L => L.isolateSensor b 5))) ∧
    (((s.lane l).served b = false ∨ ((s.lane l).fes.get b).lowRun < 4 ∧ ((s.lane l).fes.get b).highRun < 4) →
      exec (.resolverAmplitudeFault l b) s = .next s) ∧
    (((s.lane l).served b = false ∨ ((s.lane l).fes.get b).trackRun < 4) → exec (.trackingFault l b) s = .next s) ∧
    (((s.lane l).served b = false ∨ ((s.lane l).fes.get b).bissRun < 3) → exec (.bissFrameFault l b) s = .next s) ∧
    (∀ mA : Nat, ((s.lane l).excitation b).isSome = true → (mA < 2 ∨ 150 < mA) →
      exec (.excitationFault l b mA) s = .next (s.on l fun L =>
        (L.onFe b fun f => { f with excCut := true, excFlag := true }).isolateSensor b 3)) ∧
    (∀ mA : Nat, ((s.lane l).excitation b = none ∨ 2 ≤ mA ∧ mA ≤ 150) →
      exec (.excitationFault l b mA) s = .next s)) ∧
    (∀ (L : Lane) (b : Fin 8) (kind : Nat),
      ((L.fes.get b).sensIsol = true → L.isolateSensor b kind = L) ∧
      (∀ n, L.actOf b = some n → (L.fes.get b).sensIsol = false →
        ((L.isolateSensor b kind).fes.get b).sensIsol = true ∧
        (∀ c, c ≠ b → (L.isolateSensor b kind).fes.get c = L.fes.get c) ∧
        (L.isolateSensor b kind).vote = L.vote ∧ (L.isolateSensor b kind).dict = L.dict))) ∧
    ((∀ (s : State) (l : LaneId) (b n : Fin 8), (s.lane l).actOf b = some n → (s.lane l).alive = true →
    (s.lane l).bissMode n = true → ((s.lane l).fes.get b).bissPending = true →
    ((s.lane l).fes.get b).sensIsol = false → (s.lane l).lptOn (24 + b.val) = false →
    (∀ (pos crc : List Bool) (nE nW : Bool) (delay : Nat) (d : BissData),
      d = bissData ((s.lane l).obj (actIdx n 2) 4) ((s.lane l).obj (actIdx n 2) 3) (pos ++ [nE, nW] ++ crc) →
      (d.ok = true → ∃ t, exec (.bissFrame l b pos nE nW crc delay) s = .next t ∧ OnlyLane l s t ∧
        ((t.lane l).fes.get b).phi = (d.st : Rat) / ((2 ^ (s.lane l).obj (actIdx n 2) 3 : Nat) : Rat) ∧
        ((t.lane l).fes.get b).bissRun = 0 ∧ ((t.lane l).fes.get b).bissPending = false ∧
        ((t.lane l).fes.get b).lineNs = delay ∧
        (0 < (s.lane l).obj (actIdx n 2) 4 → ((t.lane l).fes.get b).revs = d.mt) ∧
        (d.nE = true → ((t.lane l).fes.get b).neRun = 0 ∧ ((t.lane l).fes.get b).sensIsol = false) ∧
        (d.nE = false → 1 ≤ ((s.lane l).fes.get b).neRun → ((t.lane l).fes.get b).sensIsol = true) ∧
        (d.nW = false → ((t.lane l).fes.get b).warn = true) ∧
        (d.nE = true → d.nW = true → (t.lane l).bridges = (s.lane l).bridges ∧ (t.lane l).flog = (s.lane l).flog)) ∧
      (d.ok = false → ∃ t, exec (.bissFrame l b pos nE nW crc delay) s = .next t ∧ OnlyLane l s t ∧
        ((t.lane l).fes.get b).bissRun = ((s.lane l).fes.get b).bissRun + 1 ∧
        ((t.lane l).fes.get b).frameErrors = satInc ((s.lane l).fes.get b).frameErrors ∧
        ((t.lane l).fes.get b).bissPending = false ∧ (t.lane l).bridges = (s.lane l).bridges)) ∧
    (∃ t, exec (.bissFrameTimeout l b) s = .next t ∧ OnlyLane l s t ∧
        ((t.lane l).fes.get b).bissRun = ((s.lane l).fes.get b).bissRun + 1 ∧
        ((t.lane l).fes.get b).frameErrors = satInc ((s.lane l).fes.get b).frameErrors ∧
        ((t.lane l).fes.get b).bissPending = false ∧ (t.lane l).bridges = (s.lane l).bridges)) ∧
    (∀ (s : State) (l : LaneId) (b : Fin 8) (pos crc : List Bool) (nE nW : Bool) (delay : Nat),
      ((s.lane l).fes.get b).bissPending = false →
      exec (.bissFrame l b pos nE nW crc delay) s = .next s ∧ exec (.bissFrameTimeout l b) s = .next s))

/-- The injection check, and the loss and return of the rotor. HFI_BIAS_PHASE completes: the check passes from
injection alone to a positive and then to a negative bias, and no further. HFI_CHECK_END completes: at
HFI_SPEED the check is aborted; too low a saliency is a record; an offset within its limit passes with its
result; each makes the set due its own sensor at the next boundary. An offset beyond the limit isolates the
sensor under fault 0x07 and makes the set due the agreed angle. Outside the check, or once its end waits for
the boundary, nothing changes. OBSERVER_IMPLAUSIBLE completes: 32 implausible periods seed the observer from
the sensor under fault 0x09. ROTOR_LOST completes: three residuals lose the rotor, the set standing in LOST
with a short request or in REACQUIRE with all-off, and isolated at the third loss within a second.
SETTLE_EXPIRY completes: a lost, shorted set is due REACQUIRE at the next boundary. ROTOR_ACQUIRED completes:
eight consistent estimates seed the observer, make it due as the source and withdraw the requests.
REACQUIRE_TIMEOUT completes: a set without its rotor is isolated under 0x0B. In any other state each changes
nothing. -/
def Obligations.RotorSources : Prop :=
    ((∀ (s : State) (l : LaneId) (b : Fin 8),
      (((s.lane l).fes.get b).asrc = .hfiCheck → 1 ≤ ((s.lane l).fes.get b).hfiPhase →
        ((s.lane l).fes.get b).hfiPhase < 3 →
        exec (.hfiBiasPhase l b) s = .next (s.on l fun L => L.onFe b fun f => { f with hfiPhase := f.hfiPhase + 1 })) ∧
      ((((s.lane l).fes.get b).asrc ≠ .hfiCheck ∨ ((s.lane l).fes.get b).hfiPhase < 1 ∨
        3 ≤ ((s.lane l).fes.get b).hfiPhase) → exec (.hfiBiasPhase l b) s = .next s)) ∧
    (∀ (s : State) (l : LaneId) (b n : Fin 8) (th : Rat), (s.lane l).actOf b = some n →
      ((s.lane l).fes.get b).asrc = .hfiCheck → ((s.lane l).fes.get b).due = none →
      ((s.lane l).hfiFast b n = true →
        exec (.hfiCheckEnd l b th) s = .next (s.on l fun L => L.onFe b fun f =>
          { f with due := some .sensor, hfiPhase := 0 })) ∧
      ((s.lane l).hfiFast b n = false → ((s.lane l).fes.get b).hfi.lowSaliency = true →
        exec (.hfiCheckEnd l b th) s = .next (s.on l fun L =>
          (L.onFe b fun f => { f with due := some .sensor, hfiPhase := 0, hfiNa := true }).raise
            (0x3000 + b.val * 0x40 + 8) 0)) ∧
      ((s.lane l).hfiFast b n = false → ((s.lane l).fes.get b).hfi.lowSaliency = false →
        absR (((s.lane l).fes.get b).hfi.offset th) ≤ (s.lane l).posReal n 0x0F →
        exec (.hfiCheckEnd l b th) s = .next (s.on l fun L => L.onFe b fun f =>
          { f with due := some .sensor, hfiPhase := 0, hfiResult := f.hfi.offset th, hfiDone := true })) ∧
      ((s.lane l).hfiFast b n = false → ((s.lane l).fes.get b).hfi.lowSaliency = false →
        (s.lane l).posReal n 0x0F < absR (((s.lane l).fes.get b).hfi.offset th) →
        exec (.hfiCheckEnd l b th) s = .next (s.on l fun L =>
          (L.onFe b fun f => { f with
            hfiResult := f.hfi.offset th, hfiPhase := 0, due := some .borrowed, sensIsol := true }).raise
            (0x3000 + b.val * 0x40 + 7) 2))) ∧
    (∀ (s : State) (l : LaneId) (b : Fin 8) (th : Rat),
      ((s.lane l).actOf b = none ∨ ((s.lane l).fes.get b).asrc ≠ .hfiCheck ∨
        ((s.lane l).fes.get b).due.isSome = true) → exec (.hfiCheckEnd l b th) s = .next s)) ∧
    (∀ (s : State) (l : LaneId) (b : Fin 8),
    (∀ n, (s.lane l).actOf b = some n → 32 ≤ ((s.lane l).fes.get b).plausRun →
      exec (.observerImplausible l b) s = .next (s.on l fun L =>
        (L.onFe b fun f => { f with
          plausRun := 0, thObs := L.sensorAngle b n (L.nextTs1 b), wObs := L.elec n (L.sensorSpeed b n) }).raise
          (0x3000 + b.val * 0x40 + 9) 0)) ∧
    (((s.lane l).actOf b = none ∨ ((s.lane l).fes.get b).plausRun < 32) →
      exec (.observerImplausible l b) s = .next s) ∧
    (∀ n, (s.lane l).actOf b = some n → ((s.lane l).fes.get b).asrc = .observer →
      3 ≤ ((s.lane l).fes.get b).resRun →
      ∃ t, exec (.rotorLost l b) s = .next t ∧ OnlyLane l s t ∧ ((t.lane l).fes.get b).resRun = 0 ∧
        (t.lane l).vote = (s.lane l).vote ∧
        (∀ c, c ≠ b → (t.lane l).fes.get c = (s.lane l).fes.get c ∧
          (t.lane l).bridges.get c = (s.lane l).bridges.get c) ∧
        ((recent (s.lane l).tb.mono 1000000000 ((s.lane l).fes.get b).losses).length < 2 →
          ((t.lane l).fes.get b).asrc =
            (if (s.lane l).chooseShort n (some ((s.lane l).fes.get b).wObs) then .lost else .reacquire) ∧
          ((t.lane l).bridges.get b).short = (s.lane l).chooseShort n (some ((s.lane l).fes.get b).wObs) ∧
          ((t.lane l).bridges.get b).off = !(s.lane l).chooseShort n (some ((s.lane l).fes.get b).wObs)) ∧
        (2 ≤ (recent (s.lane l).tb.mono 1000000000 ((s.lane l).fes.get b).losses).length →
          ((t.lane l).fes.get b).asrc = .isolated)) ∧
    (((s.lane l).actOf b = none ∨ ((s.lane l).fes.get b).asrc ≠ .observer ∨ ((s.lane l).fes.get b).resRun < 3) →
      exec (.rotorLost l b) s = .next s) ∧
    (∀ n, (s.lane l).actOf b = some n → ((s.lane l).fes.get b).asrc = .lost →
      ((s.lane l).bridges.get b).short = true →
      exec (.settleExpiry l b) s = .next (s.on l fun L =>
        (L.advance ((L.fes.get b).lostNs + L.tSettle n)).onFe b fun f => { f with due := some .reacquire })) ∧
    (((s.lane l).actOf b = none ∨ ((s.lane l).fes.get b).asrc ≠ .lost ∨ ((s.lane l).bridges.get b).short = false) →
      exec (.settleExpiry l b) s = .next s) ∧
    (((s.lane l).fes.get b).asrc = .reacquire → 8 ≤ ((s.lane l).fes.get b).acqRun →
      ∃ t, exec (.rotorAcquired l b) s = .next t ∧ OnlyLane l s t ∧ ((t.lane l).fes.get b).due = some .observer ∧
        ((t.lane l).fes.get b).asrc = .reacquire ∧
        ((t.lane l).bridges.get b).short = false ∧ ((t.lane l).bridges.get b).off = false ∧
        (∀ th, ((s.lane l).fes.get b).acqLast = some th → ((t.lane l).fes.get b).thObs = th) ∧
        (∀ w, ((s.lane l).fes.get b).acqW = some w → ((t.lane l).fes.get b).wObs = w)) ∧
    ((((s.lane l).fes.get b).asrc ≠ .reacquire ∨ ((s.lane l).fes.get b).acqRun < 8) →
      exec (.rotorAcquired l b) s = .next s) ∧
    ((((s.lane l).fes.get b).asrc = .lost ∨ ((s.lane l).fes.get b).asrc = .reacquire) →
      exec (.reacquireTimeout l b) s = .next (s.on l fun L =>
        (L.advance ((L.fes.get b).lostNs + 20000000)).isolate b (0x3000 + b.val * 0x40 + 0x0B))) ∧
    (((s.lane l).fes.get b).asrc ≠ .lost → ((s.lane l).fes.get b).asrc ≠ .reacquire →
      exec (.reacquireTimeout l b) s = .next s))

/-- Writes that act on a bridge or on the DC link. REV_COUNT_WRITE, GD_CLEAR, SELFTEST and CHOP_TEST complete. A
write that passes its checks acts and is answered 0: a revolution count is taken while the bridge is DISABLED;
GD_CLEAR of a latched bridge ends its latch and that cause of isolation, of any other clears its try history;
a self-test starts and its result object is pending; a chopper test starts with the chopper on unless it is
held low. A write refused by its checks is answered with their code alone. -/
def Obligations.WritesOfBridgeAndLink : Prop :=
    ∀ (s : State) (l : LaneId) (m : Master) (tid : Nat) (b : Fin 8) (data : List Byte),
    ((s.lane l).writeErr m ((s.lane l).brIdx b 1) 8 data (((s.lane l).bridges.get b).mode == .disabled) false = none →
      exec (.revCountWrite l m tid b data) s = .next (s.on l fun L =>
        ((L.sbCount m (L.brIdx b 1)).onFe b fun f =>
          { f with revs := toSigned 32 (ofBytes data), revsNv := toSigned 32 (ofBytes data) }).answer m tid
            (L.brIdx b 1) 8 0)) ∧
    (∀ x, (s.lane l).writeErr m ((s.lane l).brIdx b 1) 8 data (((s.lane l).bridges.get b).mode == .disabled) false =
        some x →
      exec (.revCountWrite l m tid b data) s = .next (s.on l fun L => L.answer m tid (L.brIdx b 1) 8 x)) ∧
    (∀ e : ClearIn,
      ((s.lane l).writeErr m ((s.lane l).brIdx b 3) 1 data ((s.lane l).clearable b e) false = none →
        (((s.lane l).gates.get b).latch = false →
          exec (.gdClear l m tid b data e) s = .next (s.on l fun L =>
            ((L.sbCount m (L.brIdx b 3)).onGate b fun g => { g with tries := [] }).answer m tid (L.brIdx b 3) 1 0)) ∧
        (((s.lane l).gates.get b).latch = true → ∃ t, exec (.gdClear l m tid b data e) s = .next t ∧ OnlyLane l s t ∧
          ((t.lane l).gates.get b).latch = false ∧ ((t.lane l).gates.get b).latchedKind = 0 ∧
          ((t.lane l).gates.get b).tries = [] ∧ (t.lane l).vote = (s.lane l).vote ∧
          ((t.lane l).bridges.get b).isolKinds =
            ((s.lane l).bridges.get b).isolKinds.filter (· ≠ 0x2000 + b.val * 0x40 + 0x0B))) ∧
      (∀ x, (s.lane l).writeErr m ((s.lane l).brIdx b 3) 1 data ((s.lane l).clearable b e) false = some x →
        exec (.gdClear l m tid b data e) s = .next (s.on l fun L => L.answer m tid (L.brIdx b 3) 1 x))) ∧
    ((s.lane l).writeErr m ((s.lane l).brIdx b 3) 2 data ((s.lane l).testable b) false = none →
      exec (.selftest l m tid b data) s = .next (s.on l fun L =>
        ((L.sbCount m (L.brIdx b 3)).onGate b fun g =>
          { g with testing := true, testBy := some m, result := g.result.start m }).answer m tid (L.brIdx b 3) 2 0)) ∧
    (∀ x, (s.lane l).writeErr m ((s.lane l).brIdx b 3) 2 data ((s.lane l).testable b) false = some x →
      exec (.selftest l m tid b data) s = .next (s.on l fun L => L.answer m tid (L.brIdx b 3) 2 x)) ∧
    ((s.lane l).obj ((s.lane l).dcIdx 0) 0x0B = 1 → (s.lane l).dc.chopOn = false → (s.lane l).dc.testing = false →
      (s.lane l).dcReal 9 ≤ (s.lane l).dc.vdc → (s.lane l).dc.vdc ≤ (s.lane l).dcReal 1 - (s.lane l).dcReal 2 →
      (s.lane l).writeErr m ((s.lane l).dcIdx 2) 1 data true false = none →
      exec (.chopTest l m tid data) s = .next (s.on l fun L =>
        let M := L.sbCount m (L.dcIdx 2)
        ({ M with dc := { M.dc with
            testing := true, testChecks := 0, testKind := 0, chopOn := !L.chopHeld, chopRun := 0, openRun := 0,
            wrongRun := 0, condRun := 0 } } : Lane).answer m tid (L.dcIdx 2) 1 0)) ∧
    (((s.lane l).obj ((s.lane l).dcIdx 0) 0x0B ≠ 1 ∨ (s.lane l).dc.chopOn = true ∨ (s.lane l).dc.testing = true ∨
        (s.lane l).dc.vdc < (s.lane l).dcReal 9 ∨ (s.lane l).dcReal 1 - (s.lane l).dcReal 2 < (s.lane l).dc.vdc) →
      ∀ x, (s.lane l).writeErr m ((s.lane l).dcIdx 2) 1 data false false = some x →
        exec (.chopTest l m tid data) s = .next (s.on l fun L => L.answer m tid (L.dcIdx 2) 1 x))

/-- Gate rail, switch-node crossings, drive strength and refresh. GATE_RAIL_FAULT completes: a lane-out under its
own code, every gate low; a rail that is off raises nothing. SWITCH_NODE_CROSSING completes: on a served
bridge that switches, a valid crossing becomes the measured delay of its edge to 0.78 ns and ends the count of
missing ones, the other gate of the leg off; a missing one counts while the phase is loaded, else ends the
count; while the outgoing gate still reads high both gates of the leg are off. DRIVE_STRENGTH_LIMIT completes:
1000 periods at a limit are a record. BOOTSTRAP_REFRESH completes: a leg low for 16 short intervals is
refreshed in the next period. In any other state each changes nothing. -/
def Obligations.GateAdaptation : Prop :=
    ∀ (s : State) (l : LaneId) (b : Fin 8),
    (∀ low, ((s.lane l).alive = true → (s.lane l).pwr.vgdOn = true →
      ∃ t, exec (.gateRailFault l low) s = .next t ∧ OnlyLane l s t ∧ (t.lane l).pwr.vgdBad = true ∧
        (t.lane l).pwr.stopLine = true ∧ (t.lane l).flog.last = (if low then 0x6FC1 else 0x6FC2) ∧
        (∀ c, ((t.lane l).gates.get c).onOut = 0) ∧ (t.lane l).dc.chopOn = false) ∧
      (((s.lane l).alive = false ∨ (s.lane l).pwr.vgdOn = false) → exec (.gateRailFault l low) s = .next s)) ∧
    ((s.lane l).served b = true → modeSwitches ((s.lane l).bridges.get b).mode = true →
      (∀ (p : Phase) (rise : Bool) (e : Rat), 0 ≤ e → e ≤ 2000 →
        ∃ t, exec (.switchNodeCrossing l b p { rise := rise, edge := some e, stuck := false }) s = .next t ∧
          OnlyLane l s t ∧
          (rise = true → ((t.lane l).bridges.get b).advance.get p = timed e) ∧
          (rise = false → ((t.lane l).bridges.get b).advanceF.get p = timed e) ∧
          sideOf (((t.lane l).gates.get b).noValid.get p) rise = 0 ∧
          ((t.lane l).gates.get b).onOut.getLsbD (outNum p (!rise)) = false ∧
          ((t.lane l).bridges.get b).mode = ((s.lane l).bridges.get b).mode) ∧
      (∀ (p : Phase) (rise : Bool) (e : Option Rat), (∀ x, e = some x → x < 0 ∨ 2000 < x) →
        exec (.switchNodeCrossing l b p { rise := rise, edge := e, stuck := false }) s = .next (s.on l fun L =>
          L.onGate b fun g => { g with noValid := g.noValid.set p (setSide (g.noValid.get p) rise
            (if L.phaseLoaded b p then sideOf (g.noValid.get p) rise + 1 else 0)) })) ∧
      (∀ (p : Phase) (rise : Bool) (e : Option Rat),
        ∃ t, exec (.switchNodeCrossing l b p { rise := rise, edge := e, stuck := true }) s = .next t ∧
          OnlyLane l s t ∧ ((t.lane l).gates.get b).onOut.getLsbD (outNum p true) = false ∧
          ((t.lane l).gates.get b).onOut.getLsbD (outNum p false) = false ∧
          (t.lane l).bridges = (s.lane l).bridges)) ∧
    (((s.lane l).served b = false ∨ modeSwitches ((s.lane l).bridges.get b).mode = false) →
      ∀ (p : Phase) (c : Crossing), exec (.switchNodeCrossing l b p c) s = .next s) ∧
    (∀ p high, (1000 ≤ sideOf (((s.lane l).gates.get b).limRun.get p) high →
        exec (.driveStrengthLimit l b p high) s = .next (s.on l fun L =>
          (L.onGate b fun g =>
            { g with drvLim := true, limRun := g.limRun.set p (setSide (g.limRun.get p) high 0) }).raise
            (0x2000 + b.val * 0x40 + 6) 0 (outNum p high))) ∧
      (sideOf (((s.lane l).gates.get b).limRun.get p) high < 1000 →
        exec (.driveStrengthLimit l b p high) s = .next s)) ∧
    (∀ p, (16 ≤ ((s.lane l).bridges.get b).lowRun.get p →
        exec (.bootstrapRefresh l b p) s = .next (s.on l fun L => L.onBr b fun br =>
          { br with refresh := br.refresh.set p true, lowRun := br.lowRun.set p 0 })) ∧
      (((s.lane l).bridges.get b).lowRun.get p < 16 → exec (.bootstrapRefresh l b p) s = .next s))

/-- Short-circuit detections, soft turn-off and bootstrap supplies. HARD_OVERCURRENT, DESATURATION_DETECT and
GATE_READBACK_MISMATCH complete: on a served bridge outside a wait with outputs on each opens or joins an
episode, the outputs that are on in soft turn-off and none commanded on, its own flag set, the bridge ALL_OFF
while the stop line is released. In a fault wait each only counts. With nothing on and no soft turn-off an
overcurrent is a fault wait at once. An output under soft turn-off mismatches nothing; a transistor that
cannot be on detects nothing; an unserved bridge ignores all. SOFT_TURNOFF_END completes: an episode ends in a
fault wait while fewer than three tries lie in the last second, else in a latch; without an episode nothing
changes. BOOTSTRAP_UVLO completes: a low supply of a served bridge places it in a fault wait, in a wait it
only counts, within an episode it is only recorded; unserved, nothing changes. -/
def Obligations.ShortCircuitEpisodes : Prop :=
    (∀ (s : State) (l : LaneId) (b : Fin 8), (s.lane l).served b = true →
    (((s.lane l).gates.get b).wait = false → (s.lane l).outOn b ≠ 0 →
      (∃ t, exec (.hardOvercurrent l b) s = .next t ∧ OnlyLane l s t ∧ ((t.lane l).gates.get b).episode = true ∧
        ((t.lane l).gates.get b).oc = true ∧ ((t.lane l).gates.get b).onOut = 0 ∧
        ((t.lane l).gates.get b).soft = ((s.lane l).gates.get b).soft ||| (s.lane l).outOn b ∧
        ((s.lane l).pwr.stopLine = false → ((t.lane l).bridges.get b).mode = .allOff) ∧
        (t.lane l).vote = (s.lane l).vote) ∧
      (∀ out : Fin 6, ((s.lane l).outOn b).getLsbD out.val = true ∨
        modeSwitches ((s.lane l).bridges.get b).mode = true →
        ∃ t, exec (.desaturationDetect l b out) s = .next t ∧ OnlyLane l s t ∧
          ((t.lane l).gates.get b).episode = true ∧ ((t.lane l).gates.get b).onOut = 0 ∧
          ((t.lane l).gates.get b).desat.getLsbD out.val = true ∧
          ((t.lane l).gates.get b).soft.getLsbD out.val = true ∧
          ((s.lane l).pwr.stopLine = false → ((t.lane l).bridges.get b).mode = .allOff) ∧
          (t.lane l).vote = (s.lane l).vote) ∧
      (∀ out : Fin 6, ((s.lane l).gates.get b).soft.getLsbD out.val = false →
        ∃ t, exec (.gateReadbackMismatch l b out) s = .next t ∧ OnlyLane l s t ∧
          ((t.lane l).gates.get b).episode = true ∧ ((t.lane l).gates.get b).onOut = 0 ∧
          ((t.lane l).gates.get b).gfb = true ∧
          ((t.lane l).gates.get b).soft = ((s.lane l).gates.get b).soft ||| (s.lane l).outOn b ∧
          ((s.lane l).pwr.stopLine = false → ((t.lane l).bridges.get b).mode = .allOff) ∧
          (t.lane l).vote = (s.lane l).vote)) ∧
    (((s.lane l).gates.get b).wait = false → (s.lane l).outOn b = 0 → ((s.lane l).gates.get b).soft = 0 →
      ((s.lane l).gates.get b).episode = false → ((s.lane l).gates.get b).latch = false →
      ((s.lane l).triesNow b).length < 3 →
      ∃ t, exec (.hardOvercurrent l b) s = .next t ∧ OnlyLane l s t ∧ ((t.lane l).gates.get b).wait = true ∧
        ((t.lane l).gates.get b).waitKind = 3 ∧ ((t.lane l).gates.get b).oc = true) ∧
    (((s.lane l).gates.get b).wait = true →
      exec (.hardOvercurrent l b) s = .next (s.on l fun L => L.countOnly (0x2000 + b.val * 0x40 + 3)) ∧
      (∀ out : Fin 6, exec (.desaturationDetect l b out) s = .next (s.on l fun L =>
        L.countOnly (0x2000 + b.val * 0x40 + (if out.val % 2 = 0 then 1 else 2)))) ∧
      (∀ out : Fin 6, (((s.lane l).gates.get b).soft.getLsbD out.val) = false →
        exec (.gateReadbackMismatch l b out) s = .next (s.on l fun L => L.countOnly (0x2000 + b.val * 0x40 + 5)))) ∧
    (∀ p, ((s.lane l).gates.get b).wait = true →
      ∃ t, exec (.bootstrapUvlo l b p) s = .next t ∧ OnlyLane l s t ∧
        ((t.lane l).gates.get b).bsUv.get p = true ∧ (t.lane l).bridges = (s.lane l).bridges ∧
        (t.lane l).kiln.uvloBs.get b = satInc ((s.lane l).kiln.uvloBs.get b)) ∧
    (∀ p, ((s.lane l).gates.get b).wait = false → ((s.lane l).gates.get b).episode = true →
      ∃ t, exec (.bootstrapUvlo l b p) s = .next t ∧ OnlyLane l s t ∧
        ((t.lane l).gates.get b).bsUv.get p = true ∧ ((t.lane l).gates.get b).episode = true ∧
        (t.lane l).bridges = (s.lane l).bridges ∧
        (t.lane l).flog.last = BitVec.ofNat 16 (0x2000 + b.val * 0x40 + 4)) ∧
    (∀ p, ((s.lane l).gates.get b).wait = false → ((s.lane l).gates.get b).episode = false →
      ((s.lane l).gates.get b).latch = false → ((s.lane l).triesNow b).length < 3 →
      ∃ t, exec (.bootstrapUvlo l b p) s = .next t ∧ OnlyLane l s t ∧ ((t.lane l).gates.get b).wait = true ∧
        ((t.lane l).gates.get b).waitKind = 4 ∧ ((t.lane l).gates.get b).onOut = 0)) ∧
    (∀ (s : State) (l : LaneId) (b : Fin 8),
      ((s.lane l).served b = false → exec (.hardOvercurrent l b) s = .next s ∧
        (∀ out, exec (.desaturationDetect l b out) s = .next s) ∧
        (∀ out, exec (.gateReadbackMismatch l b out) s = .next s) ∧ (∀ p, exec (.bootstrapUvlo l b p) s = .next s)) ∧
      (∀ out : Fin 6, ((s.lane l).gates.get b).soft.getLsbD out.val = true →
        exec (.gateReadbackMismatch l b out) s = .next s) ∧
      (∀ out : Fin 6, ((s.lane l).gates.get b).wait = false → ((s.lane l).gates.get b).episode = false →
        ((s.lane l).outOn b).getLsbD out.val = false → modeSwitches ((s.lane l).bridges.get b).mode = false →
        exec (.desaturationDetect l b out) s = .next s) ∧
      (((s.lane l).gates.get b).episode = true →
        ∃ t, exec (.softTurnoffEnd l b) s = .next t ∧ OnlyLane l s t ∧
          ((t.lane l).gates.get b).episode = false ∧ ((t.lane l).gates.get b).soft = 0 ∧
          (t.lane l).vote = (s.lane l).vote ∧
          (((s.lane l).gates.get b).latch = false → ((s.lane l).triesNow b).length < 3 →
            ((t.lane l).gates.get b).wait = true ∧
            ((t.lane l).gates.get b).waitKind = ((s.lane l).gates.get b).epKind) ∧
          (((s.lane l).gates.get b).latch = false → 3 ≤ ((s.lane l).triesNow b).length →
            ((t.lane l).gates.get b).latch = true ∧ ((t.lane l).gates.get b).wait = false)) ∧
      (((s.lane l).gates.get b).episode = false → exec (.softTurnoffEnd l b) s = .next s))

/-- Fault waits, tries, latches and the end of a self-test. FAULT_WAIT_END completes: at the end of its wait a
bridge makes a try, which counts. TRY_RELEASE completes: a released try ends with its bootstrap supplies up.
TRY_TIMEOUT completes: a try that times out is a fault event of the same kind, and with three tries in the
last second the bridge latches. SELFTEST_COMPLETE completes: a test that passes reports it and ends the
isolation of an earlier failure, one that fails isolates the set of a mapped bridge, an aborted one is a
record. Without a wait, a try or a test nothing changes. -/
def Obligations.FaultWaitsAndTries : Prop :=
    ∀ (s : State) (l : LaneId) (b : Fin 8),
    (((s.lane l).gates.get b).wait = true →
      ∃ t, exec (.faultWaitEnd l b) s = .next t ∧ OnlyLane l s t ∧ ((t.lane l).gates.get b).wait = false ∧
        ((t.lane l).gates.get b).trying = true ∧
        ((t.lane l).gates.get b).tries = (s.lane l).tb.mono :: (s.lane l).triesNow b ∧
        (t.lane l).vote = (s.lane l).vote) ∧
    (((s.lane l).gates.get b).wait = false → exec (.faultWaitEnd l b) s = .next s) ∧
    (((s.lane l).gates.get b).trying = true →
      (∃ t, exec (.tryRelease l b) s = .next t ∧ OnlyLane l s t ∧ ((t.lane l).gates.get b).trying = false ∧
        ((t.lane l).gates.get b).bsUv = ⟨false, false, false⟩ ∧ (t.lane l).vote = (s.lane l).vote) ∧
      (((s.lane l).gates.get b).latch = false → ((s.lane l).triesNow b).length < 3 →
        ∃ t, exec (.tryTimeout l b) s = .next t ∧ OnlyLane l s t ∧ ((t.lane l).gates.get b).wait = true ∧
          ((t.lane l).gates.get b).trying = false ∧ (t.lane l).vote = (s.lane l).vote ∧
          ((t.lane l).gates.get b).waitKind = ((s.lane l).gates.get b).waitKind) ∧
      (((s.lane l).gates.get b).latch = false → 3 ≤ ((s.lane l).triesNow b).length →
        ∃ t, exec (.tryTimeout l b) s = .next t ∧ OnlyLane l s t ∧ ((t.lane l).gates.get b).latch = true ∧
          ((t.lane l).gates.get b).wait = false ∧ ((t.lane l).gates.get b).trying = false ∧
          ((t.lane l).gates.get b).latchedKind = BitVec.ofNat 8 ((s.lane l).gates.get b).waitKind)) ∧
    (((s.lane l).gates.get b).trying = false →
      exec (.tryRelease l b) s = .next s ∧ exec (.tryTimeout l b) s = .next s) ∧
    (((s.lane l).gates.get b).testing = true →
      (∀ m, ((s.lane l).gates.get b).testBy = some m →
        ∃ t, exec (.selftestComplete l b (.done 0 false 0)) s = .next t ∧ OnlyLane l s t ∧
          ((t.lane l).gates.get b).testing = false ∧
          ((t.lane l).gates.get b).result = ((s.lane l).gates.get b).result.finish m 0 ∧
          ((t.lane l).bridges.get b).isolKinds =
            ((s.lane l).bridges.get b).isolKinds.filter (· ≠ 0x2000 + b.val * 0x40 + 8)) ∧
      (∀ desat oc bs, (desat ≠ 0 ∨ oc = true ∨ bs ≠ 0) →
        ∃ t, exec (.selftestComplete l b (.done desat oc bs)) s = .next t ∧ OnlyLane l s t ∧
          ((t.lane l).gates.get b).testing = false ∧ (t.lane l).vote = (s.lane l).vote ∧
          (t.lane l).flog.last = BitVec.ofNat 16 (0x2000 + b.val * 0x40 + 8) ∧
          ∀ n, (s.lane l).actOf b = some n → 0x2000 + b.val * 0x40 + 8 ∈ ((t.lane l).bridges.get b).isolKinds) ∧
      (∃ t, exec (.selftestComplete l b .aborted) s = .next t ∧ OnlyLane l s t ∧
        ((t.lane l).gates.get b).testing = false ∧
        (t.lane l).flog.last = BitVec.ofNat 16 (0x2000 + b.val * 0x40 + 9) ∧
        (t.lane l).bridges = (s.lane l).bridges)) ∧
    (((s.lane l).gates.get b).testing = false → ∀ e, exec (.selftestComplete l b e) s = .next s)

/-- Samples of the DC link and checks of the chopper. VDC_SAMPLE completes: in a running lane the sample, read as
0 V to 80 V, becomes vdc and the newest of the last four, its chopper current is taken, and a held chopper is
off. LINK_SENSE_DISAGREE completes: three disagreeing rounds are a lane-out. CHOPPER_CURRENT_CHECK completes:
a check against Iexp counts towards an open, wrong or conducting chopper or ends the run; a faulty chopper
only has its current taken; a third check in a test turns the chopper off. CHOPPER_FAULT completes: the third
failure of a kind makes the chopper faulty. CHOPPER_ENERGY_UPDATE completes: the account integrates and trips
at its cap. CHOPPER_TEST_COMPLETE completes with the off check: a test whose checks all pass clears the fault,
one that failed sets it. In any other state each changes nothing. -/
def Obligations.LinkSamplesAndChopper : Prop :=
    ∀ (s : State) (l : LaneId),
    (∀ v i : Rat, ((s.lane l).alive = true → ∃ t, exec (.vdcSample l { v := v, chi := i }) s = .next t ∧ OnlyLane l s t ∧
        (t.lane l).dc.vdc = max 0 (min 80 v) ∧ (t.lane l).dc.chi = i ∧
        (t.lane l).dc.recent = (max 0 (min 80 v) :: (s.lane l).dc.recent).take 4 ∧
        (t.lane l).dc.vdcNs = (s.lane l).tb.ns ∧
        (((s.lane l).pwr.stopLine = true ∨ (s.lane l).pwr.vgdBad = true ∨ (s.lane l).pwr.vgdOn = false) →
          (t.lane l).dc.chopOn = false) ∧
        (t.lane l).vote = (s.lane l).vote) ∧
      ((s.lane l).alive = false → exec (.vdcSample l { v := v, chi := i }) s = .next s)) ∧
    (3 ≤ (s.lane l).dc.senseRun → exec (.linkSenseDisagree l) s = .next (s.on l fun L =>
      ({ L with dc := { L.dc with senseRun := 0 } } : Lane).laneOut 0x6F8A)) ∧
    ((s.lane l).dc.senseRun < 3 → exec (.linkSenseDisagree l) s = .next s) ∧
    (∀ i : Rat, (s.lane l).alive = true → (s.lane l).dc.testing = false → (s.lane l).dc.chopFault = false →
      let e := (s.lane l).dc.vdc / (s.lane l).dcReal 0x0C
      ((s.lane l).dc.chopOn = true → i < 3 / 10 * e →
        exec (.chopperCurrentCheck l i) s = .next (s.on l fun L =>
          { L with dc := { L.dc with chi := i, openRun := L.dc.openRun + 1, wrongRun := 0 } })) ∧
      ((s.lane l).dc.chopOn = true → 3 / 10 * e ≤ i → (i ≤ 7 / 10 * e ∨ 13 / 10 * e < i) →
        exec (.chopperCurrentCheck l i) s = .next (s.on l fun L =>
          { L with dc := { L.dc with chi := i, openRun := 0, wrongRun := L.dc.wrongRun + 1 } })) ∧
      ((s.lane l).dc.chopOn = true → 3 / 10 * e ≤ i → 7 / 10 * e < i → i ≤ 13 / 10 * e →
        exec (.chopperCurrentCheck l i) s = .next (s.on l fun L =>
          { L with dc := { L.dc with chi := i, openRun := 0, wrongRun := 0 } })) ∧
      ((s.lane l).dc.chopOn = false →
        exec (.chopperCurrentCheck l i) s = .next (s.on l fun L =>
          { L with dc := { L.dc with
            chi := i, condRun := if max 1 (e / 10) < i then L.dc.condRun + 1 else 0 } }))) ∧
    (∀ i : Rat, (s.lane l).alive = true → (s.lane l).dc.testing = false → (s.lane l).dc.chopFault = true →
      exec (.chopperCurrentCheck l i) s = .next (s.on l fun L => { L with dc := { L.dc with chi := i } })) ∧
    (∀ i : Rat, (s.lane l).alive = true → (s.lane l).dc.testing = true →
      ∃ t, exec (.chopperCurrentCheck l i) s = .next t ∧ OnlyLane l s t ∧ (t.lane l).dc.chi = i ∧
        (t.lane l).dc.testChecks = (s.lane l).dc.testChecks + 1 ∧
        (2 ≤ (s.lane l).dc.testChecks → (t.lane l).dc.chopOn = false) ∧ (t.lane l).vote = (s.lane l).vote) ∧
    (∀ i : Rat, (s.lane l).alive = false → exec (.chopperCurrentCheck l i) s = .next s) ∧
    ((s.lane l).dc.chopFault = false →
      (3 ≤ (s.lane l).dc.openRun ∨ 3 ≤ (s.lane l).dc.wrongRun ∨ 3 ≤ (s.lane l).dc.condRun) →
      ∃ t, exec (.chopperFault l) s = .next t ∧ OnlyLane l s t ∧ (t.lane l).dc.chopFault = true ∧
        (t.lane l).dc.chopFaultKind = (if 3 ≤ (s.lane l).dc.openRun then 1
          else if 3 ≤ (s.lane l).dc.wrongRun then 2 else 3) ∧
        (t.lane l).dc.openRun = 0 ∧ (t.lane l).dc.wrongRun = 0 ∧ (t.lane l).dc.condRun = 0 ∧
        ((s.lane l).dc.hwHold = false → (s.lane l).dc.testing = false → (t.lane l).dc.chopOn = false) ∧
        (t.lane l).vote = (s.lane l).vote) ∧
    (((s.lane l).dc.chopFault = true ∨
        (s.lane l).dc.openRun < 3 ∧ (s.lane l).dc.wrongRun < 3 ∧ (s.lane l).dc.condRun < 3) →
      exec (.chopperFault l) s = .next s) ∧
    ((s.lane l).alive = true →
      ∃ t, exec (.chopperEnergyUpdate l) s = .next t ∧ OnlyLane l s t ∧
        (t.lane l).dc.energy = max 0 ((s.lane l).dc.energy +
          ((s.lane l).dc.vdc * (s.lane l).dc.chi - (s.lane l).dcReal 0x0E) / 100000) ∧
        ((s.lane l).dcReal 0x0F < (t.lane l).dc.energy → (t.lane l).dc.chopHot = true) ∧
        (t.lane l).vote = (s.lane l).vote) ∧
    ((s.lane l).alive = false → exec (.chopperEnergyUpdate l) s = .next s) ∧
    (∀ i : Rat, (s.lane l).dc.testing = true →
      (((s.lane l).dc.testKind = 0 ∧ i ≤ max 1 ((s.lane l).dc.vdc / (s.lane l).dcReal 0x0C / 10)) →
        ∃ t, exec (.chopperTestComplete l i) s = .next t ∧ OnlyLane l s t ∧ (t.lane l).dc.testing = false ∧
          (t.lane l).dc.chopFault = false ∧ (t.lane l).dc.ctest = 1 ∧ (t.lane l).flog = (s.lane l).flog) ∧
      (((s.lane l).dc.testKind ≠ 0 ∨ max 1 ((s.lane l).dc.vdc / (s.lane l).dcReal 0x0C / 10) < i) →
        ∃ t, exec (.chopperTestComplete l i) s = .next t ∧ OnlyLane l s t ∧
          (t.lane l).dc.testing = false ∧ (t.lane l).dc.chopFault = true ∧
          (t.lane l).dc.chopFaultKind = (if (s.lane l).dc.testKind = 0 then 3 else (s.lane l).dc.testKind) ∧
          (t.lane l).dc.ctest = 2)) ∧
    ((s.lane l).dc.testing = false → ∀ i : Rat, exec (.chopperTestComplete l i) s = .next s)

/-- Over-voltage and under-voltage of the DC link. OV3_TIMEOUT completes: OV3 that outlasts its time is a lane-
out. HW_OV_TRIP completes: a trip of a running lane holds every bridge off, a mapped one in ALL_OFF while the
stop line is released and any other DISABLED, and turns the chopper on unless its gate is held low; the third
within 60 s is a lane-out. HW_OV_RELEASE completes: the hold ends, and a bridge with no other opening and no
request returns through DISABLED. LINK_UNDERVOLTAGE completes: every mapped set of the lane is isolated.
LINK_UV_RECOVER completes: that cause alone ends. In any other state each changes nothing. -/
def Obligations.LinkProtection : Prop :=
    ∀ (s : State) (l : LaneId),
    ((s.lane l).dc.ov3 = true → exec (.ov3Timeout l) s = .next (s.on l fun L => L.laneOut 0x6F86)) ∧
    ((s.lane l).dc.ov3 = false → exec (.ov3Timeout l) s = .next s) ∧
    ((s.lane l).alive = true → (s.lane l).dc.hwHold = false →
      ∃ t, exec (.hwOvTrip l) s = .next t ∧ OnlyLane l s t ∧ (t.lane l).dc.hwHold = true ∧
        (t.lane l).dc.hwTrips = satInc (s.lane l).dc.hwTrips ∧ (t.lane l).dc.testing = false ∧
        (t.lane l).flog.last = 0x6F87 ∧
        ((recent (s.lane l).tb.mono 60000000000 (s.lane l).dc.hwTimes).length < 2 →
          (t.lane l).vote = (s.lane l).vote ∧ (t.lane l).dc.chopOn = !(s.lane l).chopHeld ∧
          ∀ b, ((t.lane l).bridges.get b).mode =
            if (s.lane l).pwr.stopLine || ((s.lane l).actOf b).isNone then .disabled else .allOff) ∧
        (2 ≤ (recent (s.lane l).tb.mono 60000000000 (s.lane l).dc.hwTimes).length →
          (s.lane l).vote.outNow = false → (t.lane l).vote.role = .out)) ∧
    (((s.lane l).alive = false ∨ (s.lane l).dc.hwHold = true) → exec (.hwOvTrip l) s = .next s) ∧
    ((s.lane l).dc.hwHold = true → ∃ t, exec (.hwOvRelease l) s = .next t ∧ OnlyLane l s t ∧
      (t.lane l).dc.hwHold = false ∧ (t.lane l).vote = (s.lane l).vote ∧
      ((s.lane l).dc.ov3 = false → ∀ b, ((s.lane l).gates.get b).wait = false →
        ((s.lane l).gates.get b).trying = false → ((s.lane l).gates.get b).latch = false →
        ((s.lane l).gates.get b).soft = 0 → ((s.lane l).gates.get b).episode = false →
        ((s.lane l).bridges.get b).short = false → ((s.lane l).bridges.get b).off = false →
        ((t.lane l).bridges.get b).mode = .disabled)) ∧
    ((s.lane l).dc.hwHold = false → exec (.hwOvRelease l) s = .next s) ∧
    ((s.lane l).alive = true → (s.lane l).dc.uv2 = false → ∃ t, exec (.linkUndervoltage l) s = .next t ∧ OnlyLane l s t ∧
      (t.lane l).dc.uv2 = true ∧ (t.lane l).vote = (s.lane l).vote ∧
      ∀ b n, (s.lane l).actOf b = some n → 0x6F88 ∈ ((t.lane l).bridges.get b).isolKinds ∧
        ((t.lane l).fes.get b).asrc = .isolated) ∧
    (((s.lane l).alive = false ∨ (s.lane l).dc.uv2 = true) → exec (.linkUndervoltage l) s = .next s) ∧
    ((s.lane l).dc.uv2 = true → ∃ t, exec (.linkUvRecover l) s = .next t ∧ OnlyLane l s t ∧ (t.lane l).dc.uv2 = false ∧
      (∀ b, ((t.lane l).bridges.get b).isolKinds = ((s.lane l).bridges.get b).isolKinds.filter (· ≠ 0x6F88)) ∧
      (t.lane l).vote = (s.lane l).vote ∧ (t.lane l).flog = (s.lane l).flog) ∧
    ((s.lane l).dc.uv2 = false → exec (.linkUvRecover l) s = .next s)

/-- Frame starts at a star port, and its guardian. STAR_FRAME_ARRIVAL completes: a start that the guardian does
not admit is blocked and counted; an admitted one at a free star is repeated 320 ns later to every port that
serves, until its limit at the latest; at a busy star it is blocked, but of higher rank in the same 8 ns
quantum it takes the star and blocks the frame found there. NORMAL admits a start within tACC of its slot's
point on the slot's port in a cycle it is used in; OPEN counts the starts of a port. A port that does not
serve, or a lane that does not run, takes none. GUARDIAN_TRUNCATE completes: a frame past its limit ends
there, marked cut; any other runs on. GUARDIAN_HOLDOVER_END completes: it closes the guardian of an ACTIVE
node. PORT_LINK_CHANGE completes: the port's link reads back, other ports, votes and lanes stay.
PORT_BLOCKED_PERSIST completes: 8 blocked cycles are a record. In any other state each changes nothing. -/
def Obligations.StarAndGuardian : Prop :=
    (∀ (s : State) (l : LaneId) (ch : Chan) (port : Nat) (f : StarStart), (s.lane l).alive = true → port < 7 →
      (s.lane l).portServes ch port = true →
      let c := (s.lane l).net.ch ch
      let N := fun L : Lane => if L.net.guardOpen then
          L.onCh ch fun x => { x with openStarts := setAt x.openStarts port (((x.openStarts[port]?).getD 0) + 1) }
        else L
      let R := fun (lim : Nat) (L : Lane) => L.onCh ch fun x => { x with
        busyNs := f.ns, busyUntil := f.ns + f.len, busyPort := port, outNs := f.ns + 320, limitNs := lim
        outPorts := (List.range 7).map fun k => (s.lane l).portServes ch k, cut := false }
      ((s.lane l).admits ch port f = none →
        exec (.starFrameArrival l ch port f) s = .next (s.on l fun L => (N L).onCh ch fun x => x.block port)) ∧
      (∀ lim, (s.lane l).admits ch port f = some lim → c.busyUntil ≤ f.ns →
        exec (.starFrameArrival l ch port f) s = .next (s.on l fun L => R lim (N L))) ∧
      (∀ lim, (s.lane l).admits ch port f = some lim → f.ns < c.busyUntil →
        (f.ns / 8 ≠ c.busyNs / 8 ∨ portRank c.busyPort ≤ portRank port) →
        exec (.starFrameArrival l ch port f) s = .next (s.on l fun L => (N L).onCh ch fun x => x.block port)) ∧
      (∀ lim, (s.lane l).admits ch port f = some lim → f.ns < c.busyUntil → f.ns / 8 = c.busyNs / 8 →
        portRank port < portRank c.busyPort →
        exec (.starFrameArrival l ch port f) s = .next (s.on l fun L =>
          R lim ((N L).onCh ch fun x => x.block c.busyPort)))) ∧
    (∀ (L : Lane) (ch : Chan) (port : Nat) (f : StarStart) (lim : Nat), L.net.guardOpen = false →
      L.admits ch port f = some lim → ∃ sv k, L.slotNow ch f.ns = some (sv, k) ∧ (L.desc ch sv k).port = port ∧
        (L.desc ch sv k).used L.net.cycleNow = true ∧
        (L.nodeTime f.ns - (L.atStar ch sv k : Int)).natAbs ≤ L.tAcc ∧
        lim = L.netTime (L.atStar ch sv k + L.tAcc + tLine (L.desc ch sv k).len - 96)) ∧
    (∀ (s : State) (l : LaneId) (ch : Chan),
      (∀ (port : Nat) (f : StarStart), ((s.lane l).alive = false ∨ 7 ≤ port ∨ (s.lane l).portServes ch port = false) →
        exec (.starFrameArrival l ch port f) s = .next s) ∧
      ((s.lane l).alive = true → ((s.lane l).net.ch ch).limitNs < ((s.lane l).net.ch ch).busyUntil →
        exec (.guardianTruncate l ch) s = .next (s.on l fun L => L.onCh ch fun c =>
          { c with busyUntil := c.limitNs, cut := true })) ∧
      (((s.lane l).alive = false ∨ ((s.lane l).net.ch ch).busyUntil ≤ ((s.lane l).net.ch ch).limitNs) →
        exec (.guardianTruncate l ch) s = .next s) ∧
      ((s.lane l).net.holdover = true → exec (.guardianHoldoverEnd l) s = .next (s.on l fun L =>
        { L with net := { L.net with holdover := false, guardOpen := !(L.net.state == .active) } })) ∧
      ((s.lane l).net.holdover = false → exec (.guardianHoldoverEnd l) s = .next s) ∧
      (∀ port up, (s.lane l).alive = true → (s.lane l).therm.cutL = false → port < 6 →
        ((s.lane l).net.ch ch).linkUp.length = 6 →
        ∃ t, exec (.portLinkChange l ch port up) s = .next t ∧ OnlyLane l s t ∧
          ((t.lane l).net.ch ch).linkUp[port]? = some up ∧
          (∀ q, q ≠ port → ((t.lane l).net.ch ch).linkUp[q]? = ((s.lane l).net.ch ch).linkUp[q]?) ∧
          (t.lane l).vote = (s.lane l).vote) ∧
      (∀ port up, ((s.lane l).alive = false ∨ (s.lane l).therm.cutL = true ∨ 6 ≤ port) →
        exec (.portLinkChange l ch port up) s = .next s) ∧
      (∀ port, (8 ≤ (((s.lane l).net.ch ch).blockedRun[port]?).getD 0 →
          exec (.portBlockedPersist l ch port) s = .next (s.on l fun L =>
            L.raise (0x4000 + (chanNum ch * 8 + port) * 0x40 + 7) 0)) ∧
        ((((s.lane l).net.ch ch).blockedRun[port]?).getD 0 < 8 → exec (.portBlockedPersist l ch port) s = .next s)))

/-- Frames received and sent, and the counts of slots. TSUVAS_FRAME_RECEIVED completes: a frame of the lane's own
node changes nothing but the free counter. In ACTIVE a frame that passes every check but its tag, an AES-CMAC
under its frame key, counts as an authentication failure with fault 0x9081; one that passes is stored fresh
where its slot has RX. A lane that does not run takes none. SLOT_LAUNCH completes: in ACTIVE an own static
slot whose buffer was READY at tREADY sends at its action point, without one it counts as empty, a sync or
cold-start slot sends in any case; an own service slot sends the responses formed by then; in COLDSTART the
cold-start slot of channel X sends a fill frame from the first allowed cycle on. In any other state, and for a
slot not the lane's own, nothing changes. SLOT_END completes: a used slot of another node without a passed
frame counts as invalid or empty; any other changes nothing. -/
def Obligations.FramesAndSlots : Prop :=
    (∀ (s : State) (l : LaneId) (ch : Chan) (f : FrameIn),
      ((s.lane l).alive = false → exec (.tsuvasFrameReceived l ch f) s = .next s) ∧
      ((s.lane l).alive = true →
        (f.cluster = (s.lane l).sched 0x4800 2 → f.node = (s.lane l).sched 0x4800 3 →
          ∃ t, exec (.tsuvasFrameReceived l ch f) s = .next t ∧ t.freeCtr = s.freeCtr + 1 ∧
            ∀ p, t.lane p = s.lane p) ∧
        (¬(f.cluster = (s.lane l).sched 0x4800 2 ∧ f.node = (s.lane l).sched 0x4800 3) →
          (s.lane l).net.state = .active → (s.lane l).frameForm ch f = true →
          (s.lane l).inWindow ch f (s.lane l).tAcc = true →
          ((s.lane l).frameTag f (s.lane l).net.cycleNow = false →
            ∃ t, exec (.tsuvasFrameReceived l ch f) s = .next t ∧
              (∀ p, p ≠ l → t.lane p = s.lane p) ∧ t.freeCtr = s.freeCtr + 1 ∧
              (t.lane l).net.authFail = satInc (s.lane l).net.authFail ∧ (t.lane l).flog.last = 0x9081 ∧
              (t.lane l).net.rxFrames = (s.lane l).net.rxFrames ∧ (t.lane l).vote = (s.lane l).vote) ∧
          ((s.lane l).frameTag f (s.lane l).net.cycleNow = true → f.kind = 0 → f.sync = false →
            ((s.lane l).desc ch false f.slot).rx = true →
            ∃ t, exec (.tsuvasFrameReceived l ch f) s = .next t ∧ (∀ p, p ≠ l → t.lane p = s.lane p) ∧
              (∃ r rest, (t.lane l).net.rxFrames = r :: rest ∧ r.ch = ch ∧ r.slot = f.slot ∧ r.payload = f.payload ∧
                r.fresh = true ∧ r.arrNs = f.arrNs) ∧
              ((t.lane l).net.ch ch).gotFrame = true ∧ f.slot ∈ ((t.lane l).net.ch ch).passed ∧
              (t.lane l).vote = (s.lane l).vote)))) ∧
    (∀ (s : State) (l : LaneId) (ch : Chan) (slot : Nat), (s.lane l).alive = true →
      (∀ sv, ((s.lane l).desc ch sv slot).port = 6 → (s.lane l).slotIn ch sv slot = true →
        ((s.lane l).desc ch sv slot).used (s.lane l).net.cycleNow = true →
        ((s.lane l).net.state = .active → sv = false →
          ((((s.lane l).desc ch false slot).sync = true ∨ ((s.lane l).desc ch false slot).cstart = true ∨
              (s.lane l).slotReady ch slot = true) →
            ∃ t, exec (.slotLaunch l ch slot sv) s = .next t ∧ OnlyLane l s t ∧
              (t.lane l).tb.ns = max (s.lane l).tb.ns ((s.lane l).netTime ((s.lane l).actionPoint ch false slot)) ∧
              ∃ x, (t.lane l).net.lastTx = some x ∧ x.slot = slot ∧ x.ch = ch ∧ x.service = false ∧
                x.cycle = (s.lane l).net.cycleNow ∧ x.atNs = (t.lane l).tb.ns) ∧
          (((s.lane l).desc ch false slot).sync = false → ((s.lane l).desc ch false slot).cstart = false →
            (s.lane l).slotReady ch slot = true → (s.lane l).tsReq ch slot = false →
            ∃ t x, exec (.slotLaunch l ch slot sv) s = .next t ∧ (t.lane l).net.lastTx = some x ∧ x.fill = false ∧
              (t.lane l).flog = (s.lane l).flog ∧ (t.lane l).net.txEmpty = (s.lane l).net.txEmpty) ∧
          (((s.lane l).desc ch false slot).sync = false → ((s.lane l).desc ch false slot).cstart = false →
            (s.lane l).slotReady ch slot = false →
            ∃ t, exec (.slotLaunch l ch slot sv) s = .next t ∧ OnlyLane l s t ∧
              (t.lane l).net.txEmpty = satInc (s.lane l).net.txEmpty ∧
              (t.lane l).net.lastTx = (s.lane l).net.lastTx)) ∧
        ((s.lane l).net.state = .active → sv = true →
          ((s.lane l).slotResponses ch slot = [] → exec (.slotLaunch l ch slot sv) s = .next s) ∧
          ((s.lane l).slotResponses ch slot ≠ [] →
            ∃ t x, exec (.slotLaunch l ch slot sv) s = .next t ∧ OnlyLane l s t ∧
              (t.lane l).net.lastTx = some x ∧ x.slot = slot ∧ x.ch = ch ∧ x.service = true)) ∧
        ((s.lane l).net.state = .coldstart →
          (ch = .X → ((s.lane l).desc ch sv slot).cstart = true → (s.lane l).net.csFrom ≤ (s.lane l).net.cycleNow →
            ∃ t x, exec (.slotLaunch l ch slot sv) s = .next t ∧ OnlyLane l s t ∧
              (t.lane l).net.lastTx = some x ∧ x.slot = slot ∧ x.ch = ch ∧ x.fill = true) ∧
          ((ch ≠ .X ∨ ((s.lane l).desc ch sv slot).cstart = false ∨
              (s.lane l).net.cycleNow < (s.lane l).net.csFrom) →
            exec (.slotLaunch l ch slot sv) s = .next s)) ∧
        ((s.lane l).net.state ≠ .active → (s.lane l).net.state ≠ .coldstart →
          exec (.slotLaunch l ch slot sv) s = .next s)) ∧
      (∀ sv, (((s.lane l).desc ch sv slot).port ≠ 6 ∨ (s.lane l).slotIn ch sv slot = false ∨
          ((s.lane l).desc ch sv slot).used (s.lane l).net.cycleNow = false) →
        exec (.slotLaunch l ch slot sv) s = .next s) ∧
      ((s.lane l).slotIn ch false slot = true → ((s.lane l).slot ch slot).port ≠ 7 →
        ((s.lane l).slot ch slot).port ≠ 6 → ((s.lane l).slot ch slot).used (s.lane l).net.cycleNow = true →
        slot ∉ ((s.lane l).net.ch ch).passed →
        exec (.slotEnd l ch slot) s = .next (s.on l fun L => L.onCh ch fun x =>
          { x with slots := bumpSlot x.slots slot fun k : SlotCount =>
            if ((s.lane l).net.ch ch).started.contains slot then { k with invalid := satInc k.invalid }
            else { k with empty := satInc k.empty } })) ∧
      (((s.lane l).slotIn ch false slot = false ∨ ((s.lane l).slot ch slot).port = 7 ∨
          ((s.lane l).slot ch slot).port = 6 ∨ ((s.lane l).slot ch slot).used (s.lane l).net.cycleNow = false ∨
          slot ∈ ((s.lane l).net.ch ch).passed) →
        exec (.slotEnd l ch slot) s = .next s)) ∧
    (∀ (s : State) (l : LaneId) (ch : Chan) (slot : Nat) (sv : Bool), (s.lane l).alive = false →
      exec (.slotLaunch l ch slot sv) s = .next s ∧ exec (.slotEnd l ch slot) s = .next s)

/-- The end of a network cycle and the loss of synchronisation, channel or network. NETWORK_CYCLE_END completes:
in a running lane the cycle number rises by one and no deviation is collected, the last cycle's kept; with
fewer than two sync values an ACTIVE node counts the cycle; while an entry is in its phases the node halts.
SYNC_LOSS completes: SYNC_LOSS such cycles return it to LISTEN with fault 0x4FC4, its time untouched.
CHANNEL_LOST, CHANNEL_RESTORED, NETWORK_LOST and NETWORK_RESTORED complete: a channel of an ACTIVE node
without frames for 3 cycles is lost under fault kind 1 and with 3 good cycles restored; the same for the
network in vote cycles under fault 0x4FC2. Before that each changes nothing. -/
def Obligations.NetworkCycleAndLoss : Prop :=
    ∀ (s : State) (l : LaneId),
    ((s.lane l).alive = true → ∃ t, exec (.networkCycleEnd l) s = .next t ∧ OnlyLane l s t ∧
      (t.lane l).net.cycleNow = (s.lane l).net.cycleNow + 1 ∧ (t.lane l).net.devNow = [] ∧
      (t.lane l).net.devEven = (s.lane l).net.devNow ∧ (t.lane l).net.extDes = none ∧
      ((s.lane l).pwr.phase = 0 → (s.lane l).net.state = .active →
        ((s.lane l).devs (s.lane l).net.devNow).length < 2 →
        (t.lane l).net.lowSync = (s.lane l).net.lowSync + 1 ∧ (t.lane l).net.state = .active) ∧
      ((s.lane l).pwr.phase ≠ 0 → (t.lane l).net.state = .halt) ∧
      (t.lane l).vote = (s.lane l).vote) ∧
    ((s.lane l).alive = false → exec (.networkCycleEnd l) s = .next s) ∧
    ((s.lane l).net.state = .active → (s.lane l).sched 0x4800 0x15 ≤ (s.lane l).net.lowSync →
      ∃ t, exec (.syncLoss l) s = .next t ∧ OnlyLane l s t ∧ (t.lane l).net.state = .listen ∧
        (t.lane l).flog.last = 0x4FC4 ∧ (t.lane l).tb = (s.lane l).tb ∧ (t.lane l).vote = (s.lane l).vote) ∧
    (((s.lane l).net.state ≠ .active ∨ (s.lane l).net.lowSync < (s.lane l).sched 0x4800 0x15) →
      exec (.syncLoss l) s = .next s) ∧
    (∀ ch, ((s.lane l).net.state = .active → 3 ≤ ((s.lane l).net.ch ch).lostRun →
        ((s.lane l).net.ch ch).lost = false →
        exec (.channelLost l ch) s = .next (s.on l fun L =>
          (L.onCh ch fun c => { c with lost := true }).raise (if ch = .X then 0x4001 else 0x4041) 0)) ∧
      (((s.lane l).net.state ≠ .active ∨ ((s.lane l).net.ch ch).lostRun < 3 ∨ ((s.lane l).net.ch ch).lost = true) →
        exec (.channelLost l ch) s = .next s)) ∧
    (∀ ch, (((s.lane l).net.ch ch).lost = true → 3 ≤ ((s.lane l).net.ch ch).okRun →
        exec (.channelRestored l ch) s = .next (s.on l fun L => L.onCh ch fun c => { c with lost := false })) ∧
      ((((s.lane l).net.ch ch).lost = false ∨ ((s.lane l).net.ch ch).okRun < 3) →
        exec (.channelRestored l ch) s = .next s)) ∧
    (3 ≤ (s.lane l).net.netBad → (s.lane l).net.netLost = false →
      exec (.networkLost l) s = .next (s.on l fun L =>
        ({ L with net := { L.net with netLost := true } } : Lane).raise 0x4FC2 2)) ∧
    (((s.lane l).net.netBad < 3 ∨ (s.lane l).net.netLost = true) → exec (.networkLost l) s = .next s) ∧
    ((s.lane l).net.netLost = true → 3 ≤ (s.lane l).net.netGood →
      exec (.networkRestored l) s = .next (s.on l fun L => { L with net := { L.net with netLost := false } })) ∧
    (((s.lane l).net.netLost = false ∨ (s.lane l).net.netGood < 3) → exec (.networkRestored l) s = .next s)

/-- Cold start and the comparison with a peer. LISTEN_TIMEOUT completes: a listening cold-start node allowed to
lead starts a cold start, counts it and sends from the next cycle on; any other stays. COLDSTART_COLLISION
completes: the transmission ends, the attempt is given up with fault 0x4005 and a backoff, which
BACKOFF_EXPIRY ends. COLDSTART_CYCLE_END completes: a second confirmed cycle makes the node ACTIVE, without an
ACTIVE peer or once its time was compared; else the count goes on and the eighth cycle gives the attempt up.
Outside COLDSTART both change nothing. PEER_TIME_READ completes: a read that counts lets a listening node
lead, within 5 microseconds admits a node that integrates, mutes or starts, beyond that returns it to LISTEN
barred, which TIME_MISMATCH_RETRY ends; one that does not count changes nothing. -/
def Obligations.ColdStart : Prop :=
    (∀ (s : State) (l : LaneId),
    ((s.lane l).net.state = .listen → (s.lane l).nodeRole 1 = true → (s.lane l).nodeRole 2 = false →
      (s.lane l).net.backoff = false → (s.lane l).net.barred = false → s.leadAllowed l = true →
      ∃ t, exec (.listenTimeout l) s = .next t ∧ OnlyLane l s t ∧ (t.lane l).net.state = .coldstart ∧
        (t.lane l).net.startups = satInc (s.lane l).net.startups ∧ (t.lane l).net.leader = true ∧
        (t.lane l).net.csFrom = (t.lane l).net.cycleNow + 1 ∧ (t.lane l).tb = (s.lane l).tb) ∧
    (((s.lane l).net.state ≠ .listen ∨ (s.lane l).nodeRole 1 = false ∨ (s.lane l).nodeRole 2 = true ∨
        (s.lane l).net.backoff = true ∨ (s.lane l).net.barred = true ∨ s.leadAllowed l = false) →
      exec (.listenTimeout l) s = .next s) ∧
    ((s.lane l).net.state = .coldstart →
      (∃ t, exec (.coldstartCollision l) s = .next t ∧ OnlyLane l s t ∧ (t.lane l).net.state = .listen ∧
        (t.lane l).net.backoff = true ∧ (t.lane l).net.leader = false ∧
        (∀ x, (t.lane l).net.lastTx = some x → x.cut = true) ∧
        (t.lane l).net.collisions = satInc (s.lane l).net.collisions ∧ (t.lane l).flog.last = 0x4005) ∧
      ((s.lane l).net.csSeen = true → 1 ≤ (s.lane l).net.csConfirm →
        (s.peerActive l = false ∨ (s.lane l).net.peerOk = true) →
        ∃ t, exec (.coldstartCycleEnd l) s = .next t ∧ OnlyLane l s t ∧ (t.lane l).net.state = .active ∧
          (t.lane l).tb.cluster = none ∧ (t.lane l).vote = (s.lane l).vote) ∧
      (((s.lane l).net.csSeen = false ∨ (s.lane l).net.csConfirm = 0 ∨
          s.peerActive l = true ∧ (s.lane l).net.peerOk = false) →
        ((s.lane l).net.csCycles < 7 →
          exec (.coldstartCycleEnd l) s = .next (s.on l fun L => { L with net := { L.net with
            csConfirm := (if L.net.csSeen then L.net.csConfirm + 1 else 0)
            csCycles := L.net.csCycles + 1, csSeen := false } })) ∧
        (7 ≤ (s.lane l).net.csCycles →
          ∃ t, exec (.coldstartCycleEnd l) s = .next t ∧ OnlyLane l s t ∧ (t.lane l).net.state = .listen ∧
            (t.lane l).net.backoff = true ∧ (t.lane l).flog.last = 0x4005))) ∧
    ((s.lane l).net.state ≠ .coldstart →
      exec (.coldstartCollision l) s = .next s ∧ exec (.coldstartCycleEnd l) s = .next s) ∧
    exec (.backoffExpiry l) s = .next (s.on l fun L => { L with net := { L.net with backoff := false } }) ∧
    exec (.timeMismatchRetry l) s = .next (s.on l fun L => { L with net := { L.net with barred := false } })) ∧
    (∀ (s : State) (l src : LaneId) (rtt ns : Nat),
      ((s.lane l).alive = true → s.firstActive l = some src → rtt ≤ 20000 →
        ((s.lane l).net.state = .listen → (s.lane l).net.barred = false →
          ∃ t, exec (.peerTimeRead l src rtt ns) s = .next t ∧ t.freeCtr = s.freeCtr + 1 ∧
            (∀ p, p ≠ l → t.lane p = s.lane p) ∧ (t.lane l).net.mayLead = true ∧ (t.lane l).net.state = .listen ∧
            (t.lane l).vote = (s.lane l).vote) ∧
        (((s.lane l).net.state = .integrate ∨ (s.lane l).net.state = .mute ∨ (s.lane l).net.state = .coldstart) →
          (((s.lane l).nodeTime (s.lane l).tb.ns - ((ns + rtt / 2 : Nat) : Int)).natAbs ≤ 5000 →
            ∃ t, exec (.peerTimeRead l src rtt ns) s = .next t ∧ t.freeCtr = s.freeCtr + 1 ∧
              (∀ p, p ≠ l → t.lane p = s.lane p) ∧
              t.lane l = { (s.lane l) with net := { (s.lane l).net with peerOk := true } }) ∧
          (5000 < ((s.lane l).nodeTime (s.lane l).tb.ns - ((ns + rtt / 2 : Nat) : Int)).natAbs →
            ∃ t, exec (.peerTimeRead l src rtt ns) s = .next t ∧ t.freeCtr = s.freeCtr + 1 ∧
              (∀ p, p ≠ l → t.lane p = s.lane p) ∧ (t.lane l).net.state = .listen ∧
              (t.lane l).net.timeMism = true ∧ (t.lane l).net.barred = true ∧ (t.lane l).flog.last = 0x4FC6))) ∧
      (((s.lane l).alive = false ∨ s.firstActive l ≠ some src ∨ 20000 < rtt) →
        exec (.peerTimeRead l src rtt ns) s = .next s))

/-- The increment of the time base and its ticks. The increment lies within 1.75 to 2.25 ns at all times. An idle
step is one tick: it adds exactly the increment to nanoseconds and fraction in every lane whose network clock
runs, so the time of such a lane never falls; a lane whose clock stands keeps its time. -/
def Obligations.TimeBaseTick : Prop :=
    (∀ t : TimeBase, 0x1C0000000 ≤ t.inc ∧ t.inc ≤ 0x240000000) ∧
    (∀ s : State, s.pending = [] → ∃ t, step s = .next t ∧ LanesOnly s t ∧ ∀ l,
      ((s.lane l).clk.netLock = true →
        (t.lane l).tb.ns * 4294967296 + (t.lane l).tb.frac.toNat =
          (s.lane l).tb.ns * 4294967296 + (s.lane l).tb.frac.toNat + (s.lane l).tb.inc ∧
        (s.lane l).tb.ns < (t.lane l).tb.ns) ∧
      ((s.lane l).clk.netLock = false → (t.lane l).tb.ns = (s.lane l).tb.ns) ∧
      (t.lane l).vote = (s.lane l).vote ∧ (t.lane l).dict = (s.lane l).dict)

/-- The uplink clock, the slew, a cycle point and the sleep record. GPTP_SYNC completes: the first Sync of the
selected grandmaster sets an UNSET clock; one of another, without a link or of an own grandmaster changes
nothing. GPTP_SYNC_TIMEOUT completes: a lost Sync leaves HOLDOVER with fault 0x5041. GPTP_ANNOUNCE completes:
another clock is selected as grandmaster, or the lane itself where it may be, which freezes its offset.
SYNC_TRANSMISSION completes: the grandmaster sends. SLEW_END completes: the end of a slew adds its rest.
SLEEP_RECORD_INVALIDATE completes. STEP_ACCEPT completes: it is accepted only for a candidate.
CYCLE_POINT_RAISE completes: a busy point is dropped and counted, a TX_COMMIT fills every own buffer at the
point's time. Where its condition does not hold each changes nothing. -/
def Obligations.UplinkClock : Prop :=
    ∀ (s : State) (l : LaneId),
    (∀ g : SyncIn, ((s.lane l).alive = true → (s.lane l).upl.link = true → (s.lane l).upl.gmSelf = false →
        (s.lane l).upl.gmSel = g.gm → (s.lane l).upl.state = .unset →
        ∃ t, exec (.gptpSync l g) s = .next t ∧ t.freeCtr = s.freeCtr + 1 ∧ (∀ p, p ≠ l → t.lane p = s.lane p) ∧
          (t.lane l).upl.state = .synced ∧ (t.lane l).upl.offset = g.m ∧ (t.lane l).upl.rate = 0 ∧
          (t.lane l).upl.updNs = (s.lane l).tb.ns ∧ (t.lane l).tb = (s.lane l).tb) ∧
      (((s.lane l).alive = false ∨ (s.lane l).upl.link = false ∨ (s.lane l).upl.gmSelf = true ∨
        (s.lane l).upl.gmSel ≠ g.gm) → exec (.gptpSync l g) s = .next s)) ∧
    ((s.lane l).alive = true → (s.lane l).upl.gmSelf = false →
      ((s.lane l).upl.state = .synced ∨ (s.lane l).upl.state = .candidate) →
      exec (.gptpSyncTimeout l) s = .next (s.on l fun L =>
        ({ L with upl := { L.upl with state := .holdover, candCount := 0 } } : Lane).raise 0x5041 0)) ∧
    (((s.lane l).alive = false ∨ (s.lane l).upl.gmSelf = true ∨
        (s.lane l).upl.state ≠ .synced ∧ (s.lane l).upl.state ≠ .candidate) →
      exec (.gptpSyncTimeout l) s = .next s) ∧
    (∀ a : AnnounceIn, ((s.lane l).alive = true → (s.lane l).upl.link = true →
        (a.self = false → exec (.gptpAnnounce l a) s = .next (s.on l fun L =>
          { L with upl := { L.upl with gmSelf := false, gmSel := a.gm } })) ∧
        (a.self = true → (s.lane l).obj 0x2301 2 = 1 → (s.lane l).upl.gmSelf = false →
          exec (.gptpAnnounce l a) s = .next (s.on l fun L => { L with upl := { L.upl with
            gmSelf := true, gmSel := a.gm, rate := 0, updNs := L.tb.ns
            offset := (if L.upl.state = .unset then 0 else L.uplOffsetNow) } })) ∧
        (a.self = true → ((s.lane l).obj 0x2301 2 ≠ 1 ∨ (s.lane l).upl.gmSelf = true) →
          exec (.gptpAnnounce l a) s = .next s)) ∧
      (((s.lane l).alive = false ∨ (s.lane l).upl.link = false) → exec (.gptpAnnounce l a) s = .next s)) ∧
    ((s.lane l).alive = true → (s.lane l).upl.link = true → (s.lane l).upl.gmSelf = true →
      exec (.syncTransmission l) s = .next (s.on l fun L =>
        { L with upl := { L.upl with syncSent := L.upl.syncSent + 1 } })) ∧
    (((s.lane l).alive = false ∨ (s.lane l).upl.link = false ∨ (s.lane l).upl.gmSelf = false) →
      exec (.syncTransmission l) s = .next s) ∧
    ((s.lane l).tb.slewTicks ≠ 0 → ∃ t, exec (.slewEnd l) s = .next t ∧ OnlyLane l s t ∧
      (t.lane l).tb.slewTicks = 0 ∧ (t.lane l).tb.slewRem = 0 ∧
      (t.lane l).tb.mono = (s.lane l).tb.mono + 2 * (s.lane l).tb.slewTicks ∧
      (t.lane l).tb.ns = ((((s.lane l).tb.ns + 2 * (s.lane l).tb.slewTicks : Nat) : Int) +
        roundR (s.lane l).tb.slewRem).toNat ∧ (t.lane l).vote = (s.lane l).vote) ∧
    ((s.lane l).tb.slewTicks = 0 → exec (.slewEnd l) s = .next s) ∧
    exec (.sleepRecordInvalidate l) s = .next (s.on l fun L => { L with sleep := { L.sleep with valid := false } }) ∧
    (∀ (m : Master) (tid : Nat) (data : List Byte),
      ((s.lane l).writeErr m 0x2303 1 data ((s.lane l).upl.state == .candidate) false = none →
        exec (.stepAccept l m tid data) s = .next (s.on l fun L =>
          let M := L.sbCount m 0x2303
          ({ M with upl := { M.upl with accept := true } } : Lane).answer m tid 0x2303 1 0)) ∧
      (∀ e, (s.lane l).writeErr m 0x2303 1 data ((s.lane l).upl.state == .candidate) false = some e →
        exec (.stepAccept l m tid data) s = .next (s.on l fun L => L.answer m tid 0x2303 1 e))) ∧
    (∀ cp : Fin 8, (s.lane l).runs = true → (s.lane l).vote.running = true → 5 ≤ cp.val →
      bit ((s.lane l).sched 0x4802 (cp.val + 1)) 31 = true → bits ((s.lane l).sched 0x4802 (cp.val + 1)) 24 4 ≠ 0 →
      (∃ t, exec (.cyclePointRaise l cp true) s = .next t ∧ OnlyLane l s t ∧
        (t.lane l).net.cpOverrun = satInc (s.lane l).net.cpOverrun ∧
        (t.lane l).flog.last = BitVec.ofNat 16 (0xA000 + cp.val * 0x40 + 8) ∧ (t.lane l).ct = (s.lane l).ct) ∧
      (bits ((s.lane l).sched 0x4802 (cp.val + 1)) 24 4 = 1 →
        ∃ t, exec (.cyclePointRaise l cp false) s = .next t ∧ OnlyLane l s t ∧
          (∀ x, x ∈ (s.lane l).ownBufs → ∃ b, b ∈ (t.lane l).net.txBufs ∧ b.buf = x.2.2 ∧ b.ready = true ∧
            b.readyNs = (t.lane l).tb.ns ∧ b.out = (s.lane l).vote.latestOut) ∧
          (t.lane l).vote = (s.lane l).vote ∧ (t.lane l).flog = (s.lane l).flog)) ∧
    (∀ (cp : Fin 8) (busy : Bool), ((s.lane l).runs = false ∨ (s.lane l).vote.running = false ∨ cp.val < 5 ∨
        bit ((s.lane l).sched 0x4802 (cp.val + 1)) 31 = false ∨
        bits ((s.lane l).sched 0x4802 (cp.val + 1)) 24 4 = 0) →
      exec (.cyclePointRaise l cp busy) s = .next s)

/-- Timed actions and timestamp queues. TA_SUBMIT completes: a capture record in its ranges and in time is queued
in the lowest free entry, the result pending; one out of its ranges ends at once with OUTCOME 5; a submission
while the result is pending is busy and changes no entry. TIMED_ACTION_DUE completes: a capture that falls due
takes its sources, leaves the queue, and its master's result is ready; a launch with a frame records its tag,
without one it is fault 0x50C4 with OUTCOME 9; an entry that is not there changes nothing. TA_CANCEL
completes: it ends the later entries of that master and tag and no other. TSQ_POP completes: a pop whose tag
is that of the head removes it, any other is refused. A write refused by its checks is answered with their
code alone. -/
def Obligations.TimedActions : Prop :=
    ∀ (s : State) (l : LaneId) (m : Master) (tid : Nat) (data : List Byte),
    (∀ lineNs e, (s.lane l).writeErr m 0x2310 1 data true false = some e →
      exec (.taSubmit l m tid data lineNs) s = .next (s.on l fun L => L.answer m tid 0x2310 1 e)) ∧
    (∀ lineNs k due, (s.lane l).writeErr m 0x2310 1 data true false = none → (s.lane l).ta.result.busy m = false →
      recordOk (s.lane l).tb.ns (ofBytes data) = true → bits (ofBytes data) 80 8 = 2 →
      (s.lane l).ta.freeSlot 0 88 = some k → time80 (bits (ofBytes data) 0 80) = some due →
      (s.lane l).tb.ns + 1000 ≤ due →
      ∃ t, exec (.taSubmit l m tid data lineNs) s = .next t ∧ OnlyLane l s t ∧
        (∃ e, (t.lane l).ta.entries = (s.lane l).ta.entries ++ [e] ∧ e.slot = k ∧ e.kind = 2 ∧ e.dueNs = due ∧
          e.owner = some m ∧ e.tag = BitVec.ofNat 16 (bits (ofBytes data) 96 16) ∧ e.late = false) ∧
        (t.lane l).ta.result = (s.lane l).ta.result.start m ∧ (t.lane l).vote = (s.lane l).vote) ∧
    (∀ lineNs, (s.lane l).writeErr m 0x2310 1 data true false = none → (s.lane l).ta.result.busy m = false →
      recordOk (s.lane l).tb.ns (ofBytes data) = false →
      ∃ t, exec (.taSubmit l m tid data lineNs) s = .next t ∧ OnlyLane l s t ∧
        (t.lane l).ta.entries = (s.lane l).ta.entries ∧
        (t.lane l).ta.result = ((s.lane l).ta.result.start m).finish m (taPayload 0xFF 5)) ∧
    (∀ lineNs, (s.lane l).writeErr m 0x2310 1 data true false = none → (s.lane l).ta.result.busy m = true →
      exec (.taSubmit l m tid data lineNs) s = .next (s.on l fun L => L.answer m tid 0x2310 1 0x0D000001)) ∧
    ((s.lane l).writeErr m 0x2310 2 data true false = none →
      ∃ t, exec (.taCancel l m tid data) s = .next t ∧ OnlyLane l s t ∧
        ∀ e, e ∈ (t.lane l).ta.entries ↔ e ∈ (s.lane l).ta.entries ∧
          ¬(e.owner = some m ∧ e.tag = BitVec.ofNat 16 (ofBytes data) ∧ (s.lane l).tb.ns < e.dueNs)) ∧
    (∀ e, (s.lane l).writeErr m 0x2310 2 data true false = some e →
      exec (.taCancel l m tid data) s = .next (s.on l fun L => L.answer m tid 0x2310 2 e)) ∧
    (∀ (e : TaEntry) (full : Bool), (s.lane l).ta.entries.find? (fun x => x.slot == e.slot) = some e →
      e.late = false → e.owner = some m → (s.lane l).ta.result.busy m = true →
      (e.kind = 2 →
        ∃ t, exec (.timedActionDue l e.slot full) s = .next t ∧ OnlyLane l s t ∧
          (t.lane l).ta.entries = (s.lane l).ta.entries.filter (fun x => x.slot != e.slot) ∧
          (t.lane l).tb.ns = max (s.lane l).tb.ns e.dueNs ∧
          (t.lane l).ta.capTime = e.dueNs ∧ (t.lane l).ta.capData.length = 8 ∧
          (t.lane l).ta.result = (s.lane l).ta.result.finish m (taPayload e.slot 1) ∧
          (t.lane l).flog = (s.lane l).flog ∧ (t.lane l).vote = (s.lane l).vote) ∧
      (e.kind = 1 → full = true → (s.lane l).upl.link = true →
        ∃ t, exec (.timedActionDue l e.slot full) s = .next t ∧ OnlyLane l s t ∧
          (t.lane l).ta.entries = (s.lane l).ta.entries.filter (fun x => x.slot != e.slot) ∧
          (t.lane l).ta.launched = e.tag.toNat :: (s.lane l).ta.launched ∧
          (t.lane l).ta.result = (s.lane l).ta.result.finish m (taPayload e.slot 1)) ∧
      (e.kind = 1 → (full = false ∨ (s.lane l).upl.link = false) →
        ∃ t, exec (.timedActionDue l e.slot full) s = .next t ∧ OnlyLane l s t ∧
          (t.lane l).ta.entries = (s.lane l).ta.entries.filter (fun x => x.slot != e.slot) ∧
          (t.lane l).ta.launched = (s.lane l).ta.launched ∧ (t.lane l).flog.last = 0x50C4 ∧
          (t.lane l).ta.result = (s.lane l).ta.result.finish m (taPayload e.slot 9))) ∧
    (∀ (slot : Nat) (full : Bool), (s.lane l).ta.entries.find? (fun x => x.slot == slot) = none →
      exec (.timedActionDue l slot full) s = .next s) ∧
    (∀ (q : TsqId) (h : Stamp) (rest : List Stamp), ((s.lane l).tsq.get q).items = h :: rest →
      (h.tag.toNat = ofBytes data → (s.lane l).writeErr m (tsqIdx q) 2 data true false = none →
        ∃ t, exec (.tsqPop l m tid q data) s = .next t ∧ OnlyLane l s t ∧ ((t.lane l).tsq.get q).items = rest ∧
          (∀ r, r ≠ q → (t.lane l).tsq.get r = (s.lane l).tsq.get r)) ∧
      (h.tag.toNat ≠ ofBytes data → ∀ e, (s.lane l).writeErr m (tsqIdx q) 2 data false false = some e →
        exec (.tsqPop l m tid q data) s = .next (s.on l fun L => L.answer m tid (tsqIdx q) 2 e))) ∧
    (∀ (q : TsqId) (e : W32), ((s.lane l).tsq.get q).items = [] → (s.lane l).writeErr m (tsqIdx q) 2 data false false = some e →
      exec (.tsqPop l m tid q data) s = .next (s.on l fun L => L.answer m tid (tsqIdx q) 2 e))

/-- What the uplink brings and takes, and how contracts are admitted and withdrawn. UPLINK_LINK_CHANGE completes:
the link follows its changes, its loss is fault 0x4801. UPLINK_FRAME_RECEIVED completes: a foreign frame is
dropped and counted. A datagram to one of the two ports whose AES-CMAC tag verifies at no F is an
authentication failure, 0x90C1; a replay is dropped, 0x90C2; a new one is remembered, a supervisory one asked,
one of a DIR 2 contract that fits waiting there. Without a link nothing changes. CONTRACT_WINDOW completes: a
window with a complete snapshot, or a stored frame, sends a record of its contract under the next SEQ in
traffic class 7; without one it stays empty, is counted and marks the next record. Without an outbound
contract nothing changes. CT_SUBMIT completes: a record that finds a place is admitted under the lowest free
number with the phase found, and its master's result reads ready with REASON 0 and that number; one that fails
a rule changes no contract, and the result gives the rule. CT_WITHDRAW completes: it ends the contract of its
tag and no other; a tag in no use is refused. While the result is pending both are busy; a write refused by
its checks gets their code. -/
def Obligations.UplinkTrafficAndContracts : Prop :=
    (∀ (s : State) (l : LaneId),
    ((s.lane l).alive = true →
      exec (.uplinkLinkChange l true) s = .next (s.on l fun L => { L with upl := { L.upl with link := true } }) ∧
      ((s.lane l).upl.link = true → ∃ t, exec (.uplinkLinkChange l false) s = .next t ∧ OnlyLane l s t ∧
        (t.lane l).upl = { (s.lane l).upl with link := false } ∧ (t.lane l).flog.last = 0x4801 ∧
        (t.lane l).lptOn 16 = false ∧ (t.lane l).vote = (s.lane l).vote)) ∧
    ((s.lane l).alive = false → ∀ up, exec (.uplinkLinkChange l up) s = .next s) ∧
    ((s.lane l).pairsUp = true → (s.lane l).upl.link = true → (s.lane l).lptOn 16 = false → ∀ ns : Nat,
      exec (.uplinkFrameReceived l ns .foreign) s = .next (s.on l fun L =>
        let M := L.advance ns
        { M with ct := { M.ct with rxDropped := satInc M.ct.rxDropped } }) ∧
      (∀ d : Datagram, (if d.v6 then (s.lane l).obj 0x4A00 6 else (s.lane l).obj 0x4A00 5) ≠ 0 → fitsFrame d = true →
        d.dst = (s.lane l).ownAddr d.v6 →
        (d.dport = (s.lane l).obj 0x4A00 8 →
          (((s.lane l).advance ns).tagOk d = false →
            ∃ t, exec (.uplinkFrameReceived l ns (.udp d)) s = .next t ∧ OnlyLane l s t ∧
              (t.lane l).ct = { (s.lane l).ct with authFail := satInc (s.lane l).ct.authFail } ∧
              (t.lane l).flog.last = 0x90C1) ∧
          (((s.lane l).advance ns).tagOk d = true →
            ((((s.lane l).advance ns).replayNow.any fun e => e.1 == d.tag && e.2.1 == d.src) = true →
              ∃ t, exec (.uplinkFrameReceived l ns (.udp d)) s = .next t ∧ OnlyLane l s t ∧
                (t.lane l).ct.rxDropped = satInc (s.lane l).ct.rxDropped ∧ (t.lane l).flog.last = 0x90C2 ∧
                (t.lane l).ct.asked = (s.lane l).ct.asked) ∧
            ((((s.lane l).advance ns).replayNow.any fun e => e.1 == d.tag && e.2.1 == d.src) = false →
              ((s.lane l).advance ns).replayNow.length < 512 →
              ∃ t, exec (.uplinkFrameReceived l ns (.udp d)) s = .next t ∧ OnlyLane l s t ∧
                (∃ x ∈ (t.lane l).ct.replay, x.1 = d.tag ∧ x.2.1 = d.src) ∧ (t.lane l).ct.asked = some d ∧
                (t.lane l).ct.replied = none ∧ (t.lane l).flog = (s.lane l).flog))) ∧
        (d.dport ≠ (s.lane l).obj 0x4A00 8 → d.dport = (s.lane l).obj 0x4A00 9 →
          ((s.lane l).advance ns).tagOk d = true →
          (((s.lane l).advance ns).replayNow.any fun e => e.1 == d.tag && e.2.1 == d.src) = false →
          ((s.lane l).advance ns).replayNow.length < 512 → ∀ (c : Contract),
          ((s.lane l).ct.list.find? fun x => x.dir == 2 && x.tag == ofBytes (d.payload.take 2)) = some c →
          (d.payload.drop 2).length ≤ c.size →
          ∃ t, exec (.uplinkFrameReceived l ns (.udp d)) s = .next t ∧ OnlyLane l s t ∧
            (∃ x ∈ (t.lane l).ct.replay, x.1 = d.tag ∧ x.2.1 = d.src) ∧ (t.lane l).flog = (s.lane l).flog ∧
            (t.lane l).ct.rxDropped = (s.lane l).ct.rxDropped ∧
            ∀ x ∈ (s.lane l).ct.list, x.num = c.num →
              { x with inWait := x.inWait ++ [((t.lane l).tb.ns, d.payload.drop 2)] } ∈ (t.lane l).ct.list))) ∧
    (((s.lane l).pairsUp = false ∨ (s.lane l).upl.link = false ∨ (s.lane l).lptOn 16 = true) → ∀ ns f,
      exec (.uplinkFrameReceived l ns f) s = .next s) ∧
    (∀ (n : Nat) (c : Contract), ((s.lane l).ct.list.find? fun c => c.num == n) = some c →
      (s.lane l).pairsUp = true →
      ((s.lane l).upl.link = true → (s.lane l).lptOn 16 = false → c.dir = 0 →
        (∃ x ∈ (s.lane l).ct.snaps, x.prodNs + 40000 ≤ (s.lane l).tb.ns) →
        ∃ t, exec (.contractWindow l n) s = .next t ∧ OnlyLane l s t ∧
          (t.lane l).ct.winSent = satInc (s.lane l).ct.winSent ∧
          (∃ r f, (t.lane l).ct.sent = some r ∧ r.tag = c.tag ∧ r.kind = 0 ∧ r.seq = c.seq ∧ r.payload = [] ∧
            (t.lane l).ct.datagram = some f ∧ f.cls = 7 ∧ f.dg.payload = r.bytes) ∧
          (∀ y ∈ (t.lane l).ct.list, y.num = n → y.missed = false) ∧ (t.lane l).vote = (s.lane l).vote) ∧
      ((s.lane l).upl.link = true → (s.lane l).lptOn 16 = false → c.dir = 1 → ∀ x,
        ((s.lane l).net.rxFrames.find? fun f => f.ch == (ctSlot c.source).1 && f.slot == (ctSlot c.source).2) =
          some x →
        ∃ t, exec (.contractWindow l n) s = .next t ∧ OnlyLane l s t ∧
          (t.lane l).ct.winSent = satInc (s.lane l).ct.winSent ∧
          (∃ r, (t.lane l).ct.sent = some r ∧ r.tag = c.tag ∧ r.kind = 1 ∧ r.seq = c.seq ∧ r.payload = x.payload) ∧
          (t.lane l).vote = (s.lane l).vote) ∧
      (c.dir = 0 → (s.lane l).ct.snaps = [] →
        ∃ t, exec (.contractWindow l n) s = .next t ∧ OnlyLane l s t ∧
          (t.lane l).ct.winMissed = satInc (s.lane l).ct.winMissed ∧ (t.lane l).ct.sent = (s.lane l).ct.sent ∧
          (∀ y ∈ (t.lane l).ct.list, y.num = n → y.missed = true ∧ y.everEmpty = true) ∧
          (c.everEmpty = false → (t.lane l).flog.last = 0x4802) ∧
          (c.everEmpty = true → (t.lane l).flog = (s.lane l).flog)) ∧
      (c.dir = 2 → exec (.contractWindow l n) s = .next s)) ∧
    (∀ n, (((s.lane l).ct.list.find? fun c => c.num == n) = none ∨ (s.lane l).pairsUp = false) →
      exec (.contractWindow l n) s = .next s)) ∧
    (∀ (s : State) (l : LaneId) (m : Master) (tid : Nat) (data : List Byte),
    ((s.lane l).writeErr m 0x4A01 1 data true false = none →
      ((s.lane l).ct.result.busy m = false →
      (∀ p : Nat, ((s.lane l).sbCount m 0x4A01).placeContract (ctRecord (ofBytes data)) (bits (ofBytes data) 18 5) = .inl p →
        ∃ t, exec (.ctSubmit l m tid data) s = .next t ∧ OnlyLane l s t ∧
          { (ctRecord (ofBytes data)) with num := (s.lane l).ct.freeNum, phase := p, nextNs := (s.lane l).tb.ns + 1000000 } ∈
            (t.lane l).ct.list ∧
          (∀ d ∈ (s.lane l).ct.list, d.num ≠ (s.lane l).ct.freeNum → d ∈ (t.lane l).ct.list) ∧
          (t.lane l).ct.result = ((s.lane l).ct.result.start m).finish m (BitVec.ofNat 12 (s.lane l).ct.freeNum) ∧
          (t.lane l).net = (s.lane l).net) ∧
      (∀ reason : Nat, ((s.lane l).sbCount m 0x4A01).placeContract (ctRecord (ofBytes data)) (bits (ofBytes data) 18 5) =
          .inr reason →
        ∃ t, exec (.ctSubmit l m tid data) s = .next t ∧ OnlyLane l s t ∧ (t.lane l).ct.list = (s.lane l).ct.list ∧
          (t.lane l).ct.result = ((s.lane l).ct.result.start m).finish m (BitVec.ofNat 12 (reason * 64)))) ∧
      ((s.lane l).ct.result.busy m = true →
        exec (.ctSubmit l m tid data) s = .next (s.on l fun L => L.answer m tid 0x4A01 1 0x0D000001))) ∧
    (∀ e : W32, (s.lane l).writeErr m 0x4A01 1 data true false = some e →
      exec (.ctSubmit l m tid data) s = .next (s.on l fun L => L.answer m tid 0x4A01 1 e)) ∧
    (∀ c : Contract, ((s.lane l).ct.list.find? fun c => c.tag == ofBytes data) = some c →
      ((s.lane l).writeErr m 0x4A01 2 data true false = none → (s.lane l).ct.result.busy m = false →
        ∃ t, exec (.ctWithdraw l m tid data) s = .next t ∧ OnlyLane l s t ∧
          (t.lane l).ct.list = (s.lane l).ct.list.filter (fun d => d.num != c.num) ∧
          (t.lane l).ct.result = ((s.lane l).ct.result.start m).finish m (BitVec.ofNat 12 c.num) ∧
          (t.lane l).net = (s.lane l).net) ∧
      ((s.lane l).writeErr m 0x4A01 2 data true false = none → (s.lane l).ct.result.busy m = true →
        exec (.ctWithdraw l m tid data) s = .next (s.on l fun L => L.answer m tid 0x4A01 2 0x0D000001)) ∧
      (∀ e : W32, (s.lane l).writeErr m 0x4A01 2 data true false = some e →
        exec (.ctWithdraw l m tid data) s = .next (s.on l fun L => L.answer m tid 0x4A01 2 e))) ∧
    (∀ e : W32, ((s.lane l).ct.list.find? fun c => c.tag == ofBytes data) = none →
      (s.lane l).writeErr m 0x4A01 2 data false false = some e →
      exec (.ctWithdraw l m tid data) s = .next (s.on l fun L => L.answer m tid 0x4A01 2 e)))

/-- What every admitted contract keeps. Whatever record, lane and reserved bits: a contract that finds a place has
a tag no other contract bears, at most 63 others stand, its latency bound is at least the minimum of its kind;
an outbound one has windows and guard bands apart from those of every other outbound contract, takes the
uplink's time to at most 80 %, and has its phase below its period when the record left the choice to the lane. -/
def Obligations.WindowsApart : Prop :=
    ∀ (L : Lane) (c : Contract) (rsv p : Nat), L.placeContract c rsv = .inl p →
    L.ct.list.length < 64 ∧ (∀ d ∈ L.ct.list, d.tag ≠ c.tag) ∧
    (∃ m, L.ctMinimum c = some m ∧ m ≤ c.latBound * 10) ∧
    (c.dir ≠ 2 → ∀ d ∈ L.ct.list, d.dir ≠ 2 → L.windowsApart { c with phase := p } d = true) ∧
    (c.dir ≠ 2 → c.phase = 0xFFFFFFFF → p < c.period) ∧
    (c.dir ≠ 2 → c.phase ≠ 0xFFFFFFFF → p = c.phase ∧ p < c.period) ∧
    ((({ c with phase := p } :: L.ct.list).filter fun d => d.dir != 2).map fun d =>
      ((50000 + L.ctLine d : Nat) : Rat) / ((max 1 d.period * 10000 : Nat) : Rat)).sum ≤ 4 / 5

/-- Reads, segments and result objects. TRANSFER_READ completes: a read of offset 0 returns the object's value,
whole with LAST or its first bytes while a snapshot is kept, or the code of its checks; a later read without a
snapshot fails. SUPERVISORY_READ completes: served from the published copy; any other message is refused.
PEER_READ completes: a peer is served over a path to it, a message that fails its check is discarded and
counted, without a path nothing changes. TRANSFER_WRITE_SEGMENT completes: a first segment is buffered.
TRANSFER_ABORT and SNAPSHOT_LAPSE complete: both close without a response. SEGMENT_TIMEOUT completes: a gap
fails with 0x05040000. RESULT_READ completes: a master's read of its ready result consumes it. A master that
does not reach the lane changes nothing. -/
def Obligations.Transfers : Prop :=
    ∀ (s : State) (l : LaneId) (m : Master) (tid idx sub len : Nat),
    (m ≠ .sideBand → m ≠ .supervisory → ¬(sub = 1 ∧ (idx = 0x2510 ∨ idx = 0x2501)) →
      ((s.lane l).reaches m = false → ∀ ofs, exec (.transferRead l m tid idx sub ofs len) s = .next s) ∧
      ((s.lane l).reaches m = true → (s.lane l).dict.snaps = [] →
        (∀ ofs, 0 < ofs → exec (.transferRead l m tid idx sub ofs len) s =
          .next (s.on l fun L => L.answer m tid idx sub 0x05040000)) ∧
        (∀ e, (s.lane l).readErr m idx sub = some e →
          exec (.transferRead l m tid idx sub 0 len) s = .next (s.on l fun L => L.answer m tid idx sub e)) ∧
        ((s.lane l).readErr m idx sub = none →
          (((s.lane l).readValue idx sub).length ≤ len → ∃ t, exec (.transferRead l m tid idx sub 0 len) s = .next t ∧
            OnlyLane l s t ∧ (∃ r, (t.lane l).dict.resp = some r ∧ r.m = m ∧ r.tid = tid ∧ r.code = 0 ∧
              r.last = true ∧ r.data = (s.lane l).readValue idx sub) ∧
            (t.lane l).dict.working = (s.lane l).dict.working ∧ (t.lane l).vote = (s.lane l).vote) ∧
          (len < ((s.lane l).readValue idx sub).length → ∃ t, exec (.transferRead l m tid idx sub 0 len) s = .next t ∧
            OnlyLane l s t ∧ (∃ r, (t.lane l).dict.resp = some r ∧ r.code = 0 ∧ r.last = false ∧
              r.data = ((s.lane l).readValue idx sub).take len) ∧
            (t.lane l).dict.snaps = [{ m := m, tid := tid, idx := idx, sub := sub, data := (s.lane l).readValue idx sub }] ∧
            (t.lane l).dict.open_ m = (s.lane l).dict.open_ m + 1)))) ∧
    ((s.lane l).upl.link = true → (s.lane l).lptOn 16 = false → (s.lane l).reaches .supervisory = true →
      (∀ P, s.pub.get l = some P → (s.lane l).readErr .supervisory idx sub = none →
        (P.readValue idx sub).length ≤ min len (1384 - (s.lane l).supSoFar.length) →
        ¬(sub = 1 ∧ (idx = 0x2510 ∨ idx = 0x2501)) →
        ∃ t, exec (.supervisoryRead l tid idx sub 0 len 1) s = .next t ∧ OnlyLane l s t ∧
          ∃ r, (t.lane l).dict.resp = some r ∧ r.m = .supervisory ∧ r.code = 0 ∧ r.data = P.readValue idx sub) ∧
      (∃ t, exec (.supervisoryRead l tid idx sub 0 len 2) s = .next t ∧ OnlyLane l s t ∧
        (t.lane l).dict.working = (s.lane l).dict.working ∧
        ∃ r, (t.lane l).dict.resp = some r ∧ r.m = .supervisory ∧ r.code = 0x06010000)) ∧
    (((s.lane l).upl.link = false ∨ (s.lane l).lptOn 16 = true ∨ (s.lane l).reaches .supervisory = false) →
      ∀ ofs op, exec (.supervisoryRead l tid idx sub ofs len op) s = .next s) ∧
    (∀ src v : LaneId, s.via l src = some v → (s.lane src).alive = true → (s.lane l).alive = true →
      ((s.lane l).reaches .peer = true → (s.lane l).readErr .peer idx sub = none →
        ((s.lane l).readValue idx sub).length ≤ len → ¬(sub = 1 ∧ (idx = 0x2510 ∨ idx = 0x2501)) →
        ∃ t, exec (.peerRead l { src := src } tid idx sub 0 len) s = .next t ∧ OnlyLane l s t ∧
          ∃ r, (t.lane l).dict.resp = some r ∧ r.m = .peer ∧ r.code = 0 ∧ r.data = (s.lane l).readValue idx sub) ∧
      (∀ ofs, exec (.peerRead l { src := src, crcOk := false } tid idx sub ofs len) s = .next (s.on l fun L =>
        L.onLinkTo v fun w => { w with errors := satInc w.errors, goodNow := false }))) ∧
    (∀ (src : LaneId) (crcOk : Bool) (ofs : Nat), (s.via l src = none ∨ (s.lane src).alive = false ∨
      (s.lane l).alive = false) → exec (.peerRead l { src := src, crcOk := crcOk } tid idx sub ofs len) s = .next s) ∧
    (∀ (total : Nat) (data : List Byte),
      (m = .host ∨ m = .sideBand → (s.lane l).reaches m = true →
        (s.lane l).dict.wbufs = [] → (s.lane l).txnFull m = false → data.length < total →
        ∃ t, exec (.transferWriteSegment l m tid idx sub 0 total data) s = .next t ∧ OnlyLane l s t ∧
          (t.lane l).dict.wbufs = [{ m := m, tid := tid, idx := idx, sub := sub, total := total, data := data }] ∧
          (t.lane l).dict.open_ m = (s.lane l).dict.open_ m + 1 ∧
          (t.lane l).dict.working = (s.lane l).dict.working) ∧
      ((s.lane l).reaches m = false → ∀ ofs, exec (.transferWriteSegment l m tid idx sub ofs total data) s = .next s)) ∧
    (m ≠ .supervisory → m ≠ .peer → ∃ t, exec (.transferAbort l m tid) s = .next t ∧ OnlyLane l s t ∧
      (t.lane l).dict.bufOf m tid = none ∧ (t.lane l).dict.resp = (s.lane l).dict.resp ∧
      (∀ x ∈ (t.lane l).dict.snaps, ¬(x.m = m ∧ x.tid = tid))) ∧
    ((m = .supervisory ∨ m = .peer) → exec (.transferAbort l m tid) s =
      .next (s.on l fun L => L.answer m tid 0 0 0x06010000)) ∧
    (∃ t, exec (.snapshotLapse l m tid) s = .next t ∧ OnlyLane l s t ∧
      (∀ x, x ∈ (t.lane l).dict.snaps ↔ x ∈ (s.lane l).dict.snaps ∧ ¬(x.m = m ∧ x.tid = tid)) ∧
      (t.lane l).dict.resp = (s.lane l).dict.resp) ∧
    (∀ x, (s.lane l).dict.bufOf m tid = some x → (s.lane l).reaches m = true →
      ∃ t, exec (.segmentTimeout l m tid) s = .next t ∧ OnlyLane l s t ∧ (t.lane l).dict.bufOf m tid = none ∧
        (∃ r, (t.lane l).dict.resp = some r ∧ r.m = m ∧ r.tid = tid ∧ r.code = 0x05040000)) ∧
    ((s.lane l).dict.bufOf m tid = none → exec (.segmentTimeout l m tid) s = .next s) ∧
    ((s.lane l).reaches .host = true → (s.lane l).txnFull .host = false → (s.lane l).ta.result.host.state = .ready →
      (s.lane l).dict.snaps = [] →
      ∃ t, exec (.resultRead l .host tid .ta .host) s = .next t ∧ OnlyLane l s t ∧
        (t.lane l).ta.result.host = { (s.lane l).ta.result.host with state := .consumed } ∧
        (∃ r, (t.lane l).dict.resp = some r ∧ r.code = 0 ∧ r.data = toBytes 4 (s.lane l).ta.result.host.word))

/-- Writes of objects and prepares of peers. OBJECT_WRITE completes: a write of one message that passes its checks
puts the value of a wake or clock setting in force and is answered with code 0, a module-wide setting of
redundancy becomes a prepared commit; one that fails its checks changes no setting and gets its code; one
whose last segment does not end at its total fails with 0x05040001; a master that does not reach the lane
changes nothing. COMMIT_PREPARE_RECEIVED completes: a prepare that arrives before the tCLOSE of its voting
cycle is held and voted on; one that fails its check is counted on its link; a later one, or one without a
path, changes nothing. -/
def Obligations.ObjectWrites : Prop :=
    ∀ (s : State) (l : LaneId) (m : Master) (tid idx sub : Nat) (grp : Option (Fin 16)) (data : List Byte) (e : WriteEnv),
    ((s.lane l).reaches m = false → ∀ ofs total, exec (.objectWrite l m tid idx sub ofs total grp data e) s = .next s) ∧
    ((s.lane l).reaches m = true → m = .host → (s.lane l).dict.wbufs = [] → 0x2101 ≤ idx → idx < 0x2203 →
      (∀ c, (s.lane l).plainErr m idx sub data false = some c →
        ∃ t, exec (.objectWrite l m tid idx sub 0 data.length grp data e) s = .next t ∧ OnlyLane l s t ∧
          (t.lane l).dict.working = (s.lane l).dict.working ∧
          (∃ r, (t.lane l).dict.resp = some r ∧ r.tid = tid ∧ r.idx = idx ∧ r.sub = sub ∧ r.code = c)) ∧
      ((s.lane l).plainErr m idx sub data false = none → isWide idx sub = false →
        ∃ t, exec (.objectWrite l m tid idx sub 0 data.length grp data e) s = .next t ∧ OnlyLane l s t ∧
          (t.lane l).obj idx sub = ofBytes data ∧ (t.lane l).vote = (s.lane l).vote ∧
          (∀ i j, okey i j ≠ okey idx sub → (t.lane l).obj i j = (s.lane l).obj i j) ∧
          (∃ r, (t.lane l).dict.resp = some r ∧ r.tid = tid ∧ r.idx = idx ∧ r.sub = sub ∧ r.code = 0))) ∧
    ((s.lane l).reaches m = true → m = .host → (s.lane l).dict.wbufs = [] → idx = 0x2600 → isWide idx sub = true →
      (s.lane l).plainErr m idx sub data false = none → (s.lane l).vote.running = true →
      (s.lane l).dict.prepared < 8 → grp = none →
      ∃ t, exec (.objectWrite l m tid idx sub 0 data.length grp data e) s = .next t ∧ OnlyLane l s t ∧
        (t.lane l).dict.prepared = (s.lane l).dict.prepared + 1 ∧
        (t.lane l).dict.working = (s.lane l).dict.working ∧
        ∃ c, (t.lane l).dict.outbox = (s.lane l).dict.outbox ++ [c] ∧ c.server = (s.lane l).id ∧
          c.ctr = (s.lane l).dict.commitCtr ∧
          c.items = [{ idx := idx, sub := sub, raw := ofBytes data, tid := tid }]) ∧
    (∀ ofs total : Nat, m = .host → (s.lane l).reaches m = true → ofs + data.length ≠ total →
      ∃ t, exec (.objectWrite l m tid idx sub ofs total grp data e) s = .next t ∧ OnlyLane l s t ∧
        (t.lane l).dict.working = (s.lane l).dict.working ∧ (t.lane l).dict.bufOf m tid = none ∧
        (∃ r, (t.lane l).dict.resp = some r ∧ r.code = 0x05040001)) ∧
    (∀ (src v : LaneId) (ctr : W16) (c : Commit), s.via l src = some v →
      ((s.lane src).dict.outbox.find? fun c => c.server == src && c.ctr == ctr) = some c → (s.lane l).alive = true →
      exec (.commitPrepareReceived l { src := src, crcOk := false } ctr) s = .next (s.on l fun L =>
        L.onLinkTo v fun w => { w with errors := satInc w.errors, goodNow := false }) ∧
      ((s.lane l).vote.running = true → ((s.lane l).vote.cycle.toNat < c.cycle.toNat ∨ (s.lane l).vote.cycle = c.cycle ∧
          (s.lane l).tb.ns < (s.lane l).vote.startNs + (s.lane l).tClose * 1000) →
        ∃ t, exec (.commitPrepareReceived l { src := src } ctr) s = .next t ∧ OnlyLane l s t ∧ c ∈ (t.lane l).dict.known ∧
          (∀ d ∈ (t.lane l).dict.known, d = c ∨ d ∈ (s.lane l).dict.known) ∧
          (t.lane l).dict.working = (s.lane l).dict.working) ∧
      (((s.lane l).vote.running = false ∨ c.cycle.toNat < (s.lane l).vote.cycle.toNat ∨
          (s.lane l).vote.cycle = c.cycle ∧
          (s.lane l).vote.startNs + (s.lane l).tClose * 1000 ≤ (s.lane l).tb.ns) →
        exec (.commitPrepareReceived l { src := src } ctr) s = .next s)) ∧
    (∀ (src : LaneId) (crcOk : Bool) (ctr : W16), (s.via l src = none ∨
        ((s.lane src).dict.outbox.find? fun c => c.server == src && c.ctr == ctr) = none ∨ (s.lane l).alive = false) →
      exec (.commitPrepareReceived l { src := src, crcOk := crcOk } ctr) s = .next s)

/-- How every lane decides the commits of a cycle, and what comes into force. A lane decides each commit that the
agreed votes name once, from them alone: lanes with the same agreed entries reach the same decisions. CFG_GEN
rises by the successes and no setting changes. A commit that succeeds holds for each of its writes a vote, met
by every lane that took part and by the serving lane, that gives the object the same value. When the next vote
cycle starts, a lane whose only commit was decided as a success with one plain write has that value in force,
no other setting changed, and holds the commit no longer; a lane whose commits were not decided as successes
keeps every setting. -/
def Obligations.CommitsDecided : Prop :=
    ((∀ L : Lane, ∃ ds, (L.decideCommits).vote.decisions = L.vote.decisions ++ ds ∧
      ds.map (fun d => (d.1, d.2.1)) = (namedVotes L.vote.agreedOwn).map (fun v => (v.server, v.ctr)) ∧
      (L.decideCommits).dict.cfgGen = L.dict.cfgGen + BitVec.ofNat 32 (ds.filter fun d => d.2.2).length ∧
      (L.decideCommits).dict.working = L.dict.working ∧
      (∀ c ∈ (L.decideCommits).dict.known, c.decided = some true → ∃ d ∈ L.dict.known, d.server = c.server ∧
        d.ctr = c.ctr ∧ d.items = c.items)) ∧
    (∀ L M : Lane, L.vote.agreedOwn = M.vote.agreedOwn →
      ∃ ds, (L.decideCommits).vote.decisions = L.vote.decisions ++ ds ∧
        (M.decideCommits).vote.decisions = M.vote.decisions ++ ds) ∧
    (∀ (own : Tri (Option PerLane)) (cs : List Vote) (c : Vote), commitOutcome own cs c = none →
      ∀ i ∈ c.items, ∃ v ∈ cs, v.gives i = true ∧ (own.get v.server).isSome = true ∧
        ∀ (l : LaneId) (p : PerLane), own.get l = some p → (voteOf p v).1 = true) ∧
    (∀ (own : Tri (Option PerLane)) (cs : List Vote) (c : Vote), c ∈ cs → c.items ≠ [] → voteMeets own c = true →
      (∀ i ∈ c.items, itemConflict cs i = false) → commitOutcome own cs c = none)) ∧
    (∀ (L : Lane),
    (∀ (c : Commit) (i : CommitItem), L.dict.known = [c] → c.decided = some true → c.items = [i] →
      ¬(i.idx = 0x4300 ∧ i.sub = 9) →
      (L.forceCommits).obj i.idx i.sub = i.raw ∧ (L.forceCommits).dict.known = [] ∧
      (∀ a b, okey a b ≠ okey i.idx i.sub → (L.forceCommits).obj a b = L.obj a b) ∧
      (L.forceCommits).vote = L.vote ∧ (L.forceCommits).pwr = L.pwr) ∧
    ((∀ c ∈ L.dict.known, c.decided ≠ some true) →
      (L.forceCommits).dict.working = L.dict.working ∧ (L.forceCommits).dict.kept = L.dict.kept ∧
      (L.forceCommits).svc = L.svc ∧ (L.forceCommits).vote = L.vote))

/-- The side-band session. SB_CHALLENGE completes: reading the challenge draws a free value and returns it.
SB_RESPONSE completes: the AES-CMAC of the challenge under key slot 10 opens a session with its counter at 0,
any other response leaves the session. SIDEBAND_VALUE_DOWNLOAD completes: a value that passes its checks is
held pending, any other is answered with their code. SB_TAG completes: a tag that verifies uses the pending
write up, one that fails discards it, and the third in a row closes the session; without a session or a
pending write it is refused. SB_CLOSE, SESSION_TIMEOUT, CAN_BUS_OFF and MONITOR_REST complete: they close an
open session, its pending write gone and the side-band's unlock ended; a timeout or bus-off without a session,
and a rest outside STANDBY, change nothing. -/
def Obligations.SideBandSession : Prop :=
    (∀ (s : State) (l : LaneId), (s.lane l).sbReach = true → (s.lane l).pwr.state ≠ .standby →
    (∃ t, exec (.sbChallenge l) s = .next t ∧ t.freeCtr = s.freeCtr + 1 ∧ (∀ p, p ≠ l → t.lane p = s.lane p) ∧
      (t.lane l).sb.challenge = some (Config.draw s.freeCtr) ∧
      (∃ r, (t.lane l).dict.resp = some r ∧ r.code = 0 ∧ r.data = toBytes 8 (Config.draw s.freeCtr).toNat)) ∧
    (∀ c data, (s.lane l).sb.challenge = some c → (s.lane l).sb.isOpen = false →
      ((s.lane l).keyOk 10 = true → data = (s.lane l).sbExpected c →
        ∃ t, exec (.sbResponse l data) s = .next t ∧ OnlyLane l s t ∧
          (t.lane l).sb.isOpen = true ∧ (t.lane l).sb.counter = 0 ∧ (t.lane l).sb.challenge = none ∧
          (t.lane l).sb.pend = none ∧ (t.lane l).sb.sessions = (s.lane l).sb.sessions + 1 ∧
          (t.lane l).flog.last = 0x9101) ∧
      (((s.lane l).keyOk 10 = false ∨ data ≠ (s.lane l).sbExpected c) →
        ∃ t, exec (.sbResponse l data) s = .next t ∧ OnlyLane l s t ∧ (t.lane l).sb.isOpen = false ∧
          (t.lane l).flog.last = 0x9102 ∧ (∃ r, (t.lane l).dict.resp = some r ∧ r.code = 0x0D000005))) ∧
    (∀ (idx sub : Nat) (data : List Byte), idx ≠ 0x2510 →
      (s.downloadCode l idx sub data = 0 →
        ∃ t, exec (.sidebandValueDownload l idx sub data) s = .next t ∧ OnlyLane l s t ∧
          (t.lane l).sb.pend = some { idx := idx, sub := sub, data := data } ∧
          (t.lane l).sb.counter = (s.lane l).sb.counter ∧
          (t.lane l).dict.working = (s.lane l).dict.working) ∧
      (s.downloadCode l idx sub data ≠ 0 →
        exec (.sidebandValueDownload l idx sub data) s = .next (s.on l fun L =>
          L.answer .sideBand 0 idx sub (s.downloadCode l idx sub data)))) ∧
    ((s.lane l).sb.isOpen = true →
      (∀ (p : SbPend) (data : List Byte) (e : WriteEnv), (s.lane l).sb.pend = some p → p.idx = 0x2101 → p.sub = 1 →
        (s.lane l).plainErr .sideBand 0x2101 1 p.data false = none → data = (s.lane l).sbTagFor p →
        ∃ t, exec (.sbTag l data e) s = .next t ∧ OnlyLane l s t ∧ (t.lane l).obj 0x2101 1 = ofBytes p.data ∧
          (t.lane l).sb.pend = none ∧ (t.lane l).sb.tagFails = 0 ∧ (t.lane l).sb.counter = (s.lane l).sb.counter + 1 ∧
          (t.lane l).sb.isOpen = true) ∧
      (∀ (p : SbPend) (data : List Byte) (e : WriteEnv), (s.lane l).sb.pend = some p →
        data ≠ (s.lane l).sbTagFor p →
        ∃ t, exec (.sbTag l data e) s = .next t ∧ OnlyLane l s t ∧ (t.lane l).sb.pend = none ∧
          (t.lane l).sb.counter = (s.lane l).sb.counter ∧
          (t.lane l).sb.isOpen = decide ((s.lane l).sb.tagFails < 2) ∧
          (∃ r, (t.lane l).dict.resp = some r ∧ r.code = 0x0D000005)) ∧
      ((s.lane l).sb.pend = none → ∀ data e, exec (.sbTag l data e) s = .next (s.on l fun L =>
        L.answer .sideBand 0 0x2510 3 0x08000022)) ∧
      (∀ (m : Master) (tid : Nat), (s.lane l).writeErr m 0x2510 4 [1] true false = none →
        ∃ t, exec (.sbClose l m tid [1]) s = .next t ∧ OnlyLane l s t ∧ (t.lane l).sb.isOpen = false ∧
          (t.lane l).sb.pend = none ∧ (t.lane l).ds2.unlockSb = false ∧ (t.lane l).flog.last = 0x9104)) ∧
    ((s.lane l).sb.isOpen = false → ∀ data e, exec (.sbTag l data e) s = .next (s.on l fun L =>
      L.answer .sideBand 0 0x2510 3 0x0D000005))) ∧
    (∀ (s : State) (l : LaneId),
      ((s.lane l).sb.isOpen = true →
        (∃ t, exec (.sessionTimeout l) s = .next t ∧ OnlyLane l s t ∧
          (t.lane l).sb.isOpen = false ∧ (t.lane l).sb.pend = none ∧ (t.lane l).ds2.unlockSb = false ∧
          (t.lane l).flog.last = 0x9104 ∧ (t.lane l).pwr = (s.lane l).pwr ∧ (t.lane l).vote = (s.lane l).vote) ∧
        (∃ t, exec (.canBusOff l) s = .next t ∧ OnlyLane l s t ∧
          (t.lane l).sb.isOpen = false ∧ (t.lane l).sb.pend = none ∧ (t.lane l).ds2.unlockSb = false ∧
          (t.lane l).flog.last = 0x9104 ∧ (t.lane l).pwr = (s.lane l).pwr ∧ (t.lane l).vote = (s.lane l).vote)) ∧
      ((s.lane l).sb.isOpen = false → exec (.sessionTimeout l) s = .next s ∧ exec (.canBusOff l) s = .next s) ∧
      ((s.lane l).pwr.state = .standby → ∃ t, exec (.monitorRest l) s = .next t ∧ OnlyLane l s t ∧
        (t.lane l).pwr.monUp = false ∧ (t.lane l).safe.sealOpen = false ∧ (t.lane l).sb.isOpen = false ∧
        (t.lane l).pwr.state = .standby) ∧
      ((s.lane l).pwr.state ≠ .standby → exec (.monitorRest l) s = .next s))

/-- Images staged, installed and discarded, sets stored, seen flags cleared. PROGRAM_STAGE completes: a complete
image within its size is staged in place of an earlier one, a larger one is refused, one whose length is not
its ARG fails its order. PROGRAM_INSTALL completes: an installation whose checks pass runs with its result
pending, one that fails a check ends with its outcome and installs nothing, a second one at once is busy.
PROGRAM_INSTALL_COMPLETE completes: a firmware image enters the inactive bank and makes it active, a set image
its set; without an installation nothing changes. PROGRAM_DISCARD completes: it drops a staged image that is
not installed. SET_STORE completes: with the seal open it stores the working set with its CRC.
FAULT_SEEN_CLEAR completes: a cleared bit falls unless its class has an event in this cycle. A write refused
by its checks gets their code alone. -/
def Obligations.ProgramsAndSets : Prop :=
    ∀ (s : State) (l : LaneId) (m : Master) (tid : Nat) (k : Fin 5),
    (∀ (img : List Byte), (s.lane l).reaches m = true → (s.lane l).dict.wbufs = [] →
      ((s.lane l).writeErr m 0x1F50 (k.val + 1) [] true false = none →
        (img.length ≤ (if k.val = 0 then 4194304 else 262144) → (s.lane l).dict.staging.length = 5 →
          ∃ t, exec (.programStage l m tid k img.length img) s = .next t ∧ OnlyLane l s t ∧
            ((t.lane l).dict.stage k).image = some img ∧ ((t.lane l).dict.stage k).installed = false ∧
            (∀ j, j ≠ k → (t.lane l).dict.stage j = (s.lane l).dict.stage j) ∧
            (t.lane l).dict.sets = (s.lane l).dict.sets ∧ (t.lane l).sec = (s.lane l).sec) ∧
        ((if k.val = 0 then 4194304 else 262144) < img.length →
          ∃ t, exec (.programStage l m tid k img.length img) s = .next t ∧ OnlyLane l s t ∧
            (t.lane l).dict.staging = (s.lane l).dict.staging ∧
            (∃ r, (t.lane l).dict.resp = some r ∧ r.code = 0x06090031))) ∧
      (∀ e, (s.lane l).writeErr m 0x1F50 (k.val + 1) [] true false = some e →
        ∃ t, exec (.programStage l m tid k img.length img) s = .next t ∧ OnlyLane l s t ∧
          (t.lane l).dict.staging = (s.lane l).dict.staging ∧ (∃ r, (t.lane l).dict.resp = some r ∧ r.code = e)) ∧
      (∀ total, img.length ≠ total → (m = .host ∨ m = .sideBand) →
        ∃ t, exec (.programStage l m tid k total img) s = .next t ∧ OnlyLane l s t ∧
          (t.lane l).dict.staging = (s.lane l).dict.staging ∧
          (∃ r, (t.lane l).dict.resp = some r ∧ r.code = 0x05040001))) ∧
    ((s.lane l).writeErr m 0x1F51 (k.val + 1) [1] true false = none →
      (((s.lane l).dict.progRes.busy m = true ∨ ((s.lane l).dict.stage k).busy.isSome = true) →
        exec (.programInstall l m tid k) s = .next (s.on l fun L => L.answer m tid 0x1F51 (k.val + 1) 0x0D000001)) ∧
      ((s.lane l).dict.progRes.busy m = false → ((s.lane l).dict.stage k).busy = none →
        (s.lane l).dict.staging.length = 5 →
        ((s.lane l).installCheck k = 0 → ∃ t, exec (.programInstall l m tid k) s = .next t ∧ OnlyLane l s t ∧
          ((t.lane l).dict.stage k).busy = ((s.lane l).dict.stage k).image ∧ ((t.lane l).dict.stage k).busyBy = m ∧
          (t.lane l).dict.progRes = (s.lane l).dict.progRes.start m ∧ (t.lane l).sec = (s.lane l).sec ∧
          (t.lane l).dict.sets = (s.lane l).dict.sets) ∧
        (∀ o, (s.lane l).installCheck k = o → o ≠ 0 → ∃ t, exec (.programInstall l m tid k) s = .next t ∧
          OnlyLane l s t ∧
          (t.lane l).dict.progRes = ((s.lane l).dict.progRes.start m).finish m (BitVec.ofNat 12 (o * 256)) ∧
          (t.lane l).flog.last = BitVec.ofNat 16 (0x9040 + o) ∧ (t.lane l).dict.staging = (s.lane l).dict.staging ∧
          (t.lane l).sec = (s.lane l).sec ∧ (t.lane l).dict.sets = (s.lane l).dict.sets))) ∧
    (∀ e, (s.lane l).writeErr m 0x1F51 (k.val + 1) [1] true false = some e →
      exec (.programInstall l m tid k) s = .next (s.on l fun L => L.answer m tid 0x1F51 (k.val + 1) e)) ∧
    (∀ i : List Byte, ((s.lane l).dict.stage k).busy = some i → (s.lane l).dict.staging.length = 5 →
      (s.lane l).dict.sets.length = 4 →
      ∃ t, exec (.programInstallComplete l k) s = .next t ∧ OnlyLane l s t ∧
        (k = 0 → (s.lane l).sec.active = 0 → (t.lane l).sec.active = 1 ∧
          (t.lane l).sec.bank1 = { ok := true, version := BitVec.ofNat 32 (imgField i 8 4),
                                   floor := BitVec.ofNat 32 (imgField i 12 4), crc := BitVec.ofNat 32 (crc32 i) } ∧
          (t.lane l).sec.bank0 = (s.lane l).sec.bank0) ∧
        (k = 0 → (s.lane l).sec.active ≠ 0 → (t.lane l).sec.active = 0 ∧
          (t.lane l).sec.bank0 = { ok := true, version := BitVec.ofNat 32 (imgField i 8 4),
                                   floor := BitVec.ofNat 32 (imgField i 12 4), crc := BitVec.ofNat 32 (crc32 i) } ∧
          (t.lane l).sec.bank1 = (s.lane l).sec.bank1) ∧
        (k ≠ 0 → (t.lane l).sec = (s.lane l).sec ∧
          (t.lane l).dict.sets[k.val - 1]? = some { vals := (s.lane l).imgVals i,
                                                    crc := BitVec.ofNat 32 (imgField i 28 4), intact := true }) ∧
        ((t.lane l).dict.stage k).busy = none ∧
        ((t.lane l).dict.stage k).id = BitVec.ofNat 32 (crc32 i) ∧ (t.lane l).flog.last = 0x9046 ∧
        (t.lane l).dict.progRes = (s.lane l).dict.progRes.finish ((s.lane l).dict.stage k).busyBy 0 ∧
        (t.lane l).dict.working = (s.lane l).dict.working) ∧
    (((s.lane l).dict.stage k).busy = none → exec (.programInstallComplete l k) s = .next s) ∧
    ((s.lane l).writeErr m 0x1F51 (k.val + 1) [3] true false = none → (s.lane l).dict.staging.length = 5 →
      ∃ t, exec (.programDiscard l m tid k) s = .next t ∧ OnlyLane l s t ∧
        ((t.lane l).dict.stage k).image = (if ((s.lane l).dict.stage k).installed then
          ((s.lane l).dict.stage k).image else none) ∧
        (∀ j, j ≠ k → (t.lane l).dict.stage j = (s.lane l).dict.stage j)) ∧
    (∀ e, (s.lane l).writeErr m 0x1F51 (k.val + 1) [3] true false = some e →
      exec (.programDiscard l m tid k) s = .next (s.on l fun L => L.answer m tid 0x1F51 (k.val + 1) e)) ∧
    (∀ n : Fin 4, (s.lane l).writeErr m 0x2404 5 [BitVec.ofNat 8 n.val] true false = none →
      (s.lane l).dict.sets.length = 4 →
      ∃ t, exec (.setStore l m tid [BitVec.ofNat 8 n.val]) s = .next t ∧ OnlyLane l s t ∧
        (t.lane l).dict.sets[n.val]? = some { vals := (s.lane l).cfgVals, crc := BitVec.ofNat 32 (s.lane l).setCrc,
                                              intact := true } ∧
        (∀ j : Nat, j ≠ n.val → (t.lane l).dict.sets[j]? = (s.lane l).dict.sets[j]?) ∧
        (t.lane l).dict.working = (s.lane l).dict.working) ∧
    (∀ data e, (s.lane l).writeErr m 0x2404 5 data true false = some e →
      exec (.setStore l m tid data) s = .next (s.on l fun L => L.answer m tid 0x2404 5 e)) ∧
    (∀ data, (s.lane l).writeErr m 0x2001 3 data true false = none →
      ∃ t, exec (.faultSeenClear l m tid data) s = .next t ∧ OnlyLane l s t ∧
        (∀ i, (t.lane l).flog.seen.getLsbD i = ((s.lane l).flog.seen.getLsbD i &&
          !((BitVec.ofNat 16 (ofBytes data)).getLsbD i && !(s.lane l).flog.seenNow.getLsbD i))) ∧
        (t.lane l).flog.ring = (s.lane l).flog.ring) ∧
    (∀ data e, (s.lane l).writeErr m 0x2001 3 data true false = some e →
      exec (.faultSeenClear l m tid data) s = .next (s.on l fun L => L.answer m tid 0x2001 3 e))

/-- Power requests by the present state. PWR_REQ_RUN completes: in HOLD the lane enters RUN where R386 holds and
is refused with 0x08000022 where it does not; in RUN it stays, and a driver withdraws its exit; a starting
lane refuses it. PWR_REQ_HOLD, PWR_REQ_STANDBY and PWR_REQ_OFF complete: a driver at standstill takes them as
an exit towards that state and refuses them while it moves; a lane that runs without driving goes to HOLD at
once; HOLD in HOLD changes nothing; STANDBY and OFF begin an entry from HOLD, and from RUN without driving,
with the stop line asserted, role OUT and the gate rail off; a starting lane keeps the request (the readings
of log entry 71). From the side-band in STANDBY, STANDBY changes nothing, OFF ends in OFF, RUN and HOLD wake
the lane where WAKE_EN bit 2 allows it and are refused where it does not (log entry 70). A request that a
check of R371 refuses is answered with its code alone, one that does not reach the lane changes nothing.
AUTO_RUN_REQUEST completes: under AUTO_RUN 1 a lane in HOLD enters RUN when R386 holds; in any other case
nothing changes. -/
def Obligations.PowerRequests : Prop :=
    ∀ (s : State) (l : LaneId) (m : Master) (tid : Nat),
    ((s.lane l).reaches m = false → exec (.pwrReqRun l m tid) s = .next s ∧ exec (.pwrReqHold l m tid) s = .next s ∧
      exec (.pwrReqStandby l m tid) s = .next s ∧ exec (.pwrReqOff l m tid) s = .next s) ∧
    ((s.lane l).reaches m = true → (s.lane l).pwr.state ≠ .standby → ∀ e : W32,
      ((s.lane l).writeErr m 0x2100 2 [1] true false = some e →
        exec (.pwrReqRun l m tid) s = .next (s.on l fun L => L.answer m tid 0x2100 2 e)) ∧
      ((s.lane l).writeErr m 0x2100 2 [2] true false = some e →
        exec (.pwrReqHold l m tid) s = .next (s.on l fun L => L.answer m tid 0x2100 2 e)) ∧
      ((s.lane l).writeErr m 0x2100 2 [3] true false = some e →
        exec (.pwrReqStandby l m tid) s = .next (s.on l fun L => L.answer m tid 0x2100 2 e)) ∧
      ((s.lane l).writeErr m 0x2100 2 [4] true false = some e →
        exec (.pwrReqOff l m tid) s = .next (s.on l fun L => L.answer m tid 0x2100 2 e))) ∧
    ((s.lane l).reaches m = true → (s.lane l).pwr.phase = 0 → (s.lane l).writeErr m 0x2100 2 [1] true false = none →
      ((s.lane l).pwr.state = .hold → (s.lane l).runOk = true → ∃ t, exec (.pwrReqRun l m tid) s = .next t ∧
        OnlyLane l s t ∧ (t.lane l).pwr = { (s.lane l).pwr with state := .run } ∧ (t.lane l).vote = (s.lane l).vote ∧
        (∃ r, (t.lane l).dict.resp = some r ∧ r.code = 0)) ∧
      ((s.lane l).pwr.state = .hold → (s.lane l).runOk = false →
        exec (.pwrReqRun l m tid) s = .next (s.on l fun L => L.answer m tid 0x2100 2 0x08000022)) ∧
      ((s.lane l).pwr.state = .run → (s.lane l).pwr.exit = false →
        exec (.pwrReqRun l m tid) s = .next (s.on l fun L => (L.sbCount m 0x2100).answer m tid 0x2100 2 0)) ∧
      ((s.lane l).pwr.state = .run → (s.lane l).vote.role.drives = true → (s.lane l).pwr.exit = true →
        (s.lane l).pwr.exitPassive = false → 1 < (s.lane l).pwr.exitTo → ∃ t, exec (.pwrReqRun l m tid) s = .next t ∧
        OnlyLane l s t ∧ (t.lane l).pwr = { (s.lane l).pwr with exit := false, exitTo := 0 } ∧
        (t.lane l).vote = (s.lane l).vote) ∧
      ((s.lane l).pwr.state = .starting → (s.lane l).mem.testing = false →
        exec (.pwrReqRun l m tid) s = .next (s.on l fun L => L.answer m tid 0x2100 2 0x08000022))) ∧
    ((s.lane l).reaches m = true → (s.lane l).pwr.phase = 0 → (s.lane l).writeErr m 0x2100 2 [2] true false = none →
      ((s.lane l).pwr.state = .hold →
        exec (.pwrReqHold l m tid) s = .next (s.on l fun L => (L.sbCount m 0x2100).answer m tid 0x2100 2 0)) ∧
      ((s.lane l).pwr.state = .run → (s.lane l).vote.role.drives = false → (s.lane l).pwr.exitPassive = false →
        ∃ t, exec (.pwrReqHold l m tid) s = .next t ∧ OnlyLane l s t ∧
          (t.lane l).pwr = { (s.lane l).pwr with state := .hold } ∧ (t.lane l).vote = (s.lane l).vote)) ∧
    (∀ (c : Instr) (k : Nat), (c = .pwrReqHold l m tid ∧ k = 2) ∨ (c = .pwrReqStandby l m tid ∧ k = 3) ∨
        (c = .pwrReqOff l m tid ∧ k = 4) → (s.lane l).reaches m = true → (s.lane l).pwr.phase = 0 →
        (s.lane l).writeErr m 0x2100 2 [BitVec.ofNat 8 k] true false = none →
      ((s.lane l).pwr.state = .run → (s.lane l).vote.role.drives = true → (s.lane l).pwr.exit = false →
        ((s.lane l).stoodStill = true → ∃ t, exec c s = .next t ∧ OnlyLane l s t ∧
          (t.lane l).pwr = { (s.lane l).pwr with exit := true, exitTo := k } ∧ (t.lane l).vote = (s.lane l).vote ∧
          (∃ r, (t.lane l).dict.resp = some r ∧ r.code = 0)) ∧
        ((s.lane l).stoodStill = false → exec c s = .next (s.on l fun L => L.answer m tid 0x2100 2 0x08000022))) ∧
      ((s.lane l).pwr.state = .hold ∨ ((s.lane l).pwr.state = .run ∧ (s.lane l).vote.role.drives = false ∧
          (s.lane l).pwr.exitPassive = false) → k ≠ 2 →
        ∃ t, exec c s = .next t ∧ OnlyLane l s t ∧ (t.lane l).pwr.phase = 1 ∧ (t.lane l).pwr.toOff = decide (k = 4) ∧
          (t.lane l).pwr.stopLine = true ∧ (t.lane l).pwr.vgdOn = false ∧ (t.lane l).pwr.announce = true ∧
          (t.lane l).vote.role = .out ∧ (t.lane l).ta.entries = [] ∧ (∀ b, ((t.lane l).gates.get b).onOut = 0)) ∧
      ((s.lane l).pwr.state = .starting → ∃ t, exec c s = .next t ∧ OnlyLane l s t ∧
        (t.lane l).pwr = { (s.lane l).pwr with pending := if k = 2 then 0 else k - 1 } ∧
        (t.lane l).vote = (s.lane l).vote)) ∧
    (m = .sideBand → (s.lane l).reaches m = true → (s.lane l).pwr.phase = 0 → (s.lane l).pwr.state = .standby →
        (s.lane l).pwr.monUp = true →
      ((s.lane l).writeErr m 0x2100 2 [3] true false = none → exec (.pwrReqStandby l m tid) s =
        .next (s.on l fun L => (L.sbCount m 0x2100).answer m tid 0x2100 2 0)) ∧
      ((s.lane l).writeErr m 0x2100 2 [4] true false = none → ∃ t, exec (.pwrReqOff l m tid) s = .next t ∧
        OnlyLane l s t ∧ (t.lane l).pwr.state = .off ∧ (t.lane l).sleep.valid = false) ∧
      (∀ (c : Instr) (k : Byte), (c = .pwrReqRun l m tid ∧ k = 1) ∨ (c = .pwrReqHold l m tid ∧ k = 2) →
        (s.lane l).writeErr m 0x2100 2 [k] true false = none →
        (bit ((s.lane l).obj 0x2101 1) 2 = true → ∃ t, exec c s = .next t ∧ OnlyLane l s t ∧
          (t.lane l).pwr.state = .starting ∧ (t.lane l).pwr.step = 1 ∧
          (t.lane l).pwr.kind = (if (s.lane l).mem.valid then 3 else 0) ∧ (t.lane l).pwr.wakeSrc = 4) ∧
        (bit ((s.lane l).obj 0x2101 1) 2 = false →
          exec c s = .next (s.on l fun L => L.answer m tid 0x2100 2 0x08000022)))) ∧
    (((s.lane l).alive && (s.lane l).vote.running && (s.lane l).obj 0x2100 3 == 1 && (s.lane l).pwr.state == .hold &&
        (s.lane l).runOk) = true →
      ∃ t, exec (.autoRunRequest l) s = .next t ∧ OnlyLane l s t ∧
        (t.lane l).pwr = { (s.lane l).pwr with state := .run } ∧ (t.lane l).vote = (s.lane l).vote) ∧
    (((s.lane l).alive && (s.lane l).vote.running && (s.lane l).obj 0x2100 3 == 1 && (s.lane l).pwr.state == .hold &&
        (s.lane l).runOk) = false → exec (.autoRunRequest l) s = .next s)

/-- A driver's exit and the first drivers of a module. EXIT_RAMP_END completes: once its ramp has ended, an
exiting driver becomes SHADOW with its stop line asserted and goes to HOLD, or leaves for an entry; some other
driver then leads, and no other lane's power state changes; without an exit, or before the ramp's end, nothing
changes. EXIT_PASSIVE_END completes: each lane whose exit held PASSIVE does the same, every other lane stays
as it is. MODULE_FORMATION completes: when no lane drives, the lanes that meet the conditions become drivers
together, exactly one of them LEAD, their stop lines due to release at tAPPLY; no other role changes. With no
such lane, or while one drives, nothing changes. -/
def Obligations.ExitsAndFormation : Prop :=
    ∀ (s : State), s.placed →
    (∀ l : LaneId,
      (∀ e : Nat, (s.lane l).alive = true → (s.lane l).pwr.exit = true → (s.lane l).pwr.exitPassive = false →
        (s.lane l).vote.role.drives = true → (s.lane l).svc.exitStep.get l = some e → (s.lane l).rampSteps ≤ e →
        ∃ t, exec (.exitRampEnd l) s = .next t ∧ LanesOnly s t ∧ (t.lane l).pwr.stopLine = true ∧
          (t.lane l).pwr.exit = false ∧
          ((s.lane l).pwr.exitTo = 2 → (t.lane l).pwr.state = .hold ∧ (t.lane l).vote.role = .shadow) ∧
          ((s.lane l).pwr.exitTo = 3 ∨ (s.lane l).pwr.exitTo = 4 → (t.lane l).pwr.phase = 1 ∧
            (t.lane l).pwr.toOff = decide ((s.lane l).pwr.exitTo = 4) ∧ (t.lane l).vote.role = .out) ∧
          (∀ p, p ≠ l → (t.lane p).pwr = (s.lane p).pwr ∧
            ((t.lane p).vote.role = (s.lane p).vote.role ∨ (t.lane p).vote.role = .lead)) ∧
          ((∃ p, p ≠ l ∧ (s.lane p).vote.role.drives = true) → ∃ q, q ≠ l ∧ (t.lane q).vote.role = .lead)) ∧
      (((s.lane l).alive && (s.lane l).pwr.exit && !(s.lane l).pwr.exitPassive && (s.lane l).vote.role.drives) = false ∨
        (s.lane l).svc.exitStep.get l = none ∨ (∃ e, (s.lane l).svc.exitStep.get l = some e ∧ e < (s.lane l).rampSteps) →
        exec (.exitRampEnd l) s = .next s)) ∧
    (∃ t, exec .exitPassiveEnd s = .next t ∧ LanesOnly s t ∧ ∀ l,
      (((s.lane l).alive && (s.lane l).pwr.exitPassive && (s.lane l).vote.role == .shadow) = false → t.lane l = s.lane l) ∧
      (((s.lane l).alive && (s.lane l).pwr.exitPassive && (s.lane l).vote.role == .shadow) = true →
        (t.lane l).pwr.exitPassive = false ∧ (t.lane l).pwr.stopLine = true ∧
        ((s.lane l).pwr.exitTo = 2 → (t.lane l).pwr.state = .hold ∧ (t.lane l).vote.role = .shadow) ∧
        ((s.lane l).pwr.exitTo = 3 ∨ (s.lane l).pwr.exitTo = 4 → (t.lane l).pwr.phase = 1 ∧
          (t.lane l).pwr.toOff = decide ((s.lane l).pwr.exitTo = 4) ∧ (t.lane l).vote.role = .out))) ∧
    (s.formers ≠ [] → s.anyDrives = false → ∃ t, exec .moduleFormation s = .next t ∧ LanesOnly s t ∧
      (∀ l, l ∉ s.formers → (t.lane l).vote.role = (s.lane l).vote.role) ∧
      (∃ d ∈ s.formers, (t.lane d).vote.role = .lead ∧
        ∀ l ∈ s.formers, (t.lane l).vote.relAtApply = true ∧ (l ≠ d → (t.lane l).vote.role = .follower)) ∧
      (∀ l, (t.lane l).pwr = (s.lane l).pwr)) ∧
    (s.formers = [] ∨ s.anyDrives = true → exec .moduleFormation s = .next s)

/-- Supply, the lane reset and wake sources. VIN_POWER_ON completes: a lane without supply starts at step 1 with
role OUT and the stop line asserted, held by x_nRST it only has supply; a lane that has started, is OFF or
enters stays as it is. NRST_ASSERT completes: the lane is held at step 0, role OUT, stop line asserted.
NRST_RELEASE completes: it starts at step 1 where it has supply, with an invalid sleep record; without a reset
nothing changes. VIN_BELOW_POWER_ON completes: the lane is held at step 0, the records not yet written are
lost, the hold of the reintegration limit ends and, with V_AON low too, the Cone latch; a lane without supply
stays as it is. WAKE_EVENT completes: an enabled wake starts a lane in STANDBY at step 1, is held after the
latch, and abandons the save phase and the Wedge pass with fault 0x1FD9; one that is not enabled, or finds a
lane outside STANDBY and an entry, changes nothing. VIN_UNDERVOLTAGE completes as a lane-out 0x6FC5,
VIN_OVERVOLTAGE as the record 0x6FC3, AON_RESET as an invalid sleep record with 0x6FC6; a lane that is not
watched raises none of them. -/
def Obligations.SupplyAndWake : Prop :=
    ∀ (s : State) (l : LaneId),
    ((s.lane l).pwr.vinOn = false → (s.lane l).pwr.phase = 0 →
      ((s.lane l).pwr.nrst = false → ∃ t, exec (.vinPowerOn l) s = .next t ∧ LanesOnly s t ∧
        (t.lane l).pwr.state = .starting ∧ (t.lane l).pwr.step = 1 ∧ (t.lane l).pwr.vinOn = true ∧
        (t.lane l).pwr.kind = (if (s.lane l).mem.valid then 1 else 0) ∧ (t.lane l).vote.role = .out ∧
        (t.lane l).pwr.stopLine = true ∧ (t.lane l).mem.valid = false ∧ (t.lane l).flog.nv = (s.lane l).flog.nv ∧
        ∀ p, p ≠ l → (t.lane p).pwr = (s.lane p).pwr ∧ (t.lane p).vote.role = (s.lane p).vote.role) ∧
      ((s.lane l).pwr.nrst = true → exec (.vinPowerOn l) s =
        .next (s.on l fun L => { L with pwr := { L.pwr with vinOn := true, vaonOn := true } }))) ∧
    (((s.lane l).pwr.vinOn = true ∧ (s.lane l).pwr.step ≠ 0) ∨ ((s.lane l).pwr.state = .off ∧ (s.lane l).pwr.vinOn = true) ∨
      (s.lane l).pwr.phase ≠ 0 → exec (.vinPowerOn l) s = .next s) ∧
    (∃ t, exec (.nrstAssert l) s = .next t ∧ OnlyLane l s t ∧ (t.lane l).pwr.nrst = true ∧ (t.lane l).pwr.step = 0 ∧
      (t.lane l).pwr.state = .starting ∧ (t.lane l).vote.role = .out ∧ (t.lane l).pwr.stopLine = true ∧
      (t.lane l).sb.isOpen = false ∧ (∀ b, ((t.lane l).gates.get b).onOut = 0) ∧
      (t.lane l).safe.inp = (s.lane l).safe.inp) ∧
    ((s.lane l).pwr.nrst = true → ∃ t, exec (.nrstRelease l) s = .next t ∧ LanesOnly s t ∧
      (t.lane l).pwr.nrst = false ∧ (t.lane l).sleep.valid = false ∧
      ((s.lane l).pwr.vinOn = true → (t.lane l).pwr.step = 1 ∧ (t.lane l).pwr.state = .starting ∧
        (t.lane l).vote.role = .out) ∧
      ((s.lane l).pwr.vinOn = false → (t.lane l).pwr = { (s.lane l).pwr with nrst := false })) ∧
    ((s.lane l).pwr.nrst = false → exec (.nrstRelease l) s = .next s) ∧
    (∀ written aonLow : Bool,
      ((s.lane l).pwr.vinOn = true →
        ∃ t, exec (.vinBelowPowerOn l written aonLow) s = .next t ∧ OnlyLane l s t ∧ (t.lane l).pwr.vinOn = false ∧
          (t.lane l).pwr.step = 0 ∧ (t.lane l).vote.role = .out ∧ (t.lane l).vote.held = false ∧ (t.lane l).flog.ring = [] ∧
          (written = true → (t.lane l).flog.nv = (s.lane l).flog.nv) ∧
          (written = false → (t.lane l).flog.nv =
            (s.lane l).flog.nv.take ((s.lane l).flog.nv.length - (s.lane l).flog.lastFrozen)) ∧
          (aonLow = true → (t.lane l).therm.cone = false ∧ (t.lane l).sleep.valid = false) ∧
          (aonLow = false → (s.lane l).pwr.vaonOn = true → (t.lane l).therm.cone = (s.lane l).therm.cone)) ∧
      ((s.lane l).pwr.vinOn = false → exec (.vinBelowPowerOn l written aonLow) s = .next s)) ∧
    (∀ src : WakeSrc,
      ((s.lane l).pwr.vinOn = true → (s.lane l).pwr.nrst = false →
        bit ((s.lane l).obj 0x2101 1) (wakeBit src) = true →
        ((s.lane l).pwr.state = .standby → ∃ t, exec (.wakeEvent l src) s = .next t ∧ LanesOnly s t ∧
          (t.lane l).pwr.state = .starting ∧ (t.lane l).pwr.step = 1 ∧
          (t.lane l).pwr.wakeSrc = BitVec.ofNat 8 (2 ^ wakeBit src) ∧
          (t.lane l).pwr.kind = (if (s.lane l).mem.valid then 3 else 0)) ∧
        ((s.lane l).pwr.state ≠ .standby → (s.lane l).mem.testing = false →
          ((s.lane l).pwr.phase = 4 → (s.lane l).pwr.asleep = true →
            exec (.wakeEvent l src) s = .next (s.on l fun L => { L with pwr := { L.pwr with
              latched := true, wakeSrc := BitVec.ofNat 8 (2 ^ wakeBit src) ||| 0x80 } })) ∧
          ((s.lane l).pwr.phase = 1 ∨ (s.lane l).pwr.phase = 2 → (s.lane l).pwr.asleep = false → src = .pin →
            ((s.lane l).pwr.abandon = false → ∃ t, exec (.wakeEvent l src) s = .next t ∧ OnlyLane l s t ∧
              (t.lane l).pwr = { (s.lane l).pwr with abandon := true } ∧ (t.lane l).flog.last = 0x1FD9 ∧
              (t.lane l).vote = (s.lane l).vote) ∧
            ((s.lane l).pwr.abandon = true → exec (.wakeEvent l src) s = .next s)))) ∧
      ((s.lane l).pwr.vinOn = false ∨ (s.lane l).pwr.nrst = true ∨
        bit ((s.lane l).obj 0x2101 1) (wakeBit src) = false ∨
        ((s.lane l).pwr.state ≠ .standby ∧ (s.lane l).pwr.phase = 0) → exec (.wakeEvent l src) s = .next s)) ∧
    ((s.lane l).watched = true →
      ((s.lane l).vote.outNow = false → ∃ t, exec (.vinUndervoltage l) s = .next t ∧ OnlyLane l s t ∧
        (t.lane l).vote.role = .out ∧ (t.lane l).vote.outNow = true ∧ (t.lane l).pwr.stopLine = true ∧
        (t.lane l).flog.last = 0x6FC5 ∧ (t.lane l).dict = (s.lane l).dict) ∧
      (∃ t, exec (.vinOvervoltage l) s = .next t ∧ OnlyLane l s t ∧ (t.lane l).flog.last = 0x6FC3 ∧
        (t.lane l).vote = (s.lane l).vote ∧ (t.lane l).pwr = (s.lane l).pwr) ∧
      (∃ t, exec (.aonReset l) s = .next t ∧ OnlyLane l s t ∧ (t.lane l).sleep.valid = false ∧
        (t.lane l).flog.last = 0x6FC6 ∧ (t.lane l).therm.cone = (s.lane l).therm.cone)) ∧
    ((s.lane l).watched = false → exec (.vinUndervoltage l) s = .next s ∧ exec (.vinOvervoltage l) s = .next s ∧
      ∃ t, exec (.aonReset l) s = .next t ∧ OnlyLane l s t ∧ (t.lane l).sleep.valid = false ∧
        (t.lane l).flog = (s.lane l).flog)

/-- The phases of an entry. ENTRY_PHASE_END completes in every lane. The save phase silences the node, keeps the
network time and commits the recorder and the Kiln log, and the march begins at group 0; one that was
abandoned restarts the lane from step 7. A finished march leads to the calibration, or for OFF to the power-
down; a running one goes on; an abandoned entry restarts from step 5, which owes the groups left untested. The
calibration latches the sleep record, valid unless the always-on oscillator is out of range. The power-down
ends in OFF, or in STANDBY with the clocks stopped; a latched wake starts the lane at once (log entry 62).
Outside an entry nothing changes. -/
def Obligations.EntryPhases : Prop :=
    ∀ (s : State) (l : LaneId) (r : PhaseReport),
    ((s.lane l).pwr.phase = 1 → (s.lane l).pwr.abandon = false → ∃ t, exec (.entryPhaseEnd l r) s = .next t ∧
      OnlyLane l s t ∧ (t.lane l).pwr.phase = 2 ∧ (t.lane l).net.state = .halt ∧ (t.lane l).tb.lastTime = (s.lane l).tb.ns ∧
      (t.lane l).mem.running = true ∧ (t.lane l).mem.group = 0 ∧ (∀ e ∈ (t.lane l).flog.ring, e.pending = false) ∧
      (t.lane l).kiln.seq = (s.lane l).kiln.seq + 1) ∧
    ((s.lane l).pwr.phase = 1 → (s.lane l).pwr.abandon = true → (s.lane l).mem.testing = false →
      ∃ t, exec (.entryPhaseEnd l r) s = .next t ∧ OnlyLane l s t ∧ (t.lane l).pwr.phase = 0 ∧
        (t.lane l).pwr.state = .starting ∧ (t.lane l).pwr.step = 7 ∧ (t.lane l).pwr.kind = 1 ∧
        (t.lane l).tb.lastTime = (s.lane l).tb.ns) ∧
    ((s.lane l).pwr.phase = 2 →
      ((s.lane l).mem.running = true ∨ (s.lane l).mem.testing = true → exec (.entryPhaseEnd l r) s = .next s) ∧
      ((s.lane l).mem.running = false → (s.lane l).mem.testing = false → (s.lane l).pwr.abandon = false →
        exec (.entryPhaseEnd l r) s = .next (s.on l fun L =>
          { L with pwr := { L.pwr with phase := if L.pwr.toOff then 4 else 3 } })) ∧
      ((s.lane l).mem.running = false → (s.lane l).mem.testing = false → (s.lane l).pwr.abandon = true →
        ∃ t, exec (.entryPhaseEnd l r) s = .next t ∧ OnlyLane l s t ∧ (t.lane l).pwr.phase = 0 ∧
          (t.lane l).pwr.state = .starting ∧ (t.lane l).pwr.step = 5 ∧ (t.lane l).pwr.kind = 1 ∧
          (t.lane l).mem.owed = (s.lane l).mem.untested)) ∧
    ((s.lane l).pwr.phase = 3 → ∃ t, exec (.entryPhaseEnd l r) s = .next t ∧ OnlyLane l s t ∧
      (t.lane l).pwr.phase = 4 ∧ (t.lane l).pwr.asleep = true ∧ (t.lane l).sleep.valid = (!(s.lane l).clk.aoBad) ∧
      (t.lane l).sleep.te = (t.lane l).tb.ns ∧ (t.lane l).sleep.ce = r.ce % 2 ^ 56 ∧ (t.lane l).sleep.ncal = r.ncal ∧
      (t.lane l).vote = (s.lane l).vote) ∧
    ((s.lane l).pwr.phase = 4 →
      ((s.lane l).pwr.latched = false → (s.lane l).pwr.toOff = true → ∃ t, exec (.entryPhaseEnd l r) s = .next t ∧
        OnlyLane l s t ∧ (t.lane l).pwr.state = .off ∧ (t.lane l).pwr.phase = 0 ∧ (t.lane l).sleep.valid = false) ∧
      ((s.lane l).pwr.latched = false → (s.lane l).pwr.toOff = false → ∃ t, exec (.entryPhaseEnd l r) s = .next t ∧
        OnlyLane l s t ∧ (t.lane l).pwr.state = .standby ∧ (t.lane l).pwr.phase = 0 ∧ (t.lane l).pwr.monUp = false ∧
        (t.lane l).clk.netLock = false ∧ (t.lane l).safe.sealOpen = false ∧ (t.lane l).sleep = (s.lane l).sleep) ∧
      ((s.lane l).pwr.latched = true → ∃ t, exec (.entryPhaseEnd l r) s = .next t ∧ OnlyLane l s t ∧
        (t.lane l).pwr.state = .starting ∧ (t.lane l).pwr.step = 1 ∧
        (t.lane l).pwr.kind = (if (s.lane l).mem.valid then 3 else 0) ∧
        (t.lane l).pwr.wakeSrc = (s.lane l).pwr.wakeSrc)) ∧
    ((s.lane l).pwr.phase = 0 ∨ 4 < (s.lane l).pwr.phase → exec (.entryPhaseEnd l r) s = .next s)

/-- The restore order, step by step. RESTORE_STEP_END completes. A lane that restores passes each step whose
report is good: step 0 starts it at step 1, step 2 starts the crystal, 3 locks the PLLs, 5 owes no group any
more, 6 boots and takes the pins, 7 seeds the time base and releases the stop line, 8 asserts it again and
waits for SHADOW. A step that is not done keeps the lane there with its fault; a held Cone latch keeps it at
step 1, a failed secure boot at step 6, a failed start test at its step; a gate rail that stays low at step 8
takes the lane out with 0x6FC1. Only step 7 draws a free value (log entry 5). A lane that does not restore
stays as it is. -/
def Obligations.RestoreOrder : Prop :=
    ∀ (s : State) (l : LaneId) (r : StepReport),
    ((s.lane l).restoring = false → exec (.restoreStepEnd l r) s = .next s) ∧
    ((s.lane l).restoring = true → r.latent ∈ startTests (s.lane l).pwr.step →
      ∃ t, exec (.restoreStepEnd l r) s = .next t ∧ OnlyLane l s t ∧ (t.lane l).pwr.step = (s.lane l).pwr.step ∧
        (t.lane l).pwr.stuckAt = true ∧ (t.lane l).flog.last = BitVec.ofNat 16 r.latent ∧
        ((s.lane l).pwr.step = 8 → (t.lane l).pwr.stopLine = true)) ∧
    ((s.lane l).restoring = true → r.latent ∉ startTests (s.lane l).pwr.step →
      ((s.lane l).pwr.step = 0 → ∃ t, exec (.restoreStepEnd l r) s = .next t ∧ LanesOnly s t ∧ (t.lane l).pwr.step = 1 ∧
        (t.lane l).pwr.state = .starting ∧ (t.lane l).vote.role = .out) ∧
      ((s.lane l).pwr.step = 1 → ∃ t, exec (.restoreStepEnd l r) s = .next t ∧ OnlyLane l s t ∧
        (t.lane l).pwr.step = (if (s.lane l).therm.cone then 1 else 2) ∧ (t.lane l).pwr.stuckAt = (s.lane l).therm.cone) ∧
      ((s.lane l).pwr.step = 2 → ∃ t, exec (.restoreStepEnd l r) s = .next t ∧ OnlyLane l s t ∧
        (r.done = true → (t.lane l).pwr.step = 3 ∧ (t.lane l).clk.xtalOk = true) ∧
        (r.done = false → (t.lane l).pwr.step = 2 ∧ (t.lane l).pwr.stuckAt = true ∧ (t.lane l).flog.last = 0x1FD2)) ∧
      ((s.lane l).pwr.step = 3 → ∃ t, exec (.restoreStepEnd l r) s = .next t ∧ OnlyLane l s t ∧
        (r.done = true → (t.lane l).pwr.step = 4 ∧ (t.lane l).clk.coreLock = true ∧ (t.lane l).clk.netLock = true) ∧
        (r.done = false → (t.lane l).pwr.step = 3 ∧ (t.lane l).pwr.stuckAt = true ∧ (t.lane l).flog.last = 0x1FD3)) ∧
      ((s.lane l).pwr.step = 4 → ∃ t, exec (.restoreStepEnd l r) s = .next t ∧ OnlyLane l s t ∧
        (r.done = true → (t.lane l).pwr.step = 5) ∧
        (r.done = false → (t.lane l).pwr.step = 4 ∧ (t.lane l).pwr.stuckAt = true ∧ (t.lane l).flog.last = 0x1FD4)) ∧
      ((s.lane l).pwr.step = 5 → ∃ t, exec (.restoreStepEnd l r) s = .next t ∧ OnlyLane l s t ∧ (t.lane l).mem.owed = 0 ∧
        (r.done = true → r.cells = [] → (s.lane l).mem.marked = [] → (t.lane l).pwr.step = 6 ∧
          (t.lane l).mem.spares = (s.lane l).mem.spares) ∧
        (r.done = false → (t.lane l).pwr.step = 5 ∧ (t.lane l).pwr.stuckAt = true ∧ (t.lane l).flog.last = 0x1FD5)) ∧
      ((s.lane l).pwr.step = 6 →
        (∀ k c : Nat, r.done = true → r.pins = some (k, c) →
          (s.lane l).sec.bankPasses (s.lane l).sec.active = true → ∃ t, exec (.restoreStepEnd l r) s = .next t ∧
            OnlyLane l s t ∧ (t.lane l).pwr.step = 7 ∧ (t.lane l).sec.bootOk = true ∧ (t.lane l).safe.setSel = k % 4 ∧
            (t.lane l).safe.chkIn = c % 256 ∧ (t.lane l).pwr.state = .starting) ∧
        ((s.lane l).sec.bankPasses (s.lane l).sec.active = false →
          (s.lane l).sec.bankPasses (1 - (s.lane l).sec.active) = false → ∃ t, exec (.restoreStepEnd l r) s = .next t ∧
            OnlyLane l s t ∧ (t.lane l).pwr.step = 6 ∧ (t.lane l).pwr.stuckAt = true ∧ (t.lane l).sec.bootOk = false ∧
            (t.lane l).flog.last = 0x9002)) ∧
      ((s.lane l).pwr.step = 7 → ∃ t, exec (.restoreStepEnd l r) s = .next t ∧ t.pub = s.pub ∧ t.pending = s.pending ∧
        t.freeCtr = s.freeCtr + 1 ∧ (t.lane l).pwr.step = 8 ∧ (t.lane l).pwr.stopLine = false ∧ (t.lane l).tb.seeded = true ∧
        (t.lane l).pwr.state = .starting) ∧
      ((s.lane l).pwr.step = 8 → ∃ t, exec (.restoreStepEnd l r) s = .next t ∧ OnlyLane l s t ∧
        (t.lane l).pwr.stopLine = true ∧ (t.lane l).pwr.step = 8 ∧ (t.lane l).pwr.vgdOn = true ∧
        (r.done = true → (t.lane l).pwr.waitShadow = true ∧ ∀ b, ((t.lane l).gates.get b).onOut = 0) ∧
        (r.done = false → (t.lane l).vote.outNow = true ∧ (t.lane l).pwr.vgdBad = true ∧ (t.lane l).flog.last = 0x6FC1 ∧
          (t.lane l).pwr.waitShadow = false)))

/-- Safety inputs, test pulses, the safety reset and the seal. SAFETY_SAMPLE completes: an equivalent input whose
channels agree takes their level as its value, an antivalent one that of channel 1 when they differ; a first
disagreement counts from 0 and leaves the value. DISCREPANCY_FAULT completes: a count beyond its limit latches
the discrepancy with its fault; a shorter one, none, a latched or an off input changes nothing. TEST_PULSE
completes: the output goes low. TEST_PULSE_CHECK completes: a channel that twice reads high latches its
input's test-pulse fault, and the output returns high. A lane that does not sample stays as it is.
SAFETY_RESET completes: a release 200 to 8,000 samples after its press clears every test-pulse and read-back
latch, and each discrepancy latch whose input agrees or is off, with fault 0x8203; any other release, or none,
changes nothing. SRST_STUCK completes: a press of 8,001 samples is stuck, 0x8201, once. SEAL_OPEN completes:
the seal opens after 8 open samples, in RUN with fault 0x8402. SEAL_DISAGREE completes: 400 equal samples are
a disagreement, 0x8401. Before that nothing changes; a sample that is not open closes the seal, in STANDBY
too. -/
def Obligations.SafetyInputsAndSeal : Prop :=
    (∀ (s : State) (l : LaneId),
    (∀ (n : Nat) (p : SafetyPins), (s.lane l).sampling = true → ∃ t, exec (.safetySample l n p) s = .next t ∧
      OnlyLane l s t ∧ (t.lane l).tb.ns = max (s.lane l).tb.ns (n * 250000) ∧ (t.lane l).vote = (s.lane l).vote ∧
      (t.lane l).pwr = (s.lane l).pwr ∧
      (∀ (i : Fin 8) (v : Bool), (s.lane l).siMode i % 4 = 1 → p.ch1.get i = v → p.ch2.get i = v →
        ((t.lane l).safe.inp.get i).value = v ∧ ((t.lane l).safe.inp.get i).has = true ∧
        ((t.lane l).safe.inp.get i).dis = none) ∧
      (∀ (i : Fin 8) (v : Bool), (s.lane l).siMode i % 4 = 2 → p.ch1.get i = v → p.ch2.get i = !v →
        ((t.lane l).safe.inp.get i).value = v ∧ ((t.lane l).safe.inp.get i).has = true ∧
        ((t.lane l).safe.inp.get i).dis = none) ∧
      (∀ i : Fin 8, (s.lane l).siMode i % 4 ≠ 0 → inputState ((s.lane l).siMode i) (p.ch1.get i) (p.ch2.get i) = none →
        ((s.lane l).safe.inp.get i).modeUsed = (s.lane l).siMode i →
        ((t.lane l).safe.inp.get i).value = ((s.lane l).safe.inp.get i).value ∧
        ((t.lane l).safe.inp.get i).dis = some (match ((s.lane l).safe.inp.get i).dis with
          | some k => k + 1
          | none => 0))) ∧
    (∀ i : Fin 8,
      (∀ k : Nat, ((s.lane l).safe.inp.get i).dis = some k →
        ((s.lane l).discSamples i + 1 ≤ k → ((s.lane l).safe.inp.get i).disc = false → (s.lane l).siMode i % 4 ≠ 0 →
          ∃ t, exec (.discrepancyFault l i) s = .next t ∧ OnlyLane l s t ∧ ((t.lane l).safe.inp.get i).disc = true ∧
            (t.lane l).flog.last = BitVec.ofNat 16 (0x8001 + 0x40 * i.val) ∧
            (∀ j, j ≠ i → (t.lane l).safe.inp.get j = (s.lane l).safe.inp.get j) ∧ (t.lane l).vote = (s.lane l).vote) ∧
        (k ≤ (s.lane l).discSamples i → exec (.discrepancyFault l i) s = .next s)) ∧
      (((s.lane l).safe.inp.get i).dis = none ∨ ((s.lane l).safe.inp.get i).disc = true ∨ (s.lane l).siMode i % 4 = 0 →
        exec (.discrepancyFault l i) s = .next s)) ∧
    (∀ (o : Bool) (n : Nat), (s.lane l).sampling = true → ∃ t, exec (.testPulse l o n) s = .next t ∧ OnlyLane l s t ∧
      ((t.lane l).safe.tpo o).level = false ∧ (t.lane l).safe.tpo (!o) = (s.lane l).safe.tpo (!o) ∧
      (t.lane l).safe.inp = (s.lane l).safe.inp) ∧
    (∀ (o back : Bool) (c1 c2 : Oct Bool), (s.lane l).sampling = true → (s.lane l).tpoUsed o = true →
      ∃ t, exec (.testPulseCheck l o back c1 c2) s = .next t ∧ OnlyLane l s t ∧ ((t.lane l).safe.tpo o).level = true ∧
        (∀ i : Fin 8, (s.lane l).selects o i = true → (s.lane l).siMode i % 4 ≠ 0 →
          ((s.lane l).safe.inp.get i).ch1 = true → c1.get i = true → 1 ≤ ((s.lane l).safe.inp.get i).run1 →
          ((t.lane l).safe.inp.get i).tp = true) ∧
        (∀ i : Fin 8, (s.lane l).selects o i = false → (t.lane l).safe.inp.get i = (s.lane l).safe.inp.get i)) ∧
    ((s.lane l).sampling = false → ∀ (o back : Bool) (n : Nat) (c1 c2 : Oct Bool) (p : SafetyPins),
      exec (.testPulse l o n) s = .next s ∧ exec (.testPulseCheck l o back c1 c2) s = .next s ∧
      ((s.lane l).pwr.state ≠ .standby → exec (.safetySample l n p) s = .next s))) ∧
    (∀ (s : State) (l : LaneId),
    (∀ k, (s.lane l).safe.released = some k →
      (200 ≤ k → k ≤ 8000 → ∃ t, exec (.safetyReset l) s = .next t ∧ OnlyLane l s t ∧ (t.lane l).flog.last = 0x8203 ∧
        (∀ i, ((t.lane l).safe.inp.get i).tp = false ∧ ((t.lane l).safe.inp.get i).disc =
          (((s.lane l).safe.inp.get i).disc && ((s.lane l).safe.inp.get i).dis.isSome &&
            !((s.lane l).siMode i % 4 == 0)) ∧
          ((t.lane l).safe.inp.get i).value = ((s.lane l).safe.inp.get i).value) ∧
        (t.lane l).safe.tpo0.latched = false ∧ (t.lane l).safe.tpo1.latched = false ∧
        (t.lane l).gates = (s.lane l).gates ∧ (t.lane l).svc = (s.lane l).svc) ∧
      (k < 200 ∨ 8000 < k → exec (.safetyReset l) s = .next s)) ∧
    ((s.lane l).safe.released = none → exec (.safetyReset l) s = .next s) ∧
    (∀ k, (s.lane l).safe.press = some k →
      (8001 ≤ k → (s.lane l).safe.stuck = false → ∃ t, exec (.srstStuck l) s = .next t ∧ OnlyLane l s t ∧
        (t.lane l).safe = { (s.lane l).safe with stuck := true } ∧ (t.lane l).flog.last = 0x8201) ∧
      (k < 8001 ∨ (s.lane l).safe.stuck = true → exec (.srstStuck l) s = .next s)) ∧
    ((s.lane l).safe.press = none → exec (.srstStuck l) s = .next s) ∧
    (8 ≤ (s.lane l).safe.openRun → (s.lane l).safe.sealOpen = false → ∃ t, exec (.sealOpen l) s = .next t ∧
      OnlyLane l s t ∧ (t.lane l).safe = { (s.lane l).safe with sealOpen := true } ∧
      ((s.lane l).pwr.state = .run → (t.lane l).flog.last = 0x8402) ∧
      ((s.lane l).pwr.state ≠ .run → (t.lane l).flog = (s.lane l).flog)) ∧
    ((s.lane l).safe.openRun < 8 ∨ (s.lane l).safe.sealOpen = true → exec (.sealOpen l) s = .next s) ∧
    (400 ≤ (s.lane l).safe.equalRun → (s.lane l).safe.disagree = false → ∃ t, exec (.sealDisagree l) s = .next t ∧
      OnlyLane l s t ∧ (t.lane l).safe = { (s.lane l).safe with disagree := true } ∧ (t.lane l).flog.last = 0x8401) ∧
    ((s.lane l).safe.equalRun < 400 ∨ (s.lane l).safe.disagree = true → exec (.sealDisagree l) s = .next s) ∧
    (∀ (n : Nat) (p : SafetyPins), (s.lane l).sampling = true ∨ ((s.lane l).pwr.state = .standby ∧ (s.lane l).pwr.monUp = true) →
      (p.seal1 && !p.seal2) = false → ∃ t, exec (.safetySample l n p) s = .next t ∧ OnlyLane l s t ∧
        (t.lane l).safe.sealOpen = false ∧ (t.lane l).safe.openRun = 0))

/-- The password-protected objects and DS2_MODE 0. Exactly DS2_TARGET, DS2_VALUE and DS2_STORE are the RWP objects
of every lane. While DS2_MODE is 0 a write of any of them with any data fails with 0x08000021, and a write of
DS2_PASSWORD with 0x08000022, once no earlier check of R371 gives its code; no write of the four succeeds
whatever the earlier checks give. -/
def Obligations.Ds2Objects : Prop :=
    (∀ (l : LaneId) (idx sub : Nat), (∃ r, findObj l idx sub = some r ∧ r.acc = .rwp) ↔
      (idx = 0x2405 ∧ (sub = 3 ∨ sub = 4 ∨ sub = 5))) ∧
    (∀ (s : State) (l : LaneId) (m : Master) (tid : Nat) (data : List Byte), (s.lane l).obj 0x2405 1 = 0 →
      (∀ (c : Instr) (sub : Nat) (code : W32),
        (c = .objectWrite l m tid 0x2405 3 0 data.length none data {} ∧ sub = 3 ∧ code = 0x08000021) ∨
        (c = .ds2Value l m tid data none ∧ sub = 4 ∧ code = 0x08000021) ∨
        (c = .ds2Store l m tid data ∧ sub = 5 ∧ code = 0x08000021) ∨
        (c = .ds2Password l m tid data.length data ∧ sub = 2 ∧ code = 0x08000022) →
        (m = .host → (s.lane l).pairsUp = true → (s.lane l).txnFull .host = false → (s.lane l).dict.wbufs = [] →
          ∃ t, exec c s = .next t ∧ OnlyLane l s t ∧ (t.lane l).dict.working = (s.lane l).dict.working ∧
            (t.lane l).ds2 = (s.lane l).ds2 ∧ (t.lane l).dict.sets = (s.lane l).dict.sets ∧
            (∃ r, (t.lane l).dict.resp = some r ∧ r.sub = sub ∧ r.code = code)) ∧
        (m = .sideBand → (s.lane l).pairsUp = true → (s.lane l).txnFull .sideBand = false → (s.lane l).sb.isOpen = true →
          (s.lane l).sbReach = true → (s.lane l).dict.wbufs = [] →
          ∃ t, exec c s = .next t ∧ OnlyLane l s t ∧ (t.lane l).dict.working = (s.lane l).dict.working ∧
            (t.lane l).ds2 = (s.lane l).ds2 ∧ (t.lane l).dict.sets = (s.lane l).dict.sets ∧
            (∃ r, (t.lane l).dict.resp = some r ∧ r.sub = sub ∧ r.code = code)) ∧
        (∃ t, exec c s = .next t ∧ (t.lane l).dict.working = (s.lane l).dict.working ∧
          (t.lane l).ds2 = (s.lane l).ds2 ∧ (t.lane l).dict.sets = (s.lane l).dict.sets)))

/-- Passwords, the window and the stored set of the DS2 method. DS2_PASSWORD completes: a password whose hash with
LANE_UID matches unlocks its master and ends the count; one that does not counts and is refused with
0x0D000005, fault 0x8441, the third in a row 0x8442 and a block, and while blocked every entry fails; a
message whose length is not its ARG fails its order. DS2_VALUE completes: a window write of a local target
puts the value in force and logs it, one of a module-wide target is prepared as a commit. DS2_STORE completes:
it stores the working set and logs it. DS2_LOCK and DS2_UNLOCK_TIMEOUT complete: each ends the unlock of that
master alone. DS2_BLOCK_EXPIRY completes: the block ends. A write that a check refuses is answered with its
code and does nothing else. -/
def Obligations.Ds2Method : Prop :=
    ∀ (s : State) (l : LaneId) (m : Master) (tid : Nat) (data : List Byte),
    ((s.lane l).writeErr m 0x2405 2 data ((s.lane l).obj 0x2405 1 == 1) false = none →
      ((s.lane l).ds2.blocked = false → (s.lane l).obj 0x2405 6 ≠ 0 → (s.lane l).obj 0x2405 6 = (s.lane l).pwHash data →
        ∃ t, exec (.ds2Password l m tid data.length data) s = .next t ∧ OnlyLane l s t ∧
          (t.lane l).ds2 = { ((s.lane l).ds2.setUnlock m true) with fails := 0 }) ∧
      ((s.lane l).ds2.blocked = false →
        ((s.lane l).obj 0x2405 6 = 0 ∨ (s.lane l).obj 0x2405 6 ≠ (s.lane l).pwHash data) →
        ∃ t, exec (.ds2Password l m tid data.length data) s = .next t ∧ OnlyLane l s t ∧
          (t.lane l).ds2.fails = min ((s.lane l).ds2.fails + 1) 3 ∧
          (t.lane l).ds2.blocked = decide (2 ≤ (s.lane l).ds2.fails) ∧
          (t.lane l).ds2.unlockHost = (s.lane l).ds2.unlockHost ∧ (t.lane l).ds2.unlockSb = (s.lane l).ds2.unlockSb ∧
          (t.lane l).flog.last = (if 2 ≤ (s.lane l).ds2.fails then 0x8442 else 0x8441)) ∧
      ((s.lane l).ds2.blocked = true → exec (.ds2Password l m tid data.length data) s =
        .next (s.on l fun L => (L.sbCount m 0x2405).answer m tid 0x2405 2 0x0D000005))) ∧
    (∀ e : W32, (s.lane l).writeErr m 0x2405 2 data ((s.lane l).obj 0x2405 1 == 1) false = some e →
      exec (.ds2Password l m tid data.length data) s = .next (s.on l fun L => L.answer m tid 0x2405 2 e)) ∧
    (∀ total, data.length ≠ total → (m = .host ∨ m = .sideBand) → (s.lane l).reaches m = true →
      ∃ t, exec (.ds2Password l m tid total data) s = .next t ∧ OnlyLane l s t ∧ (t.lane l).ds2 = (s.lane l).ds2 ∧
        (∃ r, (t.lane l).dict.resp = some r ∧ r.code = 0x05040001)) ∧
    (∀ (idx sub : Nat) (grp : Option (Fin 16)), (s.lane l).obj 0x2405 3 ≠ 0 →
      bits ((s.lane l).obj 0x2405 3) 16 16 = idx → bits ((s.lane l).obj 0x2405 3) 8 8 = sub →
      (s.lane l).writeErr m 0x2405 4 data true false = none →
      ((s.lane l).plainErr m idx sub data true = none →
        (isWide idx sub = false → ∃ t, exec (.ds2Value l m tid data grp) s = .next t ∧ OnlyLane l s t ∧
          (t.lane l).obj idx sub = ofBytes data ∧
          (∀ i j, okey i j ≠ okey idx sub → (t.lane l).obj i j = (s.lane l).obj i j) ∧
          (∃ c rest, (t.lane l).ds2.log = c :: rest ∧ c.kind = 1 ∧ c.idx = idx ∧ c.sub = sub ∧ c.len = data.length ∧
            c.new = BitVec.ofNat 32 (ofBytes data % 2 ^ 32)) ∧ (t.lane l).ds2.log.length ≤ 64) ∧
        (isWide idx sub = true → exec (.ds2Value l m tid data grp) s = .next (s.on l fun L =>
          (L.sbCount m 0x2405).prepare m tid idx sub (ofBytes data) (grp.map (·.val)) true))) ∧
      (∀ e : W32, (s.lane l).plainErr m idx sub data true = some e → exec (.ds2Value l m tid data none) s =
        .next (s.on l fun L => (L.failGroup m none).answer m tid 0x2405 4 e))) ∧
    (∀ n : Fin 4, (s.lane l).writeErr m 0x2405 5 [BitVec.ofNat 8 n.val] true false = none →
      (s.lane l).dict.sets.length = 4 → ∃ t, exec (.ds2Store l m tid [BitVec.ofNat 8 n.val]) s = .next t ∧
        OnlyLane l s t ∧ (t.lane l).dict.sets[n.val]? = some
          { vals := (s.lane l).cfgVals, crc := BitVec.ofNat 32 (s.lane l).setCrc, intact := true } ∧
        (t.lane l).ds2.lastStore = n.val ∧
        (∃ c rest, (t.lane l).ds2.log = c :: rest ∧ c.kind = 2 ∧ c.idx = 0x2404 ∧ c.sub = n.val)) ∧
    (∀ e : W32, (s.lane l).writeErr m 0x2405 5 data true false = some e →
      exec (.ds2Store l m tid data) s = .next (s.on l fun L => L.answer m tid 0x2405 5 e)) ∧
    ((s.lane l).writeErr m 0x2405 8 data true false = none → ∃ t, exec (.ds2Lock l m tid data) s = .next t ∧
      OnlyLane l s t ∧ (t.lane l).ds2 = (s.lane l).ds2.setUnlock m false) ∧
    (∀ e : W32, (s.lane l).writeErr m 0x2405 8 data true false = some e →
      exec (.ds2Lock l m tid data) s = .next (s.on l fun L => L.answer m tid 0x2405 8 e)) ∧
    exec (.ds2UnlockTimeout l m) s = .next (s.on l fun L => { L with ds2 := L.ds2.setUnlock m false }) ∧
    exec (.ds2BlockExpiry l) s = .next (s.on l fun L => { L with ds2 := { L.ds2 with blocked := false } })

/-- Keys, revocation, the test access port and debug. KEYPROV completes: it writes its slot only when every
condition holds, with the key that the transport key unwraps; any other update gives the result of the first
that fails and writes none. JTAG_IDCODE completes: it captures the identification. JTAG_BYPASS completes: it
selects the bypass. KEY_REVOKE completes: a revocation that is accepted revokes each slot named, which counts
no more for RUN; a refused one is answered with its code. DBG_CHALLENGE completes: it draws a free value.
DBG_RESPONSE completes: one whose signature over the challenge verifies opens debug with role OUT and the stop
line asserted, a bad one is counted, 0x9142, the third blocks, 0x9143, and while blocked every one fails.
DBG_BLOCK_EXPIRY completes: the block ends. -/
def Obligations.KeysAndDebug : Prop :=
    ∀ (s : State) (l : LaneId),
    (∀ (head wrapped reg : List Byte) (o : Bool), reg = head ++ wrapped →
      ((s.lane l).keyprovResult reg o = 0 → ∃ t k, exec (.keyprov l head wrapped o) s = .next t ∧ OnlyLane l s t ∧
        (s.lane l).pwr.state ≠ .run ∧ (s.lane l).safe.sealOpen = true ∧ o = true ∧
        (s.lane l).provKey reg (((reg[0]?).map (·.toNat)).getD 0) = some k ∧
        (t.lane l).sec.keys = (s.lane l).sec.keys.set (((reg[0]?).map (·.toNat)).getD 0) k ∧
        (t.lane l).sec.written = (s.lane l).sec.written |||
          BitVec.ofNat 16 (2 ^ (((reg[0]?).map (·.toNat)).getD 0)) ∧
        (t.lane l).sec.keyprov = 0 ∧ (t.lane l).flog.last = 0x9181) ∧
      ((s.lane l).keyprovResult reg o ≠ 0 → ∃ t, exec (.keyprov l head wrapped o) s = .next t ∧ OnlyLane l s t ∧
        (t.lane l).sec.written = (s.lane l).sec.written ∧ (t.lane l).sec.serving = (s.lane l).sec.serving ∧
        (t.lane l).sec.keys = (s.lane l).sec.keys ∧
        (t.lane l).sec.keyprov = (s.lane l).keyprovResult reg o ∧ (t.lane l).flog.last = 0x9182)) ∧
    exec (.jtagIdcode l) s = .next (s.on l fun L => { L with sec := { L.sec with
      ir := 0, dr := BitVec.ofNat 64 (Config.idcode l).toNat } }) ∧
    exec (.jtagBypass l) s = .next (s.on l fun L => { L with sec := { L.sec with ir := 1, dr := 0 } }) ∧
    (∀ (m : Master) (tid : Nat) (data : List Byte),
      ((s.lane l).writeErr m 0x2502 1 data ((s.lane l).revokeOk (ofBytes data)) false = none →
        ∃ t, exec (.keyRevoke l m tid data) s = .next t ∧ OnlyLane l s t ∧ (t.lane l).sec = { (s.lane l).sec with
          revoked := (s.lane l).sec.revoked ||| BitVec.ofNat 16 (ofBytes data) } ∧
          (∀ n, n < 16 → bit (ofBytes data) n = true → (t.lane l).keyOk n = false) ∧
          (t.lane l).keyOk 10 = (s.lane l).keyOk 10) ∧
      (∀ e : W32, (s.lane l).writeErr m 0x2502 1 data ((s.lane l).revokeOk (ofBytes data)) false = some e →
        exec (.keyRevoke l m tid data) s = .next (s.on l fun L => L.answer m tid 0x2502 1 e))) ∧
    (∀ (m : Master) (tid : Nat),
      ((s.lane l).readErr m 0x2501 1 = none → (s.lane l).reaches m = true →
        ∃ t, exec (.dbgChallenge l m tid) s = .next t ∧ t.freeCtr = s.freeCtr + 1 ∧ (∀ p, p ≠ l → t.lane p = s.lane p) ∧
          (t.lane l).sec = { (s.lane l).sec with dbgChallenge := some (Config.draw s.freeCtr) } ∧
          (∃ r, (t.lane l).dict.resp = some r ∧ r.code = 0 ∧
            r.data = toBytes 8 (Config.draw s.freeCtr).toNat ++ toBytes 8 (Config.laneUid (s.lane l).id).toNat)) ∧
      (∀ e : W32, (s.lane l).readErr m 0x2501 1 = some e → exec (.dbgChallenge l m tid) s =
        .next (State.on { s with freeCtr := s.freeCtr + 1 } l fun L => L.answer m tid 0x2501 1 e))) ∧
    (∀ (m : Master) (tid : Nat) (rPart sPart data : List Byte), data = rPart ++ sPart →
      ((s.lane l).writeErr m 0x2501 2 data ((s.lane l).pwr.state != .run) false = none →
        ((s.lane l).sec.dbgBlocked = false → (s.lane l).dbgSigOk data = true →
          ∃ t, exec (.dbgResponse l m tid rPart sPart) s = .next t ∧
            OnlyLane l s t ∧ (t.lane l).sec.debug = true ∧ (t.lane l).sec.dbgFails = 0 ∧
            (t.lane l).sec.dbgChallenge = none ∧ (t.lane l).vote.role = .out ∧ (t.lane l).pwr.stopLine = true ∧
            (t.lane l).flog.last = 0x9141) ∧
        ((s.lane l).sec.dbgBlocked = false → (s.lane l).dbgSigOk data = false →
          ∃ t, exec (.dbgResponse l m tid rPart sPart) s = .next t ∧ OnlyLane l s t ∧
            (t.lane l).sec.debug = (s.lane l).sec.debug ∧ (t.lane l).sec.dbgFails = min ((s.lane l).sec.dbgFails + 1) 3 ∧
            (t.lane l).sec.dbgBlocked = decide (2 ≤ (s.lane l).sec.dbgFails) ∧ (t.lane l).sec.dbgChallenge = none ∧
            (t.lane l).flog.last = (if 2 ≤ (s.lane l).sec.dbgFails then 0x9143 else 0x9142) ∧
            (t.lane l).vote = (s.lane l).vote) ∧
        ((s.lane l).sec.dbgBlocked = true → exec (.dbgResponse l m tid rPart sPart) s =
          .next (s.on l fun L => (L.sbCount m 0x2501).answer m tid 0x2501 2 0x0D000005))) ∧
      (∀ e : W32, (s.lane l).writeErr m 0x2501 2 data ((s.lane l).pwr.state != .run) false = some e →
        exec (.dbgResponse l m tid rPart sPart) s = .next (s.on l fun L => L.answer m tid 0x2501 2 e))) ∧
    exec (.dbgBlockExpiry l) s = .next (s.on l fun L => { L with sec := { L.sec with dbgBlocked := false } })

/-- Clock checks, the housekeeping round and the die link. CLOCK_CHECK completes: a crystal within 5,000 ppm of
the monitor is reported and nothing else changes. A crystal beyond that, and PLL_UNLOCK, REFERENCE_CHECK_FAULT
after 3 rounds, CUT_SENSOR_IMPLAUSIBLE after 3 rounds, D2D_LINK_FAILED after 3 failed frames and a failed
COMPARE_SELF_CHECK in a vote cycle whose number is a multiple of 1,000 each complete as a lane-out with their
fault; before that, with a check that passes, and in a lane whose logic does not run nothing changes. HK_ROUND
completes: a round enters whole, at its last sample, and an always-on oscillator outside 3.2 to 4.8 MHz voids
the sleep record. D2D_FRAME completes: a frame that fails is counted and its samples or duties are lost; one
that passes ends the run of its direction. -/
def Obligations.ClocksAndLinks : Prop :=
    ∀ (s : State) (l : LaneId),
    ((s.lane l).alive = true → ∀ ppm : Rat, -5000 ≤ ppm → ppm ≤ 5000 → exec (.clockCheck l ppm) s =
      .next (s.on l fun L => { L with clk := { L.clk with monPpm := ppm, monOk := true } })) ∧
    (∀ (c : Instr) (code : W16),
      ((s.lane l).alive = true ∧ (∃ ppm : Rat, (ppm < -5000 ∨ 5000 < ppm) ∧ c = .clockCheck l ppm) ∧ code = 0x1F41) ∨
      ((s.lane l).alive = true ∧ (∃ net : Bool, c = .pllUnlock l net) ∧ code = 0x1F42) ∨
      ((3 ≤ (s.lane l).clk.refRun ∨ 3 ≤ (s.lane l).clk.refRunD) ∧ c = .referenceCheckFault l ∧ code = 0x6FC4) ∨
      (3 ≤ (s.lane l).therm.cutRunL ∧ c = .cutSensorImplausible l false ∧ code = 0x7003) ∨
      (3 ≤ (s.lane l).therm.cutRunD ∧ c = .cutSensorImplausible l true ∧ code = 0x7043) ∨
      ((3 ≤ (s.lane l).clk.d2dUp ∨ 3 ≤ (s.lane l).clk.d2dDown) ∧ c = .d2dLinkFailed l ∧ code = 0x1F45) ∨
      ((s.lane l).alive = true ∧ (s.lane l).vote.running = true ∧ (s.lane l).vote.cycle.toNat % 1000 = 0 ∧
        c = .compareSelfCheck l false ∧ code = 0x1FDC) →
      ∃ t, exec c s = .next t ∧ OnlyLane l s t ∧ (t.lane l).vote.outNow = true ∧
        ((s.lane l).vote.outNow = false → (t.lane l).vote.role = .out ∧ (t.lane l).vote.outCause = code) ∧
        (t.lane l).pwr.stopLine = true ∧ (t.lane l).flog.last = code ∧ (∀ b, ((t.lane l).gates.get b).onOut = 0) ∧
        (t.lane l).dict = (s.lane l).dict ∧ (t.lane l).svc = (s.lane l).svc) ∧
    ((s.lane l).alive = false → (∀ ppm net n r b up ok, exec (.clockCheck l ppm) s = .next s ∧
      exec (.pllUnlock l net) s = .next s ∧ exec (.hkRound l n r) s = .next s ∧ exec (.d2dFrame l b up ok) s = .next s)) ∧
    ((s.lane l).clk.refRun < 3 → (s.lane l).clk.refRunD < 3 → exec (.referenceCheckFault l) s = .next s) ∧
    ((s.lane l).therm.cutRunL < 3 → exec (.cutSensorImplausible l false) s = .next s) ∧
    ((s.lane l).therm.cutRunD < 3 → exec (.cutSensorImplausible l true) s = .next s) ∧
    ((s.lane l).clk.d2dUp < 3 → (s.lane l).clk.d2dDown < 3 → exec (.d2dLinkFailed l) s = .next s) ∧
    exec (.compareSelfCheck l true) s = .next s ∧
    ((s.lane l).alive = false ∨ (s.lane l).vote.running = false ∨ (s.lane l).vote.cycle.toNat % 1000 ≠ 0 →
      exec (.compareSelfCheck l false) s = .next s) ∧
    ((s.lane l).alive = true →
      (∀ (n : Nat) (r : HkRound), ∃ t, exec (.hkRound l n r) s = .next t ∧ OnlyLane l s t ∧
        (t.lane l).tb.ns = max (s.lane l).tb.ns (n * 4000000 + 3937500) ∧ (t.lane l).clk.hkNs = n * 4000000 ∧
        (t.lane l).clk.hk.length = 64 ∧ (∀ k < 61, (t.lane l).clk.hk[k]? = some ((r.vals[k]?).getD 0)) ∧
        (t.lane l).therm.tcutL = r.tcutL ∧ (t.lane l).therm.tcutD = r.tcutD ∧ (t.lane l).clk.aoFreq = r.aoHz ∧
        ((r.aoHz < 3200000 ∨ 4800000 < r.aoHz) → (t.lane l).sleep.valid = false ∧ (t.lane l).clk.aoOk = false) ∧
        (t.lane l).vote = (s.lane l).vote ∧ (t.lane l).bridges = (s.lane l).bridges) ∧
      (∀ (b : Fin 8) (up : Bool), ∃ t, exec (.d2dFrame l b up false) s = .next t ∧ OnlyLane l s t ∧
        (t.lane l).clk.d2dErrors = satInc (s.lane l).clk.d2dErrors ∧
        (up = true → ((t.lane l).bridges.get b).noSample = true ∧ (t.lane l).clk.d2dUp = (s.lane l).clk.d2dUp + 1) ∧
        (up = false → ((t.lane l).bridges.get b).computed = false ∧
          (t.lane l).clk.d2dDown = (s.lane l).clk.d2dDown + 1) ∧
        (∀ c, c ≠ b → (t.lane l).bridges.get c = (s.lane l).bridges.get c)) ∧
      (∀ b : Fin 8,
        exec (.d2dFrame l b true true) s = .next (s.on l fun L => { L with clk := { L.clk with d2dUp := 0 } }) ∧
        exec (.d2dFrame l b false true) s = .next (s.on l fun L => { L with clk := { L.clk with d2dDown := 0 } })))

/-- Broken sensors, thermal cuts, the Cone latch and cooling. SENSOR_BROKEN completes: a sensor with a complete
run is excluded for good under its fault, no other sensor is; without such a run, or a second time, nothing
changes. THERMAL_CUT completes: a cut takes the lane out and cooling, is counted, and the logic die's halts
the node and takes its links down; cuts within 1 ms count once. CONE_LATCH_TRIP completes: a Cone threshold,
or the third counted cut within 600 s, holds the Cone latch with its cause; fewer cuts do not. COOLING_DONE
completes: when every cut sensor has cooled the lane stops cooling and stays out. A lane that is not watched
takes no cut and no Cone latch (log entry 110). -/
def Obligations.ThermalCutsAndCone : Prop :=
    ∀ (s : State) (l : LaneId),
    (∀ i : Fin 10,
      (3 ≤ ((s.lane l).therm.runs[i.val]?).getD 0 → (s.lane l).therm.broken.getLsbD i.val = false →
        ∃ t, exec (.sensorBroken l i) s = .next t ∧ OnlyLane l s t ∧ (t.lane l).therm.broken.getLsbD i.val = true ∧
          (∀ j : Nat, j ≠ i.val → (t.lane l).therm.broken.getLsbD j = (s.lane l).therm.broken.getLsbD j) ∧
          0 < storeGet (t.lane l).flog.srcCount (if 4 ≤ i.val then 0x7042 else 0x7002) 0 ∧
          (t.lane l).vote = (s.lane l).vote) ∧
      (((s.lane l).therm.runs[i.val]?).getD 0 < 3 ∨ (s.lane l).therm.broken.getLsbD i.val = true →
        exec (.sensorBroken l i) s = .next s)) ∧
    (∀ drive : Bool,
      ((s.lane l).watched = true →
        ∃ t, exec (.thermalCut l drive) s = .next t ∧ OnlyLane l s t ∧
          ((s.lane l).vote.outNow = false → (t.lane l).vote.role = .out) ∧ (t.lane l).vote.outNow = true ∧
          (t.lane l).therm.cooling = true ∧ (t.lane l).therm.cuts = satInc (s.lane l).therm.cuts ∧
          (t.lane l).pwr.stopLine = true ∧ (∀ b, ((t.lane l).gates.get b).onOut = 0) ∧
          (drive = false → (t.lane l).net.state = .halt ∧ (t.lane l).net.guardOpen = true ∧
            (t.lane l).net.x.linkUp = (s.lane l).net.x.linkUp.map (fun _ => false) ∧
            (t.lane l).net.y.linkUp = (s.lane l).net.y.linkUp.map (fun _ => false) ∧
            (t.lane l).tb.seeded = false ∧ (t.lane l).therm.cutL = true ∧ (t.lane l).flog.last = 0x7001) ∧
          (drive = true → (t.lane l).net = (s.lane l).net ∧ (t.lane l).tb = (s.lane l).tb ∧
            (t.lane l).therm.cutD = true ∧ (t.lane l).flog.last = 0x7041) ∧
          (∀ a rest, (s.lane l).therm.onsets = a :: rest → (s.lane l).tb.mono ≤ a + 1000000 →
            (t.lane l).therm.onsets = (s.lane l).therm.onsets) ∧
          ((s.lane l).therm.onsets = [] → (t.lane l).therm.onsets = [(s.lane l).tb.mono])) ∧
      ((s.lane l).watched = false → exec (.thermalCut l drive) s = .next s)) ∧
    (∀ hot : Bool,
      ((s.lane l).watched = true → (hot = true ∨ 3 ≤ (s.lane l).cuts600) →
        ∃ t, exec (.coneLatchTrip l hot) s = .next t ∧ OnlyLane l s t ∧ (t.lane l).therm.cone = true ∧
          (hot = true → (t.lane l).therm.coneOver = true ∧ (t.lane l).therm.coneCount = (s.lane l).therm.coneCount) ∧
          (hot = false → (t.lane l).therm.coneCount = true ∧ (t.lane l).therm.coneOver = (s.lane l).therm.coneOver) ∧
          ((s.lane l).vote.outNow = false → (t.lane l).vote.role = .out) ∧ (t.lane l).vote.outNow = true ∧
          (t.lane l).pwr.stopLine = true ∧ (t.lane l).flog.last = 0x7FC1) ∧
      ((s.lane l).watched = false → exec (.coneLatchTrip l hot) s = .next s)) ∧
    ((s.lane l).cuts600 < 3 → exec (.coneLatchTrip l false) s = .next s) ∧
    ((s.lane l).therm.cooling = true → exec (.coolingDone l) s = .next (s.on l fun L =>
      { L with therm := { L.therm with cooling := false, cutL := false, cutD := false } })) ∧
    ((s.lane l).therm.cooling = false → exec (.coolingDone l) s = .next s)

/-- Fault events, log commits and the Kiln log. FAULT_EVENT completes: an event is last seen and marks its class;
at level record or correct it joins the ring, a new record while none of its key is pending and there is room,
one count more where one is, and nothing else happens; one that finds the queue full is lost and counted.
Level lane-out takes the lane out and is written at once, isolate takes what the code names out of use, such
as a slip link or the chopper, module-safe puts every lane whose logic runs in PASSIVE, and held out of RUN
makes the code active. LOG_COMMIT completes: it leaves no record pending and keeps every one of them in the
log. KILN_SECOND completes: it counts one second more, and seconds in RUN. KILN_COMMIT completes: it writes
the other copy under the next number. A lane that is not watched, or for the Kiln log one whose logic does not
run, writes nothing. -/
def Obligations.RecorderAndKiln : Prop :=
    ∀ (s : State) (l : LaneId),
    (∀ (code : W16) (a b : W32),
      (∀ lv : Fin 7, lv = 0 ∨ lv = 1 →
        (∃ t, exec (.faultEvent l code lv a b false) s = .next t ∧ OnlyLane l s t ∧ (t.lane l).flog.last = code ∧
          (t.lane l).flog.seen.getLsbD (codeClass code.toNat) = true ∧ (t.lane l).vote = (s.lane l).vote ∧
          (t.lane l).pwr = (s.lane l).pwr ∧ (t.lane l).flog.nv = (s.lane l).flog.nv ∧
          ((∀ e ∈ (s.lane l).flog.ring, e.sameKey code.toNat a.toNat = false) → (s.lane l).flog.ring.length < 512 →
            (t.lane l).flog.seq = (s.lane l).flog.seq + 1 ∧ ∃ e, (t.lane l).flog.ring = (s.lane l).flog.ring ++ [e] ∧
              e.code = code ∧ e.detId = a ∧ e.detVal = b ∧ e.count = 1 ∧ e.pending = true ∧ e.level = lv.val) ∧
          (∀ e rest, (s.lane l).flog.ring = e :: rest → e.sameKey code.toNat a.toNat = true →
            ∃ f, (t.lane l).flog.ring = f :: rest ∧ f.count = min (e.count + 1) 65535 ∧ f.detVal = b ∧
              f.level = max e.level lv.val ∧ f.seq = e.seq)) ∧
        (∃ t, exec (.faultEvent l code lv a b true) s = .next t ∧ OnlyLane l s t ∧
          (t.lane l).flog.ring = (s.lane l).flog.ring ∧ (t.lane l).flog.logLost = satInc (s.lane l).flog.logLost ∧
          (t.lane l).flog.last = code ∧ (t.lane l).vote = (s.lane l).vote)) ∧
      (∀ full : Bool, (s.lane l).vote.outNow = false → ∃ t, exec (.faultEvent l code 3 a b full) s = .next t ∧
        OnlyLane l s t ∧ (t.lane l).vote.role = .out ∧ (t.lane l).pwr.stopLine = true ∧
        (t.lane l).vote.outCause = code ∧
        (full = false → (s.lane l).flog.ring.length < 512 → ∀ e ∈ (t.lane l).flog.ring, e.pending = false)) ∧
      (∀ full : Bool, ∃ t, exec (.faultEvent l code 4 a b full) s = .next t ∧ LanesOnly s t ∧
        ∀ p, ((s.lane p).alive = true → (t.lane p).vote.passive = true ∧ (t.lane p).vote.role.drives = false) ∧
          (p ≠ l → (s.lane p).alive = false → t.lane p = s.lane p)) ∧
      (∀ full : Bool, ∃ t, exec (.faultEvent l code 5 a b full) s = .next t ∧ OnlyLane l s t ∧
        (t.lane l).flog.cfg = code :: (s.lane l).flog.cfg ∧ (t.lane l).cfgOk = false ∧
        (t.lane l).vote = (s.lane l).vote ∧ (t.lane l).pwr = (s.lane l).pwr)) ∧
    (∀ (full : Bool) (a b : W32),
      (∀ k : LinkId, ∃ t, exec (.faultEvent l (BitVec.ofNat 16 (0x1201 + 0x40 * linkNum k)) 2 a b full) s = .next t ∧
        OnlyLane l s t ∧ ((t.lane l).links.get k).inUse = false ∧
        (∀ j, j ≠ k → (t.lane l).links.get j = (s.lane l).links.get j) ∧ (t.lane l).vote = (s.lane l).vote) ∧
      (∃ t, exec (.faultEvent l 0x6F81 2 a b full) s = .next t ∧ OnlyLane l s t ∧ (t.lane l).dc.chopFault = true ∧
        (t.lane l).dc.chopFaultKind = 1)) ∧
    (∀ n : Nat,
      ((s.lane l).watched = true → ∃ t, exec (.logCommit l n) s = .next t ∧ OnlyLane l s t ∧
        (t.lane l).tb.ns = max (s.lane l).tb.ns (n * 10000000) ∧
        (t.lane l).flog.ring = (s.lane l).flog.ring.map (fun e => { e with pending := false }) ∧
        (t.lane l).flog.nv.length ≤ 4096 ∧
        ((s.lane l).flog.nv.length + ((s.lane l).flog.ring.filter (·.pending)).length ≤ 4096 → (t.lane l).flog.nv =
          (s.lane l).flog.nv ++ ((s.lane l).flog.ring.filter (·.pending)).map fun e => { e with pending := false })) ∧
      ((s.lane l).watched = false → exec (.logCommit l n) s = .next s)) ∧
    (∀ n : Nat,
      ((s.lane l).alive = true →
        (∃ t, exec (.kilnSecond l n) s = .next t ∧ OnlyLane l s t ∧
          (t.lane l).kiln.ram.onSec = satInc (s.lane l).kiln.ram.onSec ∧
          (t.lane l).kiln.ram.runSec = (if (s.lane l).pwr.state = .run then satInc (s.lane l).kiln.ram.runSec
            else (s.lane l).kiln.ram.runSec) ∧ (t.lane l).kiln.seq = (s.lane l).kiln.seq ∧
          (t.lane l).kiln.secVdc = none ∧ (t.lane l).kiln.faults = (s.lane l).kiln.faults) ∧
        (∃ t, exec (.kilnCommit l n) s = .next t ∧ OnlyLane l s t ∧ (t.lane l).kiln.seq = (s.lane l).kiln.seq + 1 ∧
          (t.lane l).kiln.ram = (s.lane l).kiln.ram ∧
          ((t.lane l).kiln.seq.toNat % 2 = 1 → (t.lane l).kiln.copy1.ram = (s.lane l).kiln.ram ∧
            (t.lane l).kiln.copy1.seq = (t.lane l).kiln.seq ∧ (t.lane l).kiln.copy0 = (s.lane l).kiln.copy0) ∧
          ((t.lane l).kiln.seq.toNat % 2 = 0 → (t.lane l).kiln.copy0.ram = (s.lane l).kiln.ram ∧
            (t.lane l).kiln.copy0.seq = (t.lane l).kiln.seq ∧ (t.lane l).kiln.copy1 = (s.lane l).kiln.copy1))) ∧
      ((s.lane l).alive = false → exec (.kilnSecond l n) s = .next s ∧ exec (.kilnCommit l n) s = .next s))

/-- Scrubs, memory tests and the march. SCRUB_PASS completes: a corrected word is fault 0xB001 of its group and
remembered; one corrected at the scrub before too has its row marked. SRAM_DOUBLE_BIT_ERROR completes: in core
memory a lane-out, in a frame buffer a record; neither acts on a lane whose logic does not run. MEM_TEST
completes: in HOLD it begins with the result pending, answered 0x0D000001 while a result is pending, with its
code where a check refuses it. MEM_TEST_DEMAND completes: fewer than two drivers seen demand that a running
test stop. MARCH_ELEMENT_END completes: a demanded test ends with outcome 3 and a restart from step 5, an
abandoned pass with the groups left untested, any other pass goes on. WEDGE_GROUP_END completes: a group that
passes leads to the next, a failing cell takes a spare row and is fault 0xB003, the 16th group ends the pass
with its record. Without a running pass nothing changes. -/
def Obligations.Memories : Prop :=
    ∀ (s : State) (l : LaneId),
    (∀ c : FailCell, (s.lane l).alive = true → ∃ t, exec (.scrubPass l [c]) s = .next t ∧ OnlyLane l s t ∧
      (t.lane l).mem.lastFix = [(c.inst, c.addr)] ∧
      ((c.inst, c.addr) ∉ (s.lane l).mem.lastFix → (t.lane l).mem.marked = (s.lane l).mem.marked ∧
        (t.lane l).flog.last = BitVec.ofNat 16 (0xB001 + 0x40 * groupOfBlock c.inst)) ∧
      ((c.inst, c.addr) ∈ (s.lane l).mem.lastFix → (c.inst, c.addr / 64) ∈ (t.lane l).mem.marked ∧
        (t.lane l).flog.last = BitVec.ofNat 16 (0xB005 + 0x40 * groupOfBlock c.inst)) ∧
      (t.lane l).vote = (s.lane l).vote) ∧
    (∀ (g : Fin 16) (cell : Nat × Nat) (h : Held), (s.lane l).alive = true →
      ∃ t, exec (.sramDoubleBitError l g cell h) s = .next t ∧ OnlyLane l s t ∧
        (t.lane l).flog.last = BitVec.ofNat 16 (0xB002 + 0x40 * g.val) ∧
        (g.val < 8 → (t.lane l).vote.outNow = true ∧ (t.lane l).pwr.stopLine = true ∧
          ((s.lane l).vote.outNow = false → (t.lane l).vote.role = .out)) ∧
        (8 ≤ g.val → (t.lane l).vote = (s.lane l).vote ∧ (t.lane l).pwr = (s.lane l).pwr ∧
          (h = .answers → (t.lane l).dict.hostOut = []) ∧ (h = .none → (t.lane l).dict = (s.lane l).dict))) ∧
    ((s.lane l).alive = false → ∀ (cs : List FailCell) (g : Fin 16) (cell : Nat × Nat) (h : Held),
      exec (.scrubPass l cs) s = .next s ∧ exec (.sramDoubleBitError l g cell h) s = .next s) ∧
    (∀ (m : Master) (tid : Nat) (data : List Byte) (ok : Bool),
      ok = ((s.lane l).pwr.state == .hold && (s.lane l).pwr.step == 9 && (s.lane l).pwr.phase == 0) →
      ((s.lane l).writeErr m 0x5200 1 data ok false = none →
        ((s.lane l).mem.result.busy m = false → ∃ t, exec (.memTest l m tid data) s = .next t ∧ OnlyLane l s t ∧
          (t.lane l).mem.testing = true ∧ (t.lane l).mem.testBy = m ∧
          (t.lane l).mem.result = (s.lane l).mem.result.start m ∧
          (t.lane l).pwr.state = .starting ∧ (t.lane l).pwr.step = 5 ∧ (t.lane l).pwr.phase = 1 ∧
          (t.lane l).vote.role = .out) ∧
        ((s.lane l).mem.result.busy m = true →
          exec (.memTest l m tid data) s = .next (s.on l fun L => L.answer m tid 0x5200 1 0x0D000001))) ∧
      (∀ e : W32, (s.lane l).writeErr m 0x5200 1 data ok false = some e →
        exec (.memTest l m tid data) s = .next (s.on l fun L => L.answer m tid 0x5200 1 e))) ∧
    ((s.lane l).mem.testing = true → s.driversSeen l < 2 → exec (.memTestDemand l) s =
      .next (s.on l fun L => { L with mem := { L.mem with demand := true } })) ∧
    ((s.lane l).mem.testing = false ∨ 2 ≤ s.driversSeen l → exec (.memTestDemand l) s = .next s) ∧
    ((s.lane l).mem.running = false → ∀ cs : List FailCell, exec (.marchElementEnd l) s = .next s ∧
      exec (.wedgeGroupEnd l cs) s = .next s) ∧
    ((s.lane l).mem.running = true →
      ((s.lane l).mem.demand = true → ∃ t, exec (.marchElementEnd l) s = .next t ∧ OnlyLane l s t ∧
        (t.lane l).pwr.state = .starting ∧ (t.lane l).pwr.step = 5 ∧ (t.lane l).mem.testing = false ∧
        (t.lane l).mem.running = false ∧ (t.lane l).mem.owed = 0 ∧
        ((s.lane l).mem.testing = true →
          (t.lane l).mem.result = (s.lane l).mem.result.finish (s.lane l).mem.testBy 0x300)) ∧
      ((s.lane l).mem.demand = false → (s.lane l).pwr.abandon = true → ∃ t, exec (.marchElementEnd l) s = .next t ∧
        OnlyLane l s t ∧ (t.lane l).pwr.state = .starting ∧ (t.lane l).pwr.step = 5 ∧ (t.lane l).mem.running = false ∧
        (t.lane l).mem.owed = ((s.lane l).mem.pUntested ||| groupsFrom (s.lane l).mem.group)) ∧
      ((s.lane l).mem.demand = false → (s.lane l).pwr.abandon = false → exec (.marchElementEnd l) s = .next s) ∧
      ((s.lane l).mem.group < 15 → ∃ t, exec (.wedgeGroupEnd l []) s = .next t ∧ OnlyLane l s t ∧
        (t.lane l).mem = { (s.lane l).mem with group := (s.lane l).mem.group + 1, pRows := min 63 (s.lane l).mem.pRows } ∧
        (t.lane l).flog = (s.lane l).flog ∧ (t.lane l).pwr = (s.lane l).pwr) ∧
      (∀ c : FailCell, (s.lane l).mem.group < 15 → groupOfBlock c.inst = (s.lane l).mem.group →
        sparesOf (s.lane l).mem.spares c.inst = [] → ∃ t, exec (.wedgeGroupEnd l [c]) s = .next t ∧ OnlyLane l s t ∧
          sparesOf (t.lane l).mem.spares c.inst = [c.addr / 64] ∧
          (t.lane l).mem.group = (s.lane l).mem.group + 1 ∧ (t.lane l).mem.pFailed = (s.lane l).mem.pFailed + 1 ∧
          (t.lane l).flog.last = BitVec.ofNat 16 (0xB003 + 0x40 * (s.lane l).mem.group) ∧
          (t.lane l).pwr = (s.lane l).pwr) ∧
      (15 ≤ (s.lane l).mem.group →
        ((s.lane l).mem.testing = false → ∃ t, exec (.wedgeGroupEnd l []) s = .next t ∧
          OnlyLane l s t ∧ (t.lane l).mem.running = false ∧ (t.lane l).mem.valid = true ∧ (t.lane l).mem.ended = 0 ∧
          (t.lane l).mem.untested = (s.lane l).mem.pUntested ∧ (t.lane l).pwr = (s.lane l).pwr) ∧
        ((s.lane l).mem.testing = true → ∃ t, exec (.wedgeGroupEnd l []) s = .next t ∧
          OnlyLane l s t ∧ (t.lane l).mem.running = false ∧ (t.lane l).mem.testing = false ∧
          (t.lane l).pwr.state = .starting ∧ (t.lane l).pwr.step = 5 ∧ (t.lane l).pwr.kind = 1 ∧
          (t.lane l).mem.owed = (s.lane l).mem.pUntested)))

/-- The link pattern test. LPT_START completes: a start that names a link of the lane in HOLD begins the test with
every count at 0 and fault 0x4841; one refused keeps the test and, while none runs, gives its cause, 5 or 6.
LPT_STOP completes: it ends a running test with outcome 3 and keeps the counts. LPT_INJECT completes: an
injected error counts exactly once in a locked checker, on a slip link under test at both ends in the far
lane's. LPT_DURATION_END completes: the test ends with outcome 2; without a test nothing changes. A write of
LPT_CTRL that a check of R371 refuses is answered with its code. -/
def Obligations.LinkPatternTest : Prop :=
    ∀ (s : State) (l : LaneId) (m : Master) (tid : Nat) (data : List Byte) (rx : LptRx),
    (data.length = 4 → bit (ofBytes data) 31 = true →
      ((s.lane l).lptRefusal m (ofBytes data) = 0 →
        (s.lane l).writeErr m 0x5300 1 data true false = none → ∃ t, exec (.lptStart l m tid data) s = .next t ∧
          OnlyLane l s t ∧ (t.lane l).lpt =
            { ctrl := lptKeep (ofBytes data), test := lptKeep (ofBytes data), running := true, outcome := 1 } ∧
          (t.lane l).flog.last = 0x4841 ∧ (t.lane l).pwr = (s.lane l).pwr ∧ (t.lane l).vote = (s.lane l).vote) ∧
      ((s.lane l).lptRefusal m (ofBytes data) ≠ 0 →
        (s.lane l).writeErr m 0x5300 1 data false false = some 0x08000022 →
        ∃ t, exec (.lptStart l m tid data) s = .next t ∧ OnlyLane l s t ∧
          (t.lane l).lpt.running = (s.lane l).lpt.running ∧ (t.lane l).flog = (s.lane l).flog ∧
          ((s.lane l).lpt.running = false → (t.lane l).lpt.outcome = (s.lane l).lptRefusal m (ofBytes data)) ∧
          ((s.lane l).lpt.running = true → (t.lane l).lpt.outcome = (s.lane l).lpt.outcome ∧
            (t.lane l).lpt.errors = (s.lane l).lpt.errors))) ∧
    (bit (ofBytes data) 31 = false →
      ((s.lane l).writeErr m 0x5300 1 data true false = none →
        (bit (ofBytes data) 30 = true → (s.lane l).lpt.running = true → ∃ t, exec (.lptStop l m tid data rx) s = .next t ∧
          OnlyLane l s t ∧ (t.lane l).lpt.running = false ∧ (t.lane l).lpt.outcome = 3 ∧
          (t.lane l).lpt.ctrl = lptKeep (ofBytes data) ∧ (t.lane l).lpt.test = (s.lane l).lpt.test ∧
          (t.lane l).lpt.errors =
            BitVec.ofNat 32 (min ((s.lane l).lpt.errors.toNat + (s.lptRx l rx).errors) (2 ^ 32 - 1))) ∧
        (bit (ofBytes data) 30 = true → (s.lane l).lpt.running = false → ∃ t, exec (.lptStop l m tid data rx) s = .next t ∧
          OnlyLane l s t ∧ (t.lane l).lpt = { (s.lane l).lpt with ctrl := lptKeep (ofBytes data) } ∧
          (t.lane l).flog = (s.lane l).flog) ∧
        (bit (ofBytes data) 30 = false → bit (ofBytes data) 29 = true → (s.lane l).lpt.running = true →
          ((s.lane l).lptFar = none → rx.lock = true →
            ∃ t, exec (.lptInject l m tid data rx) s = .next t ∧ OnlyLane l s t ∧ (t.lane l).lpt.running = true ∧
              (t.lane l).lpt.errors =
                satInc (BitVec.ofNat 32 (min ((s.lane l).lpt.errors.toNat + rx.errors) (2 ^ 32 - 1))) ∧
              (t.lane l).lpt.lockLoss =
                BitVec.ofNat 32 (min ((s.lane l).lpt.lockLoss.toNat + rx.losses) (2 ^ 32 - 1))) ∧
          (∀ p, (s.lane l).lptFar = some p → p ≠ l → s.lptPair l p = true →
            ∃ t, exec (.lptInject l m tid data rx) s = .next t ∧ LanesOnly s t ∧
              t.lane p = { (s.lane p) with lpt := (s.lane p).lpt.hit } ∧
              (∀ q, q ≠ l → q ≠ p → t.lane q = s.lane q) ∧ (t.lane l).lpt.running = true ∧
              (t.lane l).lpt.errors = BitVec.ofNat 32 (min ((s.lane l).lpt.errors.toNat + rx.errors) (2 ^ 32 - 1))))) ∧
      (∀ e : W32, (s.lane l).lpt.running = false → (s.lane l).writeErr m 0x5300 1 data true false = some e →
        e ≠ 0x08000022 →
        exec (.lptStop l m tid data rx) s = .next (s.on l fun L => L.answer m tid 0x5300 1 e) ∧
        exec (.lptInject l m tid data rx) s = .next (s.on l fun L => L.answer m tid 0x5300 1 e))) ∧
    ((s.lane l).lpt.running = true → ∃ t, exec (.lptDurationEnd l rx) s = .next t ∧ OnlyLane l s t ∧
      (t.lane l).lpt.running = false ∧ (t.lane l).lpt.outcome = 2 ∧ (t.lane l).lpt.lock = false ∧
      (t.lane l).lpt.bits = BitVec.ofNat 64 (min ((s.lane l).lpt.bits.toNat + (s.lptRx l rx).bits) (2 ^ 64 - 1)) ∧
      (t.lane l).vote = (s.lane l).vote) ∧
    ((s.lane l).lpt.running = false → exec (.lptDurationEnd l rx) s = .next s)

/-- A step runs the command at the front of the queue. With a command at the front, step answers what exec answers
on the module with the queue's rest; every command completes in every state, the module neither faults nor
refuses; on an empty queue a tick of the network clock passes in every lane (log entry 13). No word of the
opcode table spells a command, since its rows give no bits, so placing a word changes nothing. -/
def Obligations.StepRunsFront : Prop :=
    (∀ (c : Instr) (s : State) (rest : List Instr), s.pending = c :: rest → step s = exec c { s with pending := rest }) ∧
    (∀ (c : Instr) (s : State), step (s.push c) = exec c s ∧ (s.push c).pending = c :: s.pending) ∧
    (∀ (c : Instr) (s : State), ∃ t, exec c s = .next t) ∧
    (∀ s : State, s.pending = [] → step s = .next s.tickAll) ∧
    (∀ nbits w : Nat, Sys2Proof.decodeTableWord nbits w = none) ∧
    (∀ (s : State) (nbits w : Nat), s.withFetchWord nbits w = s)

/-- What reset leaves. At reset every lane stands at its place, starting, with its stop line asserted, role OUT,
every gate output low and every bridge DISABLED, its settings at their defaults, no transaction, commit or
timed action open, the recorder empty, no lane LEAD and no command waiting. -/
def Obligations.ResetState : Prop :=
    State.reset.placed ∧ State.reset.oneLead ∧ State.reset.pending = [] ∧
    (∀ l, (State.reset.lane l).pwr.state = .starting ∧ (State.reset.lane l).pwr.stopLine = true ∧
      (State.reset.lane l).vote.role = .out ∧ (State.reset.lane l).dict.working = [] ∧
      (∀ idx sub, (State.reset.lane l).obj idx sub = objDefault l idx sub) ∧
      (∀ m, (State.reset.lane l).dict.open_ m = 0) ∧ (State.reset.lane l).dict.known = [] ∧
      (State.reset.lane l).ta.entries = [] ∧ (State.reset.lane l).flog.ring = [] ∧
      (State.reset.lane l).sec.debug = false ∧ (State.reset.lane l).sb.isOpen = false ∧
      (∀ b, ((State.reset.lane l).gates.get b).onOut = 0 ∧ ((State.reset.lane l).bridges.get b).mode = .disabled))

/-- Every step keeps the lanes in place and at most one lane LEAD. From every state in which each lane stands at
its own place and at most one lane holds LEAD, a step that answers a next state, whatever command is in front
and whatever its operands, leaves each lane at its place and at most one lane LEAD. -/
def Obligations.PlacesAndOneLead : Prop :=
    ∀ s t : State, s.placed → s.oneLead → step s = .next t → t.placed ∧ t.oneLead

/-- A lane enters RUN only when every condition holds. From every state, a lane that a step brings into RUN has,
in the state it enters, START_STEP 9, BOOT_OK, CFG_OK and CHK_OK 1, SEAL, CONE and HELD 0, and every key slot
that is required for RUN written and not revoked. A RUN request in HOLD while any of these fails is refused
with 0x08000022 and the lane stays in HOLD; under AUTO_RUN 1 the lane makes no request while any fails. -/
def Obligations.RunOnlyWhenReady : Prop :=
    (∀ (s t : State) (l : LaneId), step s = .next t → (s.lane l).pwr.state ≠ .run → (t.lane l).pwr.state = .run →
      (t.lane l).pwr.step = 9 ∧ (t.lane l).sec.bootOk = true ∧ (t.lane l).cfgOk = true ∧ (t.lane l).safe.chkOk = true ∧
      (t.lane l).safe.sealOpen = false ∧ (t.lane l).therm.cone = false ∧ (t.lane l).vote.held = false ∧
      (t.lane l).keyOk ((t.lane l).obj 0x4800 0x16) = true ∧ (t.lane l).keyOk 10 = true ∧ (t.lane l).keyOk 11 = true ∧
      ((t.lane l).uplinkOn = true → (t.lane l).keyOk 8 = true ∨ (t.lane l).keyOk 9 = true)) ∧
    (∀ (s : State) (l : LaneId), (s.lane l).pwr.state = .hold → (s.lane l).runOk = false →
      (∀ (m : Master) (tid : Nat), (s.lane l).reaches m = true → (s.lane l).pwr.phase = 0 →
        (s.lane l).writeErr m 0x2100 2 [1] true false = none →
        ∃ t, exec (.pwrReqRun l m tid) s = .next t ∧ (t.lane l).pwr.state = .hold ∧
          (∃ r, (t.lane l).dict.resp = some r ∧ r.code = 0x08000022)) ∧
      exec (.autoRunRequest l) s = .next s)
end

