-- ==== Sys2Proof/Laws/State.lean ====
section
/-! SUPPORT. How the plain updates of the state read back: lanes of the module, the containers of three and
eight, and what each shared update of a lane leaves unchanged. -/

namespace Sys2Proof

/-! ### Containers -/

@[simp] theorem Tri.get_set_same {α : Type} (t : Tri α) (l : LaneId) (v : α) : (t.set l v).get l = v := by
  cases l <;> rfl

@[simp] theorem Tri.get_set_ne {α : Type} (t : Tri α) {l p : LaneId} (v : α) (h : p ≠ l) :
    (t.set l v).get p = t.get p := by
  cases l <;> cases p <;> first | rfl | exact absurd rfl h

theorem Tri.get_set {α : Type} (t : Tri α) (l p : LaneId) (v : α) :
    (t.set l v).get p = if p = l then v else t.get p := by
  cases l <;> cases p <;> rfl

@[simp] theorem Tri.get_map {α β : Type} (f : α → β) (t : Tri α) (l : LaneId) : (t.map f).get l = f (t.get l) := by
  cases l <;> rfl

@[simp] theorem Tri.get_ofFn {α : Type} (f : LaneId → α) (l : LaneId) : (Tri.ofFn f).get l = f l := by
  cases l <;> rfl

@[simp] theorem Tri.get_all {α : Type} (v : α) (l : LaneId) : (Tri.all v).get l = v := by
  cases l <;> rfl

theorem Tri.ext_get {α : Type} {t u : Tri α} (h : ∀ l, t.get l = u.get l) : t = u := by
  cases t; cases u
  have ha := h .A; have hb := h .B; have hc := h .C
  simp only [Tri.get] at ha hb hc
  subst ha hb hc; rfl

@[simp] theorem Oct.get_set_same {α : Type} (o : Oct α) (n : Fin 8) (v : α) : (o.set n v).get n = v := by
  fin_cases n <;> rfl

@[simp] theorem Oct.get_set_ne {α : Type} (o : Oct α) {n m : Fin 8} (v : α) (h : m ≠ n) :
    (o.set n v).get m = o.get m := by
  fin_cases n <;> fin_cases m <;> first | rfl | exact absurd rfl h

@[simp] theorem Oct.get_ofFn {α : Type} (f : Fin 8 → α) (n : Fin 8) : (Oct.ofFn f).get n = f n := by
  fin_cases n <;> rfl

@[simp] theorem Oct.get_map {α β : Type} (f : α → β) (o : Oct α) (n : Fin 8) : (o.map f).get n = f (o.get n) := by
  simp [Oct.map]

@[simp] theorem Oct.get_all {α : Type} (v : α) (n : Fin 8) : (Oct.all v).get n = v := by
  fin_cases n <;> rfl

namespace Machine

/-! ### Lanes of the module -/

@[simp] theorem State.lane_on_same (s : State) (l : LaneId) (f : Lane → Lane) : (s.on l f).lane l = f (s.lane l) := by
  simp [State.on, State.lane]

@[simp] theorem State.lane_on_ne (s : State) {l p : LaneId} (f : Lane → Lane) (h : p ≠ l) :
    (s.on l f).lane p = s.lane p := by
  simp [State.on, State.lane, h]

theorem State.lane_on (s : State) (l p : LaneId) (f : Lane → Lane) :
    (s.on l f).lane p = if p = l then f (s.lane p) else s.lane p := by
  by_cases h : p = l
  · subst h; simp
  · simp [h]

@[simp] theorem State.lane_onAll (s : State) (f : Lane → Lane) (l : LaneId) : (s.onAll f).lane l = f (s.lane l) := by
  simp [State.onAll, State.lane]

@[simp] theorem State.pub_on (s : State) (l : LaneId) (f : Lane → Lane) : (s.on l f).pub = s.pub := rfl
@[simp] theorem State.pending_on (s : State) (l : LaneId) (f : Lane → Lane) : (s.on l f).pending = s.pending := rfl
@[simp] theorem State.freeCtr_on (s : State) (l : LaneId) (f : Lane → Lane) : (s.on l f).freeCtr = s.freeCtr := rfl
@[simp] theorem State.pub_onAll (s : State) (f : Lane → Lane) : (s.onAll f).pub = s.pub := rfl
@[simp] theorem State.pending_onAll (s : State) (f : Lane → Lane) : (s.onAll f).pending = s.pending := rfl
@[simp] theorem State.freeCtr_onAll (s : State) (f : Lane → Lane) : (s.onAll f).freeCtr = s.freeCtr := rfl

theorem State.on_congr (s : State) (l : LaneId) {f g : Lane → Lane} (h : f (s.lane l) = g (s.lane l)) :
    s.on l f = s.on l g := by
  unfold State.on; unfold State.lane at h; rw [h]

theorem State.on_id (s : State) (l : LaneId) {f : Lane → Lane} (h : f (s.lane l) = s.lane l) : s.on l f = s := by
  unfold State.on; unfold State.lane at h; rw [h]; cases l <;> rfl

theorem State.onAll_congr (s : State) {f g : Lane → Lane} (h : ∀ l, f (s.lane l) = g (s.lane l)) :
    s.onAll f = s.onAll g := by
  have : s.lanes.map f = s.lanes.map g := Tri.ext_get fun l => by simpa [State.lane] using h l
  simp [State.onAll, this]

/-! ### Updates of a lane and what they leave -/

@[simp] theorem Lane.onBr_id (L : Lane) (b : Fin 8) (f : Bridge → Bridge) : (L.onBr b f).id = L.id := rfl
@[simp] theorem Lane.onBr_dict (L : Lane) (b : Fin 8) (f : Bridge → Bridge) : (L.onBr b f).dict = L.dict := rfl
@[simp] theorem Lane.onBr_vote (L : Lane) (b : Fin 8) (f : Bridge → Bridge) : (L.onBr b f).vote = L.vote := rfl
@[simp] theorem Lane.onBr_links (L : Lane) (b : Fin 8) (f : Bridge → Bridge) : (L.onBr b f).links = L.links := rfl
@[simp] theorem Lane.onBr_svc (L : Lane) (b : Fin 8) (f : Bridge → Bridge) : (L.onBr b f).svc = L.svc := rfl
@[simp] theorem Lane.onBr_dc (L : Lane) (b : Fin 8) (f : Bridge → Bridge) : (L.onBr b f).dc = L.dc := rfl
@[simp] theorem Lane.onBr_net (L : Lane) (b : Fin 8) (f : Bridge → Bridge) : (L.onBr b f).net = L.net := rfl
@[simp] theorem Lane.onBr_tb (L : Lane) (b : Fin 8) (f : Bridge → Bridge) : (L.onBr b f).tb = L.tb := rfl
@[simp] theorem Lane.onBr_upl (L : Lane) (b : Fin 8) (f : Bridge → Bridge) : (L.onBr b f).upl = L.upl := rfl
@[simp] theorem Lane.onBr_tsq (L : Lane) (b : Fin 8) (f : Bridge → Bridge) : (L.onBr b f).tsq = L.tsq := rfl
@[simp] theorem Lane.onBr_ta (L : Lane) (b : Fin 8) (f : Bridge → Bridge) : (L.onBr b f).ta = L.ta := rfl
@[simp] theorem Lane.onBr_sleep (L : Lane) (b : Fin 8) (f : Bridge → Bridge) : (L.onBr b f).sleep = L.sleep := rfl
@[simp] theorem Lane.onBr_ct (L : Lane) (b : Fin 8) (f : Bridge → Bridge) : (L.onBr b f).ct = L.ct := rfl
@[simp] theorem Lane.onBr_sb (L : Lane) (b : Fin 8) (f : Bridge → Bridge) : (L.onBr b f).sb = L.sb := rfl
@[simp] theorem Lane.onBr_safe (L : Lane) (b : Fin 8) (f : Bridge → Bridge) : (L.onBr b f).safe = L.safe := rfl
@[simp] theorem Lane.onBr_ds2 (L : Lane) (b : Fin 8) (f : Bridge → Bridge) : (L.onBr b f).ds2 = L.ds2 := rfl
@[simp] theorem Lane.onBr_sec (L : Lane) (b : Fin 8) (f : Bridge → Bridge) : (L.onBr b f).sec = L.sec := rfl
@[simp] theorem Lane.onBr_pwr (L : Lane) (b : Fin 8) (f : Bridge → Bridge) : (L.onBr b f).pwr = L.pwr := rfl
@[simp] theorem Lane.onBr_clk (L : Lane) (b : Fin 8) (f : Bridge → Bridge) : (L.onBr b f).clk = L.clk := rfl
@[simp] theorem Lane.onBr_therm (L : Lane) (b : Fin 8) (f : Bridge → Bridge) : (L.onBr b f).therm = L.therm := rfl
@[simp] theorem Lane.onBr_flog (L : Lane) (b : Fin 8) (f : Bridge → Bridge) : (L.onBr b f).flog = L.flog := rfl
@[simp] theorem Lane.onBr_kiln (L : Lane) (b : Fin 8) (f : Bridge → Bridge) : (L.onBr b f).kiln = L.kiln := rfl
@[simp] theorem Lane.onBr_mem (L : Lane) (b : Fin 8) (f : Bridge → Bridge) : (L.onBr b f).mem = L.mem := rfl
@[simp] theorem Lane.onBr_lpt (L : Lane) (b : Fin 8) (f : Bridge → Bridge) : (L.onBr b f).lpt = L.lpt := rfl
@[simp] theorem Lane.onBr_fes (L : Lane) (b : Fin 8) (f : Bridge → Bridge) : (L.onBr b f).fes = L.fes := rfl
@[simp] theorem Lane.onBr_gates (L : Lane) (b : Fin 8) (f : Bridge → Bridge) : (L.onBr b f).gates = L.gates := rfl

@[simp] theorem Lane.onFe_id (L : Lane) (b : Fin 8) (f : FrontEnd → FrontEnd) : (L.onFe b f).id = L.id := rfl
@[simp] theorem Lane.onFe_dict (L : Lane) (b : Fin 8) (f : FrontEnd → FrontEnd) : (L.onFe b f).dict = L.dict := rfl
@[simp] theorem Lane.onFe_vote (L : Lane) (b : Fin 8) (f : FrontEnd → FrontEnd) : (L.onFe b f).vote = L.vote := rfl
@[simp] theorem Lane.onFe_links (L : Lane) (b : Fin 8) (f : FrontEnd → FrontEnd) : (L.onFe b f).links = L.links := rfl
@[simp] theorem Lane.onFe_svc (L : Lane) (b : Fin 8) (f : FrontEnd → FrontEnd) : (L.onFe b f).svc = L.svc := rfl
@[simp] theorem Lane.onFe_dc (L : Lane) (b : Fin 8) (f : FrontEnd → FrontEnd) : (L.onFe b f).dc = L.dc := rfl
@[simp] theorem Lane.onFe_net (L : Lane) (b : Fin 8) (f : FrontEnd → FrontEnd) : (L.onFe b f).net = L.net := rfl
@[simp] theorem Lane.onFe_tb (L : Lane) (b : Fin 8) (f : FrontEnd → FrontEnd) : (L.onFe b f).tb = L.tb := rfl
@[simp] theorem Lane.onFe_upl (L : Lane) (b : Fin 8) (f : FrontEnd → FrontEnd) : (L.onFe b f).upl = L.upl := rfl
@[simp] theorem Lane.onFe_tsq (L : Lane) (b : Fin 8) (f : FrontEnd → FrontEnd) : (L.onFe b f).tsq = L.tsq := rfl
@[simp] theorem Lane.onFe_ta (L : Lane) (b : Fin 8) (f : FrontEnd → FrontEnd) : (L.onFe b f).ta = L.ta := rfl
@[simp] theorem Lane.onFe_sleep (L : Lane) (b : Fin 8) (f : FrontEnd → FrontEnd) : (L.onFe b f).sleep = L.sleep := rfl
@[simp] theorem Lane.onFe_ct (L : Lane) (b : Fin 8) (f : FrontEnd → FrontEnd) : (L.onFe b f).ct = L.ct := rfl
@[simp] theorem Lane.onFe_sb (L : Lane) (b : Fin 8) (f : FrontEnd → FrontEnd) : (L.onFe b f).sb = L.sb := rfl
@[simp] theorem Lane.onFe_safe (L : Lane) (b : Fin 8) (f : FrontEnd → FrontEnd) : (L.onFe b f).safe = L.safe := rfl
@[simp] theorem Lane.onFe_ds2 (L : Lane) (b : Fin 8) (f : FrontEnd → FrontEnd) : (L.onFe b f).ds2 = L.ds2 := rfl
@[simp] theorem Lane.onFe_sec (L : Lane) (b : Fin 8) (f : FrontEnd → FrontEnd) : (L.onFe b f).sec = L.sec := rfl
@[simp] theorem Lane.onFe_pwr (L : Lane) (b : Fin 8) (f : FrontEnd → FrontEnd) : (L.onFe b f).pwr = L.pwr := rfl
@[simp] theorem Lane.onFe_clk (L : Lane) (b : Fin 8) (f : FrontEnd → FrontEnd) : (L.onFe b f).clk = L.clk := rfl
@[simp] theorem Lane.onFe_therm (L : Lane) (b : Fin 8) (f : FrontEnd → FrontEnd) : (L.onFe b f).therm = L.therm := rfl
@[simp] theorem Lane.onFe_flog (L : Lane) (b : Fin 8) (f : FrontEnd → FrontEnd) : (L.onFe b f).flog = L.flog := rfl
@[simp] theorem Lane.onFe_kiln (L : Lane) (b : Fin 8) (f : FrontEnd → FrontEnd) : (L.onFe b f).kiln = L.kiln := rfl
@[simp] theorem Lane.onFe_mem (L : Lane) (b : Fin 8) (f : FrontEnd → FrontEnd) : (L.onFe b f).mem = L.mem := rfl
@[simp] theorem Lane.onFe_lpt (L : Lane) (b : Fin 8) (f : FrontEnd → FrontEnd) : (L.onFe b f).lpt = L.lpt := rfl
@[simp] theorem Lane.onFe_bridges (L : Lane) (b : Fin 8) (f : FrontEnd → FrontEnd) : (L.onFe b f).bridges = L.bridges := rfl
@[simp] theorem Lane.onFe_gates (L : Lane) (b : Fin 8) (f : FrontEnd → FrontEnd) : (L.onFe b f).gates = L.gates := rfl

@[simp] theorem Lane.onGate_id (L : Lane) (b : Fin 8) (f : Gate → Gate) : (L.onGate b f).id = L.id := rfl
@[simp] theorem Lane.onGate_dict (L : Lane) (b : Fin 8) (f : Gate → Gate) : (L.onGate b f).dict = L.dict := rfl
@[simp] theorem Lane.onGate_vote (L : Lane) (b : Fin 8) (f : Gate → Gate) : (L.onGate b f).vote = L.vote := rfl
@[simp] theorem Lane.onGate_links (L : Lane) (b : Fin 8) (f : Gate → Gate) : (L.onGate b f).links = L.links := rfl
@[simp] theorem Lane.onGate_svc (L : Lane) (b : Fin 8) (f : Gate → Gate) : (L.onGate b f).svc = L.svc := rfl
@[simp] theorem Lane.onGate_dc (L : Lane) (b : Fin 8) (f : Gate → Gate) : (L.onGate b f).dc = L.dc := rfl
@[simp] theorem Lane.onGate_net (L : Lane) (b : Fin 8) (f : Gate → Gate) : (L.onGate b f).net = L.net := rfl
@[simp] theorem Lane.onGate_tb (L : Lane) (b : Fin 8) (f : Gate → Gate) : (L.onGate b f).tb = L.tb := rfl
@[simp] theorem Lane.onGate_upl (L : Lane) (b : Fin 8) (f : Gate → Gate) : (L.onGate b f).upl = L.upl := rfl
@[simp] theorem Lane.onGate_tsq (L : Lane) (b : Fin 8) (f : Gate → Gate) : (L.onGate b f).tsq = L.tsq := rfl
@[simp] theorem Lane.onGate_ta (L : Lane) (b : Fin 8) (f : Gate → Gate) : (L.onGate b f).ta = L.ta := rfl
@[simp] theorem Lane.onGate_sleep (L : Lane) (b : Fin 8) (f : Gate → Gate) : (L.onGate b f).sleep = L.sleep := rfl
@[simp] theorem Lane.onGate_ct (L : Lane) (b : Fin 8) (f : Gate → Gate) : (L.onGate b f).ct = L.ct := rfl
@[simp] theorem Lane.onGate_sb (L : Lane) (b : Fin 8) (f : Gate → Gate) : (L.onGate b f).sb = L.sb := rfl
@[simp] theorem Lane.onGate_safe (L : Lane) (b : Fin 8) (f : Gate → Gate) : (L.onGate b f).safe = L.safe := rfl
@[simp] theorem Lane.onGate_ds2 (L : Lane) (b : Fin 8) (f : Gate → Gate) : (L.onGate b f).ds2 = L.ds2 := rfl
@[simp] theorem Lane.onGate_sec (L : Lane) (b : Fin 8) (f : Gate → Gate) : (L.onGate b f).sec = L.sec := rfl
@[simp] theorem Lane.onGate_pwr (L : Lane) (b : Fin 8) (f : Gate → Gate) : (L.onGate b f).pwr = L.pwr := rfl
@[simp] theorem Lane.onGate_clk (L : Lane) (b : Fin 8) (f : Gate → Gate) : (L.onGate b f).clk = L.clk := rfl
@[simp] theorem Lane.onGate_therm (L : Lane) (b : Fin 8) (f : Gate → Gate) : (L.onGate b f).therm = L.therm := rfl
@[simp] theorem Lane.onGate_flog (L : Lane) (b : Fin 8) (f : Gate → Gate) : (L.onGate b f).flog = L.flog := rfl
@[simp] theorem Lane.onGate_kiln (L : Lane) (b : Fin 8) (f : Gate → Gate) : (L.onGate b f).kiln = L.kiln := rfl
@[simp] theorem Lane.onGate_mem (L : Lane) (b : Fin 8) (f : Gate → Gate) : (L.onGate b f).mem = L.mem := rfl
@[simp] theorem Lane.onGate_lpt (L : Lane) (b : Fin 8) (f : Gate → Gate) : (L.onGate b f).lpt = L.lpt := rfl
@[simp] theorem Lane.onGate_bridges (L : Lane) (b : Fin 8) (f : Gate → Gate) : (L.onGate b f).bridges = L.bridges := rfl
@[simp] theorem Lane.onGate_fes (L : Lane) (b : Fin 8) (f : Gate → Gate) : (L.onGate b f).fes = L.fes := rfl

@[simp] theorem Lane.setObj_id (L : Lane) (i j v : Nat) : (L.setObj i j v).id = L.id := rfl
@[simp] theorem Lane.setObj_vote (L : Lane) (i j v : Nat) : (L.setObj i j v).vote = L.vote := rfl
@[simp] theorem Lane.setObj_links (L : Lane) (i j v : Nat) : (L.setObj i j v).links = L.links := rfl
@[simp] theorem Lane.setObj_svc (L : Lane) (i j v : Nat) : (L.setObj i j v).svc = L.svc := rfl
@[simp] theorem Lane.setObj_dc (L : Lane) (i j v : Nat) : (L.setObj i j v).dc = L.dc := rfl
@[simp] theorem Lane.setObj_net (L : Lane) (i j v : Nat) : (L.setObj i j v).net = L.net := rfl
@[simp] theorem Lane.setObj_tb (L : Lane) (i j v : Nat) : (L.setObj i j v).tb = L.tb := rfl
@[simp] theorem Lane.setObj_upl (L : Lane) (i j v : Nat) : (L.setObj i j v).upl = L.upl := rfl
@[simp] theorem Lane.setObj_tsq (L : Lane) (i j v : Nat) : (L.setObj i j v).tsq = L.tsq := rfl
@[simp] theorem Lane.setObj_ta (L : Lane) (i j v : Nat) : (L.setObj i j v).ta = L.ta := rfl
@[simp] theorem Lane.setObj_sleep (L : Lane) (i j v : Nat) : (L.setObj i j v).sleep = L.sleep := rfl
@[simp] theorem Lane.setObj_ct (L : Lane) (i j v : Nat) : (L.setObj i j v).ct = L.ct := rfl
@[simp] theorem Lane.setObj_sb (L : Lane) (i j v : Nat) : (L.setObj i j v).sb = L.sb := rfl
@[simp] theorem Lane.setObj_safe (L : Lane) (i j v : Nat) : (L.setObj i j v).safe = L.safe := rfl
@[simp] theorem Lane.setObj_ds2 (L : Lane) (i j v : Nat) : (L.setObj i j v).ds2 = L.ds2 := rfl
@[simp] theorem Lane.setObj_sec (L : Lane) (i j v : Nat) : (L.setObj i j v).sec = L.sec := rfl
@[simp] theorem Lane.setObj_pwr (L : Lane) (i j v : Nat) : (L.setObj i j v).pwr = L.pwr := rfl
@[simp] theorem Lane.setObj_clk (L : Lane) (i j v : Nat) : (L.setObj i j v).clk = L.clk := rfl
@[simp] theorem Lane.setObj_therm (L : Lane) (i j v : Nat) : (L.setObj i j v).therm = L.therm := rfl
@[simp] theorem Lane.setObj_flog (L : Lane) (i j v : Nat) : (L.setObj i j v).flog = L.flog := rfl
@[simp] theorem Lane.setObj_kiln (L : Lane) (i j v : Nat) : (L.setObj i j v).kiln = L.kiln := rfl
@[simp] theorem Lane.setObj_mem (L : Lane) (i j v : Nat) : (L.setObj i j v).mem = L.mem := rfl
@[simp] theorem Lane.setObj_lpt (L : Lane) (i j v : Nat) : (L.setObj i j v).lpt = L.lpt := rfl
@[simp] theorem Lane.setObj_bridges (L : Lane) (i j v : Nat) : (L.setObj i j v).bridges = L.bridges := rfl
@[simp] theorem Lane.setObj_fes (L : Lane) (i j v : Nat) : (L.setObj i j v).fes = L.fes := rfl
@[simp] theorem Lane.setObj_gates (L : Lane) (i j v : Nat) : (L.setObj i j v).gates = L.gates := rfl

@[simp] theorem Lane.raise_id (L : Lane) (c l d v : Nat) : (L.raise c l d v).id = L.id := rfl
@[simp] theorem Lane.raise_dict (L : Lane) (c l d v : Nat) : (L.raise c l d v).dict = L.dict := rfl
@[simp] theorem Lane.raise_vote (L : Lane) (c l d v : Nat) : (L.raise c l d v).vote = L.vote := rfl
@[simp] theorem Lane.raise_links (L : Lane) (c l d v : Nat) : (L.raise c l d v).links = L.links := rfl
@[simp] theorem Lane.raise_svc (L : Lane) (c l d v : Nat) : (L.raise c l d v).svc = L.svc := rfl
@[simp] theorem Lane.raise_dc (L : Lane) (c l d v : Nat) : (L.raise c l d v).dc = L.dc := rfl
@[simp] theorem Lane.raise_net (L : Lane) (c l d v : Nat) : (L.raise c l d v).net = L.net := rfl
@[simp] theorem Lane.raise_tb (L : Lane) (c l d v : Nat) : (L.raise c l d v).tb = L.tb := rfl
@[simp] theorem Lane.raise_upl (L : Lane) (c l d v : Nat) : (L.raise c l d v).upl = L.upl := rfl
@[simp] theorem Lane.raise_tsq (L : Lane) (c l d v : Nat) : (L.raise c l d v).tsq = L.tsq := rfl
@[simp] theorem Lane.raise_ta (L : Lane) (c l d v : Nat) : (L.raise c l d v).ta = L.ta := rfl
@[simp] theorem Lane.raise_sleep (L : Lane) (c l d v : Nat) : (L.raise c l d v).sleep = L.sleep := rfl
@[simp] theorem Lane.raise_ct (L : Lane) (c l d v : Nat) : (L.raise c l d v).ct = L.ct := rfl
@[simp] theorem Lane.raise_sb (L : Lane) (c l d v : Nat) : (L.raise c l d v).sb = L.sb := rfl
@[simp] theorem Lane.raise_safe (L : Lane) (c l d v : Nat) : (L.raise c l d v).safe = L.safe := rfl
@[simp] theorem Lane.raise_ds2 (L : Lane) (c l d v : Nat) : (L.raise c l d v).ds2 = L.ds2 := rfl
@[simp] theorem Lane.raise_sec (L : Lane) (c l d v : Nat) : (L.raise c l d v).sec = L.sec := rfl
@[simp] theorem Lane.raise_pwr (L : Lane) (c l d v : Nat) : (L.raise c l d v).pwr = L.pwr := rfl
@[simp] theorem Lane.raise_clk (L : Lane) (c l d v : Nat) : (L.raise c l d v).clk = L.clk := rfl
@[simp] theorem Lane.raise_therm (L : Lane) (c l d v : Nat) : (L.raise c l d v).therm = L.therm := rfl
@[simp] theorem Lane.raise_mem (L : Lane) (c l d v : Nat) : (L.raise c l d v).mem = L.mem := rfl
@[simp] theorem Lane.raise_lpt (L : Lane) (c l d v : Nat) : (L.raise c l d v).lpt = L.lpt := rfl
@[simp] theorem Lane.raise_bridges (L : Lane) (c l d v : Nat) : (L.raise c l d v).bridges = L.bridges := rfl
@[simp] theorem Lane.raise_fes (L : Lane) (c l d v : Nat) : (L.raise c l d v).fes = L.fes := rfl
@[simp] theorem Lane.raise_gates (L : Lane) (c l d v : Nat) : (L.raise c l d v).gates = L.gates := rfl

@[simp] theorem Lane.onLink_id (L : Lane) (k : LinkId) (f : LinkView → LinkView) : (L.onLink k f).id = L.id := rfl
@[simp] theorem Lane.onLink_dict (L : Lane) (k : LinkId) (f : LinkView → LinkView) : (L.onLink k f).dict = L.dict := rfl
@[simp] theorem Lane.onLink_vote (L : Lane) (k : LinkId) (f : LinkView → LinkView) : (L.onLink k f).vote = L.vote := rfl
@[simp] theorem Lane.onLink_svc (L : Lane) (k : LinkId) (f : LinkView → LinkView) : (L.onLink k f).svc = L.svc := rfl
@[simp] theorem Lane.onLink_dc (L : Lane) (k : LinkId) (f : LinkView → LinkView) : (L.onLink k f).dc = L.dc := rfl
@[simp] theorem Lane.onLink_net (L : Lane) (k : LinkId) (f : LinkView → LinkView) : (L.onLink k f).net = L.net := rfl
@[simp] theorem Lane.onLink_tb (L : Lane) (k : LinkId) (f : LinkView → LinkView) : (L.onLink k f).tb = L.tb := rfl
@[simp] theorem Lane.onLink_upl (L : Lane) (k : LinkId) (f : LinkView → LinkView) : (L.onLink k f).upl = L.upl := rfl
@[simp] theorem Lane.onLink_tsq (L : Lane) (k : LinkId) (f : LinkView → LinkView) : (L.onLink k f).tsq = L.tsq := rfl
@[simp] theorem Lane.onLink_ta (L : Lane) (k : LinkId) (f : LinkView → LinkView) : (L.onLink k f).ta = L.ta := rfl
@[simp] theorem Lane.onLink_sleep (L : Lane) (k : LinkId) (f : LinkView → LinkView) : (L.onLink k f).sleep = L.sleep := rfl
@[simp] theorem Lane.onLink_ct (L : Lane) (k : LinkId) (f : LinkView → LinkView) : (L.onLink k f).ct = L.ct := rfl
@[simp] theorem Lane.onLink_sb (L : Lane) (k : LinkId) (f : LinkView → LinkView) : (L.onLink k f).sb = L.sb := rfl
@[simp] theorem Lane.onLink_safe (L : Lane) (k : LinkId) (f : LinkView → LinkView) : (L.onLink k f).safe = L.safe := rfl
@[simp] theorem Lane.onLink_ds2 (L : Lane) (k : LinkId) (f : LinkView → LinkView) : (L.onLink k f).ds2 = L.ds2 := rfl
@[simp] theorem Lane.onLink_sec (L : Lane) (k : LinkId) (f : LinkView → LinkView) : (L.onLink k f).sec = L.sec := rfl
@[simp] theorem Lane.onLink_pwr (L : Lane) (k : LinkId) (f : LinkView → LinkView) : (L.onLink k f).pwr = L.pwr := rfl
@[simp] theorem Lane.onLink_clk (L : Lane) (k : LinkId) (f : LinkView → LinkView) : (L.onLink k f).clk = L.clk := rfl
@[simp] theorem Lane.onLink_therm (L : Lane) (k : LinkId) (f : LinkView → LinkView) : (L.onLink k f).therm = L.therm := rfl
@[simp] theorem Lane.onLink_flog (L : Lane) (k : LinkId) (f : LinkView → LinkView) : (L.onLink k f).flog = L.flog := rfl
@[simp] theorem Lane.onLink_kiln (L : Lane) (k : LinkId) (f : LinkView → LinkView) : (L.onLink k f).kiln = L.kiln := rfl
@[simp] theorem Lane.onLink_mem (L : Lane) (k : LinkId) (f : LinkView → LinkView) : (L.onLink k f).mem = L.mem := rfl
@[simp] theorem Lane.onLink_lpt (L : Lane) (k : LinkId) (f : LinkView → LinkView) : (L.onLink k f).lpt = L.lpt := rfl
@[simp] theorem Lane.onLink_bridges (L : Lane) (k : LinkId) (f : LinkView → LinkView) : (L.onLink k f).bridges = L.bridges := rfl
@[simp] theorem Lane.onLink_fes (L : Lane) (k : LinkId) (f : LinkView → LinkView) : (L.onLink k f).fes = L.fes := rfl
@[simp] theorem Lane.onLink_gates (L : Lane) (k : LinkId) (f : LinkView → LinkView) : (L.onLink k f).gates = L.gates := rfl

@[simp] theorem Lane.assertStop_id (L : Lane)  : (L.assertStop ).id = L.id := rfl
@[simp] theorem Lane.assertStop_dict (L : Lane)  : (L.assertStop ).dict = L.dict := rfl
@[simp] theorem Lane.assertStop_vote (L : Lane)  : (L.assertStop ).vote = L.vote := rfl
@[simp] theorem Lane.assertStop_links (L : Lane)  : (L.assertStop ).links = L.links := rfl
@[simp] theorem Lane.assertStop_svc (L : Lane)  : (L.assertStop ).svc = L.svc := rfl
@[simp] theorem Lane.assertStop_net (L : Lane)  : (L.assertStop ).net = L.net := rfl
@[simp] theorem Lane.assertStop_tb (L : Lane)  : (L.assertStop ).tb = L.tb := rfl
@[simp] theorem Lane.assertStop_upl (L : Lane)  : (L.assertStop ).upl = L.upl := rfl
@[simp] theorem Lane.assertStop_tsq (L : Lane)  : (L.assertStop ).tsq = L.tsq := rfl
@[simp] theorem Lane.assertStop_ta (L : Lane)  : (L.assertStop ).ta = L.ta := rfl
@[simp] theorem Lane.assertStop_sleep (L : Lane)  : (L.assertStop ).sleep = L.sleep := rfl
@[simp] theorem Lane.assertStop_ct (L : Lane)  : (L.assertStop ).ct = L.ct := rfl
@[simp] theorem Lane.assertStop_sb (L : Lane)  : (L.assertStop ).sb = L.sb := rfl
@[simp] theorem Lane.assertStop_safe (L : Lane)  : (L.assertStop ).safe = L.safe := rfl
@[simp] theorem Lane.assertStop_ds2 (L : Lane)  : (L.assertStop ).ds2 = L.ds2 := rfl
@[simp] theorem Lane.assertStop_sec (L : Lane)  : (L.assertStop ).sec = L.sec := rfl
@[simp] theorem Lane.assertStop_clk (L : Lane)  : (L.assertStop ).clk = L.clk := rfl
@[simp] theorem Lane.assertStop_therm (L : Lane)  : (L.assertStop ).therm = L.therm := rfl
@[simp] theorem Lane.assertStop_flog (L : Lane)  : (L.assertStop ).flog = L.flog := rfl
@[simp] theorem Lane.assertStop_kiln (L : Lane)  : (L.assertStop ).kiln = L.kiln := rfl
@[simp] theorem Lane.assertStop_mem (L : Lane)  : (L.assertStop ).mem = L.mem := rfl
@[simp] theorem Lane.assertStop_lpt (L : Lane)  : (L.assertStop ).lpt = L.lpt := rfl
@[simp] theorem Lane.assertStop_fes (L : Lane)  : (L.assertStop ).fes = L.fes := rfl

@[simp] theorem Lane.onBr_same (L : Lane) (b : Fin 8) (f : Bridge → Bridge) :
    (L.onBr b f).bridges.get b = f (L.bridges.get b) := by simp [Lane.onBr]

@[simp] theorem Lane.onBr_ne (L : Lane) {b c : Fin 8} (f : Bridge → Bridge) (h : c ≠ b) :
    (L.onBr b f).bridges.get c = L.bridges.get c := by simp [Lane.onBr, h]

@[simp] theorem Lane.onFe_same (L : Lane) (b : Fin 8) (f : FrontEnd → FrontEnd) :
    (L.onFe b f).fes.get b = f (L.fes.get b) := by simp [Lane.onFe]

@[simp] theorem Lane.onFe_ne (L : Lane) {b c : Fin 8} (f : FrontEnd → FrontEnd) (h : c ≠ b) :
    (L.onFe b f).fes.get c = L.fes.get c := by simp [Lane.onFe, h]

@[simp] theorem Lane.onGate_same (L : Lane) (b : Fin 8) (f : Gate → Gate) :
    (L.onGate b f).gates.get b = f (L.gates.get b) := by simp [Lane.onGate]

@[simp] theorem Lane.onGate_ne (L : Lane) {b c : Fin 8} (f : Gate → Gate) (h : c ≠ b) :
    (L.onGate b f).gates.get c = L.gates.get c := by simp [Lane.onGate, h]

@[simp] theorem Lane.assertStop_stopLine (L : Lane) : L.assertStop.pwr.stopLine = true := rfl

end Machine
end Sys2Proof
end

