-- ==== Sys2Proof/Laws/Ops.lean ====
section
/-! SUPPORT. What the shared operations of a lane leave unchanged, one lemma for each field. -/

set_option Elab.async false

namespace Sys2Proof.Machine

@[simp] theorem Lane.advance_id (L : Lane) (ns : Nat) : (L.advance ns).id = L.id := by unfold Lane.advance; (repeat' split) <;> rfl
@[simp] theorem Lane.advance_dict (L : Lane) (ns : Nat) : (L.advance ns).dict = L.dict := by unfold Lane.advance; (repeat' split) <;> rfl
@[simp] theorem Lane.advance_vote (L : Lane) (ns : Nat) : (L.advance ns).vote = L.vote := by unfold Lane.advance; (repeat' split) <;> rfl
@[simp] theorem Lane.advance_links (L : Lane) (ns : Nat) : (L.advance ns).links = L.links := by unfold Lane.advance; (repeat' split) <;> rfl
@[simp] theorem Lane.advance_svc (L : Lane) (ns : Nat) : (L.advance ns).svc = L.svc := by unfold Lane.advance; (repeat' split) <;> rfl
@[simp] theorem Lane.advance_dc (L : Lane) (ns : Nat) : (L.advance ns).dc = L.dc := by unfold Lane.advance; (repeat' split) <;> rfl
@[simp] theorem Lane.advance_net (L : Lane) (ns : Nat) : (L.advance ns).net = L.net := by unfold Lane.advance; (repeat' split) <;> rfl
@[simp] theorem Lane.advance_upl (L : Lane) (ns : Nat) : (L.advance ns).upl = L.upl := by unfold Lane.advance; (repeat' split) <;> rfl
@[simp] theorem Lane.advance_tsq (L : Lane) (ns : Nat) : (L.advance ns).tsq = L.tsq := by unfold Lane.advance; (repeat' split) <;> rfl
@[simp] theorem Lane.advance_ta (L : Lane) (ns : Nat) : (L.advance ns).ta = L.ta := by unfold Lane.advance; (repeat' split) <;> rfl
@[simp] theorem Lane.advance_sleep (L : Lane) (ns : Nat) : (L.advance ns).sleep = L.sleep := by unfold Lane.advance; (repeat' split) <;> rfl
@[simp] theorem Lane.advance_ct (L : Lane) (ns : Nat) : (L.advance ns).ct = L.ct := by unfold Lane.advance; (repeat' split) <;> rfl
@[simp] theorem Lane.advance_sb (L : Lane) (ns : Nat) : (L.advance ns).sb = L.sb := by unfold Lane.advance; (repeat' split) <;> rfl
@[simp] theorem Lane.advance_safe (L : Lane) (ns : Nat) : (L.advance ns).safe = L.safe := by unfold Lane.advance; (repeat' split) <;> rfl
@[simp] theorem Lane.advance_ds2 (L : Lane) (ns : Nat) : (L.advance ns).ds2 = L.ds2 := by unfold Lane.advance; (repeat' split) <;> rfl
@[simp] theorem Lane.advance_sec (L : Lane) (ns : Nat) : (L.advance ns).sec = L.sec := by unfold Lane.advance; (repeat' split) <;> rfl
@[simp] theorem Lane.advance_pwr (L : Lane) (ns : Nat) : (L.advance ns).pwr = L.pwr := by unfold Lane.advance; (repeat' split) <;> rfl
@[simp] theorem Lane.advance_clk (L : Lane) (ns : Nat) : (L.advance ns).clk = L.clk := by unfold Lane.advance; (repeat' split) <;> rfl
@[simp] theorem Lane.advance_therm (L : Lane) (ns : Nat) : (L.advance ns).therm = L.therm := by unfold Lane.advance; (repeat' split) <;> rfl
@[simp] theorem Lane.advance_flog (L : Lane) (ns : Nat) : (L.advance ns).flog = L.flog := by unfold Lane.advance; (repeat' split) <;> rfl
@[simp] theorem Lane.advance_kiln (L : Lane) (ns : Nat) : (L.advance ns).kiln = L.kiln := by unfold Lane.advance; (repeat' split) <;> rfl
@[simp] theorem Lane.advance_mem (L : Lane) (ns : Nat) : (L.advance ns).mem = L.mem := by unfold Lane.advance; (repeat' split) <;> rfl
@[simp] theorem Lane.advance_lpt (L : Lane) (ns : Nat) : (L.advance ns).lpt = L.lpt := by unfold Lane.advance; (repeat' split) <;> rfl
@[simp] theorem Lane.advance_bridges (L : Lane) (ns : Nat) : (L.advance ns).bridges = L.bridges := by unfold Lane.advance; (repeat' split) <;> rfl
@[simp] theorem Lane.advance_fes (L : Lane) (ns : Nat) : (L.advance ns).fes = L.fes := by unfold Lane.advance; (repeat' split) <;> rfl
@[simp] theorem Lane.advance_gates (L : Lane) (ns : Nat) : (L.advance ns).gates = L.gates := by unfold Lane.advance; (repeat' split) <;> rfl
@[simp] theorem Lane.toPoint_id (L : Lane) (us : Nat) : (L.toPoint us).id = L.id := by simp [Lane.toPoint]
@[simp] theorem Lane.toPoint_dict (L : Lane) (us : Nat) : (L.toPoint us).dict = L.dict := by simp [Lane.toPoint]
@[simp] theorem Lane.toPoint_vote (L : Lane) (us : Nat) : (L.toPoint us).vote = L.vote := by simp [Lane.toPoint]
@[simp] theorem Lane.toPoint_links (L : Lane) (us : Nat) : (L.toPoint us).links = L.links := by simp [Lane.toPoint]
@[simp] theorem Lane.toPoint_svc (L : Lane) (us : Nat) : (L.toPoint us).svc = L.svc := by simp [Lane.toPoint]
@[simp] theorem Lane.toPoint_dc (L : Lane) (us : Nat) : (L.toPoint us).dc = L.dc := by simp [Lane.toPoint]
@[simp] theorem Lane.toPoint_net (L : Lane) (us : Nat) : (L.toPoint us).net = L.net := by simp [Lane.toPoint]
@[simp] theorem Lane.toPoint_upl (L : Lane) (us : Nat) : (L.toPoint us).upl = L.upl := by simp [Lane.toPoint]
@[simp] theorem Lane.toPoint_tsq (L : Lane) (us : Nat) : (L.toPoint us).tsq = L.tsq := by simp [Lane.toPoint]
@[simp] theorem Lane.toPoint_ta (L : Lane) (us : Nat) : (L.toPoint us).ta = L.ta := by simp [Lane.toPoint]
@[simp] theorem Lane.toPoint_sleep (L : Lane) (us : Nat) : (L.toPoint us).sleep = L.sleep := by simp [Lane.toPoint]
@[simp] theorem Lane.toPoint_ct (L : Lane) (us : Nat) : (L.toPoint us).ct = L.ct := by simp [Lane.toPoint]
@[simp] theorem Lane.toPoint_sb (L : Lane) (us : Nat) : (L.toPoint us).sb = L.sb := by simp [Lane.toPoint]
@[simp] theorem Lane.toPoint_safe (L : Lane) (us : Nat) : (L.toPoint us).safe = L.safe := by simp [Lane.toPoint]
@[simp] theorem Lane.toPoint_ds2 (L : Lane) (us : Nat) : (L.toPoint us).ds2 = L.ds2 := by simp [Lane.toPoint]
@[simp] theorem Lane.toPoint_sec (L : Lane) (us : Nat) : (L.toPoint us).sec = L.sec := by simp [Lane.toPoint]
@[simp] theorem Lane.toPoint_pwr (L : Lane) (us : Nat) : (L.toPoint us).pwr = L.pwr := by simp [Lane.toPoint]
@[simp] theorem Lane.toPoint_clk (L : Lane) (us : Nat) : (L.toPoint us).clk = L.clk := by simp [Lane.toPoint]
@[simp] theorem Lane.toPoint_therm (L : Lane) (us : Nat) : (L.toPoint us).therm = L.therm := by simp [Lane.toPoint]
@[simp] theorem Lane.toPoint_flog (L : Lane) (us : Nat) : (L.toPoint us).flog = L.flog := by simp [Lane.toPoint]
@[simp] theorem Lane.toPoint_kiln (L : Lane) (us : Nat) : (L.toPoint us).kiln = L.kiln := by simp [Lane.toPoint]
@[simp] theorem Lane.toPoint_mem (L : Lane) (us : Nat) : (L.toPoint us).mem = L.mem := by simp [Lane.toPoint]
@[simp] theorem Lane.toPoint_lpt (L : Lane) (us : Nat) : (L.toPoint us).lpt = L.lpt := by simp [Lane.toPoint]
@[simp] theorem Lane.toPoint_bridges (L : Lane) (us : Nat) : (L.toPoint us).bridges = L.bridges := by simp [Lane.toPoint]
@[simp] theorem Lane.toPoint_fes (L : Lane) (us : Nat) : (L.toPoint us).fes = L.fes := by simp [Lane.toPoint]
@[simp] theorem Lane.toPoint_gates (L : Lane) (us : Nat) : (L.toPoint us).gates = L.gates := by simp [Lane.toPoint]
@[simp] theorem Lane.loseTime_id (L : Lane)  : (L.loseTime ).id = L.id := by unfold Lane.loseTime; rfl
@[simp] theorem Lane.loseTime_dict (L : Lane)  : (L.loseTime ).dict = L.dict := by unfold Lane.loseTime; rfl
@[simp] theorem Lane.loseTime_vote (L : Lane)  : (L.loseTime ).vote = L.vote := by unfold Lane.loseTime; rfl
@[simp] theorem Lane.loseTime_links (L : Lane)  : (L.loseTime ).links = L.links := by unfold Lane.loseTime; rfl
@[simp] theorem Lane.loseTime_svc (L : Lane)  : (L.loseTime ).svc = L.svc := by unfold Lane.loseTime; rfl
@[simp] theorem Lane.loseTime_dc (L : Lane)  : (L.loseTime ).dc = L.dc := by unfold Lane.loseTime; rfl
@[simp] theorem Lane.loseTime_net (L : Lane)  : (L.loseTime ).net = L.net := by unfold Lane.loseTime; rfl
@[simp] theorem Lane.loseTime_tb (L : Lane)  : (L.loseTime ).tb = L.tb := by unfold Lane.loseTime; rfl
@[simp] theorem Lane.loseTime_upl (L : Lane)  : (L.loseTime ).upl = L.upl := by unfold Lane.loseTime; rfl
@[simp] theorem Lane.loseTime_tsq (L : Lane)  : (L.loseTime ).tsq = L.tsq := by unfold Lane.loseTime; rfl
@[simp] theorem Lane.loseTime_ta (L : Lane)  : (L.loseTime ).ta = L.ta := by unfold Lane.loseTime; rfl
@[simp] theorem Lane.loseTime_sleep (L : Lane)  : (L.loseTime ).sleep = L.sleep := by unfold Lane.loseTime; rfl
@[simp] theorem Lane.loseTime_ct (L : Lane)  : (L.loseTime ).ct = L.ct := by unfold Lane.loseTime; rfl
@[simp] theorem Lane.loseTime_sb (L : Lane)  : (L.loseTime ).sb = L.sb := by unfold Lane.loseTime; rfl
@[simp] theorem Lane.loseTime_safe (L : Lane)  : (L.loseTime ).safe = L.safe := by unfold Lane.loseTime; rfl
@[simp] theorem Lane.loseTime_ds2 (L : Lane)  : (L.loseTime ).ds2 = L.ds2 := by unfold Lane.loseTime; rfl
@[simp] theorem Lane.loseTime_sec (L : Lane)  : (L.loseTime ).sec = L.sec := by unfold Lane.loseTime; rfl
@[simp] theorem Lane.loseTime_pwr (L : Lane)  : (L.loseTime ).pwr = L.pwr := by unfold Lane.loseTime; rfl
@[simp] theorem Lane.loseTime_clk (L : Lane)  : (L.loseTime ).clk = L.clk := by unfold Lane.loseTime; rfl
@[simp] theorem Lane.loseTime_therm (L : Lane)  : (L.loseTime ).therm = L.therm := by unfold Lane.loseTime; rfl
@[simp] theorem Lane.loseTime_kiln (L : Lane)  : (L.loseTime ).kiln = L.kiln := by unfold Lane.loseTime; rfl
@[simp] theorem Lane.loseTime_mem (L : Lane)  : (L.loseTime ).mem = L.mem := by unfold Lane.loseTime; rfl
@[simp] theorem Lane.loseTime_lpt (L : Lane)  : (L.loseTime ).lpt = L.lpt := by unfold Lane.loseTime; rfl
@[simp] theorem Lane.loseTime_bridges (L : Lane)  : (L.loseTime ).bridges = L.bridges := by unfold Lane.loseTime; rfl
@[simp] theorem Lane.loseTime_fes (L : Lane)  : (L.loseTime ).fes = L.fes := by unfold Lane.loseTime; rfl
@[simp] theorem Lane.loseTime_gates (L : Lane)  : (L.loseTime ).gates = L.gates := by unfold Lane.loseTime; rfl
@[simp] theorem Lane.countEvent_id (L : Lane) (c : Nat) : (L.countEvent c).id = L.id := by unfold Lane.countEvent; rfl
@[simp] theorem Lane.countEvent_dict (L : Lane) (c : Nat) : (L.countEvent c).dict = L.dict := by unfold Lane.countEvent; rfl
@[simp] theorem Lane.countEvent_vote (L : Lane) (c : Nat) : (L.countEvent c).vote = L.vote := by unfold Lane.countEvent; rfl
@[simp] theorem Lane.countEvent_links (L : Lane) (c : Nat) : (L.countEvent c).links = L.links := by unfold Lane.countEvent; rfl
@[simp] theorem Lane.countEvent_svc (L : Lane) (c : Nat) : (L.countEvent c).svc = L.svc := by unfold Lane.countEvent; rfl
@[simp] theorem Lane.countEvent_dc (L : Lane) (c : Nat) : (L.countEvent c).dc = L.dc := by unfold Lane.countEvent; rfl
@[simp] theorem Lane.countEvent_net (L : Lane) (c : Nat) : (L.countEvent c).net = L.net := by unfold Lane.countEvent; rfl
@[simp] theorem Lane.countEvent_tb (L : Lane) (c : Nat) : (L.countEvent c).tb = L.tb := by unfold Lane.countEvent; rfl
@[simp] theorem Lane.countEvent_upl (L : Lane) (c : Nat) : (L.countEvent c).upl = L.upl := by unfold Lane.countEvent; rfl
@[simp] theorem Lane.countEvent_tsq (L : Lane) (c : Nat) : (L.countEvent c).tsq = L.tsq := by unfold Lane.countEvent; rfl
@[simp] theorem Lane.countEvent_ta (L : Lane) (c : Nat) : (L.countEvent c).ta = L.ta := by unfold Lane.countEvent; rfl
@[simp] theorem Lane.countEvent_sleep (L : Lane) (c : Nat) : (L.countEvent c).sleep = L.sleep := by unfold Lane.countEvent; rfl
@[simp] theorem Lane.countEvent_ct (L : Lane) (c : Nat) : (L.countEvent c).ct = L.ct := by unfold Lane.countEvent; rfl
@[simp] theorem Lane.countEvent_sb (L : Lane) (c : Nat) : (L.countEvent c).sb = L.sb := by unfold Lane.countEvent; rfl
@[simp] theorem Lane.countEvent_safe (L : Lane) (c : Nat) : (L.countEvent c).safe = L.safe := by unfold Lane.countEvent; rfl
@[simp] theorem Lane.countEvent_ds2 (L : Lane) (c : Nat) : (L.countEvent c).ds2 = L.ds2 := by unfold Lane.countEvent; rfl
@[simp] theorem Lane.countEvent_sec (L : Lane) (c : Nat) : (L.countEvent c).sec = L.sec := by unfold Lane.countEvent; rfl
@[simp] theorem Lane.countEvent_pwr (L : Lane) (c : Nat) : (L.countEvent c).pwr = L.pwr := by unfold Lane.countEvent; rfl
@[simp] theorem Lane.countEvent_clk (L : Lane) (c : Nat) : (L.countEvent c).clk = L.clk := by unfold Lane.countEvent; rfl
@[simp] theorem Lane.countEvent_therm (L : Lane) (c : Nat) : (L.countEvent c).therm = L.therm := by unfold Lane.countEvent; rfl
@[simp] theorem Lane.countEvent_mem (L : Lane) (c : Nat) : (L.countEvent c).mem = L.mem := by unfold Lane.countEvent; rfl
@[simp] theorem Lane.countEvent_lpt (L : Lane) (c : Nat) : (L.countEvent c).lpt = L.lpt := by unfold Lane.countEvent; rfl
@[simp] theorem Lane.countEvent_bridges (L : Lane) (c : Nat) : (L.countEvent c).bridges = L.bridges := by unfold Lane.countEvent; rfl
@[simp] theorem Lane.countEvent_fes (L : Lane) (c : Nat) : (L.countEvent c).fes = L.fes := by unfold Lane.countEvent; rfl
@[simp] theorem Lane.countEvent_gates (L : Lane) (c : Nat) : (L.countEvent c).gates = L.gates := by unfold Lane.countEvent; rfl
@[simp] theorem Lane.cfgFault_id (L : Lane) (c d v : Nat) : (L.cfgFault c d v).id = L.id := by unfold Lane.cfgFault; rfl
@[simp] theorem Lane.cfgFault_dict (L : Lane) (c d v : Nat) : (L.cfgFault c d v).dict = L.dict := by unfold Lane.cfgFault; rfl
@[simp] theorem Lane.cfgFault_vote (L : Lane) (c d v : Nat) : (L.cfgFault c d v).vote = L.vote := by unfold Lane.cfgFault; rfl
@[simp] theorem Lane.cfgFault_links (L : Lane) (c d v : Nat) : (L.cfgFault c d v).links = L.links := by unfold Lane.cfgFault; rfl
@[simp] theorem Lane.cfgFault_svc (L : Lane) (c d v : Nat) : (L.cfgFault c d v).svc = L.svc := by unfold Lane.cfgFault; rfl
@[simp] theorem Lane.cfgFault_dc (L : Lane) (c d v : Nat) : (L.cfgFault c d v).dc = L.dc := by unfold Lane.cfgFault; rfl
@[simp] theorem Lane.cfgFault_net (L : Lane) (c d v : Nat) : (L.cfgFault c d v).net = L.net := by unfold Lane.cfgFault; rfl
@[simp] theorem Lane.cfgFault_tb (L : Lane) (c d v : Nat) : (L.cfgFault c d v).tb = L.tb := by unfold Lane.cfgFault; rfl
@[simp] theorem Lane.cfgFault_upl (L : Lane) (c d v : Nat) : (L.cfgFault c d v).upl = L.upl := by unfold Lane.cfgFault; rfl
@[simp] theorem Lane.cfgFault_tsq (L : Lane) (c d v : Nat) : (L.cfgFault c d v).tsq = L.tsq := by unfold Lane.cfgFault; rfl
@[simp] theorem Lane.cfgFault_ta (L : Lane) (c d v : Nat) : (L.cfgFault c d v).ta = L.ta := by unfold Lane.cfgFault; rfl
@[simp] theorem Lane.cfgFault_sleep (L : Lane) (c d v : Nat) : (L.cfgFault c d v).sleep = L.sleep := by unfold Lane.cfgFault; rfl
@[simp] theorem Lane.cfgFault_ct (L : Lane) (c d v : Nat) : (L.cfgFault c d v).ct = L.ct := by unfold Lane.cfgFault; rfl
@[simp] theorem Lane.cfgFault_sb (L : Lane) (c d v : Nat) : (L.cfgFault c d v).sb = L.sb := by unfold Lane.cfgFault; rfl
@[simp] theorem Lane.cfgFault_safe (L : Lane) (c d v : Nat) : (L.cfgFault c d v).safe = L.safe := by unfold Lane.cfgFault; rfl
@[simp] theorem Lane.cfgFault_ds2 (L : Lane) (c d v : Nat) : (L.cfgFault c d v).ds2 = L.ds2 := by unfold Lane.cfgFault; rfl
@[simp] theorem Lane.cfgFault_sec (L : Lane) (c d v : Nat) : (L.cfgFault c d v).sec = L.sec := by unfold Lane.cfgFault; rfl
@[simp] theorem Lane.cfgFault_pwr (L : Lane) (c d v : Nat) : (L.cfgFault c d v).pwr = L.pwr := by unfold Lane.cfgFault; rfl
@[simp] theorem Lane.cfgFault_clk (L : Lane) (c d v : Nat) : (L.cfgFault c d v).clk = L.clk := by unfold Lane.cfgFault; rfl
@[simp] theorem Lane.cfgFault_therm (L : Lane) (c d v : Nat) : (L.cfgFault c d v).therm = L.therm := by unfold Lane.cfgFault; rfl
@[simp] theorem Lane.cfgFault_mem (L : Lane) (c d v : Nat) : (L.cfgFault c d v).mem = L.mem := by unfold Lane.cfgFault; rfl
@[simp] theorem Lane.cfgFault_lpt (L : Lane) (c d v : Nat) : (L.cfgFault c d v).lpt = L.lpt := by unfold Lane.cfgFault; rfl
@[simp] theorem Lane.cfgFault_bridges (L : Lane) (c d v : Nat) : (L.cfgFault c d v).bridges = L.bridges := by unfold Lane.cfgFault; rfl
@[simp] theorem Lane.cfgFault_fes (L : Lane) (c d v : Nat) : (L.cfgFault c d v).fes = L.fes := by unfold Lane.cfgFault; rfl
@[simp] theorem Lane.cfgFault_gates (L : Lane) (c d v : Nat) : (L.cfgFault c d v).gates = L.gates := by unfold Lane.cfgFault; rfl
@[simp] theorem Lane.gatesLow_id (L : Lane)  : (L.gatesLow ).id = L.id := by unfold Lane.gatesLow; rfl
@[simp] theorem Lane.gatesLow_dict (L : Lane)  : (L.gatesLow ).dict = L.dict := by unfold Lane.gatesLow; rfl
@[simp] theorem Lane.gatesLow_vote (L : Lane)  : (L.gatesLow ).vote = L.vote := by unfold Lane.gatesLow; rfl
@[simp] theorem Lane.gatesLow_links (L : Lane)  : (L.gatesLow ).links = L.links := by unfold Lane.gatesLow; rfl
@[simp] theorem Lane.gatesLow_svc (L : Lane)  : (L.gatesLow ).svc = L.svc := by unfold Lane.gatesLow; rfl
@[simp] theorem Lane.gatesLow_net (L : Lane)  : (L.gatesLow ).net = L.net := by unfold Lane.gatesLow; rfl
@[simp] theorem Lane.gatesLow_tb (L : Lane)  : (L.gatesLow ).tb = L.tb := by unfold Lane.gatesLow; rfl
@[simp] theorem Lane.gatesLow_upl (L : Lane)  : (L.gatesLow ).upl = L.upl := by unfold Lane.gatesLow; rfl
@[simp] theorem Lane.gatesLow_tsq (L : Lane)  : (L.gatesLow ).tsq = L.tsq := by unfold Lane.gatesLow; rfl
@[simp] theorem Lane.gatesLow_ta (L : Lane)  : (L.gatesLow ).ta = L.ta := by unfold Lane.gatesLow; rfl
@[simp] theorem Lane.gatesLow_sleep (L : Lane)  : (L.gatesLow ).sleep = L.sleep := by unfold Lane.gatesLow; rfl
@[simp] theorem Lane.gatesLow_ct (L : Lane)  : (L.gatesLow ).ct = L.ct := by unfold Lane.gatesLow; rfl
@[simp] theorem Lane.gatesLow_sb (L : Lane)  : (L.gatesLow ).sb = L.sb := by unfold Lane.gatesLow; rfl
@[simp] theorem Lane.gatesLow_safe (L : Lane)  : (L.gatesLow ).safe = L.safe := by unfold Lane.gatesLow; rfl
@[simp] theorem Lane.gatesLow_ds2 (L : Lane)  : (L.gatesLow ).ds2 = L.ds2 := by unfold Lane.gatesLow; rfl
@[simp] theorem Lane.gatesLow_sec (L : Lane)  : (L.gatesLow ).sec = L.sec := by unfold Lane.gatesLow; rfl
@[simp] theorem Lane.gatesLow_pwr (L : Lane)  : (L.gatesLow ).pwr = L.pwr := by unfold Lane.gatesLow; rfl
@[simp] theorem Lane.gatesLow_clk (L : Lane)  : (L.gatesLow ).clk = L.clk := by unfold Lane.gatesLow; rfl
@[simp] theorem Lane.gatesLow_therm (L : Lane)  : (L.gatesLow ).therm = L.therm := by unfold Lane.gatesLow; rfl
@[simp] theorem Lane.gatesLow_flog (L : Lane)  : (L.gatesLow ).flog = L.flog := by unfold Lane.gatesLow; rfl
@[simp] theorem Lane.gatesLow_kiln (L : Lane)  : (L.gatesLow ).kiln = L.kiln := by unfold Lane.gatesLow; rfl
@[simp] theorem Lane.gatesLow_mem (L : Lane)  : (L.gatesLow ).mem = L.mem := by unfold Lane.gatesLow; rfl
@[simp] theorem Lane.gatesLow_lpt (L : Lane)  : (L.gatesLow ).lpt = L.lpt := by unfold Lane.gatesLow; rfl
@[simp] theorem Lane.gatesLow_fes (L : Lane)  : (L.gatesLow ).fes = L.fes := by unfold Lane.gatesLow; rfl
@[simp] theorem Lane.countOut_id (L : Lane)  : (L.countOut ).id = L.id := by unfold Lane.countOut; rfl
@[simp] theorem Lane.countOut_dict (L : Lane)  : (L.countOut ).dict = L.dict := by unfold Lane.countOut; rfl
@[simp] theorem Lane.countOut_links (L : Lane)  : (L.countOut ).links = L.links := by unfold Lane.countOut; rfl
@[simp] theorem Lane.countOut_svc (L : Lane)  : (L.countOut ).svc = L.svc := by unfold Lane.countOut; rfl
@[simp] theorem Lane.countOut_dc (L : Lane)  : (L.countOut ).dc = L.dc := by unfold Lane.countOut; rfl
@[simp] theorem Lane.countOut_net (L : Lane)  : (L.countOut ).net = L.net := by unfold Lane.countOut; rfl
@[simp] theorem Lane.countOut_tb (L : Lane)  : (L.countOut ).tb = L.tb := by unfold Lane.countOut; rfl
@[simp] theorem Lane.countOut_upl (L : Lane)  : (L.countOut ).upl = L.upl := by unfold Lane.countOut; rfl
@[simp] theorem Lane.countOut_tsq (L : Lane)  : (L.countOut ).tsq = L.tsq := by unfold Lane.countOut; rfl
@[simp] theorem Lane.countOut_ta (L : Lane)  : (L.countOut ).ta = L.ta := by unfold Lane.countOut; rfl
@[simp] theorem Lane.countOut_sleep (L : Lane)  : (L.countOut ).sleep = L.sleep := by unfold Lane.countOut; rfl
@[simp] theorem Lane.countOut_ct (L : Lane)  : (L.countOut ).ct = L.ct := by unfold Lane.countOut; rfl
@[simp] theorem Lane.countOut_sb (L : Lane)  : (L.countOut ).sb = L.sb := by unfold Lane.countOut; rfl
@[simp] theorem Lane.countOut_safe (L : Lane)  : (L.countOut ).safe = L.safe := by unfold Lane.countOut; rfl
@[simp] theorem Lane.countOut_ds2 (L : Lane)  : (L.countOut ).ds2 = L.ds2 := by unfold Lane.countOut; rfl
@[simp] theorem Lane.countOut_sec (L : Lane)  : (L.countOut ).sec = L.sec := by unfold Lane.countOut; rfl
@[simp] theorem Lane.countOut_pwr (L : Lane)  : (L.countOut ).pwr = L.pwr := by unfold Lane.countOut; rfl
@[simp] theorem Lane.countOut_clk (L : Lane)  : (L.countOut ).clk = L.clk := by unfold Lane.countOut; rfl
@[simp] theorem Lane.countOut_therm (L : Lane)  : (L.countOut ).therm = L.therm := by unfold Lane.countOut; rfl
@[simp] theorem Lane.countOut_flog (L : Lane)  : (L.countOut ).flog = L.flog := by unfold Lane.countOut; rfl
@[simp] theorem Lane.countOut_kiln (L : Lane)  : (L.countOut ).kiln = L.kiln := by unfold Lane.countOut; rfl
@[simp] theorem Lane.countOut_mem (L : Lane)  : (L.countOut ).mem = L.mem := by unfold Lane.countOut; rfl
@[simp] theorem Lane.countOut_lpt (L : Lane)  : (L.countOut ).lpt = L.lpt := by unfold Lane.countOut; rfl
@[simp] theorem Lane.countOut_bridges (L : Lane)  : (L.countOut ).bridges = L.bridges := by unfold Lane.countOut; rfl
@[simp] theorem Lane.countOut_fes (L : Lane)  : (L.countOut ).fes = L.fes := by unfold Lane.countOut; rfl
@[simp] theorem Lane.countOut_gates (L : Lane)  : (L.countOut ).gates = L.gates := by unfold Lane.countOut; rfl
@[simp] theorem Lane.goOut_id (L : Lane) (c : Nat) : (L.goOut c).id = L.id := by unfold Lane.goOut; (repeat' split) <;> simp
@[simp] theorem Lane.goOut_dict (L : Lane) (c : Nat) : (L.goOut c).dict = L.dict := by unfold Lane.goOut; (repeat' split) <;> simp
@[simp] theorem Lane.goOut_links (L : Lane) (c : Nat) : (L.goOut c).links = L.links := by unfold Lane.goOut; (repeat' split) <;> simp
@[simp] theorem Lane.goOut_svc (L : Lane) (c : Nat) : (L.goOut c).svc = L.svc := by unfold Lane.goOut; (repeat' split) <;> simp
@[simp] theorem Lane.goOut_net (L : Lane) (c : Nat) : (L.goOut c).net = L.net := by unfold Lane.goOut; (repeat' split) <;> simp
@[simp] theorem Lane.goOut_tb (L : Lane) (c : Nat) : (L.goOut c).tb = L.tb := by unfold Lane.goOut; (repeat' split) <;> simp
@[simp] theorem Lane.goOut_upl (L : Lane) (c : Nat) : (L.goOut c).upl = L.upl := by unfold Lane.goOut; (repeat' split) <;> simp
@[simp] theorem Lane.goOut_tsq (L : Lane) (c : Nat) : (L.goOut c).tsq = L.tsq := by unfold Lane.goOut; (repeat' split) <;> simp
@[simp] theorem Lane.goOut_sleep (L : Lane) (c : Nat) : (L.goOut c).sleep = L.sleep := by unfold Lane.goOut; (repeat' split) <;> simp
@[simp] theorem Lane.goOut_ct (L : Lane) (c : Nat) : (L.goOut c).ct = L.ct := by unfold Lane.goOut; (repeat' split) <;> simp
@[simp] theorem Lane.goOut_sb (L : Lane) (c : Nat) : (L.goOut c).sb = L.sb := by unfold Lane.goOut; (repeat' split) <;> simp
@[simp] theorem Lane.goOut_safe (L : Lane) (c : Nat) : (L.goOut c).safe = L.safe := by unfold Lane.goOut; (repeat' split) <;> simp
@[simp] theorem Lane.goOut_ds2 (L : Lane) (c : Nat) : (L.goOut c).ds2 = L.ds2 := by unfold Lane.goOut; (repeat' split) <;> simp
@[simp] theorem Lane.goOut_sec (L : Lane) (c : Nat) : (L.goOut c).sec = L.sec := by unfold Lane.goOut; (repeat' split) <;> simp
@[simp] theorem Lane.goOut_clk (L : Lane) (c : Nat) : (L.goOut c).clk = L.clk := by unfold Lane.goOut; (repeat' split) <;> simp
@[simp] theorem Lane.goOut_therm (L : Lane) (c : Nat) : (L.goOut c).therm = L.therm := by unfold Lane.goOut; (repeat' split) <;> simp
@[simp] theorem Lane.goOut_flog (L : Lane) (c : Nat) : (L.goOut c).flog = L.flog := by unfold Lane.goOut; (repeat' split) <;> simp
@[simp] theorem Lane.goOut_kiln (L : Lane) (c : Nat) : (L.goOut c).kiln = L.kiln := by unfold Lane.goOut; (repeat' split) <;> simp
@[simp] theorem Lane.goOut_mem (L : Lane) (c : Nat) : (L.goOut c).mem = L.mem := by unfold Lane.goOut; (repeat' split) <;> simp
@[simp] theorem Lane.goOut_lpt (L : Lane) (c : Nat) : (L.goOut c).lpt = L.lpt := by unfold Lane.goOut; (repeat' split) <;> simp
@[simp] theorem Lane.goOut_fes (L : Lane) (c : Nat) : (L.goOut c).fes = L.fes := by unfold Lane.goOut; (repeat' split) <;> simp
@[simp] theorem Lane.laneOut_id (L : Lane) (c d v : Nat) : (L.laneOut c d v).id = L.id := by simp [Lane.laneOut]
@[simp] theorem Lane.laneOut_dict (L : Lane) (c d v : Nat) : (L.laneOut c d v).dict = L.dict := by simp [Lane.laneOut]
@[simp] theorem Lane.laneOut_links (L : Lane) (c d v : Nat) : (L.laneOut c d v).links = L.links := by simp [Lane.laneOut]
@[simp] theorem Lane.laneOut_svc (L : Lane) (c d v : Nat) : (L.laneOut c d v).svc = L.svc := by simp [Lane.laneOut]
@[simp] theorem Lane.laneOut_net (L : Lane) (c d v : Nat) : (L.laneOut c d v).net = L.net := by simp [Lane.laneOut]
@[simp] theorem Lane.laneOut_tb (L : Lane) (c d v : Nat) : (L.laneOut c d v).tb = L.tb := by simp [Lane.laneOut]
@[simp] theorem Lane.laneOut_upl (L : Lane) (c d v : Nat) : (L.laneOut c d v).upl = L.upl := by simp [Lane.laneOut]
@[simp] theorem Lane.laneOut_tsq (L : Lane) (c d v : Nat) : (L.laneOut c d v).tsq = L.tsq := by simp [Lane.laneOut]
@[simp] theorem Lane.laneOut_sleep (L : Lane) (c d v : Nat) : (L.laneOut c d v).sleep = L.sleep := by simp [Lane.laneOut]
@[simp] theorem Lane.laneOut_ct (L : Lane) (c d v : Nat) : (L.laneOut c d v).ct = L.ct := by simp [Lane.laneOut]
@[simp] theorem Lane.laneOut_sb (L : Lane) (c d v : Nat) : (L.laneOut c d v).sb = L.sb := by simp [Lane.laneOut]
@[simp] theorem Lane.laneOut_safe (L : Lane) (c d v : Nat) : (L.laneOut c d v).safe = L.safe := by simp [Lane.laneOut]
@[simp] theorem Lane.laneOut_ds2 (L : Lane) (c d v : Nat) : (L.laneOut c d v).ds2 = L.ds2 := by simp [Lane.laneOut]
@[simp] theorem Lane.laneOut_sec (L : Lane) (c d v : Nat) : (L.laneOut c d v).sec = L.sec := by simp [Lane.laneOut]
@[simp] theorem Lane.laneOut_clk (L : Lane) (c d v : Nat) : (L.laneOut c d v).clk = L.clk := by simp [Lane.laneOut]
@[simp] theorem Lane.laneOut_therm (L : Lane) (c d v : Nat) : (L.laneOut c d v).therm = L.therm := by simp [Lane.laneOut]
@[simp] theorem Lane.laneOut_mem (L : Lane) (c d v : Nat) : (L.laneOut c d v).mem = L.mem := by simp [Lane.laneOut]
@[simp] theorem Lane.laneOut_lpt (L : Lane) (c d v : Nat) : (L.laneOut c d v).lpt = L.lpt := by simp [Lane.laneOut]
@[simp] theorem Lane.laneOut_fes (L : Lane) (c d v : Nat) : (L.laneOut c d v).fes = L.fes := by simp [Lane.laneOut]
@[simp] theorem Lane.answer_id (L : Lane) (m : Master) (tid idx sub : Nat) (code : W32) (data : List Byte) : (L.answer m tid idx sub code data).id = L.id := by unfold Lane.answer Lane.answerWith; (repeat' split) <;> rfl
@[simp] theorem Lane.answer_vote (L : Lane) (m : Master) (tid idx sub : Nat) (code : W32) (data : List Byte) : (L.answer m tid idx sub code data).vote = L.vote := by unfold Lane.answer Lane.answerWith; (repeat' split) <;> rfl
@[simp] theorem Lane.answer_links (L : Lane) (m : Master) (tid idx sub : Nat) (code : W32) (data : List Byte) : (L.answer m tid idx sub code data).links = L.links := by unfold Lane.answer Lane.answerWith; (repeat' split) <;> rfl
@[simp] theorem Lane.answer_svc (L : Lane) (m : Master) (tid idx sub : Nat) (code : W32) (data : List Byte) : (L.answer m tid idx sub code data).svc = L.svc := by unfold Lane.answer Lane.answerWith; (repeat' split) <;> rfl
@[simp] theorem Lane.answer_dc (L : Lane) (m : Master) (tid idx sub : Nat) (code : W32) (data : List Byte) : (L.answer m tid idx sub code data).dc = L.dc := by unfold Lane.answer Lane.answerWith; (repeat' split) <;> rfl
@[simp] theorem Lane.answer_net (L : Lane) (m : Master) (tid idx sub : Nat) (code : W32) (data : List Byte) : (L.answer m tid idx sub code data).net = L.net := by unfold Lane.answer Lane.answerWith; (repeat' split) <;> rfl
@[simp] theorem Lane.answer_tb (L : Lane) (m : Master) (tid idx sub : Nat) (code : W32) (data : List Byte) : (L.answer m tid idx sub code data).tb = L.tb := by unfold Lane.answer Lane.answerWith; (repeat' split) <;> rfl
@[simp] theorem Lane.answer_upl (L : Lane) (m : Master) (tid idx sub : Nat) (code : W32) (data : List Byte) : (L.answer m tid idx sub code data).upl = L.upl := by unfold Lane.answer Lane.answerWith; (repeat' split) <;> rfl
@[simp] theorem Lane.answer_tsq (L : Lane) (m : Master) (tid idx sub : Nat) (code : W32) (data : List Byte) : (L.answer m tid idx sub code data).tsq = L.tsq := by unfold Lane.answer Lane.answerWith; (repeat' split) <;> rfl
@[simp] theorem Lane.answer_ta (L : Lane) (m : Master) (tid idx sub : Nat) (code : W32) (data : List Byte) : (L.answer m tid idx sub code data).ta = L.ta := by unfold Lane.answer Lane.answerWith; (repeat' split) <;> rfl
@[simp] theorem Lane.answer_sleep (L : Lane) (m : Master) (tid idx sub : Nat) (code : W32) (data : List Byte) : (L.answer m tid idx sub code data).sleep = L.sleep := by unfold Lane.answer Lane.answerWith; (repeat' split) <;> rfl
@[simp] theorem Lane.answer_ct (L : Lane) (m : Master) (tid idx sub : Nat) (code : W32) (data : List Byte) : (L.answer m tid idx sub code data).ct = L.ct := by unfold Lane.answer Lane.answerWith; (repeat' split) <;> rfl
@[simp] theorem Lane.answer_safe (L : Lane) (m : Master) (tid idx sub : Nat) (code : W32) (data : List Byte) : (L.answer m tid idx sub code data).safe = L.safe := by unfold Lane.answer Lane.answerWith; (repeat' split) <;> rfl
@[simp] theorem Lane.answer_ds2 (L : Lane) (m : Master) (tid idx sub : Nat) (code : W32) (data : List Byte) : (L.answer m tid idx sub code data).ds2 = L.ds2 := by unfold Lane.answer Lane.answerWith; (repeat' split) <;> rfl
@[simp] theorem Lane.answer_sec (L : Lane) (m : Master) (tid idx sub : Nat) (code : W32) (data : List Byte) : (L.answer m tid idx sub code data).sec = L.sec := by unfold Lane.answer Lane.answerWith; (repeat' split) <;> rfl
@[simp] theorem Lane.answer_pwr (L : Lane) (m : Master) (tid idx sub : Nat) (code : W32) (data : List Byte) : (L.answer m tid idx sub code data).pwr = L.pwr := by unfold Lane.answer Lane.answerWith; (repeat' split) <;> rfl
@[simp] theorem Lane.answer_clk (L : Lane) (m : Master) (tid idx sub : Nat) (code : W32) (data : List Byte) : (L.answer m tid idx sub code data).clk = L.clk := by unfold Lane.answer Lane.answerWith; (repeat' split) <;> rfl
@[simp] theorem Lane.answer_therm (L : Lane) (m : Master) (tid idx sub : Nat) (code : W32) (data : List Byte) : (L.answer m tid idx sub code data).therm = L.therm := by unfold Lane.answer Lane.answerWith; (repeat' split) <;> rfl
@[simp] theorem Lane.answer_flog (L : Lane) (m : Master) (tid idx sub : Nat) (code : W32) (data : List Byte) : (L.answer m tid idx sub code data).flog = L.flog := by unfold Lane.answer Lane.answerWith; (repeat' split) <;> rfl
@[simp] theorem Lane.answer_kiln (L : Lane) (m : Master) (tid idx sub : Nat) (code : W32) (data : List Byte) : (L.answer m tid idx sub code data).kiln = L.kiln := by unfold Lane.answer Lane.answerWith; (repeat' split) <;> rfl
@[simp] theorem Lane.answer_mem (L : Lane) (m : Master) (tid idx sub : Nat) (code : W32) (data : List Byte) : (L.answer m tid idx sub code data).mem = L.mem := by unfold Lane.answer Lane.answerWith; (repeat' split) <;> rfl
@[simp] theorem Lane.answer_lpt (L : Lane) (m : Master) (tid idx sub : Nat) (code : W32) (data : List Byte) : (L.answer m tid idx sub code data).lpt = L.lpt := by unfold Lane.answer Lane.answerWith; (repeat' split) <;> rfl
@[simp] theorem Lane.answer_bridges (L : Lane) (m : Master) (tid idx sub : Nat) (code : W32) (data : List Byte) : (L.answer m tid idx sub code data).bridges = L.bridges := by unfold Lane.answer Lane.answerWith; (repeat' split) <;> rfl
@[simp] theorem Lane.answer_fes (L : Lane) (m : Master) (tid idx sub : Nat) (code : W32) (data : List Byte) : (L.answer m tid idx sub code data).fes = L.fes := by unfold Lane.answer Lane.answerWith; (repeat' split) <;> rfl
@[simp] theorem Lane.answer_gates (L : Lane) (m : Master) (tid idx sub : Nat) (code : W32) (data : List Byte) : (L.answer m tid idx sub code data).gates = L.gates := by unfold Lane.answer Lane.answerWith; (repeat' split) <;> rfl
@[simp] theorem Lane.sbCount_id (L : Lane) (m : Master) (idx : Nat) : (L.sbCount m idx).id = L.id := by unfold Lane.sbCount; (repeat' split) <;> rfl
@[simp] theorem Lane.sbCount_dict (L : Lane) (m : Master) (idx : Nat) : (L.sbCount m idx).dict = L.dict := by unfold Lane.sbCount; (repeat' split) <;> rfl
@[simp] theorem Lane.sbCount_vote (L : Lane) (m : Master) (idx : Nat) : (L.sbCount m idx).vote = L.vote := by unfold Lane.sbCount; (repeat' split) <;> rfl
@[simp] theorem Lane.sbCount_links (L : Lane) (m : Master) (idx : Nat) : (L.sbCount m idx).links = L.links := by unfold Lane.sbCount; (repeat' split) <;> rfl
@[simp] theorem Lane.sbCount_svc (L : Lane) (m : Master) (idx : Nat) : (L.sbCount m idx).svc = L.svc := by unfold Lane.sbCount; (repeat' split) <;> rfl
@[simp] theorem Lane.sbCount_dc (L : Lane) (m : Master) (idx : Nat) : (L.sbCount m idx).dc = L.dc := by unfold Lane.sbCount; (repeat' split) <;> rfl
@[simp] theorem Lane.sbCount_net (L : Lane) (m : Master) (idx : Nat) : (L.sbCount m idx).net = L.net := by unfold Lane.sbCount; (repeat' split) <;> rfl
@[simp] theorem Lane.sbCount_tb (L : Lane) (m : Master) (idx : Nat) : (L.sbCount m idx).tb = L.tb := by unfold Lane.sbCount; (repeat' split) <;> rfl
@[simp] theorem Lane.sbCount_upl (L : Lane) (m : Master) (idx : Nat) : (L.sbCount m idx).upl = L.upl := by unfold Lane.sbCount; (repeat' split) <;> rfl
@[simp] theorem Lane.sbCount_tsq (L : Lane) (m : Master) (idx : Nat) : (L.sbCount m idx).tsq = L.tsq := by unfold Lane.sbCount; (repeat' split) <;> rfl
@[simp] theorem Lane.sbCount_ta (L : Lane) (m : Master) (idx : Nat) : (L.sbCount m idx).ta = L.ta := by unfold Lane.sbCount; (repeat' split) <;> rfl
@[simp] theorem Lane.sbCount_sleep (L : Lane) (m : Master) (idx : Nat) : (L.sbCount m idx).sleep = L.sleep := by unfold Lane.sbCount; (repeat' split) <;> rfl
@[simp] theorem Lane.sbCount_ct (L : Lane) (m : Master) (idx : Nat) : (L.sbCount m idx).ct = L.ct := by unfold Lane.sbCount; (repeat' split) <;> rfl
@[simp] theorem Lane.sbCount_safe (L : Lane) (m : Master) (idx : Nat) : (L.sbCount m idx).safe = L.safe := by unfold Lane.sbCount; (repeat' split) <;> rfl
@[simp] theorem Lane.sbCount_ds2 (L : Lane) (m : Master) (idx : Nat) : (L.sbCount m idx).ds2 = L.ds2 := by unfold Lane.sbCount; (repeat' split) <;> rfl
@[simp] theorem Lane.sbCount_sec (L : Lane) (m : Master) (idx : Nat) : (L.sbCount m idx).sec = L.sec := by unfold Lane.sbCount; (repeat' split) <;> rfl
@[simp] theorem Lane.sbCount_pwr (L : Lane) (m : Master) (idx : Nat) : (L.sbCount m idx).pwr = L.pwr := by unfold Lane.sbCount; (repeat' split) <;> rfl
@[simp] theorem Lane.sbCount_clk (L : Lane) (m : Master) (idx : Nat) : (L.sbCount m idx).clk = L.clk := by unfold Lane.sbCount; (repeat' split) <;> rfl
@[simp] theorem Lane.sbCount_therm (L : Lane) (m : Master) (idx : Nat) : (L.sbCount m idx).therm = L.therm := by unfold Lane.sbCount; (repeat' split) <;> rfl
@[simp] theorem Lane.sbCount_flog (L : Lane) (m : Master) (idx : Nat) : (L.sbCount m idx).flog = L.flog := by unfold Lane.sbCount; (repeat' split) <;> rfl
@[simp] theorem Lane.sbCount_kiln (L : Lane) (m : Master) (idx : Nat) : (L.sbCount m idx).kiln = L.kiln := by unfold Lane.sbCount; (repeat' split) <;> rfl
@[simp] theorem Lane.sbCount_mem (L : Lane) (m : Master) (idx : Nat) : (L.sbCount m idx).mem = L.mem := by unfold Lane.sbCount; (repeat' split) <;> rfl
@[simp] theorem Lane.sbCount_lpt (L : Lane) (m : Master) (idx : Nat) : (L.sbCount m idx).lpt = L.lpt := by unfold Lane.sbCount; (repeat' split) <;> rfl
@[simp] theorem Lane.sbCount_bridges (L : Lane) (m : Master) (idx : Nat) : (L.sbCount m idx).bridges = L.bridges := by unfold Lane.sbCount; (repeat' split) <;> rfl
@[simp] theorem Lane.sbCount_fes (L : Lane) (m : Master) (idx : Nat) : (L.sbCount m idx).fes = L.fes := by unfold Lane.sbCount; (repeat' split) <;> rfl
@[simp] theorem Lane.sbCount_gates (L : Lane) (m : Master) (idx : Nat) : (L.sbCount m idx).gates = L.gates := by unfold Lane.sbCount; (repeat' split) <;> rfl
@[simp] theorem Lane.storeObj_id (L : Lane) (idx sub raw : Nat) : (L.storeObj idx sub raw).id = L.id := by unfold Lane.storeObj; (repeat' split) <;> simp
@[simp] theorem Lane.storeObj_vote (L : Lane) (idx sub raw : Nat) : (L.storeObj idx sub raw).vote = L.vote := by unfold Lane.storeObj; (repeat' split) <;> simp
@[simp] theorem Lane.storeObj_links (L : Lane) (idx sub raw : Nat) : (L.storeObj idx sub raw).links = L.links := by unfold Lane.storeObj; (repeat' split) <;> simp
@[simp] theorem Lane.storeObj_svc (L : Lane) (idx sub raw : Nat) : (L.storeObj idx sub raw).svc = L.svc := by unfold Lane.storeObj; (repeat' split) <;> simp
@[simp] theorem Lane.storeObj_dc (L : Lane) (idx sub raw : Nat) : (L.storeObj idx sub raw).dc = L.dc := by unfold Lane.storeObj; (repeat' split) <;> simp
@[simp] theorem Lane.storeObj_net (L : Lane) (idx sub raw : Nat) : (L.storeObj idx sub raw).net = L.net := by unfold Lane.storeObj; (repeat' split) <;> simp
@[simp] theorem Lane.storeObj_tb (L : Lane) (idx sub raw : Nat) : (L.storeObj idx sub raw).tb = L.tb := by unfold Lane.storeObj; (repeat' split) <;> simp
@[simp] theorem Lane.storeObj_upl (L : Lane) (idx sub raw : Nat) : (L.storeObj idx sub raw).upl = L.upl := by unfold Lane.storeObj; (repeat' split) <;> simp
@[simp] theorem Lane.storeObj_tsq (L : Lane) (idx sub raw : Nat) : (L.storeObj idx sub raw).tsq = L.tsq := by unfold Lane.storeObj; (repeat' split) <;> simp
@[simp] theorem Lane.storeObj_ta (L : Lane) (idx sub raw : Nat) : (L.storeObj idx sub raw).ta = L.ta := by unfold Lane.storeObj; (repeat' split) <;> simp
@[simp] theorem Lane.storeObj_sleep (L : Lane) (idx sub raw : Nat) : (L.storeObj idx sub raw).sleep = L.sleep := by unfold Lane.storeObj; (repeat' split) <;> simp
@[simp] theorem Lane.storeObj_ct (L : Lane) (idx sub raw : Nat) : (L.storeObj idx sub raw).ct = L.ct := by unfold Lane.storeObj; (repeat' split) <;> simp
@[simp] theorem Lane.storeObj_sb (L : Lane) (idx sub raw : Nat) : (L.storeObj idx sub raw).sb = L.sb := by unfold Lane.storeObj; (repeat' split) <;> simp
@[simp] theorem Lane.storeObj_safe (L : Lane) (idx sub raw : Nat) : (L.storeObj idx sub raw).safe = L.safe := by unfold Lane.storeObj; (repeat' split) <;> simp
@[simp] theorem Lane.storeObj_ds2 (L : Lane) (idx sub raw : Nat) : (L.storeObj idx sub raw).ds2 = L.ds2 := by unfold Lane.storeObj; (repeat' split) <;> simp
@[simp] theorem Lane.storeObj_sec (L : Lane) (idx sub raw : Nat) : (L.storeObj idx sub raw).sec = L.sec := by unfold Lane.storeObj; (repeat' split) <;> simp
@[simp] theorem Lane.storeObj_pwr (L : Lane) (idx sub raw : Nat) : (L.storeObj idx sub raw).pwr = L.pwr := by unfold Lane.storeObj; (repeat' split) <;> simp
@[simp] theorem Lane.storeObj_clk (L : Lane) (idx sub raw : Nat) : (L.storeObj idx sub raw).clk = L.clk := by unfold Lane.storeObj; (repeat' split) <;> simp
@[simp] theorem Lane.storeObj_therm (L : Lane) (idx sub raw : Nat) : (L.storeObj idx sub raw).therm = L.therm := by unfold Lane.storeObj; (repeat' split) <;> simp
@[simp] theorem Lane.storeObj_flog (L : Lane) (idx sub raw : Nat) : (L.storeObj idx sub raw).flog = L.flog := by unfold Lane.storeObj; (repeat' split) <;> simp
@[simp] theorem Lane.storeObj_kiln (L : Lane) (idx sub raw : Nat) : (L.storeObj idx sub raw).kiln = L.kiln := by unfold Lane.storeObj; (repeat' split) <;> simp
@[simp] theorem Lane.storeObj_mem (L : Lane) (idx sub raw : Nat) : (L.storeObj idx sub raw).mem = L.mem := by unfold Lane.storeObj; (repeat' split) <;> simp
@[simp] theorem Lane.storeObj_lpt (L : Lane) (idx sub raw : Nat) : (L.storeObj idx sub raw).lpt = L.lpt := by unfold Lane.storeObj; (repeat' split) <;> simp
@[simp] theorem Lane.storeObj_bridges (L : Lane) (idx sub raw : Nat) : (L.storeObj idx sub raw).bridges = L.bridges := by unfold Lane.storeObj; (repeat' split) <;> simp
@[simp] theorem Lane.storeObj_fes (L : Lane) (idx sub raw : Nat) : (L.storeObj idx sub raw).fes = L.fes := by unfold Lane.storeObj; (repeat' split) <;> simp
@[simp] theorem Lane.storeObj_gates (L : Lane) (idx sub raw : Nat) : (L.storeObj idx sub raw).gates = L.gates := by unfold Lane.storeObj; (repeat' split) <;> simp
@[simp] theorem Lane.onLinkTo_id (L : Lane) (p : LaneId) (f : LinkView → LinkView) : (L.onLinkTo p f).id = L.id := by unfold Lane.onLinkTo; (repeat' split) <;> rfl
@[simp] theorem Lane.onLinkTo_dict (L : Lane) (p : LaneId) (f : LinkView → LinkView) : (L.onLinkTo p f).dict = L.dict := by unfold Lane.onLinkTo; (repeat' split) <;> rfl
@[simp] theorem Lane.onLinkTo_vote (L : Lane) (p : LaneId) (f : LinkView → LinkView) : (L.onLinkTo p f).vote = L.vote := by unfold Lane.onLinkTo; (repeat' split) <;> rfl
@[simp] theorem Lane.onLinkTo_svc (L : Lane) (p : LaneId) (f : LinkView → LinkView) : (L.onLinkTo p f).svc = L.svc := by unfold Lane.onLinkTo; (repeat' split) <;> rfl
@[simp] theorem Lane.onLinkTo_dc (L : Lane) (p : LaneId) (f : LinkView → LinkView) : (L.onLinkTo p f).dc = L.dc := by unfold Lane.onLinkTo; (repeat' split) <;> rfl
@[simp] theorem Lane.onLinkTo_net (L : Lane) (p : LaneId) (f : LinkView → LinkView) : (L.onLinkTo p f).net = L.net := by unfold Lane.onLinkTo; (repeat' split) <;> rfl
@[simp] theorem Lane.onLinkTo_tb (L : Lane) (p : LaneId) (f : LinkView → LinkView) : (L.onLinkTo p f).tb = L.tb := by unfold Lane.onLinkTo; (repeat' split) <;> rfl
@[simp] theorem Lane.onLinkTo_upl (L : Lane) (p : LaneId) (f : LinkView → LinkView) : (L.onLinkTo p f).upl = L.upl := by unfold Lane.onLinkTo; (repeat' split) <;> rfl
@[simp] theorem Lane.onLinkTo_tsq (L : Lane) (p : LaneId) (f : LinkView → LinkView) : (L.onLinkTo p f).tsq = L.tsq := by unfold Lane.onLinkTo; (repeat' split) <;> rfl
@[simp] theorem Lane.onLinkTo_ta (L : Lane) (p : LaneId) (f : LinkView → LinkView) : (L.onLinkTo p f).ta = L.ta := by unfold Lane.onLinkTo; (repeat' split) <;> rfl
@[simp] theorem Lane.onLinkTo_sleep (L : Lane) (p : LaneId) (f : LinkView → LinkView) : (L.onLinkTo p f).sleep = L.sleep := by unfold Lane.onLinkTo; (repeat' split) <;> rfl
@[simp] theorem Lane.onLinkTo_ct (L : Lane) (p : LaneId) (f : LinkView → LinkView) : (L.onLinkTo p f).ct = L.ct := by unfold Lane.onLinkTo; (repeat' split) <;> rfl
@[simp] theorem Lane.onLinkTo_sb (L : Lane) (p : LaneId) (f : LinkView → LinkView) : (L.onLinkTo p f).sb = L.sb := by unfold Lane.onLinkTo; (repeat' split) <;> rfl
@[simp] theorem Lane.onLinkTo_safe (L : Lane) (p : LaneId) (f : LinkView → LinkView) : (L.onLinkTo p f).safe = L.safe := by unfold Lane.onLinkTo; (repeat' split) <;> rfl
@[simp] theorem Lane.onLinkTo_ds2 (L : Lane) (p : LaneId) (f : LinkView → LinkView) : (L.onLinkTo p f).ds2 = L.ds2 := by unfold Lane.onLinkTo; (repeat' split) <;> rfl
@[simp] theorem Lane.onLinkTo_sec (L : Lane) (p : LaneId) (f : LinkView → LinkView) : (L.onLinkTo p f).sec = L.sec := by unfold Lane.onLinkTo; (repeat' split) <;> rfl
@[simp] theorem Lane.onLinkTo_pwr (L : Lane) (p : LaneId) (f : LinkView → LinkView) : (L.onLinkTo p f).pwr = L.pwr := by unfold Lane.onLinkTo; (repeat' split) <;> rfl
@[simp] theorem Lane.onLinkTo_clk (L : Lane) (p : LaneId) (f : LinkView → LinkView) : (L.onLinkTo p f).clk = L.clk := by unfold Lane.onLinkTo; (repeat' split) <;> rfl
@[simp] theorem Lane.onLinkTo_therm (L : Lane) (p : LaneId) (f : LinkView → LinkView) : (L.onLinkTo p f).therm = L.therm := by unfold Lane.onLinkTo; (repeat' split) <;> rfl
@[simp] theorem Lane.onLinkTo_flog (L : Lane) (p : LaneId) (f : LinkView → LinkView) : (L.onLinkTo p f).flog = L.flog := by unfold Lane.onLinkTo; (repeat' split) <;> rfl
@[simp] theorem Lane.onLinkTo_kiln (L : Lane) (p : LaneId) (f : LinkView → LinkView) : (L.onLinkTo p f).kiln = L.kiln := by unfold Lane.onLinkTo; (repeat' split) <;> rfl
@[simp] theorem Lane.onLinkTo_mem (L : Lane) (p : LaneId) (f : LinkView → LinkView) : (L.onLinkTo p f).mem = L.mem := by unfold Lane.onLinkTo; (repeat' split) <;> rfl
@[simp] theorem Lane.onLinkTo_lpt (L : Lane) (p : LaneId) (f : LinkView → LinkView) : (L.onLinkTo p f).lpt = L.lpt := by unfold Lane.onLinkTo; (repeat' split) <;> rfl
@[simp] theorem Lane.onLinkTo_bridges (L : Lane) (p : LaneId) (f : LinkView → LinkView) : (L.onLinkTo p f).bridges = L.bridges := by unfold Lane.onLinkTo; (repeat' split) <;> rfl
@[simp] theorem Lane.onLinkTo_fes (L : Lane) (p : LaneId) (f : LinkView → LinkView) : (L.onLinkTo p f).fes = L.fes := by unfold Lane.onLinkTo; (repeat' split) <;> rfl
@[simp] theorem Lane.onLinkTo_gates (L : Lane) (p : LaneId) (f : LinkView → LinkView) : (L.onLinkTo p f).gates = L.gates := by unfold Lane.onLinkTo; (repeat' split) <;> rfl
@[simp] theorem Lane.lptDown_id (L : Lane) (k : Nat) : (L.lptDown k).id = L.id := by unfold Lane.lptDown; (repeat' split) <;> rfl
@[simp] theorem Lane.lptDown_dict (L : Lane) (k : Nat) : (L.lptDown k).dict = L.dict := by unfold Lane.lptDown; (repeat' split) <;> rfl
@[simp] theorem Lane.lptDown_vote (L : Lane) (k : Nat) : (L.lptDown k).vote = L.vote := by unfold Lane.lptDown; (repeat' split) <;> rfl
@[simp] theorem Lane.lptDown_links (L : Lane) (k : Nat) : (L.lptDown k).links = L.links := by unfold Lane.lptDown; (repeat' split) <;> rfl
@[simp] theorem Lane.lptDown_svc (L : Lane) (k : Nat) : (L.lptDown k).svc = L.svc := by unfold Lane.lptDown; (repeat' split) <;> rfl
@[simp] theorem Lane.lptDown_dc (L : Lane) (k : Nat) : (L.lptDown k).dc = L.dc := by unfold Lane.lptDown; (repeat' split) <;> rfl
@[simp] theorem Lane.lptDown_net (L : Lane) (k : Nat) : (L.lptDown k).net = L.net := by unfold Lane.lptDown; (repeat' split) <;> rfl
@[simp] theorem Lane.lptDown_tb (L : Lane) (k : Nat) : (L.lptDown k).tb = L.tb := by unfold Lane.lptDown; (repeat' split) <;> rfl
@[simp] theorem Lane.lptDown_upl (L : Lane) (k : Nat) : (L.lptDown k).upl = L.upl := by unfold Lane.lptDown; (repeat' split) <;> rfl
@[simp] theorem Lane.lptDown_tsq (L : Lane) (k : Nat) : (L.lptDown k).tsq = L.tsq := by unfold Lane.lptDown; (repeat' split) <;> rfl
@[simp] theorem Lane.lptDown_ta (L : Lane) (k : Nat) : (L.lptDown k).ta = L.ta := by unfold Lane.lptDown; (repeat' split) <;> rfl
@[simp] theorem Lane.lptDown_sleep (L : Lane) (k : Nat) : (L.lptDown k).sleep = L.sleep := by unfold Lane.lptDown; (repeat' split) <;> rfl
@[simp] theorem Lane.lptDown_ct (L : Lane) (k : Nat) : (L.lptDown k).ct = L.ct := by unfold Lane.lptDown; (repeat' split) <;> rfl
@[simp] theorem Lane.lptDown_sb (L : Lane) (k : Nat) : (L.lptDown k).sb = L.sb := by unfold Lane.lptDown; (repeat' split) <;> rfl
@[simp] theorem Lane.lptDown_safe (L : Lane) (k : Nat) : (L.lptDown k).safe = L.safe := by unfold Lane.lptDown; (repeat' split) <;> rfl
@[simp] theorem Lane.lptDown_ds2 (L : Lane) (k : Nat) : (L.lptDown k).ds2 = L.ds2 := by unfold Lane.lptDown; (repeat' split) <;> rfl
@[simp] theorem Lane.lptDown_sec (L : Lane) (k : Nat) : (L.lptDown k).sec = L.sec := by unfold Lane.lptDown; (repeat' split) <;> rfl
@[simp] theorem Lane.lptDown_pwr (L : Lane) (k : Nat) : (L.lptDown k).pwr = L.pwr := by unfold Lane.lptDown; (repeat' split) <;> rfl
@[simp] theorem Lane.lptDown_clk (L : Lane) (k : Nat) : (L.lptDown k).clk = L.clk := by unfold Lane.lptDown; (repeat' split) <;> rfl
@[simp] theorem Lane.lptDown_therm (L : Lane) (k : Nat) : (L.lptDown k).therm = L.therm := by unfold Lane.lptDown; (repeat' split) <;> rfl
@[simp] theorem Lane.lptDown_flog (L : Lane) (k : Nat) : (L.lptDown k).flog = L.flog := by unfold Lane.lptDown; (repeat' split) <;> rfl
@[simp] theorem Lane.lptDown_kiln (L : Lane) (k : Nat) : (L.lptDown k).kiln = L.kiln := by unfold Lane.lptDown; (repeat' split) <;> rfl
@[simp] theorem Lane.lptDown_mem (L : Lane) (k : Nat) : (L.lptDown k).mem = L.mem := by unfold Lane.lptDown; (repeat' split) <;> rfl
@[simp] theorem Lane.lptDown_bridges (L : Lane) (k : Nat) : (L.lptDown k).bridges = L.bridges := by unfold Lane.lptDown; (repeat' split) <;> rfl
@[simp] theorem Lane.lptDown_fes (L : Lane) (k : Nat) : (L.lptDown k).fes = L.fes := by unfold Lane.lptDown; (repeat' split) <;> rfl
@[simp] theorem Lane.lptDown_gates (L : Lane) (k : Nat) : (L.lptDown k).gates = L.gates := by unfold Lane.lptDown; (repeat' split) <;> rfl
@[simp] theorem Lane.setMode_id (L : Lane) (b : Fin 8) (m : Mode) : (L.setMode b m).id = L.id := by unfold Lane.setMode; rfl
@[simp] theorem Lane.setMode_dict (L : Lane) (b : Fin 8) (m : Mode) : (L.setMode b m).dict = L.dict := by unfold Lane.setMode; rfl
@[simp] theorem Lane.setMode_vote (L : Lane) (b : Fin 8) (m : Mode) : (L.setMode b m).vote = L.vote := by unfold Lane.setMode; rfl
@[simp] theorem Lane.setMode_links (L : Lane) (b : Fin 8) (m : Mode) : (L.setMode b m).links = L.links := by unfold Lane.setMode; rfl
@[simp] theorem Lane.setMode_svc (L : Lane) (b : Fin 8) (m : Mode) : (L.setMode b m).svc = L.svc := by unfold Lane.setMode; rfl
@[simp] theorem Lane.setMode_dc (L : Lane) (b : Fin 8) (m : Mode) : (L.setMode b m).dc = L.dc := by unfold Lane.setMode; rfl
@[simp] theorem Lane.setMode_net (L : Lane) (b : Fin 8) (m : Mode) : (L.setMode b m).net = L.net := by unfold Lane.setMode; rfl
@[simp] theorem Lane.setMode_tb (L : Lane) (b : Fin 8) (m : Mode) : (L.setMode b m).tb = L.tb := by unfold Lane.setMode; rfl
@[simp] theorem Lane.setMode_upl (L : Lane) (b : Fin 8) (m : Mode) : (L.setMode b m).upl = L.upl := by unfold Lane.setMode; rfl
@[simp] theorem Lane.setMode_tsq (L : Lane) (b : Fin 8) (m : Mode) : (L.setMode b m).tsq = L.tsq := by unfold Lane.setMode; rfl
@[simp] theorem Lane.setMode_ta (L : Lane) (b : Fin 8) (m : Mode) : (L.setMode b m).ta = L.ta := by unfold Lane.setMode; rfl
@[simp] theorem Lane.setMode_sleep (L : Lane) (b : Fin 8) (m : Mode) : (L.setMode b m).sleep = L.sleep := by unfold Lane.setMode; rfl
@[simp] theorem Lane.setMode_ct (L : Lane) (b : Fin 8) (m : Mode) : (L.setMode b m).ct = L.ct := by unfold Lane.setMode; rfl
@[simp] theorem Lane.setMode_sb (L : Lane) (b : Fin 8) (m : Mode) : (L.setMode b m).sb = L.sb := by unfold Lane.setMode; rfl
@[simp] theorem Lane.setMode_safe (L : Lane) (b : Fin 8) (m : Mode) : (L.setMode b m).safe = L.safe := by unfold Lane.setMode; rfl
@[simp] theorem Lane.setMode_ds2 (L : Lane) (b : Fin 8) (m : Mode) : (L.setMode b m).ds2 = L.ds2 := by unfold Lane.setMode; rfl
@[simp] theorem Lane.setMode_sec (L : Lane) (b : Fin 8) (m : Mode) : (L.setMode b m).sec = L.sec := by unfold Lane.setMode; rfl
@[simp] theorem Lane.setMode_pwr (L : Lane) (b : Fin 8) (m : Mode) : (L.setMode b m).pwr = L.pwr := by unfold Lane.setMode; rfl
@[simp] theorem Lane.setMode_clk (L : Lane) (b : Fin 8) (m : Mode) : (L.setMode b m).clk = L.clk := by unfold Lane.setMode; rfl
@[simp] theorem Lane.setMode_therm (L : Lane) (b : Fin 8) (m : Mode) : (L.setMode b m).therm = L.therm := by unfold Lane.setMode; rfl
@[simp] theorem Lane.setMode_flog (L : Lane) (b : Fin 8) (m : Mode) : (L.setMode b m).flog = L.flog := by unfold Lane.setMode; rfl
@[simp] theorem Lane.setMode_kiln (L : Lane) (b : Fin 8) (m : Mode) : (L.setMode b m).kiln = L.kiln := by unfold Lane.setMode; rfl
@[simp] theorem Lane.setMode_mem (L : Lane) (b : Fin 8) (m : Mode) : (L.setMode b m).mem = L.mem := by unfold Lane.setMode; rfl
@[simp] theorem Lane.setMode_lpt (L : Lane) (b : Fin 8) (m : Mode) : (L.setMode b m).lpt = L.lpt := by unfold Lane.setMode; rfl
@[simp] theorem Lane.setMode_fes (L : Lane) (b : Fin 8) (m : Mode) : (L.setMode b m).fes = L.fes := by unfold Lane.setMode; rfl
@[simp] theorem Lane.setPrecharge_id (L : Lane) (b : Fin 8) : (L.setPrecharge b).id = L.id := by unfold Lane.setPrecharge; rfl
@[simp] theorem Lane.setPrecharge_dict (L : Lane) (b : Fin 8) : (L.setPrecharge b).dict = L.dict := by unfold Lane.setPrecharge; rfl
@[simp] theorem Lane.setPrecharge_vote (L : Lane) (b : Fin 8) : (L.setPrecharge b).vote = L.vote := by unfold Lane.setPrecharge; rfl
@[simp] theorem Lane.setPrecharge_links (L : Lane) (b : Fin 8) : (L.setPrecharge b).links = L.links := by unfold Lane.setPrecharge; rfl
@[simp] theorem Lane.setPrecharge_svc (L : Lane) (b : Fin 8) : (L.setPrecharge b).svc = L.svc := by unfold Lane.setPrecharge; rfl
@[simp] theorem Lane.setPrecharge_dc (L : Lane) (b : Fin 8) : (L.setPrecharge b).dc = L.dc := by unfold Lane.setPrecharge; rfl
@[simp] theorem Lane.setPrecharge_net (L : Lane) (b : Fin 8) : (L.setPrecharge b).net = L.net := by unfold Lane.setPrecharge; rfl
@[simp] theorem Lane.setPrecharge_tb (L : Lane) (b : Fin 8) : (L.setPrecharge b).tb = L.tb := by unfold Lane.setPrecharge; rfl
@[simp] theorem Lane.setPrecharge_upl (L : Lane) (b : Fin 8) : (L.setPrecharge b).upl = L.upl := by unfold Lane.setPrecharge; rfl
@[simp] theorem Lane.setPrecharge_tsq (L : Lane) (b : Fin 8) : (L.setPrecharge b).tsq = L.tsq := by unfold Lane.setPrecharge; rfl
@[simp] theorem Lane.setPrecharge_ta (L : Lane) (b : Fin 8) : (L.setPrecharge b).ta = L.ta := by unfold Lane.setPrecharge; rfl
@[simp] theorem Lane.setPrecharge_sleep (L : Lane) (b : Fin 8) : (L.setPrecharge b).sleep = L.sleep := by unfold Lane.setPrecharge; rfl
@[simp] theorem Lane.setPrecharge_ct (L : Lane) (b : Fin 8) : (L.setPrecharge b).ct = L.ct := by unfold Lane.setPrecharge; rfl
@[simp] theorem Lane.setPrecharge_sb (L : Lane) (b : Fin 8) : (L.setPrecharge b).sb = L.sb := by unfold Lane.setPrecharge; rfl
@[simp] theorem Lane.setPrecharge_safe (L : Lane) (b : Fin 8) : (L.setPrecharge b).safe = L.safe := by unfold Lane.setPrecharge; rfl
@[simp] theorem Lane.setPrecharge_ds2 (L : Lane) (b : Fin 8) : (L.setPrecharge b).ds2 = L.ds2 := by unfold Lane.setPrecharge; rfl
@[simp] theorem Lane.setPrecharge_sec (L : Lane) (b : Fin 8) : (L.setPrecharge b).sec = L.sec := by unfold Lane.setPrecharge; rfl
@[simp] theorem Lane.setPrecharge_pwr (L : Lane) (b : Fin 8) : (L.setPrecharge b).pwr = L.pwr := by unfold Lane.setPrecharge; rfl
@[simp] theorem Lane.setPrecharge_clk (L : Lane) (b : Fin 8) : (L.setPrecharge b).clk = L.clk := by unfold Lane.setPrecharge; rfl
@[simp] theorem Lane.setPrecharge_therm (L : Lane) (b : Fin 8) : (L.setPrecharge b).therm = L.therm := by unfold Lane.setPrecharge; rfl
@[simp] theorem Lane.setPrecharge_flog (L : Lane) (b : Fin 8) : (L.setPrecharge b).flog = L.flog := by unfold Lane.setPrecharge; rfl
@[simp] theorem Lane.setPrecharge_kiln (L : Lane) (b : Fin 8) : (L.setPrecharge b).kiln = L.kiln := by unfold Lane.setPrecharge; rfl
@[simp] theorem Lane.setPrecharge_mem (L : Lane) (b : Fin 8) : (L.setPrecharge b).mem = L.mem := by unfold Lane.setPrecharge; rfl
@[simp] theorem Lane.setPrecharge_lpt (L : Lane) (b : Fin 8) : (L.setPrecharge b).lpt = L.lpt := by unfold Lane.setPrecharge; rfl
@[simp] theorem Lane.setPrecharge_bridges (L : Lane) (b : Fin 8) : (L.setPrecharge b).bridges = L.bridges := by unfold Lane.setPrecharge; rfl
@[simp] theorem Lane.setPrecharge_fes (L : Lane) (b : Fin 8) : (L.setPrecharge b).fes = L.fes := by unfold Lane.setPrecharge; rfl
@[simp] theorem Lane.countOnly_id (L : Lane) (c : Nat) : (L.countOnly c).id = L.id := by unfold Lane.countOnly; rfl
@[simp] theorem Lane.countOnly_dict (L : Lane) (c : Nat) : (L.countOnly c).dict = L.dict := by unfold Lane.countOnly; rfl
@[simp] theorem Lane.countOnly_vote (L : Lane) (c : Nat) : (L.countOnly c).vote = L.vote := by unfold Lane.countOnly; rfl
@[simp] theorem Lane.countOnly_links (L : Lane) (c : Nat) : (L.countOnly c).links = L.links := by unfold Lane.countOnly; rfl
@[simp] theorem Lane.countOnly_svc (L : Lane) (c : Nat) : (L.countOnly c).svc = L.svc := by unfold Lane.countOnly; rfl
@[simp] theorem Lane.countOnly_dc (L : Lane) (c : Nat) : (L.countOnly c).dc = L.dc := by unfold Lane.countOnly; rfl
@[simp] theorem Lane.countOnly_net (L : Lane) (c : Nat) : (L.countOnly c).net = L.net := by unfold Lane.countOnly; rfl
@[simp] theorem Lane.countOnly_tb (L : Lane) (c : Nat) : (L.countOnly c).tb = L.tb := by unfold Lane.countOnly; rfl
@[simp] theorem Lane.countOnly_upl (L : Lane) (c : Nat) : (L.countOnly c).upl = L.upl := by unfold Lane.countOnly; rfl
@[simp] theorem Lane.countOnly_tsq (L : Lane) (c : Nat) : (L.countOnly c).tsq = L.tsq := by unfold Lane.countOnly; rfl
@[simp] theorem Lane.countOnly_ta (L : Lane) (c : Nat) : (L.countOnly c).ta = L.ta := by unfold Lane.countOnly; rfl
@[simp] theorem Lane.countOnly_sleep (L : Lane) (c : Nat) : (L.countOnly c).sleep = L.sleep := by unfold Lane.countOnly; rfl
@[simp] theorem Lane.countOnly_ct (L : Lane) (c : Nat) : (L.countOnly c).ct = L.ct := by unfold Lane.countOnly; rfl
@[simp] theorem Lane.countOnly_sb (L : Lane) (c : Nat) : (L.countOnly c).sb = L.sb := by unfold Lane.countOnly; rfl
@[simp] theorem Lane.countOnly_safe (L : Lane) (c : Nat) : (L.countOnly c).safe = L.safe := by unfold Lane.countOnly; rfl
@[simp] theorem Lane.countOnly_ds2 (L : Lane) (c : Nat) : (L.countOnly c).ds2 = L.ds2 := by unfold Lane.countOnly; rfl
@[simp] theorem Lane.countOnly_sec (L : Lane) (c : Nat) : (L.countOnly c).sec = L.sec := by unfold Lane.countOnly; rfl
@[simp] theorem Lane.countOnly_pwr (L : Lane) (c : Nat) : (L.countOnly c).pwr = L.pwr := by unfold Lane.countOnly; rfl
@[simp] theorem Lane.countOnly_clk (L : Lane) (c : Nat) : (L.countOnly c).clk = L.clk := by unfold Lane.countOnly; rfl
@[simp] theorem Lane.countOnly_therm (L : Lane) (c : Nat) : (L.countOnly c).therm = L.therm := by unfold Lane.countOnly; rfl
@[simp] theorem Lane.countOnly_kiln (L : Lane) (c : Nat) : (L.countOnly c).kiln = L.kiln := by unfold Lane.countOnly; rfl
@[simp] theorem Lane.countOnly_mem (L : Lane) (c : Nat) : (L.countOnly c).mem = L.mem := by unfold Lane.countOnly; rfl
@[simp] theorem Lane.countOnly_lpt (L : Lane) (c : Nat) : (L.countOnly c).lpt = L.lpt := by unfold Lane.countOnly; rfl
@[simp] theorem Lane.countOnly_bridges (L : Lane) (c : Nat) : (L.countOnly c).bridges = L.bridges := by unfold Lane.countOnly; rfl
@[simp] theorem Lane.countOnly_fes (L : Lane) (c : Nat) : (L.countOnly c).fes = L.fes := by unfold Lane.countOnly; rfl
@[simp] theorem Lane.countOnly_gates (L : Lane) (c : Nat) : (L.countOnly c).gates = L.gates := by unfold Lane.countOnly; rfl

@[simp] theorem Lane.toPoint_ns (L : Lane) (us : Nat) : (L.toPoint us).tb.ns = max L.tb.ns (L.vote.startNs + us * 1000) := by
  unfold Lane.toPoint Lane.advance
  split
  · simp; omega
  · simp; omega

end Sys2Proof.Machine
end

