-- ==== Sys2Proof/Laws/Store.lean ====
section
/-! SUPPORT. Reading and writing a store: what a write gives back, what it leaves, and that every operation keeps
the canonical form (keys rising, no entry at its default). -/

set_option Elab.async false

namespace Sys2Proof.Machine

/-! ### Read after write -/

@[simp] theorem storeGet_erase_same (s : Store) (k d : Nat) : storeGet (storeErase s k) k d = d := by
  induction s with
  | nil => rfl
  | cons p t ih =>
    by_cases h : p.1 = k
    · simpa [storeErase, h] using ih
    · simpa [storeErase, h, storeGet] using ih

theorem storeGet_erase_ne (s : Store) {k j : Nat} (d : Nat) (h : j ≠ k) :
    storeGet (storeErase s k) j d = storeGet s j d := by
  induction s with
  | nil => rfl
  | cons p t ih =>
    by_cases hp : p.1 = k
    · simpa [storeErase, hp, storeGet, Ne.symm h] using ih
    · simp only [storeErase] at ih ⊢
      simp [hp, storeGet, ih]

@[simp] theorem storeGet_ins_same (s : Store) (k v d : Nat) : storeGet (storeIns s k v) k d = v := by
  induction s with
  | nil => simp [storeIns, storeGet]
  | cons p t ih =>
    simp only [storeIns]
    split
    · simp [storeGet]
    · split
      · simp [storeGet]
      · rename_i h
        simp [storeGet, Ne.symm h, ih]

theorem storeGet_ins_ne (s : Store) {k j : Nat} (v d : Nat) (h : j ≠ k) :
    storeGet (storeIns s k v) j d = storeGet s j d := by
  induction s with
  | nil => simp [storeIns, storeGet, Ne.symm h]
  | cons p t ih =>
    simp only [storeIns]
    split
    · simp [storeGet, Ne.symm h]
    · split
      · rename_i e
        simp [storeGet, Ne.symm h, ← e]
      · simp [storeGet, ih]

@[simp] theorem storeGet_put_same (s : Store) (k v d : Nat) : storeGet (storePut s k v d) k d = v := by
  unfold storePut
  split
  · simp_all
  · simp

theorem storeGet_put_ne (s : Store) {k j : Nat} (v d e : Nat) (h : j ≠ k) :
    storeGet (storePut s k v e) j d = storeGet s j d := by
  unfold storePut
  split
  · exact storeGet_erase_ne s d h
  · exact storeGet_ins_ne s v d h

/-! ### The canonical form -/

/-- A store is sorted exactly when its keys rise pairwise. -/
theorem storeSorted_iff (s : Store) : storeSorted s = true ↔ s.Pairwise (fun a b => a.1 < b.1) := by
  induction s with
  | nil => simp [storeSorted]
  | cons a t ih =>
    cases t with
    | nil => simp [storeSorted]
    | cons b u =>
      rw [storeSorted, Bool.and_eq_true, decide_eq_true_iff, ih]
      constructor
      · rintro ⟨hab, hp⟩
        refine List.pairwise_cons.mpr ⟨fun c hc => ?_, hp⟩
        rcases List.mem_cons.mp hc with rfl | hc
        · exact hab
        · exact lt_trans hab ((List.pairwise_cons.mp hp).1 c hc)
      · intro hp
        exact ⟨(List.pairwise_cons.mp hp).1 b (List.mem_cons_self ..), (List.pairwise_cons.mp hp).2⟩

theorem storeErase_sorted {s : Store} (k : Nat) (h : storeSorted s = true) : storeSorted (storeErase s k) = true :=
  (storeSorted_iff _).mpr (((storeSorted_iff s).mp h).filter _)

/-- What a store with a value placed holds. -/
theorem mem_storeIns {s : Store} {k v : Nat} {q : Nat × Nat} (h : q ∈ storeIns s k v) : q = (k, v) ∨ q ∈ s := by
  induction s with
  | nil => simp only [storeIns, List.mem_singleton] at h; exact .inl h
  | cons p t ih =>
    simp only [storeIns] at h
    split at h
    · rcases List.mem_cons.mp h with h | h
      · exact .inl h
      · exact .inr h
    · split at h
      · rcases List.mem_cons.mp h with h | h
        · exact .inl h
        · exact .inr (List.mem_cons_of_mem _ h)
      · rcases List.mem_cons.mp h with h | h
        · exact .inr (h ▸ List.mem_cons_self ..)
        · rcases ih h with h | h
          · exact .inl h
          · exact .inr (List.mem_cons_of_mem _ h)

theorem storeIns_sorted {s : Store} (k v : Nat) (h : storeSorted s = true) : storeSorted (storeIns s k v) = true := by
  rw [storeSorted_iff] at h ⊢
  induction s with
  | nil => simp [storeIns]
  | cons p t ih =>
    obtain ⟨hp, ht⟩ := List.pairwise_cons.mp h
    simp only [storeIns]
    split
    · rename_i hk
      refine List.pairwise_cons.mpr ⟨fun c hc => ?_, h⟩
      rcases List.mem_cons.mp hc with rfl | hc
      · exact hk
      · exact lt_trans hk (hp c hc)
    · split
      · rename_i e
        exact List.pairwise_cons.mpr ⟨fun c hc => by rw [e]; exact hp c hc, ht⟩
      · rename_i h1 h2
        refine List.pairwise_cons.mpr ⟨fun c hc => ?_, ih ht⟩
        rcases mem_storeIns hc with rfl | hc
        · exact lt_of_le_of_ne (not_lt.mp h1) (Ne.symm h2)
        · exact hp c hc

theorem storePut_sorted {s : Store} (k v d : Nat) (h : storeSorted s = true) : storeSorted (storePut s k v d) = true := by
  unfold storePut
  split
  · exact storeErase_sorted k h
  · exact storeIns_sorted k v h

theorem storePut_lean {s : Store} (d : Nat → Nat) (k v : Nat) (h : storeLean d s = true) :
    storeLean d (storePut s k v (d k)) = true := by
  unfold storeLean at h ⊢
  rw [List.all_eq_true] at h ⊢
  intro q hq
  unfold storePut at hq
  split at hq
  · exact h q (List.mem_of_mem_filter hq)
  · rename_i hv
    rcases mem_storeIns hq with rfl | hq
    · simpa using hv
    · exact h q hq

theorem storeBump_sorted {s : Store} (k n : Nat) (h : storeSorted s = true) : storeSorted (storeBump s k n) = true :=
  storePut_sorted k _ 0 h

/-! ### Settings -/

@[simp] theorem Lane.obj_setObj_same (L : Lane) (idx sub raw : Nat) : (L.setObj idx sub raw).obj idx sub = raw :=
  storeGet_put_same _ _ _ _

theorem Lane.obj_setObj_ne (L : Lane) {idx sub i j : Nat} (raw : Nat) (h : okey i j ≠ okey idx sub) :
    (L.setObj idx sub raw).obj i j = L.obj i j :=
  storeGet_put_ne _ _ _ _ h

end Sys2Proof.Machine
end

