-- ==== Sys2Proof/Machine/Package.lean ====
section
/-! DEFINITION. The ball grid: areas, lane-relative coordinates and the assignment of the balls
(18_balls_electrical_package.md R504-R506). No command reads it. -/

namespace Sys2Proof.Machine

/-- What a position of the grid belongs to (Table 18.1). -/
inductive GridArea where
  | region (l : LaneId)
  | bandAB
  | bandBC
  deriving DecidableEq, Repr

/-- A ball of one lane (Table 18.2); of a pair the flag names the negative ball, of two channels or
outputs the second. -/
inductive Ball where
  | vin | swgd | vgd | vaon | gnd
  | gateHigh (b : Nat) (p : Phase)
  | gateLow (b : Nat) (p : Phase)
  | switchNode (b : Nat) (p : Phase)
  | bootstrap (b : Nat) (p : Phase)
  | shunt (b : Nat) (neg : Bool)
  | xin | xout | wake | nrst | srst | nflt | safe | tck | tms | tdi | tdo
  | safeIn (n : Nat) (second : Bool)
  | testPulse (second : Bool)
  | sealPin (second : Bool)
  | setPin (n : Nat)
  | chkPin (n : Nat)
  | exc (b : Nat) (neg : Bool)
  | sine (b : Nat) (neg : Bool)
  | cosine (b : Nat) (neg : Bool)
  | branch (ch : Chan) (port : Nat) (neg : Bool)
  | cascade (ch : Chan) (neg : Bool)
  | uplink (neg : Bool)
  | sbtx | sbrx | sbstb
  | vdc
  | chopSense (neg : Bool)
  | chopGate
  deriving DecidableEq, Repr

/-- Half of the row, rounded up: h(r) (R504). -/
def halfRow (r : Nat) : Nat := (r + 1) / 2

/-- Rows 20-22, where the second band is two positions wide (Table 18.1). -/
def midRow (r : Nat) : Bool := decide (20 ≤ r) && decide (r ≤ 22)

/-- The area of a position, row and column 1 to 41 (Table 18.1). -/
def areaOf (r c : Nat) : GridArea :=
  let h := halfRow r
  if c ≤ 2 + h then .region .A
  else if c = 3 + h then .bandAB
  else if c ≤ 16 + h then .region .B
  else if c = 17 + h ∨ (midRow r = true ∧ c = 18 + h) then .bandBC
  else .region .C

/-- Positions of row `r` in the region of a lane (Table 18.1). -/
def regionWidth (l : LaneId) (r : Nat) : Nat :=
  match l with
  | .A => 2 + halfRow r
  | .B => 13
  | .C => (if midRow r then 23 else 24) - halfRow r

/-- The column of lane-relative position `k` of row `r` (R505). -/
def columnOf (l : LaneId) (r k : Nat) : Nat :=
  match l with
  | .A => k
  | .B => 3 + halfRow r + k
  | .C => 42 - k

/-- The balls a row lists from its first column on, and that column (Table 18.2). -/
def rowBalls (r : Nat) : List (Nat × List Ball) :=
  let supply := if r ≤ 2 then [(1, List.replicate 3 Ball.vin)]
    else if r ≤ 4 then [(1, List.replicate 4 Ball.vin)]
    else if r ≤ 6 then [(1, List.replicate 5 Ball.vin)]
    else if r = 7 then [(1, List.replicate 6 Ball.swgd)]
    else if r = 8 then [(1, List.replicate 6 Ball.vgd)]
    else []
  let bridge := if 9 ≤ r ∧ r ≤ 24 then
      let b := (r - 9) / 2
      if r % 2 = 1 then
        [(1, [Ball.gateHigh b .U, .switchNode b .U, .bootstrap b .U, .gateHigh b .V, .switchNode b .V, .bootstrap b .V,
          .shunt b false])]
      else
        [(1, [Ball.gateHigh b .W, .switchNode b .W, .bootstrap b .W, .gateLow b .U, .gateLow b .V, .gateLow b .W,
          .shunt b true])]
    else []
  let logic := match r with
    | 15 => [(8, [Ball.xin, .xout, .vaon])]
    | 16 => [(8, [Ball.wake, .nrst, .srst])]
    | 17 => [(8, [Ball.nflt, .safe, .tck])]
    | 18 => [(8, [Ball.tms, .tdi, .tdo])]
    | 19 => [(8, [Ball.safeIn 0 false, .safeIn 0 true, .safeIn 1 false, .safeIn 1 true, .testPulse false])]
    | 20 => [(8, [Ball.safeIn 2 false, .safeIn 2 true, .safeIn 3 false, .safeIn 3 true, .testPulse true])]
    | 21 => [(8, [Ball.safeIn 4 false, .safeIn 4 true, .safeIn 5 false, .safeIn 5 true, .sealPin false])]
    | 22 => [(8, [Ball.safeIn 6 false, .safeIn 6 true, .safeIn 7 false, .safeIn 7 true, .sealPin true])]
    | 23 => [(8, [Ball.setPin 0, .setPin 1, .chkPin 0, .chkPin 1, .chkPin 2])]
    | 24 => [(8, [Ball.chkPin 3, .chkPin 4, .chkPin 5, .chkPin 6, .chkPin 7])]
    | 33 => [(1, [Ball.branch .X 0 false, .branch .X 0 true, .branch .X 1 false, .branch .X 1 true,
        .branch .X 2 false, .branch .X 2 true])]
    | 34 => [(1, [Ball.branch .X 3 false, .branch .X 3 true, .branch .X 4 false, .branch .X 4 true,
        .cascade .X false, .cascade .X true])]
    | 35 => [(1, [Ball.branch .Y 0 false, .branch .Y 0 true, .branch .Y 1 false, .branch .Y 1 true,
        .branch .Y 2 false, .branch .Y 2 true])]
    | 36 => [(1, [Ball.branch .Y 3 false, .branch .Y 3 true, .branch .Y 4 false, .branch .Y 4 true,
        .cascade .Y false, .cascade .Y true])]
    | 37 => [(1, [Ball.uplink false, .uplink true, .sbtx, .sbrx, .sbstb])]
    | 38 => [(1, [Ball.vdc, .chopSense false, .chopSense true, .chopGate])]
    | _ => []
  let sense := if 25 ≤ r ∧ r ≤ 32 then
      let b := r - 25
      [(1, [Ball.exc b false, .exc b true, .sine b false, .sine b true, .cosine b false, .cosine b true])]
    else []
  supply ++ bridge ++ logic ++ sense

/-- The ball at a lane-relative position, ground where Table 18.2 assigns none (R505, R506). -/
def laneBall (r k : Nat) : Ball :=
  ((rowBalls r).findSome? fun p => if p.1 ≤ k then p.2[k - p.1]? else none).getD .gnd

/-- The lane-relative position of a column of row `r` in a lane's region (R505). -/
def positionIn (l : LaneId) (r c : Nat) : Nat :=
  match l with
  | .A => c
  | .B => c - 3 - halfRow r
  | .C => 42 - c

/-- The lane and the ball at a grid position; none in a band, which is depopulated (R504-R506). -/
def ballAt (r c : Nat) : Option (LaneId × Ball) :=
  match areaOf r c with
  | .region l => some (l, laneBall r (positionIn l r c))
  | _ => none

/-- Positions of an area in one row. -/
def areaCount (a : GridArea) (r : Nat) : Nat :=
  ((List.range 41).filter fun c => areaOf r (c + 1) == a).length

/-- Balls of a lane in one row that pass a test. -/
def ballCount (l : LaneId) (f : Ball → Bool) (r : Nat) : Nat :=
  ((List.range (regionWidth l r)).filter fun k => f (laneBall r (k + 1))).length

/-- A count over the 41 rows. -/
def overRows (f : Nat → Nat) : Nat := (List.range 41).foldl (fun n r => n + f (r + 1)) 0

end Sys2Proof.Machine
end

