-- ==== Sys2Proof/Tests/Slice0.lean ====
section
/-! SUPPORT. Tests: for each statement with hypotheses a state and operands that meet them, clause by clause; a
command out of its ranges for each check of WellFormed; a few small steps with results from the spec. -/

set_option Elab.async false

namespace Sys2Proof.Tests

open Sys2Proof Sys2Proof.Machine

/-! ### Small states -/

/-- A lane at work: supplied, past its restore steps, in RUN as a SHADOW of a running vote cycle. -/
def up (L : Lane) : Lane :=
  { L with
    pwr := { L.pwr with state := .run, step := 9, vgdOn := true, stopLine := false }
    vote := { L.vote with role := .shadow, running := true, clean := 10000 } }

/-- The module after reset with lane A changed. -/
def rA (f : Lane → Lane) : State := State.reset.on .A f

/-- The module with lane A at work and changed. -/
def sA (f : Lane → Lane) : State := State.reset.on .A fun L => f (up L)

/-- The module with every lane at work. -/
def sUp : State := State.reset.onAll up

/-- A lane with a setting changed. -/
def obj (idx sub raw : Nat) (L : Lane) : Lane := L.setObj idx sub raw

/-- A lane whose actuator 1 is driven by its bridge 1 with a duty. -/
def map1 (duty : Nat) (L : Lane) : Lane :=
  obj 0x2900 5 1 (obj 0x2900 4 1 (obj 0x2900 3 1 (obj 0x2900 2 3 (obj 0x2900 1 duty L))))

/-- A lane with its seal read open. -/
def unsealed (L : Lane) : Lane := { L with safe := { L.safe with sealOpen := true } }

/-! ### Vote cycle -/

theorem wit_VoteCycleStart :
    ((sUp.lane .A).runs = true ∧ (sUp.lane .A).pwr.waitShadow = false ∧ (sUp.lane .A).dict.known = []) ∧
    (State.reset.lane .A).runs = false := by decide +kernel

/-- The module with every lane at work and lane A due a role. -/
def dueState (r : Role) : State :=
  sUp.on .A fun L => { L with vote := { L.vote with roleDue := some r } }

theorem wit_PromotionAndTakeback_due (r : Role) :
    (∀ p, ((dueState r).lane p).pwr.waitShadow = false ∧ ((dueState r).lane p).dict.known = []) ∧
    (∀ p, p ≠ .A → ((dueState r).lane p).vote.roleDue = none) ∧ ((dueState r).lane .A).vote.roleDue = some r := by
  refine ⟨fun p => ?_, fun p h => ?_, ?_⟩
  · cases p <;> exact ⟨rfl, rfl⟩
  · cases p <;> first | rfl | exact absurd rfl h
  · rfl

/-- Lane A a shadow beside lane B, the lead. -/
def besideLead : State :=
  sUp.on .B fun L => { L with vote := { L.vote with role := .lead } }

theorem wit_PromotionAndTakeback_promote :
    (besideLead.lane .A).alive = true ∧ (besideLead.lane .A).vote.role = .shadow ∧
    (besideLead.lane .A).pwr.state = .run ∧ besideLead.anyDrives = true ∧
    (besideLead.lane .A).vote.passive = false ∧
    (besideLead.lane .A).obj 0x2600 8 ≤ (besideLead.lane .A).vote.clean.toNat := by decide +kernel

/-- Lane A a follower whose ramp has ended. -/
def followA : State := sA fun L => { L with vote := { L.vote with role := .follower } }

theorem wit_PromotionAndTakeback_takeback :
    (followA.lane .A).alive = true ∧ (followA.lane .A).vote.role = .follower ∧
    (followA.lane .A).obj 0x2600 7 = LaneId.A.num ∧ (followA.lane .A).rampDone = true ∧
    (followA.lane .A).vote.split = false := by decide +kernel

/-- Lane A waiting for SHADOW in a vote cycle it runs. -/
def waitingA : State :=
  sA fun L => { L with vote := { L.vote with role := .out }, pwr := { L.pwr with waitShadow := true } }

theorem wit_InputCloseAndAgreement :
    (((State.reset.lane .A).runs && (State.reset.lane .A).vote.running) = false) ∧
    (((sUp.lane .A).runs && (sUp.lane .A).vote.running) = true ∧ (sUp.lane .A).sends = true) ∧
    (((waitingA.lane .A).runs && (waitingA.lane .A).vote.running) = true ∧ (waitingA.lane .A).sends = false) ∧
    (((waitingA.lane .A).runs && (waitingA.lane .A).vote.running && !(waitingA.lane .A).vote.agreedNow) = true ∧
      (waitingA.lane .A).voting = false) := by decide +kernel

/-- Lane B has a set of cycle `k` for lane A. -/
def setFromB (k : W32) : State :=
  sUp.on .B fun L => { L with vote := { L.vote with inset := some { sender := .B, cycle := k }, outSet := some {} } }

/-- Lane A's link to lane B out of use. -/
def cutAB (s : State) : State := s.on .A fun L => L.onLinkTo .B fun v => { v with inUse := false }

/-- Lane A tests its link to lane B. -/
def testAB (s : State) : State :=
  s.on .A fun L => { L with lpt := { L.lpt with running := true, test := 17, lock := true } }

/-- Lane A at a time of its vote cycle. -/
def atNs (s : State) (ns : Nat) : State := s.on .A fun L => { L with tb := { L.tb with ns := ns } }

theorem wit_SetsReceived_input :
    (((setFromB 0).lane .B).vote.inset = some { sender := .B, cycle := 0 } ∧ LinkId.between .A .B = some .AB ∧
      ((setFromB 0).lane .A).runs = true ∧ ((setFromB 0).lane .A).vote.running = true ∧
      ((setFromB 0).lane .A).vote.agreedNow = false ∧
      ((setFromB 0).lane .A).tb.ns ≤ ((setFromB 0).lane .A).vote.startNs + (((setFromB 0).lane .A).tClose + 50) * 1000 ∧
      (setFromB 0).linkTested .AB = false ∧ (0 : W32) = ((setFromB 0).lane .A).vote.cycle ∧
      (1 : W32) ≠ ((setFromB 1).lane .A).vote.cycle ∧ (setFromB 0).usesLink .A .B = true ∧
      (setFromB 0).relayPath .A .B = true) ∧
    ((cutAB (setFromB 0)).usesLink .A .B = false ∧ (cutAB (setFromB 0)).linkTested .AB = false) ∧
    ((sUp.lane .B).vote.inset = none ∧ (testAB (setFromB 0)).linkTested .AB = true ∧
      ((atNs (setFromB 0) (10 ^ 9)).lane .A).vote.startNs + (((atNs (setFromB 0) (10 ^ 9)).lane .A).tClose + 50) * 1000 <
        ((atNs (setFromB 0) (10 ^ 9)).lane .A).tb.ns) := by
  decide +kernel

theorem wit_SetsReceived_output (direct : Bool) :
    (((setFromB 0).lane .B).vote.outSet = some {} ∧ ((setFromB 0).lane .A).alive = true ∧
      ((setFromB 0).lane .A).voting = true ∧ ((setFromB 0).lane .A).vote.running = true ∧
      (setFromB 0).path .A .B direct = true ∧ (setFromB 0).usesLink .A .B = true ∧
      ((setFromB 0).lane .A).tb.ns < ((setFromB 0).lane .A).vote.startNs + ((setFromB 0).lane .A).tComp * 1000) ∧
    ((cutAB (setFromB 0)).path .A .B true = true ∧ (cutAB (setFromB 0)).usesLink .A .B = false) ∧
    ((sUp.lane .B).vote.outSet = none ∧
      ((atNs (setFromB 0) (10 ^ 9)).lane .A).vote.startNs + ((atNs (setFromB 0) (10 ^ 9)).lane .A).tComp * 1000 ≤
        ((atNs (setFromB 0) (10 ^ 9)).lane .A).tb.ns) := by
  cases direct <;> decide +kernel

theorem wit_SelectionOfInputs :
    (agreeSequenced {} [{ valid := true, seq := 1, val := 7 }, { valid := true, seq := 1, val := 7 }]).1.isNew = true ∧
    (agreeSequenced { seen := true, seq := 1 } [{ valid := true, seq := 2, val := 7 }]).1.isNew = true ∧
    (agreeSequenced {} []).1.isNew = false := by decide +kernel

/-- Lane A after `k` of its service tasks, with a wheel speed agreed. -/
def taskState (k : Nat) : State := sA fun L =>
  obj 0x4108 1 0x29 { L with
    vote := { L.vote with agreedNow := true, tasks := k, agreed := [{ num := 0x29, valid := true }] }
    svc := { L.svc with vref := some 0, ageWheel := [0] } }

theorem wit_ServiceTasks :
    ((taskState 0).lane .A).alive = true ∧ ((taskState 0).lane .A).voting = true ∧
    ((taskState 0).lane .A).vote.agreedNow = true ∧ 1 = ((taskState 0).lane .A).vote.tasks + 1 ∧
    4 = ((taskState 3).lane .A).vote.tasks + 1 ∧ ((taskState 3).lane .A).vMax.isSome = true ∧
    ((taskState 3).lane .A).svc.vref = some 0 ∧ 9 = ((taskState 8).lane .A).vote.tasks + 1 ∧
    ((taskState 8).lane .A).windowEnd 9 < 100000 ∧ ((taskState 0).lane .A).windowEnd 1 < 100000 := by decide +kernel

/-- Lane A with its input set sent and, or not, an output set frozen. -/
def deadState (x : Option OutSet) : State :=
  sA fun L => { L with vote := { L.vote with inset := some {}, outSet := x, missRun := 1 } }

theorem wit_ComputeDeadline (x : Option OutSet) :
    (((State.reset.lane .A).alive && (State.reset.lane .A).voting && (State.reset.lane .A).vote.running &&
      (State.reset.lane .A).vote.inset.isSome) = false) ∧
    ((((deadState x).lane .A).alive && ((deadState x).lane .A).voting && ((deadState x).lane .A).vote.running &&
      ((deadState x).lane .A).vote.inset.isSome) = true ∧ ((deadState x).lane .A).vote.outSet = x ∧
      1 ≤ ((deadState x).lane .A).vote.missRun) := by
  exact ⟨by decide +kernel, rfl, rfl, Nat.le_refl 1⟩

theorem wit_CompareOutvotes :
    compareSets 3 [(.A, {}), (.B, {}), (.C, { status := 1 })] none (fun _ => false) = .agreed {} (some .C) false ∧
    compareSets 2 [(.A, {}), (.B, {})] none (fun _ => false) = .agreed {} none false ∧
    ([(LaneId.A, ({} : OutSet)), (.B, {}), (.C, { status := 1 })].map Prod.fst).Nodup ∧
    (∀ x ∈ [(LaneId.A, ({} : OutSet)), (.B, {})], sameOut {} x.2 = true) := by decide +kernel

/-- Lane A in a role that saw itself and lane B drive, with the sets it took. -/
def sawSets (r : Role) (own : OutSet) : State :=
  besideLead.on .A fun L => map1 2 { L with vote := { L.vote with
    role := r, drivers := ⟨r.drives, true, false⟩
    offered := if r.drives then ⟨some own, some {}, none⟩ else ⟨none, some {}, none⟩ } }

/-- Lane A as it decides on the sets it took. -/
def decides (s : State) : Lane :=
  { (s.lane .A) with vote := { (s.lane .A).vote with
    selfFlag := false, selfFlags := (s.lane .A).vote.selfFlags.set .A false } }

/-- Three drivers, whose sets but lane A's agree. -/
def outvoted : State :=
  (sUp.onAll fun L => { L with vote := { L.vote with role := if L.id = .B then .lead else .follower } }).on .A fun L =>
    { L with vote := { L.vote with
      drivers := ⟨true, true, true⟩, offered := ⟨some { status := 1 }, some {}, some {}⟩ } }

theorem wit_CompareAndApply_compare :
    ((State.reset.lane .A).vote.running = false ∧ (State.reset.lane .A).vote.role.drives = false) ∧
    (((sawSets .shadow {}).lane .A).alive = true ∧ ((sawSets .shadow {}).lane .A).vote.role = .shadow ∧
      ((sawSets .shadow {}).lane .A).voting = true ∧
      ((sawSets .shadow {}).lane .A).vote.running = true ∧ ((sawSets .shadow {}).lane .A).vote.missOut = false ∧
      ((sawSets .shadow {}).lane .A).compareDrivers (sawSets .shadow {}) ≠ [] ∧
      Lane.decide_ (decides (sawSets .shadow {})) (sawSets .shadow {})
        (((sawSets .shadow {}).lane .A).compareDrivers (sawSets .shadow {})) = .agreed {} none false) ∧
    (((sawSets .follower {}).lane .A).vote.role.drives = true ∧ ((sawSets .follower {}).lane .A).vote.split = false ∧
      Lane.decide_ (decides (sawSets .follower {})) (sawSets .follower {})
        (((sawSets .follower {}).lane .A).compareDrivers (sawSets .follower {})) = .agreed {} none false ∧
      max ((sawSets .follower {}).lane .A).tb.ns
          (((sawSets .follower {}).lane .A).vote.startNs + ((sawSets .follower {}).lane .A).tComp * 1000) ≤
        ((sawSets .follower {}).lane .A).vote.startNs + ((sawSets .follower {}).lane .A).tApply * 1000 - 10000 ∧
      ((sawSets .follower {}).lane .A).ta.freeSlot 88 8 = some 88 ∧
      ((sawSets .follower {}).lane .A).actOf 1 = some 1) ∧
    ((outvoted.lane .A).alive = true ∧ (outvoted.lane .A).vote.outNow = false ∧
      Lane.decide_ (decides outvoted) outvoted ((outvoted.lane .A).compareDrivers outvoted) =
        .agreed {} (some (outvoted.lane .A).id) false) := by
  decide +kernel

/-- Lane A whose stop line is, or is not, due to release at tAPPLY. -/
def applyA (due : Bool) : State := sA fun L => { L with vote := { L.vote with relAtApply := due } }

/-- Lane A with one apply action queued and a setpoint pending at its bridge 1. -/
def queuedA : State := sA fun L => (L.onBr 1 fun b => { b with spPending := some 3 }) |> fun M =>
  { M with ta := { M.ta with entries := [{ slot := 88, kind := 0, owner := none, dueNs := 0 }] } }

theorem wit_CompareAndApply_apply (due : Bool) :
    ((State.reset.lane .A).alive = false ∧ (State.reset.lane .A).vote.running = false) ∧
    (((applyA due).lane .A).alive = true ∧ ((applyA due).lane .A).vote.running = true ∧
      ((applyA due).lane .A).ta.entries = [] ∧ ((applyA due).lane .A).vote.relAtApply = due ∧
      ((applyA due).lane .A).pwr.exitPassive = false ∧ ((applyA due).lane .A).vote.role.drives = false) ∧
    ((queuedA.lane .A).alive = true ∧ (queuedA.lane .A).vote.running = true ∧
      (queuedA.lane .A).ta.entries = [{ slot := 88, kind := 0, owner := none, dueNs := 0 }] ∧
      ((queuedA.lane .A).bridges.get 1).spPending = some 3) :=
  ⟨⟨by decide +kernel, rfl⟩, ⟨rfl, rfl, rfl, rfl, rfl, rfl⟩, by decide +kernel⟩

/-- Lane B, the lead, has sent the state copy. -/
def copied : State := besideLead.on .B fun L => { L with vote := { L.vote with copyOut := true } }

/-- Lane A a follower beside the copy, its services' state another or not. -/
def copiedTo (same : Bool) : State := copied.on .A fun L =>
  { L with vote := { L.vote with role := .follower }, svc := if same then L.svc else { L.svc with limp := true } }

/-- Lane A a shadow whose set every voting peer heard and that adopted an equal configuration. -/
def heardA : State := (sUp.onAll fun L => { L with vote := { L.vote with rx := ⟨some {}, some {}, some {}⟩ } }).on .A
  fun L => { L with vote := { L.vote with outSet := some {}, adopted := true, digestOk := true } }

theorem wit_StateCopy :
    (((besideLead.lane .B).alive && (besideLead.lane .B).voting && (besideLead.lane .B).vote.running &&
      besideLead.copySource (besideLead.lane .B) == some (besideLead.lane .B).id) = true) ∧
    (((besideLead.lane .A).alive && (besideLead.lane .A).voting && (besideLead.lane .A).vote.running &&
      besideLead.copySource (besideLead.lane .A) == some (besideLead.lane .A).id) = false) ∧
    (∀ direct, allLanes.find? (fun p => p != .A && (copied.lane p).vote.copyOut && copied.path .A p direct) = some .B) ∧
    ((copied.lane .A).runs = true ∧ (copied.lane .A).vote.running = true ∧ (copied.lane .A).vote.role = .shadow ∧
      (copied.lane .A).vote.copyOver = false ∧ copied.usesLink .A .B = true ∧ (copied.lane .A).vote.adopted = false ∧
      (copied.lane .A).tb.ns ≤ (copied.lane .A).vote.startNs + ((copied.lane .A).tCopy + 150) * 1000) ∧
    (((copiedTo true).lane .A).vote.role = .follower ∧
      ((copiedTo true).lane .A).sameState ((copiedTo true).lane .B) = true ∧
      ((copiedTo false).lane .A).sameState ((copiedTo false).lane .B) = false) ∧
    (∀ p, (sUp.lane p).vote.copyOut = false) ∧
    (((State.reset.lane .A).runs && (State.reset.lane .A).vote.running && !(State.reset.lane .A).vote.copyOver) =
      false) ∧
    (((heardA.lane .A).runs && (heardA.lane .A).vote.running && !(heardA.lane .A).vote.copyOver) = true ∧
      (heardA.lane .A).vote.role = .shadow ∧
      (heardA.heard (heardA.lane .A).id && (heardA.lane .A).vote.outSet.isSome && !(heardA.lane .A).vote.dirty &&
        !(heardA.lane .A).vote.selfFlag && (heardA.lane .A).vote.adopted && (heardA.lane .A).vote.digestOk) = true) ∧
    (((copied.lane .B).runs && (copied.lane .B).vote.running && !(copied.lane .B).vote.copyOver) = true ∧
      (copied.lane .B).vote.role ≠ .shadow) := by
  refine ⟨by decide +kernel, by decide +kernel, fun d => by cases d <;> decide +kernel, by decide +kernel,
    by decide +kernel, fun p => by cases p <;> rfl, by decide +kernel, by decide +kernel, by decide +kernel⟩

theorem wit_LockstepFault :
    (sUp.lane .A).alive = true ∧ (sUp.lane .A).vote.outNow = false ∧ (State.reset.lane .A).alive = false ∧
    ((sA fun L => { L with vote := { L.vote with outNow := true } }).lane .A).vote.outNow = true := by
  decide +kernel

/-- Every lane's view of the link between A and B changed. -/
def linkState (v : LinkView) : State := sUp.onAll fun L => L.onLink .AB fun _ => v

/-- Lane C, which relays, is without its rails. -/
def noRelay : State := linkState { badRun := 3 } |> fun s => s.on .C fun L => { L with pwr := { L.pwr with vinOn := false } }

theorem wit_SlipLinks :
    (((linkState { badRun := 3, isolTimes := [0, 0] }).lane .A).findsBad .AB = true ∧
      (linkState { badRun := 3, isolTimes := [0, 0] }).relayPath LinkId.AB.ends.1 LinkId.AB.ends.2 = true ∧
      (((linkState { badRun := 3, isolTimes := [0, 0] }).lane .C).runs &&
        ((linkState { badRun := 3, isolTimes := [0, 0] }).lane .C).vote.running) = true ∧
      2 ≤ (recent ((linkState { badRun := 3, isolTimes := [0, 0] }).lane .A).tb.mono 600000000000
        (((linkState { badRun := 3, isolTimes := [0, 0] }).lane .A).links.get .AB).isolTimes).length ∧
      (((linkState { badRun := 3, isolTimes := [0, 0] }).lane .A).voting &&
        linkTouches .AB ((linkState { badRun := 3, isolTimes := [0, 0] }).lane .A).id) = true ∧
      (((State.reset.lane .C).runs && (State.reset.lane .C).vote.running) = false)) ∧
    (∀ l, (sUp.lane l).findsBad .AB = false) ∧
    (noRelay.relayPath LinkId.AB.ends.1 LinkId.AB.ends.2 = false ∧
      (noRelay.on .A fun L => { L with vote := { L.vote with contact := ⟨true, true, true⟩ } }).inContact .AB = true) ∧
    (((linkState { inUse := false, cleanRun := 65535 }).lane .A).voting = true ∧
      ((linkState { inUse := false, cleanRun := 65535 }).lane .A).vote.running = true ∧
      (((linkState { inUse := false, cleanRun := 65535 }).lane .A).links.get .AB).barred = false ∧
      ((linkState { inUse := false, cleanRun := 65535 }).lane .A).obj 0x2600 8 ≤
        (((linkState { inUse := false, cleanRun := 65535 }).lane .A).links.get .AB).cleanRun) :=
  ⟨by decide +kernel, fun l => by cases l <;> decide +kernel, by decide +kernel, by decide +kernel⟩

/-- Lane A with its bridge 1 changed. -/
def brState (f : Bridge → Bridge) : State := sA fun L => L.onBr 1 f

/-- Lane A out and ready to restart. -/
def outA : State := sA fun L => { L with vote := { L.vote with outNow := true } }

theorem wit_BudgetParkRestart :
    ((sUp.lane .A).voting && ((sUp.lane .A).svc.budget.get .A).get 0 == 0) = false ∧
    (((sA fun L => { L with svc := { L.svc with budget := Tri.all (Oct.all 0) } }).lane .A).voting &&
      (((sA fun L => { L with svc := { L.svc with budget := Tri.all (Oct.all 0) } }).lane .A).svc.budget.get .A).get 0
        == 0) = true ∧
    ((((brState fun b => { b with passive := some .parkApply }).lane .A).bridges.get 1).passive = some .parkApply ∧
      (((brState fun b => { b with passive := some .parkApply }).lane .A).bridges.get 1).mode ≠ .parkApply) ∧
    ((((brState fun b => { b with passive := some .parkApply, mode := .parkApply }).lane .A).bridges.get 1).passive =
        some .parkApply ∧
      (((brState fun b => { b with passive := some .parkApply, mode := .parkApply }).lane .A).bridges.get 1).mode =
        .parkApply) ∧
    ((outA.lane .A).watched = true ∧ (outA.lane .A).vote.outNow = true ∧ (outA.lane .A).pwr.stuckAt = false ∧
      (outA.lane .A).vote.held = false ∧
      (outA.lane .A).therm.cone = false ∧ (outA.lane .A).therm.cooling = false ∧
      ((outA.lane .A).pwr.vgdBad = true → false = true)) ∧
    (((brState id).lane .A).bridges.get 1).passive ≠ some .parkApply := by
  decide +kernel

/-! ### Services, writes, bridges -/

/-- Lane A whose first wheel and curvature input have reached their limits in an armed module that drives. -/
def agedA : State := (sA fun L => obj 0x4101 1 0x3F800000 <| obj 0x4108 1 0x29 { L with
  vote := { L.vote with role := .lead, drivers := ⟨true, true, true⟩ }
  svc := { L.svc with ageWheel := [0xFFFF], ageLoad := [0xFFFF], ageCurv := 0xFFFF, armCurv := true } })

/-- The same with neither host nor source behind a stop. -/
def agedUnarmed : State := sA fun L => { L with svc := { L.svc with ageCurv := 0xFFFF, ageHw := 3 } }

/-- Lane A steers by its handwheel, whose value is stale. -/
def agedWheel : State := agedA.on .A fun L => { L with svc := { L.svc with steerHw := true, ageHw := 3 } }

theorem wit_ServiceTimersAndWrites_ages :
    (agedA.lane .A).alive = true ∧ (agedA.lane .A).voting = true ∧ (agedA.lane .A).wheelStale 0 = true ∧
    (agedA.lane .A).staleKind .curvature = true ∧ (agedA.lane .A).causes.host = true ∧
    (agedA.lane .A).svc.stop.active = false ∧
    ((agedA.lane .A).loadStale 0 = true ∧ 0 < ((agedA.lane .A).axleWeight 1) ∧ 8 ≤ (9 : Fin 12).val) ∧
    (((sUp.lane .A).alive && (sUp.lane .A).voting && (sUp.lane .A).staleKind .curvature) = false) ∧
    (((agedUnarmed.lane .A).staleKind .curvature = true ∧ (agedUnarmed.lane .A).causes.host = false) ∧
      ((agedUnarmed.lane .A).staleKind .handwheel = true ∧ (agedUnarmed.lane .A).causes.source = false)) ∧
    ((agedWheel.lane .A).alive = true ∧ (agedWheel.lane .A).voting = true ∧
      (agedWheel.lane .A).staleKind .handwheel = true ∧ (agedWheel.lane .A).causes.source = true) := by decide +kernel

/-- Lane A with its services changed. -/
def svcA (f : Svc → Svc) : State := sA fun L => { L with svc := f L.svc }

theorem wit_ServiceTimersAndWrites_holds :
    (((svcA fun v => { v with stop := { v.stop with active := true, holdMs := 0 } }).lane .A).svc.stop.active = true ∧
      ((svcA fun v => { v with stop := { v.stop with active := true, holdMs := 0 } }).lane .A).svc.stop.holdMs ≤ 0) ∧
    ((((svcA fun v => { v with slip := Oct.all { st := .hold, th := 100000 } }).lane .A).svc.slip.get 0).st = .hold ∧
      (((svcA fun v => { v with slip := Oct.all { st := .hold, th := 100000 } }).lane .A).obj 0x4109 6 : Rat) ≤
        (((svcA fun v => { v with slip := Oct.all { st := .hold, th := 100000 } }).lane .A).svc.slip.get 0).th) := by
  decide +kernel

/-- Lane A with its seal open in a vote cycle. -/
def openA : State := sA fun L => unsealed { L with vote := { L.vote with lastRelOk := true, held := true } }

theorem wit_ServiceTimersAndWrites_writes :
    ((openA.lane .A).writeErr .host 0x4300 9 [1] (openA.lane .A).vote.lastRelOk false = none ∧
      (openA.lane .A).vote.running = true ∧ (openA.lane .A).dict.prepared < 8) ∧
    (openA.lane .A).writeErr .host 0x4300 9 [] (openA.lane .A).vote.lastRelOk false = some eLength ∧
    (openA.lane .A).writeErr .host 0x4107 1 [0, 0, 0, 0] true false = none ∧
    (openA.lane .A).writeErr .host 0x4107 1 [] true false = some eLength ∧
    (openA.lane .A).writeErr .host 0x2602 1 [1] true false = none ∧
    (openA.lane .A).writeErr .host 0x2602 1 [] true false = some eLength := by decide +kernel

/-- Lane A at work with actuator 1 on its bridge 1. -/
def mapped1 (f : Lane → Lane) : State := sA fun L => map1 2 (f L)

/-- Lane A with its mapped bridge 1 changed. -/
def mb (f : Bridge → Bridge) : State := mapped1 fun L => L.onBr 1 f

/-- Lane A's map with a network time base that runs. -/
def timedA (f : Bridge → Bridge) : State := (mb f).on .A fun L => { L with tb := { L.tb with state := .holdover } }

theorem wit_PeriodBoundary :
    (((timedA id).lane .A).actOf 1 = some 1 ∧ ((timedA id).lane .A).alive = true ∧
      ((timedA id).lane .A).carrierRuns 1 = true ∧ (((timedA id).lane .A).bridges.get 1).started = false ∧
      ((timedA id).lane .A).served 1 = true) ∧
    (((mb fun b => { b with started := true }).lane .A).carrierRuns 1 = true ∧
      (((mb fun b => { b with started := true }).lane .A).bridges.get 1).started = true) ∧
    (((mb id).lane .A).carrierRuns 1 = false ∧ ((mb id).lane .A).actOf 2 = none ∧
      (State.reset.lane .A).alive = false ∧ ((mb id).lane .A).served 2 = false) ∧
    (156800000 : Rat) ≤ 160000000 ∧ (160000000 : Rat) ≤ 163200000 ∧ (156000000 : Rat) < 156800000 := by decide +kernel

theorem wit_ModesByRank :
    (State.reset.lane .A).pwr.stopLine = true ∧ (sUp.lane .A).actOf 1 = none ∧
    (((mapped1 fun L => { L with dc := { L.dc with hwHold := true } }).lane .A).pwr.stopLine = false ∧
      ((mapped1 fun L => { L with dc := { L.dc with hwHold := true } }).lane .A).opened 1 = true) ∧
    (((mapped1 fun L => L.onBr 1 fun b => { b with short := true }).lane .A).pwr.stopLine = false ∧
      ((mapped1 fun L => L.onBr 1 fun b => { b with short := true }).lane .A).opened 1 = false ∧
      (((mapped1 fun L => L.onBr 1 fun b => { b with short := true }).lane .A).bridges.get 1).short = true) ∧
    ((((mapped1 fun L => L.onBr 1 fun b => { b with short := true }).lane .A).settle 1).bridges.get 1).mode ≠
      (((mapped1 fun L => L.onBr 1 fun b => { b with short := true }).lane .A).bridges.get 1).mode := by
  decide +kernel

/-- Lane A modulating on its own sensor. -/
def modA : State := mapped1 fun L =>
  (L.onBr 1 fun b => { b with started := true, mode := .modulate }).onFe 1 fun f => { f with asrc := .sensor }

theorem wit_PeriodCompute :
    (((mb fun b => { b with started := true }).lane .A).actOf 1 = some 1 ∧
      ((mb fun b => { b with started := true }).lane .A).alive = true ∧
      (((mb fun b => { b with started := true }).lane .A).bridges.get 1).started = true ∧
      (((mb fun b => { b with started := true }).lane .A).bridges.get 1).mode = .disabled ∧
      (((mb fun b => { b with started := true }).lane .A).bridges.get 1).noSample = false) ∧
    (((mb id).lane .A).actOf 2 = none ∧ (((mb id).lane .A).bridges.get 1).started = false) ∧
    ((modA.lane .A).actOf 1 = some 1 ∧ (modA.lane .A).alive = true ∧ ((modA.lane .A).bridges.get 1).started = true ∧
      ((modA.lane .A).bridges.get 1).mode = .modulate ∧ ((modA.lane .A).bridges.get 1).noSample = false ∧
      ((modA.lane .A).fes.get 1).asrc = .sensor ∧ ((modA.lane .A).bridges.get 1).loadedOrd = ⟨.U, .V, .W⟩) := by
  decide +kernel

theorem wit_EdgesApart :
    (⟨true, false, false⟩ : Tri3 Bool).get (placeEdges ⟨9 / 10, 1 / 2, 1 / 4⟩ 8000 ⟨true, false, false⟩).order.u =
      true := by decide +kernel

theorem wit_CountedFaults :
    ((((mb id).lane .A).bridges.get 1).overRun < 3 ∧ (((mb id).lane .A).bridges.get 1).satRun < 4 ∧
      (((mb id).lane .A).bridges.get 1).trackRun < 100 ∧ (((mb id).lane .A).bridges.get 1).fwRun < 100 ∧
      ((((mb id).lane .A).gates.get 1).noValid.get .U).1 < 64 ∧ ((((mb id).lane .A).gates.get 1).noValid.get .U).2 < 64) ∧
    3 ≤ (((mb fun b => { b with overRun := 3 }).lane .A).bridges.get 1).overRun ∧
    4 ≤ (((mb fun b => { b with satRun := 4 }).lane .A).bridges.get 1).satRun ∧
    100 ≤ (((mb fun b => { b with trackRun := 100 }).lane .A).bridges.get 1).trackRun ∧
    100 ≤ (((mb fun b => { b with fwRun := 100 }).lane .A).bridges.get 1).fwRun ∧
    64 ≤ ((((mapped1 fun L => L.onGate 1 fun g => { g with noValid := ⟨(64, 0), (0, 0), (0, 0)⟩ }).lane .A).gates.get
      1).noValid.get .U).1 ∧
    64 ≤ ((((mapped1 fun L => L.onGate 1 fun g => { g with noValid := ⟨(0, 64), (0, 0), (0, 0)⟩ }).lane .A).gates.get
      1).noValid.get .U).2 := by decide +kernel

theorem wit_IsolationOfASet :
    ((mapped1 id).lane .A).actOf 1 = some 1 ∧ ((mapped1 id).lane .A).actOf 2 = none ∧
    0x2060 ∈ (((mb fun b => { b with isolKinds := [0x2060] }).lane .A).bridges.get 1).isolKinds := by decide +kernel

/-- Lane A with the front end of its mapped bridge 1 changed; `m` selects resolver (0) or BiSS-C. -/
def mf (m : Nat) (f : FrontEnd → FrontEnd) : State := mapped1 fun L => obj 0x2902 1 m (L.onFe 1 f)

/-- A frame of a 12-bit single-turn encoder at rest, with nE and nW as given and its CRC inverted (R161). -/
def frame12 (nE nW : Bool) : List Bool :=
  let data := List.replicate 12 false ++ [nE, nW]
  data ++ ((List.range 6).reverse.map fun i => !(bissCrc data).getLsbD i)

/-- Lane A with a 12-bit encoder that has its request running. -/
def encA (f : FrontEnd → FrontEnd) : State :=
  (mf 1 fun g => f { g with bissPending := true }).on .A fun L => obj 0x2902 3 12 (obj 0x2902 4 0 L)

theorem wit_RotorSensors_resolver :
    (((mf 0 id).lane .A).actOf 1 = some 1 ∧ (((mf 0 id).lane .A).excitation 1).isSome = true ∧
      (((mf 0 id).lane .A).fes.get 1).sensIsol = false ∧ ((mf 0 id).lane .A).lptOn 25 = false ∧
      ((mf 0 id).lane .A).demod 1 [] = 0) ∧
    (((mf 1 id).lane .A).excitation 1 = none ∧ (((mf 0 fun f => { f with sensIsol := true }).lane .A).fes.get 1).sensIsol =
      true ∧ (((mf 0 id).on .A fun L => { L with lpt := { L.lpt with running := true, test := 25 } }).lane .A).lptOn 25 =
        true) ∧
    (((mf 0 id).lane .A).served 1 = true ∧ ((mf 0 id).lane .A).served 2 = false ∧
      (((mf 0 id).lane .A).fes.get 1).lowRun < 4 ∧ (((mf 0 id).lane .A).fes.get 1).highRun < 4 ∧
      (((mf 0 id).lane .A).fes.get 1).trackRun < 4 ∧ (((mf 0 id).lane .A).fes.get 1).bissRun < 3) ∧
    4 ≤ (((mf 0 fun f => { f with lowRun := 4 }).lane .A).fes.get 1).lowRun ∧
    ((((mf 0 fun f => { f with highRun := 4 }).lane .A).fes.get 1).lowRun < 4 ∧
      4 ≤ (((mf 0 fun f => { f with highRun := 4 }).lane .A).fes.get 1).highRun) ∧
    4 ≤ (((mf 0 fun f => { f with trackRun := 4 }).lane .A).fes.get 1).trackRun ∧
    3 ≤ (((mf 0 fun f => { f with bissRun := 3 }).lane .A).fes.get 1).bissRun ∧
    (1 < 2 ∨ 150 < 1) ∧ 2 ≤ 100 ∧ 100 ≤ 150 := by decide +kernel

theorem wit_RotorSensors_biss :
    (((encA id).lane .A).actOf 1 = some 1 ∧ ((encA id).lane .A).alive = true ∧ ((encA id).lane .A).bissMode 1 = true ∧
      (((encA id).lane .A).fes.get 1).bissPending = true ∧ (((encA id).lane .A).fes.get 1).sensIsol = false ∧
      ((encA id).lane .A).lptOn 25 = false) ∧
    (bissData (((encA id).lane .A).obj (actIdx 1 2) 4) (((encA id).lane .A).obj (actIdx 1 2) 3) (frame12 true true)).ok =
      true ∧
    (bissData (((encA id).lane .A).obj (actIdx 1 2) 4) (((encA id).lane .A).obj (actIdx 1 2) 3)
      (frame12 false false)).nE = false ∧
    (bissData (((encA id).lane .A).obj (actIdx 1 2) 4) (((encA id).lane .A).obj (actIdx 1 2) 3)
      ([] ++ [true, true] ++ [])).ok = false ∧
    frame12 true true = (frame12 true true).take 12 ++ [true, true] ++ (frame12 true true).drop 14 ∧
    1 ≤ (((encA fun f => { f with neRun := 1 }).lane .A).fes.get 1).neRun ∧
    0 < ((mapped1 fun L => obj 0x2902 4 12 L).lane .A).obj (actIdx 1 2) 4 ∧
    (((mf 1 id).lane .A).fes.get 1).bissPending = false := by decide +kernel

/-- Lane A in its injection check with its rotor at rest; `v` is the REAL32 of HFI_SPEED. -/
def checkA (v : Nat) (f : FrontEnd → FrontEnd) : State :=
  (mf 0 fun g => f { g with asrc := .hfiCheck, hfiPhase := 2 }).on .A fun L => obj 0x2902 0x0E v L

/-- Sums of a check with a saliency. -/
def salient : HfiSums := { d := { c := 1, s := 0 }, q := { c := 0, s := 0 } }

/-- A speed of 0 has reached an HFI_SPEED of -1 and none of 50. -/
theorem wit_RotorSources_speed :
    ((checkA 0xBF800000 id).lane .A).hfiFast 1 1 = true ∧ ((checkA 0x42480000 id).lane .A).hfiFast 1 1 = false ∧
    ((checkA 0x42480000 fun f => { f with hfi := salient }).lane .A).hfiFast 1 1 = false := by
  have h : ∀ v f, ((checkA v f).lane .A).sensorSpeed 1 1 = 0 → ((checkA v f).lane .A).wElec 1 1 =
      some (((checkA v f).lane .A).elec 1 (((checkA v f).lane .A).sensorSpeed 1 1)) →
      ((checkA v f).lane .A).wElec 1 1 = some 0 := by
    intro v f h e; rw [e, h]; simp [Lane.elec]
  have a := h 0xBF800000 id (by decide +kernel) rfl
  have b := h 0x42480000 id (by decide +kernel) rfl
  have c := h 0x42480000 (fun f => { f with hfi := salient }) (by decide +kernel) rfl
  unfold Lane.hfiFast
  rw [a, b, c]
  decide +kernel

theorem wit_RotorSources_check :
    ((((checkA 0 id).lane .A).fes.get 1).asrc = .hfiCheck ∧ 1 ≤ (((checkA 0 id).lane .A).fes.get 1).hfiPhase ∧
      (((checkA 0 id).lane .A).fes.get 1).hfiPhase < 3 ∧ ((checkA 0 id).lane .A).actOf 1 = some 1 ∧
      (((checkA 0 id).lane .A).fes.get 1).due = none ∧
      (((checkA 0 id).lane .A).fes.get 1).hfi.lowSaliency = true) ∧
    ((((checkA 0x42480000 fun f => { f with hfi := salient }).lane .A).fes.get 1).hfi.lowSaliency = false ∧
      absR ((((checkA 0x42480000 fun f => { f with hfi := salient }).lane .A).fes.get 1).hfi.offset 0) ≤
        ((checkA 0x42480000 fun f => { f with hfi := salient }).lane .A).posReal 1 0x0F ∧
      ((checkA 0x42480000 fun f => { f with hfi := salient }).lane .A).posReal 1 0x0F <
        absR ((((checkA 0x42480000 fun f => { f with hfi := salient }).lane .A).fes.get 1).hfi.offset 90)) ∧
    (3 ≤ (((checkA 0 fun f => { f with hfiPhase := 3 }).lane .A).fes.get 1).hfiPhase ∧
      (((checkA 0 fun f => { f with due := some .sensor }).lane .A).fes.get 1).due.isSome = true ∧
      (((mf 0 id).lane .A).fes.get 1).asrc ≠ .hfiCheck) := by decide +kernel

/-- Lane A without its rotor, its set requested short. -/
def lostA : State :=
  mapped1 fun L => (L.onFe 1 fun f => { f with asrc := .lost }).onBr 1 fun b => { b with short := true }

theorem wit_RotorSources_return :
    (32 ≤ (((mf 0 fun f => { f with plausRun := 32 }).lane .A).fes.get 1).plausRun ∧
      (((mf 0 id).lane .A).fes.get 1).plausRun < 32) ∧
    ((((mf 0 fun f => { f with asrc := .observer, resRun := 3 }).lane .A).fes.get 1).asrc = .observer ∧
      3 ≤ (((mf 0 fun f => { f with asrc := .observer, resRun := 3 }).lane .A).fes.get 1).resRun ∧
      (recent ((mf 0 id).lane .A).tb.mono 1000000000 (((mf 0 fun f =>
        { f with asrc := .observer, resRun := 3 }).lane .A).fes.get 1).losses).length < 2 ∧
      2 ≤ (recent ((mf 0 id).lane .A).tb.mono 1000000000 (((mf 0 fun f =>
        { f with asrc := .observer, resRun := 3, losses := [0, 0] }).lane .A).fes.get 1).losses).length ∧
      (((mf 0 id).lane .A).fes.get 1).resRun < 3) ∧
    ((lostA.lane .A).actOf 1 = some 1 ∧ ((lostA.lane .A).fes.get 1).asrc = .lost ∧
      ((lostA.lane .A).bridges.get 1).short = true ∧ (((mf 0 id).lane .A).fes.get 1).asrc ≠ .lost ∧
      (((mf 0 id).lane .A).fes.get 1).asrc ≠ .reacquire ∧ (((mf 0 id).lane .A).fes.get 1).acqRun < 8) ∧
    ((((mf 0 fun f => { f with asrc := .reacquire, acqRun := 8, acqLast := some 1, acqW := some 2 }).lane .A).fes.get
        1).asrc = .reacquire ∧
      8 ≤ (((mf 0 fun f => { f with asrc := .reacquire, acqRun := 8, acqLast := some 1, acqW := some 2 }).lane
        .A).fes.get 1).acqRun ∧
      (((mf 0 fun f => { f with asrc := .reacquire, acqRun := 8, acqLast := some 1, acqW := some 2 }).lane
        .A).fes.get 1).acqLast = some 1 ∧
      (((mf 0 fun f => { f with asrc := .reacquire, acqRun := 8, acqLast := some 1, acqW := some 2 }).lane
        .A).fes.get 1).acqW = some 2) := by decide +kernel

/-- Lane A at work, sealed open, its bridge 1 mapped, gate drives at rest, chopper configured. -/
def writeA : State := mapped1 fun L => unsealed (obj 0x3800 0x0B 1 { L with
  dc := { L.dc with vdc := r32 (objDefault .A 0x3800 9) } })

/-- The same with the gate drive latched. -/
def latchedA : State := writeA.on .A fun L => L.onGate 1 fun g => { g with latch := true }

theorem wit_WritesOfBridgeAndLink :
    (writeA.lane .A).writeErr .host ((writeA.lane .A).brIdx 1 1) 8 [0, 0, 0, 0]
      (((writeA.lane .A).bridges.get 1).mode == .disabled) false = none ∧
    (writeA.lane .A).writeErr .host ((writeA.lane .A).brIdx 1 1) 8 []
      (((writeA.lane .A).bridges.get 1).mode == .disabled) false = some eLength ∧
    (writeA.lane .A).writeErr .host ((writeA.lane .A).brIdx 1 3) 1 [1] ((writeA.lane .A).clearable 1 {}) false = none ∧
    (writeA.lane .A).writeErr .host ((writeA.lane .A).brIdx 1 3) 1 []  ((writeA.lane .A).clearable 1 {}) false =
      some eLength ∧
    ((writeA.lane .A).gates.get 1).latch = false ∧ ((latchedA.lane .A).gates.get 1).latch = true ∧
    (latchedA.lane .A).writeErr .host ((latchedA.lane .A).brIdx 1 3) 1 [1] ((latchedA.lane .A).clearable 1 {}) false =
      none ∧
    (writeA.lane .A).writeErr .host ((writeA.lane .A).brIdx 1 3) 2 [1] ((writeA.lane .A).testable 1) false = none ∧
    (writeA.lane .A).obj ((writeA.lane .A).dcIdx 0) 0x0B = 1 ∧ (writeA.lane .A).dc.chopOn = false ∧
    (writeA.lane .A).dc.testing = false ∧ (writeA.lane .A).dcReal 9 ≤ (writeA.lane .A).dc.vdc ∧
    (writeA.lane .A).dc.vdc ≤ (writeA.lane .A).dcReal 1 - (writeA.lane .A).dcReal 2 ∧
    (writeA.lane .A).writeErr .host ((writeA.lane .A).dcIdx 2) 1 [1] true false = none ∧
    (writeA.lane .A).writeErr .host ((writeA.lane .A).dcIdx 2) 1 [1] false false = some eState ∧
    ((mapped1 (obj 0x3800 0x0B 0)).lane .A).obj (((mapped1 (obj 0x3800 0x0B 0)).lane .A).dcIdx 0) 0x0B ≠ 1 ∧
    (writeA.lane .A).writeErr .host ((writeA.lane .A).brIdx 1 3) 2 [] ((writeA.lane .A).testable 1) false =
      some eLength := by
  decide +kernel

/-- Lane A with the gate drive of its mapped bridge 1 changed. -/
def mg (f : Gate → Gate) : State := mapped1 fun L => L.onGate 1 f

theorem wit_GateAdaptation :
    (((mapped1 id).lane .A).alive = true ∧ ((mapped1 id).lane .A).pwr.vgdOn = true ∧
      (State.reset.lane .A).alive = false) ∧
    (((mb fun b => { b with mode := .modulate }).lane .A).served 1 = true ∧
      modeSwitches (((mb fun b => { b with mode := .modulate }).lane .A).bridges.get 1).mode = true ∧
      modeSwitches (((mb id).lane .A).bridges.get 1).mode = false) ∧
    (0 : Rat) ≤ 100 ∧ (100 : Rat) ≤ 2000 ∧ (∀ x : Rat, (none : Option Rat) = some x → x < 0 ∨ 2000 < x) ∧
    ((mb fun b => { b with mode := .modulate, iU := 1000 }).lane .A).phaseLoaded 1 .U = true ∧
    1000 ≤ sideOf ((((mg fun g => { g with limRun := ⟨(1000, 1000), (0, 0), (0, 0)⟩ }).lane .A).gates.get 1).limRun.get
      .U) true ∧
    sideOf ((((mg id).lane .A).gates.get 1).limRun.get .U) true < 1000 ∧
    16 ≤ (((mb fun b => { b with lowRun := ⟨16, 0, 0⟩ }).lane .A).bridges.get 1).lowRun.get .U ∧
    (((mb id).lane .A).bridges.get 1).lowRun.get .U < 16 := by
  refine ⟨by decide +kernel, by decide +kernel, by decide +kernel, by decide +kernel, fun x h => (by cases h), by decide +kernel⟩

theorem wit_ShortCircuitEpisodes :
    (((mg fun g => { g with onOut := 1 }).lane .A).served 1 = true ∧
      (((mg fun g => { g with onOut := 1 }).lane .A).gates.get 1).wait = false ∧
      ((mg fun g => { g with onOut := 1 }).lane .A).outOn 1 ≠ 0 ∧
      ((mg fun g => { g with onOut := 1 }).lane .A).pwr.stopLine = false ∧
      (((mg fun g => { g with onOut := 1 }).lane .A).outOn 1).getLsbD 0 = true ∧
      (((mg fun g => { g with onOut := 1 }).lane .A).gates.get 1).soft.getLsbD 0 = false) ∧
    (((mg fun g => { g with soft := 1 }).lane .A).gates.get 1).soft.getLsbD 0 = true ∧
    (((mg fun g => { g with wait := true }).lane .A).gates.get 1).wait = true ∧
    ((((mg fun g => { g with episode := true }).lane .A).gates.get 1).episode = true ∧
      (((mg fun g => { g with episode := true }).lane .A).gates.get 1).wait = false ∧
      (((mg fun g => { g with episode := true }).lane .A).gates.get 1).latch = false ∧
      (((mg fun g => { g with episode := true }).lane .A).triesNow 1).length < 3 ∧
      3 ≤ (((mg fun g => { g with episode := true, tries := [0, 0, 0] }).lane .A).triesNow 1).length) ∧
    ((((mg id).lane .A).gates.get 1).wait = false ∧ (((mg id).lane .A).gates.get 1).episode = false ∧
      ((mg id).lane .A).outOn 1 = 0 ∧ (((mg id).lane .A).gates.get 1).soft = 0 ∧
      (((mg id).lane .A).gates.get 1).latch = false ∧ (((mg id).lane .A).triesNow 1).length < 3 ∧
      modeSwitches (((mg id).lane .A).bridges.get 1).mode = false ∧ ((mg id).lane .A).served 2 = false) := by
  decide +kernel

theorem wit_FaultWaitsAndTries :
    ((((mg fun g => { g with wait := true }).lane .A).gates.get 1).wait = true ∧
      (((mg id).lane .A).gates.get 1).wait = false ∧ (((mg id).lane .A).gates.get 1).trying = false ∧
      (((mg id).lane .A).gates.get 1).testing = false) ∧
    ((((mg fun g => { g with trying := true }).lane .A).gates.get 1).trying = true ∧
      (((mg fun g => { g with trying := true }).lane .A).gates.get 1).latch = false ∧
      (((mg fun g => { g with trying := true }).lane .A).triesNow 1).length < 3) ∧
    ((((mg fun g => { g with trying := true, tries := [0, 0, 0] }).lane .A).gates.get 1).trying = true ∧
      3 ≤ (((mg fun g => { g with trying := true, tries := [0, 0, 0] }).lane .A).triesNow 1).length) ∧
    ((((mg fun g => { g with testing := true, testBy := some .host }).lane .A).gates.get 1).testing = true ∧
      (((mg fun g => { g with testing := true, testBy := some .host }).lane .A).gates.get 1).testBy = some .host ∧
      ((mg fun g => { g with testing := true, testBy := some .host }).lane .A).actOf 1 = some 1 ∧
      ((1 : BitVec 6) ≠ 0 ∨ false = true ∨ (0 : BitVec 3) ≠ 0)) := by
  decide +kernel

/-- Lane A with its DC link changed. -/
def dcA (f : DcLink → DcLink) : State := mapped1 fun L => { L with dc := f L.dc }

/-- The chopper on at 100 V, which gives Iexp. -/
def chopA : State := dcA fun d => { d with chopOn := true, vdc := 100 }

/-- Iexp of that chopper. -/
def iexp : Rat := (chopA.lane .A).dc.vdc / (chopA.lane .A).dcReal 0x0C

theorem wit_LinkSamplesAndChopper :
    (((dcA id).lane .A).alive = true ∧ (State.reset.lane .A).alive = false ∧ (State.reset.lane .A).pwr.stopLine = true ∧
      ((dcA id).lane .A).dc.senseRun < 3 ∧ ((dcA id).lane .A).dc.testing = false ∧
      ((dcA id).lane .A).dc.chopFault = false ∧ ((dcA id).lane .A).dc.chopOn = false ∧
      ((dcA id).lane .A).dc.openRun < 3 ∧ ((dcA id).lane .A).dc.wrongRun < 3 ∧ ((dcA id).lane .A).dc.condRun < 3 ∧
      ((dcA id).lane .A).dc.hwHold = false) ∧
    3 ≤ ((dcA fun d => { d with senseRun := 3 }).lane .A).dc.senseRun ∧
    ((chopA.lane .A).dc.chopFault = false ∧ (chopA.lane .A).dc.testing = false ∧ (chopA.lane .A).dc.chopOn = true ∧
      0 < 3 / 10 * iexp ∧ (3 / 10 * iexp ≤ 3 / 10 * iexp ∧ 3 / 10 * iexp ≤ 7 / 10 * iexp) ∧
      (3 / 10 * iexp ≤ iexp ∧ 7 / 10 * iexp < iexp ∧ iexp ≤ 13 / 10 * iexp)) ∧
    ((dcA fun d => { d with chopFault := true }).lane .A).dc.chopFault = true ∧
    3 ≤ ((dcA fun d => { d with openRun := 3 }).lane .A).dc.openRun ∧
    (((dcA fun d => { d with testing := true, testChecks := 2 }).lane .A).dc.testing = true ∧
      2 ≤ ((dcA fun d => { d with testing := true, testChecks := 2 }).lane .A).dc.testChecks ∧
      ((dcA fun d => { d with testing := true }).lane .A).dc.testKind = 0 ∧
      (0 ≤ max 1 (((dcA fun d => { d with testing := true }).lane .A).dc.vdc /
        ((dcA fun d => { d with testing := true }).lane .A).dcReal 0x0C / 10)) ∧
      (max 1 (((dcA fun d => { d with testing := true }).lane .A).dc.vdc /
        ((dcA fun d => { d with testing := true }).lane .A).dcReal 0x0C / 10) < 100) ∧
      ((dcA fun d => { d with testing := true, testKind := 2 }).lane .A).dc.testKind ≠ 0) := by decide +kernel

theorem wit_LinkProtection :
    (((dcA fun d => { d with ov3 := true }).lane .A).dc.ov3 = true ∧ ((dcA id).lane .A).dc.ov3 = false) ∧
    (((dcA id).lane .A).alive = true ∧ ((dcA id).lane .A).dc.hwHold = false ∧
      (recent ((dcA id).lane .A).tb.mono 60000000000 ((dcA id).lane .A).dc.hwTimes).length < 2 ∧
      ((dcA id).lane .A).dc.uv2 = false ∧ ((dcA id).lane .A).vote.outNow = false ∧
      (State.reset.lane .A).alive = false) ∧
    2 ≤ (recent ((dcA fun d => { d with hwTimes := [0, 0] }).lane .A).tb.mono 60000000000
      ((dcA fun d => { d with hwTimes := [0, 0] }).lane .A).dc.hwTimes).length ∧
    (((dcA fun d => { d with hwHold := true }).lane .A).dc.hwHold = true ∧
      (((dcA fun d => { d with hwHold := true }).lane .A).gates.get 1).wait = false ∧
      (((dcA fun d => { d with hwHold := true }).lane .A).gates.get 1).trying = false ∧
      (((dcA fun d => { d with hwHold := true }).lane .A).gates.get 1).latch = false ∧
      (((dcA fun d => { d with hwHold := true }).lane .A).gates.get 1).soft = 0 ∧
      (((dcA fun d => { d with hwHold := true }).lane .A).gates.get 1).episode = false ∧
      (((dcA fun d => { d with hwHold := true }).lane .A).bridges.get 1).short = false ∧
      (((dcA fun d => { d with hwHold := true }).lane .A).bridges.get 1).off = false) ∧
    ((dcA fun d => { d with uv2 := true }).lane .A).dc.uv2 = true ∧ ((dcA id).lane .A).actOf 1 = some 1 := by
  decide +kernel
/-! ### Network, time, uplink -/

/-- A lane with a value of its loaded schedule changed. -/
def sch (idx sub raw : Nat) (L : Lane) : Lane :=
  { L with net := { L.net with sched := storePut L.net.sched (okey idx sub) raw (objDefault L.id idx sub) } }

/-- Lane A as node 5 of an ACTIVE network with two static slots on channel X: slot 0 of node 0 on port 0 with RX,
slot 1 its own with buffer 0. -/
def netA (f : Lane → Lane) : State := sA fun L =>
  f (sch 0x4800 9 2 (sch 0x4800 3 5 (sch 0x4810 1 (2 ^ 22) (sch 0x4810 2 (6 * 4096 + 5) { L with
    net := { L.net with state := .active, guardOpen := false, x := { L.net.x with linkUp := [true, true, true, true, true, true] } }
    sec := { L.sec with serving := 1 } }))))

/-- Lane A with its node changed. -/
def nodeA (f : Node → Node) : State := netA fun L => { L with net := f L.net }

/-- Lane A with channel X changed. -/
def chanA (f : Channel → Channel) : State := nodeA fun n => { n with x := f n.x }

/-- The star of channel X repeats a frame of a port since 105 ns. -/
def busyX (port : Nat) : State := chanA fun c => { c with busyNs := 105, busyUntil := 9000, busyPort := port }

theorem wit_StarAndGuardian_start :
    (((netA id).lane .A).alive = true ∧ ((netA id).lane .A).portServes .X 0 = true ∧
      ((netA id).lane .A).admits .X 1 { ns := 108, len := 800 } = none ∧
      (((netA id).lane .A).admits .X 0 { ns := 108, len := 800 }).isSome = true ∧
      (((netA id).lane .A).net.ch .X).busyUntil ≤ 108 ∧ ((netA id).lane .A).net.guardOpen = false) ∧
    ((((busyX 1).lane .A).admits .X 0 { ns := 108, len := 800 }).isSome = true ∧ ((busyX 1).lane .A).portServes .X 0 = true ∧
      108 < (((busyX 1).lane .A).net.ch .X).busyUntil ∧ 108 / 8 = (((busyX 1).lane .A).net.ch .X).busyNs / 8 ∧
      portRank 0 < portRank (((busyX 1).lane .A).net.ch .X).busyPort) ∧
    (portRank (((busyX 6).lane .A).net.ch .X).busyPort ≤ portRank 0 ∧
      112 / 8 ≠ (((busyX 1).lane .A).net.ch .X).busyNs / 8) ∧
    ((((nodeA fun n => { n with guardOpen := true }).lane .A).admits .X 0 { ns := 108, len := 800 }).isSome = true) ∧
    ((State.reset.lane .A).alive = false ∧ ((chanA fun c => { c with linkUp := [] }).lane .A).portServes .X 0 = false) := by
  decide +kernel

theorem wit_StarAndGuardian_end :
    (((chanA fun c => { c with limitNs := 5, busyUntil := 9 }).lane .A).net.ch .X).limitNs <
      (((chanA fun c => { c with limitNs := 5, busyUntil := 9 }).lane .A).net.ch .X).busyUntil ∧
    (((netA id).lane .A).net.ch .X).busyUntil ≤ (((netA id).lane .A).net.ch .X).limitNs ∧
    ((nodeA fun n => { n with holdover := true }).lane .A).net.holdover = true ∧
    ((netA id).lane .A).net.holdover = false ∧ ((netA id).lane .A).therm.cutL = false ∧
    (((netA id).lane .A).net.ch .X).linkUp.length = 6 ∧
    8 ≤ ((((chanA fun c => { c with blockedRun := [8] }).lane .A).net.ch .X).blockedRun[0]?).getD 0 ∧
    ((((netA id).lane .A).net.ch .X).blockedRun[0]?).getD 0 < 8 := by decide +kernel

/-- Header of a frame of node 0 in static slot `k` of cycle 0, 8 bytes long. -/
def hdr0 (node k : Nat) : Nat := 1 + node * 2 ^ 16 + k * 2 ^ 32

/-- A frame of a node in slot 0 at its time, with a tag under frame key 0. -/
def frame0 (node : Nat) (key : BitVec 128) : FrameIn :=
  { arrNs := 428
    bytes := frameBytes 0 0 34997 (hdr0 node 0) (List.replicate 8 0)
      (tag8 key (tagInput 0 (hdr0 node 0) (List.replicate 8 0))) }

theorem wit_FramesAndSlots_received :
    (((netA id).lane .A).alive = true ∧ (frame0 5 0).cluster = ((netA id).lane .A).sched 0x4800 2 ∧
      (frame0 5 0).node = ((netA id).lane .A).sched 0x4800 3) ∧
    ¬((frame0 0 0).cluster = ((netA id).lane .A).sched 0x4800 2 ∧
      (frame0 0 0).node = ((netA id).lane .A).sched 0x4800 3) ∧
    ((netA id).lane .A).net.state = .active ∧
    (((netA id).lane .A).frameForm .X (frame0 0 0) = true ∧
      ((netA id).lane .A).inWindow .X (frame0 0 0) ((netA id).lane .A).tAcc = true ∧
      ((netA id).lane .A).frameTag (frame0 0 0) ((netA id).lane .A).net.cycleNow = true ∧ (frame0 0 0).kind = 0 ∧
      (frame0 0 0).sync = false ∧ (((netA id).lane .A).desc .X false (frame0 0 0).slot).rx = true) ∧
    (((netA id).lane .A).frameForm .X (frame0 0 1) = true ∧
      ((netA id).lane .A).inWindow .X (frame0 0 1) ((netA id).lane .A).tAcc = true ∧
      ((netA id).lane .A).frameTag (frame0 0 1) ((netA id).lane .A).net.cycleNow = false) ∧
    (State.reset.lane .A).alive = false := by decide +kernel

/-- Lane A with its transmit buffer 0 READY since 0 ns. -/
def bufReady : State := nodeA fun n => { n with txBufs := [{ buf := 0, ready := true }] }

theorem wit_FramesAndSlots_static :
    (((netA id).lane .A).desc .X false 1).port = 6 ∧ ((netA id).lane .A).slotIn .X false 1 = true ∧
    (((netA id).lane .A).desc .X false 1).used ((netA id).lane .A).net.cycleNow = true ∧
    (((netA id).lane .A).desc .X false 1).sync = false ∧ (((netA id).lane .A).desc .X false 1).cstart = false ∧
    ((netA id).lane .A).slotReady .X 1 = false ∧ (bufReady.lane .A).slotReady .X 1 = true ∧
    (bufReady.lane .A).tsReq .X 1 = false ∧ (((netA id).lane .A).desc .X false 0).port ≠ 6 := by decide +kernel

/-- Lane A as a node in a state whose slot 1 of channel X is its own cold-start slot. -/
def coldSlot (st : NState) (frm : Nat) : State := netA fun L =>
  sch 0x4810 2 (2 ^ 16 + 2 ^ 15 + 6 * 4096 + 5) { L with net := { L.net with state := st, csFrom := frm } }

theorem wit_FramesAndSlots_coldstart :
    (((coldSlot .coldstart 0).lane .A).net.state = .coldstart ∧
      (((coldSlot .coldstart 0).lane .A).desc .X false 1).cstart = true ∧
      (((coldSlot .coldstart 0).lane .A).desc .X false 1).port = 6 ∧
      ((coldSlot .coldstart 0).lane .A).slotIn .X false 1 = true ∧
      (((coldSlot .coldstart 0).lane .A).desc .X false 1).used ((coldSlot .coldstart 0).lane .A).net.cycleNow = true ∧
      ((coldSlot .coldstart 0).lane .A).net.csFrom ≤ ((coldSlot .coldstart 0).lane .A).net.cycleNow) ∧
    ((coldSlot .coldstart 1).lane .A).net.cycleNow < ((coldSlot .coldstart 1).lane .A).net.csFrom ∧
    ((coldSlot .listen 0).lane .A).net.state = .listen := by decide +kernel

/-- Lane A with an own service slot 0 on channel X and the responses it holds. -/
def svcSlotA (rs : List Resp) : State := netA fun L =>
  sch 0x4800 0xD 1 (sch 0x4814 1 (5 * 32 + 6 * 4096 + 5) { L with dict := { L.dict with hostOut := rs } })

theorem wit_FramesAndSlots_service :
    (((svcSlotA []).lane .A).desc .X true 0).port = 6 ∧ ((svcSlotA []).lane .A).slotIn .X true 0 = true ∧
    (((svcSlotA []).lane .A).desc .X true 0).used ((svcSlotA []).lane .A).net.cycleNow = true ∧
    ((svcSlotA []).lane .A).slotResponses .X 0 = [] ∧ ((svcSlotA [{}]).lane .A).slotResponses .X 0 ≠ [] := by decide +kernel

theorem wit_FramesAndSlots_end :
    (((netA id).lane .A).slotIn .X false 0 = true ∧ (((netA id).lane .A).slot .X 0).port ≠ 7 ∧
      (((netA id).lane .A).slot .X 0).port ≠ 6 ∧
      (((netA id).lane .A).slot .X 0).used ((netA id).lane .A).net.cycleNow = true ∧
      0 ∉ (((netA id).lane .A).net.ch .X).passed) ∧
    0 ∈ (((chanA fun c => { c with passed := [0] }).lane .A).net.ch .X).passed := by decide +kernel

theorem wit_NetworkCycleAndLoss :
    (((netA id).lane .A).alive = true ∧ ((netA id).lane .A).pwr.phase = 0 ∧ ((netA id).lane .A).net.state = .active ∧
      (((netA id).lane .A).devs ((netA id).lane .A).net.devNow).length < 2) ∧
    ((netA fun L => { L with pwr := { L.pwr with phase := 1 } }).lane .A).pwr.phase ≠ 0 ∧
    ((nodeA fun n => { n with lowSync := 255 }).lane .A).sched 0x4800 0x15 ≤
      ((nodeA fun n => { n with lowSync := 255 }).lane .A).net.lowSync ∧
    (3 ≤ (((chanA fun c => { c with lostRun := 3 }).lane .A).net.ch .X).lostRun ∧
      (((chanA fun c => { c with lostRun := 3 }).lane .A).net.ch .X).lost = false ∧
      (((netA id).lane .A).net.ch .X).lostRun < 3 ∧ (((netA id).lane .A).net.ch .X).okRun < 3) ∧
    ((((chanA fun c => { c with lost := true, okRun := 3 }).lane .A).net.ch .X).lost = true ∧
      3 ≤ (((chanA fun c => { c with lost := true, okRun := 3 }).lane .A).net.ch .X).okRun) ∧
    (3 ≤ ((nodeA fun n => { n with netBad := 3 }).lane .A).net.netBad ∧
      ((nodeA fun n => { n with netBad := 3 }).lane .A).net.netLost = false ∧ ((netA id).lane .A).net.netBad < 3) ∧
    (((nodeA fun n => { n with netLost := true, netGood := 3 }).lane .A).net.netLost = true ∧
      3 ≤ ((nodeA fun n => { n with netLost := true, netGood := 3 }).lane .A).net.netGood ∧
      ((netA id).lane .A).net.netGood < 3) := by decide +kernel

/-- Lane A as a cold-start node in a state of its node. -/
def coldA (st : NState) (f : Node → Node) : State :=
  nodeA fun _ => f { (sch 0x4800 0x11 2 (State.reset.lane .A)).net with state := st }

/-- A state where lane A confirmed a cycle of its cold start. -/
def confirmedA (peer : Bool) : State :=
  (coldA .coldstart fun n => { n with csSeen := true, csConfirm := 1 }).on .B fun L =>
    { L with net := { L.net with state := if peer then .active else .halt } }

theorem wit_ColdStart :
    (((coldA .listen id).lane .A).net.state = .listen ∧ ((coldA .listen id).lane .A).nodeRole 1 = true ∧
      ((coldA .listen id).lane .A).nodeRole 2 = false ∧ ((coldA .listen id).lane .A).net.backoff = false ∧
      ((coldA .listen id).lane .A).net.barred = false ∧ (coldA .listen id).leadAllowed .A = true) ∧
    (((confirmedA false).lane .A).net.state = .coldstart ∧ ((confirmedA false).lane .A).net.csSeen = true ∧
      1 ≤ ((confirmedA false).lane .A).net.csConfirm ∧ (confirmedA false).peerActive .A = false) ∧
    (((coldA .coldstart fun n => { n with csCycles := 6 }).lane .A).net.csSeen = false ∧
      ((coldA .coldstart fun n => { n with csCycles := 6 }).lane .A).net.csCycles < 7 ∧
      7 ≤ ((coldA .coldstart fun n => { n with csCycles := 7 }).lane .A).net.csCycles) ∧
    ((netA id).lane .A).net.state ≠ .coldstart := by decide +kernel

/-- Lane A in a state of its node, in contact with lane B, whose node is ACTIVE. -/
def peerB (st : NState) : State :=
  (sUp.on .A fun L => { L with
    vote := { L.vote with contact := ⟨true, true, false⟩ }, net := { L.net with state := st } }).on .B
    fun L => { L with net := { L.net with state := .active } }

theorem wit_ColdStart_peer :
    (((peerB .listen).lane .A).alive = true ∧ (peerB .listen).firstActive .A = some .B ∧
      ((peerB .listen).lane .A).net.barred = false) ∧
    ((peerB .integrate).firstActive .A = some .B ∧ ((peerB .integrate).lane .A).net.state = .integrate ∧
      ((((peerB .integrate).lane .A).nodeTime ((peerB .integrate).lane .A).tb.ns -
        ((0 + 10000 / 2 : Nat) : Int)).natAbs ≤ 5000) ∧
      5000 < (((peerB .integrate).lane .A).nodeTime ((peerB .integrate).lane .A).tb.ns -
        ((0 + 10002 / 2 : Nat) : Int)).natAbs) ∧
    ((peerB .mute).lane .A).net.state = .mute ∧ ((peerB .coldstart).lane .A).net.state = .coldstart ∧
    (netA id).firstActive .A ≠ some .B := by decide +kernel

theorem wit_TimeBaseTick :
    State.reset.pending = [] ∧ (State.reset.lane .A).clk.netLock = false ∧
    ((rA fun L => { L with clk := { L.clk with netLock := true } }).lane .A).clk.netLock = true := by decide +kernel

/-- Lane A with its uplink clock changed, its link up. -/
def uplA (f : UplClock → UplClock) : State := sA fun L => { L with upl := f { L.upl with link := true } }

theorem wit_UplinkClock :
    (((uplA id).lane .A).alive = true ∧ ((uplA id).lane .A).upl.link = true ∧ ((uplA id).lane .A).upl.gmSelf = false ∧
      ((uplA id).lane .A).upl.gmSel = ({} : SyncIn).gm ∧ ((uplA id).lane .A).upl.state = .unset) ∧
    ((sA id).lane .A).upl.link = false ∧ ((uplA id).lane .A).upl.gmSel ≠ ({ gm := 1 } : SyncIn).gm ∧
    ((uplA fun u => { u with state := .synced }).lane .A).upl.state = .synced ∧
    (((uplA id).lane .A).obj 0x2301 2 ≠ 1 ∧ ((obj 0x2301 2 1 ((uplA id).lane .A))).obj 0x2301 2 = 1) ∧
    ((uplA fun u => { u with gmSelf := true }).lane .A).upl.gmSelf = true ∧
    (((sA fun L => { L with tb := { L.tb with slewTicks := 5 } }).lane .A).tb.slewTicks ≠ 0 ∧
      ((sA id).lane .A).tb.slewTicks = 0) ∧
    (((uplA fun u => { u with state := .candidate }).lane .A).writeErr .host 0x2303 1 [1] true false = none ∧
      ((uplA id).lane .A).writeErr .host 0x2303 1 [1] false false = some eState) := by decide +kernel

/-- Lane A with cycle point 5 on, its action a TX_COMMIT. -/
def pointA : State := netA fun L => sch 0x4802 6 0x81000000 L

theorem wit_UplinkClock_point :
    ((pointA.lane .A).runs = true ∧ (pointA.lane .A).vote.running = true ∧
      bit ((pointA.lane .A).sched 0x4802 6) 31 = true ∧ bits ((pointA.lane .A).sched 0x4802 6) 24 4 = 1) ∧
    bit (((netA fun L => sch 0x4802 6 0 L).lane .A).sched 0x4802 6) 31 = false := by decide +kernel

/-- Lane A with its timed actions changed. -/
def taA (f : Ta → Ta) : State := sA fun L => { L with ta := f L.ta }

/-- A capture, or a launch, of the host. -/
def action3 (kind : Nat) : TaEntry := { slot := 3, kind := kind, owner := some .host }

/-- Lane A whose host awaits the result of an action. -/
def waits3 (kind : Nat) : State :=
  taA fun t => { t with entries := [action3 kind], result := t.result.start .host }

/-- A record for a capture at 5 us. -/
def capture5 : List Byte := toBytes 16 (mkTime80 5000 + 2 * 2 ^ 80 + 7 * 2 ^ 96)

theorem wit_TimedActions_submit :
    ((taA id).lane .A).ta.result.busy .host = false ∧
    (((taA id).lane .A).writeErr .host 0x2310 1 capture5 true false = none ∧
      recordOk ((taA id).lane .A).tb.ns (ofBytes capture5) = true ∧ bits (ofBytes capture5) 80 8 = 2 ∧
      ((taA id).lane .A).ta.freeSlot 0 88 = some 0 ∧ time80 (bits (ofBytes capture5) 0 80) = some 5000 ∧
      ((taA id).lane .A).tb.ns + 1000 ≤ 5000) ∧
    (((taA id).lane .A).writeErr .host 0x2310 1 (List.replicate 16 0) true false = none ∧
      recordOk ((taA id).lane .A).tb.ns (ofBytes (List.replicate 16 0)) = false) ∧
    ((waits3 2).lane .A).ta.result.busy .host = true ∧
    ((taA id).lane .A).writeErr .host 0x2310 1 [0] true false = some eLength ∧
    ((taA id).lane .A).writeErr .host 0x2310 2 [7, 0] true false = none ∧
    ((taA id).lane .A).writeErr .host 0x2310 2 [7] true false = some eLength := by decide +kernel

theorem wit_TimedActions_due :
    (((waits3 2).lane .A).ta.entries.find? (fun x => x.slot == (action3 2).slot) = some (action3 2) ∧
      (action3 2).late = false ∧ (action3 2).owner = some .host ∧ (action3 2).kind = 2) ∧
    (((waits3 1).lane .A).ta.entries.find? (fun x => x.slot == (action3 1).slot) = some (action3 1) ∧
      (action3 1).kind = 1 ∧ ((waits3 1).lane .A).upl.link = false ∧ ((uplA id).lane .A).upl.link = true) ∧
    ((taA id).lane .A).ta.entries.find? (fun x => x.slot == 3) = none := by decide +kernel

/-- Lane A with a stamp of tag 9 in the queue of channel X. -/
def stampX : State := sA fun L => { L with tsq := { L.tsq with x := { L.tsq.x with items := [{ tag := 9 }] } } }

theorem wit_TimedActions_pop :
    ((stampX.lane .A).tsq.get .x).items = [{ tag := 9 }] ∧ (9 : W16).toNat = ofBytes [9, 0] ∧
    (stampX.lane .A).writeErr .host (tsqIdx .x) 2 [9, 0] true false = none ∧ (9 : W16).toNat ≠ ofBytes [8, 0] ∧
    (stampX.lane .A).writeErr .host (tsqIdx .x) 2 [8, 0] false false = some eState ∧
    (((sA id).lane .A).tsq.get .x).items = [] := by decide +kernel

/-- Lane A with its uplink up, both address families on, a destination, a telemetry set and its contracts changed. -/
def ctA (f : Ct → Ct) : State := sA fun L =>
  obj 0x4A00 5 1 (obj 0x4A00 6 1 (obj 0x4A20 1 (0xFFFF * 2 ^ 128 + 5) (sch 0x4802 7 0x82000000 (obj 0x4B10 1 1 { L with
    upl := { L.upl with link := true }, ct := f L.ct, sec := { L.sec with serving := 0x100 } }))))

/-- A DIR 0 contract of 1 ms. -/
def contract0 : Contract := { tag := 7, dir := 0, period := 1000, latBound := 100000000, phase := 0xFFFFFFFF }

/-- A DIR 1 contract of channel X, slot 0. -/
def contract1 : Contract := { contract0 with dir := 1 }

/-- A DIR 2 contract. -/
def contract2 : Contract := { num := 1, tag := 9, dir := 2, size := 8 }

/-- A datagram to lane A's port `p`, its tag under uplink key 8 for F. -/
def dgram (p : Nat) (f : Int) : Datagram :=
  let d : Datagram := { dst := ((ctA id).lane .A).ownAddr false, dport := p, payload := [9, 0, 5] }
  { d with tag := dgTag 0 f d }

/-- Lane A's port for the dictionary (sub 8) or for forwarded datagrams (sub 9). -/
def port (sub : Nat) : Nat := ((ctA id).lane .A).obj 0x4A00 sub

theorem wit_UplinkTrafficAndContracts_dictionary :
    (((ctA id).lane .A).alive = true ∧ ((ctA id).lane .A).pairsUp = true ∧ ((ctA id).lane .A).upl.link = true ∧
      ((ctA id).lane .A).lptOn 16 = false ∧ (State.reset.lane .A).alive = false ∧ (State.reset.lane .A).pairsUp = false) ∧
    (((ctA id).lane .A).obj 0x4A00 5 ≠ 0 ∧ fitsFrame (dgram (port 8) 0) = true ∧
      (dgram (port 8) 0).dst = ((ctA id).lane .A).ownAddr (dgram (port 8) 0).v6 ∧
      (dgram (port 8) 0).dport = ((ctA id).lane .A).obj 0x4A00 8) ∧
    (((ctA id).lane .A).advance 0).tagOk (dgram (port 8) 5) = false ∧
    (((ctA id).lane .A).advance 0).tagOk (dgram (port 8) 0) = true ∧
    (((((ctA id).lane .A).advance 0).replayNow.any fun e =>
        e.1 == (dgram (port 8) 0).tag && e.2.1 == (dgram (port 8) 0).src) = false ∧
      (((ctA id).lane .A).advance 0).replayNow.length < 512) ∧
    ((((ctA fun c => { c with replay := [((dgram (port 8) 0).tag, [], 0)] }).lane .A).advance 0).replayNow.any fun e =>
        e.1 == (dgram (port 8) 0).tag && e.2.1 == (dgram (port 8) 0).src) = true := by decide +kernel

theorem wit_UplinkTrafficAndContracts_forward :
    (dgram (port 9) 0).dport ≠ ((ctA id).lane .A).obj 0x4A00 8 ∧
    (dgram (port 9) 0).dport = ((ctA id).lane .A).obj 0x4A00 9 ∧
    (((ctA fun c => { c with list := [contract2] }).lane .A).advance 0).tagOk (dgram (port 9) 0) = true ∧
    (((ctA fun c => { c with list := [contract2] }).lane .A).ct.list.find? fun x =>
        x.dir == 2 && x.tag == ofBytes ((dgram (port 9) 0).payload.take 2)) = some contract2 ∧
    ((dgram (port 9) 0).payload.drop 2).length ≤ contract2.size := by decide +kernel

/-- Lane A with one contract and one snapshot, at 40 us. -/
def snapA (c : Contract) : State := (ctA fun x => { x with list := [c], snaps := [{}] }).on .A fun L =>
  { L with tb := { L.tb with ns := 40000 }, net := { L.net with rxFrames := [{}] } }

theorem wit_UplinkTrafficAndContracts_windows :
    (((snapA contract0).lane .A).ct.list.find? (fun c => c.num == 0) = some contract0 ∧
      ((snapA contract0).lane .A).pairsUp = true ∧ ((snapA contract0).lane .A).upl.link = true ∧ contract0.dir = 0 ∧
      (({} : TSnap) ∈ ((snapA contract0).lane .A).ct.snaps ∧
        ({} : TSnap).prodNs + 40000 ≤ ((snapA contract0).lane .A).tb.ns)) ∧
    (((snapA contract1).lane .A).ct.list.find? (fun c => c.num == 0) = some contract1 ∧ contract1.dir = 1 ∧
      (((snapA contract1).lane .A).net.rxFrames.find? fun f =>
        f.ch == (ctSlot contract1.source).1 && f.slot == (ctSlot contract1.source).2) = some {}) ∧
    (((ctA fun c => { c with list := [contract0] }).lane .A).ct.snaps = [] ∧ contract0.everEmpty = false ∧
      ((ctA id).lane .A).ct.list.find? (fun c => c.num == 0) = none) := by
  decide +kernel

/-- The record of contract0 as it is written. -/
def record0 : List Byte :=
  toBytes 24 (7 + 1000 * 2 ^ 64 + 100000000 * 2 ^ 128 + 0xFFFFFFFF * 2 ^ 160)

theorem wit_UplinkTrafficAndContracts_admission :
    (((ctA id).lane .A).writeErr .host 0x4A01 1 record0 true false = none ∧
      ((ctA id).lane .A).ct.result.busy .host = false ∧
      (((ctA id).lane .A).sbCount .host 0x4A01).placeContract (ctRecord (ofBytes record0))
        (bits (ofBytes record0) 18 5) = .inl 0) ∧
    (((sA id).lane .A).sbCount .host 0x4A01).placeContract (ctRecord (ofBytes record0)) (bits (ofBytes record0) 18 5) =
      .inr 3 ∧
    ((ctA fun c => { c with result := c.result.start .host }).lane .A).ct.result.busy .host = true ∧
    ((ctA id).lane .A).writeErr .host 0x4A01 1 [] true false = some eLength ∧
    ((((ctA fun c => { c with list := [contract2] }).lane .A).ct.list.find? fun c => c.tag == ofBytes [9, 0]) =
        some contract2 ∧
      ((ctA fun c => { c with list := [contract2] }).lane .A).writeErr .host 0x4A01 2 [9, 0] true false = none) ∧
    ((((ctA id).lane .A).ct.list.find? fun c => c.tag == ofBytes [9, 0]) = none ∧
      ((ctA id).lane .A).writeErr .host 0x4A01 2 [9, 0] false false = some eState) := by decide +kernel

theorem wit_WindowsApart :
    ((ctA id).lane .A).placeContract contract0 0 = .inl 0 ∧ contract0.dir ≠ 2 ∧ contract0.phase = 0xFFFFFFFF ∧
    ((ctA id).lane .A).placeContract { contract0 with phase := 999 } 0 = .inl 999 := by decide +kernel
/-! ### Dictionary, side-band, power, safety, security, diagnostics -/

/-- Lane A with its seal open and its dictionary server changed. -/
def dictA (f : Dict → Dict) : State := sA fun L => unsealed { L with dict := f L.dict }

theorem wit_Transfers_reads :
    ((dictA id).lane .A).reaches .host = true ∧ Master.host ≠ .sideBand ∧ Master.host ≠ .supervisory ∧
    ((dictA id).lane .A).readErr .host 0x2101 1 = none ∧ ((dictA id).lane .A).dict.snaps = [] ∧
    (((dictA id).lane .A).readValue 0x2101 1).length ≤ 4 ∧ 0 < (((dictA id).lane .A).readValue 0x2101 1).length ∧
    ¬(1 = 1 ∧ (0x2101 = 0x2510 ∨ 0x2101 = 0x2501)) ∧
    ((dictA id).lane .A).readErr .host 0x0FFF 1 = some 0x06020000 ∧ (State.reset.lane .A).reaches .host = false := by
  decide +kernel

/-- Lane A with a published copy and its uplink up; lane B at work. -/
def pubA : State :=
  { (sUp.on .A fun L => { L with upl := { L.upl with link := true } }) with pub := ⟨some (sUp.lane .A), none, none⟩ }

theorem wit_Transfers_supervisory :
    (pubA.pub.get .A = some (sUp.lane .A) ∧ (pubA.lane .A).upl.link = true ∧ (pubA.lane .A).lptOn 16 = false ∧
      (pubA.lane .A).reaches .supervisory = true ∧ (pubA.lane .A).readErr .supervisory 0x2101 1 = none ∧
      ((sUp.lane .A).readValue 0x2101 1).length ≤ min 4 (1384 - (pubA.lane .A).supSoFar.length)) ∧
    (sUp.lane .A).upl.link = false := by decide +kernel

theorem wit_Transfers_peers :
    (sUp.via .A .B = some .B ∧ (sUp.lane .B).alive = true ∧ (sUp.lane .A).alive = true ∧
      (sUp.lane .A).reaches .peer = true ∧ (sUp.lane .A).readErr .peer 0x2101 1 = none ∧
      ((sUp.lane .A).readValue 0x2101 1).length ≤ 4) ∧
    sUp.via .A .A = none := by decide +kernel

/-- A write buffer of the host. -/
def buf1 : WriteBuf := { m := .host, tid := 1, idx := 0x2101, sub := 1, total := 4, data := [1] }

theorem wit_Transfers_segments :
    (((dictA id).lane .A).dict.wbufs = [] ∧ ((dictA id).lane .A).txnFull .host = false ∧
      ([1] : List Byte).length < 4) ∧
    ((dictA fun d => { d with wbufs := [buf1] }).lane .A).dict.bufOf .host 1 = some buf1 ∧
    ((dictA id).lane .A).dict.bufOf .host 1 = none ∧
    (((taA fun t => { t with result := { t.result with host := { state := .ready } } }).lane .A).ta.result.host.state =
        .ready ∧
      ((taA fun t => { t with result := { t.result with host := { state := .ready } } }).lane .A).reaches .host = true ∧
      ((taA fun t => { t with result := { t.result with host := { state := .ready } } }).lane .A).dict.snaps = []) := by
  decide +kernel

/-- A prepared commit of lane B for cycle 0. -/
def commitB : Commit := { server := .B, ctr := 5, items := [{ idx := 0x2600, sub := 8, raw := 100 }] }

/-- Lane A in cycle 0 at a time, lane B with its prepare sent. -/
def prepared (ns : Nat) : State :=
  (sUp.on .A fun L => { L with tb := { L.tb with ns := ns } }).on .B fun L =>
    { L with dict := { L.dict with outbox := [commitB] } }

theorem wit_ObjectWrites_local :
    (((dictA id).lane .A).reaches .host = true ∧ ((dictA id).lane .A).dict.wbufs = [] ∧ 0x2101 ≤ 0x2101 ∧
      0x2101 < 0x2203 ∧ ((dictA id).lane .A).plainErr .host 0x2101 1 [] false = some eLength ∧
      ((dictA id).lane .A).plainErr .host 0x2101 1 [1] false = none ∧ isWide 0x2101 1 = false) ∧
    (0 + ([1] : List Byte).length ≠ 2 ∧ (State.reset.lane .A).reaches .host = false) := by decide +kernel

theorem wit_ObjectWrites_commit :
    (isWide 0x2600 8 = true ∧ ((dictA id).lane .A).plainErr .host 0x2600 8 [0xE8, 3] false = none ∧
      ((dictA id).lane .A).vote.running = true ∧ ((dictA id).lane .A).dict.prepared < 8) ∧
    ((prepared 0).via .A .B = some .B ∧
      ((prepared 0).lane .B).dict.outbox.find? (fun c => c.server == .B && c.ctr == 5) = some commitB ∧
      ((prepared 0).lane .A).alive = true ∧ ((prepared 0).lane .A).vote.running = true ∧
      ((prepared 0).lane .A).vote.cycle = commitB.cycle ∧
      ((prepared 0).lane .A).tb.ns < ((prepared 0).lane .A).vote.startNs + ((prepared 0).lane .A).tClose * 1000) ∧
    ((prepared 300000).lane .A).vote.startNs + ((prepared 300000).lane .A).tClose * 1000 ≤
      ((prepared 300000).lane .A).tb.ns ∧
    (prepared 0).via .A .A = none := by decide +kernel

/-- A vote with yes on commitB. -/
def voteB : Machine.Vote := { server := .B, ctr := 5, yes := true, items := commitB.items }

theorem wit_CommitsDecided :
    commitOutcome ⟨some { votes := [voteB] }, some { votes := [voteB] }, none⟩ [voteB] voteB = none ∧
    voteB ∈ [voteB] ∧ voteB.items ≠ [] ∧
    voteMeets ⟨some { votes := [voteB] }, some { votes := [voteB] }, none⟩ voteB = true ∧
    (∀ i ∈ voteB.items, itemConflict [voteB] i = false) ∧
    (((dictA fun d => { d with known := [{ commitB with decided := some true }] }).lane .A).dict.known =
        [{ commitB with decided := some true }] ∧
      commitB.items = [{ idx := 0x2600, sub := 8, raw := 100 }] ∧ ¬(0x2600 = 0x4300 ∧ 8 = 9) ∧
      okey 0x2600 7 ≠ okey 0x2600 8) ∧
    (∀ c ∈ ((dictA fun d => { d with known := [commitB] }).lane .A).dict.known, c.decided ≠ some true) := by
  decide +kernel

/-- Lane A with a side-band session, its keys 10 and 11 and 0 written. -/
def sbA (f : Sb → Sb) : State := sA fun L => unsealed { L with
  sb := f { L.sb with isOpen := true }, sec := { L.sec with written := 0xC01 } }

/-- A pending write of the side-band to WAKE_EN. -/
def pend1 : SbPend := { idx := 0x2101, sub := 1, data := [1] }

theorem wit_SideBandSession_open :
    (((sbA id).lane .A).sbReach = true ∧ ((sbA id).lane .A).pwr.state ≠ .standby ∧
      ((sbA id).lane .A).sb.isOpen = true ∧ ((sbA id).lane .A).keyOk 10 = true ∧ ((sA id).lane .A).keyOk 10 = false) ∧
    (((sbA fun b => { b with isOpen := false, challenge := some 5 }).lane .A).sb.challenge = some 5 ∧
      ((sbA fun b => { b with isOpen := false, challenge := some 5 }).lane .A).sb.isOpen = false) ∧
    (0x2101 ≠ 0x2510 ∧ (sbA id).downloadCode .A 0x2101 1 [1] = 0 ∧ (sA id).downloadCode .A 0x2101 1 [1] ≠ 0) := by
  decide +kernel

theorem wit_SideBandSession_write :
    (((sbA fun b => { b with pend := some pend1 }).lane .A).sb.pend = some pend1 ∧ pend1.idx = 0x2101 ∧ pend1.sub = 1 ∧
      ((sbA fun b => { b with pend := some pend1 }).lane .A).plainErr .sideBand 0x2101 1 pend1.data false = none) ∧
    ((sbA id).lane .A).sb.pend = none ∧
    ((sbA id).lane .A).writeErr .host 0x2510 4 [1] true false = none ∧ ((sA id).lane .A).sb.isOpen = false ∧
    ((rA fun L => { L with pwr := { L.pwr with state := .standby } }).lane .A).pwr.state = .standby := by decide +kernel

/-- Lane A with one PROGRAM_DATA subindex changed, its seal open. -/
def stageA (k : Fin 5) (g : Staging) : State := sA fun L => unsealed (L.setStage k g)

/-- A firmware image without a body: header with SHA-256 of the empty body, an ECDSA signature under the private key 1
with nonce 2 over SHA-256 of bytes 0-63, and the public key. -/
def image0 : List Byte := toBytes 192
  0xf551bf376840b6cbce5e316b5733ce2b169e0f7c4aebe78e9b7f1afee242e34f96c298d84539a1f4a033eb2d817d0377f240a463e5e6bcf847422ce1f2d1176bb6d55ec73bddc89d65d99437e66a130247f56f4dc77a9d0a3f63bd26dc3c658d78996647fc480ba6351bf277e26989c0c31ab5040338528a7e4f038d187bf27c55b852781b9995a44c939b64e441ae2724b96f99c8f4fb9a141cfc9842c4b0e30000000000000000000000000000000000000000000000100000010146335444

/-- The hash of the public key of image0. -/
def imageKeyHash : BitVec 256 := 0xd875db7def232236aec738c6b0bb3e80142f5d0fd8f4df24fed6eef5cbb50d9f

/-- Lane A with image0 staged, and the hash of its key in the factory memory. -/
def stagedA (f : Sec → Sec) (g : Staging) : State := sA fun L =>
  unsealed ({ L with sec := f { L.sec with fwHash := imageKeyHash } }.setStage 0 g)

theorem wit_ProgramsAndSets_stage :
    (((stageA 0 {}).lane .A).reaches .host = true ∧ ((stageA 0 {}).lane .A).dict.wbufs = [] ∧
      ((stageA 0 {}).lane .A).dict.staging.length = 5 ∧
      ((stageA 0 {}).lane .A).writeErr .host 0x1F50 1 [] true false = none ∧ image0.length ≤ 4194304 ∧
      image0.length ≠ 0) ∧
    (((sA id).lane .A).writeErr .peer 0x1F50 1 [] true false = some 0x06010000 ∧ ((sA id).lane .A).reaches .peer = true) := by decide +kernel

theorem wit_ProgramsAndSets_larger : (262144 : Nat) < (List.replicate 262145 (0 : Byte)).length := by
  rw [List.length_replicate]; decide

theorem wit_ProgramsAndSets_install :
    (((stagedA id { image := some image0 }).lane .A).writeErr .host 0x1F51 1 [1] true false = none ∧
      ((stagedA id { image := some image0 }).lane .A).dict.progRes.busy .host = false ∧
      (((stagedA id { image := some image0 }).lane .A).dict.stage 0).busy = none ∧
      ((stagedA id { image := some image0 }).lane .A).installCheck 0 = 0 ∧
      ((stagedA (fun x => { x with minFw := 99 }) { image := some image0 }).lane .A).installCheck 0 = 3 ∧
      ((stagedA (fun x => { x with fwHash := 0 }) { image := some image0 }).lane .A).installCheck 0 = 1) ∧
    (((stageA 0 {}).lane .A).installCheck 0 = 4 ∧ (((stageA 0 { busy := some [] }).lane .A).dict.stage 0).busy.isSome = true ∧
      ((sA id).lane .A).writeErr .peer 0x1F51 1 [1] true false = some 0x06010000) := by decide +kernel

theorem wit_ProgramsAndSets_complete :
    ((((stageA 0 { busy := some image0 }).lane .A).dict.stage 0).busy = some image0 ∧
      ((stageA 0 { busy := some image0 }).lane .A).dict.staging.length = 5 ∧
      ((stageA 0 { busy := some image0 }).lane .A).dict.sets.length = 4 ∧
      ((stageA 0 { busy := some image0 }).lane .A).sec.active = 0) ∧
    ((stagedA (fun x => { x with active := 1 }) { busy := some image0 }).lane .A).sec.active ≠ 0 ∧
    (((stageA 1 { busy := some [] }).lane .A).dict.stage 1).busy = some [] ∧ (1 : Fin 5) ≠ 0 ∧
    (((stageA 0 {}).lane .A).dict.stage 0).busy = none := by decide +kernel

theorem wit_ProgramsAndSets_sets :
    (((stageA 0 { image := some [] }).lane .A).writeErr .host 0x1F51 1 [3] true false = none ∧
      ((sA id).lane .A).writeErr .peer 0x1F51 1 [3] true false = some 0x06010000) ∧
    (((stageA 0 {}).lane .A).writeErr .host 0x2404 5 [3] true false = none ∧
      ((stageA 0 {}).lane .A).writeErr .host 0x2404 5 [] true false = some eLength) ∧
    (((stageA 0 {}).lane .A).writeErr .host 0x2001 3 [1, 0] true false = none ∧
      ((stageA 0 {}).lane .A).writeErr .host 0x2001 3 [] true false = some eLength) := by decide +kernel

/-- Lane A ready for RUN but for what is changed. -/
def readyA (st : PState) (f : Lane → Lane) : State := sA fun L => f { L with
  pwr := { L.pwr with state := st }
  sec := { L.sec with written := 0xC01, bootOk := true }, safe := { L.safe with chkOk := true } }

/-- Lane A, the lead in RUN, at standstill or not. -/
def leadA (still : Bool) (f : Pwr → Pwr) : State := readyA .run fun L => { L with
  vote := { L.vote with role := .lead, lastStatus := if still then 128 else 0 }, pwr := f L.pwr }

theorem wit_PowerRequests_run :
    (((readyA .hold id).lane .A).reaches .host = true ∧ ((readyA .hold id).lane .A).pwr.phase = 0 ∧
      ((readyA .hold id).lane .A).pwr.state = .hold ∧
      ((readyA .hold id).lane .A).writeErr .host 0x2100 2 [1] true false = none ∧
      ((readyA .hold id).lane .A).runOk = true ∧ ((readyA .hold unsealed).lane .A).runOk = false ∧
      ((readyA .hold unsealed).lane .A).pwr.state = .hold) ∧
    (((leadA true id).lane .A).pwr.exit = false ∧ ((leadA true id).lane .A).pwr.state = .run ∧
      ((leadA true fun p => { p with exit := true, exitTo := 2 }).lane .A).pwr.exit = true ∧
      ((leadA true fun p => { p with exit := true, exitTo := 2 }).lane .A).pwr.exitPassive = false ∧
      1 < ((leadA true fun p => { p with exit := true, exitTo := 2 }).lane .A).pwr.exitTo) ∧
    (((readyA .starting id).lane .A).pwr.state = .starting ∧ ((readyA .starting id).lane .A).mem.testing = false ∧
      ((readyA .starting id).lane .A).reaches .host = true ∧
      ((readyA .starting id).lane .A).writeErr .host 0x2100 2 [1] true false = none) ∧
    ((State.reset.lane .A).reaches .host = false ∧ ((readyA .hold id).lane .A).reaches .peer = true ∧
      ((readyA .hold id).lane .A).writeErr .peer 0x2100 2 [1] true false = some 0x06010000) := by decide +kernel

theorem wit_PowerRequests_exit :
    (((leadA true id).lane .A).vote.role.drives = true ∧ ((leadA true id).lane .A).reaches .host = true ∧
      ((leadA true id).lane .A).pwr.phase = 0 ∧ ((leadA true id).lane .A).stoodStill = true ∧
      ((leadA false id).lane .A).stoodStill = false) ∧
    (((readyA .run id).lane .A).vote.role.drives = false ∧ ((readyA .run id).lane .A).pwr.exitPassive = false) ∧
    (∀ k ∈ [2, 3, 4], ((leadA true id).lane .A).writeErr .host 0x2100 2 [BitVec.ofNat 8 k] true false = none ∧
      ((readyA .hold id).lane .A).writeErr .host 0x2100 2 [BitVec.ofNat 8 k] true false = none ∧
      ((readyA .starting id).lane .A).writeErr .host 0x2100 2 [BitVec.ofNat 8 k] true false = none ∧
      ((readyA .hold id).lane .A).writeErr .peer 0x2100 2 [BitVec.ofNat 8 k] true false = some 0x06010000) := by
  decide +kernel

/-- Lane A in STANDBY with a side-band session of its always-on monitor. -/
def standbyA (wake : Nat) : State := readyA .standby fun L => obj 0x2101 1 wake (unsealed { L with
  sb := { L.sb with isOpen := true }, pwr := { L.pwr with monUp := true } })

theorem wit_PowerRequests_standby :
    (((standbyA 4).lane .A).reaches .sideBand = true ∧ ((standbyA 4).lane .A).pwr.phase = 0 ∧
      ((standbyA 4).lane .A).pwr.state = .standby ∧ ((standbyA 4).lane .A).pwr.monUp = true ∧
      bit (((standbyA 4).lane .A).obj 0x2101 1) 2 = true ∧ bit (((standbyA 3).lane .A).obj 0x2101 1) 2 = false) ∧
    (∀ k ∈ [1, 2, 3, 4], ((standbyA 4).lane .A).writeErr .sideBand 0x2100 2 [BitVec.ofNat 8 k] true false = none) ∧
    (((readyA .hold (obj 0x2100 3 1)).lane .A).alive = true ∧
      ((readyA .hold (obj 0x2100 3 1)).lane .A).vote.running = true ∧
      ((readyA .hold (obj 0x2100 3 1)).lane .A).obj 0x2100 3 = 1 ∧
      ((readyA .hold (obj 0x2100 3 1)).lane .A).runOk = true ∧ ((readyA .hold id).lane .A).obj 0x2100 3 ≠ 1) := by
  decide +kernel

/-- Lane A, the lead, at the end of its exit towards a state, beside lane B, a follower. -/
def exitingA (k : Nat) (passive : Bool) (r : Role) : State :=
  (sUp.on .A fun L => { L with
    vote := { L.vote with role := r }, pwr := { L.pwr with exit := true, exitTo := k, exitPassive := passive }
    svc := { L.svc with exitStep := ⟨some 100000, none, none⟩ } }).on .B
    fun L => { L with vote := { L.vote with role := .follower } }

theorem wit_ExitsAndFormation_places (k : Nat) (p : Bool) (r : Role) : (exitingA k p r).placed ∧ sUp.placed :=
  ⟨fun l => by cases l <;> rfl, fun l => by cases l <;> rfl⟩

theorem wit_ExitsAndFormation :
    (((exitingA 2 false .lead).lane .A).alive = true ∧ ((exitingA 2 false .lead).lane .A).pwr.exit = true ∧
      ((exitingA 2 false .lead).lane .A).pwr.exitPassive = false ∧
      ((exitingA 2 false .lead).lane .A).vote.role.drives = true ∧
      ((exitingA 2 false .lead).lane .A).svc.exitStep.get .A = some 100000 ∧
      ((exitingA 2 false .lead).lane .A).rampSteps ≤ 100000 ∧
      ((exitingA 2 false .lead).lane .A).pwr.exitTo = 2 ∧ ((exitingA 3 false .lead).lane .A).pwr.exitTo = 3 ∧
      ((exitingA 4 false .lead).lane .A).pwr.exitTo = 4 ∧
      ((exitingA 2 false .lead).lane .B).vote.role.drives = true) ∧
    ((((exitingA 2 true .shadow).lane .A).alive && ((exitingA 2 true .shadow).lane .A).pwr.exitPassive &&
        ((exitingA 2 true .shadow).lane .A).vote.role == .shadow) = true ∧
      ((exitingA 2 true .shadow).lane .A).pwr.exitTo = 2) ∧
    (((sUp.lane .A).alive && (sUp.lane .A).pwr.exitPassive && (sUp.lane .A).vote.role == .shadow) = false) ∧
    ((sUp.onAll fun L => { L with vote := { L.vote with contact := Tri.all true } }).formers = [.A, .B, .C] ∧
      (sUp.onAll fun L => { L with vote := { L.vote with contact := Tri.all true } }).anyDrives = false) := by
  decide +kernel

/-- Lane A with its power state changed. -/
def pwrA (f : Pwr → Pwr) : State := rA fun L => { L with pwr := f L.pwr }

/-- Lane A with a power state changed and every wake source enabled but the side-band. -/
def wakesA (f : Pwr → Pwr) : State := rA fun L => obj 0x2101 1 3 { L with pwr := f L.pwr }

theorem wit_SupplyAndWake_supply :
    (((pwrA fun p => { p with vinOn := false }).lane .A).pwr.vinOn = false ∧
      ((pwrA fun p => { p with vinOn := false }).lane .A).pwr.phase = 0 ∧
      ((pwrA fun p => { p with vinOn := false }).lane .A).pwr.nrst = false) ∧
    ((pwrA fun p => { p with vinOn := false, nrst := true }).lane .A).pwr.nrst = true ∧
    (((pwrA fun p => { p with vinOn := true, step := 3 }).lane .A).pwr.step ≠ 0 ∧
      ((pwrA fun p => { p with vinOn := true, state := .off }).lane .A).pwr.state = .off) ∧
    (((pwrA fun p => { p with nrst := true, vinOn := true }).lane .A).pwr.nrst = true ∧
      ((pwrA fun p => { p with nrst := true, vinOn := true }).lane .A).pwr.vinOn = true ∧
      ((pwrA fun p => { p with vaonOn := true }).lane .A).pwr.vaonOn = true) ∧
    ((sUp.lane .A).watched = true ∧ (sUp.lane .A).vote.outNow = false ∧
      ((pwrA fun p => { p with vinOn := false }).lane .A).watched = false) := by decide +kernel

theorem wit_SupplyAndWake_wakes :
    (((wakesA fun p => { p with state := .standby }).lane .A).pwr.state = .standby ∧
      ((wakesA fun p => { p with state := .standby }).lane .A).pwr.vinOn = true ∧
      ((wakesA fun p => { p with state := .standby }).lane .A).pwr.nrst = false ∧
      bit (((wakesA fun p => { p with state := .standby }).lane .A).obj 0x2101 1) (wakeBit .pin) = true ∧
      bit (((wakesA fun p => { p with state := .standby }).lane .A).obj 0x2101 1) (wakeBit .pattern) = true ∧
      bit ((obj 0x2101 1 0 (State.reset.lane .A)).obj 0x2101 1) (wakeBit .pattern) = false) ∧
    (((wakesA fun p => { p with state := .hold, phase := 4, asleep := true }).lane .A).pwr.phase = 4 ∧
      ((wakesA fun p => { p with state := .hold, phase := 4, asleep := true }).lane .A).pwr.asleep = true ∧
      ((wakesA fun p => { p with state := .hold, phase := 4, asleep := true }).lane .A).mem.testing = false) ∧
    (∀ k ∈ [1, 2], ((wakesA fun p => { p with state := .hold, phase := k }).lane .A).pwr.phase = k ∧
      ((wakesA fun p => { p with state := .hold, phase := k }).lane .A).pwr.asleep = false ∧
      ((wakesA fun p => { p with state := .hold, phase := k }).lane .A).pwr.abandon = false ∧
      ((wakesA fun p => { p with state := .hold, phase := k, abandon := true }).lane .A).pwr.abandon = true) ∧
    ((wakesA fun p => { p with state := .hold, phase := 0 }).lane .A).pwr.phase = 0 := by decide +kernel

theorem wit_EntryPhases :
    (((pwrA fun p => { p with phase := 1 }).lane .A).pwr.phase = 1 ∧
      ((pwrA fun p => { p with phase := 1 }).lane .A).pwr.abandon = false ∧
      ((pwrA fun p => { p with phase := 1, abandon := true }).lane .A).pwr.abandon = true ∧
      ((pwrA fun p => { p with phase := 1, abandon := true }).lane .A).mem.testing = false) ∧
    (((pwrA fun p => { p with phase := 2 }).lane .A).pwr.phase = 2 ∧
      ((pwrA fun p => { p with phase := 2 }).lane .A).mem.running = false ∧
      ((pwrA fun p => { p with phase := 2 }).lane .A).mem.testing = false ∧
      ((pwrA fun p => { p with phase := 2, abandon := true }).lane .A).pwr.abandon = true ∧
      ((rA fun L => { L with pwr := { L.pwr with phase := 2 }, mem := { L.mem with running := true } }).lane .A).mem.running =
        true) ∧
    ((pwrA fun p => { p with phase := 3 }).lane .A).pwr.phase = 3 ∧
    (((pwrA fun p => { p with phase := 4 }).lane .A).pwr.latched = false ∧
      ((pwrA fun p => { p with phase := 4 }).lane .A).pwr.toOff = false) ∧
    ((pwrA fun p => { p with phase := 4, toOff := true }).lane .A).pwr.toOff = true ∧
    ((pwrA fun p => { p with phase := 4, latched := true }).lane .A).pwr.latched = true ∧
    (State.reset.lane .A).pwr.phase = 0 := by decide +kernel

/-- Lane A at a restore step. -/
def atStep (k : Nat) : State := pwrA fun p => { p with step := k }

theorem wit_RestoreOrder :
    (∀ k ∈ List.range 9, ((atStep k).lane .A).restoring = true ∧ ((atStep k).lane .A).pwr.step = k ∧
      ({} : StepReport).latent ∉ startTests ((atStep k).lane .A).pwr.step) ∧
    ({ done := false } : StepReport).done = false ∧ ({} : StepReport).done = true ∧ ({} : StepReport).cells = [] ∧
    ((atStep 5).lane .A).mem.marked = [] ∧ ({} : StepReport).pins = some (0, 0) ∧
    ((atStep 6).lane .A).sec.bankPasses ((atStep 6).lane .A).sec.active = true ∧
    (((rA fun L => { L with sec := { L.sec with bank0 := { ok := false }, bank1 := { ok := false } } }).lane .A).sec.bankPasses
        0 = false ∧
      ((rA fun L => { L with sec := { L.sec with bank0 := { ok := false }, bank1 := { ok := false } } }).lane .A).sec.bankPasses
        1 = false) ∧
    (startTests 8 ≠ [] ∧ (sUp.lane .A).restoring = false) := by decide +kernel

/-- Lane A sampling, its safety inputs in a mode and changed. -/
def safeA (mode : Nat) (f : Safe → Safe) : State :=
  sA fun L => obj 0x2400 1 mode { L with safe := f L.safe }

/-- Safety inputs with one state in all. -/
def inputs (x : SafeIn) (v : Safe) : Safe := { v with inp := Oct.all x }

theorem wit_SafetyInputsAndSeal_inputs :
    ((safeA 5 id).lane .A).sampling = true ∧ ((safeA 5 id).lane .A).siMode 0 % 4 = 1 ∧
    ((safeA 2 id).lane .A).siMode 0 % 4 = 2 ∧
    (inputState (((safeA 1 id).lane .A).siMode 0) true false = none ∧ ((safeA 1 id).lane .A).siMode 0 % 4 ≠ 0 ∧
      ((((safeA 1 (inputs { modeUsed := 1 })).lane .A).safe.inp.get 0).modeUsed =
        ((safeA 1 (inputs { modeUsed := 1 })).lane .A).siMode 0)) ∧
    ((((safeA 1 (inputs { dis := some 100000 })).lane .A).safe.inp.get 0).dis = some 100000 ∧
      ((safeA 1 (inputs { dis := some 100000 })).lane .A).discSamples 0 + 1 ≤ 100000 ∧
      (((safeA 1 (inputs { dis := some 100000 })).lane .A).safe.inp.get 0).disc = false) ∧
    (0 ≤ ((safeA 1 (inputs { dis := some 0 })).lane .A).discSamples 0 ∧
      (((safeA 1 (inputs {})).lane .A).safe.inp.get 0).dis = none ∧ (State.reset.lane .A).sampling = false) ∧
    (((safeA 5 (inputs { ch1 := true, run1 := 1 })).lane .A).tpoUsed false = true ∧
      ((safeA 5 (inputs { ch1 := true, run1 := 1 })).lane .A).selects false 0 = true ∧
      (((safeA 5 (inputs { ch1 := true, run1 := 1 })).lane .A).safe.inp.get 0).ch1 = true ∧
      1 ≤ (((safeA 5 (inputs { ch1 := true, run1 := 1 })).lane .A).safe.inp.get 0).run1 ∧
      ((safeA 5 (inputs { ch1 := true, run1 := 1 })).lane .A).selects false 1 = false) := by decide +kernel

theorem wit_SafetyInputsAndSeal_resets :
    (((safeA 1 fun x => { x with released := some 200 }).lane .A).safe.released = some 200 ∧
      ((safeA 1 fun x => { x with released := some 8000 }).lane .A).safe.released = some 8000 ∧ (199 < 200 ∨ 8000 < 199) ∧
      ((safeA 1 id).lane .A).safe.released = none) ∧
    (((safeA 1 fun x => { x with press := some 8001 }).lane .A).safe.press = some 8001 ∧
      ((safeA 1 fun x => { x with press := some 8001 }).lane .A).safe.stuck = false ∧
      ((safeA 1 id).lane .A).safe.press = none) ∧
    (8 ≤ ((safeA 1 fun x => { x with openRun := 8 }).lane .A).safe.openRun ∧
      ((safeA 1 fun x => { x with openRun := 8 }).lane .A).safe.sealOpen = false ∧
      ((safeA 1 fun x => { x with openRun := 8 }).lane .A).pwr.state = .run ∧
      (State.reset.lane .A).pwr.state ≠ .run ∧ (State.reset.lane .A).safe.openRun < 8) ∧
    (400 ≤ ((safeA 1 fun x => { x with equalRun := 400 }).lane .A).safe.equalRun ∧
      ((safeA 1 fun x => { x with equalRun := 400 }).lane .A).safe.disagree = false ∧
      ((safeA 1 fun x => { x with equalRun := 399 }).lane .A).safe.equalRun < 400) ∧
    (({} : SafetyPins).seal1 && !({} : SafetyPins).seal2) = false := by decide +kernel

theorem wit_Ds2Objects :
    (sUp.lane .A).obj 0x2405 1 = 0 ∧ (sUp.lane .A).pairsUp = true ∧ (sUp.lane .A).txnFull .host = false ∧
    (sUp.lane .A).dict.wbufs = [] ∧
    (((sbA id).lane .A).obj 0x2405 1 = 0 ∧ ((sbA id).lane .A).pairsUp = true ∧
      ((sbA id).lane .A).txnFull .sideBand = false ∧ ((sbA id).lane .A).sb.isOpen = true ∧
      ((sbA id).lane .A).sbReach = true ∧ ((sbA id).lane .A).dict.wbufs = []) := by decide +kernel

/-- Lane A in the DS2 mode with the host unlocked, a password hash and a window onto an object. -/
def ds2A (target : Nat) (f : Ds2 → Ds2) : State := sA fun L =>
  obj 0x2405 1 1 (obj 0x2405 6 77 (obj 0x2405 3 target (unsealed { L with ds2 := f { L.ds2 with unlockHost := true } })))

theorem wit_Ds2Method_password :
    ((ds2A 0 id).lane .A).writeErr .host 0x2405 2 [65, 66, 67, 68] (((ds2A 0 id).lane .A).obj 0x2405 1 == 1) false = none ∧
    ((ds2A 0 id).lane .A).ds2.blocked = false ∧ ((ds2A 0 id).lane .A).obj 0x2405 6 ≠ 0 ∧
    (obj 0x2405 6 0 ((ds2A 0 id).lane .A)).obj 0x2405 6 = 0 ∧
    ((ds2A 0 fun d => { d with blocked := true }).lane .A).ds2.blocked = true ∧
    ((sA id).lane .A).writeErr .host 0x2405 2 [65, 66, 67, 68] (((sA id).lane .A).obj 0x2405 1 == 1) false =
      some 0x08000022 ∧
    ([65, 66, 67, 68] : List Byte).length ≠ 5 ∧ ((ds2A 0 id).lane .A).reaches .host = true := by decide +kernel

theorem wit_Ds2Method_window :
    (((ds2A 0x21010100 id).lane .A).obj 0x2405 3 ≠ 0 ∧ bits (((ds2A 0x21010100 id).lane .A).obj 0x2405 3) 16 16 = 0x2101 ∧
      bits (((ds2A 0x21010100 id).lane .A).obj 0x2405 3) 8 8 = 1 ∧
      ((ds2A 0x21010100 id).lane .A).writeErr .host 0x2405 4 [1] true false = none ∧
      ((ds2A 0x21010100 id).lane .A).plainErr .host 0x2101 1 [1] true = none ∧ isWide 0x2101 1 = false ∧
      ((ds2A 0x21010100 id).lane .A).plainErr .host 0x2101 1 [] true = some eLength) ∧
    (((ds2A 0x26000800 id).lane .A).plainErr .host 0x2600 8 [0xE8, 3] true = none ∧ isWide 0x2600 8 = true ∧
      ((ds2A 0x26000800 id).lane .A).writeErr .host 0x2405 4 [0xE8, 3] true false = none) ∧
    (((ds2A 0 id).lane .A).writeErr .host 0x2405 5 [3] true false = none ∧ ((ds2A 0 id).lane .A).dict.sets.length = 4 ∧
      ((ds2A 0 id).lane .A).writeErr .host 0x2405 5 [] true false = some eLength) ∧
    (((ds2A 0 id).lane .A).writeErr .host 0x2405 8 [1] true false = none ∧
      ((ds2A 0 id).lane .A).writeErr .host 0x2405 8 [] true false = some eLength) := by decide +kernel

/-- The transport key and the wrapped key of the first test vector of RFC 3394, as an update of slot 0. -/
def rfcReg (lane : Byte) : List Byte := [0, lane, 0, 0] ++ toBytes 24 0xE5CFD27123863E9D827B5AFBD84BF3AE47B412810A8BA61F

/-- Lane A in HOLD, unsealed, with that transport key. -/
def provA (written : W16) : State := readyA .hold fun L => unsealed { L with sec := { L.sec with
  written := written, transport := 0x000102030405060708090A0B0C0D0E0F } }

theorem wit_KeysAndDebug_keyprov :
    ((provA 0).lane .A).keyprovResult (rfcReg 0) true = 0 ∧ ((provA 1).lane .A).keyprovResult (rfcReg 0) true = 4 ∧
    ((provA 0).lane .A).provKey (rfcReg 0) 0 =
      some (toBytes 16 0xFFEEDDCCBBAA99887766554433221100) ∧
    rfcReg 0 = [0, 0, 0, 0] ++ (rfcReg 0).drop 4 := by decide +kernel

/-- Lane A in HOLD with a debug challenge read. -/
def dbgA (f : Sec → Sec) : State :=
  readyA .hold fun L => { L with sec := f { L.sec with dbgChallenge := some 1 } }

theorem wit_KeysAndDebug_dictionary :
    (((rA fun L => unsealed (up { L with sec := { L.sec with written := 0xC01 } })).lane .A).revokeOk (ofBytes [4, 0]) =
        true ∧
      ((rA fun L => unsealed (up { L with sec := { L.sec with written := 0xC01 } })).lane .A).writeErr .host 0x2502 1
        [4, 0] true false = none ∧
      ((sA id).lane .A).writeErr .host 0x2502 1 [] (((sA id).lane .A).revokeOk (ofBytes [])) false = some eSeal) ∧
    (((sA id).lane .A).readErr .host 0x2501 1 = none ∧ ((sA id).lane .A).reaches .host = true ∧
      ((rA id).lane .A).readErr .host 0x2501 1 = some 0x0D000006) ∧
    (List.replicate 64 (0 : Byte) = List.replicate 32 0 ++ List.replicate 32 0 ∧
      ((dbgA id).lane .A).writeErr .host 0x2501 2 (List.replicate 64 0) (((dbgA id).lane .A).pwr.state != .run) false = none ∧
      ((dbgA id).lane .A).sec.dbgBlocked = false ∧
      ((dbgA fun x => { x with dbgChallenge := none }).lane .A).dbgSigOk (List.replicate 64 0) = false ∧
      ((dbgA fun x => { x with dbgBlocked := true }).lane .A).sec.dbgBlocked = true ∧
      ((sA id).lane .A).writeErr .host 0x2501 2 (List.replicate 64 0) (((sA id).lane .A).pwr.state != .run) false =
        some 0x08000022) := by decide +kernel

/-- Lane A with its clocks and temperatures changed. -/
def clkA (f : Clk → Clk) (g : Therm → Therm) : State := sA fun L => { L with clk := f L.clk, therm := g L.therm }

theorem wit_ClocksAndLinks :
    (((clkA id id).lane .A).alive = true ∧ ((clkA id id).lane .A).vote.outNow = false ∧ (-5000 : Rat) ≤ 5000 ∧
      (5000 : Rat) < 5001 ∧ (State.reset.lane .A).alive = false ∧ (3000000 : Rat) < 3200000) ∧
    (3 ≤ ((clkA (fun c => { c with refRun := 3 }) id).lane .A).clk.refRun ∧
      3 ≤ ((clkA id fun x => { x with cutRunL := 3 }).lane .A).therm.cutRunL ∧
      3 ≤ ((clkA id fun x => { x with cutRunD := 3 }).lane .A).therm.cutRunD ∧
      3 ≤ ((clkA (fun c => { c with d2dUp := 3 }) id).lane .A).clk.d2dUp) ∧
    (((clkA id id).lane .A).clk.refRun < 3 ∧ ((clkA id id).lane .A).clk.refRunD < 3 ∧
      ((clkA id id).lane .A).therm.cutRunL < 3 ∧ ((clkA id id).lane .A).therm.cutRunD < 3 ∧
      ((clkA id id).lane .A).clk.d2dUp < 3 ∧ ((clkA id id).lane .A).clk.d2dDown < 3) ∧
    (((clkA id id).lane .A).vote.running = true ∧ ((clkA id id).lane .A).vote.cycle.toNat % 1000 = 0 ∧
      (State.reset.lane .A).vote.running = false) := by decide +kernel

theorem wit_ThermalCutsAndCone :
    (3 ≤ (((clkA id fun x => { x with runs := [3] }).lane .A).therm.runs[0]?).getD 0 ∧
      ((clkA id fun x => { x with runs := [3] }).lane .A).therm.broken.getLsbD 0 = false ∧
      (((clkA id id).lane .A).therm.runs[0]?).getD 0 < 3) ∧
    (((clkA id fun x => { x with onsets := [0] }).lane .A).watched = true ∧
      ((clkA id fun x => { x with onsets := [0] }).lane .A).vote.outNow = false ∧
      ((clkA id fun x => { x with onsets := [0] }).lane .A).therm.onsets = [0] ∧
      ((clkA id fun x => { x with onsets := [0] }).lane .A).tb.mono ≤ 0 + 1000000 ∧
      ((clkA id id).lane .A).therm.onsets = [] ∧
      ((pwrA fun p => { p with vinOn := false }).lane .A).watched = false) ∧
    (3 ≤ ((clkA id fun x => { x with onsets := [0, 0, 0] }).lane .A).cuts600 ∧ ((clkA id id).lane .A).cuts600 < 3 ∧
      ((clkA id fun x => { x with cooling := true }).lane .A).therm.cooling = true ∧
      ((clkA id id).lane .A).therm.cooling = false) := by decide +kernel

/-- A pending record. -/
def event1 : Event := { code := 0x1234 }

theorem wit_RecorderAndKiln :
    ((∀ e ∈ (sUp.lane .A).flog.ring, e.sameKey 0x1234 0 = false) ∧ (sUp.lane .A).flog.ring.length < 512) ∧
    (((sA fun L => { L with flog := { L.flog with ring := [event1] } }).lane .A).flog.ring = event1 :: [] ∧
      event1.sameKey (0x1234 : W16).toNat (0 : W32).toNat = true) ∧
    ((sUp.lane .A).watched = true ∧ (sUp.lane .A).alive = true ∧ (sUp.lane .A).vote.outNow = false ∧
      (sUp.lane .A).pwr.state = .run ∧
      (sUp.lane .A).flog.nv.length + ((sUp.lane .A).flog.ring.filter (·.pending)).length ≤ 4096) ∧
    (((pwrA fun p => { p with vinOn := false }).lane .A).watched = false ∧ (State.reset.lane .B).alive = false) ∧
    ((sUp.lane .A).kiln.seq + 1 = 1 ∧
      ((sA fun L => { L with kiln := { L.kiln with seq := 1 } }).lane .A).kiln.seq + 1 = 2) := by decide +kernel

/-- Lane A in HOLD with its memories changed. -/
def memA (f : Mem → Mem) : State := readyA .hold fun L => { L with mem := f L.mem }

theorem wit_Memories_words :
    ((memA id).lane .A).alive = true ∧ ((memA id).lane .A).vote.outNow = false ∧ (State.reset.lane .A).alive = false ∧
    (0, 64) ∉ ((memA id).lane .A).mem.lastFix ∧ (0, 64) ∈ ((memA fun x => { x with lastFix := [(0, 64)] }).lane .A).mem.lastFix := by
  decide +kernel

theorem wit_Memories_test :
    (true = (((memA id).lane .A).pwr.state == .hold && ((memA id).lane .A).pwr.step == 9 &&
        ((memA id).lane .A).pwr.phase == 0) ∧
      ((memA id).lane .A).writeErr .host 0x5200 1 [1] true false = none ∧
      ((memA id).lane .A).mem.result.busy .host = false ∧
      ((memA fun x => { x with result := x.result.start .host }).lane .A).mem.result.busy .host = true ∧
      ((memA id).lane .A).writeErr .host 0x5200 1 [] true false = some eLength) ∧
    (((memA fun x => { x with testing := true }).lane .A).mem.testing = true ∧
      (memA fun x => { x with testing := true }).driversSeen .A < 2 ∧ ((memA id).lane .A).mem.testing = false) := by
  decide +kernel

theorem wit_Memories_pass :
    (((memA fun x => { x with running := true, demand := true }).lane .A).mem.running = true ∧
      ((memA fun x => { x with running := true, demand := true }).lane .A).mem.demand = true ∧
      ((memA id).lane .A).mem.running = false) ∧
    (((memA fun x => { x with running := true, group := 15 }).lane .A).mem.demand = false ∧
      ((memA fun x => { x with running := true, group := 15 }).lane .A).pwr.abandon = false ∧
      15 ≤ ((memA fun x => { x with running := true, group := 15 }).lane .A).mem.group ∧
      ((memA fun x => { x with running := true, group := 15 }).lane .A).mem.testing = false ∧
      ((memA fun x => { x with running := true, group := 15, testing := true }).lane .A).mem.testing = true ∧
      ((memA fun x => { x with running := true, group := 14 }).lane .A).mem.group < 15) ∧
    (groupOfBlock ({} : FailCell).inst = ((memA fun x => { x with running := true }).lane .A).mem.group ∧
      sparesOf ((memA fun x => { x with running := true }).lane .A).mem.spares ({} : FailCell).inst = []) ∧
    ((readyA .hold fun L => { L with mem := { L.mem with running := true }, pwr := { L.pwr with abandon := true } }).lane
      .A).pwr.abandon = true := by decide +kernel

/-- Lane A in HOLD with its pattern test changed. -/
def lptA (f : Lpt → Lpt) : State := readyA .hold fun L => { L with lpt := f L.lpt }

theorem wit_LinkPatternTest_start :
    ([0, 0, 0, 0x80] : List Byte).length = 4 ∧ bit (ofBytes [0, 0, 0, 0x80]) 31 = true ∧
    ((lptA id).lane .A).lptRefusal .host (ofBytes [0, 0, 0, 0x80]) = 0 ∧
    ((lptA id).lane .A).writeErr .host 0x5300 1 [0, 0, 0, 0x80] true false = none ∧
    ((lptA id).lane .A).lptRefusal .host (ofBytes [6, 0, 0, 0x80]) = 6 ∧
    ((lptA id).lane .A).writeErr .host 0x5300 1 [6, 0, 0, 0x80] false false = some 0x08000022 ∧
    ((lptA id).lane .A).lpt.running = false := by decide +kernel

/-- Lanes A and B test their slip link towards each other. -/
def slipTest : State := (lptA fun p => { p with running := true, test := 17, lock := true }).on .B fun L =>
  { L with lpt := { L.lpt with running := true, test := 18, lock := true } }

theorem wit_LinkPatternTest_run :
    (((lptA fun p => { p with running := true }).lane .A).lpt.running = true ∧
      bit (ofBytes [0, 0, 0, 0x40]) 31 = false ∧ bit (ofBytes [0, 0, 0, 0x40]) 30 = true ∧
      bit (ofBytes [0, 0, 0, 0x20]) 31 = false ∧ bit (ofBytes [0, 0, 0, 0x20]) 30 = false ∧
      bit (ofBytes [0, 0, 0, 0x20]) 29 = true ∧ ({} : LptRx).lock = true ∧
      ((lptA fun p => { p with running := true }).lane .A).lptFar = none ∧
      ((lptA fun p => { p with running := true }).lane .A).writeErr .host 0x5300 1 [0, 0, 0, 0x40] true false = none ∧
      ((lptA fun p => { p with running := true }).lane .A).writeErr .host 0x5300 1 [0, 0, 0, 0x20] true false = none) ∧
    ((slipTest.lane .A).lptFar = some .B ∧ LaneId.B ≠ .A ∧ slipTest.lptPair .A .B = true) ∧
    (((lptA id).lane .A).writeErr .peer 0x5300 1 [0, 0, 0, 0x20] true false = some 0x06010000 ∧
      (0x06010000 : W32) ≠ 0x08000022) := by decide +kernel

/-! ### The machine -/

theorem wit_StepRunsFront : (State.reset.push .apply).pending = [.apply] := by decide +kernel

theorem wit_PlacesAndOneLead : besideLead.placed ∧ besideLead.oneLead ∧ ∃ t, step besideLead = .next t := by
  refine ⟨fun l => by cases l <;> decide +kernel, fun l p => ?_, besideLead.tickAll, ?_⟩
  · cases l <;> cases p <;> decide +kernel
  · have h : besideLead.pending = [] := by decide +kernel
    unfold step; rw [h]

theorem wit_RunOnlyWhenReady :
    (((readyA .hold unsealed).lane .A).pwr.state = .hold ∧ ((readyA .hold unsealed).lane .A).runOk = false ∧
      ((readyA .hold unsealed).lane .A).reaches .host = true ∧ ((readyA .hold unsealed).lane .A).pwr.phase = 0 ∧
      ((readyA .hold unsealed).lane .A).writeErr .host 0x2100 2 [1] true false = none) := by decide +kernel

/-- Lane A asked for RUN when it is ready. -/
def askRun : State := (readyA .hold id).push (.pwrReqRun .A .host 1)

theorem wit_RunOnlyWhenReady_enters :
    (askRun.lane .A).pwr.state ≠ .run ∧
    (match step askRun with | .next t => decide ((t.lane .A).pwr.state = .run) | _ => false) = true := by
  decide +kernel

/-! ### WellFormed: a command out of its range for each check -/

theorem test_wf_accepts :
    Instr.wf (.transferRead .A .host 255 0xFFFF 0xFF 0xFFFFFFFF 0xFFFF) = true ∧
    Instr.wf (.serviceTaskEnd .A 9 100) = true ∧ Instr.wf (.restoreStepEnd .A {}) = true ∧
    Instr.wf (.tsuvasFrameReceived .A .X {}) = true ∧
    Instr.wf (.uplinkFrameReceived .A 0 (.udp { src := List.replicate 16 0, dst := List.replicate 16 0, tag := List.replicate 8 0 })) =
      true := by
  decide +kernel

theorem test_wf_refuses_messages :
    Instr.wf (.transferRead .A .host 256 0 0 0 0) = false ∧ Instr.wf (.transferRead .A .host 0 65536 0 0 0) = false ∧
    Instr.wf (.transferRead .A .host 0 0 256 0 0) = false ∧ Instr.wf (.transferRead .A .host 0 0 0 4294967296 0) = false ∧
    Instr.wf (.transferRead .A .host 0 0 0 0 65536) = false ∧ Instr.wf (.peerRead .A {} 256 0 0 0 0) = false ∧
    Instr.wf (.supervisoryRead .A 256 0 0 0 0 1) = false ∧ Instr.wf (.transferAbort .A .host 256) = false ∧
    Instr.wf (.transferWriteSegment .A .host 0 0 0 0 4294967296 []) = false ∧
    Instr.wf (.objectWrite .A .host 0 0 256 0 0 none [] {}) = false ∧ Instr.wf (.pwrReqRun .A .host 256) = false ∧
    Instr.wf (.sidebandValueDownload .A 65536 0 []) = false ∧ Instr.wf (.dbgResponse .A .host 256 [] []) = false := by
  decide +kernel

theorem test_wf_refuses_data : Instr.wf (.setStore .A .host 0 (List.replicate 65536 0)) = false := by
  have h : (List.replicate 65536 (0 : Byte)).length = 65536 := List.length_replicate
  show (wfTid 0 && decide ((List.replicate 65536 (0 : Byte)).length < 65536)) = false
  rw [h]; rfl

theorem test_wf_refuses_events :
    Instr.wf (.serviceTaskEnd .A 0 0) = false ∧ Instr.wf (.serviceTaskEnd .A 10 0) = false ∧
    Instr.wf (.starFrameArrival .A .X 7 {}) = false ∧ Instr.wf (.tsuvasFrameReceived .A .X { bytes := List.replicate 1067 0 }) = false ∧
    Instr.wf (.slotLaunch .A .X 64 true) = false ∧ Instr.wf (.slotLaunch .A .X 256 false) = false ∧
    Instr.wf (.slotEnd .A .X 256) = false ∧ Instr.wf (.portLinkChange .A .X 6 true) = false ∧
    Instr.wf (.portBlockedPersist .A .X 7) = false ∧ Instr.wf (.timedActionDue .A 96 false) = false ∧
    Instr.wf (.uplinkFrameReceived .A 0 (.udp {})) = false ∧ Instr.wf (.contractWindow .A 64) = false ∧
    Instr.wf (.restoreStepEnd .A { latent := 65536 }) = false ∧ Instr.wf (.restoreStepEnd .A { pins := some (4, 0) }) = false ∧
    Instr.wf (.restoreStepEnd .A { aoCount := 2 ^ 56 }) = false ∧ Instr.wf (.entryPhaseEnd .A { ce := 2 ^ 56 }) = false ∧
    Instr.wf (.wedgeGroupEnd .A [{ inst := 48 }]) = false ∧ Instr.wf (.scrubPass .A [{ bit := 72 }]) = false ∧
    Instr.wf (.sramDoubleBitError .A 0 (48, 0) .none) = false ∧ Instr.wf (.sramDoubleBitError .A 0 (0, 32768) .none) = false ∧
    Instr.wf (.keyprov .A [] [] true) = false ∧
    Instr.wf (.bissFrame .A 0 (List.replicate 127 true) true true [] 0) = false ∧ Instr.wf (.pwmPeriodBoundary .A 0 0 1 ⟨true, true, true⟩) = false ∧ Instr.wf (.hkRound .A 0 { vals := List.replicate 65 0 }) = false := by
  decide +kernel

/-! ### Small checks with results from the spec or from a standard -/

/-- The check value of CRC-32 (R406) for the digits 1 to 9. -/
theorem test_crc32 : crc32 [0x31, 0x32, 0x33, 0x34, 0x35, 0x36, 0x37, 0x38, 0x39] = 0xCBF43926 := by decide +kernel

/-- SHA-256 of no bytes, from FIPS 180-4's published test values. -/
theorem test_sha256 :
    sha256 [] = 0xe3b0c44298fc1c149afbf4c8996fb92427ae41e4649b934ca495991b7852b855 := by decide +kernel

/-- AES-CMAC of no bytes, the first example of RFC 4493, cut to its first 8 bytes. -/
theorem test_cmac :
    tag8 0x2b7e151628aed2a6abf7158809cf4f3c [] = [0xbb, 0x1d, 0x69, 0x29, 0xe9, 0x59, 0x37, 0x28] := by decide +kernel

/-- The vote cycle of the reference vehicle is 1 ms (Table 0.5), in the defaults too. -/
theorem test_tVote : (State.reset.lane .A).tVote = 1000 := by decide +kernel

/-- Timed by defaults: tCLOSE 300, tDEAD 650, tCOMP 700, tAPPLY 750 and tCOPY 800 microseconds (Table 2.1). -/
theorem test_points :
    (State.reset.lane .A).tClose = 300 ∧ (State.reset.lane .A).tDead = 650 ∧ (State.reset.lane .A).tComp = 700 ∧
    (State.reset.lane .A).tApply = 750 ∧ (State.reset.lane .A).tCopy = 800 := by decide +kernel

/-- REAL32 of R342: 1.0 and -2.5. -/
theorem test_real32 : r32 0x3F800000 = 1 ∧ r32 0xC0200000 = -5 / 2 := by decide +kernel

/-- A lockstep fault (R22, R80): role OUT, stop line asserted, fault 0x1FC1. -/
theorem test_lockstep :
    (match step (sUp.push (.lockstepFault .B false)) with
      | .next t => decide ((t.lane .B).vote.role = .out) && (t.lane .B).pwr.stopLine && (t.lane .B).flog.last == 0x1FC1 &&
          decide ((t.lane .A).vote.role = .shadow) && t.pending.isEmpty
      | _ => false) = true := by decide +kernel

/-- One tick of a locked network clock is 2 ns at the nominal increment (R285, R286). -/
theorem test_tick :
    (match step (rA fun L => { L with clk := { L.clk with netLock := true } }) with
      | .next t => decide ((t.lane .A).tb.ns = 2) && decide ((t.lane .B).tb.ns = 0)
      | _ => false) = true := by decide +kernel

/-- A host write of an unknown object fails with 0x06020000 and one of WAKE_EN with the seal closed with the code of
the seal (R370, R371). -/
theorem test_write_codes :
    (sUp.lane .A).writeErr .host 0x0FFF 1 [1] true false = some 0x06020000 ∧
    (sUp.lane .A).writeErr .host 0x2101 1 [1] true false = some eSeal := by decide +kernel


/-! ### The ball grid (18_balls_electrical_package.md Table 18.1, Table 18.2, R506 and its worked example) -/

theorem test_grid_areas :
    overRows (areaCount (.region .A)) = 523 ∧ overRows (areaCount (.region .B)) = 533 ∧
    overRows (areaCount (.region .C)) = 540 ∧ overRows (areaCount .bandAB) = 41 ∧
    overRows (areaCount .bandBC) = 44 ∧ overRows (regionWidth .A) = 523 ∧ overRows (regionWidth .B) = 533 ∧
    overRows (regionWidth .C) = 540 := by decide +kernel

theorem test_ball_counts :
    overRows (ballCount .A (· == .vin)) = 24 ∧ overRows (ballCount .B (· == .swgd)) = 6 ∧
    overRows (ballCount .C (· == .vgd)) = 6 ∧ overRows (ballCount .C (· == .vaon)) = 1 ∧
    overRows (ballCount .A (· == .gnd)) = 252 ∧ overRows (ballCount .B (· == .gnd)) = 262 ∧
    overRows (ballCount .C (· == .gnd)) = 269 := by decide +kernel

theorem test_ball_places :
    ballAt 13 11 = some (.B, .gateHigh 2 .U) ∧ ballAt 13 10 = none ∧ ballAt 13 9 = some (.A, .gnd) ∧
    ballAt 20 35 = some (.C, .shunt 5 true) ∧ ballAt 22 26 = some (.B, .sealPin true) ∧
    ballAt 1 41 = some (.C, .vin) ∧ columnOf .B 13 1 = 11 := by decide +kernel
end Sys2Proof.Tests
end

section
/-! PROOFS, what reset leaves (O58). The three lanes at reset are one lane at its reset values, each with its own
number, so what is said of every lane is read off that one. -/

namespace Sys2Proof.Machine

/-! ### A lane at reset -/

/-- The lanes at reset differ in their number alone (R3, R14). -/
@[simp] theorem State.reset_lane (l : LaneId) : State.reset.lane l = { id := l } := by
  cases l <;> rfl

/-- An object that the lane's store of working values does not list reads its default (R340). -/
theorem Lane.obj_of_working_nil {L : Lane} (h : L.dict.working = []) (idx sub : Nat) :
    L.obj idx sub = objDefault L.id idx sub := by
  rw [Lane.obj, h, storeGet]

/-- No kind of master has a transaction open at reset (R345). -/
theorem Dict.open_reset (m : Master) : ({} : Dict).open_ m = 0 := by
  cases m <;> rfl

/-! ### The module at reset -/

theorem State.reset_placed : State.reset.placed := fun l => by
  rw [State.reset_lane]

theorem State.reset_role (l : LaneId) : (State.reset.lane l).vote.role = .out := by
  rw [State.reset_lane]

/-- Every lane is OUT at reset, so none holds LEAD (R68). -/
theorem State.reset_oneLead : State.reset.oneLead := fun l _ hlead _ => by
  have hout := State.reset_role l
  rw [hout] at hlead
  contradiction

/-- Every gate output of a lane is low at reset (R24) and every bridge DISABLED. -/
theorem State.reset_gate (l : LaneId) (b : Fin 8) :
    ((State.reset.lane l).gates.get b).onOut = 0 ∧ ((State.reset.lane l).bridges.get b).mode = .disabled := by
  rw [State.reset_lane, Oct.get_all, Oct.get_all]
  exact ⟨rfl, rfl⟩

/-- Settles O58: the parts about the module hold by the lemmas above, those about a lane hold of the one lane that
`State.reset_lane` names. -/
theorem resetState : Obligations.ResetState := by
  refine ⟨State.reset_placed, State.reset_oneLead, rfl, fun l => ?_⟩
  have hgate := State.reset_gate l
  rw [State.reset_lane] at hgate ⊢
  exact ⟨rfl, rfl, rfl, rfl, Lane.obj_of_working_nil rfl, Dict.open_reset, rfl, rfl, rfl, rfl, rfl, hgate⟩

end Sys2Proof.Machine
end

section
/-! PROOFS, a lockstep fault (O11). The fault is a lane-out in its own lane: what the recorder keeps of it, what the
stop line does to the outputs, and what a first lane-out adds. -/

namespace Sys2Proof.Machine

/-! ### The last fault code (R379) -/

/-- LAST_FAULT is not the ring's matter: coalesced, recorded, lost or committed, an event leaves it as it was. -/
@[simp] theorem Rec.take_last (f : Rec) (code level detId detVal ns : Nat) (st : TState) :
    (f.take code level detId detVal ns st).last = f.last := by
  simp only [Rec.take]
  cases coalesce code detId ns st level detVal f.ring with
  | some r => dsimp only; split <;> rfl
  | none =>
    by_cases hroom : f.ring.length < 512
    · simp only [if_pos hroom]; split <;> rfl
    · simp only [if_neg hroom]
      cases dropOldest f.ring with
      | some r => dsimp only [Option.map]; split <;> rfl
      | none => rfl

@[simp] theorem Lane.raise_last (L : Lane) (code level detId detVal : Nat) :
    (L.raise code level detId detVal).flog.last = BitVec.ofNat 16 code := by
  rw [Lane.raise, Rec.take_last, Lane.countEvent]

/-! ### The outputs of a lane whose stop line asserts (R24) -/

@[simp] theorem Lane.assertStop_mode (L : Lane) (b : Fin 8) : (L.assertStop.bridges.get b).mode = .disabled := by
  simp [Lane.assertStop, Lane.gatesLow, Bridge.drop]

@[simp] theorem Lane.assertStop_onOut (L : Lane) (b : Fin 8) : (L.assertStop.gates.get b).onOut = 0 := by
  simp [Lane.assertStop, Lane.gatesLow]

@[simp] theorem Lane.assertStop_chopOn (L : Lane) : L.assertStop.dc.chopOn = false := rfl

/-! ### A lane-out (Table 2.7) -/

/-- A lane already out only asserts its stop line again. -/
theorem Lane.goOut_of_out {L : Lane} (h : L.vote.outNow = true) (code : Nat) : L.goOut code = L.assertStop := by
  rw [Lane.goOut, if_pos h]

/-- The vote group after the first lane-out: counted towards R72, role OUT, nothing offered. -/
theorem Lane.goOut_vote {L : Lane} (h : L.vote.outNow = false) (code : Nat) :
    (L.goOut code).vote = { L.countOut.vote with
      role := .out, roleDue := none, relAtApply := false, clean := 0, outNow := true,
      outCause := BitVec.ofNat 16 code, wasRun := decide (L.pwr.state = .run), outSet := none, running := false } := by
  rw [Lane.goOut, if_neg (by simp [h])]; rfl

/-- The first lane-out ends a pending exit and pulls x_nFLT low (R507). -/
theorem Lane.goOut_pwr {L : Lane} (h : L.vote.outNow = false) (code : Nat) :
    (L.goOut code).pwr = { L.pwr with stopLine := true, nflt := false, exit := false } := by
  rw [Lane.goOut, if_neg (by simp [h])]; rfl

/-- The first lane-out cancels the queued timed actions (R309). -/
theorem Lane.goOut_ta {L : Lane} (h : L.vote.outNow = false) (code : Nat) :
    (L.goOut code).ta = L.ta.cancelAll := by
  rw [Lane.goOut, if_neg (by simp [h])]; rfl

@[simp] theorem Lane.goOut_bridges (L : Lane) (code : Nat) : (L.goOut code).bridges = L.assertStop.bridges := by
  unfold Lane.goOut; split <;> simp

@[simp] theorem Lane.goOut_gates (L : Lane) (code : Nat) : (L.goOut code).gates = L.assertStop.gates := by
  unfold Lane.goOut; split <;> simp

@[simp] theorem Lane.goOut_dc (L : Lane) (code : Nat) : (L.goOut code).dc = L.assertStop.dc := by
  unfold Lane.goOut; split <;> simp

/-! ### A fault at level lane-out -/

@[simp] theorem Lane.laneOut_last (L : Lane) (code detId detVal : Nat) :
    (L.laneOut code detId detVal).flog.last = BitVec.ofNat 16 code := by
  rw [Lane.laneOut, Lane.goOut_flog, Lane.raise_last]

@[simp] theorem Lane.laneOut_chopOn (L : Lane) (code detId detVal : Nat) :
    (L.laneOut code detId detVal).dc.chopOn = false := by
  rw [Lane.laneOut, Lane.goOut_dc, Lane.assertStop_chopOn]

/-- Whether the lane was out before or not, a lane-out leaves every bridge DISABLED and its gates low (R24). -/
theorem Lane.laneOut_gates_low (L : Lane) (code detId detVal : Nat) (b : Fin 8) :
    ((L.laneOut code detId detVal).bridges.get b).mode = .disabled ∧
    ((L.laneOut code detId detVal).gates.get b).onOut = 0 := by
  rw [Lane.laneOut, Lane.goOut_bridges, Lane.goOut_gates]
  exact ⟨Lane.assertStop_mode _ b, Lane.assertStop_onOut _ b⟩

/-! ### The command -/

/-- A command that acts on one lane leaves the rest of the module. -/
theorem State.onlyLane_on (s : State) (l : LaneId) (f : Lane → Lane) : OnlyLane l s (s.on l f) :=
  ⟨fun _ hne => s.lane_on_ne f hne, rfl, rfl, rfl⟩

theorem exec_lockstepFault_of_alive {s : State} {l : LaneId} (h : (s.lane l).alive = true) (service : Bool) :
    exec (.lockstepFault l service) s =
      .next (s.on l fun L => L.laneOut 0x1FC1 (if service then 1 else 0)) :=
  congrArg Host.Outcome.next (s.on_congr l (if_pos h))

theorem exec_lockstepFault_of_not_alive {s : State} {l : LaneId} (h : (s.lane l).alive = false) (service : Bool) :
    exec (.lockstepFault l service) s = .next s :=
  congrArg Host.Outcome.next (s.on_id l (if_neg (by simp [h])))

/-- Settles O11: with its rails up the lane takes a lane-out, the first or a later one; with its rails down it stays. -/
theorem lockstepFault : Obligations.LockstepFault := by
  intro s l service
  refine ⟨fun halive hfirst => ?_, fun halive hout => ?_, fun hdead => exec_lockstepFault_of_not_alive hdead service⟩
  · refine ⟨_, exec_lockstepFault_of_alive halive service, s.onlyLane_on l _, ?_⟩
    have hraised (d : Nat) : ((s.lane l).raise 0x1FC1 3 d).vote.outNow = false := hfirst
    rw [State.lane_on_same, Lane.laneOut, Lane.goOut_vote (hraised _), Lane.goOut_pwr (hraised _),
      Lane.goOut_ta (hraised _)]
    exact ⟨rfl, rfl, rfl, rfl, rfl, rfl, rfl, rfl, Lane.laneOut_chopOn .., Lane.laneOut_last ..,
      Lane.laneOut_gates_low _ _ _ _, Lane.laneOut_svc .., Lane.laneOut_dict .., Lane.laneOut_net ..⟩
  · have hraised (d : Nat) : ((s.lane l).raise 0x1FC1 3 d).vote.outNow = true := hout
    rw [exec_lockstepFault_of_alive halive]
    exact congrArg Host.Outcome.next (s.on_congr l (Lane.goOut_of_out (hraised _) 0x1FC1))

end Sys2Proof.Machine
end

section
/-! PROOFS, what each operation leaves of a lane's place and vote group. -/
namespace Sys2Proof.Machine

/-! ### What is kept -/

/-- The lane stands where it stood, its vote group as it was. -/
@[reducible, simp] def Lane.VoteKept (L M : Lane) : Prop := M.id = L.id ∧ M.vote = L.vote

/-- The lane stands where it stood, in the same role. -/
@[reducible, simp] def Lane.RoleKept (L M : Lane) : Prop := M.id = L.id ∧ M.vote.role = L.vote.role

/-- The lane stands where it stood, and holds LEAD only if it held it. -/
@[reducible, simp] def Lane.NoLeadGained (L M : Lane) : Prop :=
  M.id = L.id ∧ (L.vote.role ≠ .lead → M.vote.role ≠ .lead)

theorem Lane.VoteKept.trans {L M N : Lane} (h : L.VoteKept M) (h' : M.VoteKept N) : L.VoteKept N :=
  ⟨h'.1.trans h.1, h'.2.trans h.2⟩

theorem Lane.RoleKept.trans {L M N : Lane} (h : L.RoleKept M) (h' : M.RoleKept N) : L.RoleKept N :=
  ⟨h'.1.trans h.1, h'.2.trans h.2⟩

theorem Lane.NoLeadGained.trans {L M N : Lane} (h : L.NoLeadGained M) (h' : M.NoLeadGained N) : L.NoLeadGained N :=
  ⟨h'.1.trans h.1, fun hL => h'.2 (h.2 hL)⟩

theorem Lane.VoteKept.roleKept {L M : Lane} (h : L.VoteKept M) : L.RoleKept M := ⟨h.1, congrArg VoteG.role h.2⟩

theorem Lane.RoleKept.noLeadGained {L M : Lane} (h : L.RoleKept M) : L.NoLeadGained M :=
  ⟨h.1, fun hL => by rwa [h.2]⟩

theorem Lane.VoteKept.noLeadGained {L M : Lane} (h : L.VoteKept M) : L.NoLeadGained M := h.roleKept.noLeadGained

/-! ### Branches and loops -/

theorem Lane.RoleKept.ite {L M N : Lane} {c : Prop} [Decidable c] (h : L.RoleKept M) (h' : L.RoleKept N) :
    L.RoleKept (if c then M else N) := by
  split
  · exact h
  · exact h'

@[simp] theorem Lane.id_ite (c : Prop) [Decidable c] (L M : Lane) :
    (if c then L else M).id = if c then L.id else M.id :=
  apply_ite Lane.id c L M

@[simp] theorem Lane.vote_ite (c : Prop) [Decidable c] (L M : Lane) :
    (if c then L else M).vote = if c then L.vote else M.vote :=
  apply_ite Lane.vote c L M

@[simp] theorem VoteG.role_ite (c : Prop) [Decidable c] (v w : VoteG) :
    (if c then v else w).role = if c then v.role else w.role :=
  apply_ite VoteG.role c v w

/-- A loop keeps what its body keeps. -/
@[simp] theorem Lane.foldl_voteKept {α : Type} {f : Lane → α → Lane} (h : ∀ (M : Lane) x, M.VoteKept (f M x))
    (l : List α) (L : Lane) : L.VoteKept (l.foldl f L) :=
  List.foldlRecOn l f (motive := L.VoteKept) ⟨rfl, rfl⟩ fun M hM x _ => hM.trans (h M x)

theorem Lane.foldl_roleKept {α : Type} {f : Lane → α → Lane} (h : ∀ (M : Lane) x, M.RoleKept (f M x)) (l : List α)
    (L : Lane) : L.RoleKept (l.foldl f L) :=
  List.foldlRecOn l f (motive := L.RoleKept) ⟨rfl, rfl⟩ fun M hM x _ => hM.trans (h M x)

/-! ### Shared operations -/

theorem Lane.goOut_lead_iff (L : Lane) (code : Nat) :
    (L.goOut code).vote.role = .lead ↔ L.vote.outNow = true ∧ L.vote.role = .lead := by
  cases h : L.vote.outNow with
  | true => simp [Lane.goOut_of_out h]
  | false => simp [Lane.goOut_vote h]

@[simp] theorem Lane.goOut_noLeadGained (L : Lane) (code : Nat) : L.NoLeadGained (L.goOut code) :=
  ⟨L.goOut_id code, fun h => by simp [Lane.goOut_lead_iff, h]⟩

@[simp] theorem Lane.laneOut_noLeadGained (L : Lane) (code detId detVal : Nat) :
    L.NoLeadGained (L.laneOut code detId detVal) :=
  (L.raise code 3 detId detVal).goOut_noLeadGained code

@[simp] theorem Lane.answerWith_voteKept (L : Lane) (r : Resp) : L.VoteKept (L.answerWith r) := by
  simp [Lane.answerWith]

@[simp] theorem Lane.segFail_voteKept (L : Lane) (m : Master) (tid idx sub : Nat) (code : W32) :
    L.VoteKept (L.segFail m tid idx sub code) := by simp [Lane.segFail]

theorem Lane.write_roleKept (L : Lane) (m : Master) (tid idx sub : Nat) (data : List Byte) (present : Bool)
    {act : Lane → Lane} (h : ∀ M : Lane, M.RoleKept (act M)) : L.RoleKept (L.write m tid idx sub data present act) := by
  unfold Lane.write
  split
  · simp
  · have hact := h (L.sbCount m idx)
    simpa using hact

@[simp] theorem Lane.prepareNew_voteKept (L : Lane) (m : Master) (item : CommitItem) (g : Option Nat) (rwp : Bool) :
    L.VoteKept (L.prepareNew m item g rwp) := by simp [Lane.prepareNew]

@[simp] theorem Lane.onCommit_voteKept (L : Lane) (c : Commit) (f : Commit → Commit) : L.VoteKept (L.onCommit c f) := by
  simp [Lane.onCommit]

@[simp] theorem Lane.prepareMore_voteKept (L : Lane) (c : Commit) (item : CommitItem) :
    L.VoteKept (L.prepareMore c item) := by simp [Lane.prepareMore]

@[simp] theorem Lane.failGroup_voteKept (L : Lane) (m : Master) (g : Option Nat) : L.VoteKept (L.failGroup m g) := by
  unfold Lane.failGroup
  (repeat' split) <;> simp

@[simp] theorem Lane.prepare_voteKept (L : Lane) (m : Master) (tid idx sub raw : Nat) (g : Option Nat) (rwp : Bool) :
    L.VoteKept (L.prepare m tid idx sub raw g rwp) := by
  unfold Lane.prepare
  (repeat' split) <;> simp

@[simp] theorem Lane.writeWide_voteKept (L : Lane) (m : Master) (tid idx sub : Nat) (data : List Byte)
    (present : Bool) (g : Option Nat) (window : Bool) :
    L.VoteKept (L.writeWide m tid idx sub data present g window) := by
  unfold Lane.writeWide
  split <;> simp

/-! ### Clocks and heat -/

@[simp] theorem Lane.judgeTemps_voteKept (L : Lane) : L.VoteKept (L.judgeTemps) := by simp [Lane.judgeTemps]

@[simp] theorem Lane.judgeWarn_voteKept (L : Lane) : L.VoteKept (L.judgeWarn) := by simp [Lane.judgeWarn]

@[simp] theorem Lane.judgeCutSensors_voteKept (L : Lane) : L.VoteKept (L.judgeCutSensors) := by
  simp [Lane.judgeCutSensors]

@[simp] theorem Lane.compensate_voteKept (L : Lane) : L.VoteKept (L.compensate) := by
  unfold Lane.compensate
  (repeat' split) <;> simp

@[simp] theorem Lane.trim_voteKept (L : Lane) : L.VoteKept (L.trim) := by simp [Lane.trim]

@[simp] theorem Lane.judgeRefs_voteKept (L : Lane) : L.VoteKept (L.judgeRefs) := by simp [Lane.judgeRefs]

@[simp] theorem Lane.judgeAo_voteKept (L : Lane) (hz : Rat) : L.VoteKept (L.judgeAo hz) := by simp [Lane.judgeAo]

@[simp] theorem Lane.judgeLinkSense_voteKept (L : Lane) : L.VoteKept (L.judgeLinkSense) := by simp [Lane.judgeLinkSense]

@[simp] theorem Lane.kilnRound_voteKept (L : Lane) : L.VoteKept (L.kilnRound) := by simp [Lane.kilnRound]

theorem Lane.clk_therm_voteKept (L : Lane) (c : Clk) (t : Therm) : L.VoteKept { L with clk := c, therm := t } :=
  ⟨rfl, rfl⟩

/-- What a housekeeping round judges, once its values stand in the lane. -/
theorem Lane.judged_voteKept (L : Lane) (hz : Rat) :
    L.VoteKept ((((L.judgeTemps.judgeWarn.judgeCutSensors).compensate.trim.judgeRefs).judgeAo
      hz).judgeLinkSense).kilnRound := by
  simp

@[simp] theorem Lane.hkRound_voteKept (L : Lane) (n : Nat) (r : HkRound) : L.VoteKept (L.hkRound n r) :=
  have clock (ns : Nat) : L.VoteKept (L.advance ns) := ⟨L.advance_id ns, L.advance_vote ns⟩
  (((clock _).trans (Lane.clk_therm_voteKept _ _ _)).trans (Lane.clk_therm_voteKept _ _ _)).trans
    (Lane.judged_voteKept _ _)

@[simp] theorem Lane.coneCell_voteKept (L : Lane) : L.VoteKept (L.coneCell) := by simp [Lane.coneCell]

/-! ### Bridges -/

@[simp] theorem Lane.holdDead_voteKept (L : Lane) (idx sub : Nat) : L.VoteKept (L.holdDead idx sub) := by
  unfold Lane.holdDead
  split <;> simp

@[simp] theorem Lane.abortTest_voteKept (L : Lane) (b : Fin 8) : L.VoteKept (L.abortTest b) := by simp [Lane.abortTest]

@[simp] theorem Lane.settle_voteKept (L : Lane) (b : Fin 8) : L.VoteKept (L.settle b) := by simp [Lane.settle]

@[simp] theorem Lane.settleAll_voteKept (L : Lane) : L.VoteKept (L.settleAll) := by simp [Lane.settleAll]

@[simp] theorem Lane.isolateSet_voteKept (L : Lane) (b : Fin 8) (code : Nat) : L.VoteKept (L.isolateSet b code) := by
  unfold Lane.isolateSet
  split <;> simp

@[simp] theorem Lane.isolate_voteKept (L : Lane) (b : Fin 8) (code : Nat) (detId : Nat) (detVal : Nat) :
    L.VoteKept (L.isolate b code detId detVal) := by simp [Lane.isolate]

@[simp] theorem Lane.unisolate_voteKept (L : Lane) (b : Fin 8) (code : Nat) : L.VoteKept (L.unisolate b code) := by
  simp [Lane.unisolate]

@[simp] theorem Lane.loseRotor_voteKept (L : Lane) (b n : Fin 8) (w : Rat) (raiseIt : Bool) :
    L.VoteKept (L.loseRotor b n w raiseIt) := by simp [Lane.loseRotor]

@[simp] theorem Lane.leaveSensor_voteKept (L : Lane) (b n : Fin 8) : L.VoteKept (L.leaveSensor b n) := by
  simp [Lane.leaveSensor]

@[simp] theorem Lane.dropSensor_voteKept (L : Lane) (b : Fin 8) : L.VoteKept (L.dropSensor b) := by
  unfold Lane.dropSensor
  split <;> simp

@[simp] theorem Lane.isolateSensor_voteKept (L : Lane) (b : Fin 8) (kind : Nat) :
    L.VoteKept (L.isolateSensor b kind) := by simp [Lane.isolateSensor]

@[simp] theorem Lane.followEmf_voteKept (L : Lane) (b : Fin 8) : L.VoteKept (L.followEmf b) := by
  unfold Lane.followEmf
  split <;> simp

@[simp] theorem Lane.gateEvent_voteKept (L : Lane) (b : Fin 8) (kind : Nat) : L.VoteKept (L.gateEvent b kind) := by
  simp [Lane.gateEvent]

/-! ### Position front ends -/

@[simp] theorem Lane.showAngles_voteKept (L : Lane) (b n : Fin 8) : L.VoteKept (L.showAngles b n) := by
  simp [Lane.showAngles]

@[simp] theorem Lane.track_voteKept (L : Lane) (b : Fin 8) (sinV cosV : Rat) : L.VoteKept (L.track b sinV cosV) := by
  simp [Lane.track]

@[simp] theorem Lane.coast_voteKept (L : Lane) (b : Fin 8) (low : Bool) : L.VoteKept (L.coast b low) := by
  simp [Lane.coast]

@[simp] theorem Lane.takePair_voteKept (L : Lane) (b n : Fin 8) (sinV cosV amp : Rat) :
    L.VoteKept (L.takePair b n sinV cosV amp) := by simp [Lane.takePair]

@[simp] theorem Lane.bissDiscard_voteKept (L : Lane) (b : Fin 8) : L.VoteKept (L.bissDiscard b) := by
  simp [Lane.bissDiscard]

@[simp] theorem Lane.bissTake_voteKept (L : Lane) (b n : Fin 8) (d : BissData) (delay : Nat) :
    L.VoteKept (L.bissTake b n d delay) := by simp [Lane.bissTake]

/-! ### Field engines -/

@[simp] theorem Lane.carrierStep_voteKept (L : Lane) (b n : Fin 8) (ns : Nat) (frac : Rat) :
    L.VoteKept (L.carrierStep b n ns frac) := by simp [Lane.carrierStep]

@[simp] theorem Lane.loadEdges_voteKept (L : Lane) (b : Fin 8) (old : Bridge) : L.VoteKept (L.loadEdges b old) := by
  simp [Lane.loadEdges]

@[simp] theorem Lane.startLoop_voteKept (L : Lane) (b : Fin 8) (m : Mode) : L.VoteKept (L.startLoop b m) := by
  simp [Lane.startLoop]

@[simp] theorem Lane.enterModulate_voteKept (L : Lane) (b n : Fin 8) : L.VoteKept (L.enterModulate b n) := by
  simp [Lane.enterModulate]

@[simp] theorem Lane.settleBoundary_voteKept (L : Lane) (b n : Fin 8) : L.VoteKept (L.settleBoundary b n) := by
  simp [Lane.settleBoundary]

@[simp] theorem Lane.takeDue_voteKept (L : Lane) (b : Fin 8) : L.VoteKept (L.takeDue b) := by
  unfold Lane.takeDue
  split <;> simp

@[simp] theorem Lane.sourceStep_voteKept (L : Lane) (b n : Fin 8) : L.VoteKept (L.sourceStep b n) := by
  simp only [Lane.sourceStep]
  split <;> simp

@[simp] theorem Lane.loadPeriod_voteKept (L : Lane) (b n : Fin 8) (br : Bridge) : L.VoteKept (L.loadPeriod b n br) := by
  simp [Lane.loadPeriod]

@[simp] theorem Lane.kilnCurrent_voteKept (L : Lane) (b n : Fin 8) (i : Tri3 Rat) :
    L.VoteKept (L.kilnCurrent b n i) := by simp [Lane.kilnCurrent]

@[simp] theorem Lane.computeLoop_voteKept (L : Lane) (b n : Fin 8) (q : Samples) (ctr : Nat) :
    L.VoteKept (L.computeLoop b n q ctr) := by simp [Lane.computeLoop]

@[simp] theorem Lane.holdDuty_voteKept (L : Lane) (b n : Fin 8) : L.VoteKept (L.holdDuty b n) := by simp [Lane.holdDuty]

@[simp] theorem Lane.computeAcquire_voteKept (L : Lane) (b n : Fin 8) (q : Samples) :
    L.VoteKept (L.computeAcquire b n q) := by simp [Lane.computeAcquire]

@[simp] theorem Lane.compute_voteKept (L : Lane) (b n : Fin 8) (q : Samples) (ctr : Nat) :
    L.VoteKept (L.compute b n q ctr) := by simp [Lane.compute]

/-! ### Slip links -/

@[simp] theorem Lane.badMessage_voteKept (L : Lane) (via : LaneId) : L.VoteKept (L.badMessage via) := by
  simp [Lane.badMessage]

/-! ### Gate drive -/

@[simp] theorem Lane.adapt_voteKept (L : Lane) (b : Fin 8) (p : Phase) (high hard : Bool) (tsw : Rat) :
    L.VoteKept (L.adapt b p high hard tsw) := by simp [Lane.adapt]

@[simp] theorem Lane.heldOff_voteKept (L : Lane) (b : Fin 8) (p : Phase) : L.VoteKept (L.heldOff b p) := by
  simp [Lane.heldOff]

@[simp] theorem Lane.crossed_voteKept (L : Lane) (b : Fin 8) (p : Phase) (rise : Bool) (edge : Rat) :
    L.VoteKept (L.crossed b p rise edge) := by simp [Lane.crossed]

@[simp] theorem Lane.missed_voteKept (L : Lane) (b : Fin 8) (p : Phase) (rise : Bool) :
    L.VoteKept (L.missed b p rise) := by simp [Lane.missed]

@[simp] theorem Lane.detect_voteKept (L : Lane) (b : Fin 8) (kind det : Nat) (on : BitVec 6) (flag : Gate → Gate) :
    L.VoteKept (L.detect b kind det on flag) := by simp [Lane.detect]

@[simp] theorem Lane.reopen_voteKept (L : Lane) (b : Fin 8) : L.VoteKept (L.reopen b) := by simp [Lane.reopen]

@[simp] theorem Lane.gdClear_voteKept (L : Lane) (b : Fin 8) : L.VoteKept (L.gdClear b) := by simp [Lane.gdClear]

@[simp] theorem Lane.testDone_voteKept (L : Lane) (b : Fin 8) (desat : BitVec 6) (oc : Bool) (bs : BitVec 3) :
    L.VoteKept (L.testDone b desat oc bs) := by simp [Lane.testDone]

/-! ### DC link -/

@[simp] theorem Lane.judgeLink_voteKept (L : Lane) : L.VoteKept (L.judgeLink) := by simp [Lane.judgeLink]

@[simp] theorem Lane.chopFail_voteKept (L : Lane) (kind : Nat) : L.VoteKept (L.chopFail kind) := by simp [Lane.chopFail]

@[simp] theorem Lane.uvIsolate_voteKept (L : Lane) : L.VoteKept (L.uvIsolate) := by simp [Lane.uvIsolate]

@[simp] theorem Lane.chopTested_voteKept (L : Lane) (kind : Nat) : L.VoteKept (L.chopTested kind) := by
  simp [Lane.chopTested]

/-! ### Time base and timed actions -/

@[simp] theorem Lane.tick_voteKept (L : Lane) : L.VoteKept (L.tick) := by simp [Lane.tick]

@[simp] theorem Lane.setTime_voteKept (L : Lane) (ns : Nat) : L.VoteKept (L.setTime ns) := by simp [Lane.setTime]

@[simp] theorem Lane.enterHoldover_voteKept (L : Lane) (unc : Nat) : L.VoteKept (L.enterHoldover unc) := by
  simp [Lane.enterHoldover]

@[simp] theorem Lane.judgeTime_voteKept (L : Lane) (synced : Bool) : L.VoteKept (L.judgeTime synced) := by
  unfold Lane.judgeTime
  split <;> simp

@[simp] theorem Lane.validate_voteKept (L : Lane) (synced : Bool) (unc : Nat) : L.VoteKept (L.validate synced unc) := by
  simp [Lane.validate]

@[simp] theorem Lane.syncTrack_voteKept (L : Lane) (g : SyncIn) (d : Int) (unc : Nat) :
    L.VoteKept (L.syncTrack g d unc) := by simp [Lane.syncTrack]

@[simp] theorem Lane.syncRefuse_voteKept (L : Lane) (g : SyncIn) : L.VoteKept (L.syncRefuse g) := by
  simp [Lane.syncRefuse]

@[simp] theorem Lane.syncStep_voteKept (L : Lane) (g : SyncIn) (unc : Nat) : L.VoteKept (L.syncStep g unc) := by
  simp [Lane.syncStep]

@[simp] theorem Lane.takeSync_voteKept (L : Lane) (g : SyncIn) (unc : Nat) : L.VoteKept (L.takeSync g unc) := by
  simp [Lane.takeSync]

@[simp] theorem Lane.stamp_voteKept (L : Lane) (q : TsqId) (tag : Nat) (late : Bool) :
    L.VoteKept (L.stamp q tag late) := by simp [Lane.stamp]

@[simp] theorem Lane.taEnd_voteKept (L : Lane) (m : Master) (entry outcome : Nat) :
    L.VoteKept (L.taEnd m entry outcome) := by simp [Lane.taEnd]

@[simp] theorem Lane.taQueue_voteKept (L : Lane) (m : Master) (slot : Nat) (e : TaEntry) :
    L.VoteKept (L.taQueue m slot e) := by simp [Lane.taQueue]

@[simp] theorem Lane.taSubmit_voteKept (L : Lane) (m : Master) (r lineNs : Nat) :
    L.VoteKept (L.taSubmit m r lineNs) := by
  unfold Lane.taSubmit
  split <;> simp

@[simp] theorem Lane.captureAll_voteKept (L : Lane) (due : Nat) : L.VoteKept (L.captureAll due) := by
  simp [Lane.captureAll]

@[simp] theorem Lane.releaseSetpoints_voteKept (L : Lane) : L.VoteKept (L.releaseSetpoints) := by
  simp [Lane.releaseSetpoints]

@[simp] theorem Lane.taAct_voteKept (L : Lane) (e : TaEntry) (full : Bool) : L.VoteKept (L.taAct e full).1 := by
  unfold Lane.taAct
  (repeat' split) <;> simp

@[simp] theorem Lane.taRun_voteKept (L : Lane) (e : TaEntry) (full : Bool) : L.VoteKept (L.taRun e full) := by
  unfold Lane.taRun
  split <;> simp

/-! ### Network -/

@[simp] theorem Lane.onCh_voteKept (L : Lane) (ch : Chan) (f : Channel → Channel) : L.VoteKept (L.onCh ch f) := by
  simp [Lane.onCh]

@[simp] theorem Lane.setNode_voteKept (L : Lane) (st : NState) : L.VoteKept (L.setNode st) := by simp [Lane.setNode]

@[simp] theorem Lane.listen_voteKept (L : Lane) : L.VoteKept (L.listen) := by simp [Lane.listen]

@[simp] theorem Lane.activate_voteKept (L : Lane) : L.VoteKept (L.activate) := by simp [Lane.activate]

@[simp] theorem Lane.repeatFrame_voteKept (L : Lane) (ch : Chan) (port : Nat) (f : StarStart) (limit : Nat) :
    L.VoteKept (L.repeatFrame ch port f limit) := by simp [Lane.repeatFrame]

@[simp] theorem Lane.takeDev_voteKept (L : Lane) (ch : Chan) (f : FrameIn) : L.VoteKept (L.takeDev ch f) := by
  simp [Lane.takeDev]

@[simp] theorem Lane.storeFrame_voteKept (L : Lane) (ch : Chan) (f : FrameIn) : L.VoteKept (L.storeFrame ch f) := by
  simp [Lane.storeFrame]

@[simp] theorem Lane.acceptFrame_voteKept (L : Lane) (ch : Chan) (f : FrameIn) (unc : Nat) :
    L.VoteKept (L.acceptFrame ch f unc) := by simp [Lane.acceptFrame]

@[simp] theorem Lane.badTag_voteKept (L : Lane) (ch : Chan) (f : FrameIn) : L.VoteKept (L.badTag ch f) := by
  simp [Lane.badTag]

@[simp] theorem Lane.observeFrame_voteKept (L : Lane) (ch : Chan) (f : FrameIn) : L.VoteKept (L.observeFrame ch f) := by
  simp [Lane.observeFrame]

@[simp] theorem Lane.firstFrame_voteKept (L : Lane) (ch : Chan) (f : FrameIn) (unc : Nat) :
    L.VoteKept (L.firstFrame ch f unc) := by
  unfold Lane.firstFrame
  split <;> simp

@[simp] theorem Lane.abandonCold_voteKept (L : Lane) : L.VoteKept (L.abandonCold) := by simp [Lane.abandonCold]

@[simp] theorem Lane.coldFrame_voteKept (L : Lane) (ch : Chan) (f : FrameIn) : L.VoteKept (L.coldFrame ch f) := by
  simp [Lane.coldFrame]

@[simp] theorem Lane.frameStarts_voteKept (L : Lane) (ch : Chan) (f : FrameIn) : L.VoteKept (L.frameStarts ch f) := by
  unfold Lane.frameStarts
  split <;> simp

@[simp] theorem Lane.rxFrame_voteKept (L : Lane) (ch : Chan) (f : FrameIn) (unc : Nat) :
    L.VoteKept (L.rxFrame ch f unc) := by
  simp only [Lane.rxFrame]
  (repeat' split) <;> simp

@[simp] theorem Lane.txMissed_voteKept (L : Lane) (ch : Chan) (slot : Nat) : L.VoteKept (L.txMissed ch slot) := by
  simp [Lane.txMissed]

@[simp] theorem Lane.ownExt_voteKept (L : Lane) : L.VoteKept (L.ownExt) := by simp [Lane.ownExt]

@[simp] theorem Lane.sendFrame_voteKept (L : Lane) (ch : Chan) (service : Bool) (slot : Nat) (fill : Bool) :
    L.VoteKept (L.sendFrame ch service slot fill) := by simp [Lane.sendFrame]

@[simp] theorem Lane.launchStatic_voteKept (L : Lane) (ch : Chan) (slot : Nat) :
    L.VoteKept (L.launchStatic ch slot) := by simp [Lane.launchStatic]

@[simp] theorem Lane.correct_voteKept (L : Lane) : L.VoteKept (L.correct) := by
  unfold Lane.correct
  (repeat' split) <;> simp

@[simp] theorem Lane.observedEnd_voteKept (L : Lane) (peerActive : Bool) : L.VoteKept (L.observedEnd peerActive) := by
  simp [Lane.observedEnd]

@[simp] theorem Lane.cycleEnd_voteKept (L : Lane) (peerActive : Bool) : L.VoteKept (L.cycleEnd peerActive) := by
  simp only [Lane.cycleEnd]
  split <;> simp

@[simp] theorem Lane.takePeerTime_voteKept (L : Lane) (src : Lane) (t unc : Nat) :
    L.VoteKept (L.takePeerTime src t unc) := by simp [Lane.takePeerTime]

@[simp] theorem Lane.comparePeer_voteKept (L : Lane) (t : Nat) : L.VoteKept (L.comparePeer t) := by
  simp [Lane.comparePeer]

/-! ### Services -/

@[simp] theorem Lane.refuseCommand_voteKept (L : Lane) (num : Nat) (curvature : Bool) :
    L.VoteKept (L.refuseCommand num curvature) := by simp [Lane.refuseCommand]

@[simp] theorem Lane.stopFor_voteKept (L : Lane) (c : Causes) : L.VoteKept (L.stopFor c) := by simp [Lane.stopFor]

@[simp] theorem Lane.judgeStop_voteKept (L : Lane) : L.VoteKept (L.judgeStop) := by simp [Lane.judgeStop]

@[simp] theorem Lane.task2_voteKept (L : Lane) : L.VoteKept (L.task2) := by simp [Lane.task2]

@[simp] theorem Lane.holdAngles_voteKept (L : Lane) : L.VoteKept (L.holdAngles) := by simp [Lane.holdAngles]

@[simp] theorem Lane.task1_voteKept (L : Lane) : L.VoteKept (L.task1) := by simp [Lane.task1]

@[simp] theorem Lane.task3_voteKept (L : Lane) : L.VoteKept (L.task3) := by simp [Lane.task3]

@[simp] theorem Lane.task4_voteKept (L : Lane) : L.VoteKept (L.task4) := by simp [Lane.task4]

@[simp] theorem Lane.task5_voteKept (L : Lane) : L.VoteKept (L.task5) := by simp [Lane.task5]

@[simp] theorem Lane.learn_voteKept (L : Lane) (n : Fin 8) (t : Rat) : L.VoteKept (L.learn n t) := by simp [Lane.learn]

@[simp] theorem Lane.loopOf_voteKept (L : Lane) (n : Fin 8) : L.VoteKept (L.loopOf n) := by
  unfold Lane.loopOf
  split <;> simp

@[simp] theorem Lane.task7_voteKept (L : Lane) : L.VoteKept (L.task7) := by
  simp only [Lane.task7]
  split <;> simp

@[simp] theorem Lane.task8_voteKept (L : Lane) : L.VoteKept (L.task8) := by simp [Lane.task8]

@[simp] theorem Lane.releaseStop_voteKept (L : Lane) : L.VoteKept (L.releaseStop) := by simp [Lane.releaseStop]

@[simp] theorem Lane.task9_roleKept (L : Lane) (endUs : Nat) : L.RoleKept (L.task9 endUs) := by simp [Lane.task9]

@[simp] theorem Lane.runTask_roleKept (L : Lane) (task endUs : Nat) : L.RoleKept (L.runTask task endUs) := by
  unfold Lane.runTask
  split <;> simp

@[simp] theorem Lane.staleNow_voteKept (L : Lane) (k : AgeKind) : L.VoteKept (L.staleNow k) := by
  unfold Lane.staleNow
  (repeat' split) <;> simp

/-! ### Configuration checks -/

@[simp] theorem Lane.runCheck_voteKept (get : Nat → Nat → Nat) (L : Lane) (kind : Nat) :
    L.VoteKept (Lane.runCheck get L kind) := by
  simp [Lane.runCheck]

@[simp] theorem Lane.checkAll_voteKept (L : Lane) : L.VoteKept (L.checkAll) := by simp [Lane.checkAll]

@[simp] theorem Lane.afterWrite_voteKept (L : Lane) (idx sub : Nat) : L.VoteKept (L.afterWrite idx sub) := by
  simp [Lane.afterWrite]

/-! ### Safety inputs and stored sets -/

@[simp] theorem Lane.setIn_voteKept (L : Lane) (i : Fin 8) (x : SafeIn) : L.VoteKept (L.setIn i x) := by
  simp [Lane.setIn]

@[simp] theorem Lane.latchTp_voteKept (L : Lane) (i : Fin 8) (channel : Nat) : L.VoteKept (L.latchTp i channel) := by
  simp [Lane.latchTp]

@[simp] theorem Lane.readBack_voteKept (L : Lane) (o ok : Bool) : L.VoteKept (L.readBack o ok) := by
  simp [Lane.readBack]

@[simp] theorem Lane.tpoRest_voteKept (L : Lane) : L.VoteKept (L.tpoRest) := by simp [Lane.tpoRest]

@[simp] theorem Lane.sampleSrst_voteKept (L : Lane) (lv : Bool) : L.VoteKept (L.sampleSrst lv) := by
  simp [Lane.sampleSrst]

@[simp] theorem Lane.sampleSeal_voteKept (L : Lane) (s1 s2 : Bool) : L.VoteKept (L.sampleSeal s1 s2) := by
  simp [Lane.sampleSeal]

@[simp] theorem Lane.sample_voteKept (L : Lane) (n : Nat) (p : SafetyPins) : L.VoteKept (L.sample n p) := by
  simp [Lane.sample]

@[simp] theorem Lane.pulseIn_voteKept (L : Lane) (i : Fin 8) (c1 c2 : Bool) : L.VoteKept (L.pulseIn i c1 c2) := by
  simp [Lane.pulseIn]

@[simp] theorem Lane.evalChk_voteKept (L : Lane) : L.VoteKept (L.evalChk) := by simp [Lane.evalChk]

@[simp] theorem Lane.storeSet_voteKept (L : Lane) (n : Nat) : L.VoteKept (L.storeSet n) := by simp [Lane.storeSet]

@[simp] theorem Lane.logChange_voteKept (L : Lane) (kind : Nat) (m : Master) (idx sub len old new ns : Nat) :
    L.VoteKept (L.logChange kind m idx sub len old new ns) := by simp [Lane.logChange]

@[simp] theorem Lane.pwFail_voteKept (L : Lane) : L.VoteKept (L.pwFail) := by simp [Lane.pwFail]

/-! ### Commits -/

@[simp] theorem Lane.holdField_voteKept (L : Lane) (idx sub : Nat) : L.VoteKept (L.holdField idx sub) := by
  simp [Lane.holdField]

@[simp] theorem Lane.answerCommit_voteKept (L : Lane) (c : Commit) (code : W32) :
    L.VoteKept (L.answerCommit c code) := by simp [Lane.answerCommit]

@[simp] theorem Lane.decideOne_roleKept (L : Lane) (v : Vote) (out : Option W32) : L.RoleKept (L.decideOne v out) := by
  simp only [Lane.decideOne]
  split <;> simp

@[simp] theorem Lane.decideCommits_roleKept (L : Lane) : L.RoleKept L.decideCommits :=
  Lane.foldl_roleKept (fun M _ => M.decideOne_roleKept _ _) _ _

@[simp] theorem Lane.contactWritten_voteKept (L : Lane) (i : CommitItem) : L.VoteKept (L.contactWritten i) := by
  unfold Lane.contactWritten
  split <;> simp

@[simp] theorem Lane.force_voteKept (L : Lane) (c : Commit) (i : CommitItem) : L.VoteKept (L.force c i) := by
  simp [Lane.force]

@[simp] theorem Lane.remap_voteKept (L : Lane) : L.VoteKept (L.remap) := by simp [Lane.remap]

@[simp] theorem Lane.forceCommits_voteKept (L : Lane) : L.VoteKept (L.forceCommits) := by simp [Lane.forceCommits]

/-! ### Security -/

@[simp] theorem Lane.dbgFail_voteKept (L : Lane) : L.VoteKept (L.dbgFail) := by simp [Lane.dbgFail]

@[simp] theorem Lane.dbgOpen_noLeadGained (L : Lane) : L.NoLeadGained (L.dbgOpen) := by simp +contextual [Lane.dbgOpen]

@[simp] theorem Lane.secureBoot_voteKept (L : Lane) : L.VoteKept (L.secureBoot) := by simp [Lane.secureBoot]

@[simp] theorem Lane.sbClose_voteKept (L : Lane) (cause : Nat) : L.VoteKept (L.sbClose cause) := by simp [Lane.sbClose]

@[simp] theorem Lane.sbWake_voteKept (L : Lane) : L.VoteKept (L.sbWake) := by simp [Lane.sbWake]

@[simp] theorem Lane.sbOpen_voteKept (L : Lane) (c : W64) : L.VoteKept (L.sbOpen c) := by simp [Lane.sbOpen]

/-! ### Starts and saves -/

@[simp] theorem Lane.kilnWrite_voteKept (L : Lane) : L.VoteKept (L.kilnWrite) := by simp [Lane.kilnWrite]

@[simp] theorem Lane.starsDown_voteKept (L : Lane) : L.VoteKept (L.starsDown) := by simp [Lane.starsDown]

@[simp] theorem Lane.resetLogic_noLeadGained (L : Lane) (keepWorking keepTime : Bool) :
    L.NoLeadGained (L.resetLogic keepWorking keepTime) := by simp +contextual [Lane.resetLogic]

@[simp] theorem Lane.resetMonitor_voteKept (L : Lane) : L.VoteKept (L.resetMonitor) := by simp [Lane.resetMonitor]

@[simp] theorem Lane.powerUp_noLeadGained (L : Lane) (kind : Nat) : L.NoLeadGained (L.powerUp kind) := by
  simp +contextual [Lane.powerUp]

@[simp] theorem Lane.restartAt_noLeadGained (L : Lane) (step kind : Nat) (keepTime wedgeOk : Bool) (owed : BitVec 16) :
    L.NoLeadGained (L.restartAt step kind keepTime wedgeOk owed) := by simp +contextual [Lane.restartAt]

@[simp] theorem Lane.saveBegin_noLeadGained (L : Lane) : L.NoLeadGained (L.saveBegin) := by
  simp +contextual [Lane.saveBegin]

@[simp] theorem Lane.saveEnd_roleKept (L : Lane) : L.RoleKept (L.saveEnd) := by simp [Lane.saveEnd]

/-! ### Recorder and memories -/

@[simp] theorem Lane.kilnSecond_voteKept (L : Lane) : L.VoteKept (L.kilnSecond) := by simp [Lane.kilnSecond]

@[simp] theorem Lane.raiseCells_voteKept (L : Lane) (cells : List FailCell) : L.VoteKept (L.raiseCells cells) := by
  simp [Lane.raiseCells]

@[simp] theorem Lane.groupEnd_voteKept (L : Lane) (cells : List FailCell) : L.VoteKept (L.groupEnd cells) := by
  simp [Lane.groupEnd]

@[simp] theorem Lane.passEnd_noLeadGained (L : Lane) : L.NoLeadGained (L.passEnd) := by
  simp only [Lane.passEnd]
  (repeat' split) <;> simp +contextual

@[simp] theorem Lane.testBegin_noLeadGained (L : Lane) (m : Master) : L.NoLeadGained (L.testBegin m) := by
  simp +contextual [Lane.testBegin]

@[simp] theorem Lane.testDemand_voteKept (L : Lane) : L.VoteKept (L.testDemand) := by simp [Lane.testDemand]

@[simp] theorem Lane.lptWrite_voteKept (L : Lane) (m : Master) (tid : Nat) (data : List Byte) (rx : LptRx) :
    L.VoteKept (L.lptWrite m tid data rx) := by
  simp only [Lane.lptWrite]
  split <;> simp

@[simp] theorem Lane.lptDemand_voteKept (L : Lane) : L.VoteKept (L.lptDemand) := by simp [Lane.lptDemand]

/-! ### Power requests -/

@[simp] theorem Lane.enter_noLeadGained (L : Lane) (toOff : Bool) : L.NoLeadGained (L.enter toOff) := by
  simp +contextual [Lane.enter]

@[simp] theorem Lane.goOff_voteKept (L : Lane) : L.VoteKept (L.goOff) := by simp [Lane.goOff]

@[simp] theorem Lane.wakeUp_noLeadGained (L : Lane) (src : Byte) : L.NoLeadGained (L.wakeUp src) := by
  simp +contextual [Lane.wakeUp]

@[simp] theorem Lane.preEmpt_noLeadGained (L : Lane) (src : Byte) : L.NoLeadGained (L.preEmpt src) := by
  unfold Lane.preEmpt
  split
  · simp
  · split
    · simp
    · dsimp only
      split
      · exact (L.raise 0x1FD9 0).restartAt_noLeadGained 7 1 true false 0
      · simp

@[simp] theorem Lane.exitFor_voteKept (L : Lane) (k : Nat) : L.VoteKept (L.exitFor k) := by simp [Lane.exitFor]

@[simp] theorem Lane.stay_voteKept (L : Lane) (k : Nat) : L.VoteKept (L.stay k) := by simp [Lane.stay]

@[simp] theorem Lane.reqStarting_voteKept (L : Lane) (m : Master) (k : Nat) : L.VoteKept (L.reqStarting m k).1 := by
  unfold Lane.reqStarting
  split <;> simp

@[simp] theorem Lane.reqEntry_noLeadGained (L : Lane) (k : Nat) : L.NoLeadGained (L.reqEntry k).1 := by
  unfold Lane.reqEntry
  (repeat' split) <;> simp +contextual

@[simp] theorem Lane.reqHold_noLeadGained (L : Lane) (k : Nat) : L.NoLeadGained (L.reqHold k).1 := by
  unfold Lane.reqHold
  (repeat' split) <;> simp +contextual

@[simp] theorem Lane.reqRun_noLeadGained (L : Lane) (k : Nat) : L.NoLeadGained (L.reqRun k).1 := by
  unfold Lane.reqRun
  (repeat' split) <;> simp +contextual

@[simp] theorem Lane.reqStandby_noLeadGained (L : Lane) (k : Nat) : L.NoLeadGained (L.reqStandby k).1 := by
  unfold Lane.reqStandby
  (repeat' split) <;> simp +contextual

@[simp] theorem Lane.request_noLeadGained (L : Lane) (m : Master) (k : Nat) : L.NoLeadGained (L.request m k).1 := by
  unfold Lane.request
  (repeat' split) <;> simp +contextual

@[simp] theorem Lane.powerWrite_noLeadGained (L : Lane) (m : Master) (tid k : Nat) :
    L.NoLeadGained (L.powerWrite m tid k) := by
  simp only [Lane.powerWrite]
  (repeat' split) <;> simp +contextual

@[simp] theorem Lane.heldRequest_noLeadGained (L : Lane) : L.NoLeadGained (L.heldRequest) := by
  simp only [Lane.heldRequest]
  (repeat' split) <;> simp +contextual

/-! ### First half of a vote cycle -/

@[simp] theorem Lane.latchCycle_roleKept (L : Lane) : L.RoleKept (L.latchCycle) := by simp [Lane.latchCycle]

@[simp] theorem Lane.judgeLinks_voteKept (L : Lane) (s : State) : L.VoteKept (L.judgeLinks s) := by
  simp [Lane.judgeLinks]

@[simp] theorem Lane.countNet_voteKept (L : Lane) : L.VoteKept (L.countNet) := by simp [Lane.countNet]

@[simp] theorem Lane.countCycle_voteKept (L : Lane) : L.VoteKept (L.countCycle) := by simp [Lane.countCycle]

@[simp] theorem Lane.freshFlags_voteKept (L : Lane) : L.VoteKept (L.freshFlags) := by simp [Lane.freshFlags]

@[simp] theorem Lane.startCycle_roleKept (L : Lane) (s : State) (k : Nat) : L.RoleKept (L.startCycle s k) := by
  unfold Lane.startCycle; split <;> simp [VoteG.fresh]

@[simp] theorem Lane.shadowState_noLeadGained (L : Lane) : L.NoLeadGained (L.shadowState) := by
  simp +contextual [Lane.shadowState]

@[simp] theorem Lane.revSync_voteKept (L : Lane) : L.VoteKept L.revSync := by
  refine Lane.foldl_voteKept (fun M b => ?_) _ _
  (repeat' split) <;> simp

@[simp] theorem Lane.enterShadow_noLeadGained (L : Lane) (driver : Bool) : L.NoLeadGained (L.enterShadow driver) := by
  simp +contextual [Lane.enterShadow]

@[simp] theorem Lane.closeReads_voteKept (L : Lane) : L.VoteKept (L.closeReads) := by simp [Lane.closeReads]

@[simp] theorem Lane.close_roleKept (L : Lane) : L.RoleKept (L.close) := by simp [Lane.close]

@[simp] theorem Lane.takeDirect_roleKept (L : Lane) (src : LaneId) (x : InSet) (crcOk use : Bool) :
    L.RoleKept (L.takeDirect src x crcOk use) := by simp [Lane.takeDirect]

@[simp] theorem Lane.takeRelayed_roleKept (L : Lane) (src : LaneId) (x : InSet) (crcOk : Bool) :
    L.RoleKept (L.takeRelayed src x crcOk) := by simp [Lane.takeRelayed]

/-! ### Agreement -/

@[simp] theorem Lane.missing_voteKept (L : Lane) (s : State) : L.VoteKept (L.missing s) := by simp [Lane.missing]

@[simp] theorem Lane.judgeContact_noLeadGained (L : Lane) : L.NoLeadGained L.judgeContact := by
  have out (v : VoteG) (hv : v.role = L.vote.role) :
      L.NoLeadGained (({ L with vote := v } : Lane).laneOut 0x1FC7 0 L.vote.cycle.toNat) := by
    have h := ({ L with vote := v } : Lane).laneOut_noLeadGained 0x1FC7 0 L.vote.cycle.toNat
    exact ⟨h.1, fun hL => h.2 (hv ▸ hL)⟩
  unfold Lane.judgeContact
  simp only
  split
  · simp
  · split
    · exact out _ rfl
    · simp

@[simp] theorem Lane.discipline_voteKept (L : Lane) (ofs : Int) (synced : Bool) :
    L.VoteKept (L.discipline ofs synced) := by simp [Lane.discipline]

@[simp] theorem Lane.judgeClose_noLeadGained (L : Lane) (s : State) : L.NoLeadGained (L.judgeClose s) := by
  have out := L.laneOut_noLeadGained 0x5010 0 0
  unfold Lane.judgeClose
  dsimp only
  split
  · split
    · exact out
    · split <;> simp
  · simp

@[simp] theorem Lane.judgeExt_voteKept (L : Lane) : L.VoteKept (L.judgeExt) := by simp [Lane.judgeExt]

@[simp] theorem Lane.judgeSource_roleKept (L : Lane) (n : Nat) (d : InDesc) (a : Int) (p : LaneId) :
    L.RoleKept (L.judgeSource n d a p) := by
  simp only [Lane.judgeSource]
  (repeat' split) <;> simp

@[simp] theorem Lane.agreeInput_roleKept (L : Lane) (n : Nat) : L.RoleKept (L.agreeInput n).1 := by
  have sources (d : InDesc) (a : Int) : L.RoleKept (allLanes.foldl (fun M p => M.judgeSource n d a p) L) :=
    Lane.foldl_roleKept (fun M p => M.judgeSource_roleKept n d a p) _ _
  unfold Lane.agreeInput
  cases L.input n with
  | none => simp
  | some d =>
    dsimp only
    cases d.cls with
    | discrete => simp [sources]
    | analogue => simp [sources]
    | sequenced => dsimp only; split <;> simp
    | perLane => simp

@[simp] theorem Lane.agreeInputs_roleKept (L : Lane) : L.RoleKept L.agreeInputs :=
  List.foldlRecOn L.inputNums _ (motive := fun acc : Lane × List Agreed => L.RoleKept acc.1) ⟨rfl, rfl⟩
    fun acc hacc n _ => hacc.trans (acc.1.agreeInput_roleKept n)

@[simp] theorem Lane.judgeShafts_voteKept (L : Lane) : L.VoteKept L.judgeShafts := by
  refine Lane.foldl_voteKept (fun M b => ?_) _ _
  (repeat' split) <;> simp

@[simp] theorem Lane.agreeOwn_roleKept (L : Lane) : L.RoleKept (L.agreeOwn) := by simp [Lane.agreeOwn]

@[simp] theorem Lane.exitStepOf_voteKept (L : Lane) (p : LaneId) : L.VoteKept (L.exitStepOf p) := by
  simp only [Lane.exitStepOf]
  (repeat' split) <;> simp

@[simp] theorem Lane.judgeExits_voteKept (L : Lane) : L.VoteKept (L.judgeExits) := by simp [Lane.judgeExits]

@[simp] theorem Lane.judgeReports_voteKept (L : Lane) : L.VoteKept (L.judgeReports) := by simp [Lane.judgeReports]

@[simp] theorem Lane.agreeAll_noLeadGained (L : Lane) (s : State) : L.NoLeadGained (L.agreeAll s) := by
  simp only [Lane.agreeAll]
  (repeat' split) <;> simp +contextual

@[simp] theorem Lane.agree_noLeadGained (L : Lane) (s : State) : L.NoLeadGained (L.agree s) := by
  simp only [Lane.agree]
  (repeat' split) <;> simp +contextual

/-! ### Second half of a vote cycle -/

@[simp] theorem Lane.missDeadline_roleKept (L : Lane) : L.RoleKept (L.missDeadline) := by simp [Lane.missDeadline]

@[simp] theorem Lane.meetDeadline_roleKept (L : Lane) : L.RoleKept (L.meetDeadline) := by simp [Lane.meetDeadline]

@[simp] theorem Lane.deadline_roleKept (L : Lane) : L.RoleKept (L.deadline) := by simp [Lane.deadline]

@[simp] theorem Lane.offer_roleKept (L : Lane) (src : LaneId) (x : OutSet) (flagged : Bool) :
    L.RoleKept (L.offer src x flagged) := by simp [Lane.offer]

@[simp] theorem Lane.takeOutput_roleKept (L : Lane) (src : LaneId) (x : OutSet) (direct use flagged : Bool) :
    L.RoleKept (L.takeOutput src x direct use flagged) := by simp [Lane.takeOutput]

@[simp] theorem Lane.enterPassive_voteKept (L : Lane) : L.VoteKept L.enterPassive := by
  unfold Lane.enterPassive
  split
  · simp
  · refine (Lane.foldl_voteKept (fun M b => ?_) _ _).trans (Lane.settleAll_voteKept _)
    (repeat' split) <;> simp

@[simp] theorem Lane.lostPassive_voteKept (L : Lane) : L.VoteKept L.lostPassive := by
  unfold Lane.lostPassive
  split
  · simp
  · dsimp only
    split
    · simp
    · refine (Lane.foldl_voteKept (fun M b => ?_) _ _).trans (Lane.settleAll_voteKept _)
      (repeat' split) <;> simp

@[simp] theorem Lane.moduleSafe_noLeadGained (L : Lane) : L.NoLeadGained (L.moduleSafe) := by
  unfold Lane.moduleSafe
  split <;> simp +contextual

@[simp] theorem Lane.outvote_noLeadGained (L : Lane) (p : LaneId) : L.NoLeadGained (L.outvote p) := by
  unfold Lane.outvote
  dsimp only
  split
  · exact L.laneOut_noLeadGained _ _ _
  · simp

@[simp] theorem Lane.unresolve_noLeadGained (L : Lane) : L.NoLeadGained L.unresolve := by
  unfold Lane.unresolve
  dsimp only
  split
  · exact Lane.goOut_noLeadGained _ _
  · simp

@[simp] theorem Lane.noAgreed_noLeadGained (L : Lane) (code run : Nat) : L.NoLeadGained (L.noAgreed code run) := by
  unfold Lane.noAgreed
  dsimp only
  split
  · exact (L.raise code _ 0 _).moduleSafe_noLeadGained
  · simp

@[simp] theorem Lane.decision_noLeadGained (L : Lane) (d : Decided) : L.NoLeadGained (L.decision d) := by
  have ran : L.RoleKept { L with vote := L.vote.runs d } := ⟨rfl, rfl⟩
  refine ran.noLeadGained.trans ?_
  cases d with
  | agreed x o f =>
    cases o with
    | none => cases f <;> exact ⟨rfl, fun h => h⟩
    | some p => cases f <;> exact Lane.outvote_noLeadGained _ p
  | none_ => exact ⟨rfl, fun h => h⟩
  | three => exact Lane.noAgreed_noLeadGained _ _ _
  | noDriver => exact Lane.noAgreed_noLeadGained _ _ _
  | unresolved => exact Lane.unresolve_noLeadGained _

@[simp] theorem Lane.judgeShadow_roleKept (L : Lane) (ref : Option OutSet) : L.RoleKept (L.judgeShadow ref) := by
  simp [Lane.judgeShadow]

@[simp] theorem Lane.handSetpoints_voteKept (L : Lane) : L.VoteKept (L.handSetpoints) := by
  simp only [Lane.handSetpoints]
  (repeat' split) <;> simp

@[simp] theorem Lane.missReaction_noLeadGained (L : Lane) : L.NoLeadGained L.missReaction := by
  unfold Lane.missReaction
  split
  · exact L.goOut_noLeadGained _
  · simp

@[simp] theorem Lane.splitFault_noLeadGained (L : Lane) : L.NoLeadGained L.splitFault :=
  Lane.outvote_noLeadGained { L with vote := L.vote.runs .none_ } L.id

@[simp] theorem Lane.compare_noLeadGained (L : Lane) (s : State) (flag : Bool) : L.NoLeadGained (L.compare s flag) := by
  simp only [Lane.compare]
  (repeat' split) <;> simp +contextual

@[simp] theorem Lane.runApplies_voteKept (L : Lane) : L.VoteKept (L.runApplies) := by simp [Lane.runApplies]

@[simp] theorem Lane.apply_noLeadGained (L : Lane) : L.NoLeadGained (L.apply) := by
  simp only [Lane.apply]
  (repeat' split) <;> simp +contextual

@[simp] theorem Lane.takeConfig_voteKept (L : Lane) (src : Lane) : L.VoteKept (L.takeConfig src) := by
  simp [Lane.takeConfig]

@[simp] theorem Lane.adopt_roleKept (L : Lane) (src : Lane) : L.RoleKept (L.adopt src) := by simp [Lane.adopt]

@[simp] theorem Lane.diverge_noLeadGained (L src : Lane) : L.NoLeadGained (L.diverge src) := by
  unfold Lane.diverge
  dsimp only
  split
  · exact (L.adopt_roleKept src).noLeadGained.trans (Lane.goOut_noLeadGained _ _)
  · simp

@[simp] theorem Lane.useCopy_noLeadGained (L : Lane) (src : Lane) : L.NoLeadGained (L.useCopy src) := by
  unfold Lane.useCopy
  (repeat' split) <;> simp +contextual

@[simp] theorem Lane.takeCopy_noLeadGained (L : Lane) (src : Lane) (direct use : Bool) :
    L.NoLeadGained (L.takeCopy src direct use) := by
  simp only [Lane.takeCopy]
  (repeat' split) <;> simp +contextual

@[simp] theorem Lane.endShadow_roleKept (L : Lane) (s : State) : L.RoleKept (L.endShadow s) := by simp [Lane.endShadow]

@[simp] theorem Lane.copyEnd_roleKept (L : Lane) (s : State) : L.RoleKept (L.copyEnd s) := by simp [Lane.copyEnd]

/-! ### Roles -/

@[simp] theorem Lane.cutLink_voteKept (L : Lane) (k : LinkId) : L.VoteKept (L.cutLink k) := by simp [Lane.cutLink]

@[simp] theorem Lane.isolateLink_voteKept (L : Lane) (k : LinkId) : L.VoteKept (L.isolateLink k) := by
  simp [Lane.isolateLink]

@[simp] theorem Lane.returnLink_voteKept (L : Lane) (k : LinkId) : L.VoteKept (L.returnLink k) := by
  simp [Lane.returnLink]

@[simp] theorem Lane.restartOut_noLeadGained (L : Lane) : L.NoLeadGained (L.restartOut) := by
  simp +contextual [Lane.restartOut]

@[simp] theorem Lane.proceed_noLeadGained (L : Lane) (k : Nat) : L.NoLeadGained (L.proceed k) := by
  unfold Lane.proceed
  split <;> simp +contextual

@[simp] theorem Lane.leaveDrive_noLeadGained (L : Lane) : L.NoLeadGained (L.leaveDrive) := by
  simp +contextual [Lane.leaveDrive]

@[simp] theorem Lane.moduleStart_roleKept (L : Lane) (ds : List LaneId) : L.RoleKept (L.moduleStart ds) := by
  simp [Lane.moduleStart]

/-! ### Uplink -/

@[simp] theorem Lane.ctEnd_voteKept (L : Lane) (m : Master) (reason num : Nat) : L.VoteKept (L.ctEnd m reason num) := by
  simp [Lane.ctEnd]

@[simp] theorem Lane.ctSubmit_voteKept (L : Lane) (m : Master) (r : Nat) : L.VoteKept (L.ctSubmit m r) := by
  simp only [Lane.ctSubmit]
  split <;> simp

@[simp] theorem Lane.telemSnapshot_voteKept (L : Lane) : L.VoteKept (L.telemSnapshot) := by simp [Lane.telemSnapshot]

@[simp] theorem Lane.txCommit_voteKept (L : Lane) : L.VoteKept (L.txCommit) := by simp [Lane.txCommit]

@[simp] theorem Lane.windowEmpty_voteKept (L : Lane) (c : Contract) : L.VoteKept (L.windowEmpty c) := by
  simp [Lane.windowEmpty]

@[simp] theorem Lane.windowSend_voteKept (L : Lane) (c : Contract) (prod : Nat) (r : Record) :
    L.VoteKept (L.windowSend c prod r) := by simp [Lane.windowSend]

@[simp] theorem Lane.rxDrop_voteKept (L : Lane) : L.VoteKept (L.rxDrop) := by simp [Lane.rxDrop]

@[simp] theorem Lane.reply_voteKept (L : Lane) : L.VoteKept (L.reply) := by simp [Lane.reply]

@[simp] theorem Lane.authDrop_voteKept (L : Lane) : L.VoteKept (L.authDrop) := by simp [Lane.authDrop]

theorem Lane.datagram_roleKept (L : Lane) (d : Datagram) (forward : Bool) {serve : Lane → Lane}
    (h : ∀ M : Lane, M.RoleKept (serve M)) : L.RoleKept (L.datagram d forward serve) := by
  unfold Lane.datagram
  split
  · simp
  · dsimp only
    split
    · simp
    · exact h _

@[simp] theorem Lane.takeForward_voteKept (L : Lane) (tag : Nat) (payload : List Byte) :
    L.VoteKept (L.takeForward tag payload) := by
  unfold Lane.takeForward
  split <;> simp

/-! ### Restore -/

@[simp] theorem Lane.heldReset_noLeadGained (L : Lane) : L.NoLeadGained (L.heldReset) := by
  simp +contextual [Lane.heldReset]

@[simp] theorem Lane.phase1End_noLeadGained (L : Lane) : L.NoLeadGained (L.phase1End) := by
  simp only [Lane.phase1End]
  (repeat' split) <;> simp +contextual

@[simp] theorem Lane.phase2End_noLeadGained (L : Lane) : L.NoLeadGained (L.phase2End) := by
  unfold Lane.phase2End
  (repeat' split) <;> simp +contextual

@[simp] theorem Lane.phase3End_noLeadGained (L : Lane) (r : PhaseReport) : L.NoLeadGained (L.phase3End r) := by
  simp +contextual [Lane.phase3End]

@[simp] theorem Lane.phase4End_noLeadGained (L : Lane) : L.NoLeadGained (L.phase4End) := by
  unfold Lane.phase4End
  split <;> simp +contextual

@[simp] theorem Lane.allotted_voteKept (L : Lane) : L.VoteKept (L.allotted) := by simp [Lane.allotted]

@[simp] theorem Lane.stuck_voteKept (L : Lane) (code : Nat) (detId : Nat) : L.VoteKept (L.stuck code detId) := by
  simp [Lane.stuck]

@[simp] theorem Lane.toStep_voteKept (L : Lane) (k : Nat) : L.VoteKept (L.toStep k) := by simp [Lane.toStep]

@[simp] theorem Lane.step1End_voteKept (L : Lane) : L.VoteKept (L.step1End) := by simp [Lane.step1End]

@[simp] theorem Lane.step2End_voteKept (L : Lane) (done : Bool) : L.VoteKept (L.step2End done) := by
  simp [Lane.step2End]

@[simp] theorem Lane.step3End_voteKept (L : Lane) (done : Bool) : L.VoteKept (L.step3End done) := by
  simp [Lane.step3End]

@[simp] theorem Lane.step4End_voteKept (L : Lane) (done : Bool) : L.VoteKept (L.step4End done) := by
  simp [Lane.step4End]

@[simp] theorem Lane.mapMarked_voteKept (L : Lane) : L.VoteKept (L.mapMarked) := by simp [Lane.mapMarked]

@[simp] theorem Lane.step5End_voteKept (L : Lane) (done : Bool) (cells : List FailCell) :
    L.VoteKept (L.step5End done cells) := by simp [Lane.step5End]

@[simp] theorem Lane.takePins_voteKept (L : Lane) (pins : Option (Nat × Nat)) : L.VoteKept (L.takePins pins) := by
  unfold Lane.takePins
  split <;> simp

@[simp] theorem Lane.restoreSet_voteKept (L : Lane) : L.VoteKept (L.restoreSet) := by
  unfold Lane.restoreSet
  split <;> simp

@[simp] theorem Lane.loadSched_voteKept (L : Lane) : L.VoteKept (L.loadSched) := by simp [Lane.loadSched]

@[simp] theorem Lane.step6End_voteKept (L : Lane) (done : Bool) (pins : Option (Nat × Nat)) :
    L.VoteKept (L.step6End done pins) := by simp [Lane.step6End]

@[simp] theorem Lane.integrate_voteKept (L : Lane) : L.VoteKept (L.integrate) := by simp [Lane.integrate]

@[simp] theorem Lane.readmit_voteKept (L : Lane) : L.VoteKept L.readmit := by
  unfold Lane.readmit
  refine Lane.VoteKept.trans (M := { L with ct := { L.ct with list := [] } }) ⟨rfl, rfl⟩ ?_
  refine Lane.foldl_voteKept (fun M c => ?_) _ _
  dsimp only
  split <;> simp

@[simp] theorem Lane.seedWake_voteKept (L : Lane) (cw : Nat) : L.VoteKept (L.seedWake cw) := by simp [Lane.seedWake]

@[simp] theorem Lane.seedTime_voteKept (L : Lane) (peer : Option (Nat × Lane)) (unc cw : Nat) :
    L.VoteKept (L.seedTime peer unc cw) := by
  unfold Lane.seedTime
  split <;> simp

@[simp] theorem Lane.step7End_voteKept (L : Lane) (peer : Option (Nat × Lane)) (unc cw : Nat) :
    L.VoteKept (L.step7End peer unc cw) := by simp [Lane.step7End]

@[simp] theorem Lane.bridgeStart_voteKept (L : Lane) (fails : Oct Bool) (b : Fin 8) :
    L.VoteKept (L.bridgeStart fails b) := by
  simp only [Lane.bridgeStart]
  split <;> simp

@[simp] theorem Lane.chopStart_voteKept (L : Lane) (i : Rat × Rat × Rat) : L.VoteKept (L.chopStart i) := by
  simp [Lane.chopStart]

@[simp] theorem Lane.step8End_noLeadGained (L : Lane) (r : StepReport) : L.NoLeadGained (L.step8End r) := by
  have out (p : Pwr) : L.NoLeadGained (({ L with pwr := p } : Lane).laneOut 0x6FC1) :=
    Lane.laneOut_noLeadGained { L with pwr := p } _ _ _
  unfold Lane.step8End
  split
  · simp
  · exact (out _).trans (Lane.VoteKept.noLeadGained ⟨Lane.assertStop_id _, Lane.assertStop_vote _⟩)

@[simp] theorem Lane.stepEnd_noLeadGained (L : Lane) (r : StepReport) (peer : Option (Nat × Lane)) (unc : Nat) :
    L.NoLeadGained (L.stepEnd r peer unc) := by
  simp only [Lane.stepEnd]
  (repeat' split) <;> simp +contextual

/-! ### Dictionary server -/

@[simp] theorem Lane.onResult_voteKept (L : Lane) (k : ResultKind) (f : Res3 → Res3) : L.VoteKept (L.onResult k f) := by
  unfold Lane.onResult
  split <;> simp

@[simp] theorem Lane.consumeRead_voteKept (L : Lane) (m : Master) (idx sub : Nat) :
    L.VoteKept (L.consumeRead m idx sub) := by
  unfold Lane.consumeRead
  split <;> simp

@[simp] theorem Lane.answerData_voteKept (L : Lane) (m : Master) (tid idx sub ofs total : Nat) (data : List Byte)
    (last : Bool) : L.VoteKept (L.answerData m tid idx sub ofs total data last) := by simp [Lane.answerData]

@[simp] theorem Lane.readFirst_voteKept (L : Lane) (m : Master) (tid key idx sub len : Nat) (value : List Byte) :
    L.VoteKept (L.readFirst m tid key idx sub len value) := by
  simp only [Lane.readFirst]
  split <;> simp

@[simp] theorem Lane.readNext_voteKept (L : Lane) (m : Master) (tid key idx sub ofs len : Nat) :
    L.VoteKept (L.readNext m tid key idx sub ofs len) := by
  unfold Lane.readNext
  split <;> simp

@[simp] theorem Lane.serveRead_voteKept (L P : Lane) (m : Master) (tid key idx sub ofs len : Nat) :
    L.VoteKept (L.serveRead P m tid key idx sub ofs len) := by simp [Lane.serveRead]

@[simp] theorem Lane.readDraw_voteKept (L : Lane) (m : Master) (tid key idx sub len : Nat) (c : W64) :
    L.VoteKept (L.readDraw m tid key idx sub len c) := by simp [Lane.readDraw]

@[simp] theorem Lane.supReply_voteKept (L : Lane) : L.VoteKept (L.supReply) := by
  unfold Lane.supReply
  split <;> simp

@[simp] theorem Lane.takeSegment_voteKept (L : Lane) (m : Master) (tid idx sub ofs total : Nat) (data : List Byte) :
    L.VoteKept (L.takeSegment m tid idx sub ofs total data) := by
  unfold Lane.takeSegment
  (repeat' split) <;> simp

@[simp] theorem Lane.storeLocal_voteKept (L : Lane) (m : Master) (idx sub raw : Nat) :
    L.VoteKept (L.storeLocal m idx sub raw) := by simp [Lane.storeLocal]

@[simp] theorem Lane.plainWrite_voteKept (L : Lane) (m : Master) (tid idx sub : Nat) (data : List Byte)
    (g : Option Nat) : L.VoteKept (L.plainWrite m tid idx sub data g) := by
  unfold Lane.plainWrite
  split <;> simp

theorem Lane.uplStatusWrite_roleKept (L : Lane) (m : Master) (tid : Nat) (data : List Byte) :
    L.RoleKept (L.uplStatusWrite m tid data) :=
  L.write_roleKept _ _ _ _ _ _ fun _ => ⟨rfl, rfl⟩

theorem Lane.tsqStatusWrite_roleKept (L : Lane) (m : Master) (tid : Nat) (q : TsqId) (data : List Byte) :
    L.RoleKept (L.tsqStatusWrite m tid q data) :=
  L.write_roleKept _ _ _ _ _ _ fun _ => ⟨rfl, rfl⟩

@[simp] theorem Lane.setStage_voteKept (L : Lane) (k : Fin 5) (g : Staging) : L.VoteKept (L.setStage k g) := by
  simp [Lane.setStage]

@[simp] theorem Lane.installed_voteKept (L : Lane) (k : Fin 5) (i : List Byte) : L.VoteKept (L.installed k i) := by
  simp [Lane.installed]

@[simp] theorem Lane.windowWrite_voteKept (L : Lane) (m : Master) (tid : Nat) (data : List Byte) (g : Option Nat) :
    L.VoteKept (L.windowWrite m tid data g) := by
  simp only [Lane.windowWrite]
  (repeat' split) <;> simp

@[simp] theorem Lane.powerBytes_noLeadGained (L : Lane) (m : Master) (tid : Nat) (data : List Byte) :
    L.NoLeadGained (L.powerBytes m tid data) := by
  unfold Lane.powerBytes
  split <;> simp +contextual

@[simp] theorem Lane.tagFail_voteKept (L : Lane) : L.VoteKept (L.tagFail) := by simp [Lane.tagFail]

/-! ### Fault events -/

@[simp] theorem Lane.positionOut_voteKept (L : Lane) (b : Fin 8) (kind code : Nat) :
    L.VoteKept (L.positionOut b kind code) := by simp [Lane.positionOut]

@[simp] theorem Lane.linkOut_voteKept (L : Lane) (kind : Nat) : L.VoteKept (L.linkOut kind) := by simp [Lane.linkOut]

@[simp] theorem Lane.inputOut_voteKept (L : Lane) (unit kind : Nat) : L.VoteKept (L.inputOut unit kind) := by
  unfold Lane.inputOut
  split <;> simp

@[simp] theorem Lane.sourceOut_roleKept (L : Lane) (n lane : Nat) : L.RoleKept (L.sourceOut n lane) := by
  simp [Lane.sourceOut]

@[simp] theorem Lane.linkNumOut_voteKept (L : Lane) (k : Nat) : L.VoteKept (L.linkNumOut k) := by
  unfold Lane.linkNumOut
  split <;> simp

@[simp] theorem Lane.takeOut_roleKept (L : Lane) (code detId : Nat) : L.RoleKept (L.takeOut code detId) := by
  simp only [Lane.takeOut]
  (repeat' split) <;> simp

@[simp] theorem Lane.react_noLeadGained (L : Lane) (code level detId : Nat) :
    L.NoLeadGained (L.react code level detId) := by
  unfold Lane.react
  split <;> simp +contextual

@[simp] theorem Lane.record_voteKept (L : Lane) (code level detId detVal : Nat) (full : Bool) :
    L.VoteKept (L.record code level detId detVal full) := by simp [Lane.record]

end Sys2Proof.Machine
end

section
/-! PROOFS, what each command leaves of places and the lead. -/
namespace Sys2Proof.Machine

/-! ### Commands -/

/-- No lane moves, and none comes to hold LEAD that did not hold it. -/
def State.NoLeadGained (s t : State) : Prop := ∀ l, (s.lane l).NoLeadGained (t.lane l)

/-- The answer of a command, where it is a next state, has no lane moved or come to hold LEAD. -/
def State.NoNewLead (s : State) (o : Host.Outcome State Fault Refusal) : Prop := ∀ t, o = .next t → s.NoLeadGained t

theorem State.NoLeadGained.refl (s : State) : s.NoLeadGained s := fun _ => ⟨rfl, fun h => h⟩

theorem State.NoLeadGained.trans {s t u : State} (h : s.NoLeadGained t) (h' : t.NoLeadGained u) : s.NoLeadGained u :=
  fun l => (h l).trans (h' l)

@[simp] theorem State.noLeadGained_self (s : State) : s.NoLeadGained s := State.NoLeadGained.refl s

@[simp] theorem State.noLeadGained_on_iff (s : State) (l : LaneId) (f : Lane → Lane) :
    s.NoLeadGained (s.on l f) ↔ (s.lane l).NoLeadGained (f (s.lane l)) := by
  refine ⟨fun h => by simpa using h l, fun h p => ?_⟩
  by_cases hp : p = l
  · subst hp; simpa using h
  · simp [hp]

@[simp] theorem State.noLeadGained_onAll_iff (s : State) (f : Lane → Lane) :
    s.NoLeadGained (s.onAll f) ↔ ∀ l, (s.lane l).NoLeadGained (f (s.lane l)) := by
  simp [State.NoLeadGained]

@[simp] theorem State.noNewLead_next_iff (s t : State) : s.NoNewLead (.next t) ↔ s.NoLeadGained t :=
  ⟨fun h => h t rfl, fun h _ ht => by cases ht; exact h⟩

theorem State.noNewLead_on_iff (s : State) (l : LaneId) (f : Lane → Lane) :
    s.NoNewLead (.next (s.on l f)) ↔ (s.lane l).NoLeadGained (f (s.lane l)) := by
  rw [State.noNewLead_next_iff, State.noLeadGained_on_iff]

/-- A complete write whose action keeps the role. -/
theorem State.noNewLead_write (s : State) (l : LaneId) (m : Master) (tid : Nat) (idx : Lane → Nat)
    (sub : Nat) (data : List Byte) (present : Lane → Bool) (act : Lane → Lane → Lane)
    (h : ∀ L M : Lane, M.RoleKept (act L M)) :
    s.NoNewLead (.next (s.on l fun L => L.write m tid (idx L) sub data (present L) (act L))) := by
  rw [State.noNewLead_on_iff]
  exact ((s.lane l).write_roleKept _ _ _ _ _ _ (h _)).noLeadGained

theorem State.noNewLead_onAll_iff (s : State) (f : Lane → Lane) :
    s.NoNewLead (.next (s.onAll f)) ↔ ∀ l, (s.lane l).NoLeadGained (f (s.lane l)) := by
  rw [State.noNewLead_next_iff, State.noLeadGained_onAll_iff]

@[simp] theorem State.noLeadGained_freeCtr_iff (s t : State) (n : Nat) :
    s.NoLeadGained { t with freeCtr := n } ↔ s.NoLeadGained t := Iff.rfl

/-- A lane that starts anew changes what the others hold of its sources and links alone. -/
theorem State.laneStarted_noLeadGained (s : State) (l : LaneId) : s.NoLeadGained (s.laneStarted l) := by
  rw [State.laneStarted, State.noLeadGained_onAll_iff]
  intro p
  exact (Lane.foldl_roleKept (fun M k => by split <;> simp) allLinks _).noLeadGained

/-- A lane that starts anew, then acts. -/
theorem State.started_on_noLeadGained (s : State) (l : LaneId) {f : Lane → Lane}
    (h : ∀ L : Lane, L.NoLeadGained (f L)) :
    s.NoLeadGained ((s.laneStarted l).on l f) :=
  (s.laneStarted_noLeadGained l).trans ((State.noLeadGained_on_iff _ _ _).2 (h _))

theorem State.on_noLeadGained (s : State) (l : LaneId) {f : Lane → Lane} (h : ∀ L : Lane, L.NoLeadGained (f L)) :
    s.NoLeadGained (s.on l f) :=
  (State.noLeadGained_on_iff _ _ _).2 (h _)

/-- The state that the command of a written object leads to. -/
theorem State.after_noLeadGained {s : State} {o : Host.Outcome State Fault Refusal} (h : s.NoNewLead o) :
    s.NoLeadGained (s.after o) := by
  cases o with
  | next t => exact h t rfl
  | fault _ => exact .refl s
  | refused _ => exact .refl s

theorem State.serveRead_noLeadGained (s : State) (l : LaneId) (m : Master) (tid key idx sub ofs len : Nat) :
    s.NoLeadGained (s.serveRead l m tid key idx sub ofs len) := by
  unfold State.serveRead
  split
  · exact (State.noLeadGained_on_iff _ _ _).2 (Lane.readDraw_voteKept ..).noLeadGained
  · exact (State.noLeadGained_on_iff _ _ _).2 (Lane.serveRead_voteKept ..).noLeadGained

theorem State.lptWrite_noLeadGained (s : State) (l : LaneId) (m : Master) (tid : Nat) (data : List Byte) (rx : LptRx) :
    s.NoLeadGained (s.lptWrite l m tid data rx) := by
  have own := s.on_noLeadGained l fun L => (L.lptWrite_voteKept m tid data (s.lptRx l rx)).noLeadGained
  unfold State.lptWrite
  dsimp only
  split
  · split
    · exact own.trans (State.on_noLeadGained _ _ fun _ => ⟨rfl, fun h => h⟩)
    · exact own
  · exact own

theorem Lane.dict_voteKept (L : Lane) (x : Dict) : L.VoteKept { L with dict := x } := ⟨rfl, rfl⟩

theorem Lane.sb_voteKept (L : Lane) (x : Sb) : L.VoteKept { L with sb := x } := ⟨rfl, rfl⟩

theorem Lane.safe_voteKept (L : Lane) (x : Safe) : L.VoteKept { L with safe := x } := ⟨rfl, rfl⟩

theorem Lane.flog_voteKept (L : Lane) (x : Rec) : L.VoteKept { L with flog := x } := ⟨rfl, rfl⟩

@[simp] theorem Lane.discard_voteKept (L : Lane) (h : Held) : L.VoteKept (L.discard h) := by
  unfold Lane.discard
  split <;> simp

theorem State.views_noLeadGained (s : State) : s.NoLeadGained s.views := by
  rw [State.views, State.noLeadGained_onAll_iff]
  intro l
  split <;> simp

theorem State.viewsNow_noLeadGained (s : State) : s.NoLeadGained s.viewsNow := by
  rw [State.viewsNow, State.noLeadGained_onAll_iff]
  intro l
  split <;> simp

theorem execClockCheck_noNewLead (l : LaneId) (ppm : Rat) (s : State) : s.NoNewLead (execClockCheck l ppm s) := by
  simp only [execClockCheck, State.noNewLead_on_iff]
  (repeat' split) <;> simp +contextual

theorem execPllUnlock_noNewLead (l : LaneId) (net : Bool) (s : State) : s.NoNewLead (execPllUnlock l net s) := by
  simp only [execPllUnlock, State.noNewLead_on_iff]
  split <;> simp +contextual

theorem execHkRound_noNewLead (l : LaneId) (n : Nat) (r : HkRound) (s : State) : s.NoNewLead (execHkRound l n r s) := by
  simp [execHkRound]

theorem execSensorBroken_noNewLead (l : LaneId) (i : Fin 10) (s : State) : s.NoNewLead (execSensorBroken l i s) := by
  simp [execSensorBroken]

theorem execReferenceCheckFault_noNewLead (l : LaneId) (s : State) : s.NoNewLead (execReferenceCheckFault l s) := by
  simp only [execReferenceCheckFault, State.noNewLead_on_iff]
  split <;> simp +contextual

theorem execCutSensorImplausible_noNewLead (l : LaneId) (drive : Bool) (s : State) :
    s.NoNewLead (execCutSensorImplausible l drive s) := by
  simp only [execCutSensorImplausible, State.noNewLead_on_iff]
  (repeat' split) <;> simp +contextual

theorem execD2dFrame_noNewLead (l : LaneId) (b : Fin 8) (up crcOk : Bool) (s : State) :
    s.NoNewLead (execD2dFrame l b up crcOk s) := by simp [execD2dFrame]

theorem execD2dLinkFailed_noNewLead (l : LaneId) (s : State) : s.NoNewLead (execD2dLinkFailed l s) := by
  simp only [execD2dLinkFailed, State.noNewLead_on_iff]
  split <;> simp +contextual

theorem execThermalCut_noNewLead (l : LaneId) (drive : Bool) (s : State) : s.NoNewLead (execThermalCut l drive s) := by
  simp only [execThermalCut, State.noNewLead_on_iff]
  split <;> simp +contextual

theorem execConeLatchTrip_noNewLead (l : LaneId) (hot : Bool) (s : State) :
    s.NoNewLead (execConeLatchTrip l hot s) := by
  simp only [execConeLatchTrip, State.noNewLead_on_iff]
  split <;> simp +contextual

theorem execCoolingDone_noNewLead (l : LaneId) (s : State) : s.NoNewLead (execCoolingDone l s) := by
  simp [execCoolingDone]

theorem execVinUndervoltage_noNewLead (l : LaneId) (s : State) : s.NoNewLead (execVinUndervoltage l s) := by
  simp only [execVinUndervoltage, State.noNewLead_on_iff]
  split <;> simp +contextual

theorem execVinOvervoltage_noNewLead (l : LaneId) (s : State) : s.NoNewLead (execVinOvervoltage l s) := by
  simp [execVinOvervoltage]

theorem execAonReset_noNewLead (l : LaneId) (s : State) : s.NoNewLead (execAonReset l s) := by simp [execAonReset]

theorem execResolverPair_noNewLead (l : LaneId) (b : Fin 8) (sinS cosS : List Rat) (s : State) :
    s.NoNewLead (execResolverPair l b sinS cosS s) := by
  simp only [execResolverPair, State.noNewLead_on_iff]
  split <;> simp

theorem execResolverAmplitudeFault_noNewLead (l : LaneId) (b : Fin 8) (s : State) :
    s.NoNewLead (execResolverAmplitudeFault l b s) := by simp [execResolverAmplitudeFault]

theorem execExcitationFault_noNewLead (l : LaneId) (b : Fin 8) (mA : Nat) (s : State) :
    s.NoNewLead (execExcitationFault l b mA s) := by simp [execExcitationFault]

theorem execTrackingFault_noNewLead (l : LaneId) (b : Fin 8) (s : State) : s.NoNewLead (execTrackingFault l b s) := by
  simp [execTrackingFault]

theorem execBissFrame_noNewLead (l : LaneId) (b : Fin 8) (pos : List Bool) (nE nW : Bool) (crc : List Bool)
    (delay : Nat) (s : State) : s.NoNewLead (execBissFrame l b pos nE nW crc delay s) := by
  simp only [execBissFrame, State.noNewLead_on_iff]
  split <;> simp

theorem execBissFrameTimeout_noNewLead (l : LaneId) (b : Fin 8) (s : State) :
    s.NoNewLead (execBissFrameTimeout l b s) := by
  simp only [execBissFrameTimeout, State.noNewLead_on_iff]
  split <;> simp

theorem execBissFrameFault_noNewLead (l : LaneId) (b : Fin 8) (s : State) : s.NoNewLead (execBissFrameFault l b s) := by
  simp [execBissFrameFault]

theorem execHfiBiasPhase_noNewLead (l : LaneId) (b : Fin 8) (s : State) : s.NoNewLead (execHfiBiasPhase l b s) := by
  simp [execHfiBiasPhase]

theorem execHfiCheckEnd_noNewLead (l : LaneId) (b : Fin 8) (th : Rat) (s : State) :
    s.NoNewLead (execHfiCheckEnd l b th s) := by
  simp only [execHfiCheckEnd, State.noNewLead_on_iff]
  split <;> simp

theorem execObserverImplausible_noNewLead (l : LaneId) (b : Fin 8) (s : State) :
    s.NoNewLead (execObserverImplausible l b s) := by
  simp only [execObserverImplausible, State.noNewLead_on_iff]
  split <;> simp

theorem execRotorLost_noNewLead (l : LaneId) (b : Fin 8) (s : State) : s.NoNewLead (execRotorLost l b s) := by
  simp only [execRotorLost, State.noNewLead_on_iff]
  split <;> simp

theorem execSettleExpiry_noNewLead (l : LaneId) (b : Fin 8) (s : State) : s.NoNewLead (execSettleExpiry l b s) := by
  simp only [execSettleExpiry, State.noNewLead_on_iff]
  split <;> simp

theorem execRotorAcquired_noNewLead (l : LaneId) (b : Fin 8) (s : State) : s.NoNewLead (execRotorAcquired l b s) := by
  simp [execRotorAcquired]

theorem execReacquireTimeout_noNewLead (l : LaneId) (b : Fin 8) (s : State) :
    s.NoNewLead (execReacquireTimeout l b s) := by simp [execReacquireTimeout]

theorem execRevCountWrite_noNewLead (l : LaneId) (m : Master) (tid : Nat) (b : Fin 8) (data : List Byte) (s : State) :
    s.NoNewLead (execRevCountWrite l m tid b data s) := 
  State.noNewLead_write s l m tid (fun L => L.brIdx b 1) 8 data (fun _ => _) (fun _ => _) fun _ _ => ⟨rfl, rfl⟩

theorem execPwmPeriodBoundary_noNewLead (l : LaneId) (b : Fin 8) (ns : Nat) (frac : Rat) (bs : Tri3 Bool) (s : State) :
    s.NoNewLead (execPwmPeriodBoundary l b ns frac bs s) := by
  simp only [execPwmPeriodBoundary, State.noNewLead_on_iff]
  split <;> simp

theorem execPeriodCompute_noNewLead (l : LaneId) (b : Fin 8) (q : Samples) (s : State) :
    s.NoNewLead (execPeriodCompute l b q s) := by
  unfold execPeriodCompute
  dsimp only
  split
  · simp
  · split
    · exact (State.noNewLead_next_iff _ _).2 (s.on_noLeadGained l fun L => (L.compute_voteKept b _ q _).noLeadGained)
    · simp

theorem execComputeOverrunIsolate_noNewLead (l : LaneId) (b : Fin 8) (s : State) :
    s.NoNewLead (execComputeOverrunIsolate l b s) := by simp [execComputeOverrunIsolate]

theorem execShuntSaturation_noNewLead (l : LaneId) (b : Fin 8) (s : State) :
    s.NoNewLead (execShuntSaturation l b s) := by simp [execShuntSaturation]

theorem execCurrentTrackingFault_noNewLead (l : LaneId) (b : Fin 8) (s : State) :
    s.NoNewLead (execCurrentTrackingFault l b s) := by simp [execCurrentTrackingFault]

theorem execFieldWeakeningExhausted_noNewLead (l : LaneId) (b : Fin 8) (s : State) :
    s.NoNewLead (execFieldWeakeningExhausted l b s) := by simp [execFieldWeakeningExhausted]

theorem execOscMeasure_noNewLead (l : LaneId) (hz : Rat) (s : State) : s.NoNewLead (execOscMeasure l hz s) := by
  simp only [execOscMeasure, State.noNewLead_on_iff]
  (repeat' split) <;> simp +contextual

theorem execBridgeModeRequest_noNewLead (l : LaneId) (b : Fin 8) (rank3 on : Bool) (s : State) :
    s.NoNewLead (execBridgeModeRequest l b rank3 on s) := by simp [execBridgeModeRequest]

theorem execParkLockComplete_noNewLead (l : LaneId) (b : Fin 8) (s : State) :
    s.NoNewLead (execParkLockComplete l b s) := by simp [execParkLockComplete]

theorem execGateRailFault_noNewLead (l : LaneId) (low : Bool) (s : State) :
    s.NoNewLead (execGateRailFault l low s) := by
  simp only [execGateRailFault, State.noNewLead_on_iff]
  split <;> simp +contextual

theorem execSwitchNodeCrossing_noNewLead (l : LaneId) (b : Fin 8) (p : Phase) (c : Crossing) (s : State) :
    s.NoNewLead (execSwitchNodeCrossing l b p c s) := by
  simp only [execSwitchNodeCrossing, State.noNewLead_on_iff]
  (repeat' split) <;> simp

theorem execDriveStrengthLimit_noNewLead (l : LaneId) (b : Fin 8) (p : Phase) (high : Bool) (s : State) :
    s.NoNewLead (execDriveStrengthLimit l b p high s) := by simp [execDriveStrengthLimit]

theorem execSwitchNodeSenseLost_noNewLead (l : LaneId) (b : Fin 8) (p : Phase) (s : State) :
    s.NoNewLead (execSwitchNodeSenseLost l b p s) := by simp [execSwitchNodeSenseLost]

theorem execGateReadbackMismatch_noNewLead (l : LaneId) (b : Fin 8) (out : Fin 6) (s : State) :
    s.NoNewLead (execGateReadbackMismatch l b out s) := by simp [execGateReadbackMismatch]

theorem execDesaturationDetect_noNewLead (l : LaneId) (b : Fin 8) (out : Fin 6) (s : State) :
    s.NoNewLead (execDesaturationDetect l b out s) := by simp [execDesaturationDetect]

theorem execHardOvercurrent_noNewLead (l : LaneId) (b : Fin 8) (s : State) :
    s.NoNewLead (execHardOvercurrent l b s) := by simp [execHardOvercurrent]

theorem execSoftTurnoffEnd_noNewLead (l : LaneId) (b : Fin 8) (s : State) : s.NoNewLead (execSoftTurnoffEnd l b s) := by
  simp [execSoftTurnoffEnd]

theorem execBootstrapRefresh_noNewLead (l : LaneId) (b : Fin 8) (p : Phase) (s : State) :
    s.NoNewLead (execBootstrapRefresh l b p s) := by simp [execBootstrapRefresh]

theorem execBootstrapUvlo_noNewLead (l : LaneId) (b : Fin 8) (p : Phase) (s : State) :
    s.NoNewLead (execBootstrapUvlo l b p s) := by simp [execBootstrapUvlo]

theorem execFaultWaitEnd_noNewLead (l : LaneId) (b : Fin 8) (s : State) : s.NoNewLead (execFaultWaitEnd l b s) := by
  simp [execFaultWaitEnd]

theorem execTryRelease_noNewLead (l : LaneId) (b : Fin 8) (s : State) : s.NoNewLead (execTryRelease l b s) := by
  simp [execTryRelease]

theorem execTryTimeout_noNewLead (l : LaneId) (b : Fin 8) (s : State) : s.NoNewLead (execTryTimeout l b s) := by
  simp [execTryTimeout]

theorem execGdClear_noNewLead (l : LaneId) (m : Master) (tid : Nat) (b : Fin 8) (data : List Byte) (e : ClearIn)
    (s : State) :
    s.NoNewLead (execGdClear l m tid b data e s) := 
  State.noNewLead_write s l m tid (fun L => L.brIdx b 3) 1 data (fun _ => _) (fun _ => _)
    fun _ M => (M.gdClear_voteKept b).roleKept

theorem execSelftest_noNewLead (l : LaneId) (m : Master) (tid : Nat) (b : Fin 8) (data : List Byte) (s : State) :
    s.NoNewLead (execSelftest l m tid b data s) := 
  State.noNewLead_write s l m tid (fun L => L.brIdx b 3) 2 data (fun _ => _) (fun _ => _) fun _ _ => ⟨rfl, rfl⟩

theorem execSelftestComplete_noNewLead (l : LaneId) (b : Fin 8) (e : TestEnd) (s : State) :
    s.NoNewLead (execSelftestComplete l b e s) := by
  simp only [execSelftestComplete, State.noNewLead_on_iff]
  (repeat' split) <;> simp

theorem execVdcSample_noNewLead (l : LaneId) (x : LinkSample) (s : State) : s.NoNewLead (execVdcSample l x s) := by
  simp [execVdcSample]

theorem execLinkSenseDisagree_noNewLead (l : LaneId) (s : State) : s.NoNewLead (execLinkSenseDisagree l s) := by
  simp only [execLinkSenseDisagree, State.noNewLead_on_iff]
  split <;> simp +contextual

theorem execChopperCurrentCheck_noNewLead (l : LaneId) (i : Rat) (s : State) :
    s.NoNewLead (execChopperCurrentCheck l i s) := by simp [execChopperCurrentCheck]

theorem execChopperFault_noNewLead (l : LaneId) (s : State) : s.NoNewLead (execChopperFault l s) := by
  simp [execChopperFault]

theorem execChopperEnergyUpdate_noNewLead (l : LaneId) (s : State) : s.NoNewLead (execChopperEnergyUpdate l s) := by
  simp [execChopperEnergyUpdate]

theorem execChopTest_noNewLead (l : LaneId) (m : Master) (tid : Nat) (data : List Byte) (s : State) :
    s.NoNewLead (execChopTest l m tid data s) := 
  State.noNewLead_write s l m tid (fun L => L.dcIdx 2) 1 data (fun _ => _) (fun _ => _) fun _ _ => ⟨rfl, rfl⟩

theorem execChopperTestComplete_noNewLead (l : LaneId) (amps : Rat) (s : State) :
    s.NoNewLead (execChopperTestComplete l amps s) := by simp [execChopperTestComplete]

theorem execOv3Timeout_noNewLead (l : LaneId) (s : State) : s.NoNewLead (execOv3Timeout l s) := by
  simp only [execOv3Timeout, State.noNewLead_on_iff]
  split <;> simp +contextual

theorem execHwOvTrip_noNewLead (l : LaneId) (s : State) : s.NoNewLead (execHwOvTrip l s) := by
  simp only [execHwOvTrip, State.noNewLead_on_iff]
  (repeat' split) <;> simp +contextual

theorem execHwOvRelease_noNewLead (l : LaneId) (s : State) : s.NoNewLead (execHwOvRelease l s) := by
  simp [execHwOvRelease]

theorem execLinkUndervoltage_noNewLead (l : LaneId) (s : State) : s.NoNewLead (execLinkUndervoltage l s) := by
  simp [execLinkUndervoltage]

theorem execLinkUvRecover_noNewLead (l : LaneId) (s : State) : s.NoNewLead (execLinkUvRecover l s) := by
  simp [execLinkUvRecover]

theorem execSlewEnd_noNewLead (l : LaneId) (s : State) : s.NoNewLead (execSlewEnd l s) := by simp [execSlewEnd]

theorem execSleepRecordInvalidate_noNewLead (l : LaneId) (s : State) : s.NoNewLead (execSleepRecordInvalidate l s) := by
  simp [execSleepRecordInvalidate]

theorem execGptpSync_noNewLead (l : LaneId) (g : SyncIn) (s : State) :
    s.NoNewLead (execGptpSync l g s) := by
  unfold execGptpSync
  dsimp only
  split
  · exact (State.noNewLead_next_iff _ _).2 (s.on_noLeadGained l fun L => (L.takeSync_voteKept g _).noLeadGained)
  · simp

theorem execGptpSyncTimeout_noNewLead (l : LaneId) (s : State) : s.NoNewLead (execGptpSyncTimeout l s) := by
  simp [execGptpSyncTimeout]

theorem execGptpAnnounce_noNewLead (l : LaneId) (a : AnnounceIn) (s : State) :
    s.NoNewLead (execGptpAnnounce l a s) := by simp [execGptpAnnounce]

theorem execSyncTransmission_noNewLead (l : LaneId) (s : State) : s.NoNewLead (execSyncTransmission l s) := by
  simp [execSyncTransmission]

theorem execStepAccept_noNewLead (l : LaneId) (m : Master) (tid : Nat) (data : List Byte) (s : State) :
    s.NoNewLead (execStepAccept l m tid data s) := by
  exact State.noNewLead_write s _ _ _ (fun _ => _) _ _ (fun _ => _) (fun _ => _) fun _ _ => ⟨rfl, rfl⟩

theorem execTsqPop_noNewLead (l : LaneId) (m : Master) (tid : Nat) (q : TsqId) (data : List Byte) (s : State) :
    s.NoNewLead (execTsqPop l m tid q data s) := by
  exact State.noNewLead_write s _ _ _ (fun _ => _) _ _ (fun _ => _) (fun _ => _) fun _ _ => ⟨rfl, rfl⟩

theorem execTaSubmit_noNewLead (l : LaneId) (m : Master) (tid : Nat) (data : List Byte) (lineNs : Nat) (s : State) :
    s.NoNewLead (execTaSubmit l m tid data lineNs s) := by
  simp only [execTaSubmit, State.noNewLead_on_iff]
  split <;> simp

theorem execTaCancel_noNewLead (l : LaneId) (m : Master) (tid : Nat) (data : List Byte) (s : State) :
    s.NoNewLead (execTaCancel l m tid data s) := by
  exact State.noNewLead_write s _ _ _ (fun _ => _) _ _ (fun _ => _) (fun _ => _) fun _ _ => ⟨rfl, rfl⟩

theorem execTimedActionDue_noNewLead (l : LaneId) (slot : Nat) (full : Bool) (s : State) :
    s.NoNewLead (execTimedActionDue l slot full s) := by
  simp only [execTimedActionDue, State.noNewLead_on_iff]
  split <;> simp

theorem execStarFrameArrival_noNewLead (l : LaneId) (ch : Chan) (port : Nat) (f : StarStart) (s : State) :
    s.NoNewLead (execStarFrameArrival l ch port f s) := by
  simp only [execStarFrameArrival, State.noNewLead_on_iff]
  (repeat' split) <;> simp

theorem execGuardianTruncate_noNewLead (l : LaneId) (ch : Chan) (s : State) :
    s.NoNewLead (execGuardianTruncate l ch s) := by simp [execGuardianTruncate]

theorem execGuardianHoldoverEnd_noNewLead (l : LaneId) (s : State) : s.NoNewLead (execGuardianHoldoverEnd l s) := by
  simp [execGuardianHoldoverEnd]

theorem execPortLinkChange_noNewLead (l : LaneId) (ch : Chan) (port : Nat) (up : Bool) (s : State) :
    s.NoNewLead (execPortLinkChange l ch port up s) := by simp [execPortLinkChange]

theorem execPortBlockedPersist_noNewLead (l : LaneId) (ch : Chan) (port : Nat) (s : State) :
    s.NoNewLead (execPortBlockedPersist l ch port s) := by simp [execPortBlockedPersist]

theorem execTsuvasFrameReceived_noNewLead (l : LaneId) (ch : Chan) (f : FrameIn) (s : State) :
    s.NoNewLead (execTsuvasFrameReceived l ch f s) := by
  unfold execTsuvasFrameReceived
  dsimp only
  split
  · exact (State.noNewLead_next_iff _ _).2 (s.on_noLeadGained l fun L => (L.rxFrame_voteKept ch f _).noLeadGained)
  · simp

theorem execSlotLaunch_noNewLead (l : LaneId) (ch : Chan) (slot : Nat) (service : Bool) (s : State) :
    s.NoNewLead (execSlotLaunch l ch slot service s) := by
  simp only [execSlotLaunch, State.noNewLead_on_iff]
  (repeat' split) <;> simp

theorem execSlotEnd_noNewLead (l : LaneId) (ch : Chan) (slot : Nat) (s : State) :
    s.NoNewLead (execSlotEnd l ch slot s) := by simp [execSlotEnd]

theorem execNetworkCycleEnd_noNewLead (l : LaneId) (s : State) : s.NoNewLead (execNetworkCycleEnd l s) := by
  simp [execNetworkCycleEnd]

theorem execSyncLoss_noNewLead (l : LaneId) (s : State) : s.NoNewLead (execSyncLoss l s) := by simp [execSyncLoss]

theorem execListenTimeout_noNewLead (l : LaneId) (s : State) : s.NoNewLead (execListenTimeout l s) := by
  simp [execListenTimeout]

theorem execColdstartCollision_noNewLead (l : LaneId) (s : State) : s.NoNewLead (execColdstartCollision l s) := by
  simp [execColdstartCollision]

theorem execBackoffExpiry_noNewLead (l : LaneId) (s : State) : s.NoNewLead (execBackoffExpiry l s) := by
  simp [execBackoffExpiry]

theorem execColdstartCycleEnd_noNewLead (l : LaneId) (s : State) : s.NoNewLead (execColdstartCycleEnd l s) := by
  simp [execColdstartCycleEnd]

theorem execPeerTimeRead_noNewLead (l src : LaneId) (rttNs ns : Nat) (s : State) :
    s.NoNewLead (execPeerTimeRead l src rttNs ns s) := by
  unfold execPeerTimeRead
  dsimp only
  split
  · rw [State.noNewLead_next_iff, State.noLeadGained_freeCtr_iff, State.noLeadGained_on_iff]
    split <;> simp
  · simp

theorem execTimeMismatchRetry_noNewLead (l : LaneId) (s : State) : s.NoNewLead (execTimeMismatchRetry l s) := by
  simp [execTimeMismatchRetry]

theorem execChannelLost_noNewLead (l : LaneId) (ch : Chan) (s : State) : s.NoNewLead (execChannelLost l ch s) := by
  simp [execChannelLost]

theorem execChannelRestored_noNewLead (l : LaneId) (ch : Chan) (s : State) :
    s.NoNewLead (execChannelRestored l ch s) := by simp [execChannelRestored]

theorem execNetworkLost_noNewLead (l : LaneId) (s : State) : s.NoNewLead (execNetworkLost l s) := by
  simp [execNetworkLost]

theorem execNetworkRestored_noNewLead (l : LaneId) (s : State) : s.NoNewLead (execNetworkRestored l s) := by
  simp [execNetworkRestored]

theorem execServiceTaskEnd_noNewLead (l : LaneId) (task endUs : Nat) (s : State) :
    s.NoNewLead (execServiceTaskEnd l task endUs s) := by simp [execServiceTaskEnd]

theorem execAgeLimitReached_noNewLead (l : LaneId) (k : AgeKind) (s : State) :
    s.NoNewLead (execAgeLimitReached l k s) := by simp [execAgeLimitReached]

theorem execStopHoldExpiry_noNewLead (l : LaneId) (s : State) : s.NoNewLead (execStopHoldExpiry l s) := by
  simp [execStopHoldExpiry]

theorem execSlipHoldExpiry_noNewLead (l : LaneId) (n : Fin 8) (s : State) : s.NoNewLead (execSlipHoldExpiry l n s) := by
  simp [execSlipHoldExpiry]

theorem execOverloadBudgetExhausted_noNewLead (l : LaneId) (n : Fin 8) (s : State) :
    s.NoNewLead (execOverloadBudgetExhausted l n s) := by simp [execOverloadBudgetExhausted]

theorem execStopRelease_noNewLead (l : LaneId) (m : Master) (tid : Nat) (data : List Byte) (s : State) :
    s.NoNewLead (execStopRelease l m tid data s) := by simp [execStopRelease]

theorem execContactWrite_noNewLead (l : LaneId) (m : Master) (tid : Nat) (n : Fin 8) (data : List Byte) (s : State) :
    s.NoNewLead (execContactWrite l m tid n data s) := by simp [execContactWrite]

theorem execSafetySample_noNewLead (l : LaneId) (n : Nat) (p : SafetyPins) (s : State) :
    s.NoNewLead (execSafetySample l n p s) := by simp [execSafetySample]

theorem execDiscrepancyFault_noNewLead (l : LaneId) (i : Fin 8) (s : State) :
    s.NoNewLead (execDiscrepancyFault l i s) := by
  simp only [execDiscrepancyFault, State.noNewLead_on_iff]
  split <;> simp

theorem execSafetyReset_noNewLead (l : LaneId) (s : State) : s.NoNewLead (execSafetyReset l s) := by
  simp [execSafetyReset]

theorem execSrstStuck_noNewLead (l : LaneId) (s : State) : s.NoNewLead (execSrstStuck l s) := by
  simp only [execSrstStuck, State.noNewLead_on_iff]
  split <;> simp

theorem execSealOpen_noNewLead (l : LaneId) (s : State) : s.NoNewLead (execSealOpen l s) := by simp [execSealOpen]

theorem execSealDisagree_noNewLead (l : LaneId) (s : State) : s.NoNewLead (execSealDisagree l s) := by
  simp [execSealDisagree]

theorem execTestPulse_noNewLead (l : LaneId) (o : Bool) (n : Nat) (s : State) :
    s.NoNewLead (execTestPulse l o n s) := by
  have clock (L : Lane) (ns : Nat) : L.VoteKept (L.advance ns) := ⟨L.advance_id ns, L.advance_vote ns⟩
  rw [execTestPulse, State.noNewLead_on_iff]
  split
  · exact ((clock _ _).trans (Lane.safe_voteKept _ _)).noLeadGained
  · simp

theorem execTestPulseCheck_noNewLead (l : LaneId) (o backLow : Bool) (ch1 ch2 : Oct Bool) (s : State) :
    s.NoNewLead (execTestPulseCheck l o backLow ch1 ch2 s) := by simp [execTestPulseCheck]

theorem execSetStore_noNewLead (l : LaneId) (m : Master) (tid : Nat) (data : List Byte) (s : State) :
    s.NoNewLead (execSetStore l m tid data s) := by
  refine State.noNewLead_write s _ _ _ (fun _ => _) _ _ (fun _ => _) (fun _ => _) fun _ _ => by simp

theorem execDs2Password_noNewLead (l : LaneId) (m : Master) (tid total : Nat) (data : List Byte) (s : State) :
    s.NoNewLead (execDs2Password l m tid total data s) := by
  simp only [execDs2Password, State.noNewLead_on_iff]
  (repeat' split) <;> simp

theorem execDs2Store_noNewLead (l : LaneId) (m : Master) (tid : Nat) (data : List Byte) (s : State) :
    s.NoNewLead (execDs2Store l m tid data s) := by
  refine State.noNewLead_write s _ _ _ (fun _ => _) _ _ (fun _ => _) (fun _ => _) fun _ _ => by simp

theorem execDs2Lock_noNewLead (l : LaneId) (m : Master) (tid : Nat) (data : List Byte) (s : State) :
    s.NoNewLead (execDs2Lock l m tid data s) := by
  exact State.noNewLead_write s _ _ _ (fun _ => _) _ _ (fun _ => _) (fun _ => _) fun _ _ => ⟨rfl, rfl⟩

theorem execDs2BlockExpiry_noNewLead (l : LaneId) (s : State) : s.NoNewLead (execDs2BlockExpiry l s) := by
  simp [execDs2BlockExpiry]

theorem execDs2UnlockTimeout_noNewLead (l : LaneId) (m : Master) (s : State) :
    s.NoNewLead (execDs2UnlockTimeout l m s) := by simp [execDs2UnlockTimeout]

theorem execKeyprov_noNewLead (l : LaneId) (head wrapped : List Byte) (otpOk : Bool) (s : State) :
    s.NoNewLead (execKeyprov l head wrapped otpOk s) := by simp [execKeyprov]

theorem execJtagIdcode_noNewLead (l : LaneId) (s : State) : s.NoNewLead (execJtagIdcode l s) := by simp [execJtagIdcode]

theorem execJtagBypass_noNewLead (l : LaneId) (s : State) : s.NoNewLead (execJtagBypass l s) := by simp [execJtagBypass]

theorem execKeyRevoke_noNewLead (l : LaneId) (m : Master) (tid : Nat) (data : List Byte) (s : State) :
    s.NoNewLead (execKeyRevoke l m tid data s) := by
  refine State.noNewLead_write s _ _ _ (fun _ => _) _ _ (fun _ => _) (fun _ => _) fun _ _ => by simp

theorem execDbgChallenge_noNewLead (l : LaneId) (m : Master) (tid : Nat) (s : State) :
    s.NoNewLead (execDbgChallenge l m tid s) := by
  refine (State.noNewLead_next_iff _ _).2 (State.on_noLeadGained s.drawn l fun L => ?_)
  split <;> simp

theorem execDbgResponse_noNewLead (l : LaneId) (m : Master) (tid : Nat) (rPart sPart : List Byte) (s : State) :
    s.NoNewLead (execDbgResponse l m tid rPart sPart s) := by
  simp only [execDbgResponse, State.noNewLead_on_iff]
  (repeat' split) <;> simp +contextual

theorem execDbgBlockExpiry_noNewLead (l : LaneId) (s : State) : s.NoNewLead (execDbgBlockExpiry l s) := by
  simp [execDbgBlockExpiry]

theorem execSbChallenge_noNewLead (l : LaneId) (s : State) :
    s.NoNewLead (execSbChallenge l s) := by
  refine (State.noNewLead_next_iff _ _).2 (State.on_noLeadGained s.drawn l fun L => ?_)
  split <;> simp

theorem execSbResponse_noNewLead (l : LaneId) (data : List Byte) (s : State) :
    s.NoNewLead (execSbResponse l data s) := by
  simp only [execSbResponse, State.noNewLead_on_iff]
  (repeat' split) <;> simp

theorem execSbClose_noNewLead (l : LaneId) (m : Master) (tid : Nat) (data : List Byte) (s : State) :
    s.NoNewLead (execSbClose l m tid data s) := by
  refine State.noNewLead_write s _ _ _ (fun _ => _) _ _ (fun _ => _) (fun _ => _) fun _ _ => by simp

theorem execSessionTimeout_noNewLead (l : LaneId) (s : State) : s.NoNewLead (execSessionTimeout l s) := by
  simp [execSessionTimeout]

theorem execCanBusOff_noNewLead (l : LaneId) (s : State) : s.NoNewLead (execCanBusOff l s) := by simp [execCanBusOff]

theorem execMonitorRest_noNewLead (l : LaneId) (s : State) : s.NoNewLead (execMonitorRest l s) := by
  simp [execMonitorRest]

theorem execLogCommit_noNewLead (l : LaneId) (n : Nat) (s : State) :
    s.NoNewLead (execLogCommit l n s) := by
  have clock (L : Lane) (ns : Nat) : L.VoteKept (L.advance ns) := ⟨L.advance_id ns, L.advance_vote ns⟩
  rw [execLogCommit, State.noNewLead_on_iff]
  split
  · exact ((clock _ _).trans (Lane.flog_voteKept _ _)).noLeadGained
  · simp

theorem execKilnSecond_noNewLead (l : LaneId) (n : Nat) (s : State) : s.NoNewLead (execKilnSecond l n s) := by
  simp [execKilnSecond]

theorem execKilnCommit_noNewLead (l : LaneId) (n : Nat) (s : State) : s.NoNewLead (execKilnCommit l n s) := by
  simp [execKilnCommit]

theorem execWedgeGroupEnd_noNewLead (l : LaneId) (cells : List FailCell) (s : State) :
    s.NoNewLead (execWedgeGroupEnd l cells s) := by
  simp only [execWedgeGroupEnd, State.noNewLead_on_iff]
  (repeat' split) <;> simp +contextual

theorem execMarchElementEnd_noNewLead (l : LaneId) (s : State) : s.NoNewLead (execMarchElementEnd l s) := by
  simp only [execMarchElementEnd, State.noNewLead_on_iff]
  (repeat' split) <;> simp +contextual

theorem execScrubPass_noNewLead (l : LaneId) (cells : List FailCell) (s : State) :
    s.NoNewLead (execScrubPass l cells s) := by
  rw [execScrubPass, State.noNewLead_on_iff]
  split
  · refine Lane.VoteKept.noLeadGained (Lane.foldl_voteKept (fun M c => ?_) cells _)
    dsimp only
    (repeat' split) <;> simp
  · simp

theorem execMemTest_noNewLead (l : LaneId) (m : Master) (tid : Nat) (data : List Byte) (s : State) :
    s.NoNewLead (execMemTest l m tid data s) := by
  simp only [execMemTest, State.noNewLead_on_iff]
  (repeat' split) <;> simp +contextual

theorem execMemTestDemand_noNewLead (l : LaneId) (s : State) : s.NoNewLead (execMemTestDemand l s) := by
  simp only [execMemTestDemand]
  split <;> simp

theorem execCompareSelfCheck_noNewLead (l : LaneId) (pass : Bool) (s : State) :
    s.NoNewLead (execCompareSelfCheck l pass s) := by
  simp only [execCompareSelfCheck, State.noNewLead_on_iff]
  split <;> simp +contextual

theorem execLptStart_noNewLead (l : LaneId) (m : Master) (tid : Nat) (data : List Byte) (s : State) :
    s.NoNewLead (execLptStart l m tid data s) := by simp [execLptStart, State.lptWrite_noLeadGained]

theorem execLptStop_noNewLead (l : LaneId) (m : Master) (tid : Nat) (data : List Byte) (rx : LptRx) (s : State) :
    s.NoNewLead (execLptStop l m tid data rx s) := by simp [execLptStop, State.lptWrite_noLeadGained]

theorem execLptInject_noNewLead (l : LaneId) (m : Master) (tid : Nat) (data : List Byte) (rx : LptRx) (s : State) :
    s.NoNewLead (execLptInject l m tid data rx s) := by simp [execLptInject, State.lptWrite_noLeadGained]

theorem execLptDurationEnd_noNewLead (l : LaneId) (rx : LptRx) (s : State) :
    s.NoNewLead (execLptDurationEnd l rx s) := by simp [execLptDurationEnd]

theorem execInputClose_noNewLead (s : State) : s.NoNewLead (execInputClose s) := by simp [execInputClose]

theorem execInputSetReceived_noNewLead (dst src : LaneId) (direct crcOk : Bool) (other : List (Nat × Bool × Int))
    (s : State) : s.NoNewLead (execInputSetReceived dst src direct crcOk other s) := by
  simp only [execInputSetReceived]
  (repeat' split) <;> simp

theorem execInputAgreement_noNewLead (s : State) : s.NoNewLead (execInputAgreement s) := by
  simp +contextual [execInputAgreement]

theorem execComputeDeadline_noNewLead (s : State) : s.NoNewLead (execComputeDeadline s) := by simp [execComputeDeadline]

theorem execOutputSetReceived_noNewLead (dst src : LaneId) (way : Way) (flagged : Bool)
    (other : List (LaneId × Fin 8 × Rat)) (s : State) :
    s.NoNewLead (execOutputSetReceived dst src way flagged other s) := by
  simp only [execOutputSetReceived]
  (repeat' split) <;> simp

theorem execApply_noNewLead (s : State) :
    s.NoNewLead (execApply s) := by
  rw [execApply, State.noNewLead_next_iff]
  refine State.NoLeadGained.trans ?_ (State.viewsNow_noLeadGained _)
  exact (State.noLeadGained_onAll_iff _ _).2 fun l => (s.lane l).apply_noLeadGained

theorem execStateCopy_noNewLead (s : State) : s.NoNewLead (execStateCopy s) := by simp [execStateCopy]

theorem execStateVectorReceived_noNewLead (c : CopyIn) (s : State) :
    s.NoNewLead (execStateVectorReceived c s) := by
  unfold execStateVectorReceived
  dsimp only
  split
  · simp
  · rw [State.noNewLead_on_iff]
    split
    · split
      · exact Lane.takeCopy_noLeadGained _ _ _ _
      · simp
    · simp

theorem execStateCopyDeadline_noNewLead (s : State) : s.NoNewLead (execStateCopyDeadline s) := by
  simp [execStateCopyDeadline]

theorem execLockstepFault_noNewLead (l : LaneId) (service : Bool) (s : State) :
    s.NoNewLead (execLockstepFault l service s) := by
  simp only [execLockstepFault, State.noNewLead_on_iff]
  split <;> simp +contextual

theorem execSlipLinkIsolate_noNewLead (k : LinkId) (s : State) :
    s.NoNewLead (execSlipLinkIsolate k s) := by
  unfold execSlipLinkIsolate
  dsimp only
  split
  · rw [State.noNewLead_onAll_iff]
    intro l
    split <;> simp
  · simp

theorem execSlipLinkReturn_noNewLead (k : LinkId) (s : State) : s.NoNewLead (execSlipLinkReturn k s) := by
  simp [execSlipLinkReturn]

theorem execShadowPromote_noNewLead (l : LaneId) (s : State) : s.NoNewLead (execShadowPromote l s) := by
  simp [execShadowPromote]

theorem execRampComplete_noNewLead (l : LaneId) (s : State) : s.NoNewLead (execRampComplete l s) := by
  simp [execRampComplete]

theorem execLaneRestart_noNewLead (l : LaneId) (r : Rails) (s : State) :
    s.NoNewLead (execLaneRestart l r s) := by
  unfold execLaneRestart
  dsimp only
  split
  · exact (State.noNewLead_next_iff _ _).2 (s.started_on_noLeadGained l Lane.restartOut_noLeadGained)
  · simp

theorem execReintRelease_noNewLead (l : LaneId) (m : Master) (tid : Nat) (data : List Byte) (s : State) :
    s.NoNewLead (execReintRelease l m tid data s) := by
  exact State.noNewLead_write s _ _ _ (fun _ => _) _ _ (fun _ => _) (fun _ => _) fun _ _ => ⟨rfl, rfl⟩

theorem execPwrReqRun_noNewLead (l : LaneId) (m : Master) (tid : Nat) (s : State) :
    s.NoNewLead (execPwrReqRun l m tid s) := by simp +contextual [execPwrReqRun]

theorem execPwrReqHold_noNewLead (l : LaneId) (m : Master) (tid : Nat) (s : State) :
    s.NoNewLead (execPwrReqHold l m tid s) := by simp +contextual [execPwrReqHold]

theorem execPwrReqStandby_noNewLead (l : LaneId) (m : Master) (tid : Nat) (s : State) :
    s.NoNewLead (execPwrReqStandby l m tid s) := by simp +contextual [execPwrReqStandby]

theorem execPwrReqOff_noNewLead (l : LaneId) (m : Master) (tid : Nat) (s : State) :
    s.NoNewLead (execPwrReqOff l m tid s) := by simp +contextual [execPwrReqOff]

theorem execAutoRunRequest_noNewLead (l : LaneId) (s : State) : s.NoNewLead (execAutoRunRequest l s) := by
  simp [execAutoRunRequest]

theorem execExitPassiveEnd_noNewLead (s : State) : s.NoNewLead (execExitPassiveEnd s) := by
  simp only [execExitPassiveEnd, State.noNewLead_onAll_iff]
  intro l
  split <;> simp +contextual

theorem execCtSubmit_noNewLead (l : LaneId) (m : Master) (tid : Nat) (data : List Byte) (s : State) :
    s.NoNewLead (execCtSubmit l m tid data s) := by
  simp only [execCtSubmit, State.noNewLead_on_iff]
  split <;> simp

theorem execCtWithdraw_noNewLead (l : LaneId) (m : Master) (tid : Nat) (data : List Byte) (s : State) :
    s.NoNewLead (execCtWithdraw l m tid data s) := by
  simp only [execCtWithdraw, State.noNewLead_on_iff]
  (repeat' split) <;> simp

theorem execCyclePointRaise_noNewLead (l : LaneId) (cp : Fin 8) (busy : Bool) (s : State) :
    s.NoNewLead (execCyclePointRaise l cp busy s) := by simp [execCyclePointRaise]

theorem execContractWindow_noNewLead (l : LaneId) (n : Nat) (s : State) : s.NoNewLead (execContractWindow l n s) := by
  simp only [execContractWindow, State.noNewLead_on_iff]
  (repeat' split) <;> simp

theorem execUplinkLinkChange_noNewLead (l : LaneId) (up : Bool) (s : State) :
    s.NoNewLead (execUplinkLinkChange l up s) := by simp [execUplinkLinkChange]

theorem execUplinkFrameReceived_noNewLead (l : LaneId) (ns : Nat) (f : UplinkIn) (s : State) :
    s.NoNewLead (execUplinkFrameReceived l ns f s) := by
  have clock (L : Lane) : L.RoleKept (L.advance ns) := ⟨L.advance_id ns, by simp⟩
  have dropped (L : Lane) : L.RoleKept L.rxDrop := L.rxDrop_voteKept.roleKept
  rw [execUplinkFrameReceived, State.noNewLead_on_iff]
  split
  · refine ((clock _).trans ?_).noLeadGained
    cases f with
    | udp d =>
      refine .ite (dropped _) (.ite ⟨rfl, rfl⟩ (.ite ?_ (.ite ?_ ⟨rfl, rfl⟩)))
      · exact Lane.datagram_roleKept _ d false fun _ => ⟨rfl, rfl⟩
      · exact Lane.datagram_roleKept _ d true fun N => (N.takeForward_voteKept _ _).roleKept
    | foreign => exact dropped _
    | arp own => simp
    | neighbour own => simp
    | echo six => simp
    | gptp => exact ⟨rfl, rfl⟩
    | unserved => exact ⟨rfl, rfl⟩
  · simp

theorem execVinPowerOn_noNewLead (l : LaneId) (s : State) :
    s.NoNewLead (execVinPowerOn l s) := by
  unfold execVinPowerOn
  dsimp only
  split
  · simp
  · split
    · simp
    · exact (State.noNewLead_next_iff _ _).2 (s.started_on_noLeadGained l fun L => L.powerUp_noLeadGained 1)

theorem execNrstAssert_noNewLead (l : LaneId) (s : State) : s.NoNewLead (execNrstAssert l s) := by
  simp +contextual [execNrstAssert]

theorem execNrstRelease_noNewLead (l : LaneId) (s : State) :
    s.NoNewLead (execNrstRelease l s) := by
  unfold execNrstRelease
  split
  · refine (State.noNewLead_next_iff _ _).2 (s.started_on_noLeadGained l fun L => ?_)
    dsimp only
    split
    · exact Lane.powerUp_noLeadGained _ 1
    · simp
  · simp

theorem execVinBelowPowerOn_noNewLead (l : LaneId) (written aonLow : Bool) (s : State) :
    s.NoNewLead (execVinBelowPowerOn l written aonLow s) := by
  simp only [execVinBelowPowerOn, State.noNewLead_on_iff]
  split <;> simp +contextual

theorem execWakeEvent_noNewLead (l : LaneId) (src : WakeSrc) (s : State) :
    s.NoNewLead (execWakeEvent l src s) := by
  unfold execWakeEvent
  dsimp only
  split
  · simp
  · split
    · exact (State.noNewLead_next_iff _ _).2 (s.started_on_noLeadGained l fun L => L.wakeUp_noLeadGained _)
    · split
      · simp
      · split
        · simp
        · exact (State.noNewLead_on_iff _ _ _).2 (Lane.preEmpt_noLeadGained _ _)

theorem execEntryPhaseEnd_noNewLead (l : LaneId) (r : PhaseReport) (s : State) :
    s.NoNewLead (execEntryPhaseEnd l r s) := by
  simp only [execEntryPhaseEnd, State.noNewLead_on_iff]
  split <;> simp +contextual

theorem execRestoreStepEnd_noNewLead (l : LaneId) (r : StepReport) (s : State) :
    s.NoNewLead (execRestoreStepEnd l r s) := by
  unfold execRestoreStepEnd
  dsimp only
  split
  · simp
  · split
    · exact (State.noNewLead_next_iff _ _).2 (s.started_on_noLeadGained l fun L => L.powerUp_noLeadGained 1)
    · split
      · exact (State.noNewLead_next_iff _ _).2 (s.started_on_noLeadGained l fun L => L.stepEnd_noLeadGained _ _ _)
      · exact (State.noNewLead_on_iff _ _ _).2 (Lane.stepEnd_noLeadGained _ _ _ _)

theorem execTransferRead_noNewLead (l : LaneId) (m : Master) (tid idx sub ofs len : Nat) (s : State) :
    s.NoNewLead (execTransferRead l m tid idx sub ofs len s) := by simp [execTransferRead, State.serveRead_noLeadGained]

theorem execResultRead_noNewLead (l : LaneId) (m : Master) (tid : Nat) (k : ResultKind) (own : Master) (s : State) :
    s.NoNewLead (execResultRead l m tid k own s) := by simp [execResultRead, State.serveRead_noLeadGained]

theorem execSupervisoryRead_noNewLead (l : LaneId) (tid idx sub ofs len op : Nat) (s : State) :
    s.NoNewLead (execSupervisoryRead l tid idx sub ofs len op s) := by
  have replied (t : State) : t.NoLeadGained (t.on l Lane.supReply) :=
    t.on_noLeadGained l fun L => L.supReply_voteKept.noLeadGained
  unfold execSupervisoryRead
  dsimp only
  split
  · simp
  · rw [State.noNewLead_next_iff]
    refine State.NoLeadGained.trans ?_ (replied _)
    split
    · exact s.serveRead_noLeadGained _ _ _ _ _ _ _ _
    · exact s.on_noLeadGained l fun L => ⟨L.answer_id .., by simp⟩

theorem execPeerRead_noNewLead (l : LaneId) (msg : SlipMsg) (tid idx sub ofs len : Nat) (s : State) :
    s.NoNewLead (execPeerRead l msg tid idx sub ofs len s) := by
  unfold execPeerRead
  dsimp only
  split
  · split
    · split
      · exact (State.noNewLead_next_iff _ _).2 (s.serveRead_noLeadGained _ _ _ _ _ _ _ _)
      · simp
    · simp
  · simp

theorem execSnapshotLapse_noNewLead (l : LaneId) (m : Master) (tid : Nat) (s : State) :
    s.NoNewLead (execSnapshotLapse l m tid s) := by simp [execSnapshotLapse]

theorem execTransferWriteSegment_noNewLead (l : LaneId) (m : Master) (tid idx sub ofs total : Nat) (data : List Byte)
    (s : State) : s.NoNewLead (execTransferWriteSegment l m tid idx sub ofs total data s) := by
  simp [execTransferWriteSegment]

theorem execTransferAbort_noNewLead (l : LaneId) (m : Master) (tid : Nat) (s : State) :
    s.NoNewLead (execTransferAbort l m tid s) := by simp [execTransferAbort]

theorem execSegmentTimeout_noNewLead (l : LaneId) (m : Master) (tid : Nat) (s : State) :
    s.NoNewLead (execSegmentTimeout l m tid s) := by
  simp only [execSegmentTimeout, State.noNewLead_on_iff]
  split <;> simp

theorem execFaultSeenClear_noNewLead (l : LaneId) (m : Master) (tid : Nat) (data : List Byte) (s : State) :
    s.NoNewLead (execFaultSeenClear l m tid data s) := by
  exact State.noNewLead_write s _ _ _ (fun _ => _) _ _ (fun _ => _) (fun _ => _) fun _ _ => ⟨rfl, rfl⟩

theorem execProgramStage_noNewLead (l : LaneId) (m : Master) (tid : Nat) (k : Fin 5) (total : Nat) (data : List Byte)
    (s : State) : s.NoNewLead (execProgramStage l m tid k total data s) := by
  simp only [execProgramStage, State.noNewLead_on_iff]
  (repeat' split) <;> simp

theorem execProgramInstall_noNewLead (l : LaneId) (m : Master) (tid : Nat) (k : Fin 5) (s : State) :
    s.NoNewLead (execProgramInstall l m tid k s) := by
  simp only [execProgramInstall, State.noNewLead_on_iff]
  split <;> simp

theorem execProgramInstallComplete_noNewLead (l : LaneId) (k : Fin 5) (s : State) :
    s.NoNewLead (execProgramInstallComplete l k s) := by
  simp only [execProgramInstallComplete, State.noNewLead_on_iff]
  split <;> simp

theorem execProgramDiscard_noNewLead (l : LaneId) (m : Master) (tid : Nat) (k : Fin 5) (s : State) :
    s.NoNewLead (execProgramDiscard l m tid k s) := by
  refine State.noNewLead_write s _ _ _ (fun _ => _) _ _ (fun _ => _) (fun _ => _) fun _ _ => by simp

theorem execDs2Value_noNewLead (l : LaneId) (m : Master) (tid : Nat) (data : List Byte) (grp : Option (Fin 16))
    (s : State) : s.NoNewLead (execDs2Value l m tid data grp s) := by simp [execDs2Value]

theorem State.programControl_noLeadGained (s : State) (l : LaneId) (m : Master) (tid : Nat) (k : Fin 5)
    (data : List Byte) : s.NoLeadGained (s.programControl l m tid k data) := by
  unfold State.programControl
  split
  · exact State.after_noLeadGained (execProgramInstall_noNewLead l m tid k s)
  · split
    · exact State.after_noLeadGained (execProgramDiscard_noNewLead l m tid k s)
    · simp

theorem State.writeLow_noLeadGained (s : State) (l : LaneId) (m : Master) (tid idx sub : Nat) (data : List Byte)
    (e : WriteEnv) (t : State) (ht : s.writeLow l m tid idx sub data e = some t) : s.NoLeadGained t := by
  unfold State.writeLow at ht
  simp only at ht
  split at ht
  · cases ht; exact State.after_noLeadGained (execFaultSeenClear_noNewLead l m tid data s)
  · cases ht; exact s.on_noLeadGained l fun L => L.powerBytes_noLeadGained m tid data
  · cases ht; exact s.on_noLeadGained l fun L => (L.uplStatusWrite_roleKept m tid data).noLeadGained
  · cases ht; exact State.after_noLeadGained (execStepAccept_noNewLead l m tid data s)
  · cases ht; exact State.after_noLeadGained (execTaSubmit_noNewLead l m tid data e.lineNs s)
  · cases ht; exact State.after_noLeadGained (execTaCancel_noNewLead l m tid data s)
  · split at ht
    · cases ht; exact State.after_noLeadGained (execProgramStage_noNewLead l m tid _ data.length data s)
    · split at ht
      · cases ht; exact s.programControl_noLeadGained l m tid _ data
      · split at ht
        · cases ht; exact State.after_noLeadGained (execTsqPop_noNewLead l m tid _ data s)
        · split at ht
          · cases ht; exact s.on_noLeadGained l fun L => (L.tsqStatusWrite_roleKept m tid _ data).noLeadGained
          · cases ht

theorem State.writeHigh_noLeadGained (s : State) (l : LaneId) (m : Master) (tid idx sub : Nat) (data : List Byte)
    (g : Option Nat) (e : WriteEnv) (t : State) (ht : s.writeHigh l m tid idx sub data g e = some t) :
    s.NoLeadGained t := by
  unfold State.writeHigh at ht
  split at ht
  · cases ht; exact State.after_noLeadGained (execSetStore_noNewLead l m tid data s)
  · cases ht; exact State.after_noLeadGained (execDs2Password_noNewLead l m tid data.length data s)
  · cases ht; exact s.on_noLeadGained l fun L => (L.windowWrite_voteKept m tid data g).noLeadGained
  · cases ht; exact State.after_noLeadGained (execDs2Store_noNewLead l m tid data s)
  · cases ht; exact State.after_noLeadGained (execDs2Lock_noNewLead l m tid data s)
  · cases ht; exact State.after_noLeadGained (execDbgResponse_noNewLead l m tid _ _ s)
  · cases ht; exact State.after_noLeadGained (execKeyRevoke_noNewLead l m tid data s)
  · cases ht; exact State.after_noLeadGained (execSbClose_noNewLead l m tid data s)
  · cases ht; exact State.after_noLeadGained (execReintRelease_noNewLead l m tid data s)
  · cases ht; exact s.on_noLeadGained l fun L => (L.writeWide_voteKept ..).noLeadGained
  · cases ht; exact State.after_noLeadGained (execCtSubmit_noNewLead l m tid data s)
  · cases ht; exact State.after_noLeadGained (execCtWithdraw_noNewLead l m tid data s)
  · cases ht; exact State.after_noLeadGained (execMemTest_noNewLead l m tid data s)
  · cases ht; exact s.lptWrite_noLeadGained l m tid data e.rx
  · split at ht
    · cases ht; exact State.after_noLeadGained (execRevCountWrite_noNewLead l m tid _ data s)
    · cases ht; exact State.after_noLeadGained (execGdClear_noNewLead l m tid _ data e.gate s)
    · cases ht; exact State.after_noLeadGained (execSelftest_noNewLead l m tid _ data s)
    · cases ht; exact State.after_noLeadGained (execChopTest_noNewLead l m tid data s)
    · cases ht

theorem State.performWrite_noLeadGained (s : State) (l : LaneId) (m : Master) (tid idx sub : Nat) (data : List Byte)
    (g : Option Nat) (e : WriteEnv) : s.NoLeadGained (s.performWrite l m tid idx sub data g e) := by
  unfold State.performWrite
  split
  case h_1 t ht =>
    split at ht
    · exact s.writeLow_noLeadGained l m tid idx sub data e t ht
    · exact s.writeHigh_noLeadGained l m tid idx sub data g e t ht
  case h_2 => exact s.on_noLeadGained l fun L => (L.plainWrite_voteKept ..).noLeadGained

theorem execObjectWrite_noNewLead (l : LaneId) (m : Master) (tid idx sub ofs total : Nat) (grp : Option (Fin 16))
    (data : List Byte) (e : WriteEnv) (s : State) :
    s.NoNewLead (execObjectWrite l m tid idx sub ofs total grp data e s) := by
  have woken : s.NoLeadGained (if m = .sideBand then s.on l Lane.sbWake else s) := by
    split
    · exact s.on_noLeadGained l fun L => L.sbWake_voteKept.noLeadGained
    · exact .refl s
  have performed (t : State) (x : List Byte) :
      t.NoLeadGained ((t.on l fun L => { L with dict := L.dict.dropBuf m tid }).performWrite l m tid idx sub x
        (grp.map (·.val)) e) :=
    State.NoLeadGained.trans (t.on_noLeadGained l fun L => (L.dict_voteKept _).noLeadGained)
      (State.performWrite_noLeadGained _ _ _ _ _ _ _ _ _)
  have answered (t : State) (c : W32) : t.NoLeadGained (t.on l fun L => L.answer m tid idx sub c) :=
    t.on_noLeadGained l fun L => by simp
  have failed (t : State) (c : W32) : t.NoLeadGained (t.on l fun L => L.segFail m tid idx sub c) :=
    t.on_noLeadGained l fun L => by simp
  unfold execObjectWrite
  dsimp only
  split
  · simp
  · generalize (if m = .sideBand then s.on l Lane.sbWake else s) = w at woken
    split
    · exact (State.noNewLead_next_iff _ _).2 (woken.trans (answered _ _))
    · split
      · exact (State.noNewLead_next_iff _ _).2 (woken.trans (failed _ _))
      · split
        · exact (State.noNewLead_next_iff _ _).2 (woken.trans (performed _ _))
        · split
          · split
            · exact (State.noNewLead_next_iff _ _).2 (woken.trans (performed _ _))
            · exact (State.noNewLead_next_iff _ _).2 (woken.trans (failed _ _))
          · exact (State.noNewLead_next_iff _ _).2 (woken.trans (failed _ _))

theorem execSidebandValueDownload_noNewLead (l : LaneId) (idx sub : Nat) (data : List Byte) (s : State) :
    s.NoNewLead (execSidebandValueDownload l idx sub data s) := by
  have woken := s.on_noLeadGained l fun L => L.sbWake_voteKept.noLeadGained
  unfold execSidebandValueDownload
  dsimp only
  split
  · simp
  · rw [State.noNewLead_next_iff]
    exact woken.trans (State.on_noLeadGained _ l fun L => by simp)

theorem execSbTag_noNewLead (l : LaneId) (data : List Byte) (e : WriteEnv) (s : State) :
    s.NoNewLead (execSbTag l data e s) := by
  have woken := s.on_noLeadGained l fun L => L.sbWake_voteKept.noLeadGained
  have answered (t : State) (c : W32) : t.NoLeadGained (t.on l fun L => L.answer .sideBand 0 0x2510 3 c) :=
    t.on_noLeadGained l fun L => by simp
  unfold execSbTag
  dsimp only
  split
  · simp
  · generalize s.on l Lane.sbWake = w at woken
    split
    · exact (State.noNewLead_next_iff _ _).2 (woken.trans (answered _ _))
    · split
      · exact (State.noNewLead_next_iff _ _).2 (woken.trans (answered _ _))
      · split
        · rw [State.noNewLead_next_iff]
          refine (woken.trans ?_).trans (State.on_noLeadGained _ l fun L => by split <;> simp)
          exact State.NoLeadGained.trans (w.on_noLeadGained l fun L => (L.sb_voteKept _).noLeadGained)
            (State.performWrite_noLeadGained _ _ _ _ _ _ _ _ _)
        · exact (State.noNewLead_next_iff _ _).2
            (woken.trans (State.on_noLeadGained _ l fun L => L.tagFail_voteKept.noLeadGained))

theorem execCommitPrepareReceived_noNewLead (l : LaneId) (msg : SlipMsg) (ctr : W16) (s : State) :
    s.NoNewLead (execCommitPrepareReceived l msg ctr s) := by
  simp only [execCommitPrepareReceived]
  (repeat' split) <;> simp

theorem execFaultEvent_noNewLead (l : LaneId) (code : W16) (level : Fin 7) (detId detVal : W32) (full : Bool)
    (s : State) :
    s.NoNewLead (execFaultEvent l code level detId detVal full s) := by
  have own (L : Lane) := (L.record_voteKept code.toNat level.val detId.toNat detVal.toNat full).noLeadGained.trans
    (Lane.react_noLeadGained _ code.toNat level.val detId.toNat)
  unfold execFaultEvent
  rw [State.noNewLead_next_iff]
  split
  · refine (s.on_noLeadGained l own).trans ((State.noLeadGained_onAll_iff _ _).2 fun p => ?_)
    split
    · exact Lane.moduleSafe_noLeadGained _
    · simp
  · exact s.on_noLeadGained l own

theorem execSramDoubleBitError_noNewLead (l : LaneId) (g : Fin 16) (cell : Nat × Nat) (held : Held) (s : State) :
    s.NoNewLead (execSramDoubleBitError l g cell held s) := by
  rw [execSramDoubleBitError, State.noNewLead_on_iff]
  split
  · dsimp only
    split
    · exact Lane.laneOut_noLeadGained _ _ _ _
    · simp
  · simp

end Sys2Proof.Machine
end

section
/-! PROOFS, settling O59. -/
namespace Sys2Proof.Machine

/-! ### The lead -/

/-- Every lane at its place and at most one LEAD (R3, R68). -/
def State.LeadOk (s : State) : Prop := s.placed ∧ s.oneLead

theorem State.NoLeadGained.placed {s t : State} (h : s.NoLeadGained t) (hs : s.placed) : t.placed :=
  fun l => (h l).1.trans (hs l)

theorem State.NoLeadGained.lead {s t : State} (h : s.NoLeadGained t) {l : LaneId} (hl : (t.lane l).vote.role = .lead) :
    (s.lane l).vote.role = .lead :=
  Classical.byContradiction fun hs => (h l).2 hs hl

theorem State.NoLeadGained.leadOk {s t : State} (h : s.NoLeadGained t) (hs : s.LeadOk) : t.LeadOk :=
  ⟨h.placed hs.1, fun l p hl hp => hs.2 l p (h.lead hl) (h.lead hp)⟩

theorem State.NoNewLead.leadOk {s t : State} {o : Host.Outcome State Fault Refusal} (h : s.NoNewLead o)
    (ht : o = .next t) (hs : s.LeadOk) : t.LeadOk :=
  (h t ht).leadOk hs

/-- Where no lane leads, one lane may take LEAD. -/
theorem State.leadOk_on_of_none {s : State} {l : LaneId} {f : Lane → Lane} (hs : s.placed)
    (hid : (f (s.lane l)).id = (s.lane l).id) (hnone : ∀ p, (s.lane p).vote.role ≠ .lead) : (s.on l f).LeadOk := by
  have only (p : LaneId) (hp : ((s.on l f).lane p).vote.role = .lead) : p = l := by
    by_contra hne
    rw [s.lane_on_ne f hne] at hp
    exact hnone p hp
  refine ⟨fun p => ?_, fun p q hp hq => (only p hp).trans (only q hq).symm⟩
  by_cases hp : p = l
  · subst hp; simpa [hid] using hs p
  · simpa [hp] using hs p

theorem not_any_lead_iff (s : State) :
    (allLanes.any fun l => (s.lane l).vote.role == .lead) = false ↔ ∀ l, (s.lane l).vote.role ≠ .lead := by
  simp only [List.any_eq_false, beq_iff_eq]
  exact ⟨fun h l => h l (by cases l <;> simp [allLanes]), fun h l _ => h l⟩

/-- The successor takes LEAD only where no lane holds it (R69). -/
theorem State.succeed_leadOk {s : State} (hs : s.LeadOk) : s.succeed.LeadOk := by
  unfold State.succeed
  split
  · exact hs
  next hany =>
    have hnone := (not_any_lead_iff s).1 (Bool.eq_false_iff.2 hany)
    dsimp only
    split
    · exact hs
    · split
      · exact State.leadOk_on_of_none hs.1 rfl hnone
      · exact hs

/-! ### Start of a vote cycle -/

/-- The change of role that is due in one lane (R74, R75): with LEAD, the old lead gives it up first. -/
def State.changeRole (s : State) (l : LaneId) : State :=
  match (s.lane l).vote.roleDue with
  | some .follower =>
    let t := s.on l fun L => { L with vote := { L.vote with role := .follower, roleDue := none, relAtApply := true } }
    t.onAll fun L => L.rampFrom0 l
  | some .lead =>
    let t := s.onAll fun L =>
      if L.vote.role = .lead then { L with vote := { L.vote with role := .follower } } else L
    t.on l fun L => { L with vote := { L.vote with role := .lead, roleDue := none } }
  | some r => s.on l fun L => { L with vote := { L.vote with role := r, roleDue := none } }
  | none => s

theorem State.roleChanges_eq (s : State) : s.roleChanges = allLanes.foldl State.changeRole s := rfl

theorem State.changeRole_leadOk {s : State} (hs : s.LeadOk) (l : LaneId) : (s.changeRole l).LeadOk := by
  unfold State.changeRole
  split
  · have follows : s.NoLeadGained (s.on l fun L =>
        { L with vote := { L.vote with role := .follower, roleDue := none, relAtApply := true } }) :=
      s.on_noLeadGained l fun _ => ⟨rfl, fun _ => Role.noConfusion⟩
    exact (follows.trans ((State.noLeadGained_onAll_iff _ _).2 fun _ => ⟨rfl, fun h => h⟩)).leadOk hs
  · refine State.leadOk_on_of_none (fun p => ?_) rfl fun p => ?_
    · simpa using hs.1 p
    · by_cases hp : (s.lane p).vote.role = .lead <;> simp [hp]
  next r _ hlead _ =>
    refine ((State.noLeadGained_on_iff s l _).2 ?_).leadOk hs
    exact ⟨rfl, fun _ => hlead⟩
  · exact hs

theorem State.roleChanges_leadOk {s : State} (hs : s.LeadOk) : s.roleChanges.LeadOk :=
  List.foldlRecOn allLanes _ (motive := State.LeadOk) hs fun _ ht l _ => State.changeRole_leadOk ht l

theorem Lane.startState_roleKept (L : Lane) (x : Svc) (a : List Agreed) :
    L.RoleKept { L with svc := x, vote := { L.vote with agreed := a } } := ⟨rfl, rfl⟩

theorem State.shadowEntry_noLeadGained (s old : State) : s.NoLeadGained (s.shadowEntry old) := by
  refine List.foldlRecOn allLanes _ (motive := s.NoLeadGained) (.refl s) fun t ht l _ => ht.trans ?_
  dsimp only
  split
  · split
    · exact t.on_noLeadGained l fun L => L.enterShadow_noLeadGained _
    · split
      · exact t.on_noLeadGained l fun L =>
          (L.startState_roleKept _ _).noLeadGained.trans (Lane.enterShadow_noLeadGained _ _)
      · exact .refl t
  · exact .refl t

theorem execVoteCycleStart_leadOk {k : Nat} {s t : State} (ht : execVoteCycleStart k s = .next t) (hs : s.LeadOk) :
    t.LeadOk := by
  cases ht
  have started : s.publish.NoLeadGained (s.publish.onAll fun L => L.startCycle s k) :=
    (State.noLeadGained_onAll_iff _ _).2 fun l => (Lane.startCycle_roleKept _ s k).noLeadGained
  exact ((State.shadowEntry_noLeadGained _ s).trans (State.views_noLeadGained _)).leadOk
    (State.roleChanges_leadOk (started.leadOk hs))

theorem execOutputCompare_leadOk {flags : Tri Bool} {s t : State} (ht : execOutputCompare flags s = .next t)
    (hs : s.LeadOk) : t.LeadOk := by
  cases ht
  have compared : s.NoLeadGained (s.onAll fun L => L.compare s (flags.get L.id)) :=
    (State.noLeadGained_onAll_iff _ _).2 fun l => (s.lane l).compare_noLeadGained s _
  have handed (u : State) :
      u.NoLeadGained (u.onAll fun L => if L.alive && L.vote.running then L.judgeStop.handSetpoints else L) :=
    (State.noLeadGained_onAll_iff _ _).2 fun l => by split <;> simp
  exact ((State.viewsNow_noLeadGained _).trans (handed _)).leadOk (State.succeed_leadOk (compared.leadOk hs))

theorem State.eq_of_ite_next {c : Prop} [Decidable c] {s t u : State}
    (h : (if c then (.next u : Host.Outcome State Fault Refusal) else .next s) = .next t) : t = u ∨ t = s := by
  split at h
  · exact .inl (Host.Outcome.next.inj h).symm
  · exact .inr (Host.Outcome.next.inj h).symm

theorem execExitRampEnd_leadOk {l : LaneId} {s t : State} (ht : execExitRampEnd l s = .next t) (hs : s.LeadOk) :
    t.LeadOk := by
  have left := s.on_noLeadGained l Lane.leaveDrive_noLeadGained
  have step (u : State) (x : Tri (Option Nat) → Tri (Option Nat)) :
      u.NoLeadGained (u.onAll fun M => { M with svc := { M.svc with exitStep := x M.svc.exitStep } }) :=
    (State.noLeadGained_onAll_iff _ _).2 fun _ => ⟨rfl, fun h => h⟩
  have stop (u : State) : u.NoLeadGained (u.onAll fun M => if M.alive && M.vote.running then M.judgeStop else M) :=
    (State.noLeadGained_onAll_iff _ _).2 fun p => by split <;> simp
  have goesOn (u : State) (k : Nat) := u.on_noLeadGained l fun M => M.proceed_noLeadGained k
  obtain rfl | rfl := State.eq_of_ite_next ht
  · exact (((State.views_noLeadGained _).trans (stop _)).trans (goesOn _ _)).leadOk
      (State.succeed_leadOk ((left.trans (step _ (·.set l none))).leadOk hs))
  · exact hs

/-! ### Formation of a module (R440) -/

theorem State.role_ne_lead_of_not_anyDrives {s : State} (h : s.anyDrives = false) (l : LaneId) :
    (s.lane l).vote.role ≠ .lead := by
  intro hl
  have hd : s.drives l = true := by simp [State.drives, hl, Role.drives]
  have := List.any_eq_false.1 h l (by cases l <;> simp [allLanes])
  exact this hd

/-- What one lane becomes at the module start: one of the drivers `ds`, the lane `lead` their lead. -/
theorem Lane.formed_role (L : Lane) (ds : List LaneId) (lead : Option LaneId) (hL : L.vote.role ≠ .lead)
    (h : (if ds.contains L.id then
        ({ (if L.voting then L.moduleStart ds else L) with
          vote := { (if L.voting then L.moduleStart ds else L).vote with
            role := if lead = some L.id then .lead else .follower, relAtApply := true, roleDue := none } } : Lane)
      else if L.voting then L.moduleStart ds else L).vote.role = .lead) : lead = some L.id := by
  split at h
  · by_contra hne
    simp [hne] at h
  · simp [hL] at h

theorem execModuleFormation_leadOk {s t : State} (ht : execModuleFormation s = .next t) (hs : s.LeadOk) : t.LeadOk := by
  unfold execModuleFormation at ht
  dsimp only at ht
  split at ht
  · cases ht; exact hs
  · split at ht
    · cases ht; exact hs
    next d _ hnot =>
      cases ht
      have hnone := State.role_ne_lead_of_not_anyDrives (Bool.eq_false_iff.2 hnot)
      refine (State.views_noLeadGained _).leadOk ⟨fun l => ?_, fun l p hl hp => ?_⟩
      · simpa using hs.1 l
      · rw [State.lane_onAll] at hl hp
        have hl := Lane.formed_role _ _ _ (hnone l) hl
        have hp := Lane.formed_role _ _ _ (hnone p) hp
        rw [hs.1 l] at hl
        rw [hs.1 p, hl] at hp
        exact Option.some.inj hp

/-! ### Every command, and the step -/

/-- Every command leaves the lanes at their places and at most one LEAD. -/
theorem exec_leadOk {c : Instr} {s t : State} (ht : exec c s = .next t) (hs : s.LeadOk) : t.LeadOk := by
  cases c with
  | voteCycleStart k => exact execVoteCycleStart_leadOk ht hs
  | inputClose => exact (execInputClose_noNewLead s).leadOk ht hs
  | inputSetReceived dst src direct crcOk other =>
    exact (execInputSetReceived_noNewLead dst src direct crcOk other s).leadOk ht hs
  | inputAgreement => exact (execInputAgreement_noNewLead s).leadOk ht hs
  | serviceTaskEnd l task endUs => exact (execServiceTaskEnd_noNewLead l task endUs s).leadOk ht hs
  | computeDeadline => exact (execComputeDeadline_noNewLead s).leadOk ht hs
  | outputSetReceived dst src way flagged other =>
    exact (execOutputSetReceived_noNewLead dst src way flagged other s).leadOk ht hs
  | outputCompare flags => exact execOutputCompare_leadOk ht hs
  | apply => exact (execApply_noNewLead s).leadOk ht hs
  | stateCopy => exact (execStateCopy_noNewLead s).leadOk ht hs
  | stateVectorReceived c => exact (execStateVectorReceived_noNewLead c s).leadOk ht hs
  | stateCopyDeadline => exact (execStateCopyDeadline_noNewLead s).leadOk ht hs
  | lockstepFault l service => exact (execLockstepFault_noNewLead l service s).leadOk ht hs
  | slipLinkIsolate k => exact (execSlipLinkIsolate_noNewLead k s).leadOk ht hs
  | slipLinkReturn k => exact (execSlipLinkReturn_noNewLead k s).leadOk ht hs
  | shadowPromote l => exact (execShadowPromote_noNewLead l s).leadOk ht hs
  | rampComplete l => exact (execRampComplete_noNewLead l s).leadOk ht hs
  | overloadBudgetExhausted l n => exact (execOverloadBudgetExhausted_noNewLead l n s).leadOk ht hs
  | parkLockComplete l b => exact (execParkLockComplete_noNewLead l b s).leadOk ht hs
  | laneRestart l r => exact (execLaneRestart_noNewLead l r s).leadOk ht hs
  | reintRelease l m tid data => exact (execReintRelease_noNewLead l m tid data s).leadOk ht hs
  | ageLimitReached l k => exact (execAgeLimitReached_noNewLead l k s).leadOk ht hs
  | stopHoldExpiry l => exact (execStopHoldExpiry_noNewLead l s).leadOk ht hs
  | slipHoldExpiry l n => exact (execSlipHoldExpiry_noNewLead l n s).leadOk ht hs
  | stopRelease l m tid data => exact (execStopRelease_noNewLead l m tid data s).leadOk ht hs
  | contactWrite l m tid n data => exact (execContactWrite_noNewLead l m tid n data s).leadOk ht hs
  | pwmPeriodBoundary l b ns frac bs => exact (execPwmPeriodBoundary_noNewLead l b ns frac bs s).leadOk ht hs
  | periodCompute l b q => exact (execPeriodCompute_noNewLead l b q s).leadOk ht hs
  | computeOverrunIsolate l b => exact (execComputeOverrunIsolate_noNewLead l b s).leadOk ht hs
  | shuntSaturation l b => exact (execShuntSaturation_noNewLead l b s).leadOk ht hs
  | currentTrackingFault l b => exact (execCurrentTrackingFault_noNewLead l b s).leadOk ht hs
  | fieldWeakeningExhausted l b => exact (execFieldWeakeningExhausted_noNewLead l b s).leadOk ht hs
  | oscMeasure l hz => exact (execOscMeasure_noNewLead l hz s).leadOk ht hs
  | bridgeModeRequest l b rank3 on => exact (execBridgeModeRequest_noNewLead l b rank3 on s).leadOk ht hs
  | resolverPair l b sinS cosS => exact (execResolverPair_noNewLead l b sinS cosS s).leadOk ht hs
  | resolverAmplitudeFault l b => exact (execResolverAmplitudeFault_noNewLead l b s).leadOk ht hs
  | excitationFault l b mA => exact (execExcitationFault_noNewLead l b mA s).leadOk ht hs
  | trackingFault l b => exact (execTrackingFault_noNewLead l b s).leadOk ht hs
  | bissFrame l b pos nE nW crc delay => exact (execBissFrame_noNewLead l b pos nE nW crc delay s).leadOk ht hs
  | bissFrameTimeout l b => exact (execBissFrameTimeout_noNewLead l b s).leadOk ht hs
  | bissFrameFault l b => exact (execBissFrameFault_noNewLead l b s).leadOk ht hs
  | hfiBiasPhase l b => exact (execHfiBiasPhase_noNewLead l b s).leadOk ht hs
  | hfiCheckEnd l b th => exact (execHfiCheckEnd_noNewLead l b th s).leadOk ht hs
  | observerImplausible l b => exact (execObserverImplausible_noNewLead l b s).leadOk ht hs
  | rotorLost l b => exact (execRotorLost_noNewLead l b s).leadOk ht hs
  | settleExpiry l b => exact (execSettleExpiry_noNewLead l b s).leadOk ht hs
  | rotorAcquired l b => exact (execRotorAcquired_noNewLead l b s).leadOk ht hs
  | reacquireTimeout l b => exact (execReacquireTimeout_noNewLead l b s).leadOk ht hs
  | revCountWrite l m tid b data => exact (execRevCountWrite_noNewLead l m tid b data s).leadOk ht hs
  | gateRailFault l low => exact (execGateRailFault_noNewLead l low s).leadOk ht hs
  | switchNodeCrossing l b p c => exact (execSwitchNodeCrossing_noNewLead l b p c s).leadOk ht hs
  | driveStrengthLimit l b p high => exact (execDriveStrengthLimit_noNewLead l b p high s).leadOk ht hs
  | switchNodeSenseLost l b p => exact (execSwitchNodeSenseLost_noNewLead l b p s).leadOk ht hs
  | gateReadbackMismatch l b out => exact (execGateReadbackMismatch_noNewLead l b out s).leadOk ht hs
  | bootstrapRefresh l b p => exact (execBootstrapRefresh_noNewLead l b p s).leadOk ht hs
  | bootstrapUvlo l b p => exact (execBootstrapUvlo_noNewLead l b p s).leadOk ht hs
  | desaturationDetect l b out => exact (execDesaturationDetect_noNewLead l b out s).leadOk ht hs
  | hardOvercurrent l b => exact (execHardOvercurrent_noNewLead l b s).leadOk ht hs
  | softTurnoffEnd l b => exact (execSoftTurnoffEnd_noNewLead l b s).leadOk ht hs
  | faultWaitEnd l b => exact (execFaultWaitEnd_noNewLead l b s).leadOk ht hs
  | tryRelease l b => exact (execTryRelease_noNewLead l b s).leadOk ht hs
  | tryTimeout l b => exact (execTryTimeout_noNewLead l b s).leadOk ht hs
  | gdClear l m tid b data e => exact (execGdClear_noNewLead l m tid b data e s).leadOk ht hs
  | selftest l m tid b data => exact (execSelftest_noNewLead l m tid b data s).leadOk ht hs
  | selftestComplete l b e => exact (execSelftestComplete_noNewLead l b e s).leadOk ht hs
  | vdcSample l x => exact (execVdcSample_noNewLead l x s).leadOk ht hs
  | linkSenseDisagree l => exact (execLinkSenseDisagree_noNewLead l s).leadOk ht hs
  | chopperCurrentCheck l amps => exact (execChopperCurrentCheck_noNewLead l amps s).leadOk ht hs
  | chopperFault l => exact (execChopperFault_noNewLead l s).leadOk ht hs
  | chopperEnergyUpdate l => exact (execChopperEnergyUpdate_noNewLead l s).leadOk ht hs
  | chopTest l m tid data => exact (execChopTest_noNewLead l m tid data s).leadOk ht hs
  | chopperTestComplete l amps => exact (execChopperTestComplete_noNewLead l amps s).leadOk ht hs
  | ov3Timeout l => exact (execOv3Timeout_noNewLead l s).leadOk ht hs
  | hwOvTrip l => exact (execHwOvTrip_noNewLead l s).leadOk ht hs
  | hwOvRelease l => exact (execHwOvRelease_noNewLead l s).leadOk ht hs
  | linkUndervoltage l => exact (execLinkUndervoltage_noNewLead l s).leadOk ht hs
  | linkUvRecover l => exact (execLinkUvRecover_noNewLead l s).leadOk ht hs
  | starFrameArrival l ch port f => exact (execStarFrameArrival_noNewLead l ch port f s).leadOk ht hs
  | guardianTruncate l ch => exact (execGuardianTruncate_noNewLead l ch s).leadOk ht hs
  | guardianHoldoverEnd l => exact (execGuardianHoldoverEnd_noNewLead l s).leadOk ht hs
  | tsuvasFrameReceived l ch f => exact (execTsuvasFrameReceived_noNewLead l ch f s).leadOk ht hs
  | slotLaunch l ch slot service => exact (execSlotLaunch_noNewLead l ch slot service s).leadOk ht hs
  | slotEnd l ch slot => exact (execSlotEnd_noNewLead l ch slot s).leadOk ht hs
  | networkCycleEnd l => exact (execNetworkCycleEnd_noNewLead l s).leadOk ht hs
  | listenTimeout l => exact (execListenTimeout_noNewLead l s).leadOk ht hs
  | coldstartCollision l => exact (execColdstartCollision_noNewLead l s).leadOk ht hs
  | backoffExpiry l => exact (execBackoffExpiry_noNewLead l s).leadOk ht hs
  | coldstartCycleEnd l => exact (execColdstartCycleEnd_noNewLead l s).leadOk ht hs
  | syncLoss l => exact (execSyncLoss_noNewLead l s).leadOk ht hs
  | peerTimeRead l src rttNs ns => exact (execPeerTimeRead_noNewLead l src rttNs ns s).leadOk ht hs
  | timeMismatchRetry l => exact (execTimeMismatchRetry_noNewLead l s).leadOk ht hs
  | channelLost l ch => exact (execChannelLost_noNewLead l ch s).leadOk ht hs
  | channelRestored l ch => exact (execChannelRestored_noNewLead l ch s).leadOk ht hs
  | networkLost l => exact (execNetworkLost_noNewLead l s).leadOk ht hs
  | networkRestored l => exact (execNetworkRestored_noNewLead l s).leadOk ht hs
  | portLinkChange l ch port up => exact (execPortLinkChange_noNewLead l ch port up s).leadOk ht hs
  | portBlockedPersist l ch port => exact (execPortBlockedPersist_noNewLead l ch port s).leadOk ht hs
  | cyclePointRaise l cp busy => exact (execCyclePointRaise_noNewLead l cp busy s).leadOk ht hs
  | slewEnd l => exact (execSlewEnd_noNewLead l s).leadOk ht hs
  | gptpSync l g => exact (execGptpSync_noNewLead l g s).leadOk ht hs
  | gptpSyncTimeout l => exact (execGptpSyncTimeout_noNewLead l s).leadOk ht hs
  | gptpAnnounce l a => exact (execGptpAnnounce_noNewLead l a s).leadOk ht hs
  | stepAccept l m tid data => exact (execStepAccept_noNewLead l m tid data s).leadOk ht hs
  | tsqPop l m tid q data => exact (execTsqPop_noNewLead l m tid q data s).leadOk ht hs
  | taSubmit l m tid data lineNs => exact (execTaSubmit_noNewLead l m tid data lineNs s).leadOk ht hs
  | taCancel l m tid data => exact (execTaCancel_noNewLead l m tid data s).leadOk ht hs
  | timedActionDue l slot full => exact (execTimedActionDue_noNewLead l slot full s).leadOk ht hs
  | sleepRecordInvalidate l => exact (execSleepRecordInvalidate_noNewLead l s).leadOk ht hs
  | uplinkFrameReceived l ns f => exact (execUplinkFrameReceived_noNewLead l ns f s).leadOk ht hs
  | supervisoryRead l tid idx sub ofs len op =>
    exact (execSupervisoryRead_noNewLead l tid idx sub ofs len op s).leadOk ht hs
  | uplinkLinkChange l up => exact (execUplinkLinkChange_noNewLead l up s).leadOk ht hs
  | contractWindow l n => exact (execContractWindow_noNewLead l n s).leadOk ht hs
  | ctSubmit l m tid data => exact (execCtSubmit_noNewLead l m tid data s).leadOk ht hs
  | ctWithdraw l m tid data => exact (execCtWithdraw_noNewLead l m tid data s).leadOk ht hs
  | transferRead l m tid idx sub ofs len => exact (execTransferRead_noNewLead l m tid idx sub ofs len s).leadOk ht hs
  | transferWriteSegment l m tid idx sub ofs total data =>
    exact (execTransferWriteSegment_noNewLead l m tid idx sub ofs total data s).leadOk ht hs
  | transferAbort l m tid => exact (execTransferAbort_noNewLead l m tid s).leadOk ht hs
  | snapshotLapse l m tid => exact (execSnapshotLapse_noNewLead l m tid s).leadOk ht hs
  | segmentTimeout l m tid => exact (execSegmentTimeout_noNewLead l m tid s).leadOk ht hs
  | objectWrite l m tid idx sub ofs total grp data e =>
    exact (execObjectWrite_noNewLead l m tid idx sub ofs total grp data e s).leadOk ht hs
  | commitPrepareReceived l msg ctr => exact (execCommitPrepareReceived_noNewLead l msg ctr s).leadOk ht hs
  | peerRead l msg tid idx sub ofs len => exact (execPeerRead_noNewLead l msg tid idx sub ofs len s).leadOk ht hs
  | sidebandValueDownload l idx sub data => exact (execSidebandValueDownload_noNewLead l idx sub data s).leadOk ht hs
  | sbChallenge l => exact (execSbChallenge_noNewLead l s).leadOk ht hs
  | sbResponse l data => exact (execSbResponse_noNewLead l data s).leadOk ht hs
  | sbTag l data e => exact (execSbTag_noNewLead l data e s).leadOk ht hs
  | sbClose l m tid data => exact (execSbClose_noNewLead l m tid data s).leadOk ht hs
  | sessionTimeout l => exact (execSessionTimeout_noNewLead l s).leadOk ht hs
  | canBusOff l => exact (execCanBusOff_noNewLead l s).leadOk ht hs
  | monitorRest l => exact (execMonitorRest_noNewLead l s).leadOk ht hs
  | resultRead l m tid k own => exact (execResultRead_noNewLead l m tid k own s).leadOk ht hs
  | programStage l m tid sub total data => exact (execProgramStage_noNewLead l m tid sub total data s).leadOk ht hs
  | programInstall l m tid sub => exact (execProgramInstall_noNewLead l m tid sub s).leadOk ht hs
  | programInstallComplete l sub => exact (execProgramInstallComplete_noNewLead l sub s).leadOk ht hs
  | programDiscard l m tid sub => exact (execProgramDiscard_noNewLead l m tid sub s).leadOk ht hs
  | setStore l m tid data => exact (execSetStore_noNewLead l m tid data s).leadOk ht hs
  | faultSeenClear l m tid data => exact (execFaultSeenClear_noNewLead l m tid data s).leadOk ht hs
  | pwrReqRun l m tid => exact (execPwrReqRun_noNewLead l m tid s).leadOk ht hs
  | pwrReqHold l m tid => exact (execPwrReqHold_noNewLead l m tid s).leadOk ht hs
  | pwrReqStandby l m tid => exact (execPwrReqStandby_noNewLead l m tid s).leadOk ht hs
  | pwrReqOff l m tid => exact (execPwrReqOff_noNewLead l m tid s).leadOk ht hs
  | autoRunRequest l => exact (execAutoRunRequest_noNewLead l s).leadOk ht hs
  | exitRampEnd l => exact execExitRampEnd_leadOk ht hs
  | exitPassiveEnd => exact (execExitPassiveEnd_noNewLead s).leadOk ht hs
  | moduleFormation => exact execModuleFormation_leadOk ht hs
  | wakeEvent l src => exact (execWakeEvent_noNewLead l src s).leadOk ht hs
  | vinPowerOn l => exact (execVinPowerOn_noNewLead l s).leadOk ht hs
  | nrstAssert l => exact (execNrstAssert_noNewLead l s).leadOk ht hs
  | nrstRelease l => exact (execNrstRelease_noNewLead l s).leadOk ht hs
  | restoreStepEnd l r => exact (execRestoreStepEnd_noNewLead l r s).leadOk ht hs
  | entryPhaseEnd l r => exact (execEntryPhaseEnd_noNewLead l r s).leadOk ht hs
  | wedgeGroupEnd l cells => exact (execWedgeGroupEnd_noNewLead l cells s).leadOk ht hs
  | safetySample l n p => exact (execSafetySample_noNewLead l n p s).leadOk ht hs
  | discrepancyFault l n => exact (execDiscrepancyFault_noNewLead l n s).leadOk ht hs
  | safetyReset l => exact (execSafetyReset_noNewLead l s).leadOk ht hs
  | srstStuck l => exact (execSrstStuck_noNewLead l s).leadOk ht hs
  | sealOpen l => exact (execSealOpen_noNewLead l s).leadOk ht hs
  | sealDisagree l => exact (execSealDisagree_noNewLead l s).leadOk ht hs
  | testPulse l o n => exact (execTestPulse_noNewLead l o n s).leadOk ht hs
  | testPulseCheck l o backLow ch1 ch2 => exact (execTestPulseCheck_noNewLead l o backLow ch1 ch2 s).leadOk ht hs
  | ds2Password l m tid total data => exact (execDs2Password_noNewLead l m tid total data s).leadOk ht hs
  | ds2Value l m tid data grp => exact (execDs2Value_noNewLead l m tid data grp s).leadOk ht hs
  | ds2Store l m tid data => exact (execDs2Store_noNewLead l m tid data s).leadOk ht hs
  | ds2Lock l m tid data => exact (execDs2Lock_noNewLead l m tid data s).leadOk ht hs
  | ds2BlockExpiry l => exact (execDs2BlockExpiry_noNewLead l s).leadOk ht hs
  | ds2UnlockTimeout l m => exact (execDs2UnlockTimeout_noNewLead l m s).leadOk ht hs
  | keyprov l head wrapped otpOk => exact (execKeyprov_noNewLead l head wrapped otpOk s).leadOk ht hs
  | jtagIdcode l => exact (execJtagIdcode_noNewLead l s).leadOk ht hs
  | jtagBypass l => exact (execJtagBypass_noNewLead l s).leadOk ht hs
  | keyRevoke l m tid data => exact (execKeyRevoke_noNewLead l m tid data s).leadOk ht hs
  | dbgChallenge l m tid => exact (execDbgChallenge_noNewLead l m tid s).leadOk ht hs
  | dbgResponse l m tid rPart sPart => exact (execDbgResponse_noNewLead l m tid rPart sPart s).leadOk ht hs
  | dbgBlockExpiry l => exact (execDbgBlockExpiry_noNewLead l s).leadOk ht hs
  | clockCheck l ppm => exact (execClockCheck_noNewLead l ppm s).leadOk ht hs
  | pllUnlock l net => exact (execPllUnlock_noNewLead l net s).leadOk ht hs
  | hkRound l n r => exact (execHkRound_noNewLead l n r s).leadOk ht hs
  | sensorBroken l n => exact (execSensorBroken_noNewLead l n s).leadOk ht hs
  | referenceCheckFault l => exact (execReferenceCheckFault_noNewLead l s).leadOk ht hs
  | cutSensorImplausible l drive => exact (execCutSensorImplausible_noNewLead l drive s).leadOk ht hs
  | d2dFrame l b up crcOk => exact (execD2dFrame_noNewLead l b up crcOk s).leadOk ht hs
  | d2dLinkFailed l => exact (execD2dLinkFailed_noNewLead l s).leadOk ht hs
  | thermalCut l drive => exact (execThermalCut_noNewLead l drive s).leadOk ht hs
  | coneLatchTrip l hot => exact (execConeLatchTrip_noNewLead l hot s).leadOk ht hs
  | coolingDone l => exact (execCoolingDone_noNewLead l s).leadOk ht hs
  | vinUndervoltage l => exact (execVinUndervoltage_noNewLead l s).leadOk ht hs
  | vinOvervoltage l => exact (execVinOvervoltage_noNewLead l s).leadOk ht hs
  | aonReset l => exact (execAonReset_noNewLead l s).leadOk ht hs
  | faultEvent l code level detId detVal full =>
    exact (execFaultEvent_noNewLead l code level detId detVal full s).leadOk ht hs
  | logCommit l n => exact (execLogCommit_noNewLead l n s).leadOk ht hs
  | kilnSecond l n => exact (execKilnSecond_noNewLead l n s).leadOk ht hs
  | kilnCommit l n => exact (execKilnCommit_noNewLead l n s).leadOk ht hs
  | scrubPass l cells => exact (execScrubPass_noNewLead l cells s).leadOk ht hs
  | sramDoubleBitError l g cell held => exact (execSramDoubleBitError_noNewLead l g cell held s).leadOk ht hs
  | memTest l m tid data => exact (execMemTest_noNewLead l m tid data s).leadOk ht hs
  | memTestDemand l => exact (execMemTestDemand_noNewLead l s).leadOk ht hs
  | compareSelfCheck l pass => exact (execCompareSelfCheck_noNewLead l pass s).leadOk ht hs
  | lptStart l m tid data => exact (execLptStart_noNewLead l m tid data s).leadOk ht hs
  | lptStop l m tid data rx => exact (execLptStop_noNewLead l m tid data rx s).leadOk ht hs
  | lptInject l m tid data rx => exact (execLptInject_noNewLead l m tid data rx s).leadOk ht hs
  | lptDurationEnd l rx => exact (execLptDurationEnd_noNewLead l rx s).leadOk ht hs
  | vinBelowPowerOn l written aonLow => exact (execVinBelowPowerOn_noNewLead l written aonLow s).leadOk ht hs
  | syncTransmission l => exact (execSyncTransmission_noNewLead l s).leadOk ht hs
  | marchElementEnd l => exact (execMarchElementEnd_noNewLead l s).leadOk ht hs

/-- A tick moves the clocks of the lanes alone. -/
theorem State.tickAll_noLeadGained (s : State) : s.NoLeadGained s.tickAll :=
  (State.noLeadGained_onAll_iff _ _).2 fun l => (s.lane l).tick_voteKept.noLeadGained

theorem step_leadOk {s t : State} (ht : step s = .next t) (hs : s.LeadOk) : t.LeadOk := by
  unfold step at ht
  split at ht
  · exact exec_leadOk ht hs
  · cases ht; exact (State.tickAll_noLeadGained s).leadOk hs

/-- Settles O59: every command keeps each lane's place and brings LEAD only to a lane where no other holds it. -/
theorem placesAndOneLead : Obligations.PlacesAndOneLead := by
  unfold Obligations.PlacesAndOneLead
  exact fun s t hplaced hone ht => step_leadOk ht ⟨hplaced, hone⟩

end Sys2Proof.Machine
end

section
/-! PROOFS, selection of inputs. -/
namespace Sys2Proof.Machine

/-! ### Majorities -/

/-- Two different values cannot fill more than the list. -/
theorem count_add_count_le {l : List Int} {v w : Int} (h : v ≠ w) : l.count v + l.count w ≤ l.length := by
  induction l with
  | nil => simp
  | cons x xs ih =>
    have : ¬(x = v ∧ x = w) := fun ⟨hv, hw⟩ => h (hv.symm.trans hw)
    simp only [List.count_cons, List.length_cons, beq_iff_eq]
    split <;> split <;> omega

theorem majority_of_majorityOf {l : List Int} {v : Int} (h : majorityOf l = some v) :
    l.length < 2 * (l.filter (· == v)).length := by
  simpa using List.find?_some h

/-- A value that more than half of a list carry is the one found. -/
theorem majorityOf_eq_some {l : List Int} {v : Int} (h : l.length < 2 * l.count v) : majorityOf l = some v := by
  cases hm : majorityOf l with
  | none =>
    have mem : v ∈ l := List.count_pos_iff.1 (by omega)
    have := List.find?_eq_none.1 hm v mem
    simp only [decide_eq_true_eq, ← List.count_eq_length_filter] at this
    exact absurd h this
  | some w =>
    have hw := majority_of_majorityOf hm
    rw [← List.count_eq_length_filter] at hw
    by_contra hne
    have := count_add_count_le (l := l) fun e : w = v => hne (congrArg some e)
    omega

/-- Of three copies the value that two of them carry is agreed (R49). -/
theorem agreeDiscrete_three (n : Nat) (safe a b c v : Int)
    (h : (v = a ∧ v = b) ∨ (v = a ∧ v = c) ∨ (v = b ∧ v = c)) :
    agreeDiscrete n safe [a, b, c] = { num := n, valid := true, val := v } := by
  have two : 2 ≤ [a, b, c].count v := by
    obtain ⟨rfl, rfl⟩ | ⟨rfl, rfl⟩ | ⟨rfl, rfl⟩ := h <;> simp [List.count_cons]
  have found : majorityOf [a, b, c] = some v :=
    majorityOf_eq_some (by simp only [List.length_cons, List.length_nil]; omega)
  simp [agreeDiscrete, found]

/-! ### The middle of three -/

theorem middleOf_mem (a b c : Int) : middleOf a b c ∈ [a, b, c] := by
  simp only [middleOf, List.mem_cons, List.not_mem_nil, or_false]
  omega

theorem two_le_length_filter {p : Int → Bool} {a b c : Int} (h : (p a ∧ p b) ∨ (p a ∧ p c) ∨ (p b ∧ p c)) :
    2 ≤ ([a, b, c].filter p).length := by
  rw [← List.countP_eq_length_filter]
  obtain ⟨h₁, h₂⟩ | ⟨h₁, h₂⟩ | ⟨h₁, h₂⟩ := h <;> simp [List.countP_cons, h₁, h₂]

/-- Two of three lie at or below the middle one. -/
theorem two_le_middleOf (a b c : Int) : 2 ≤ ([a, b, c].filter fun x => decide (x ≤ middleOf a b c)).length :=
  two_le_length_filter (by simp only [decide_eq_true_eq]; unfold middleOf; omega)

/-- Two of three lie at or above the middle one. -/
theorem middleOf_le_two (a b c : Int) : 2 ≤ ([a, b, c].filter fun x => decide (middleOf a b c ≤ x)).length :=
  two_le_length_filter (by simp only [decide_eq_true_eq]; unfold middleOf; omega)

/-! ### Sequenced commands -/

/-- The newest number is that of a copy newer than the last agreed one (R50). -/
theorem exists_mem_of_newestSeq {prev : Agreed} {v : List Entry} {q : W16} (h : newestSeq prev v = some q) :
    ∃ e ∈ v, e.seq = q ∧ (prev.seen = true → seqNewer q prev.seq = true) := by
  have inv := List.foldlRecOn (v.filter fun e => !prev.seen || seqNewer e.seq prev.seq)
    (fun (m : Option W16) e => match m with
      | some q => some (if seqNewer e.seq q then e.seq else q)
      | none => some e.seq)
    (motive := fun m => ∀ q, m = some q → ∃ e ∈ v.filter fun e => !prev.seen || seqNewer e.seq prev.seq, e.seq = q)
    (b := none) (fun _ h => nomatch h) fun m hm e he q hq => ?_
  · obtain ⟨e, he, rfl⟩ := inv q h
    obtain ⟨hv, hnew⟩ := List.mem_filter.1 he
    exact ⟨e, hv, rfl, fun hseen => by simpa [hseen] using hnew⟩
  · cases m with
    | none => exact ⟨e, he, Option.some.inj hq⟩
    | some r =>
      have hq := Option.some.inj hq
      split at hq
      · exact ⟨e, he, hq⟩
      · exact hm q (congrArg some hq)

/-- What is taken as new is a majority of the copies with a newer number (R50). -/
theorem agreeSequenced_of_isNew {prev : Agreed} {v : List Entry} (h : (agreeSequenced prev v).1.isNew = true) :
    ∃ q x, newestSeq prev v = some q ∧ majorityOf ((v.filter fun e => e.seq == q).map (·.val)) = some x ∧
      (agreeSequenced prev v).1.seq = q ∧ (agreeSequenced prev v).1.val = x := by
  unfold agreeSequenced at h ⊢
  split at h
  · simp at h
  next q hq =>
    split at h
    next x hx => exact ⟨q, x, hq, hx, by simp⟩
    · simp at h

/-- Nothing new leaves the agreed value and number (R50). -/
theorem agreeSequenced_of_not_isNew {prev : Agreed} {v : List Entry} (h : (agreeSequenced prev v).1.isNew = false) :
    (agreeSequenced prev v).1.val = prev.val ∧ (agreeSequenced prev v).1.seq = prev.seq := by
  unfold agreeSequenced at h ⊢
  split
  · exact ⟨rfl, rfl⟩
  next q hq =>
    rw [hq] at h
    dsimp only at h
    split
    next x hx => simp [hx] at h
    · exact ⟨rfl, rfl⟩

/-- Settles O5: majority of discrete and sequenced copies, middle of analogue ones (R49, R50). -/
theorem selectionOfInputs : Obligations.SelectionOfInputs := by
  unfold Obligations.SelectionOfInputs
  refine ⟨fun n safe a b hab => ?_, fun n safe a b c v h => ?_, fun n last a b c => ?_, fun prev v h => ?_,
    fun prev v h => agreeSequenced_of_not_isNew h⟩
  · simp [agreeDiscrete, hab]
  · simp [agreeDiscrete_three n safe a b c v h]
  · exact ⟨middleOf_mem a b c, by simp only [agreeAnalogue, middleOf]; omega,
      by simp only [agreeAnalogue, middleOf]; omega, two_le_middleOf a b c, middleOf_le_two a b c⟩
  · obtain ⟨q, x, hq, hx, hseq, hval⟩ := agreeSequenced_of_isNew h
    rw [hseq, hval]
    obtain ⟨_, _, _, newer⟩ := exists_mem_of_newestSeq hq
    refine ⟨newer, ?_⟩
    simpa [List.filter_map, List.filter_filter, Function.comp_def, Bool.and_comm] using majority_of_majorityOf hx

end Sys2Proof.Machine
end

section
/-! PROOFS, the compare of output sets. -/
namespace Sys2Proof.Machine

theorem sameOut_iff (a b : OutSet) :
    sameOut a b = true ↔ ({ a with sender := .A } : OutSet) = { b with sender := .A } := decide_eq_true_iff

theorem sameOut_comm (a b : OutSet) : sameOut a b = sameOut b a := by
  rw [Bool.eq_iff_iff, sameOut_iff, sameOut_iff, eq_comm]

theorem sameOut_self (a : OutSet) : sameOut a a = true := (sameOut_iff a a).2 rfl

theorem sameOut_of_common {o a b : OutSet} (ha : sameOut o a = true) (hb : sameOut o b = true) : sameOut a b = true :=
  (sameOut_iff a b).2 (((sameOut_iff o a).1 ha).symm.trans ((sameOut_iff o b).1 hb))

/-- An agreed output is a driver's set, and whom it outvotes offered another (R59). -/
theorem agreed_of_compareSets {n : Nat} {d : List (LaneId × OutSet)} {shadow : Option OutSet} {flag : LaneId → Bool}
    {o : OutSet} {p : Option LaneId} {f : Bool} (h : compareSets n d shadow flag = .agreed o p f) :
    (∃ q, (q, o) ∈ d) ∧ ∀ b, p = some b → ∃ y, (b, y) ∈ d ∧ sameOut o y = false := by
  unfold compareSets at h
  split at h
  · cases h
  next a x =>
    split_ifs at h <;> cases h <;> simp
  next a x b y =>
    split at h
    · cases h; simp
    next differ =>
      have hxy := Bool.eq_false_iff.2 differ
      have hyx := (sameOut_comm y x).trans hxy
      split at h
      · cases h; simp [hxy]
      · cases h; simp [hyx]
      · split at h
        · cases h; simp [hyx]
        · split at h <;> cases h
          simp [hxy]
  next a x b y c z _ =>
    split_ifs at h with hall hxy hxz hyz <;> cases h
    · simp
    · have hxz : sameOut o z = false := by simpa [hxy] using hall
      exact ⟨⟨a, by simp⟩, fun _ hc => ⟨z, by simp [← Option.some.inj hc], hxz⟩⟩
    · exact ⟨⟨a, by simp⟩, fun _ hb => ⟨y, by simp [← Option.some.inj hb], Bool.eq_false_iff.2 hxy⟩⟩
    · have hyx : sameOut o x = false := (sameOut_comm o x).trans (Bool.eq_false_iff.2 hxy)
      exact ⟨⟨b, by simp⟩, fun _ ha => ⟨x, by simp [← Option.some.inj ha], hyx⟩⟩

/-- Among drivers with different lanes, a lane offered one set. -/
theorem eq_of_mem_of_nodup {d : List (LaneId × OutSet)} (hd : (d.map Prod.fst).Nodup) {q : LaneId} {x y : OutSet}
    (hx : (q, x) ∈ d) (hy : (q, y) ∈ d) : x = y :=
  congrArg Prod.snd (List.inj_on_of_nodup_map hd hx hy rfl)

/-- Settles O8: an agreed output is one driver's set, and the outvoted driver's differs from it (R59). -/
theorem compareOutvotes : Obligations.CompareOutvotes := by
  unfold Obligations.CompareOutvotes
  intro n d shadow flag _ hd
  refine ⟨fun o p f h => ?_, fun o p f h => (agreed_of_compareSets h).2 p rfl, fun o same r p f h => ?_⟩
  · obtain ⟨⟨q, hq⟩, outvoted⟩ := agreed_of_compareSets h
    refine ⟨q, hq, fun hp => ?_⟩
    obtain ⟨y, hy, differs⟩ := outvoted q hp
    rw [← eq_of_mem_of_nodup hd hq hy, sameOut_self] at differs
    cases differs
  · obtain ⟨⟨q, hq⟩, outvoted⟩ := agreed_of_compareSets h
    cases p with
    | none => rfl
    | some b =>
      obtain ⟨y, hy, differs⟩ := outvoted b rfl
      rw [sameOut_of_common (same _ hq) (same _ hy)] at differs
      cases differs

end Sys2Proof.Machine
end

section
/-! PROOFS, the start of a vote cycle and the changes of roles. -/
namespace Sys2Proof.Machine

/-! ### The start of a cycle in one lane -/

@[simp] theorem Lane.latchCycle_pwr (L : Lane) : L.latchCycle.pwr = L.pwr := by
  unfold Lane.latchCycle
  split <;> rfl

@[simp] theorem Lane.latchCycle_dict (L : Lane) : L.latchCycle.dict = L.dict := by
  unfold Lane.latchCycle
  split <;> rfl

@[simp] theorem Lane.latchCycle_roleDue (L : Lane) : L.latchCycle.vote.roleDue = L.vote.roleDue := by
  unfold Lane.latchCycle
  split <;> rfl

/-- The links judged change nothing but the links. -/
theorem Lane.judgeLinks_pwr_dict (L : Lane) (s : State) :
    (L.judgeLinks s).pwr = L.pwr ∧ (L.judgeLinks s).dict = L.dict :=
  List.foldlRecOn allLinks _ (motive := fun M : Lane => M.pwr = L.pwr ∧ M.dict = L.dict) ⟨rfl, rfl⟩
    fun M hM k _ => by
      obtain ⟨hpwr, hdict⟩ := hM
      split <;> simp [hpwr, hdict]

/-- A lane that holds no commit has none to bring into force (R351). -/
theorem Lane.forceCommits_of_known_nil {L : Lane} (h : L.dict.known = []) :
    L.forceCommits.vote = L.vote ∧ L.forceCommits.pwr = L.pwr := by
  simp [Lane.forceCommits, h]

/-- What a lane that runs passes through before its record is fresh. -/
theorem Lane.latched_kept (L : Lane) (s : State) (start : Nat) :
    let M := (((L.latchCycle).judgeLinks s).countCycle.freshFlags).advance start
    M.vote = L.latchCycle.vote ∧ M.pwr.waitShadow = L.pwr.waitShadow ∧ M.dict.known = L.dict.known := by
  obtain ⟨hpwr, hdict⟩ := L.latchCycle.judgeLinks_pwr_dict s
  simp [Lane.freshFlags, Lane.countCycle, Lane.countNet, hpwr, hdict]

/-- A lane that runs and holds no commit starts its cycle with a fresh record (R41, R42). -/
theorem Lane.startCycle_of_runs {L : Lane} (s : State) (k : Nat) (h : L.runs = true) (hk : L.dict.known = []) :
    (L.startCycle s k).vote = L.latchCycle.vote.fresh k (k * L.tVote * 1000) ∧
      (L.startCycle s k).pwr.waitShadow = L.pwr.waitShadow := by
  obtain ⟨hvote, hwait, hknown⟩ := L.latched_kept s (k * L.tVote * 1000)
  obtain ⟨forced, forcedPwr⟩ := Lane.forceCommits_of_known_nil (L := { (((L.latchCycle).judgeLinks
    s).countCycle.freshFlags).advance (k * L.tVote * 1000) with
      vote := ((((L.latchCycle).judgeLinks s).countCycle.freshFlags).advance (k * L.tVote * 1000)).vote.fresh k
        (k * L.tVote * 1000) }) (hknown.trans hk)
  rw [Lane.startCycle, if_pos h]
  exact ⟨forced.trans (congrArg (VoteG.fresh · k _) hvote), (congrArg Pwr.waitShadow forcedPwr).trans hwait⟩

/-- A lane that does not run sends nothing in the cycle and keeps the rest of its vote group (R47). -/
theorem Lane.startCycle_of_not_runs {L : Lane} (s : State) (k : Nat) (h : L.runs = false) :
    (L.startCycle s k).vote = { L.vote with inset := none, outSet := none, copyOut := false } ∧
      (L.startCycle s k).pwr = L.pwr := by
  rw [Lane.startCycle, if_neg (by simp [h])]
  exact ⟨rfl, rfl⟩

/-! ### Role changes and views -/

/-- The record of the running cycle. -/
def VoteG.record (v : VoteG) :=
  (v.cycle, v.startNs, v.running, v.agreedNow, v.tasks, v.inset, v.frozenUs, v.outSet, v.offered, v.agreedOut)

/-- Power group and record of the cycle stay, in every lane. -/
def State.CycleKept (s t : State) : Prop :=
  ∀ l, (t.lane l).pwr = (s.lane l).pwr ∧ (t.lane l).vote.record = (s.lane l).vote.record

theorem State.CycleKept.trans {s t u : State} (h : s.CycleKept t) (h' : t.CycleKept u) : s.CycleKept u :=
  fun l => ⟨(h' l).1.trans (h l).1, (h' l).2.trans (h l).2⟩

theorem State.cycleKept_on {s : State} (l : LaneId) {f : Lane → Lane}
    (h : (f (s.lane l)).pwr = (s.lane l).pwr ∧ (f (s.lane l)).vote.record = (s.lane l).vote.record) :
    s.CycleKept (s.on l f) := by
  intro p
  by_cases hp : p = l
  · subst hp; simpa using h
  · simp [hp]

theorem State.cycleKept_onAll {s : State} {f : Lane → Lane}
    (h : ∀ L : Lane, (f L).pwr = L.pwr ∧ (f L).vote.record = L.vote.record) : s.CycleKept (s.onAll f) := by
  intro p
  simpa using h (s.lane p)

theorem State.changeRole_cycleKept (s : State) (l : LaneId) : s.CycleKept (s.changeRole l) := by
  unfold State.changeRole
  split
  · exact (State.cycleKept_on l ⟨rfl, rfl⟩).trans (State.cycleKept_onAll fun _ => ⟨rfl, rfl⟩)
  · exact (State.cycleKept_onAll fun L => by split <;> exact ⟨rfl, rfl⟩).trans (State.cycleKept_on l ⟨rfl, rfl⟩)
  · exact State.cycleKept_on l ⟨rfl, rfl⟩
  · exact fun _ => ⟨rfl, rfl⟩

theorem State.roleChanges_cycleKept (s : State) : s.CycleKept s.roleChanges :=
  List.foldlRecOn allLanes State.changeRole (motive := s.CycleKept) (fun _ => ⟨rfl, rfl⟩) fun t ht l _ =>
    ht.trans (t.changeRole_cycleKept l)

/-- A lane that does not wait for SHADOW does not enter it (R450). -/
theorem State.shadowEntry_lane {s : State} (old : State) {l : LaneId}
    (h : ((s.lane l).alive && (s.lane l).pwr.waitShadow) = false) : (s.shadowEntry old).lane l = s.lane l := by
  refine List.foldlRecOn allLanes _ (motive := fun t : State => t.lane l = s.lane l) rfl fun t ht p _ => ?_
  dsimp only
  by_cases hp : p = l
  · subst hp
    rw [ht, h]
    simpa using ht
  · have other (f : Lane → Lane) : (t.on p f).lane l = s.lane l := by rw [State.lane_on_ne _ _ (Ne.symm hp), ht]
    split
    · split
      · exact other _
      · split
        · exact other _
        · exact ht
    · exact ht

/-- The views of a cycle's start touch what a lane knows of drivers, lead and its own adoption alone. -/
theorem State.exists_views_lane (s : State) (l : LaneId) : ∃ drivers silent lead adopted,
    s.views.lane l = { s.lane l with vote := { (s.lane l).vote with
      drivers := drivers, silent := silent, lead := lead, adopted := adopted } } := by
  rw [State.views, State.lane_onAll]
  split
  · exact ⟨_, _, _, _, rfl⟩
  · exact ⟨_, _, _, _, rfl⟩

/-! ### Queue and free counter -/

theorem State.changeRole_lanesOnly (s : State) (l : LaneId) : LanesOnly s (s.changeRole l) := by
  unfold State.changeRole
  split <;> exact ⟨rfl, rfl, rfl⟩

theorem LanesOnly.trans {s t u : State} (h : LanesOnly s t) (h' : LanesOnly t u) : LanesOnly s u := by
  obtain ⟨hpub, hpending, hfree⟩ := h
  obtain ⟨hpub', hpending', hfree'⟩ := h'
  exact ⟨hpub'.trans hpub, hpending'.trans hpending, hfree'.trans hfree⟩

theorem State.roleChanges_lanesOnly (s : State) : LanesOnly s s.roleChanges :=
  List.foldlRecOn allLanes State.changeRole (motive := LanesOnly s) ⟨rfl, rfl, rfl⟩ fun t ht l _ =>
    ht.trans (t.changeRole_lanesOnly l)

theorem State.shadowEntry_lanesOnly (s old : State) : LanesOnly s (s.shadowEntry old) := by
  refine List.foldlRecOn allLanes _ (motive := LanesOnly s) ⟨rfl, rfl, rfl⟩ fun t ht l _ => ht.trans ?_
  dsimp only
  (repeat' split) <;> exact ⟨rfl, rfl, rfl⟩

/-! ### VOTE_CYCLE_START -/

/-- Each lane at the start of cycle `k`, before roles change. -/
def State.started (s : State) (k : Nat) : State := s.publish.onAll fun L => L.startCycle s k

theorem execVoteCycleStart_eq (s : State) (k : Nat) :
    execVoteCycleStart k s = .next ((s.started k).roleChanges.shadowEntry s).views := rfl

@[simp] theorem State.lane_started (s : State) (k : Nat) (l : LaneId) :
    (s.started k).lane l = (s.lane l).startCycle s k :=
  State.lane_onAll _ _ _

/-- A lane that does not wait for SHADOW has after the start the record that its start gave it. -/
theorem State.voteCycleStart_record (s : State) (k : Nat) {l : LaneId}
    (h : (((s.lane l).startCycle s k).alive && ((s.lane l).startCycle s k).pwr.waitShadow) = false) :
    (((s.started k).roleChanges.shadowEntry s).views.lane l).vote.record =
      ((s.lane l).startCycle s k).vote.record := by
  obtain ⟨hpwr, hrecord⟩ := (s.started k).roleChanges_cycleKept l
  rw [State.lane_started] at hpwr hrecord
  obtain ⟨drivers, silent, lead, adopted, hviews⟩ := ((s.started k).roleChanges.shadowEntry s).exists_views_lane l
  rw [hviews, State.shadowEntry_lane s (by simpa only [Lane.alive, hpwr] using h)]
  exact hrecord

/-- Settles O1: the record a lane starts with stands through role changes, SHADOW entry and views (R41, R42, R47). -/
theorem voteCycleStart : Obligations.VoteCycleStart := by
  unfold Obligations.VoteCycleStart
  intro s k
  obtain ⟨-, hpending, hfree⟩ := ((s.started k).roleChanges_lanesOnly).trans (State.shadowEntry_lanesOnly _ s)
  refine ⟨_, execVoteCycleStart_eq s k, hpending, hfree, fun l hruns hwait hknown => ?_, fun l hruns => ?_⟩
  · obtain ⟨hvote, hw⟩ := Lane.startCycle_of_runs s k hruns hknown
    have hrecord := s.voteCycleStart_record k (l := l) (by rw [hw, hwait, Bool.and_false])
    rw [hvote] at hrecord
    simpa [VoteG.record, VoteG.fresh] using hrecord
  · obtain ⟨hvote, hpwr⟩ := Lane.startCycle_of_not_runs s k hruns
    have notWaiting : (((s.lane l).startCycle s k).alive && ((s.lane l).startCycle s k).pwr.waitShadow) = false := by
      have halive : ((s.lane l).startCycle s k).alive = (s.lane l).alive := by rw [Lane.alive, hpwr]; rfl
      rw [Lane.runs, Bool.and_eq_false_iff, Bool.or_eq_false_iff, Bool.or_eq_false_iff] at hruns
      rw [halive, hpwr]
      obtain hdead | ⟨⟨-, hwait⟩, -⟩ := hruns
      · rw [hdead, Bool.false_and]
      · rw [hwait, Bool.and_false]
    have hrecord := s.voteCycleStart_record k notWaiting
    rw [hvote] at hrecord
    simp only [VoteG.record, Prod.mk.injEq] at hrecord
    obtain ⟨hcycle, -, hrunning, -, -, hinset, -, hout, -, -⟩ := hrecord
    exact ⟨hcycle, hrunning, hinset, hout⟩

/-! ### One lane due a role -/

/-- A lane without a commit starts its cycle with the role it was due, and waits for SHADOW as before. -/
theorem Lane.startCycle_due {L : Lane} (s : State) (k : Nat) (hk : L.dict.known = []) :
    (L.startCycle s k).vote.roleDue = L.vote.roleDue ∧ (L.startCycle s k).pwr.waitShadow = L.pwr.waitShadow := by
  cases h : L.runs with
  | true =>
    obtain ⟨hvote, hwait⟩ := Lane.startCycle_of_runs s k h hk
    exact ⟨by rw [hvote]; exact L.latchCycle_roleDue, hwait⟩
  | false =>
    obtain ⟨hvote, hpwr⟩ := Lane.startCycle_of_not_runs s k h
    exact ⟨by rw [hvote], by rw [hpwr]⟩

theorem State.changeRole_of_none {s : State} {l : LaneId} (h : (s.lane l).vote.roleDue = none) :
    s.changeRole l = s := by
  simp [State.changeRole, h]

theorem State.changeRole_of_follower {s : State} {l : LaneId} (h : (s.lane l).vote.roleDue = some .follower) :
    s.changeRole l = (s.on l fun L =>
      { L with vote := { L.vote with role := .follower, roleDue := none, relAtApply := true } }).onAll
        fun L => L.rampFrom0 l := by
  simp [State.changeRole, h]

theorem State.changeRole_of_lead {s : State} {l : LaneId} (h : (s.lane l).vote.roleDue = some .lead) :
    s.changeRole l = (s.onAll fun L =>
      if L.vote.role = .lead then { L with vote := { L.vote with role := .follower } } else L).on l
        fun L => { L with vote := { L.vote with role := .lead, roleDue := none } } := by
  simp [State.changeRole, h]

/-- A lane's role change leaves what is due in the others. -/
theorem State.changeRole_roleDue_ne (s : State) {l p : LaneId} (h : p ≠ l) :
    ((s.changeRole l).lane p).vote.roleDue = (s.lane p).vote.roleDue := by
  unfold State.changeRole
  split
  · simp [h, Lane.rampFrom0]
  · rw [State.lane_on_ne _ _ h, State.lane_onAll]
    split <;> rfl
  · rw [State.lane_on_ne _ _ h]
  · rfl

/-- Where one lane alone is due a role, its change is the only one. -/
theorem State.roleChanges_eq_changeRole {s : State} {l : LaneId} (h : ∀ p, p ≠ l → (s.lane p).vote.roleDue = none) :
    s.roleChanges = s.changeRole l := by
  have before (p : LaneId) (hp : p ≠ l) : s.changeRole p = s := State.changeRole_of_none (h p hp)
  have after (p : LaneId) (hp : p ≠ l) : (s.changeRole l).changeRole p = s.changeRole l :=
    State.changeRole_of_none ((s.changeRole_roleDue_ne hp).trans (h p hp))
  rw [State.roleChanges_eq]
  cases l <;> simp [allLanes, before, after]

/-- While no lane waits for SHADOW the start of a cycle changes roles and views alone. -/
theorem State.exists_voteCycleStart_lane {s : State} (k : Nat) {l : LaneId}
    (hfree : ∀ p, (s.lane p).pwr.waitShadow = false ∧ (s.lane p).dict.known = [])
    (hone : ∀ p, p ≠ l → (s.lane p).vote.roleDue = none) (p : LaneId) : ∃ drivers silent lead adopted,
    ((s.started k).roleChanges.shadowEntry s).views.lane p =
      { ((s.started k).changeRole l).lane p with vote := { (((s.started k).changeRole l).lane p).vote with
        drivers := drivers, silent := silent, lead := lead, adopted := adopted } } := by
  have waits (q : LaneId) : ((s.started k).lane q).pwr.waitShadow = false := by
    rw [State.lane_started, (Lane.startCycle_due s k (hfree q).2).2, (hfree q).1]
  have due (q : LaneId) (hq : q ≠ l) : ((s.started k).lane q).vote.roleDue = none := by
    rw [State.lane_started, (Lane.startCycle_due s k (hfree q).2).1, hone q hq]
  obtain ⟨drivers, silent, lead, adopted, hviews⟩ := ((s.started k).roleChanges.shadowEntry s).exists_views_lane p
  obtain ⟨hpwr, -⟩ := (s.started k).roleChanges_cycleKept p
  have entered := State.shadowEntry_lane (s := (s.started k).roleChanges) s (l := p)
    (by rw [hpwr, waits, Bool.and_false])
  rw [State.roleChanges_eq_changeRole due] at entered hviews ⊢
  exact ⟨drivers, silent, lead, adopted, by rw [hviews, entered]⟩

/-- Settles O2: the one due role changes at the cycle's start, and the two requests set what is due (R74, R75). -/
theorem promotionAndTakeback : Obligations.PromotionAndTakeback := by
  unfold Obligations.PromotionAndTakeback
  refine ⟨fun s k l hfree hone => ?_, fun s l => ⟨fun ha hr hp hd hpas hc => ?_, fun ha hr hpref hramp hsplit => ?_⟩⟩
  · have after := State.exists_voteCycleStart_lane k hfree hone
    have startDue : ((s.started k).lane l).vote.roleDue = (s.lane l).vote.roleDue := by
      rw [State.lane_started, (Lane.startCycle_due s k (hfree l).2).1]
    refine ⟨fun hdue => ⟨_, execVoteCycleStart_eq s k, ?_⟩, fun hdue => ⟨_, execVoteCycleStart_eq s k, ?_⟩⟩
    · rw [State.changeRole_of_follower (startDue.trans hdue)] at after
      obtain ⟨_, _, _, _, hl⟩ := after l
      rw [hl]
      refine ⟨by simp [Lane.rampFrom0], by simp [Lane.rampFrom0], by simp [Lane.rampFrom0], fun p => ?_,
        fun p hp => ?_⟩
      · obtain ⟨_, _, _, _, hp⟩ := after p
        simp [hp, Lane.rampFrom0]
      · obtain ⟨_, _, _, _, hafter⟩ := after p
        simp [hafter, Lane.rampFrom0, hp]
    · rw [State.changeRole_of_lead (startDue.trans hdue)] at after
      obtain ⟨_, _, _, _, hl⟩ := after l
      rw [hl]
      refine ⟨by simp, by simp, fun p hp => ?_, fun p hp hrole => ?_, fun p hp hrole => ?_⟩
      · obtain ⟨_, _, _, _, hafter⟩ := after p
        by_cases hlead : (s.lane p).vote.role = .lead <;> simp [hafter, hp, hlead]
      all_goals
        obtain ⟨_, _, _, _, hafter⟩ := after p
        simp [hafter, hp, hrole]
  · exact congrArg Host.Outcome.next (State.on_congr s l (if_pos (by simp [ha, hr, hp, hd, hpas, hc])))
  · exact congrArg Host.Outcome.next (State.on_congr s l (if_pos (by simp [ha, hr, hpref, hramp, hsplit])))

end Sys2Proof.Machine
end

section
/-! PROOFS, input close and agreement. -/
namespace Sys2Proof.Machine

/-! ### Input close in one lane -/

theorem Lane.obj_congr {L M : Lane} (hid : M.id = L.id) (hdict : M.dict = L.dict) : M.obj = L.obj := by
  funext idx sub
  rw [Lane.obj, Lane.obj, hid, hdict]

/-- Which inputs carry an entry is a matter of the lane and its dictionary (R529). -/
theorem Lane.inputNums_congr {L M : Lane} (hid : M.id = L.id) (hdict : M.dict = L.dict) :
    M.inputNums = L.inputNums := by
  unfold Lane.inputNums Lane.input Lane.mapped Lane.duty
  rw [Lane.obj_congr hid hdict]

theorem Lane.angleEntry_num (L : Lane) (n : Fin 8) (speed : Bool) :
    (L.angleEntry n speed).num = (if speed then 0x18 else 0x10) + n.val := by
  unfold Lane.angleEntry
  dsimp only
  split <;> rfl

theorem Lane.recordEntry_num (L : Lane) (n : Nat) (d : InDesc) : (L.recordEntry n d).num = n := by
  unfold Lane.recordEntry
  split
  · rfl
  · dsimp only
    split <;> rfl

/-- An entry carries the number of its input. -/
theorem Lane.entry_num (L : Lane) (n : Nat) : (L.entry n).num = n := by
  unfold Lane.entry
  split
  · rfl
  · split
    · rw [Lane.angleEntry_num]; simp; omega
    · split
      · rw [Lane.angleEntry_num]; simp; omega
      · split
        next h => exact h.symm
        · split
          · exact Lane.recordEntry_num ..
          · rfl

theorem Lane.makeInset_nums (L : Lane) : L.makeInset.entries.map (·.num) = L.inputNums := by
  simp [Lane.makeInset, Lane.entry_num, Function.comp_def]

/-- The lane as it stands at tCLOSE, its measured values taken over. -/
def Lane.atClose (L : Lane) : Lane := (L.toPoint L.tClose).closeReads

theorem Lane.atClose_kept (L : Lane) :
    L.atClose.id = L.id ∧ L.atClose.dict = L.dict ∧ L.atClose.vote = L.vote ∧ L.atClose.pwr = L.pwr ∧
      L.atClose.tb.ns = max L.tb.ns (L.vote.startNs + L.tClose * 1000) := by
  simp [Lane.atClose, Lane.closeReads]

theorem Lane.sends_congr {L M : Lane} (hvote : M.vote = L.vote) (hpwr : M.pwr = L.pwr) : M.sends = L.sends := by
  simp only [Lane.sends, Lane.alive, Lane.voting, hvote, hpwr]

theorem Lane.close_of_not_runs {L : Lane} (h : (L.runs && L.vote.running) = false) : L.close = L :=
  if_neg (by simp [h])

/-- What the close of the inputs leaves of time and vote group (R42, R45). -/
theorem Lane.close_of_runs {L : Lane} (h : (L.runs && L.vote.running) = true) :
    L.close.tb = L.atClose.tb ∧
      L.close.vote = { L.vote with inset := if L.sends then some L.atClose.makeInset else none } := by
  obtain ⟨-, -, hvote, hpwr, -⟩ := L.atClose_kept
  rw [← Lane.sends_congr hvote hpwr, ← hvote, Lane.close, if_pos h]
  exact ⟨rfl, rfl⟩

/-! ### Agreement in one lane -/

theorem Lane.agree_of_not_runs {L : Lane} (s : State) (h : (L.runs && L.vote.running && !L.vote.agreedNow) = false) :
    L.agree s = L :=
  if_neg (by simp [h])

theorem Lane.agree_agreedNow {L : Lane} (s : State) (h : (L.runs && L.vote.running && !L.vote.agreedNow) = true) :
    (L.agree s).vote.agreedNow = true := by
  rw [Lane.agree, if_pos h]

/-- A lane that does not vote judges its contacts at tAGREE and nothing else (R70). -/
theorem Lane.agree_of_not_voting {L : Lane} (s : State)
    (h : (L.runs && L.vote.running && !L.vote.agreedNow) = true) (hv : L.voting = false) :
    L.agree s = { L.toPoint L.tAgree with
      vote := { L.vote with contact := (L.toPoint L.tAgree).contacts, agreedNow := true } } := by
  have hv' : (L.toPoint L.tAgree).voting = false := by rw [Lane.voting, L.toPoint_vote]; exact hv
  rw [Lane.agree, if_pos h]
  simp [hv']

/-- Settles O3: the close makes the set at tCLOSE, and agreement judges contact once in the cycle (R45, R70). -/
theorem inputCloseAndAgreement : Obligations.InputCloseAndAgreement := by
  unfold Obligations.InputCloseAndAgreement
  refine ⟨fun s => ⟨_, rfl, ⟨rfl, rfl, rfl⟩, fun l h => ?_, fun l h => ?_⟩,
    fun s => ⟨_, rfl, ⟨rfl, rfl, rfl⟩, fun l h => ?_, fun l h => ?_⟩⟩
  · rw [State.lane_onAll, Lane.close_of_not_runs h]
  · obtain ⟨hid, hdict, hvote, hpwr, hns⟩ := (s.lane l).atClose_kept
    obtain ⟨htb, hclosed⟩ := Lane.close_of_runs h
    rw [State.lane_onAll, htb, hclosed]
    refine ⟨hns, rfl, fun hs => by simp [hs], fun hs => ⟨(s.lane l).atClose.makeInset, by simp [hs], ?_⟩⟩
    refine ⟨hid, by rw [← hvote]; rfl, by rw [← hvote]; rfl, rfl, ?_⟩
    rw [Lane.makeInset_nums, Lane.inputNums_congr hid hdict]
  · rw [State.lane_onAll, Lane.agree_of_not_runs s h]
  · rw [State.lane_onAll]
    refine ⟨Lane.agree_agreedNow s h, fun hv => ?_⟩
    rw [Lane.agree_of_not_voting s h hv]
    exact ⟨Lane.toPoint_ns _ _, rfl, fun p => by simp [Lane.contacts, Lane.gotSets]⟩

end Sys2Proof.Machine
end

section
/-! PROOFS, the exchange of sets. -/
namespace Sys2Proof.Machine

/-! ### Input sets -/

theorem Lane.takeDirect_of_good {L : Lane} (src : LaneId) {x : InSet} (use : Bool) (h : x.cycle = L.vote.cycle) :
    L.takeDirect src x true use =
      let M := L.onLinkTo src fun v => { v with gotIn := true }
      if use then { M with vote := { M.vote with
        rx := M.vote.rx.set src (some x), rxDirect := M.vote.rxDirect.set src true } }
      else M := by
  rw [Lane.takeDirect, if_neg (by simp [h])]

theorem Lane.takeDirect_of_bad {L : Lane} (src : LaneId) {x : InSet} {crcOk : Bool} (use : Bool)
    (h : crcOk = false ∨ x.cycle ≠ L.vote.cycle) :
    L.takeDirect src x crcOk use =
      (L.onLinkTo src fun v => { v with errors := satInc v.errors, goodNow := false, errNow := true }).raise
        (setCode src) 0 (if crcOk then 2 else 1) L.vote.cycle.toNat :=
  if_pos h

theorem Lane.takeRelayed_of_good {L : Lane} (src : LaneId) {x : InSet} (h : x.cycle = L.vote.cycle) :
    L.takeRelayed src x true =
      let M := L.onLinkTo (thirdOf L.id src) fun v => { v with gotRelay := true }
      if (M.vote.rx.get src).isSome then M
      else { M with vote := { M.vote with rx := M.vote.rx.set src (some x) } } := by
  rw [Lane.takeRelayed, if_neg (by simp [h])]

theorem Lane.takeRelayed_of_bad {L : Lane} (src : LaneId) {x : InSet} {crcOk : Bool}
    (h : crcOk = false ∨ x.cycle ≠ L.vote.cycle) :
    L.takeRelayed src x crcOk =
      L.onLinkTo (thirdOf L.id src) fun v => { v with errors := satInc v.errors, goodNow := false } :=
  if_pos h

/-- A lane takes input sets: it passes the cycle's points, has not agreed, and tCLOSE + 50 microseconds is not past. -/
def Lane.listens (L : Lane) : Bool := L.runs && L.vote.running && !L.vote.agreedNow && L.byPoint (L.tClose + 50)

theorem Lane.listens_iff (L : Lane) : L.listens = true ↔ L.runs = true ∧ L.vote.running = true ∧
    L.vote.agreedNow = false ∧ L.tb.ns ≤ L.vote.startNs + (L.tClose + 50) * 1000 := by
  simp [Lane.listens, Lane.byPoint, and_assoc]

section
variable {s : State} {dst src : LaneId} {x : InSet} {k : LinkId} (hx : (s.lane src).vote.inset = some x)
  (hk : LinkId.between dst src = some k) (crcOk : Bool) (other : List (Nat × Bool × Int))
include hx hk

theorem execInputSetReceived_direct (hl : (s.lane dst).listens = true) (ht : s.linkTested k = false) :
    execInputSetReceived dst src true crcOk other s =
      .next (s.on dst fun L => L.takeDirect src (x.arrived other) crcOk (s.usesLink dst src)) := by
  unfold Lane.listens at hl
  simp [execInputSetReceived, hx, hk, hl, ht]

theorem execInputSetReceived_relayed (hl : (s.lane dst).listens = true) (hr : s.relayPath dst src = true) :
    execInputSetReceived dst src false crcOk other s =
      .next (s.on dst fun L => L.takeRelayed src (x.arrived other) crcOk) := by
  unfold Lane.listens at hl
  simp [execInputSetReceived, hx, hk, hl, hr]

theorem execInputSetReceived_tested (ht : s.linkTested k = true) :
    execInputSetReceived dst src true crcOk other s = .next s := by
  simp [execInputSetReceived, hx, hk, ht]

end

/-- Without a set, or where the lane does not take it, nothing changes. -/
theorem execInputSetReceived_of_not {s : State} {dst src : LaneId} (direct crcOk : Bool)
    (other : List (Nat × Bool × Int)) (h : (s.lane src).vote.inset = none ∨ (s.lane dst).listens = false) :
    execInputSetReceived dst src direct crcOk other s = .next s := by
  unfold execInputSetReceived
  dsimp only
  split
  next x k hx hk =>
    obtain hnone | hl := h
    · rw [hnone] at hx; cases hx
    · exact if_neg (Bool.eq_false_iff.1 hl)
  · rfl

/-! ### Output sets -/

/-- A lane takes output sets of a peer: it votes in the cycle, and tCOMP is not reached. -/
def State.takesOutput (s : State) (dst src : LaneId) (direct : Bool) : Bool :=
  (s.lane dst).alive && (s.lane dst).voting && (s.lane dst).vote.running && s.path dst src direct &&
    decide ((s.lane dst).tb.ns < (s.lane dst).vote.startNs + (s.lane dst).tComp * 1000)

section
variable {s : State} {dst src : LaneId} {x : OutSet} {way : Way} (hx : (s.lane src).vote.outSet = some x)
  (ht : s.takesOutput dst src way.direct = true) (flagged : Bool) (other : List (LaneId × Fin 8 × Rat))
include hx ht

theorem execOutputSetReceived_of_good (hc : way.crcOk = true) :
    execOutputSetReceived dst src way flagged other s = .next (s.on dst fun L =>
      L.takeOutput src (x.arrived other) way.direct (s.usesLink dst src) flagged) := by
  unfold State.takesOutput at ht
  simp [execOutputSetReceived, hx, ht, hc]

theorem execOutputSetReceived_of_bad (hc : way.crcOk = false) :
    execOutputSetReceived dst src way flagged other s =
      .next (s.on dst fun L => L.badMessage (viaOf dst src way.direct)) := by
  unfold State.takesOutput at ht
  simp [execOutputSetReceived, hx, ht, hc]

end

theorem execOutputSetReceived_of_not {s : State} {dst src : LaneId} (way : Way) (flagged : Bool)
    (other : List (LaneId × Fin 8 × Rat))
    (h : (s.lane src).vote.outSet = none ∨ s.takesOutput dst src way.direct = false) :
    execOutputSetReceived dst src way flagged other s = .next s := by
  unfold execOutputSetReceived
  dsimp only
  split
  · rfl
  next x hx =>
    obtain hnone | ht := h
    · rw [hnone] at hx; cases hx
    · exact if_neg (Bool.eq_false_iff.1 ht)

/-- Settles O4: each case of reception is one arm of the two commands (R45-R48, R55). -/
theorem setsReceived : Obligations.SetsReceived := by
  unfold Obligations.SetsReceived
  refine ⟨⟨fun s dst src k x other hx hk hruns hrun hagreed hns => ?_, fun s dst src direct crcOk other h => ?_⟩,
    fun s dst src x direct flagged other hx ha hv hr hp hns => ?_, fun s dst src way flagged other h => ?_⟩
  · have hl := (Lane.listens_iff _).2 ⟨hruns, hrun, hagreed, hns⟩
    refine ⟨fun ht hc hu => ?_, fun ht hc hu => ?_, fun ht crcOk hbad => ?_, fun hp hc => ?_, fun hp crcOk hbad => ?_⟩
    · exact (execInputSetReceived_direct hx hk true other hl ht).trans (congrArg _ (State.on_congr s dst
        ((Lane.takeDirect_of_good (x := x.arrived other) src _ hc).trans (if_pos hu))))
    · exact (execInputSetReceived_direct hx hk true other hl ht).trans (congrArg _ (State.on_congr s dst
        ((Lane.takeDirect_of_good (x := x.arrived other) src _ hc).trans (if_neg (Bool.eq_false_iff.1 hu)))))
    · exact (execInputSetReceived_direct hx hk crcOk other hl ht).trans
        (congrArg _ (State.on_congr s dst
          (Lane.takeDirect_of_bad (x := x.arrived other) src _ hbad)))
    · exact (execInputSetReceived_relayed hx hk true other hl hp).trans
        (congrArg _ (State.on_congr s dst
          (Lane.takeRelayed_of_good (x := x.arrived other) src hc)))
    · exact (execInputSetReceived_relayed hx hk crcOk other hl hp).trans
        (congrArg _ (State.on_congr s dst
          (Lane.takeRelayed_of_bad (x := x.arrived other) src hbad)))
  · obtain hnone | hagreed | hlate | ⟨k, hk, rfl, ht⟩ := h
    · exact execInputSetReceived_of_not direct crcOk other (.inl hnone)
    · exact execInputSetReceived_of_not direct crcOk other (.inr (by simp [Lane.listens, hagreed]))
    · exact execInputSetReceived_of_not direct crcOk other (.inr (by simp [Lane.listens, Lane.byPoint, hlate]))
    · cases hx : (s.lane src).vote.inset with
      | none => exact execInputSetReceived_of_not true crcOk other (.inl hx)
      | some x => exact execInputSetReceived_tested hx hk crcOk other ht
  · have ht : s.takesOutput dst src direct = true := by simp [State.takesOutput, ha, hv, hr, hp, hns]
    refine ⟨fun hd hu => ?_, fun hd hu => ?_, fun hd => ?_, ?_⟩
    · refine (execOutputSetReceived_of_good hx ht flagged other rfl).trans (congrArg _ (State.on_congr s dst ?_))
      simp [Lane.takeOutput, hd, hu, Lane.offer]
    · refine (execOutputSetReceived_of_good hx ht flagged other rfl).trans (congrArg _ (State.on_congr s dst ?_))
      simp [Lane.takeOutput, hd, hu]
    · subst hd
      exact execOutputSetReceived_of_good hx ht flagged other rfl
    · exact execOutputSetReceived_of_bad (way := { direct := direct, crcOk := false }) hx ht flagged other rfl
  · refine execOutputSetReceived_of_not way flagged other (h.imp_right fun hns => ?_)
    simp [State.takesOutput, hns]

end Sys2Proof.Machine
end

section
/-! PROOFS, the compute deadline. -/
namespace Sys2Proof.Machine

/-- A lane that has no output set due at tDEAD keeps everything (R56). -/
theorem Lane.deadline_of_not_due {L : Lane}
    (h : (L.alive && L.voting && L.vote.running && L.vote.inset.isSome) = false) :
    L.deadline = L :=
  if_neg (by simp [h])

/-- A deadline met: the set is offered and the run of misses ends (R55, R56). -/
theorem Lane.deadline_of_met {L : Lane} (h : (L.alive && L.voting && L.vote.running && L.vote.inset.isSome) = true)
    (hout : L.vote.outSet.isSome = true) :
    L.deadline.vote = { L.vote with missRun := 0, offered := L.vote.offered.set L.id L.vote.outSet } ∧
      L.deadline.flog = L.flog := by
  rw [Lane.deadline, if_pos h]
  simp [hout, Lane.meetDeadline]

/-- A deadline missed is counted and recorded, and no set is offered (R56, R57). -/
theorem Lane.deadline_of_missed {L : Lane} (h : (L.alive && L.voting && L.vote.running && L.vote.inset.isSome) = true)
    (hout : L.vote.outSet = none) :
    L.deadline.vote = { (L.toPoint L.tDead).missDeadline.vote with offered := L.vote.offered.set L.id none } ∧
      L.deadline.flog.last = 0xAFC1#16 := by
  rw [Lane.deadline, if_pos h]
  simp [hout, Lane.missDeadline]

/-- What a miss counts; the second in a row is due a lane-out (R57). -/
theorem Lane.missDeadline_vote (L : Lane) :
    L.missDeadline.vote.role = L.vote.role ∧ L.missDeadline.vote.misses = satInc L.vote.misses ∧
      L.missDeadline.vote.missRun = L.vote.missRun + 1 ∧
      (1 ≤ L.vote.missRun → L.missDeadline.vote.missOut = true) := by
  refine ⟨rfl, rfl, rfl, fun h => ?_⟩
  simp [Lane.missDeadline, show 2 ≤ L.vote.missRun + 1 by omega]

/-- Settles O7: at tDEAD a lane offers what it froze, a set or none (R55-R57). -/
theorem computeDeadline : Obligations.ComputeDeadline := by
  unfold Obligations.ComputeDeadline
  refine fun s => ⟨_, rfl, ⟨rfl, rfl, rfl⟩, fun l h => ?_, fun l h => ?_⟩
  · rw [State.lane_onAll, Lane.deadline_of_not_due h]
  · rw [State.lane_onAll]
    cases hout : (s.lane l).vote.outSet with
    | some x =>
      obtain ⟨hvote, hflog⟩ := Lane.deadline_of_met h (by simp [hout])
      rw [hvote, hflog]
      exact ⟨rfl, by simp [hout], fun _ => ⟨rfl, rfl, rfl⟩, nofun⟩
    | none =>
      obtain ⟨hvote, hlast⟩ := Lane.deadline_of_missed h hout
      obtain ⟨hrole, hmisses, hrun, hdue⟩ := ((s.lane l).toPoint (s.lane l).tDead).missDeadline_vote
      rw [Lane.toPoint_vote] at hrole hmisses hrun hdue
      rw [hvote, hlast]
      exact ⟨hrole, by simp, nofun, fun _ => ⟨hmisses, hrun, hdue, rfl⟩⟩

end Sys2Proof.Machine
end

section
/-! PROOFS, the state copy. -/
namespace Sys2Proof.Machine

/-! ### STATE_COPY -/

/-- Who the copy source is depends on the lane's number, dictionary and vote group alone (R65, R440). -/
theorem State.copySource_congr (s : State) {L M : Lane} (hid : M.id = L.id) (hdict : M.dict = L.dict)
    (hvote : M.vote = L.vote) : s.copySource M = s.copySource L := by
  unfold State.copySource Lane.successor
  rw [Lane.obj_congr hid hdict, hid, hvote]

/-! ### What the use of a copy leaves -/

theorem Lane.takeConfig_vote (L src : Lane) : (L.takeConfig src).vote = L.vote :=
  (L.takeConfig_voteKept src).2

/-- An adopted copy: services' state, agreed inputs, sources and configuration count are the source's (R66, R67). -/
theorem Lane.adopt_takes (L src : Lane) :
    (L.adopt src).svc = src.svc ∧ (L.adopt src).vote.agreed = src.vote.agreed ∧
      (L.adopt src).vote.sources = src.vote.sources ∧ (L.adopt src).vote.adopted = true ∧
      (L.adopt src).dict.cfgGen = src.dict.cfgGen ∧ (L.adopt src).vote.role = L.vote.role :=
  have hrole : (L.takeConfig src).vote.role = L.vote.role := by rw [Lane.takeConfig_vote]
  ⟨rfl, rfl, rfl, rfl, rfl, hrole⟩

theorem Lane.goOut_agreed (L : Lane) (code : Nat) : (L.goOut code).vote.agreed = L.vote.agreed := by
  cases h : L.vote.outNow with
  | true => rw [Lane.goOut_of_out h, Lane.assertStop_vote]
  | false => rw [Lane.goOut_vote h]; rfl

/-- A follower that finds a divergence takes the copy and records it (R66). -/
theorem Lane.diverge_takes (L src : Lane) :
    (L.diverge src).svc = src.svc ∧ (L.diverge src).vote.agreed = src.vote.agreed ∧
      (L.diverge src).flog.last = 0x1FC5#16 := by
  obtain ⟨hsvc, hagreed, -⟩ := L.adopt_takes src
  unfold Lane.diverge
  dsimp only
  split
  · simp [hsvc, hagreed, Lane.goOut_agreed]
  · simp [hsvc, hagreed]

theorem Lane.useCopy_of_shadow {L : Lane} (src : Lane) (h : L.vote.role = .shadow) : L.useCopy src = L.adopt src := by
  simp [Lane.useCopy, h]

theorem Lane.useCopy_of_same {L src : Lane} (h : L.vote.role = .follower) (hs : L.sameState src = true) :
    L.useCopy src = { L with vote := { L.vote with adopted := true } } := by
  simp [Lane.useCopy, h, hs]

theorem Lane.useCopy_of_differs {L src : Lane} (h : L.vote.role = .follower) (hs : L.sameState src = false) :
    L.useCopy src = L.diverge src := by
  simp [Lane.useCopy, h, hs]

/-- The lane once it has noted a copy over its direct link to `p`. -/
def Lane.noteCopy (L : Lane) (p : LaneId) : Lane := L.onLinkTo p fun v => { v with gotCopy := true }

theorem Lane.takeCopy_of_direct {L : Lane} (src : Lane) (h : L.vote.adopted = false) :
    L.takeCopy src true true = (L.noteCopy src.id).useCopy src := by
  simp [Lane.takeCopy, Lane.noteCopy, h]

theorem Lane.noteCopy_sameState (L src : Lane) (p : LaneId) : (L.noteCopy p).sameState src = L.sameState src := by
  simp [Lane.noteCopy, Lane.sameState]

/-! ### STATE_VECTOR_RECEIVED -/

/-- The first lane whose copy can reach `l` this way. -/
def State.copySender (s : State) (l : LaneId) (direct : Bool) : Option LaneId :=
  allLanes.find? fun p => p != l && (s.lane p).vote.copyOut && s.path l p direct

/-- A lane takes copies until tCOPY + 150 microseconds. -/
def Lane.takesCopy (L : Lane) : Bool := L.runs && L.vote.running && !L.vote.copyOver && L.byPoint (L.tCopy + 150)

theorem execStateVectorReceived_of_sender {s : State} {c : CopyIn} {p : LaneId}
    (hp : s.copySender c.lane c.way.direct = some p) (ht : (s.lane c.lane).takesCopy = true) :
    execStateVectorReceived c s = .next (s.on c.lane fun L =>
      if c.way.crcOk then L.takeCopy (s.lane p) c.way.direct (s.usesLink c.lane p)
      else L.badMessage (viaOf c.lane p c.way.direct)) := by
  unfold State.copySender at hp
  unfold execStateVectorReceived
  dsimp only
  rw [hp]
  exact congrArg Host.Outcome.next (State.on_congr s c.lane (if_pos ht))

theorem execStateVectorReceived_of_none {s : State} {c : CopyIn} (h : ∀ p, (s.lane p).vote.copyOut = false) :
    execStateVectorReceived c s = .next s := by
  have hnone : s.copySender c.lane c.way.direct = none := by simp [State.copySender, h]
  unfold State.copySender at hnone
  unfold execStateVectorReceived
  dsimp only
  rw [hnone]

/-! ### STATE_COPY_DEADLINE -/

theorem Lane.copyEnd_of_not_due {L : Lane} (s : State) (h : (L.runs && L.vote.running && !L.vote.copyOver) = false) :
    L.copyEnd s = L :=
  if_neg (by simp [h])

/-- The clean cycles of a shadow, counted to at most 10,000 (R73). -/
def Lane.cleanAfter (L : Lane) (s : State) : Nat :=
  if s.heard L.id && L.vote.outSet.isSome && !L.vote.dirty && !L.vote.selfFlag &&
    (s.copySource L == some L.id || (L.vote.adopted && L.vote.digestOk))
  then min 10000 (L.vote.clean.toNat + 1) else 0

theorem Lane.cleanAfter_lt (L : Lane) (s : State) : L.cleanAfter s < 2 ^ 16 := by
  unfold Lane.cleanAfter
  split <;> omega

theorem Lane.endShadow_eq (L : Lane) (s : State) :
    L.endShadow s = { L with vote := { L.vote with clean := BitVec.ofNat 16 (L.cleanAfter s) } } := rfl

/-- What the end of the copy leaves of a lane's services and vote group (R67, R73). -/
theorem Lane.copyEnd_of_due {L : Lane} (s : State) (h : (L.runs && L.vote.running && !L.vote.copyOver) = true) :
    (L.copyEnd s).svc = L.svc ∧ (L.copyEnd s).vote = { L.vote with
      copyOver := true
      clean := if L.vote.role = .shadow then BitVec.ofNat 16 (L.cleanAfter s) else L.vote.clean } := by
  have hclean (us : Nat) : (L.toPoint us).cleanAfter s = L.cleanAfter s := by
    simp only [Lane.cleanAfter, Lane.toPoint_id, Lane.toPoint_vote,
      s.copySource_congr (L.toPoint_id us) (L.toPoint_dict us) (L.toPoint_vote us)]
  rw [Lane.copyEnd, if_pos h]
  by_cases hrole : L.vote.role = .shadow <;> simp [hrole, Lane.endShadow_eq, hclean]

/-- Settles O10: the source sends, its copy is taken by role, and the shadow's cycle is judged (R65-R67, R73). -/
theorem stateCopy : Obligations.StateCopy := by
  unfold Obligations.StateCopy
  refine ⟨fun s => ⟨_, rfl, ⟨rfl, rfl, rfl⟩, fun l => ⟨fun hgo => ?_, fun hgo => ?_⟩⟩,
    fun s l p direct hp hruns hrun hover hns => ?_, fun s c h => execStateVectorReceived_of_none h,
    fun s => ⟨_, rfl, ⟨rfl, rfl, rfl⟩, fun l h => ?_, fun l h => ?_⟩⟩
  · rw [State.lane_onAll, if_pos hgo]
    simp
  · rw [State.lane_onAll, if_neg (by simp [hgo])]
  · have ht : (s.lane l).takesCopy = true := by simp [Lane.takesCopy, Lane.byPoint, hruns, hrun, hover, hns]
    refine ⟨(execStateVectorReceived_of_sender (c := { lane := l, way := { direct := direct, crcOk := false } }) hp
      ht).trans (congrArg _ (State.on_congr s l (if_neg Bool.false_ne_true))), fun hd hu ha => ?_⟩
    subst hd
    refine ⟨_, execStateVectorReceived_of_sender (c := { lane := l, way := { direct := true } }) hp ht,
      State.onlyLane_on .., ?_⟩
    rw [State.lane_on_same]
    dsimp only
    rw [if_pos rfl, hu, Lane.takeCopy_of_direct _ ha]
    have hvote : ((s.lane l).noteCopy (s.lane p).id).vote = (s.lane l).vote := Lane.onLinkTo_vote ..
    refine ⟨fun hr => ?_, fun hr hs => ?_, fun hr hs => ?_⟩
    · rw [Lane.useCopy_of_shadow _ (by rw [hvote, hr])]
      obtain ⟨hsvc, hagreed, hsources, hadopted, hgen, hrole⟩ :=
        ((s.lane l).noteCopy (s.lane p).id).adopt_takes (s.lane p)
      exact ⟨hsvc, hagreed, hsources, hadopted, by rw [hrole, hvote, hr], hgen⟩
    · rw [Lane.useCopy_of_same (by rw [hvote, hr]) (by rw [Lane.noteCopy_sameState, hs])]
      exact ⟨Lane.onLinkTo_svc .., rfl, Lane.onLinkTo_flog ..⟩
    · rw [Lane.useCopy_of_differs (by rw [hvote, hr]) (by rw [Lane.noteCopy_sameState, hs])]
      exact Lane.diverge_takes _ _
  · rw [State.lane_onAll, Lane.copyEnd_of_not_due s h]
  · obtain ⟨hsvc, hvote⟩ := Lane.copyEnd_of_due s h
    rw [State.lane_onAll, hsvc, hvote]
    refine ⟨rfl, rfl, rfl, fun hr => if_neg hr, fun hr => ?_⟩
    dsimp only
    rw [if_pos hr, BitVec.toNat_ofNat, Nat.mod_eq_of_lt ((s.lane l).cleanAfter_lt s)]
    rfl

end Sys2Proof.Machine
end

section
/-! PROOFS, slip links. -/
namespace Sys2Proof.Machine

theorem LinkG.get_set_same (g : LinkG) (k : LinkId) (v : LinkView) : (g.set k v).get k = v := by
  cases k <;> rfl

theorem LinkG.get_set_ne (g : LinkG) {j k : LinkId} (v : LinkView) (h : j ≠ k) : (g.set k v).get j = g.get j := by
  revert h
  cases j <;> cases k <;> simp [LinkG.set, LinkG.get]

@[simp] theorem Lane.onLink_get_same (L : Lane) (k : LinkId) (f : LinkView → LinkView) :
    (L.onLink k f).links.get k = f (L.links.get k) :=
  LinkG.get_set_same ..

@[simp] theorem Lane.onLink_get_ne (L : Lane) {j k : LinkId} (f : LinkView → LinkView) (h : j ≠ k) :
    (L.onLink k f).links.get j = L.links.get j :=
  LinkG.get_set_ne _ _ h

/-- A link cut in a lane's view: its fault is a record, so the view is that of the cut. -/
theorem Lane.isolateLink_links (L : Lane) (k : LinkId) : (L.isolateLink k).links = (L.cutLink k).links := by
  unfold Lane.isolateLink
  dsimp only
  split <;> simp

theorem Lane.isolateLink_last {L : Lane} {k : LinkId} (h : (L.voting && linkTouches k L.id) = true) :
    (L.isolateLink k).flog.last = BitVec.ofNat 16 (0x1201 + 0x40 * linkNum k) := by
  rw [Lane.isolateLink, if_pos h, Lane.raise_last]

/-- The third cut within 600 s bars the link (R48). -/
theorem Lane.cutLink_get (L : Lane) (k : LinkId) :
    ((L.cutLink k).links.get k).inUse = false ∧
      (2 ≤ (recent L.tb.mono 600000000000 (L.links.get k).isolTimes).length →
        ((L.cutLink k).links.get k).barred = true) := by
  rw [Lane.cutLink, Lane.onLink_get_same]
  refine ⟨rfl, fun h => ?_⟩
  simp [show 3 ≤ (recent L.tb.mono 600000000000 (L.links.get k).isolTimes).length + 1 by omega]

/-- A link that may return is in use afterwards (R48). -/
theorem Lane.returnLink_inUse {L : Lane} {k : LinkId} (hb : (L.links.get k).barred = false)
    (hc : L.obj 0x2600 8 ≤ (L.links.get k).cleanRun) : ((L.returnLink k).links.get k).inUse = true := by
  unfold Lane.returnLink
  dsimp only
  split
  next h =>
    have : ¬(L.links.get k).cleanRun < L.obj 0x2600 8 := by omega
    simpa [hb, this] using h
  · split <;> simp

theorem Lane.returnLink_get_ne (L : Lane) {j k : LinkId} (h : j ≠ k) :
    (L.returnLink k).links.get j = L.links.get j := by
  unfold Lane.returnLink
  dsimp only
  split
  · rfl
  · split <;> simp [h]

/-- Settles O12: a link goes out of use and returns in each lane's view of it (R48). -/
theorem slipLinks : Obligations.SlipLinks := by
  unfold Obligations.SlipLinks
  refine ⟨fun s k hbad hrelay => ?_, fun s k hnot => ?_, fun s k => ⟨_, rfl, ⟨rfl, rfl, rfl⟩, fun l hv hr hb hc => ?_⟩⟩
  · obtain ⟨p, hp⟩ := hbad
    have bad : (allLanes.any fun l => (s.lane l).findsBad k) = true :=
      List.any_eq_true.2 ⟨p, by cases p <;> simp [allLanes], hp⟩
    refine ⟨_, if_pos (by simp [bad, hrelay]), ⟨rfl, rfl, rfl⟩, fun l hl => ?_, fun l hl => ?_⟩
    · rw [State.lane_onAll, if_neg (by simp [hl])]
    · rw [State.lane_onAll, if_pos hl, Lane.isolateLink_links]
      obtain ⟨huse, hbar⟩ := (s.lane l).cutLink_get k
      exact ⟨huse, hbar, fun j hj => Lane.onLink_get_ne _ _ hj, ((s.lane l).isolateLink_voteKept k).2,
        Lane.isolateLink_last⟩
  · refine if_neg ?_
    obtain hnone | ⟨hrelay, hcontact⟩ := hnot
    · simp [hnone]
    · simp [hrelay, hcontact]
  · rw [State.lane_onAll, if_pos (by simp [hv, hr])]
    exact ⟨Lane.returnLink_inUse hb hc, ((s.lane l).returnLink_voteKept k).2, fun j hj => Lane.returnLink_get_ne _ hj⟩

end Sys2Proof.Machine
end

section
/-! PROOFS, overload budget, park lock and restart. -/
namespace Sys2Proof.Machine

/-! ### Overload budget -/

/-- One place of a table of sets changed. -/
theorem Tri.get_set_set {α : Type} (t : Tri (Oct α)) (l q : LaneId) (n m : Fin 8) (y : α) :
    ((t.set l ((t.get l).set n y)).get q).get m = if q = l ∧ m = n then y else (t.get q).get m := by
  by_cases hq : q = l
  · subst hq
    by_cases hm : m = n
    · subst hm; simp
    · simp [hm]
  · simp [hq]

/-! ### Park lock -/

theorem execParkLockComplete_of_parkApply {s : State} {l : LaneId} {b : Fin 8}
    (h : ((s.lane l).bridges.get b).passive = some .parkApply) :
    execParkLockComplete l b s = .next (s.on l fun L =>
      let M := L.onBr b fun br => { br with passive := some .allOff }
      if (L.bridges.get b).mode = .parkApply then M.setMode b .allOff else M) :=
  congrArg Host.Outcome.next (State.on_congr s l (if_pos h))

/-- A bridge that passes to ALL_OFF has no output on, and its passive request stands. -/
theorem Lane.setMode_allOff (L : Lane) (b : Fin 8) :
    ((L.setMode b .allOff).bridges.get b).mode = .allOff ∧
      ((L.setMode b .allOff).bridges.get b).passive = (L.bridges.get b).passive ∧
      ((L.setMode b .allOff).gates.get b).onOut = 0 := by
  simp [Lane.setMode, Lane.onBr, Lane.onGate, Bridge.quiet, modeOutputs, Lane.supplied]

theorem Lane.setMode_bridge_ne (L : Lane) {b c : Fin 8} (m : Mode) (h : c ≠ b) :
    (L.setMode b m).bridges.get c = L.bridges.get c := by
  simp [Lane.setMode, Lane.onBr, h]

/-! ### Restart -/

theorem execLaneRestart_of_ready {s : State} {l : LaneId} {r : Rails} (hw : (s.lane l).watched = true)
    (ho : (s.lane l).vote.outNow = true) (hs : (s.lane l).pwr.stuckAt = false) (hh : (s.lane l).vote.held = false)
    (hcone : (s.lane l).therm.cone = false) (hcool : (s.lane l).therm.cooling = false) (hvin : r.vinOk = true)
    (hvgd : (s.lane l).pwr.vgdBad = true → r.vgdOk = true) :
    execLaneRestart l r s = .next ((s.laneStarted l).on l Lane.restartOut) := by
  refine if_pos ?_
  cases hb : (s.lane l).pwr.vgdBad
  · simp [hw, ho, hs, hh, hcone, hcool, hvin]
  · simp [hw, ho, hs, hh, hcone, hcool, hvin, hvgd hb]

/-- A restart clears the vote group to role OUT and begins with its stop line asserted (R449). -/
theorem Lane.restartAt_pwr (L : Lane) (step kind : Nat) (keepTime wedgeOk : Bool) (owed : BitVec 16) :
    (L.restartAt step kind keepTime wedgeOk owed).pwr.state = .starting ∧
      (L.restartAt step kind keepTime wedgeOk owed).pwr.step = step ∧
      (L.restartAt step kind keepTime wedgeOk owed).pwr.stopLine = true ∧
      (L.restartAt step kind keepTime wedgeOk owed).pwr.kind = kind ∧
      (L.restartAt step kind keepTime wedgeOk owed).vote.role = .out :=
  ⟨rfl, rfl, rfl, rfl, rfl⟩

theorem Lane.restartOut_pwr (L : Lane) :
    L.restartOut.pwr.state = .starting ∧ L.restartOut.pwr.step = 4 ∧ L.restartOut.pwr.stopLine = true ∧
      L.restartOut.pwr.kind = 2 ∧ L.restartOut.vote.role = .out := by
  unfold Lane.restartOut
  dsimp only
  generalize (if codeClass L.vote.outCause.toNat = 0xB then 0xFFFF else 0 : BitVec 16) = owed
  split <;> exact L.restartAt_pwr 4 2 false false owed

/-- A lane that starts anew leaves of the others' votes all but their findings on its sources (R52). -/
theorem State.laneStarted_vote (s : State) (l p : LaneId) :
    ((s.laneStarted l).lane p).vote =
      { (s.lane p).vote with sources := (s.lane p).vote.sources.filter fun x => x.lane != l } := by
  rw [State.laneStarted, State.lane_onAll]
  exact (Lane.foldl_voteKept (fun M k => by split <;> simp) allLinks _).2

/-- Settles O13: the budget limits one set, the park lock one bridge, and the restart begins at step 4 (R77, R449). -/
theorem budgetParkRestart : Obligations.BudgetParkRestart := by
  unfold Obligations.BudgetParkRestart
  refine ⟨fun s l n => ⟨_, rfl, ⟨rfl, rfl, rfl⟩, fun p hp => ?_, fun p hp => ?_⟩, fun s l b hb hm => ?_,
    fun s l b hb hm => ⟨_, execParkLockComplete_of_parkApply hb, State.onlyLane_on .., ?_⟩, fun s l b hb => ?_,
    fun s l hw ho hs hh hcone hcool vgdOk hvgd => ?_, fun s l r hnot => ?_⟩
  · rw [State.lane_onAll, if_neg (by simp [hp])]
  · rw [State.lane_onAll, if_pos hp]
    refine ⟨(Tri.get_set_set ..).trans (if_pos ⟨rfl, rfl⟩), fun q m hqm => ?_, rfl, rfl⟩
    exact (Tri.get_set_set ..).trans (if_neg fun h => hqm.elim (absurd h.1) (absurd h.2))
  · exact (execParkLockComplete_of_parkApply hb).trans (congrArg _ (State.on_congr s l (if_neg hm)))
  · rw [State.lane_on_same]
    dsimp only
    rw [if_pos hm]
    obtain ⟨hmode, hpassive, hout⟩ :=
      ((s.lane l).onBr b fun br => { br with passive := some .allOff }).setMode_allOff b
    refine ⟨hmode, hpassive.trans (by simp [Lane.onBr]), hout, fun c hc => ?_⟩
    rw [Lane.setMode_bridge_ne _ _ hc]
    simp [Lane.onBr, hc]
  · exact congrArg Host.Outcome.next (State.on_id s l (if_neg hb))
  · refine ⟨_, execLaneRestart_of_ready hw ho hs hh hcone hcool rfl hvgd, ⟨rfl, rfl, rfl⟩, ?_⟩
    obtain ⟨hstate, hstep, hstop, hkind, hrole⟩ := ((s.laneStarted l).lane l).restartOut_pwr
    rw [State.lane_on_same]
    refine ⟨hstate, hstep, hstop, hkind, hrole, fun p hp => ?_⟩
    rw [State.lane_on_ne _ _ hp, State.laneStarted_vote]
  · refine if_neg ?_
    obtain h | h | h := hnot <;> simp [h]

end Sys2Proof.Machine
end

section
/-! PROOFS, compare and apply. -/
namespace Sys2Proof.Machine

/-! ### What settling the bridges leaves -/

/-- Time, power, queued actions and the setpoints of every bridge stay. -/
structure Lane.SetpointsKept (L M : Lane) : Prop where
  tb : M.tb = L.tb
  pwr : M.pwr = L.pwr
  ta : M.ta = L.ta
  released : ∀ b, (M.bridges.get b).spReleased = (L.bridges.get b).spReleased
  pending : ∀ b, (M.bridges.get b).spPending = (L.bridges.get b).spPending
  valid : ∀ b, (M.bridges.get b).validFrom = (L.bridges.get b).validFrom

theorem Lane.SetpointsKept.refl (L : Lane) : L.SetpointsKept L :=
  ⟨rfl, rfl, rfl, fun _ => rfl, fun _ => rfl, fun _ => rfl⟩

theorem Lane.SetpointsKept.trans {L M N : Lane} (h : L.SetpointsKept M) (h' : M.SetpointsKept N) :
    L.SetpointsKept N :=
  ⟨h'.tb.trans h.tb, h'.pwr.trans h.pwr, h'.ta.trans h.ta, fun b => (h'.released b).trans (h.released b),
    fun b => (h'.pending b).trans (h.pending b), fun b => (h'.valid b).trans (h.valid b)⟩

theorem Lane.foldl_setpointsKept {α : Type} {f : Lane → α → Lane} (h : ∀ (M : Lane) x, M.SetpointsKept (f M x))
    (l : List α) (L : Lane) : L.SetpointsKept (l.foldl f L) :=
  List.foldlRecOn l f (motive := L.SetpointsKept) (.refl L) fun M hM x _ => hM.trans (h M x)

theorem Lane.onBr_setpointsKept (L : Lane) (b : Fin 8) {f : Bridge → Bridge}
    (h : ∀ x : Bridge,
      (f x).spReleased = x.spReleased ∧ (f x).spPending = x.spPending ∧ (f x).validFrom = x.validFrom) :
    L.SetpointsKept (L.onBr b f) := by
  have kept (c : Fin 8) : ((L.onBr b f).bridges.get c) = if c = b then f (L.bridges.get c) else L.bridges.get c := by
    by_cases hc : c = b
    · subst hc; simp [Lane.onBr]
    · simp [Lane.onBr, hc]
  refine ⟨rfl, rfl, rfl, fun c => ?_, fun c => ?_, fun c => ?_⟩
  all_goals
    obtain ⟨hr, hp, hv⟩ := h (L.bridges.get c)
    rw [kept]
    split <;> simp only [hr, hp, hv]

theorem Lane.onGate_setpointsKept (L : Lane) (b : Fin 8) (f : Gate → Gate) : L.SetpointsKept (L.onGate b f) :=
  ⟨rfl, rfl, rfl, fun _ => rfl, fun _ => rfl, fun _ => rfl⟩

theorem Lane.raise_setpointsKept (L : Lane) (code level detId detVal : Nat) :
    L.SetpointsKept (L.raise code level detId detVal) :=
  ⟨rfl, rfl, rfl, fun _ => rfl, fun _ => rfl, fun _ => rfl⟩

theorem Lane.setMode_setpointsKept (L : Lane) (b : Fin 8) (m : Mode) : L.SetpointsKept (L.setMode b m) := by
  unfold Lane.setMode
  exact (L.onBr_setpointsKept b (f := fun br => { br.quiet with
    mode := m, offsOk := if m = .disabled then false else br.offsOk
    vectors := if m = .pulsedShort then pulsedVectors else [] }) fun _ => ⟨rfl, rfl, rfl⟩).trans
    (Lane.onGate_setpointsKept ..)

theorem Lane.abortTest_setpointsKept (L : Lane) (b : Fin 8) : L.SetpointsKept (L.abortTest b) := by
  unfold Lane.abortTest
  dsimp only
  split
  · exact (L.onGate_setpointsKept b _).trans (Lane.raise_setpointsKept ..)
  · exact .refl L

theorem Lane.settle_setpointsKept (L : Lane) (b : Fin 8) : L.SetpointsKept (L.settle b) := by
  unfold Lane.settle
  obtain ⟨rank, m⟩ := L.wanted b
  dsimp only
  have aborted :
      L.SetpointsKept (if m ≠ .disabled ∧ (m ≠ (L.bridges.get b).mode ∨ rank = 2) then L.abortTest b else L) := by
    split
    · exact L.abortTest_setpointsKept b
    · exact .refl L
  have precharged (M : Lane) : M.SetpointsKept (M.setPrecharge b) := by
    unfold Lane.setPrecharge
    exact M.onGate_setpointsKept ..
  split
  · exact aborted.trans (precharged _)
  · split
    · exact (aborted.trans (Lane.setMode_setpointsKept ..)).trans (precharged _)
    · exact aborted.trans (precharged _)

theorem Lane.settleAll_setpointsKept (L : Lane) : L.SetpointsKept L.settleAll :=
  Lane.foldl_setpointsKept Lane.settle_setpointsKept fin8 L

theorem Lane.lostPassive_setpointsKept (L : Lane) : L.SetpointsKept L.lostPassive := by
  have passive (M : Lane) (b : Fin 8) (p : Option Mode) :
      M.SetpointsKept (M.onBr b fun br => { br with passive := p }) :=
    M.onBr_setpointsKept b fun _ => ⟨rfl, rfl, rfl⟩
  unfold Lane.lostPassive
  split
  · exact .refl L
  · dsimp only
    split
    · exact .refl L
    · refine (Lane.foldl_setpointsKept (fun M b => ?_) fin8 L).trans (Lane.settleAll_setpointsKept _)
      split
      · split
        · split
          · exact .refl M
          · exact passive M b _
        · exact passive M b _
      · exact .refl M

theorem Lane.enterPassive_setpointsKept (L : Lane) : L.SetpointsKept L.enterPassive := by
  unfold Lane.enterPassive
  split
  · exact .refl L
  · refine (Lane.foldl_setpointsKept (fun M b => ?_) fin8 L).trans (Lane.settleAll_setpointsKept _)
    split
    · split
      · exact .refl M
      · exact M.onBr_setpointsKept b fun _ => ⟨rfl, rfl, rfl⟩
    · exact .refl M

/-! ### Apply in one lane -/

theorem Lane.tApply_congr {L M : Lane} (hid : M.id = L.id) (hdict : M.dict = L.dict) (hnet : M.net = L.net) :
    M.tApply = L.tApply := by
  unfold Lane.tApply Lane.point Lane.pointsFail Lane.tVote
  rw [Lane.obj_congr hid hdict, hid, hnet]

/-- The stop line released where it was due (R74). -/
def Lane.releaseDue (L : Lane) : Lane :=
  if L.vote.relAtApply then
    ({ L with vote := { L.vote with relAtApply := false }, pwr := { L.pwr with stopLine := false } } : Lane).settleAll
  else L

/-- What tAPPLY does after the due apply actions: release, lost actuators, the PASSIVE of an exit (R64, R74, R438). -/
def Lane.afterApplies (L : Lane) : Lane :=
  let M := ({ L.releaseDue with dict := { L.releaseDue.dict with held := [] } } : Lane).lostPassive
  if M.pwr.exitPassive && M.vote.role.drives then
    ({ M with vote := { M.vote with role := .shadow, clean := 0 } } : Lane).enterPassive
  else M

theorem Lane.apply_of_not_runs {L : Lane} (h : (L.alive && L.vote.running) = false) : L.apply = L :=
  if_neg (by simp [h])

theorem Lane.apply_of_runs {L : Lane} (ha : L.alive = true) (hr : L.vote.running = true) :
    L.apply = (L.toPoint L.tApply).runApplies.afterApplies := by
  rw [Lane.apply, if_pos (by simp [ha, hr])]
  rfl

theorem Lane.runApplies_of_nil {L : Lane} (h : L.ta.entries = []) : L.runApplies = L := by
  simp [Lane.runApplies, h]

/-- The lane with no action queued. -/
def Lane.emptied (L : Lane) : Lane := { L with ta := { L.ta with entries := [] } }

/-- The one apply action that is due releases every pending setpoint and leaves the queue (R127). -/
theorem Lane.runApplies_of_due {L : Lane} {e : TaEntry} (h : L.ta.entries = [e]) (hk : e.kind = 0)
    (ho : e.owner = none) (hl : e.late = false) (hd : e.dueNs ≤ L.tb.ns) :
    L.runApplies = L.emptied.releaseSetpoints := by
  have now : L.advance e.dueNs = L := if_neg (by omega)
  have due : (L.ta.entries.filter fun x => x.kind == 0 && decide (x.dueNs ≤ L.tb.ns)) = [e] := by simp [h, hk, hd]
  rw [Lane.runApplies, due, List.foldl_cons, List.foldl_nil, Lane.taRun, now]
  simp [h, Lane.taAct, hk, hl, ho, Lane.emptied]

/-- A pending setpoint is released, valid from tAPPLY (R127). -/
theorem Lane.releaseSetpoints_get {L : Lane} {b : Fin 8} {v : Rat} (h : (L.bridges.get b).spPending = some v) :
    (L.releaseSetpoints.bridges.get b).spReleased = v ∧ (L.releaseSetpoints.bridges.get b).spPending = none ∧
      (L.releaseSetpoints.bridges.get b).validFrom = L.vote.startNs + L.tApply * 1000 := by
  simp [Lane.releaseSetpoints, h]

/-- After the apply actions power alone may change of time, power, queue and setpoints. -/
theorem Lane.exists_afterApplies (L : Lane) : ∃ p, ({ L with pwr := p } : Lane).SetpointsKept L.afterApplies := by
  have released : ∃ p, ({ L with pwr := p } : Lane).SetpointsKept L.releaseDue := by
    unfold Lane.releaseDue
    split
    · obtain ⟨htb, hpwr, hta, hr, hp, hv⟩ := ({ L with
        vote := { L.vote with relAtApply := false }, pwr := { L.pwr with stopLine := false } } :
          Lane).settleAll_setpointsKept
      exact ⟨_, htb, hpwr, hta, hr, hp, hv⟩
    · exact ⟨L.pwr, .refl L⟩
  obtain ⟨p, hrel⟩ := released
  have noted : L.releaseDue.SetpointsKept { L.releaseDue with dict := { L.releaseDue.dict with held := [] } } :=
    ⟨rfl, rfl, rfl, fun _ => rfl, fun _ => rfl, fun _ => rfl⟩
  have lost := (hrel.trans noted).trans (Lane.lostPassive_setpointsKept _)
  refine ⟨p, ?_⟩
  unfold Lane.afterApplies
  dsimp only
  split
  · have shadow (M : Lane) (v : VoteG) : M.SetpointsKept { M with vote := v } :=
      ⟨rfl, rfl, rfl, fun _ => rfl, fun _ => rfl, fun _ => rfl⟩
    exact (lost.trans (shadow _ _)).trans (Lane.enterPassive_setpointsKept _)
  · exact lost

/-- A stop line due to release is released, the lane's role as before (R74). -/
theorem Lane.afterApplies_of_release {L : Lane} (h : L.vote.relAtApply = true) (he : L.pwr.exitPassive = false) :
    L.afterApplies.pwr = { L.pwr with stopLine := false } ∧
      L.afterApplies.vote = { L.vote with relAtApply := false } := by
  have hpwr : L.releaseDue.pwr = { L.pwr with stopLine := false } := by
    rw [Lane.releaseDue, if_pos h]
    exact (Lane.settleAll_setpointsKept _).pwr
  have hvote : L.releaseDue.vote = { L.vote with relAtApply := false } := by
    rw [Lane.releaseDue, if_pos h]
    exact (Lane.settleAll_voteKept _).2
  have lostPwr := (Lane.lostPassive_setpointsKept
    { L.releaseDue with dict := { L.releaseDue.dict with held := [] } }).pwr.trans hpwr
  have lostVote := (Lane.lostPassive_voteKept
    { L.releaseDue with dict := { L.releaseDue.dict with held := [] } }).2.trans hvote
  rw [Lane.afterApplies, if_neg (by simp [lostPwr, he])]
  exact ⟨lostPwr, lostVote⟩

/-- With no release due, no exit to PASSIVE and no drive, nothing but the held writes changes. -/
theorem Lane.afterApplies_of_nothing {L : Lane} (h : L.vote.relAtApply = false) (he : L.pwr.exitPassive = false)
    (hd : L.vote.role.drives = false) : L.afterApplies = { L with dict := { L.dict with held := [] } } := by
  simp [Lane.afterApplies, Lane.releaseDue, Lane.lostPassive, h, he, hd]

section
variable {L : Lane} (ha : L.alive = true) (hr : L.vote.running = true)
include ha hr

theorem Lane.apply_ns (he : L.ta.entries = []) : L.apply.tb.ns = max L.tb.ns (L.vote.startNs + L.tApply * 1000) := by
  rw [Lane.apply_of_runs ha hr, Lane.runApplies_of_nil (by simpa using he)]
  obtain ⟨p, kept⟩ := (L.toPoint L.tApply).exists_afterApplies
  exact (congrArg TimeBase.ns kept.tb).trans (Lane.toPoint_ns _ _)

theorem Lane.apply_of_release (he : L.ta.entries = []) (hrel : L.vote.relAtApply = true)
    (hex : L.pwr.exitPassive = false) :
    L.apply.pwr.stopLine = false ∧ L.apply.vote.relAtApply = false ∧ L.apply.vote.role = L.vote.role := by
  rw [Lane.apply_of_runs ha hr, Lane.runApplies_of_nil (by simpa using he)]
  obtain ⟨hpwr, hvote⟩ := Lane.afterApplies_of_release (L := L.toPoint L.tApply) (by simpa using hrel)
    (by simpa using hex)
  simp [hpwr, hvote]

/-- The queued apply action released at tAPPLY (R64, R127). -/
theorem Lane.apply_of_due {e : TaEntry} (he : L.ta.entries = [e]) (hk : e.kind = 0) (ho : e.owner = none)
    (hl : e.late = false) (hd : e.dueNs ≤ L.vote.startNs + L.tApply * 1000) :
    L.apply.ta.entries = [] ∧ ∀ b v, (L.bridges.get b).spPending = some v →
      (L.apply.bridges.get b).spReleased = v ∧ (L.apply.bridges.get b).spPending = none ∧
      (L.apply.bridges.get b).validFrom = L.vote.startNs + L.tApply * 1000 := by
  have now : e.dueNs ≤ (L.toPoint L.tApply).tb.ns := by rw [Lane.toPoint_ns]; omega
  have hbridges : (L.toPoint L.tApply).emptied.bridges = L.bridges := Lane.toPoint_bridges ..
  have hvote : (L.toPoint L.tApply).emptied.vote = L.vote := Lane.toPoint_vote ..
  have hpoint : (L.toPoint L.tApply).emptied.tApply = L.tApply :=
    Lane.tApply_congr (Lane.toPoint_id ..) (Lane.toPoint_dict ..) (Lane.toPoint_net ..)
  rw [Lane.apply_of_runs ha hr, Lane.runApplies_of_due (by simpa using he) hk ho hl now]
  obtain ⟨p, kept⟩ := (L.toPoint L.tApply).emptied.releaseSetpoints.exists_afterApplies
  refine ⟨congrArg Ta.entries kept.ta, fun b v hv => ?_⟩
  obtain ⟨hreleased, hpending, hvalid⟩ := Lane.releaseSetpoints_get (hbridges ▸ hv)
  rw [hvote, hpoint] at hvalid
  exact ⟨(kept.released b).trans hreleased, (kept.pending b).trans hpending, (kept.valid b).trans hvalid⟩

theorem Lane.apply_of_nothing (he : L.ta.entries = []) (hrel : L.vote.relAtApply = false)
    (hex : L.pwr.exitPassive = false) (hd : L.vote.role.drives = false) :
    L.apply.pwr = L.pwr ∧ L.apply.bridges = L.bridges ∧ L.apply.gates = L.gates := by
  rw [Lane.apply_of_runs ha hr, Lane.runApplies_of_nil (by simpa using he),
    Lane.afterApplies_of_nothing (by simpa using hrel) (by simpa using hex) (by simpa using hd)]
  simp

end

/-- The views at the compare and at apply touch what a running lane knows of drivers and lead alone. -/
theorem State.exists_viewsNow_lane (s : State) (l : LaneId) : ∃ drivers silent lead,
    s.viewsNow.lane l = { s.lane l with vote := { (s.lane l).vote with
      drivers := drivers, silent := silent, lead := lead } } := by
  rw [State.viewsNow, State.lane_onAll]
  split
  · exact ⟨_, _, _, rfl⟩
  · exact ⟨_, _, _, rfl⟩

theorem State.viewsNow_lane_of_not_running {s : State} {l : LaneId} (h : (s.lane l).vote.running = false) :
    s.viewsNow.lane l = s.lane l := by
  rw [State.viewsNow, State.lane_onAll, if_neg (by simp [h])]

/-! ### The compare in one lane -/

/-- The lane with the monitor's finding on its own outputs (R58). -/
def Lane.flagged (L : Lane) (flag : Bool) : Lane :=
  { L with vote := { L.vote with selfFlag := flag, selfFlags := L.vote.selfFlags.set L.id flag } }

theorem Lane.toPoint_flagged (L : Lane) (us : Nat) (flag : Bool) :
    (L.toPoint us).flagged flag = { L.toPoint us with vote := (L.flagged flag).vote } := by
  simp [Lane.flagged]

theorem Lane.toPoint_flagged_vote (L : Lane) (us : Nat) (flag : Bool) :
    ((L.toPoint us).flagged flag).vote = (L.flagged flag).vote := by
  simp [Lane.flagged]

theorem Lane.compareDrivers_congr {L M : Lane} (h : M.vote = L.vote) (s : State) :
    M.compareDrivers s = L.compareDrivers s := by
  rw [Lane.compareDrivers, Lane.compareDrivers, h]

theorem Lane.decide_congr {L M : Lane} (h : M.vote = L.vote) (s : State) (ds : List LaneId) :
    M.decide_ s ds = L.decide_ s ds := by
  rw [Lane.decide_, Lane.decide_, h]

theorem Lane.compare_of_not_runs {L : Lane} (s : State) (flag : Bool) (h : L.vote.running = false) :
    L.compare s flag = L :=
  if_neg (by simp [h])

theorem Lane.missReaction_of_none_due {L : Lane} (h : L.vote.missOut = false) : L.missReaction = L :=
  if_neg (by simp [h])

/-- The judgement of a shadow's cycle touches its count of clean cycles alone. -/
theorem Lane.exists_judgeShadow (L : Lane) (ref : Option OutSet) : ∃ dirty clean,
    L.judgeShadow ref = { L with vote := { L.vote with dirty := dirty, clean := clean } } := by
  unfold Lane.judgeShadow
  dsimp only
  (repeat' split) <;> exact ⟨_, _, rfl⟩

/-- What follows the decision: a shadow's cycle is judged, a lane-out by R57 that is due takes place. -/
def Lane.afterDecision (L : Lane) : Lane := (L.judgeShadow L.vote.agreedOut).missReaction

theorem Lane.exists_afterDecision {L : Lane} (h : L.vote.missOut = false) : ∃ dirty clean,
    L.afterDecision = { L with vote := { L.vote with dirty := dirty, clean := clean } } := by
  obtain ⟨dirty, clean, hshadow⟩ := L.exists_judgeShadow L.vote.agreedOut
  refine ⟨dirty, clean, ?_⟩
  rw [Lane.afterDecision, hshadow]
  exact Lane.missReaction_of_none_due h

section
variable {L : Lane} {s : State} {flag : Bool} (ha : L.alive = true) (hv : L.voting = true)
  (hr : L.vote.running = true) (hds : L.compareDrivers s ≠ [])
  (hsplit : (flag && L.vote.split && L.vote.role.drives) = false)
include ha hv hr hds hsplit

/-- A lane that sees drivers and finds no fault in itself decides by the procedure of R59. -/
theorem Lane.compare_eq_decision :
    L.compare s flag =
      (((L.toPoint L.tComp).flagged flag).decision
        ((L.flagged flag).decide_ s (L.compareDrivers s))).afterDecision := by
  have hvote := L.toPoint_flagged_vote L.tComp flag
  have drivers : ((L.toPoint L.tComp).flagged flag).compareDrivers s = L.compareDrivers s :=
    (Lane.compareDrivers_congr hvote s).trans rfl
  have noSplit : ¬(flag && ((L.toPoint L.tComp).flagged flag).vote.split &&
      ((L.toPoint L.tComp).flagged flag).vote.role.drives) = true := by
    rw [hvote]
    exact Bool.eq_false_iff.1 hsplit
  rw [Lane.compare, if_pos (by simp [ha, hv, hr]), ← Lane.decide_congr hvote, ← drivers]
  exact (if_neg (drivers ▸ hds)).trans (if_neg noSplit)

/-- An agreed output with nobody outvoted is held, with the finding on the lane's own (R59, R64). -/
theorem Lane.exists_compare_of_agreed {x : OutSet} (hm : L.vote.missOut = false)
    (hd : (L.flagged flag).decide_ s (L.compareDrivers s) = .agreed x none false) : ∃ dirty clean,
    L.compare s flag = { L.toPoint L.tComp with
      vote := { (L.flagged flag).vote.runs (.agreed x none false) with dirty := dirty, clean := clean } } := by
  have decided : ((L.toPoint L.tComp).flagged flag).decision (.agreed x none false) =
      { L.toPoint L.tComp with vote := (L.flagged flag).vote.runs (.agreed x none false) } := by
    rw [Lane.toPoint_flagged]; rfl
  rw [Lane.compare_eq_decision ha hv hr hds hsplit, hd, decided]
  exact Lane.exists_afterDecision (by exact hm)

/-- A lane that the decision outvotes is OUT, its stop line asserted (R59). -/
theorem Lane.compare_of_outvoted {x : OutSet} (hm : L.vote.missOut = false) (hout : L.vote.outNow = false)
    (hd : (L.flagged flag).decide_ s (L.compareDrivers s) = .agreed x (some L.id) false) :
    (L.compare s flag).vote.role = .out ∧ (L.compare s flag).vote.outNow = true ∧
      (L.compare s flag).pwr.stopLine = true ∧ (L.compare s flag).vote.running = false := by
  have outvoted : ((L.toPoint L.tComp).flagged flag).decision (.agreed x (some L.id) false) =
      ({ L.toPoint L.tComp with vote := (L.flagged flag).vote.runs (.agreed x (some L.id) false) } : Lane).laneOut
        (0x1001 + 0x40 * L.id.num) := by
    rw [Lane.toPoint_flagged]
    simp [Lane.decision, Lane.outvote]
  rw [Lane.compare_eq_decision ha hv hr hds hsplit, hd, outvoted, Lane.laneOut]
  generalize hN : ({ L.toPoint L.tComp with
    vote := (L.flagged flag).vote.runs (.agreed x (some L.id) false) } : Lane).raise
      (0x1001 + 0x40 * L.id.num) 3 0 0 = N
  have first : N.vote.outNow = false := by rw [← hN]; exact hout
  have noMiss : N.vote.missOut = false := by rw [← hN]; exact hm
  obtain ⟨dirty, clean, hafter⟩ := Lane.exists_afterDecision (L := N.goOut (0x1001 + 0x40 * L.id.num))
    (by rw [Lane.goOut_vote first]; exact noMiss)
  rw [hafter, Lane.goOut_vote first, Lane.goOut_pwr first]
  exact ⟨rfl, rfl, rfl, rfl⟩

end

/-! ### Lead and views after the compare -/

/-- The succession at the compare touches the role of a driver alone (R69). -/
theorem State.exists_succeed_lane (s : State) (l : LaneId) : ∃ r,
    s.succeed.lane l = { s.lane l with vote := { (s.lane l).vote with role := r } } ∧
      (r = (s.lane l).vote.role ∨ (s.lane l).vote.role.drives = true ∧ r = .lead) := by
  have same : ∃ r, s.lane l = { s.lane l with vote := { (s.lane l).vote with role := r } } ∧
      (r = (s.lane l).vote.role ∨ (s.lane l).vote.role.drives = true ∧ r = .lead) := ⟨_, rfl, .inl rfl⟩
  unfold State.succeed
  split
  · exact same
  · dsimp only
    split
    · exact same
    · split
      next p hp =>
        by_cases hl : l = p
        · subst hl
          have among : l ∈ allLanes.filter s.drives := by simpa using List.find?_some hp
          exact ⟨.lead, State.lane_on_same .., .inr ⟨(List.mem_filter.1 among).2, rfl⟩⟩
        · rw [State.lane_on_ne _ _ hl]
          exact same
      · exact same

theorem State.succeed_lanesOnly (s : State) : LanesOnly s s.succeed := by
  unfold State.succeed
  dsimp only
  (repeat' split) <;> exact ⟨rfl, rfl, rfl⟩

/-- A lane after the compare, before its setpoints are handed over: a driver may have become the lead. -/
theorem State.exists_compared_lane (s : State) (l : LaneId) : ∃ r drivers silent lead,
    s.succeed.viewsNow.lane l = { s.lane l with vote := { (s.lane l).vote with
      role := r, drivers := drivers, silent := silent, lead := lead } } ∧
      (r = (s.lane l).vote.role ∨ (s.lane l).vote.role.drives = true ∧ r = .lead) := by
  obtain ⟨r, hrole, hr⟩ := s.exists_succeed_lane l
  obtain ⟨drivers, silent, lead, hviews⟩ := s.succeed.exists_viewsNow_lane l
  rw [hrole] at hviews
  exact ⟨r, drivers, silent, lead, hviews, hr⟩

/-! ### Setpoints handed over -/

/-- The controlled stop touches the services' state alone. -/
theorem Lane.exists_judgeStop (L : Lane) : ∃ v, L.judgeStop = { L with svc := v } := by
  unfold Lane.judgeStop Lane.stopFor
  dsimp only
  (repeat' split) <;> exact ⟨_, rfl⟩

theorem mem_fin8 (b : Fin 8) : b ∈ fin8 := by
  revert b
  decide

/-- The lane's bridges with an actuator, each with it. -/
def Lane.ownBridges (L : Lane) : List (Fin 8 × Fin 8) := fin8.filterMap fun b => (L.actOf b).map fun n => (b, n)

theorem Lane.mem_ownBridges {L : Lane} {b n : Fin 8} : (b, n) ∈ L.ownBridges ↔ L.actOf b = some n := by
  simp only [Lane.ownBridges, List.mem_filterMap, Option.map_eq_some_iff, Prod.mk.injEq]
  exact ⟨fun ⟨c, _, m, hm, hc, hn⟩ => by rw [← hc, hm, hn],
    fun h => ⟨b, mem_fin8 b, n, h, rfl, rfl⟩⟩

/-- Setpoints put into the pending slots: each listed bridge has the setpoint of its actuator. -/
theorem Lane.foldl_spPending {q : Fin 8 → Rat} {l : List (Fin 8 × Fin 8)} {b n : Fin 8}
    (hone : ∀ m, (b, m) ∈ l → m = n) (L : Lane)
    (h : (b, n) ∈ l ∨ (L.bridges.get b).spPending = some (q n)) :
    (((l.foldl (fun M x => M.onBr x.1 fun br => { br with spPending := some (q x.2) }) L).bridges.get b).spPending) =
      some (q n) := by
  induction l generalizing L with
  | nil => simpa using h
  | cons x xs ih =>
    refine ih (fun m hm => hone m (List.mem_cons_of_mem _ hm)) _ ?_
    by_cases hx : x.1 = b
    · have hn : x.2 = n := hone x.2 (by rw [← hx]; exact List.mem_cons_self)
      exact .inr (by rw [← hx, ← hn]; simp [Lane.onBr])
    · obtain hmem | hset := h
      · obtain rfl | hmem := List.mem_cons.1 hmem
        · exact absurd rfl hx
        · exact .inl hmem
      · exact .inr (by simpa [Lane.onBr, Ne.symm hx] using hset)

theorem Lane.handSetpoints_of_not_drives {L : Lane} (h : L.vote.role.drives = false) : L.handSetpoints = L := by
  simp [Lane.handSetpoints, h]

/-- The apply action of a cycle: due 10 microseconds before tAPPLY, of no master (R127, R128). -/
def Lane.applyAction (L : Lane) (k : Nat) : TaEntry :=
  { slot := k, kind := 0, dueNs := L.vote.startNs + L.tApply * 1000 - 10000, owner := none }

/-- The agreed setpoints in the pending slots of the lane's bridges (R126). -/
def Lane.withPending (L : Lane) (o : OutSet) : Lane :=
  L.ownBridges.foldl (fun M x => M.onBr x.1 fun br => { br with spPending := some ((o.iq.get L.id).get x.2) }) L

theorem Lane.withPending_ta (L : Lane) (o : OutSet) : (L.withPending o).ta = L.ta :=
  List.foldlRecOn L.ownBridges _ (motive := fun M : Lane => M.ta = L.ta) rfl fun _ hM _ _ => hM

theorem Lane.withPending_get {L : Lane} {b n : Fin 8} (o : OutSet) (h : L.actOf b = some n) :
    ((L.withPending o).bridges.get b).spPending = some ((o.iq.get L.id).get n) :=
  Lane.foldl_spPending (q := fun n => (o.iq.get L.id).get n)
    (fun _ hm => Option.some.inj ((Lane.mem_ownBridges.1 hm).symm.trans h)) L (.inl (Lane.mem_ownBridges.2 h))

/-- A driver with an agreed output queues its apply action and hands each bridge its setpoint (R126-R128). -/
theorem Lane.handSetpoints_of_agreed {L : Lane} {o : OutSet} {k : Nat} (hd : L.vote.role.drives = true)
    (ho : L.vote.agreedOut = some o) (hk : L.ta.freeSlot 88 8 = some k)
    (hns : L.tb.ns ≤ L.vote.startNs + L.tApply * 1000 - 10000) :
    L.handSetpoints = { L.withPending o with
      ta := { (L.withPending o).ta with entries := (L.withPending o).ta.entries ++ [L.applyAction k] } } := by
  simp [Lane.handSetpoints, hd, ho, hk, hns, Lane.withPending, Lane.ownBridges, Lane.applyAction]


/-! ### OUTPUT_COMPARE -/

/-- The last part of the compare in one lane: the stop is judged and the setpoints are handed over. -/
def Lane.handOver (L : Lane) : Lane := if L.alive && L.vote.running then L.judgeStop.handSetpoints else L

/-- Every lane after its own compare. -/
def State.compared (s : State) (flags : Tri Bool) : State := s.onAll fun L => L.compare s (flags.get L.id)

theorem execOutputCompare_eq (flags : Tri Bool) (s : State) :
    execOutputCompare flags s = .next ((s.compared flags).succeed.viewsNow.onAll Lane.handOver) := rfl

theorem State.outputCompare_lanesOnly (s : State) (flags : Tri Bool) :
    LanesOnly s ((s.compared flags).succeed.viewsNow.onAll Lane.handOver) := by
  obtain ⟨hpub, hpending, hfree⟩ := (s.compared flags).succeed_lanesOnly
  exact ⟨hpub, hpending, hfree⟩

@[simp] theorem State.lane_compared (s : State) (flags : Tri Bool) (l : LaneId) :
    (s.compared flags).lane l = (s.lane l).compare s (flags.get (s.lane l).id) :=
  State.lane_onAll ..

theorem Lane.handOver_of_not_running {L : Lane} (h : L.vote.running = false) : L.handOver = L :=
  if_neg (by simp [h])

/-- A lane that does not run after its compare keeps what the compare left, unless it drives. -/
theorem State.handOver_of_not_running {s : State} {l : LaneId} (hr : (s.lane l).vote.running = false)
    (hd : (s.lane l).vote.role.drives = false) :
    (s.succeed.viewsNow.onAll Lane.handOver).lane l = s.lane l := by
  have stays : s.succeed.lane l = s.lane l := by
    obtain ⟨r, hrole, rfl | ⟨hdrives, -⟩⟩ := s.exists_succeed_lane l
    · exact hrole
    · rw [hd] at hdrives; cases hdrives
  rw [State.lane_onAll, State.viewsNow_lane_of_not_running (by rw [stays, hr]), stays, Lane.handOver_of_not_running hr]

/-- What lane `L` is after it agreed on `x`, before its setpoints are handed over. -/
structure Lane.AgreedOn (L : Lane) (x : OutSet) (flag : Bool) (M : Lane) : Prop where
  id : M.id = L.id
  dict : M.dict = L.dict
  net : M.net = L.net
  ta : M.ta = L.ta
  bridges : M.bridges = L.bridges
  gates : M.gates = L.gates
  ns : M.tb.ns = max L.tb.ns (L.vote.startNs + L.tComp * 1000)
  startNs : M.vote.startNs = L.vote.startNs
  agreedOut : M.vote.agreedOut = some x
  selfFlag : M.vote.selfFlag = flag
  role : M.vote.role = L.vote.role ∨ L.vote.role.drives = true ∧ M.vote.role = .lead

theorem Lane.AgreedOn.drives {L M : Lane} {x : OutSet} {flag : Bool} (h : L.AgreedOn x flag M) :
    M.vote.role.drives = L.vote.role.drives := by
  obtain hrole | ⟨hdrives, hrole⟩ := h.role
  · rw [hrole]
  · rw [hrole, hdrives]; rfl

theorem Lane.AgreedOn.actOf {L M : Lane} {x : OutSet} {flag : Bool} (h : L.AgreedOn x flag M) (b : Fin 8) :
    M.actOf b = L.actOf b := by
  unfold Lane.actOf Lane.bridgeOf
  rw [Lane.obj_congr h.id h.dict, h.id]

/-- A driver hands over the agreed setpoints in its own queue and bridges (R126-R128). -/
theorem Lane.AgreedOn.handSetpoints {L M : Lane} {x : OutSet} {flag : Bool} (h : L.AgreedOn x flag M)
    (hd : L.vote.role.drives = true) {k : Nat} (hk : L.ta.freeSlot 88 8 = some k)
    (hns : max L.tb.ns (L.vote.startNs + L.tComp * 1000) ≤ L.vote.startNs + L.tApply * 1000 - 10000) :
    M.handSetpoints.ta.entries = L.ta.entries ++ [L.applyAction k] ∧
      ∀ b n, L.actOf b = some n → (M.handSetpoints.bridges.get b).spPending = some ((x.iq.get L.id).get n) := by
  have hpoint := Lane.tApply_congr h.id h.dict h.net
  have hdue : M.vote.startNs + M.tApply * 1000 - 10000 = L.vote.startNs + L.tApply * 1000 - 10000 := by
    rw [hpoint, h.startNs]
  rw [Lane.handSetpoints_of_agreed (h.drives.trans hd) h.agreedOut (by rw [h.ta, hk]) (by rw [h.ns, hdue]; exact hns)]
  refine ⟨?_, fun b n hb => ?_⟩
  · simp only [Lane.withPending_ta, h.ta, Lane.applyAction, hdue]
  · rw [← h.id]
    exact Lane.withPending_get x ((h.actOf b).trans hb)

theorem State.exists_agreedOn {s : State} {flags : Tri Bool} {l : LaneId} {x : OutSet}
    (ha : (s.lane l).alive = true) (hv : (s.lane l).voting = true) (hr : (s.lane l).vote.running = true)
    (hm : (s.lane l).vote.missOut = false) (hds : (s.lane l).compareDrivers s ≠ [])
    (hsplit : (flags.get (s.lane l).id && (s.lane l).vote.split && (s.lane l).vote.role.drives) = false)
    (hd : ((s.lane l).flagged (flags.get (s.lane l).id)).decide_ s ((s.lane l).compareDrivers s) =
      .agreed x none false) :
    ∃ M, (s.lane l).AgreedOn x (flags.get (s.lane l).id) M ∧
      ((s.compared flags).succeed.viewsNow.onAll Lane.handOver).lane l = M.handSetpoints := by
  obtain ⟨dirty, clean, hcompare⟩ := Lane.exists_compare_of_agreed ha hv hr hds hsplit hm hd
  obtain ⟨r, drivers, silent, lead, hlane, hrole⟩ := (s.compared flags).exists_compared_lane l
  rw [State.lane_compared, hcompare] at hlane hrole
  rw [State.lane_onAll, hlane]
  obtain ⟨v, hstop⟩ := Lane.exists_judgeStop ({ (s.lane l).toPoint (s.lane l).tComp with
    vote := { ((s.lane l).flagged (flags.get (s.lane l).id)).vote.runs (.agreed x none false) with
      dirty := dirty, clean := clean, role := r, drivers := drivers, silent := silent, lead := lead } })
  refine ⟨_, ?_, (if_pos ?_).trans (congrArg Lane.handSetpoints hstop)⟩
  · exact ⟨Lane.toPoint_id .., Lane.toPoint_dict .., Lane.toPoint_net .., Lane.toPoint_ta .., Lane.toPoint_bridges ..,
      Lane.toPoint_gates .., Lane.toPoint_ns .., rfl, rfl, rfl, hrole⟩
  · simpa [Lane.alive, Lane.flagged, VoteG.runs, hr] using ha

/-- Settles O9: an agreed output is held and handed over, an outvoted lane is OUT, and tAPPLY releases what is due
(R59, R64, R74, R127). -/
theorem compareAndApply : Obligations.CompareAndApply := by
  unfold Obligations.CompareAndApply
  refine ⟨fun s flags => ⟨_, execOutputCompare_eq flags s, State.outputCompare_lanesOnly s flags, fun l hr hdrv => ?_,
      fun l x o ha hv hr hm hds hsplit hd => ⟨fun ho => ?_, fun ho hout => ?_⟩⟩, fun s => ⟨_, rfl, ⟨rfl, rfl, rfl⟩,
    fun l hr => ?_, fun l ha hr he => ?_, fun l ha hr he hrel hex => ?_,
    fun l e ha hr he hk ho hl hd => ?_, fun l ha hr he hrel hex hdrv => ?_⟩⟩
  · have stays : (s.compared flags).lane l = s.lane l := by rw [State.lane_compared, Lane.compare_of_not_runs s _ hr]
    rw [State.handOver_of_not_running (by rw [stays, hr]) (by rw [stays, hdrv]), stays]
  · subst ho
    obtain ⟨M, hM, hlane⟩ := State.exists_agreedOn ha hv hr hm hds hsplit hd
    obtain ⟨-, hvote⟩ := M.handSetpoints_voteKept
    rw [hlane, hvote]
    refine ⟨hM.agreedOut, hM.selfFlag, fun hshadow => ?_, fun hdrv hns k hk => ?_⟩
    · rw [Lane.handSetpoints_of_not_drives (by rw [hM.drives, hshadow]; rfl)]
      exact ⟨hM.bridges, hM.gates, hM.ta⟩
    · exact hM.handSetpoints hdrv hk hns
  · subst ho
    obtain ⟨hrole, hnow, hstop, hrun⟩ := Lane.compare_of_outvoted ha hv hr hds hsplit hm hout hd
    rw [State.handOver_of_not_running (by rw [State.lane_compared, hrun])
      (by rw [State.lane_compared, hrole]; rfl), State.lane_compared]
    exact ⟨hrole, hnow, hstop⟩
  · have stays : (s.lane l).apply = s.lane l := Lane.apply_of_not_runs (by simp [hr])
    rw [State.viewsNow_lane_of_not_running (by rw [State.lane_onAll, stays, hr]), State.lane_onAll, stays]
  all_goals obtain ⟨_, _, _, hlane⟩ := (s.onAll Lane.apply).exists_viewsNow_lane l; rw [hlane, State.lane_onAll]
  · exact Lane.apply_ns ha hr he
  · exact Lane.apply_of_release ha hr he hrel hex
  · exact Lane.apply_of_due ha hr he hk ho hl hd
  · exact Lane.apply_of_nothing ha hr he hrel hex hdrv

end Sys2Proof.Machine
end

section
/-! PROOFS, service tasks. -/
namespace Sys2Proof.Machine

/-! ### What the cycle's windows are computed from -/

/-- The lane's place, its schedule and the settings of the vote cycle stay. -/
structure Lane.TimingKept (L M : Lane) : Prop where
  id : M.id = L.id
  net : M.net = L.net
  obj : ∀ sub < 256, M.obj 0x2600 sub = L.obj 0x2600 sub

theorem Lane.TimingKept.of_dict {L M : Lane} (hid : M.id = L.id) (hnet : M.net = L.net) (hdict : M.dict = L.dict) :
    L.TimingKept M :=
  ⟨hid, hnet, fun sub _ => by rw [Lane.obj_congr hid hdict]⟩

theorem Lane.TimingKept.refl (L : Lane) : L.TimingKept L := .of_dict rfl rfl rfl

theorem Lane.TimingKept.trans {L M N : Lane} (h : L.TimingKept M) (h' : M.TimingKept N) : L.TimingKept N :=
  ⟨h'.id.trans h.id, h'.net.trans h.net, fun sub hsub => (h'.obj sub hsub).trans (h.obj sub hsub)⟩

theorem Lane.svc_timingKept (L : Lane) (v : Svc) : L.TimingKept { L with svc := v } := .of_dict rfl rfl rfl

/-- The end of a task's window is a matter of the cycle points (R43, R116). -/
theorem Lane.TimingKept.windowEnd {L M : Lane} (h : L.TimingKept M) (task : Nat) :
    M.windowEnd task = L.windowEnd task := by
  have hvote : M.tVote = L.tVote := by rw [Lane.tVote, Lane.tVote, h.obj 1 (by decide), h.net, h.id]
  have hpoint (sub slow fast : Nat) (hsub : sub < 256) : M.point sub slow fast = L.point sub slow fast := by
    unfold Lane.point Lane.pointsFail
    rw [h.obj 2 (by decide), h.obj 3 (by decide), h.obj 4 (by decide), h.obj 5 (by decide), h.obj 6 (by decide),
      h.obj sub hsub, hvote]
  unfold Lane.windowEnd Lane.tAgree Lane.tClose Lane.tDead
  rw [hpoint 2 300 50 (by decide), hpoint 3 650 210 (by decide)]

/-! ### The clock moved alone -/

/-- Whether a command is taken is a matter of the agreed inputs (R86). -/
theorem Lane.takes_congr {L M : Lane} (h : M.vote = L.vote) (num : Nat) (curvature : Bool) :
    M.takes num curvature = L.takes num curvature := by
  unfold Lane.takes Lane.agreedIn
  rw [h]

theorem Lane.exists_toPoint (L : Lane) (us : Nat) : ∃ t, L.toPoint us = { L with tb := t } := by
  unfold Lane.toPoint Lane.advance
  split <;> exact ⟨_, rfl⟩

theorem Lane.toPoint_takes (L : Lane) (us num : Nat) (curvature : Bool) :
    (L.toPoint us).takes num curvature = L.takes num curvature :=
  Lane.takes_congr (L.toPoint_vote us) num curvature

theorem Lane.toPoint_vrefNext (L : Lane) (us : Nat) : (L.toPoint us).vrefNext = L.vrefNext := by
  obtain ⟨t, ht⟩ := L.exists_toPoint us
  rw [ht]
  rfl

theorem Lane.toPoint_tDead (L : Lane) (us : Nat) : (L.toPoint us).tDead = L.tDead := by
  obtain ⟨t, ht⟩ := L.exists_toPoint us
  rw [ht]
  rfl

theorem Lane.toPoint_outputs (L : Lane) (us : Nat) : (L.toPoint us).outputs = L.outputs := by
  obtain ⟨t, ht⟩ := L.exists_toPoint us
  rw [ht]
  rfl

/-! ### What each task changes -/

theorem Lane.refuseCommand_svc (L : Lane) (num : Nat) (curvature : Bool) :
    (L.refuseCommand num curvature).svc = L.svc := by
  unfold Lane.refuseCommand
  dsimp only
  split <;> rfl

theorem Lane.refuseCommand_timingKept (L : Lane) (num : Nat) (curvature : Bool) :
    L.TimingKept (L.refuseCommand num curvature) := by
  unfold Lane.refuseCommand
  dsimp only
  split
  · exact .of_dict rfl rfl rfl
  · exact .refl L

/-- Task 1 refuses what is not taken and sets the ages; the rest of its work leaves them (R86, R87). -/
theorem Lane.exists_task1 (L : Lane) : ∃ v,
    L.task1 = { (L.refuseCommand 0x21 true).refuseCommand 0x22 false with svc := v } ∧
      v.ageDecel = ageStep L.svc.ageDecel (L.takes 0x22 false) := by
  have htakes : ((L.refuseCommand 0x21 true).refuseCommand 0x22 false).takes 0x22 false = L.takes 0x22 false :=
    Lane.takes_congr (by simp) _ _
  have hsvc : ((L.refuseCommand 0x21 true).refuseCommand 0x22 false).svc = L.svc := by
    simp only [Lane.refuseCommand_svc]
  rw [← htakes, ← hsvc]
  unfold Lane.task1
  dsimp only
  (repeat' split) <;> exact ⟨_, rfl, rfl⟩

theorem Lane.exists_stopFor (L : Lane) (c : Causes) : ∃ v, L.stopFor c = { L with svc := v } := by
  unfold Lane.stopFor
  split <;> exact ⟨_, rfl⟩

theorem Lane.exists_task2 (L : Lane) : ∃ v, L.task2 = { L with svc := v } := by
  obtain ⟨v, hv⟩ := L.exists_stopFor L.causes
  unfold Lane.task2
  rw [hv]
  exact ⟨_, rfl⟩

theorem Lane.exists_task3 (L : Lane) : ∃ v, L.task3 = { L with svc := v } := by
  unfold Lane.task3
  split <;> exact ⟨_, rfl⟩

/-- The reference speed falls no faster than its limit (R108). -/
theorem Lane.vrefNext_of_some {L : Lane} {v p : Rat} (hv : L.vMax = some v) (hp : L.svc.vref = some p) :
    L.vrefNext = some (max v (p - L.real 0x4109 7 * L.tVoteS)) := by
  simp [Lane.vrefNext, hv, hp]

/-- A contact position that is learned is kept under its own object, none of the vote cycle's (R107). -/
theorem Lane.storeObj_contact_timingKept (L : Lane) (n : Fin 8) (raw : Nat) :
    L.TimingKept (L.storeObj 0x4107 (n.val + 1) raw) := by
  have hobj : (L.storeObj 0x4107 (n.val + 1) raw).obj = (L.setObj 0x4107 (n.val + 1) raw).obj := by
    unfold Lane.storeObj
    dsimp only
    (repeat' split) <;> rfl
  refine ⟨Lane.storeObj_id .., Lane.storeObj_net .., fun sub hsub => ?_⟩
  rw [hobj]
  exact Lane.obj_setObj_ne L raw (by unfold okey; omega)

theorem Lane.learn_timingKept (L : Lane) (n : Fin 8) (t : Rat) : L.TimingKept (L.learn n t) := by
  unfold Lane.learn
  dsimp only
  (repeat' split)
  · exact L.svc_timingKept _
  · exact L.svc_timingKept _
  · exact (L.svc_timingKept _).trans (Lane.storeObj_contact_timingKept ..)
  · exact .of_dict rfl rfl rfl

theorem Lane.loopOf_timingKept (L : Lane) (n : Fin 8) : L.TimingKept (L.loopOf n) := by
  unfold Lane.loopOf
  dsimp only
  split
  · exact L.svc_timingKept _
  · exact (L.svc_timingKept _).trans (Lane.learn_timingKept ..)
  · exact .refl L

theorem Lane.task7_timingKept (L : Lane) : L.TimingKept L.task7 := by
  have hloops : L.TimingKept (fin8.foldl Lane.loopOf L) :=
    List.foldlRecOn fin8 _ (motive := fun M => L.TimingKept M) (.refl L) fun M hM n _ =>
      hM.trans (M.loopOf_timingKept n)
  unfold Lane.task7
  generalize fin8.foldl Lane.loopOf L = M at hloops ⊢
  dsimp only
  split
  · exact hloops.trans (M.svc_timingKept _)
  · exact hloops

theorem Lane.runTask_timingKept (L : Lane) (task endUs : Nat) : L.TimingKept (L.runTask task endUs) := by
  unfold Lane.runTask
  split
  · obtain ⟨v, hv, -⟩ := L.exists_task1
    rw [hv]
    exact (L.refuseCommand_timingKept ..).trans ((Lane.refuseCommand_timingKept ..).trans (Lane.svc_timingKept _ v))
  · obtain ⟨v, hv⟩ := L.exists_task2
    rw [hv]
    exact L.svc_timingKept v
  · obtain ⟨v, hv⟩ := L.exists_task3
    rw [hv]
    exact L.svc_timingKept v
  · exact L.svc_timingKept L.task4.svc
  · exact L.svc_timingKept L.task5.svc
  · exact L.task7_timingKept
  · exact L.svc_timingKept L.task8.svc
  · exact .of_dict rfl rfl rfl
  · exact .refl L

/-! ### A task ends -/

/-- The lane once a task has run and is counted. -/
def Lane.ranTask (L : Lane) (task endUs : Nat) : Lane :=
  let M := (L.toPoint endUs).runTask task endUs
  { M with vote := { M.vote with tasks := task } }

/-- A task's end judged by its window (R117). -/
def Lane.judgeWindow (M : Lane) (task endUs : Nat) : Lane :=
  if M.windowEnd task < endUs then M.raise 0xAFC2 0 task endUs else M

theorem execServiceTaskEnd_of_due {s : State} {l : LaneId} {task : Nat} (endUs : Nat) (ha : (s.lane l).alive = true)
    (hv : (s.lane l).voting = true) (hg : (s.lane l).vote.agreedNow = true)
    (htask : task = (s.lane l).vote.tasks + 1) (h9 : task ≤ 9) :
    execServiceTaskEnd l task endUs s = .next (s.on l fun L => (L.ranTask task endUs).judgeWindow task endUs) :=
  congrArg Host.Outcome.next (State.on_congr s l (if_pos (by simp [ha, hv, hg, ← htask, h9])))

theorem Lane.judgeWindow_vote (M : Lane) (task endUs : Nat) : (M.judgeWindow task endUs).vote = M.vote := by
  unfold Lane.judgeWindow
  split <;> rfl

theorem Lane.judgeWindow_svc (M : Lane) (task endUs : Nat) : (M.judgeWindow task endUs).svc = M.svc := by
  unfold Lane.judgeWindow
  split <;> rfl

theorem Lane.ranTask_windowEnd (L : Lane) (task endUs k : Nat) :
    (L.ranTask task endUs).windowEnd k = L.windowEnd k := by
  have hclock : L.TimingKept (L.toPoint endUs) := .of_dict (by simp) (by simp) (by simp)
  have hcount : ((L.toPoint endUs).runTask task endUs).TimingKept (L.ranTask task endUs) := .of_dict rfl rfl rfl
  exact ((hclock.trans (Lane.runTask_timingKept ..)).trans hcount).windowEnd k

theorem Lane.ranTask_one_ageDecel (L : Lane) (endUs : Nat) :
    (L.ranTask 1 endUs).svc.ageDecel = ageStep L.svc.ageDecel (L.takes 0x22 false) := by
  obtain ⟨v, htask, hage⟩ := (L.toPoint endUs).exists_task1
  rw [Lane.toPoint_svc, Lane.toPoint_takes] at hage
  calc (L.ranTask 1 endUs).svc.ageDecel = (L.toPoint endUs).task1.svc.ageDecel := rfl
    _ = ageStep L.svc.ageDecel (L.takes 0x22 false) := by rw [htask, ← hage]

theorem Lane.ranTask_four_vref (L : Lane) (endUs : Nat) : (L.ranTask 4 endUs).svc.vref = L.vrefNext :=
  L.toPoint_vrefNext endUs

/-- Task 9 freezes what the lane puts out, and offers it by tDEAD only (R55, R56). -/
theorem Lane.ranTask_nine_outSet (L : Lane) (endUs : Nat) :
    (L.ranTask 9 endUs).vote.outSet = if endUs ≤ L.tDead then some L.outputs else none := by
  rw [← L.toPoint_tDead endUs, ← L.toPoint_outputs endUs]
  rfl

/-- Settles O6: a task that is due runs and is counted, and only its end is judged by its window (R116, R117). -/
theorem serviceTasks : Obligations.ServiceTasks := by
  intro s l task endUs ha hv hg htask h9
  refine ⟨_, execServiceTaskEnd_of_due endUs ha hv hg htask h9, State.onlyLane_on .., ?_⟩
  rw [State.lane_on_same, Lane.judgeWindow_vote, Lane.judgeWindow_svc]
  refine ⟨rfl, ?_, ?_, ?_, fun hlate => ⟨(s.lane l).ranTask task endUs, ?_, rfl, ?_⟩⟩
  · rintro rfl
    exact (s.lane l).ranTask_one_ageDecel endUs
  · rintro rfl v p hmax hvref
    rw [Lane.ranTask_four_vref, Lane.vrefNext_of_some hmax hvref]
  · rintro rfl
    exact ⟨rfl, (s.lane l).ranTask_nine_outSet endUs⟩
  all_goals rw [Lane.judgeWindow, if_pos (by rwa [Lane.ranTask_windowEnd])]
  exact Lane.raise_last ..

end Sys2Proof.Machine
end

section
/-! PROOFS, limits, holds and releases of the services. -/
namespace Sys2Proof.Machine

/-! ### Inputs at their age limit -/

theorem execAgeLimitReached_of_fresh {s : State} {l : LaneId} {k : AgeKind}
    (h : ((s.lane l).alive && (s.lane l).voting && (s.lane l).staleKind k) = false) :
    execAgeLimitReached l k s = .next s :=
  congrArg Host.Outcome.next (State.on_id s l (if_neg (by simp [h])))

theorem execAgeLimitReached_of_stale {s : State} {l : LaneId} {k : AgeKind} (ha : (s.lane l).alive = true)
    (hv : (s.lane l).voting = true) (hk : (s.lane l).staleKind k = true) :
    execAgeLimitReached l k s = .next (s.on l fun L => L.staleNow k) :=
  congrArg Host.Outcome.next (State.on_congr s l (if_pos (by simp [ha, hv, hk])))

/-- Host silence alone, or none. -/
def Causes.ofHost (b : Bool) : Causes := ⟨b, false, false, false, false⟩

/-- A source fault alone, or none. -/
def Causes.ofSource (b : Bool) : Causes := ⟨false, false, false, b, false⟩

theorem Lane.staleNow_host (L : Lane) {k : AgeKind} (hk : k = .curvature ∨ k = .decel) :
    L.staleNow k = L.stopFor (.ofHost L.causes.host) := by
  obtain rfl | rfl := hk <;> rfl

theorem Lane.staleNow_source (L : Lane) {k : AgeKind} (hk : k = .handwheel ∨ k = .pedal) :
    L.staleNow k = L.stopFor (.ofSource L.causes.source) := by
  obtain rfl | rfl := hk <;> rfl

theorem Lane.staleNow_wheel (L : Lane) {i : Fin 12} (h : i.val < 8) :
    L.staleNow (.wheel i) = { L with svc := { L.svc with
      slip := L.svc.slip.set ⟨i.val, h⟩ { (L.svc.slip.get ⟨i.val, h⟩) with
        st := .apply, cs := L.svc.clamp.get ⟨i.val, h⟩ } } } :=
  dif_pos h

theorem Lane.staleNow_refWheel (L : Lane) {i : Fin 12} (h : 8 ≤ i.val) : L.staleNow (.wheel i) = L :=
  dif_neg (by omega)

/-- A reference wheel has no clamp to take out of slip control (R109). -/
theorem execAgeLimitReached_refWheel (s : State) (l : LaneId) {i : Fin 12} (h : 8 ≤ i.val) :
    execAgeLimitReached l (.wheel i) s = .next s := by
  refine congrArg Host.Outcome.next (State.on_id s l ?_)
  rw [Lane.staleNow_refWheel _ h, ite_self]

theorem Lane.staleNow_load {L : Lane} {i : Fin 4} (h : 0 < L.axleWeight (i.val + 1)) :
    L.staleNow (.load i) = { L with svc := { L.svc with loadDef := true } } :=
  if_pos h

/-! ### Causes that join the stop -/

theorem Lane.stopFor_of_none {L : Lane} {c : Causes} (h : c.any = false) : L.stopFor c = L := if_pos h

/-- The stop is active with the causes that joined; a new one starts at the demand applied before (R110, R112). -/
theorem Lane.stopFor_of_any (L : Lane) {c : Causes} (h : c.any = true) :
    (L.stopFor c).svc.stop.active = true ∧ (c.host = true → (L.stopFor c).svc.stop.host = true) ∧
      (c.source = true → (L.stopFor c).svc.stop.source = true) ∧
      (L.svc.stop.active = false → (L.stopFor c).svc.stop.prof = L.svc.decel) := by
  unfold Lane.stopFor
  rw [if_neg (by simp [h])]
  dsimp only
  refine ⟨?_, fun hh => by rw [hh, Bool.or_true], fun hs => by rw [hs, Bool.or_true], fun hactive => ?_⟩
  · by_cases hactive : L.svc.stop.active = true
    · rw [if_pos hactive]
      split <;> exact hactive
    · rw [if_neg hactive]
      split <;> rfl
  · rw [if_neg (by simp [hactive] : ¬ L.svc.stop.active = true)]
    split <;> rfl

theorem Lane.stopFor_bridges (L : Lane) (c : Causes) : (L.stopFor c).bridges = L.bridges := by
  obtain ⟨v, hv⟩ := L.exists_stopFor c
  rw [hv]

/-! ### Writes -/

theorem Lane.txnFull_of_writeErr {L : Lane} {m : Master} {idx sub : Nat} {data : List Byte} {present window : Bool}
    (h : L.writeErr m idx sub data present window = none) : L.txnFull m = false := by
  cases hfull : L.txnFull m
  · rfl
  · simp [Lane.writeErr, hfull] at h

theorem Lane.writeWide_of_err {L : Lane} {m : Master} {idx sub : Nat} {data : List Byte} {present : Bool} {e : W32}
    (h : L.writeErr m idx sub data present false = some e) (tid : Nat) :
    L.writeWide m tid idx sub data present none false = L.answer m tid idx sub e := by
  simp only [Lane.writeWide, h, Lane.failGroup]

/-- A write that passes its checks outside a group opens a commit of its own (R349). -/
theorem Lane.writeWide_of_ok {L : Lane} {m : Master} {idx sub : Nat} {data : List Byte} {present : Bool}
    (h : L.writeErr m idx sub data present false = none) (hr : L.vote.running = true) (hp : L.dict.prepared < 8)
    (tid : Nat) :
    L.writeWide m tid idx sub data present none false =
      (L.sbCount m idx).prepareNew m { idx := idx, sub := sub, raw := ofBytes data, tid := tid } none false := by
  have hfull : (L.sbCount m idx).txnFull m = false := by
    rw [Lane.txnFull, Lane.sbCount_dict]; exact Lane.txnFull_of_writeErr h
  simp [Lane.writeWide, h, Lane.prepare, hr, hfull, Nat.not_le.2 hp]

theorem Dict.openTxn_open (d : Dict) (m : Master) : (d.openTxn m).open_ m = d.open_ m + 1 := by
  cases m <;> rfl

theorem Dict.openTxn_working (d : Dict) (m : Master) : (d.openTxn m).working = d.working := by
  cases m <;> rfl

/-- `M` is lane `L` with one commit prepared, of one object and value, in the voting cycle of R349. -/
structure Lane.Prepared (L : Lane) (m : Master) (item : CommitItem) (M : Lane) : Prop where
  prepared : M.dict.prepared = L.dict.prepared + 1
  commitCtr : M.dict.commitCtr = L.dict.commitCtr + 1
  opened : M.dict.open_ m = L.dict.open_ m + 1
  working : M.dict.working = L.dict.working
  svc : M.svc = L.svc
  commit : ∃ c, M.dict.outbox = L.dict.outbox ++ [c] ∧ c.server = L.id ∧ c.ctr = L.dict.commitCtr ∧
    c.cycle = L.commitCycle ∧ c.items = [item]

theorem Lane.commitCycle_sbCount (L : Lane) (m : Master) (idx : Nat) :
    (L.sbCount m idx).commitCycle = L.commitCycle := by
  unfold Lane.sbCount
  split <;> rfl

theorem Lane.prepareNew_prepared (L : Lane) (m : Master) (idx : Nat) (item : CommitItem) (g : Option Nat)
    (rwp : Bool) : L.Prepared m item ((L.sbCount m idx).prepareNew m item g rwp) where
  prepared := by simp [Lane.prepareNew]
  commitCtr := by simp [Lane.prepareNew]
  opened := by rw [← Lane.sbCount_dict L m idx]; exact Dict.openTxn_open ..
  working := by rw [← Lane.sbCount_dict L m idx]; exact Dict.openTxn_working ..
  svc := Lane.sbCount_svc ..
  commit := by
    rw [← L.commitCycle_sbCount m idx, ← L.sbCount_dict m idx, ← L.sbCount_id m idx]
    exact ⟨_, rfl, rfl, rfl, rfl, rfl⟩

theorem Lane.writeWide_prepared {L : Lane} {m : Master} {idx sub : Nat} {data : List Byte} {present : Bool}
    (h : L.writeErr m idx sub data present false = none) (hr : L.vote.running = true) (hp : L.dict.prepared < 8)
    (tid : Nat) :
    L.Prepared m { idx := idx, sub := sub, raw := ofBytes data, tid := tid }
      (L.writeWide m tid idx sub data present none false) := by
  rw [Lane.writeWide_of_ok h hr hp]
  exact L.prepareNew_prepared ..

theorem Lane.write_of_err {L : Lane} {m : Master} {idx sub : Nat} {data : List Byte} {present : Bool} {e : W32}
    (h : L.writeErr m idx sub data present false = some e) (tid : Nat) (act : Lane → Lane) :
    L.write m tid idx sub data present act = L.answer m tid idx sub e := by
  simp only [Lane.write, h]

theorem Lane.write_of_ok {L : Lane} {m : Master} {idx sub : Nat} {data : List Byte} {present : Bool}
    (h : L.writeErr m idx sub data present false = none) (tid : Nat) (act : Lane → Lane) :
    L.write m tid idx sub data present act = (act (L.sbCount m idx)).answer m tid idx sub 0 := by
  simp only [Lane.write, h]

/-! ### The statement -/

/-- Settles O14: each limit or hold does its row's step, each write is prepared, done or answered with its error
(R87, R107, R109-R111, R114, R349). -/
theorem serviceTimersAndWrites : Obligations.ServiceTimersAndWrites := by
  refine ⟨⟨fun s l k h => execAgeLimitReached_of_fresh h, fun s l ha hv => ⟨fun i h hstale => ?_, fun i h => ?_,
      fun i hstale hw => ?_, fun k hk hstale => ⟨fun hnone => ?_, fun hhost => ?_⟩,
      fun k hk hstale => ⟨fun hnone => ?_, fun hsource => ?_⟩⟩, fun s l hactive hms => ?_, fun s l n hst hth => ?_⟩,
    fun s l m tid data => ⟨fun hok hr hp => ?_, fun e he => ?_, fun n hok hr hp => ?_, fun n e he => ?_, fun hok => ?_,
      fun e he => ?_⟩⟩
  · exact (execAgeLimitReached_of_stale (k := .wheel i) ha hv hstale).trans
      (congrArg _ (State.on_congr s l (Lane.staleNow_wheel _ h)))
  · exact execAgeLimitReached_refWheel s l h
  · exact (execAgeLimitReached_of_stale (k := .load i) ha hv hstale).trans
      (congrArg _ (State.on_congr s l (Lane.staleNow_load hw)))
  · refine (execAgeLimitReached_of_stale ha hv hstale).trans (congrArg _ (State.on_id s l ?_))
    rw [Lane.staleNow_host _ hk, hnone, Lane.stopFor_of_none rfl]
  · refine ⟨_, execAgeLimitReached_of_stale ha hv hstale, State.onlyLane_on .., ?_⟩
    rw [State.lane_on_same, Lane.staleNow_host _ hk, hhost]
    obtain ⟨hactive, hjoined, -, hprof⟩ := (s.lane l).stopFor_of_any (c := .ofHost true) rfl
    exact ⟨hactive, hjoined rfl, hprof, (Lane.stopFor_voteKept ..).2, Lane.stopFor_bridges ..⟩
  · refine (execAgeLimitReached_of_stale ha hv hstale).trans (congrArg _ (State.on_id s l ?_))
    rw [Lane.staleNow_source _ hk, hnone, Lane.stopFor_of_none rfl]
  · refine ⟨_, execAgeLimitReached_of_stale ha hv hstale, State.onlyLane_on .., ?_⟩
    rw [State.lane_on_same, Lane.staleNow_source _ hk, hsource]
    obtain ⟨hactive, -, hjoined, -⟩ := (s.lane l).stopFor_of_any (c := .ofSource true) rfl
    exact ⟨hactive, hjoined rfl, (Lane.stopFor_voteKept ..).2, Lane.stopFor_bridges ..⟩
  · exact congrArg Host.Outcome.next (State.on_congr s l (if_pos (by simp [hactive, hms])))
  · exact congrArg Host.Outcome.next (State.on_congr s l (if_pos (by simp [hst, hth])))
  · refine ⟨_, rfl, State.onlyLane_on .., ?_⟩
    rw [State.lane_on_same]
    have h := Lane.writeWide_prepared hok hr hp tid
    exact ⟨h.prepared, h.opened, h.svc, h.commit⟩
  · exact congrArg Host.Outcome.next (State.on_congr s l (Lane.writeWide_of_err he tid))
  · refine ⟨_, rfl, State.onlyLane_on .., ?_⟩
    rw [State.lane_on_same]
    have h := Lane.writeWide_prepared hok hr hp tid
    exact ⟨h.prepared, h.commitCtr, h.opened, h.working, h.svc, h.commit⟩
  · exact congrArg Host.Outcome.next (State.on_congr s l (Lane.writeWide_of_err he tid))
  · exact congrArg Host.Outcome.next (State.on_congr s l (Lane.write_of_ok hok tid _))
  · exact congrArg Host.Outcome.next (State.on_congr s l (Lane.write_of_err he tid _))

end Sys2Proof.Machine
end

section
/-! PROOFS, what placing the mode of a bridge changes, and the isolation of a winding set. -/
namespace Sys2Proof.Machine

/-! ### One winding set of a lane -/

/-- The fields of a bridge that a period boundary gives its carrier (R123-R125, R132). -/
def Bridge.carrier (br : Bridge) : Bool × Nat × Rat × Bool × Rat :=
  (br.started, br.startNs, br.lockErr, br.lock, br.vdc)

/-- Nothing outside winding set `b` (its bridge, front end and gate drive) changed but the recorder and the Kiln log. -/
structure Lane.OnlySet (b : Fin 8) (L M : Lane) : Prop where
  id : M.id = L.id
  dict : M.dict = L.dict
  vote : M.vote = L.vote
  svc : M.svc = L.svc
  pwr : M.pwr = L.pwr
  tb : M.tb = L.tb
  bridges : ∀ c, c ≠ b → M.bridges.get c = L.bridges.get c
  fes : ∀ c, c ≠ b → M.fes.get c = L.fes.get c
  gates : ∀ c, c ≠ b → M.gates.get c = L.gates.get c

/-- An operation on winding set `b` that leaves its carrier and lets no change of its angle source wait. -/
structure Lane.PlacedSet (b : Fin 8) (L M : Lane) : Prop extends Lane.OnlySet b L M where
  carrier : (M.bridges.get b).carrier = (L.bridges.get b).carrier
  due : (L.fes.get b).due = none → (M.fes.get b).due = none

theorem Lane.OnlySet.refl (b : Fin 8) (L : Lane) : L.OnlySet b L :=
  ⟨rfl, rfl, rfl, rfl, rfl, rfl, fun _ _ => rfl, fun _ _ => rfl, fun _ _ => rfl⟩

theorem Lane.OnlySet.trans {b : Fin 8} {L M N : Lane} (h : L.OnlySet b M) (h' : M.OnlySet b N) : L.OnlySet b N :=
  ⟨h'.id.trans h.id, h'.dict.trans h.dict, h'.vote.trans h.vote, h'.svc.trans h.svc, h'.pwr.trans h.pwr,
    h'.tb.trans h.tb, fun c hc => (h'.bridges c hc).trans (h.bridges c hc),
    fun c hc => (h'.fes c hc).trans (h.fes c hc), fun c hc => (h'.gates c hc).trans (h.gates c hc)⟩

theorem Lane.OnlySet.ite {b : Fin 8} {L M N : Lane} {c : Prop} [Decidable c] (h : L.OnlySet b M)
    (h' : L.OnlySet b N) : L.OnlySet b (if c then M else N) := by
  split
  · exact h
  · exact h'

theorem Lane.onBr_onlySet (L : Lane) (b : Fin 8) (f : Bridge → Bridge) : L.OnlySet b (L.onBr b f) :=
  { OnlySet.refl b L with bridges := fun _ hc => L.onBr_ne f hc }

theorem Lane.onFe_onlySet (L : Lane) (b : Fin 8) (f : FrontEnd → FrontEnd) : L.OnlySet b (L.onFe b f) :=
  { OnlySet.refl b L with fes := fun _ hc => L.onFe_ne f hc }

theorem Lane.onGate_onlySet (L : Lane) (b : Fin 8) (f : Gate → Gate) : L.OnlySet b (L.onGate b f) :=
  { OnlySet.refl b L with gates := fun _ hc => L.onGate_ne f hc }

theorem Lane.raise_onlySet (L : Lane) (b : Fin 8) (code level detId detVal : Nat) :
    L.OnlySet b (L.raise code level detId detVal) :=
  { OnlySet.refl b L with }

theorem Lane.PlacedSet.refl (b : Fin 8) (L : Lane) : L.PlacedSet b L := ⟨.refl b L, rfl, fun h => h⟩

theorem Lane.PlacedSet.trans {b : Fin 8} {L M N : Lane} (h : L.PlacedSet b M) (h' : M.PlacedSet b N) :
    L.PlacedSet b N :=
  ⟨h.toOnlySet.trans h'.toOnlySet, h'.carrier.trans h.carrier, fun hd => h'.due (h.due hd)⟩

theorem Lane.PlacedSet.ite {b : Fin 8} {L M N : Lane} {c : Prop} [Decidable c] (h : L.PlacedSet b M)
    (h' : L.PlacedSet b N) : L.PlacedSet b (if c then M else N) := by
  split
  · exact h
  · exact h'

theorem Lane.onBr_placedSet (L : Lane) (b : Fin 8) {f : Bridge → Bridge}
    (h : (f (L.bridges.get b)).carrier = (L.bridges.get b).carrier) : L.PlacedSet b (L.onBr b f) :=
  ⟨L.onBr_onlySet b f, by rwa [L.onBr_same], fun hd => hd⟩

theorem Lane.onFe_placedSet (L : Lane) (b : Fin 8) {f : FrontEnd → FrontEnd}
    (h : (L.fes.get b).due = none → (f (L.fes.get b)).due = none) : L.PlacedSet b (L.onFe b f) :=
  ⟨L.onFe_onlySet b f, rfl, by rwa [L.onFe_same]⟩

theorem Lane.onGate_placedSet (L : Lane) (b : Fin 8) (f : Gate → Gate) : L.PlacedSet b (L.onGate b f) :=
  ⟨L.onGate_onlySet b f, rfl, fun hd => hd⟩

theorem Lane.raise_placedSet (L : Lane) (b : Fin 8) (code level detId detVal : Nat) :
    L.PlacedSet b (L.raise code level detId detVal) :=
  ⟨L.raise_onlySet b code level detId detVal, rfl, fun hd => hd⟩

/-! ### A mode entered -/

/-- The bridge as it enters a mode (R147, R148). -/
def Bridge.entered (br : Bridge) (m : Mode) : Bridge :=
  { br.quiet with
    mode := m, offsOk := if m = .disabled then false else br.offsOk
    vectors := if m = .pulsedShort then pulsedVectors else [] }

theorem Lane.exists_setMode (L : Lane) (b : Fin 8) (m : Mode) :
    ∃ g, L.setMode b m = (L.onBr b fun br => br.entered m).onGate b g := by
  unfold Lane.setMode
  exact ⟨_, rfl⟩

@[simp] theorem Lane.setMode_bridge (L : Lane) (b : Fin 8) (m : Mode) :
    (L.setMode b m).bridges.get b = (L.bridges.get b).entered m := by
  obtain ⟨g, h⟩ := L.exists_setMode b m
  rw [h, Lane.onGate_bridges, Lane.onBr_same]

theorem Lane.supplied_and_eq_zero {o k : BitVec 6} (h : o &&& k = 0) (L : Lane) (b : Fin 8) :
    L.supplied b o &&& k = 0 := by
  unfold Lane.supplied
  dsimp only
  rw [BitVec.and_comm o, BitVec.and_assoc, h]
  exact BitVec.and_zero

/-- A mode newly entered puts no high side on: its outputs are among the three low sides (R146, R183). -/
theorem Lane.setMode_highSides (L : Lane) (b : Fin 8) (m : Mode) :
    ((L.setMode b m).gates.get b).onOut &&& 0b010101#6 = 0 := by
  have low : modeOutputs m &&& 0b010101#6 = 0 := by cases m <;> rfl
  rw [Lane.setMode, Lane.onGate_same]
  exact Lane.supplied_and_eq_zero low L b

theorem Lane.setMode_placedSet (L : Lane) (b : Fin 8) (m : Mode) : L.PlacedSet b (L.setMode b m) := by
  obtain ⟨g, h⟩ := L.exists_setMode b m
  rw [h]
  exact (L.onBr_placedSet b rfl).trans (Lane.onGate_placedSet ..)

theorem Lane.setPrecharge_placedSet (L : Lane) (b : Fin 8) : L.PlacedSet b (L.setPrecharge b) := by
  unfold Lane.setPrecharge
  exact L.onGate_placedSet b _

@[simp] theorem Lane.setPrecharge_onOut (L : Lane) (b : Fin 8) :
    ((L.setPrecharge b).gates.get b).onOut = (L.gates.get b).onOut := by
  rw [Lane.setPrecharge, Lane.onGate_same]

theorem Lane.abortTest_placedSet (L : Lane) (b : Fin 8) : L.PlacedSet b (L.abortTest b) :=
  .ite ((L.onGate_placedSet b _).trans (Lane.raise_placedSet ..)) (.refl b L)

theorem Lane.abortTest_bridges (L : Lane) (b : Fin 8) : (L.abortTest b).bridges = L.bridges := by
  unfold Lane.abortTest
  dsimp only
  split <;> rfl

theorem Lane.abortTest_fes (L : Lane) (b : Fin 8) : (L.abortTest b).fes = L.fes := by
  unfold Lane.abortTest
  dsimp only
  split <;> rfl

/-! ### A bridge settled (Table 4.6) -/

/-- The lane whose self-test of a bridge has ended where the mode it wants asks so (R210, R212). -/
def Lane.testEnded (L : Lane) (b : Fin 8) : Lane :=
  if (L.wanted b).2 ≠ .disabled ∧ ((L.wanted b).2 ≠ (L.bridges.get b).mode ∨ (L.wanted b).1 = 2) then L.abortTest b
  else L

theorem Lane.testEnded_placedSet (L : Lane) (b : Fin 8) : L.PlacedSet b (L.testEnded b) :=
  .ite (L.abortTest_placedSet b) (.refl b L)

@[simp] theorem Lane.testEnded_bridges (L : Lane) (b : Fin 8) : (L.testEnded b).bridges = L.bridges := by
  unfold Lane.testEnded
  split
  · exact L.abortTest_bridges b
  · rfl

@[simp] theorem Lane.testEnded_fes (L : Lane) (b : Fin 8) : (L.testEnded b).fes = L.fes := by
  unfold Lane.testEnded
  split
  · exact L.abortTest_fes b
  · rfl

/-- A bridge settled stays in its mode, which it wants or waits to leave, or enters the mode of the governing rank. -/
theorem Lane.settle_cases (L : Lane) (b : Fin 8) :
    (((L.wanted b).2 = (L.bridges.get b).mode ∨ 3 < (L.wanted b).1) ∧
      L.settle b = (L.testEnded b).setPrecharge b) ∨
    L.settle b = ((L.testEnded b).setMode b (L.wanted b).2).setPrecharge b := by
  unfold Lane.settle
  dsimp only
  rw [← Lane.testEnded]
  split
  · exact .inl ⟨.inl ‹_›, rfl⟩
  · split
    · exact .inr rfl
    · exact .inl ⟨.inr (by omega), rfl⟩

theorem Lane.settle_placedSet (L : Lane) (b : Fin 8) : L.PlacedSet b (L.settle b) := by
  have ended := L.testEnded_placedSet b
  rcases L.settle_cases b with ⟨-, h⟩ | h <;> rw [h]
  · exact ended.trans (Lane.setPrecharge_placedSet ..)
  · exact (ended.trans (Lane.setMode_placedSet ..)).trans (Lane.setPrecharge_placedSet ..)

theorem Lane.settle_bridge (L : Lane) (b : Fin 8) :
    (L.settle b).bridges.get b = L.bridges.get b ∨
      (L.settle b).bridges.get b = (L.bridges.get b).entered (L.wanted b).2 := by
  rcases L.settle_cases b with ⟨-, h⟩ | h <;> rw [h]
  · exact .inl (by simp)
  · exact .inr (by simp)

@[simp] theorem Lane.settle_fes (L : Lane) (b : Fin 8) : (L.settle b).fes = L.fes := by
  rcases L.settle_cases b with ⟨-, h⟩ | h <;> simp [h]

/-- The mode of a governing rank 1, 2 or 3 acts at once (R147). -/
theorem Lane.settle_mode_of_rank {L : Lane} {b : Fin 8} (h : (L.wanted b).1 ≤ 3) :
    ((L.settle b).bridges.get b).mode = (L.wanted b).2 := by
  rcases L.settle_cases b with ⟨hmode, heq⟩ | heq
  · simp [heq, hmode.resolve_right (by omega)]
  · simp [heq, Bridge.entered]

theorem Lane.settle_highSides {L : Lane} {b : Fin 8}
    (h : ((L.settle b).bridges.get b).mode ≠ (L.bridges.get b).mode) :
    ((L.settle b).gates.get b).onOut &&& 0b010101#6 = 0 := by
  rcases L.settle_cases b with ⟨-, heq⟩ | heq
  · exact absurd (by simp [heq]) h
  · rw [heq, Lane.setPrecharge_onOut]
    exact Lane.setMode_highSides ..

/-! ### The governing rank -/

theorem Lane.wanted_of_stopped {L : Lane} {b : Fin 8} (h : L.pwr.stopLine = true ∨ L.actOf b = none) :
    L.wanted b = (1, .disabled) :=
  if_pos (by simpa using h)

theorem Lane.wanted_of_opened {L : Lane} {b n : Fin 8} (hstop : L.pwr.stopLine = false) (hact : L.actOf b = some n)
    (h : L.opened b = true) : L.wanted b = (2, .allOff) := by
  simp [Lane.wanted, hstop, hact, h]

theorem Lane.wanted_of_short {L : Lane} {b n : Fin 8} (hstop : L.pwr.stopLine = false) (hact : L.actOf b = some n)
    (hopen : L.opened b = false) (h : (L.bridges.get b).short = true) : L.wanted b = (3, .activeShort) := by
  simp [Lane.wanted, hstop, hact, hopen, h]

/-- Settles O16: ranks 1, 2 and 3 act at once, and a mode entered has only low sides on (R146, R147). -/
theorem modesByRank : Obligations.ModesByRank := fun L b => by
  have placed := L.settle_placedSet b
  refine ⟨fun h => ?_, fun n hstop hact hopen => ?_, fun n hstop hact hopen hshort => ?_,
    fun c hc => ⟨placed.bridges c hc, placed.gates c hc⟩, Lane.settle_highSides⟩
  · have hw := Lane.wanted_of_stopped h
    rw [Lane.settle_mode_of_rank (by simp [hw]), hw]
  · have hw := Lane.wanted_of_opened hstop hact hopen
    rw [Lane.settle_mode_of_rank (by simp [hw]), hw]
  · have hw := Lane.wanted_of_short hstop hact hopen hshort
    rw [Lane.settle_mode_of_rank (by simp [hw]), hw]

/-! ### A set isolated (R149, R173) -/

theorem Lane.isolateSet_of_unmapped {L : Lane} {b : Fin 8} (h : L.actOf b = none) (code : Nat) :
    L.isolateSet b code = L := by
  simp [Lane.isolateSet, h]

/-- The bridge of a set isolated by a fault, before it settles: requested short or all-off, the fault among its causes
(R149, R173). -/
def Bridge.isolated (br : Bridge) (code : Nat) (short : Bool) : Bridge :=
  { (br.request short false) with
    isolKinds := if br.isolKinds.contains code then br.isolKinds else code :: br.isolKinds }

/-- The front end of a set isolated by a fault. -/
def FrontEnd.isolated (f : FrontEnd) : FrontEnd := { f with asrc := .isolated, due := none, hfiPhase := 0 }

theorem Lane.isolateSet_of_mapped {L : Lane} {b n : Fin 8} (h : L.actOf b = some n) (code : Nat) :
    ∃ short, L.isolateSet b code =
      ((L.onFe b FrontEnd.isolated).onBr b fun br => br.isolated code short).settle b :=
  ⟨_, by unfold Lane.isolateSet; rw [h]; rfl⟩

theorem Lane.isolateSet_placedSet (L : Lane) (b : Fin 8) (code : Nat) : L.PlacedSet b (L.isolateSet b code) := by
  cases h : L.actOf b with
  | none => rw [Lane.isolateSet_of_unmapped h]; exact .refl b L
  | some n =>
    obtain ⟨short, heq⟩ := Lane.isolateSet_of_mapped h code
    rw [heq]
    exact ((L.onFe_placedSet b fun _ => rfl).trans (Lane.onBr_placedSet _ b rfl)).trans (Lane.settle_placedSet ..)

theorem Lane.isolate_placedSet (L : Lane) (b : Fin 8) (code detId detVal : Nat) :
    L.PlacedSet b (L.isolate b code detId detVal) :=
  (L.raise_placedSet b code 2 detId detVal).trans (Lane.isolateSet_placedSet ..)

theorem Bridge.mem_isolated_isolKinds (br : Bridge) (code : Nat) (short : Bool) (k : Nat) :
    k ∈ (br.isolated code short).isolKinds ↔ k = code ∨ k ∈ br.isolKinds := by
  by_cases h : code ∈ br.isolKinds
  · simp only [Bridge.isolated, List.contains_iff_mem, h, if_true]
    exact ⟨.inr, fun hk => hk.elim (· ▸ h) fun hk => hk⟩
  · simp [Bridge.isolated, h]

theorem Bridge.isolated_request (br : Bridge) (code : Nat) (short : Bool) :
    (br.isolated code short).short = short ∧ (br.isolated code short).off = !short := by
  simp [Bridge.isolated, Bridge.request]

/-- Settling leaves the requests of a bridge and the causes of its isolation. -/
theorem Lane.settle_requests (L : Lane) (b : Fin 8) :
    ((L.settle b).bridges.get b).isolKinds = (L.bridges.get b).isolKinds ∧
      ((L.settle b).bridges.get b).short = (L.bridges.get b).short ∧
      ((L.settle b).bridges.get b).off = (L.bridges.get b).off := by
  rcases L.settle_bridge b with h | h <;> rw [h] <;> exact ⟨rfl, rfl, rfl⟩

/-- What the isolation of a mapped set leaves in its own bridge and front end. -/
theorem Lane.isolateSet_result {L : Lane} {b n : Fin 8} (h : L.actOf b = some n) (code : Nat) :
    ((L.isolateSet b code).fes.get b).asrc = .isolated ∧
      ((L.isolateSet b code).bridges.get b).short ≠ ((L.isolateSet b code).bridges.get b).off ∧
      ∀ k, k ∈ ((L.isolateSet b code).bridges.get b).isolKinds ↔ k = code ∨ k ∈ (L.bridges.get b).isolKinds := by
  obtain ⟨short, heq⟩ := Lane.isolateSet_of_mapped h code
  obtain ⟨hkinds, hshort, hoff⟩ := Lane.settle_requests ((L.onFe b FrontEnd.isolated).onBr b fun br =>
    br.isolated code short) b
  rw [heq, hkinds, hshort, hoff]
  simp only [Lane.settle_fes, Lane.onBr_fes, Lane.onFe_same, Lane.onBr_same, Lane.onFe_bridges]
  obtain ⟨hshort, hoff⟩ := (L.bridges.get b).isolated_request code short
  exact ⟨rfl, by simp [hshort, hoff], Bridge.mem_isolated_isolKinds _ _ _⟩

/-- Settles O20: the set is placed by R173 and nothing outside it changes but the recorder (R149). -/
theorem isolationOfASet : Obligations.IsolationOfASet := fun L b code detId detVal => by
  have placed := L.isolate_placedSet b code detId detVal
  refine ⟨fun n hact => ?_, fun hact => Lane.isolateSet_of_unmapped (L := L.raise code 2 detId detVal) hact code⟩
  obtain ⟨hsrc, hreq, hkinds⟩ := Lane.isolateSet_result (L := L.raise code 2 detId detVal) hact code
  exact ⟨hsrc, (hkinds code).2 (.inl rfl), hreq, fun k hk => (hkinds k).2 (.inr hk),
    fun c hc => ⟨placed.bridges c hc, placed.fes c hc, placed.gates c hc⟩, placed.vote, placed.svc, placed.dict,
    placed.pwr⟩

end Sys2Proof.Machine
end

section
/-! PROOFS, the placement of edges. -/
namespace Sys2Proof.Machine

/-! ### The phases by duty (R137) -/

theorem insertPhase_perm (d : Tri3 Rat) (p : Phase) (l : List Phase) : (insertPhase d p l).Perm (p :: l) := by
  induction l with
  | nil => exact .refl _
  | cons q t ih =>
    unfold insertPhase
    split
    · exact .refl _
    · exact (ih.cons q).trans (.swap p q t)

/-- A phase inserted among phases sorted by falling duty leaves them sorted. -/
theorem insertPhase_sorted (d : Tri3 Rat) (p : Phase) {l : List Phase}
    (h : l.Pairwise fun q r => d.get r ≤ d.get q) :
    (insertPhase d p l).Pairwise fun q r => d.get r ≤ d.get q := by
  induction l with
  | nil => exact List.pairwise_singleton ..
  | cons q t ih =>
    obtain ⟨hq, ht⟩ := List.pairwise_cons.1 h
    unfold insertPhase
    split
    · next hlt =>
      refine List.pairwise_cons.2 ⟨fun r hr => ?_, h⟩
      rcases List.mem_cons.1 hr with rfl | hr
      · exact hlt.le
      · exact (hq r hr).trans hlt.le
    · next hlt =>
      refine List.pairwise_cons.2 ⟨fun r hr => ?_, ih ht⟩
      rcases List.mem_cons.1 ((insertPhase_perm d p t).mem_iff.1 hr) with rfl | hr
      · exact not_lt.1 hlt
      · exact hq r hr

/-- The phases h, m, l are the three phases by falling duty. -/
theorem rankPhases_spec (d : Tri3 Rat) :
    ((rankPhases d).u ≠ (rankPhases d).v ∧ (rankPhases d).u ≠ (rankPhases d).w ∧
      (rankPhases d).v ≠ (rankPhases d).w) ∧
    d.get (rankPhases d).v ≤ d.get (rankPhases d).u ∧ d.get (rankPhases d).w ≤ d.get (rankPhases d).v := by
  have hperm : (allPhases.foldl (fun l p => insertPhase d p l) []).Perm [.W, .V, .U] :=
    (insertPhase_perm ..).trans (((insertPhase_perm ..).trans ((insertPhase_perm ..).cons _)).cons _)
  have hsorted : (allPhases.foldl (fun l p => insertPhase d p l) []).Pairwise fun q r => d.get r ≤ d.get q :=
    insertPhase_sorted d _ (insertPhase_sorted d _ (insertPhase_sorted d _ .nil))
  have hdistinct : (allPhases.foldl (fun l p => insertPhase d p l) []).Nodup := hperm.nodup_iff.2 (by decide)
  unfold rankPhases
  obtain ⟨h, m, l, heq⟩ := List.length_eq_three.1 hperm.length_eq
  rw [heq] at hsorted hdistinct ⊢
  simp only [List.pairwise_cons, List.nodup_cons, List.mem_cons, List.not_mem_nil, or_false, not_or,
    forall_eq_or_imp, forall_eq] at hsorted hdistinct
  obtain ⟨⟨hmid, -⟩, hlow, -⟩ := hsorted
  obtain ⟨⟨hhm, hhl⟩, hml, -⟩ := hdistinct
  exact ⟨⟨hhm, hhl, hml⟩, hmid, hlow⟩

/-! ### The shifts (R141) -/

@[simp] theorem Tri3.get_ofFn {α : Type} (f : Phase → α) (p : Phase) : (Tri3.ofFn f).get p = f p := by
  cases p <;> rfl

@[simp] theorem Tri3.get_map {α β : Type} (f : α → β) (t : Tri3 α) (p : Phase) : (t.map f).get p = f (t.get p) := by
  cases p <;> rfl

@[simp] theorem Tri3.get_set_same {α : Type} (t : Tri3 α) (p : Phase) (x : α) : (t.set p x).get p = x := by
  cases p <;> rfl

@[simp] theorem Tri3.get_set_ne {α : Type} (t : Tri3 α) {p q : Phase} (x : α) (h : q ≠ p) :
    (t.set p x).get q = t.get q := by
  cases p <;> cases q <;> simp_all [Tri3.get, Tri3.set]

/-- The rising edge of a phase in ticks, before any shift (R137). -/
def edgeOf (d : Tri3 Rat) (n : Nat) (p : Phase) : Int := roundR ((1 - d.get p) * (n : Rat) / 2)

/-- The rising edges of a period: phase h rises up to a ticks early, not at all early under refresh, and each of the
other two as late as its window asks. -/
theorem placeEdges_rise (d : Tri3 Rat) (n : Nat) (refresh : Tri3 Bool) :
    ∃ a : Int, (refresh.get (rankPhases d).u = true → a = 0) ∧
      (placeEdges d n refresh).rise.get (rankPhases d).u = edgeOf d n (rankPhases d).u - a ∧
      (placeEdges d n refresh).rise.get (rankPhases d).v = edgeOf d n (rankPhases d).v +
        (max 0 (160 - (edgeOf d n (rankPhases d).v - edgeOf d n (rankPhases d).u)) - a) ∧
      (placeEdges d n refresh).rise.get (rankPhases d).w = edgeOf d n (rankPhases d).w +
        max 0 (160 - (edgeOf d n (rankPhases d).w - (placeEdges d n refresh).rise.get (rankPhases d).v)) := by
  obtain ⟨⟨huv, huw, hvw⟩, -⟩ := rankPhases_spec d
  refine ⟨if refresh.get (rankPhases d).u then 0 else
    min (max 0 (160 - (edgeOf d n (rankPhases d).v - edgeOf d n (rankPhases d).u)))
      (edgeOf d n (rankPhases d).u - (3 * (n : Rat) / 400).ceil), fun h => if_pos h, ?_, ?_, ?_⟩ <;>
  simp [placeEdges, edgeOf, twMin, huv, huw, hvw, sub_eq_add_neg]

/-- A shift moves both edges of its phase: the pulse keeps its width. -/
theorem placeEdges_width (d : Tri3 Rat) (n : Nat) (refresh : Tri3 Bool) (p : Phase) :
    (placeEdges d n refresh).fall.get p - (placeEdges d n refresh).rise.get p = (n : Int) - 2 * edgeOf d n p := by
  simp only [placeEdges, edgeOf, Tri3.get_ofFn, Tri3.get_map]
  ring

/-- Settles O18: each window takes what the shift before it left to make up (R137, R138, R141). -/
theorem edgesApart : Obligations.EdgesApart := fun d n refresh => by
  obtain ⟨-, hmid, hlow⟩ := rankPhases_spec d
  obtain ⟨a, ha, hu, hv, hw⟩ := placeEdges_rise d n refresh
  refine ⟨?_, ?_, hmid, hlow, placeEdges_width d n refresh, fun h => ?_⟩
  · change 160 ≤ (placeEdges d n refresh).rise.get (rankPhases d).v -
      (placeEdges d n refresh).rise.get (rankPhases d).u
    omega
  · change 160 ≤ (placeEdges d n refresh).rise.get (rankPhases d).w -
      (placeEdges d n refresh).rise.get (rankPhases d).v
    omega
  · exact hu.trans (by rw [ha h, sub_zero, edgeOf]; rfl)

end Sys2Proof.Machine
end

section
/-! PROOFS, bridge faults that a run of periods completes. -/
namespace Sys2Proof.Machine

section
variable {s : State} {l : LaneId} {c : Lane → Prop} [DecidablePred c] {f : Lane → Lane}

/-- A step that one lane takes under a condition, where the condition holds. -/
theorem State.next_on_of_holds (h : c (s.lane l)) :
    (.next (s.on l fun L => if c L then f L else L) : Host.Outcome State Fault Refusal) = .next (s.on l f) :=
  congrArg _ (s.on_congr l (if_pos h))

/-- The same step where the condition fails. -/
theorem State.next_on_of_fails (h : ¬ c (s.lane l)) :
    (.next (s.on l fun L => if c L then f L else L) : Host.Outcome State Fault Refusal) = .next s :=
  congrArg _ (s.on_id l (if_neg h))

end

/-- Settles O19: each row acts on a complete run alone (R129, R136, R145, R149, R193). -/
theorem countedFaults : Obligations.CountedFaults := fun _ _ b =>
  ⟨fun h => State.next_on_of_holds (c := fun L => 3 ≤ (L.bridges.get b).overRun) h,
    fun h => State.next_on_of_fails (not_le.2 h),
    fun h => State.next_on_of_holds (c := fun L => 4 ≤ (L.bridges.get b).satRun) h,
    fun h => State.next_on_of_fails (not_le.2 h),
    fun h => State.next_on_of_holds (c := fun L => 100 ≤ (L.bridges.get b).trackRun) h,
    fun h => State.next_on_of_fails (not_le.2 h),
    fun h => State.next_on_of_holds (c := fun L => 100 ≤ (L.bridges.get b).fwRun) h,
    fun h => State.next_on_of_fails (not_le.2 h),
    fun _ => ⟨fun h => State.next_on_of_holds h,
      fun h h' => State.next_on_of_fails (not_or.2 ⟨not_le.2 h, not_le.2 h'⟩)⟩⟩

end Sys2Proof.Machine
end

section
/-! PROOFS, the carrier at a period boundary, the oscillator and mode requests. -/
namespace Sys2Proof.Machine

/-! ### The carrier (R121-R125, R132) -/

/-- The targets of a carrier follow from the lane's place, its dictionary and its vote cycle (R121). -/
theorem Lane.carrierTarget_congr {L M : Lane} (hid : M.id = L.id) (hdict : M.dict = L.dict) (hvote : M.vote = L.vote) :
    M.carrierTarget = L.carrierTarget := by
  funext n at_
  unfold Lane.carrierTarget Lane.carrierT Lane.pwmFreq Lane.carrierPos Lane.interleave Lane.sets Lane.bridgeOf
  rw [Lane.obj_congr hid hdict, hid, hvote]

/-- The phase error of a boundary: 0 at the first, which lies on a target (R123, R124). -/
def Lane.phaseErr (L : Lane) (b n : Fin 8) (ns : Nat) (frac : Rat) : Rat :=
  if (L.bridges.get b).started then (ns : Rat) + frac - L.carrierTarget n (ns + frac) else 0

theorem Lane.carrierStep_onlySet (L : Lane) (b n : Fin 8) (ns : Nat) (frac : Rat) :
    L.OnlySet b (L.carrierStep b n ns frac) := by
  have noted (M : Lane) (f : Bridge → Bridge) (g : FrontEnd → FrontEnd) : M.OnlySet b ((M.onBr b f).onFe b g) :=
    (M.onBr_onlySet b f).trans (Lane.onFe_onlySet ..)
  unfold Lane.carrierStep
  exact .ite ((noted ..).trans (Lane.raise_onlySet ..)) (noted ..)

theorem Lane.carrierStep_carrier (L : Lane) (b n : Fin 8) (ns : Nat) (frac : Rat) :
    ((L.carrierStep b n ns frac).bridges.get b).carrier =
      (true, if (L.bridges.get b).started then ns else (roundR (L.carrierTarget n (ns + frac))).toNat,
        L.phaseErr b n ns frac,
        if 100 < absR (L.phaseErr b n ns frac) then false else (L.bridges.get b).lock ||
          decide (16 ≤ if absR (L.phaseErr b n ns frac) ≤ 25 then (L.bridges.get b).lockRun + 1 else 0),
        L.dc.vdc) := by
  unfold Lane.carrierStep
  dsimp only
  simp only [apply_ite Lane.bridges, Lane.raise_bridges, ite_self, Lane.onFe_bridges, Lane.onBr_same]
  rfl

/-- The 16th boundary in a row within 25 ns, counted with the one at hand (R124). -/
theorem lockRun_reaches (small : Prop) [Decidable small] (run : Nat) :
    decide (16 ≤ if small then run + 1 else 0) = (decide small && decide (15 ≤ run)) := by
  by_cases h : small <;> simp [h]

/-! ### The rest of a boundary (R129, R147, R148, R164) -/

theorem Lane.loadEdges_placedSet (L : Lane) (b : Fin 8) (old : Bridge) : L.PlacedSet b (L.loadEdges b old) := by
  have loaded (new : Bridge) (run : Tri3 Nat) (h : new.carrier = (L.bridges.get b).carrier) :
      L.PlacedSet b (L.onBr b fun _ => { new.countShift with lowRun := run }) :=
    L.onBr_placedSet b h
  unfold Lane.loadEdges
  refine .ite (.refl b L) (.ite (loaded _ _ ?_) ((loaded _ _ ?_).trans (Lane.raise_placedSet ..))) <;> split <;> rfl

theorem Lane.startLoop_placedSet (L : Lane) (b : Fin 8) (m : Mode) : L.PlacedSet b (L.startLoop b m) := by
  unfold Lane.startLoop
  exact (L.setMode_placedSet b m).trans (Lane.onBr_placedSet _ b rfl)

theorem Lane.enterModulate_placedSet (L : Lane) (b n : Fin 8) : L.PlacedSet b (L.enterModulate b n) := by
  unfold Lane.enterModulate
  dsimp only
  split
  · exact .ite (L.setPrecharge_placedSet b) ((L.setMode_placedSet b _).trans (Lane.setPrecharge_placedSet ..))
  · split
    · exact (L.onBr_placedSet b rfl).trans (Lane.isolate_placedSet ..)
    · have started := (L.startLoop_placedSet b .modulate).trans
        (Lane.onBr_placedSet _ b (f := fun br => { br with iOffset := meanR (L.bridges.get b).offsets, offsOk := true })
          rfl)
      exact (started.trans (Lane.onFe_placedSet _ b fun hd => hd)).trans (Lane.onGate_placedSet ..)

theorem Lane.settleBoundary_placedSet (L : Lane) (b n : Fin 8) : L.PlacedSet b (L.settleBoundary b n) := by
  have ended := L.testEnded_placedSet b
  unfold Lane.settleBoundary
  dsimp only
  rw [← Lane.testEnded]
  split
  · exact ended.trans (Lane.setPrecharge_placedSet ..)
  · split
    · exact ended.trans (Lane.enterModulate_placedSet ..)
    · split
      · exact (ended.trans (Lane.startLoop_placedSet ..)).trans (Lane.setPrecharge_placedSet ..)
      · exact ((ended.trans (Lane.setMode_placedSet ..)).trans (Lane.onBr_placedSet _ b rfl)).trans
          (Lane.setPrecharge_placedSet ..)

theorem Lane.takeDue_placedSet (L : Lane) (b : Fin 8) : L.PlacedSet b (L.takeDue b) := by
  unfold Lane.takeDue
  split
  · exact .refl b L
  · exact (L.onFe_placedSet b fun _ => rfl).trans (Lane.onBr_placedSet _ b rfl)
  · exact L.onFe_placedSet b fun _ => rfl

/-- At a boundary a waiting change of the angle source is taken. -/
theorem Lane.takeDue_due (L : Lane) (b : Fin 8) : ((L.takeDue b).fes.get b).due = none := by
  unfold Lane.takeDue
  split <;> simp [*]

theorem Lane.sourceStep_placedSet (L : Lane) (b n : Fin 8) : L.PlacedSet b (L.sourceStep b n) := by
  have turned (g : FrontEnd → FrontEnd) (h : (g (L.fes.get b)).due = (L.fes.get b).due) : L.PlacedSet b (L.onFe b g) :=
    L.onFe_placedSet b h.trans
  unfold Lane.sourceStep
  dsimp only
  split
  · exact .ite (turned _ rfl) (.refl b L)
  · exact .ite (turned _ rfl) (.refl b L)
  · exact .ite ((turned _ rfl).trans (Lane.onBr_placedSet _ b rfl)) (.refl b L)
  · exact .ite (turned _ rfl) (.refl b L)
  · exact turned _ rfl
  · exact .refl b L

/-- The part of a boundary that follows the carrier: edges, angle source and mode of the new period; `old` is the
bridge of the period that ended. -/
def Lane.enterPeriod (L : Lane) (b n : Fin 8) (old : Bridge) (bs : Tri3 Bool) : Lane :=
  let M := (L.onGate b fun g => g.supplies old.mode bs).loadEdges b old
  let M := M.onFe b fun f =>
    { f with bissPending := M.bissMode n && !f.sensIsol, bissNs := (M.bridges.get b).startNs }
  ((M.takeDue b).sourceStep b n).settleBoundary b n

theorem Lane.enterPeriod_placedSet (L : Lane) (b n : Fin 8) (old : Bridge) (bs : Tri3 Bool) :
    L.PlacedSet b (L.enterPeriod b n old bs) ∧ ((L.enterPeriod b n old bs).fes.get b).due = none := by
  unfold Lane.enterPeriod
  dsimp only
  generalize hg : (L.onGate b fun g => g.supplies old.mode bs) = G
  generalize hf : (G.loadEdges b old).onFe b _ = F
  have edges : L.PlacedSet b F := by
    subst hf hg
    exact ((L.onGate_placedSet b _).trans (Lane.loadEdges_placedSet ..)).trans (Lane.onFe_placedSet _ b fun hd => hd)
  have moded : (F.takeDue b).PlacedSet b (((F.takeDue b).sourceStep b n).settleBoundary b n) :=
    (Lane.sourceStep_placedSet ..).trans (Lane.settleBoundary_placedSet ..)
  exact ⟨(edges.trans (F.takeDue_placedSet b)).trans moded, moded.due (F.takeDue_due b)⟩

/-! ### PWM_PERIOD_BOUNDARY -/

theorem execPwmPeriodBoundary_of_runs {s : State} {l : LaneId} {b n : Fin 8} (hact : (s.lane l).actOf b = some n)
    (ha : (s.lane l).alive = true) (hr : (s.lane l).carrierRuns b = true) (ns : Nat) (frac : Rat) (bs : Tri3 Bool) :
    execPwmPeriodBoundary l b ns frac bs s = .next (s.on l fun L =>
      ((L.advance ns).carrierStep b n ns frac).enterPeriod b n (L.bridges.get b) bs) :=
  congrArg Host.Outcome.next (s.on_congr l (by simp only [hact, ha, hr]; rfl))

theorem execPwmPeriodBoundary_of_idle {s : State} {l : LaneId} {b : Fin 8} (h : (s.lane l).actOf b = none ∨
      (s.lane l).alive = false ∨ (s.lane l).carrierRuns b = false) (ns : Nat) (frac : Rat) (bs : Tri3 Bool) :
    execPwmPeriodBoundary l b ns frac bs s = .next s := by
  refine congrArg Host.Outcome.next (s.on_id l ?_)
  cases hact : (s.lane l).actOf b with
  | none => rfl
  | some n => exact if_pos (h.resolve_left (by simp [hact]))

theorem Lane.advance_ns (L : Lane) (ns : Nat) : (L.advance ns).tb.ns = max L.tb.ns ns := by
  unfold Lane.advance
  split
  · next h => exact (max_eq_right h.le).symm
  · next h => exact (max_eq_left (not_lt.1 h)).symm

/-! ### OSC_MEASURE and BRIDGE_MODE_REQUEST (R123, R146) -/

/-- The lane with a rate of the oscillator taken in. -/
def Lane.withRate (L : Lane) (hz : Rat) (ok : Bool) : Lane := { L with clk := { L.clk with pwmHz := hz, pwmOk := ok } }

theorem execOscMeasure_of_alive {s : State} {l : LaneId} {hz : Rat} {ok : Bool} (ha : (s.lane l).alive = true)
    (hok : (decide (156800000 ≤ hz) && decide (hz ≤ 163200000)) = ok) :
    execOscMeasure l hz s = .next (s.on l fun L =>
      if ok then L.withRate hz ok else (L.withRate hz ok).laneOut 0x2FE4) := by
  subst hok
  exact congrArg Host.Outcome.next (s.on_congr l (if_pos ha))

theorem execBridgeModeRequest_of_served {s : State} {l : LaneId} {b : Fin 8} (h : (s.lane l).served b = true)
    (rank3 on : Bool) :
    execBridgeModeRequest l b rank3 on s = .next (s.on l fun L =>
      (L.onBr b fun br => if rank3 then { br with short := on } else { br with off := on }).settle b) :=
  congrArg Host.Outcome.next (s.on_congr l (if_pos h))

/-- Settles O15: the carrier step fixes phase and LOCK, and the rest of the boundary leaves them (R121-R125, R147). -/
theorem periodBoundary : Obligations.PeriodBoundary := fun s l => by
  refine ⟨fun b n ns frac bs hact ha hr => ?_, fun b ns frac bs h => execPwmPeriodBoundary_of_idle h ns frac bs,
    fun hz ha hlo hhi => execOscMeasure_of_alive (ok := true) ha (by simp [hlo, hhi]),
    fun hz ha h => execOscMeasure_of_alive (ok := false) ha (by simpa [imp_iff_not_or] using h),
    fun hz ha => congrArg Host.Outcome.next (s.on_id l (if_neg (by simp [ha]))),
    fun b on h => ⟨execBridgeModeRequest_of_served h true on, execBridgeModeRequest_of_served h false on⟩,
    fun b r on h => congrArg Host.Outcome.next (s.on_id l (if_neg (by simp [h])))⟩
  refine ⟨_, execPwmPeriodBoundary_of_runs hact ha hr ns frac bs, s.onlyLane_on l _, ?_⟩
  rw [State.lane_on_same]
  generalize s.lane l = L
  have stepped := (L.advance ns).carrierStep_onlySet b n ns frac
  have hcarrier := (L.advance ns).carrierStep_carrier b n ns frac
  obtain ⟨placed, hdue⟩ := ((L.advance ns).carrierStep b n ns frac).enterPeriod_placedSet b n (L.bridges.get b) bs
  have htarget : (L.advance ns).carrierTarget = L.carrierTarget :=
    Lane.carrierTarget_congr (L.advance_id ns) (L.advance_dict ns) (L.advance_vote ns)
  have all := stepped.trans placed.toOnlySet
  rw [← placed.carrier, lockRun_reaches] at hcarrier
  simp only [Lane.phaseErr, htarget, Lane.advance_bridges, Lane.advance_dc, Bridge.carrier, Prod.mk.injEq] at hcarrier
  obtain ⟨hstarted, hstart, herr, hlock, hvdc⟩ := hcarrier
  refine ⟨(congrArg TimeBase.ns all.tb).trans (L.advance_ns ns), hstarted, fun h => ?_, fun h => ?_, ?_, hvdc, hdue,
    fun c hc => (all.bridges c hc).trans (by rw [L.advance_bridges]), all.vote.trans (L.advance_vote ns),
    all.svc.trans (L.advance_svc ns)⟩
  · exact ⟨hstart.trans (if_pos h), herr.trans (if_pos h)⟩
  · exact ⟨hstart.trans (if_neg (by simp [h])), herr.trans (if_neg (by simp [h]))⟩
  · rw [hlock, herr]

end Sys2Proof.Machine
end

section
/-! PROOFS, one period's computation. -/
namespace Sys2Proof.Machine

/-! ### The duties loaded (R137, R139, R141) -/

theorem Lane.loadPeriod_bridge (L : Lane) (b n : Fin 8) (br : Bridge) :
    (L.loadPeriod b n br).bridges.get b = L.loadDuty b n br := by
  unfold Lane.loadPeriod
  simp only [apply_ite Lane.bridges, Lane.raise_bridges, ite_self, Lane.onBr_same]

theorem Lane.loadPeriod_fes (L : Lane) (b n : Fin 8) (br : Bridge) : (L.loadPeriod b n br).fes = L.fes := by
  unfold Lane.loadPeriod
  simp only [apply_ite Lane.fes, Lane.raise_fes, ite_self, Lane.onBr_fes]

/-! ### The current loop (R132, R137, R145) -/

/-- What a period of the loop leaves in its bridge: edges computed, the mode and the three winding currents. -/
theorem Lane.computeLoop_bridge (L : Lane) (b n : Fin 8) (q : Samples) (ctr : Nat) :
    ((L.computeLoop b n q ctr).bridges.get b).computed = true ∧
      ((L.computeLoop b n q ctr).bridges.get b).mode = (L.bridges.get b).mode ∧
      ((L.computeLoop b n q ctr).bridges.get b).iU = ((L.bridges.get b).currents q).u ∧
      ((L.computeLoop b n q ctr).bridges.get b).iV = ((L.bridges.get b).currents q).v ∧
      ((L.computeLoop b n q ctr).bridges.get b).iW = ((L.bridges.get b).currents q).w := by
  have kept (M : Lane) (tb id iq th w iqs t ahead inj : Rat) (hM : M.bridges = L.bridges) :
      (if (L.bridges.get b).vdc < 1 then (L.bridges.get b).zeroVector
        else (M.fieldView tb).loop b n id iq th w iqs t ahead inj).mode = (L.bridges.get b).mode := by
    split
    · rfl
    · change ((M.fieldView tb).bridges.get b).mode = _
      rw [Lane.fieldView, apply_ite Lane.bridges, ite_self, hM]
  unfold Lane.computeLoop
  dsimp only
  rw [Lane.kilnCurrent]
  dsimp only
  rw [Lane.loadPeriod_bridge]
  exact ⟨rfl, kept _ _ _ _ _ _ _ _ _ _ rfl, rfl, rfl, rfl⟩

theorem Lane.computeLoop_asrc (L : Lane) (b n : Fin 8) (q : Samples) (ctr : Nat) :
    ((L.computeLoop b n q ctr).fes.get b).asrc = (L.fes.get b).asrc := by
  have kept (tb : Rat) (i : Rat × Rat) (we t : Rat) :
      (if asrcObserves (L.fes.get b).asrc then (L.fieldView tb).observe b n i we t else L.fes.get b).asrc =
        (L.fes.get b).asrc := by
    split
    · change ((L.fieldView tb).fes.get b).asrc = _
      rw [Lane.fieldView, apply_ite Lane.fes, ite_self]
    · rfl
  unfold Lane.computeLoop
  dsimp only
  rw [Lane.kilnCurrent]
  dsimp only
  rw [Lane.loadPeriod_fes, Lane.onFe_same]
  exact kept ..

/-- The middle phase carries what the other two leave: the three currents add to 0 (R137). -/
theorem Bridge.currents_sum (br : Bridge) (q : Samples) (huv : br.loadedOrd.u ≠ br.loadedOrd.v)
    (huw : br.loadedOrd.u ≠ br.loadedOrd.w) (hvw : br.loadedOrd.v ≠ br.loadedOrd.w) :
    (br.currents q).u + (br.currents q).v + (br.currents q).w = 0 := by
  unfold Bridge.currents
  generalize br.loadedOrd.u = h at huv huw
  generalize br.loadedOrd.v = m at huv hvw
  generalize br.loadedOrd.w = l at huw hvw
  cases h <;> cases m <;> cases l <;> simp_all [Tri3.set]

/-! ### What follows the window (R152, R173) -/

/-- A set on its own sensor follows no back-EMF. -/
theorem Lane.followEmf_of_sensor {L : Lane} {b : Fin 8} (h : (L.fes.get b).asrc = .sensor) : L.followEmf b = L := by
  unfold Lane.followEmf
  split
  · rfl
  · exact if_neg (by simp [h])

/-- The offset samples of bridge `b` and their mean stay. -/
def Lane.OffsetsKept (b : Fin 8) (L M : Lane) : Prop :=
  (M.bridges.get b).offsets = (L.bridges.get b).offsets ∧ (M.bridges.get b).iOffset = (L.bridges.get b).iOffset

theorem Lane.OffsetsKept.ite {b : Fin 8} {L M N : Lane} {c : Prop} [Decidable c] (h : L.OffsetsKept b M)
    (h' : L.OffsetsKept b N) : L.OffsetsKept b (if c then M else N) := by
  split
  · exact h
  · exact h'

theorem Lane.OffsetsKept.settle {b : Fin 8} {L M : Lane} (h : L.OffsetsKept b M) : L.OffsetsKept b (M.settle b) := by
  unfold Lane.OffsetsKept
  rcases M.settle_bridge b with hs | hs <;> rw [hs] <;> exact h

theorem Lane.request_offsetsKept (L : Lane) (b : Fin 8) (short reacq : Bool) :
    L.OffsetsKept b (L.onBr b fun br => br.request short reacq) := by
  rw [Lane.OffsetsKept, Lane.onBr_same]
  exact ⟨rfl, rfl⟩

theorem Lane.followEmf_offsetsKept (L : Lane) (b : Fin 8) : L.OffsetsKept b (L.followEmf b) := by
  have same : L.OffsetsKept b L := ⟨rfl, rfl⟩
  unfold Lane.followEmf
  split
  · exact same
  · have requested := L.request_offsetsKept b
    exact .ite (.ite same (OffsetsKept.settle (.ite (requested ..) (.ite (requested ..) (requested ..))))) same

/-! ### PERIOD_COMPUTE -/

theorem Lane.compute_of_disabled {L : Lane} {b : Fin 8} (hmode : (L.bridges.get b).mode = .disabled)
    (hsample : (L.bridges.get b).noSample = false) (n : Fin 8) (q : Samples) (ctr : Nat) :
    L.compute b n q ctr = (((L.onBr b fun br => br.markSat (L.samplesFull b q)).onBr b fun br =>
      br.offsetSample (sampleMean q.i1)).followEmf b).showAngles b n := by
  simp [Lane.compute, hmode, hsample, modeLoops]

theorem Lane.compute_of_modulate {L : Lane} {b : Fin 8} (hmode : (L.bridges.get b).mode = .modulate)
    (hsample : (L.bridges.get b).noSample = false) (n : Fin 8) (q : Samples) (ctr : Nat) :
    L.compute b n q ctr = ((L.computeLoop b n q ctr).followEmf b).showAngles b n := by
  simp [Lane.compute, hmode, hsample, modeLoops]

/-- A DISABLED bridge averages its last offset samples (R145). -/
theorem Lane.compute_offsets {L : Lane} {b : Fin 8} (hmode : (L.bridges.get b).mode = .disabled)
    (hsample : (L.bridges.get b).noSample = false) (n : Fin 8) (q : Samples) (ctr : Nat) :
    ((L.compute b n q ctr).bridges.get b).offsets = (sampleMean q.i1 :: (L.bridges.get b).offsets).take 64 ∧
      ((L.compute b n q ctr).bridges.get b).iOffset =
        meanR ((sampleMean q.i1 :: (L.bridges.get b).offsets).take 64) := by
  rw [Lane.compute_of_disabled hmode hsample]
  obtain ⟨hoffsets, hmean⟩ := Lane.followEmf_offsetsKept
    ((L.onBr b fun br => br.markSat (L.samplesFull b q)).onBr b fun br => br.offsetSample (sampleMean q.i1)) b
  rw [Lane.onBr_same, Lane.onBr_same] at hoffsets hmean
  exact ⟨hoffsets, hmean⟩

/-- A bridge on its own sensor is left as the loop leaves it. -/
theorem Lane.compute_bridges_of_sensor {L : Lane} {b : Fin 8} (hmode : (L.bridges.get b).mode = .modulate)
    (hsample : (L.bridges.get b).noSample = false) (hsrc : (L.fes.get b).asrc = .sensor) (n : Fin 8) (q : Samples)
    (ctr : Nat) : (L.compute b n q ctr).bridges = (L.computeLoop b n q ctr).bridges := by
  rw [Lane.compute_of_modulate hmode hsample, Lane.followEmf_of_sensor ((L.computeLoop_asrc ..).trans hsrc)]
  rfl

theorem execPeriodCompute_of_started {s : State} {l : LaneId} {b n : Fin 8} (hact : (s.lane l).actOf b = some n)
    (ha : (s.lane l).alive = true) (hs : ((s.lane l).bridges.get b).started = true) (q : Samples) :
    execPeriodCompute l b q s =
      .next { s.on l fun L => L.compute b n q s.freeCtr with freeCtr := s.freeCtr + 1 } := by
  simp [execPeriodCompute, hact, ha, hs]

theorem execPeriodCompute_of_idle {s : State} {l : LaneId} {b : Fin 8} (h : (s.lane l).actOf b = none ∨
      (s.lane l).alive = false ∨ ((s.lane l).bridges.get b).started = false) (q : Samples) :
    execPeriodCompute l b q s = .next s := by
  unfold execPeriodCompute
  dsimp only
  split
  · rfl
  · next hact => exact if_neg (by simpa [imp_iff_not_or, hact] using h)

/-- Settles O17: one window of one bridge, its offset or its loop by its mode (R132, R137, R145, R147). -/
theorem periodCompute : Obligations.PeriodCompute := fun s l b q => by
  refine ⟨fun n hact ha hs => ?_, fun h => execPeriodCompute_of_idle h q⟩
  refine ⟨_, execPeriodCompute_of_started hact ha hs q, rfl, rfl, rfl, fun p hp =>
    s.lane_on_ne (fun L => L.compute b n q s.freeCtr) hp, ?_⟩
  have computed : State.lane { s.on l fun L => L.compute b n q s.freeCtr with freeCtr := s.freeCtr + 1 } l =
      (s.lane l).compute b n q s.freeCtr :=
    s.lane_on_same l fun L => L.compute b n q s.freeCtr
  rw [computed]
  generalize s.lane l = L
  refine ⟨(L.compute_voteKept b n q s.freeCtr).2, fun hmode hsample => Lane.compute_offsets hmode hsample n q _,
    fun hmode hsample hsrc => ?_⟩
  obtain ⟨hdone, hkept, hu, hv, hw⟩ := L.computeLoop_bridge b n q s.freeCtr
  rw [Lane.compute_bridges_of_sensor hmode hsample hsrc]
  exact ⟨hdone, hkept.trans hmode, fun huv huw hvw => by rw [hu, hv, hw, Bridge.currents_sum _ _ huv huw hvw]⟩

end Sys2Proof.Machine
end

section
/-! PROOFS, the loss of the rotor and the isolation of a sensor. -/
namespace Sys2Proof.Machine

/-! ### What is kept of a sensor (R164) -/

theorem Lane.actOf_congr {L M : Lane} (hid : M.id = L.id) (hdict : M.dict = L.dict) : M.actOf = L.actOf := by
  funext b
  unfold Lane.actOf Lane.bridgeOf
  rw [Lane.obj_congr hid hdict, hid]

/-- What a front end holds of its sensor: whether it is isolated, and what its frames and residuals left. -/
structure SensorPart where
  isol : Bool
  phi : Rat
  revs : Int
  bissRun : Nat
  pending : Bool
  lineNs : Nat
  neRun : Nat
  warn : Bool
  resRun : Nat

/-- The part of a front end that its sensor gives. -/
def FrontEnd.sensed (f : FrontEnd) : SensorPart :=
  { isol := f.sensIsol, phi := f.phi, revs := f.revs, bissRun := f.bissRun, pending := f.bissPending
    lineNs := f.lineNs, neRun := f.neRun, warn := f.warn, resRun := f.resRun }

/-- An operation on winding set `b` that leaves what its front end holds of the sensor. -/
structure Lane.SensorKept (b : Fin 8) (L M : Lane) : Prop extends Lane.OnlySet b L M where
  sensed : (M.fes.get b).sensed = (L.fes.get b).sensed

theorem Lane.SensorKept.refl (b : Fin 8) (L : Lane) : L.SensorKept b L := ⟨.refl b L, rfl⟩

theorem Lane.SensorKept.trans {b : Fin 8} {L M N : Lane} (h : L.SensorKept b M) (h' : M.SensorKept b N) :
    L.SensorKept b N :=
  ⟨h.toOnlySet.trans h'.toOnlySet, h'.sensed.trans h.sensed⟩

theorem Lane.SensorKept.ite {b : Fin 8} {L M N : Lane} {c : Prop} [Decidable c] (h : L.SensorKept b M)
    (h' : L.SensorKept b N) : L.SensorKept b (if c then M else N) := by
  split
  · exact h
  · exact h'

theorem Lane.onFe_sensorKept (L : Lane) (b : Fin 8) {f : FrontEnd → FrontEnd}
    (h : (f (L.fes.get b)).sensed = (L.fes.get b).sensed) : L.SensorKept b (L.onFe b f) :=
  ⟨L.onFe_onlySet b f, by rwa [L.onFe_same]⟩

theorem Lane.onBr_sensorKept (L : Lane) (b : Fin 8) (f : Bridge → Bridge) : L.SensorKept b (L.onBr b f) :=
  ⟨L.onBr_onlySet b f, rfl⟩

theorem Lane.raise_sensorKept (L : Lane) (b : Fin 8) (code level detId detVal : Nat) :
    L.SensorKept b (L.raise code level detId detVal) :=
  ⟨L.raise_onlySet b code level detId detVal, rfl⟩

theorem Lane.settle_sensorKept (L : Lane) (b : Fin 8) : L.SensorKept b (L.settle b) :=
  ⟨(L.settle_placedSet b).toOnlySet, by rw [L.settle_fes]⟩

theorem Lane.isolateSet_sensorKept (L : Lane) (b : Fin 8) (code : Nat) : L.SensorKept b (L.isolateSet b code) := by
  cases h : L.actOf b with
  | none => rw [Lane.isolateSet_of_unmapped h]; exact .refl b L
  | some n =>
    obtain ⟨short, heq⟩ := Lane.isolateSet_of_mapped h code
    rw [heq]
    exact ((L.onFe_sensorKept b rfl).trans (Lane.onBr_sensorKept ..)).trans (Lane.settle_sensorKept ..)

theorem Lane.isolate_sensorKept (L : Lane) (b : Fin 8) (code : Nat) : L.SensorKept b (L.isolate b code) :=
  (L.raise_sensorKept b code 2 0 0).trans (Lane.isolateSet_sensorKept ..)

/-! ### The loss of the rotor (R172, R173, R178) -/

/-- The front end of a set that loses its rotor with these losses behind it (R172, R173, R178). -/
def FrontEnd.lost (f : FrontEnd) (losses : List Nat) (ns : Nat) (short : Bool) : FrontEnd :=
  { f with losses := losses, lostNs := ns, acqRun := 0, acqLast := none, acqW := none, obsOk := false, okRun := 0
           due := none, hfiPhase := 0, asrc := if short then .lost else .reacquire }

/-- The losses of the preceding second, the one at hand not counted (R178). -/
def Lane.pastLosses (L : Lane) (b : Fin 8) : List Nat := recent L.tb.mono 1000000000 (L.fes.get b).losses

/-- The lane with the loss of a rotor noted in its front end, the bridge not yet placed. -/
def Lane.lossNoted (L : Lane) (b n : Fin 8) (w : Rat) (raiseIt : Bool) : Lane :=
  (if raiseIt then L.raise (feCode b 0x0A) 0 else L).onFe b fun f =>
    f.lost (L.tb.mono :: L.pastLosses b) L.tb.ns (L.chooseShort n (some w))

/-- The third loss within a second isolates the set, an earlier one requests it short or all-off. -/
theorem Lane.loseRotor_eq (L : Lane) (b n : Fin 8) (w : Rat) (raiseIt : Bool) :
    L.loseRotor b n w raiseIt =
      if 3 ≤ (L.pastLosses b).length + 1 then (L.lossNoted b n w raiseIt).isolate b (feCode b 0x0B)
      else ((L.lossNoted b n w raiseIt).onBr b fun br => br.request (L.chooseShort n (some w)) false).settle b :=
  rfl

theorem Lane.lossNoted_sensorKept (L : Lane) (b n : Fin 8) (w : Rat) (raiseIt : Bool) :
    L.SensorKept b (L.lossNoted b n w raiseIt) :=
  (Lane.SensorKept.ite (L.raise_sensorKept ..) (.refl b L)).trans (Lane.onFe_sensorKept _ b rfl)

theorem Lane.loseRotor_sensorKept (L : Lane) (b n : Fin 8) (w : Rat) (raiseIt : Bool) :
    L.SensorKept b (L.loseRotor b n w raiseIt) := by
  have noted := L.lossNoted_sensorKept b n w raiseIt
  rw [Lane.loseRotor_eq]
  exact .ite (noted.trans (Lane.isolate_sensorKept ..))
    ((noted.trans (Lane.onBr_sensorKept ..)).trans (Lane.settle_sensorKept ..))

/-! ### The isolation of a sensor (R164) -/

theorem Lane.leaveSensor_sensorKept (L : Lane) (b n : Fin 8) : L.SensorKept b (L.leaveSensor b n) := by
  unfold Lane.leaveSensor
  exact .ite (L.onFe_sensorKept b rfl) (.ite (L.onFe_sensorKept b rfl) (L.loseRotor_sensorKept ..))

/-- A sensor already isolated is not isolated again. -/
theorem Lane.isolateSensor_of_isolated {L : Lane} {b : Fin 8} (h : (L.fes.get b).sensIsol = true) (kind : Nat) :
    L.isolateSensor b kind = L :=
  if_pos h

/-- The lane with the sensor of a front end marked isolated under its fault. -/
def Lane.sensorMarked (L : Lane) (b : Fin 8) (kind : Nat) : Lane :=
  (L.raise (feCode b kind) 2).onFe b fun f => { f with sensIsol := true }

theorem Lane.sensorMarked_onlySet (L : Lane) (b : Fin 8) (kind : Nat) : L.OnlySet b (L.sensorMarked b kind) :=
  (L.raise_onlySet ..).trans (Lane.onFe_onlySet ..)

/-- The sensor of a mapped front end is marked isolated, and its set leaves it where it stood on it. -/
theorem Lane.isolateSensor_of_mapped {L : Lane} {b n : Fin 8} (hact : L.actOf b = some n)
    (h : (L.fes.get b).sensIsol = false) (kind : Nat) :
    L.isolateSensor b kind =
      if (L.fes.get b).asrc = .sensor ∨ (L.fes.get b).asrc = .hfiCheck then (L.sensorMarked b kind).leaveSensor b n
      else L.sensorMarked b kind := by
  have hact : (L.raise (feCode b kind) 2).actOf b = some n := hact
  rw [Lane.isolateSensor, if_neg (by simp [h]), Lane.dropSensor, hact]
  rfl

theorem Lane.isolateSensor_sensorKept {L : Lane} {b n : Fin 8} (hact : L.actOf b = some n)
    (h : (L.fes.get b).sensIsol = false) (kind : Nat) :
    (L.sensorMarked b kind).SensorKept b (L.isolateSensor b kind) := by
  rw [Lane.isolateSensor_of_mapped hact h]
  exact .ite (Lane.leaveSensor_sensorKept ..) (.refl b _)

end Sys2Proof.Machine
end

section
/-! PROOFS, resolver pairs and encoder frames. -/
namespace Sys2Proof.Machine

/-! ### One front end of a lane -/

theorem Oct.set_set {α : Type} (o : Oct α) (n : Fin 8) (v w : α) : (o.set n v).set n w = o.set n w := by
  fin_cases n <;> rfl

/-- Two changes of one front end are one change. -/
theorem Lane.onFe_onFe (L : Lane) (b : Fin 8) (f g : FrontEnd → FrontEnd) :
    (L.onFe b f).onFe b g = L.onFe b fun x => g (f x) := by
  rw [Lane.onFe, Lane.onFe_same]
  simp only [Lane.onFe, Oct.set_set]

/-- Nothing but front end `b` changed. -/
def Lane.OnlyFe (b : Fin 8) (L M : Lane) : Prop := ∃ f, M = L.onFe b f

theorem Lane.OnlyFe.trans {b : Fin 8} {L M N : Lane} (h : L.OnlyFe b M) (h' : M.OnlyFe b N) : L.OnlyFe b N := by
  obtain ⟨f, rfl⟩ := h
  obtain ⟨g, rfl⟩ := h'
  exact ⟨_, L.onFe_onFe b f g⟩

theorem Lane.OnlyFe.ite {b : Fin 8} {L M N : Lane} {c : Prop} [Decidable c] (h : L.OnlyFe b M)
    (h' : L.OnlyFe b N) : L.OnlyFe b (if c then M else N) := by
  split
  · exact h
  · exact h'

theorem Lane.OnlyFe.fes_ne {b c : Fin 8} {L M : Lane} (h : L.OnlyFe b M) (hc : c ≠ b) :
    M.fes.get c = L.fes.get c := by
  obtain ⟨f, rfl⟩ := h
  exact L.onFe_ne f hc

theorem Lane.OnlyFe.bridges {b : Fin 8} {L M : Lane} (h : L.OnlyFe b M) : M.bridges = L.bridges := by
  obtain ⟨f, rfl⟩ := h
  rfl

theorem Lane.OnlyFe.flog {b : Fin 8} {L M : Lane} (h : L.OnlyFe b M) : M.flog = L.flog := by
  obtain ⟨f, rfl⟩ := h
  rfl

theorem Lane.OnlyFe.onlySet {b : Fin 8} {L M : Lane} (h : L.OnlyFe b M) : L.OnlySet b M := by
  obtain ⟨f, rfl⟩ := h
  exact L.onFe_onlySet b f

theorem Lane.showAngles_onlyFe (L : Lane) (b n : Fin 8) : L.OnlyFe b (L.showAngles b n) := by
  unfold Lane.showAngles
  exact ⟨_, rfl⟩

/-! ### Resolver pairs (R157, R158, R160) -/

/-- What the amplitude of pairs leaves in a front end: RES_AMP, the half period, the flag and the counts of withheld
pairs. -/
def FrontEnd.pairs (f : FrontEnd) : Rat × Bool × Bool × Nat × Nat :=
  (f.resAmp, f.excHalf, f.ampFlag, f.lowRun, f.highRun)

theorem Lane.track_pairs (L : Lane) (b : Fin 8) (sinV cosV : Rat) :
    ((L.track b sinV cosV).fes.get b).pairs =
      ((L.fes.get b).resAmp, (L.fes.get b).excHalf, (L.fes.get b).ampFlag, 0, 0) := by
  rw [Lane.track, Lane.onFe_same]
  rfl

theorem Lane.coast_pairs (L : Lane) (b : Fin 8) (low : Bool) :
    ((L.coast b low).fes.get b).pairs =
      ((L.fes.get b).resAmp, (L.fes.get b).excHalf, true,
        if low then (L.fes.get b).lowRun + (L.fes.get b).highRun + 1 else 0,
        if low then 0 else (L.fes.get b).lowRun + (L.fes.get b).highRun + 1) := by
  rw [Lane.coast, Lane.onFe_same]
  rfl

theorem Lane.showAngles_pairs (L : Lane) (b n : Fin 8) :
    ((L.showAngles b n).fes.get b).pairs = (L.fes.get b).pairs := by
  rw [Lane.showAngles, Lane.onFe_same]
  rfl

/-- Square of the amplitude of a pair against full amplitude (R158). -/
def Lane.pairRatio (L : Lane) (b : Fin 8) (sinV cosV amp : Rat) : Rat :=
  (sinV * sinV + cosV * cosV) / (L.real (L.brIdx b 1) 3 * amp * (L.real (L.brIdx b 1) 3 * amp))

/-- The lane with the amplitude of a pair noted and its half period ended. -/
def Lane.pairNoted (L : Lane) (b : Fin 8) (a2 : Rat) : Lane :=
  L.onFe b fun f => { f with resAmp := Config.sqrt a2, excHalf := !f.excHalf }

theorem Lane.takePair_eq (L : Lane) (b n : Fin 8) (sinV cosV amp : Rat) :
    L.takePair b n sinV cosV amp =
      (if L.pairRatio b sinV cosV amp < 1 / 4 then (L.pairNoted b (L.pairRatio b sinV cosV amp)).coast b true
        else if 9 / 4 < L.pairRatio b sinV cosV amp then
          (L.pairNoted b (L.pairRatio b sinV cosV amp)).coast b false
        else (L.pairNoted b (L.pairRatio b sinV cosV amp)).track b sinV cosV).showAngles b n :=
  rfl

theorem Lane.coast_onlyFe (L : Lane) (b : Fin 8) (low : Bool) : L.OnlyFe b (L.coast b low) := by
  unfold Lane.coast
  exact ⟨_, rfl⟩

theorem Lane.track_onlyFe (L : Lane) (b : Fin 8) (sinV cosV : Rat) : L.OnlyFe b (L.track b sinV cosV) := by
  unfold Lane.track
  exact ⟨_, rfl⟩

theorem Lane.takePair_onlyFe (L : Lane) (b n : Fin 8) (sinV cosV amp : Rat) :
    L.OnlyFe b (L.takePair b n sinV cosV amp) := by
  have noted (a2 : Rat) : L.OnlyFe b (L.pairNoted b a2) := ⟨_, rfl⟩
  rw [Lane.takePair_eq]
  exact ((noted _).trans (.ite (Lane.coast_onlyFe ..) (.ite (Lane.coast_onlyFe ..) (Lane.track_onlyFe ..)))).trans
    (Lane.showAngles_onlyFe ..)

/-- A pair below half or above one and a half times full amplitude is withheld and counted, any other ends the
counts. -/
theorem Lane.takePair_pairs (L : Lane) (b n : Fin 8) (sinV cosV amp : Rat) :
    ((L.takePair b n sinV cosV amp).fes.get b).pairs =
      (Config.sqrt (L.pairRatio b sinV cosV amp), !(L.fes.get b).excHalf,
        if L.pairRatio b sinV cosV amp < 1 / 4 then (true, (L.fes.get b).lowRun + (L.fes.get b).highRun + 1, 0)
        else if 9 / 4 < L.pairRatio b sinV cosV amp then (true, 0, (L.fes.get b).lowRun + (L.fes.get b).highRun + 1)
        else ((L.fes.get b).ampFlag, 0, 0)) := by
  rw [Lane.takePair_eq, Lane.showAngles_pairs]
  split
  · rw [Lane.coast_pairs, Lane.pairNoted, Lane.onFe_same]
    rfl
  · split
    · rw [Lane.coast_pairs, Lane.pairNoted, Lane.onFe_same]
      rfl
    · rw [Lane.track_pairs, Lane.pairNoted, Lane.onFe_same]

theorem execResolverPair_of_taken {s : State} {l : LaneId} {b n : Fin 8} {f : Nat} {amp : Rat}
    (hact : (s.lane l).actOf b = some n) (hexc : (s.lane l).excitation b = some (f, amp))
    (hisol : ((s.lane l).fes.get b).sensIsol = false) (htest : (s.lane l).lptOn (24 + b.val) = false)
    (x y : List Rat) :
    execResolverPair l b x y s =
      .next (s.on l fun L => L.takePair b n (L.demod b x) (L.demod b y) amp) :=
  congrArg Host.Outcome.next (s.on_congr l (by simp only [hact, hexc, hisol, htest]; rfl))

theorem execResolverPair_of_ignored {s : State} {l : LaneId} {b : Fin 8} (h : (s.lane l).excitation b = none ∨
      ((s.lane l).fes.get b).sensIsol = true ∨ (s.lane l).lptOn (24 + b.val) = true) (x y : List Rat) :
    execResolverPair l b x y s = .next s := by
  refine congrArg Host.Outcome.next (s.on_id l ?_)
  split
  · next hexc => exact if_pos (by simpa [hexc] using h)
  · rfl

/-! ### Encoder frames (R161-R163) -/

/-- The lane waits for the answer to a request of a front end (R161, R162). -/
def Lane.bissAwaits (L : Lane) (b n : Fin 8) : Bool :=
  L.alive && L.bissMode n && (L.fes.get b).bissPending && !(L.fes.get b).sensIsol && !L.lptOn (24 + b.val)

theorem Lane.bissAwaits_of {L : Lane} {b n : Fin 8} (halive : L.alive = true) (hmode : L.bissMode n = true)
    (hpend : (L.fes.get b).bissPending = true) (hisol : (L.fes.get b).sensIsol = false)
    (htest : L.lptOn (24 + b.val) = false) : L.bissAwaits b n = true := by
  simp [Lane.bissAwaits, halive, hmode, hpend, hisol, htest]

/-- What a frame carries as the encoder of actuator `n` is configured (R161). -/
def Lane.frameData (L : Lane) (n : Fin 8) (pos : List Bool) (nE nW : Bool) (crc : List Bool) : BissData :=
  bissData (L.obj (actIdx n 2) 4) (L.obj (actIdx n 2) 3) (pos ++ [nE, nW] ++ crc)

/-- The lane with nW of a frame judged. -/
def Lane.bissWarned (L : Lane) (b : Fin 8) (nW : Bool) : Lane :=
  if nW then L else (L.onFe b fun f => { f with warn := true }).raise (feCode b 0x0D) 0

/-- The lane with the run of frames with nE low judged. -/
def Lane.bissJudged (L : Lane) (b : Fin 8) : Lane := if 2 ≤ (L.fes.get b).neRun then L.isolateSensor b 6 else L

/-- The lane after an accepted frame. -/
def Lane.bissAccept (L : Lane) (b n : Fin 8) (d : BissData) (delay : Nat) : Lane :=
  (((L.bissTake b n d delay).bissWarned b d.nW).bissJudged b).showAngles b n

/-- The frames with nE low in a row, the one at hand counted (R163). -/
def BissData.neRun (d : BissData) (f : FrontEnd) : Nat := if d.nE then 0 else f.neRun + 1

theorem Lane.bissTake_onlyFe (L : Lane) (b n : Fin 8) (d : BissData) (delay : Nat) :
    L.OnlyFe b (L.bissTake b n d delay) := by
  unfold Lane.bissTake
  exact ⟨_, rfl⟩

/-- What an accepted frame gives a front end: its position, and its multi-turn field where it has one. -/
theorem Lane.bissTake_sensed (L : Lane) (b n : Fin 8) (d : BissData) (delay : Nat) :
    ∃ revs : Int, (0 < L.obj (actIdx n 2) 4 → revs = d.mt) ∧
      ((L.bissTake b n d delay).fes.get b).sensed =
        { (L.fes.get b).sensed with
          phi := (d.st : Rat) / ((2 ^ L.obj (actIdx n 2) 3 : Nat) : Rat), revs := revs, bissRun := 0
          pending := false, lineNs := delay, neRun := d.neRun (L.fes.get b) } := by
  rw [Lane.bissTake, Lane.onFe_same]
  by_cases hmt : L.obj (actIdx n 2) 4 = 0
  · simp only [if_pos hmt]
    exact ⟨_, fun h => absurd hmt h.ne', rfl⟩
  · simp only [if_neg hmt]
    exact ⟨_, fun _ => rfl, rfl⟩

theorem Lane.bissWarned_onlySet (L : Lane) (b : Fin 8) (nW : Bool) : L.OnlySet b (L.bissWarned b nW) :=
  .ite (.refl b L) ((L.onFe_onlySet b _).trans (Lane.raise_onlySet ..))

theorem Lane.bissWarned_sensed (L : Lane) (b : Fin 8) (nW : Bool) :
    ((L.bissWarned b nW).fes.get b).sensed =
      { (L.fes.get b).sensed with warn := (L.fes.get b).sensed.warn || !nW } := by
  cases nW
  · rw [Lane.bissWarned, if_neg Bool.false_ne_true, Lane.raise_fes, Lane.onFe_same, Bool.not_false, Bool.or_true]
    rfl
  · rw [Lane.bissWarned, if_pos rfl, Bool.not_true, Bool.or_false]

/-- The second frame in a row with nE low isolates the sensor. -/
theorem Lane.bissJudged_sensed {L : Lane} {b n : Fin 8} (hact : L.actOf b = some n)
    (h : (L.fes.get b).sensIsol = false) :
    ((L.bissJudged b).fes.get b).sensed =
      { (L.fes.get b).sensed with isol := decide (2 ≤ (L.fes.get b).sensed.neRun) } := by
  unfold Lane.bissJudged
  split
  · next hrun =>
    rw [(Lane.isolateSensor_sensorKept hact h 6).sensed, Lane.sensorMarked, Lane.onFe_same]
    exact congrArg (fun isol => { (L.fes.get b).sensed with isol := isol }) (decide_eq_true hrun).symm
  · next hrun =>
    exact congrArg (fun isol => { (L.fes.get b).sensed with isol := isol }) (h.trans (decide_eq_false hrun).symm)

theorem Lane.showAngles_sensed (L : Lane) (b n : Fin 8) :
    ((L.showAngles b n).fes.get b).sensed = (L.fes.get b).sensed := by
  rw [Lane.showAngles, Lane.onFe_same]
  rfl

theorem Lane.bissAccept_sensed {L : Lane} {b n : Fin 8} (hact : L.actOf b = some n)
    (h : (L.fes.get b).sensIsol = false) (d : BissData) (delay : Nat) :
    ∃ revs : Int, (0 < L.obj (actIdx n 2) 4 → revs = d.mt) ∧
      ((L.bissAccept b n d delay).fes.get b).sensed =
        { isol := decide (2 ≤ d.neRun (L.fes.get b)), phi := (d.st : Rat) / ((2 ^ L.obj (actIdx n 2) 3 : Nat) : Rat)
          revs := revs, bissRun := 0, pending := false, lineNs := delay, neRun := d.neRun (L.fes.get b)
          warn := (L.fes.get b).warn || !d.nW, resRun := (L.fes.get b).resRun } := by
  obtain ⟨revs, hrevs, htake⟩ := L.bissTake_sensed b n d delay
  have kept := (L.bissTake_onlyFe b n d delay).onlySet.trans (Lane.bissWarned_onlySet _ b d.nW)
  rw [← Lane.actOf_congr kept.id kept.dict] at hact
  have hwarned := (L.bissTake b n d delay).bissWarned_sensed b d.nW
  rw [htake] at hwarned
  refine ⟨revs, hrevs, ?_⟩
  rw [Lane.bissAccept, Lane.showAngles_sensed,
    Lane.bissJudged_sensed hact ((congrArg SensorPart.isol hwarned).trans h), hwarned]
  rfl

/-- With nE and nW high a frame touches nothing outside its front end. -/
theorem Lane.bissAccept_onlyFe (L : Lane) (b n : Fin 8) {d : BissData} (hE : d.nE = true) (hW : d.nW = true)
    (delay : Nat) : L.OnlyFe b (L.bissAccept b n d delay) := by
  have htake := L.bissTake_onlyFe b n d delay
  obtain ⟨revs, -, hsensed⟩ := L.bissTake_sensed b n d delay
  have hrun : ((L.bissTake b n d delay).fes.get b).neRun = 0 :=
    (congrArg SensorPart.neRun hsensed).trans (if_pos hE)
  rw [Lane.bissAccept, Lane.bissWarned, if_pos hW, Lane.bissJudged, if_neg (by omega)]
  exact htake.trans (Lane.showAngles_onlyFe ..)

/-- A discarded frame is counted and ends its request (R163). -/
theorem State.next_bissDiscard (s : State) (l : LaneId) (b n : Fin 8) {o : Host.Outcome State Fault Refusal}
    (ho : o = .next (s.on l fun L => (L.bissDiscard b).showAngles b n)) :
    ∃ t, o = .next t ∧ OnlyLane l s t ∧ ((t.lane l).fes.get b).bissRun = ((s.lane l).fes.get b).bissRun + 1 ∧
      ((t.lane l).fes.get b).frameErrors = satInc ((s.lane l).fes.get b).frameErrors ∧
      ((t.lane l).fes.get b).bissPending = false ∧ (t.lane l).bridges = (s.lane l).bridges := by
  refine ⟨_, ho, s.onlyLane_on l _, ?_⟩
  rw [State.lane_on_same, Lane.showAngles, Lane.onFe_same, Lane.onFe_bridges, Lane.bissDiscard, Lane.onFe_same,
    Lane.onFe_bridges]
  exact ⟨rfl, rfl, rfl, rfl⟩

section
variable {s : State} {l : LaneId} {b n : Fin 8} {pos crc : List Bool} {nE nW : Bool}

theorem execBissFrame_of_good (hact : (s.lane l).actOf b = some n) (haw : (s.lane l).bissAwaits b n = true)
    {d : BissData} (hd : d = (s.lane l).frameData n pos nE nW crc) (hok : d.ok = true) (delay : Nat) :
    execBissFrame l b pos nE nW crc delay s = .next (s.on l fun L => L.bissAccept b n d delay) :=
  congrArg Host.Outcome.next (s.on_congr l (by
    subst hd
    simp only [hact]
    exact (if_pos haw).trans (if_pos hok)))

theorem execBissFrame_of_bad (hact : (s.lane l).actOf b = some n) (haw : (s.lane l).bissAwaits b n = true)
    {d : BissData} (hd : d = (s.lane l).frameData n pos nE nW crc) (hok : d.ok = false) (delay : Nat) :
    execBissFrame l b pos nE nW crc delay s = .next (s.on l fun L => (L.bissDiscard b).showAngles b n) :=
  congrArg Host.Outcome.next (s.on_congr l (by
    subst hd
    simp only [hact]
    exact (if_pos haw).trans (if_neg (Bool.eq_false_iff.1 hok))))

theorem execBissFrameTimeout_of_awaited (hact : (s.lane l).actOf b = some n)
    (haw : (s.lane l).bissAwaits b n = true) :
    execBissFrameTimeout l b s = .next (s.on l fun L => (L.bissDiscard b).showAngles b n) :=
  congrArg Host.Outcome.next (s.on_congr l (by
    simp only [hact]
    exact if_pos haw))

/-- Without a running request a frame and its time-out change nothing. -/
theorem execBissFrame_of_idle (h : ((s.lane l).fes.get b).bissPending = false) (delay : Nat) :
    execBissFrame l b pos nE nW crc delay s = .next s ∧ execBissFrameTimeout l b s = .next s := by
  constructor
  all_goals
    refine congrArg Host.Outcome.next (s.on_id l ?_)
    cases (s.lane l).actOf b with
    | none => rfl
    | some n => exact if_neg (by simp [h])

end

/-! ### The statement -/

/-- Settles O21: a pair or frame acts on its front end alone, and a complete run isolates the sensor (R157-R164). -/
theorem rotorSensors : Obligations.RotorSensors := by
  refine ⟨⟨fun s l b => ⟨fun n f amp x y hact hexc hisol htest => ?_,
      fun x y h => execResolverPair_of_ignored h x y, fun hserved => ?_, fun h => ?_, fun h => ?_, fun h => ?_,
      fun mA hexc h => ?_, fun mA h => ?_⟩,
    fun L b kind => ⟨fun h => Lane.isolateSensor_of_isolated h kind, fun n hact h => ?_⟩⟩,
    fun s l b n hact halive hmode hpend hisol htest => ⟨fun pos crc nE nW delay d hd => ?_, ?_⟩,
    fun s l b pos crc nE nW delay h => execBissFrame_of_idle h delay⟩
  · refine ⟨_, execResolverPair_of_taken hact hexc hisol htest x y, s.onlyLane_on l _, ?_⟩
    rw [State.lane_on_same]
    generalize s.lane l = L
    have only := L.takePair_onlyFe b n (L.demod b x) (L.demod b y) amp
    have hpairs := L.takePair_pairs b n (L.demod b x) (L.demod b y) amp
    simp only [FrontEnd.pairs, Prod.mk.injEq] at hpairs
    obtain ⟨hamp, hhalf, hcounts⟩ := hpairs
    refine ⟨⟨hamp, hhalf, fun hlow => ?_, fun hhigh => ?_, fun hlo hhi => ?_⟩, fun c hc => only.fes_ne hc,
      only.bridges⟩
    · obtain ⟨hflag, hl, hh⟩ := by simpa only [Prod.mk.injEq] using hcounts.trans (if_pos hlow)
      exact ⟨hl, hh, hflag⟩
    · have hnot := not_lt.2 ((by norm_num : (1 / 4 : Rat) ≤ 9 / 4).trans hhigh.le)
      obtain ⟨hflag, hl, hh⟩ := by
        simpa only [Prod.mk.injEq] using hcounts.trans ((if_neg hnot).trans (if_pos hhigh))
      exact ⟨hh, hl, hflag⟩
    · obtain ⟨hflag, hl, hh⟩ := by
        simpa only [Prod.mk.injEq] using hcounts.trans ((if_neg (not_lt.2 hlo)).trans (if_neg (not_lt.2 hhi)))
      exact ⟨hl, hh, hflag⟩
  · refine ⟨fun h => ?_, fun hlow h => ?_, fun h => State.next_on_of_holds ⟨hserved, h⟩,
      fun h => State.next_on_of_holds ⟨hserved, h⟩⟩
    · exact congrArg Host.Outcome.next (s.on_congr l ((if_neg (by simp [hserved])).trans (if_pos h)))
    · exact congrArg Host.Outcome.next (s.on_congr l
        ((if_neg (by simp [hserved])).trans ((if_neg (not_le.2 hlow)).trans (if_pos h))))
  · refine congrArg Host.Outcome.next (s.on_id l ?_)
    rcases h with hserved | ⟨hlow, hhigh⟩
    · exact if_pos hserved
    · dsimp only
      rw [if_neg (not_le.2 hlow), if_neg (not_le.2 hhigh), ite_self]
  · exact State.next_on_of_fails (by grind)
  · exact State.next_on_of_fails (by grind)
  · exact congrArg Host.Outcome.next (s.on_congr l (if_pos (by simpa [hexc, Nat.lt_succ_iff] using h)))
  · exact State.next_on_of_fails (by grind)
  · have kept := Lane.isolateSensor_sensorKept hact h kind
    have all := (L.sensorMarked_onlySet b kind).trans kept.toOnlySet
    have hmark : ((L.sensorMarked b kind).fes.get b).sensIsol = true := by rw [Lane.sensorMarked, Lane.onFe_same]
    exact ⟨(congrArg SensorPart.isol kept.sensed).trans hmark, all.fes, all.vote, all.dict⟩
  · have haw := Lane.bissAwaits_of halive hmode hpend hisol htest
    refine ⟨fun hok => ?_, fun hbad => s.next_bissDiscard l b n (execBissFrame_of_bad hact haw hd hbad delay)⟩
    refine ⟨_, execBissFrame_of_good hact haw hd hok delay, s.onlyLane_on l _, ?_⟩
    rw [State.lane_on_same]
    obtain ⟨revs, hrevs, h⟩ := Lane.bissAccept_sensed hact hisol d delay
    refine ⟨congrArg SensorPart.phi h, congrArg SensorPart.bissRun h, congrArg SensorPart.pending h,
      congrArg SensorPart.lineNs h, fun hmt => (congrArg SensorPart.revs h).trans (hrevs hmt), fun hE => ?_,
      fun hE hne => ?_, fun hW => ?_, fun hE hW => ?_⟩
    · have hrun : d.neRun ((s.lane l).fes.get b) = 0 := if_pos hE
      exact ⟨(congrArg SensorPart.neRun h).trans hrun, (congrArg SensorPart.isol h).trans (by rw [hrun]; rfl)⟩
    · have hrun : d.neRun ((s.lane l).fes.get b) = ((s.lane l).fes.get b).neRun + 1 := if_neg (by simp [hE])
      exact (congrArg SensorPart.isol h).trans (decide_eq_true (by omega))
    · exact (congrArg SensorPart.warn h).trans (by rw [hW, Bool.not_false, Bool.or_true])
    · have only := (s.lane l).bissAccept_onlyFe b n hE hW delay
      exact ⟨only.bridges, only.flog⟩
  · exact s.next_bissDiscard l b n
      (execBissFrameTimeout_of_awaited hact (Lane.bissAwaits_of halive hmode hpend hisol htest))

end Sys2Proof.Machine
end

section
/-! PROOFS, the injection check, and the loss and return of the rotor. -/
namespace Sys2Proof.Machine

/-! ### The injection check (R165, R166) -/

/-- The end of a check that waits for no boundary: aborted at speed, without saliency, passed, or failed (R166). -/
theorem execHfiCheckEnd_of_checked {s : State} {l : LaneId} {b n : Fin 8} (hact : (s.lane l).actOf b = some n)
    (hsrc : ((s.lane l).fes.get b).asrc = .hfiCheck) (hdue : ((s.lane l).fes.get b).due = none) (th : Rat) :
    execHfiCheckEnd l b th s = .next (s.on l fun L =>
      if L.hfiFast b n then L.onFe b fun f => { f with due := some .sensor, hfiPhase := 0 }
      else if (L.fes.get b).hfi.lowSaliency then
        (L.onFe b fun f => { f with due := some .sensor, hfiPhase := 0, hfiNa := true }).raise (feCode b 8) 0
      else if absR ((L.fes.get b).hfi.offset th) ≤ L.posReal n 0x0F then
        L.onFe b fun f =>
          { f with due := some .sensor, hfiPhase := 0, hfiResult := f.hfi.offset th, hfiDone := true }
      else (L.onFe b fun f =>
        { f with hfiResult := f.hfi.offset th, hfiPhase := 0, due := some .borrowed, sensIsol := true }).raise
          (feCode b 7) 2) := by
  refine congrArg Host.Outcome.next (s.on_congr l ?_)
  simp only [hact, hsrc, hdue, Lane.onFe_onFe]
  rfl

/-- Where the map names no set, or a set on which the step does not act, nothing changes. -/
theorem State.next_of_idle {s : State} {l : LaneId} {b : Fin 8} {f : Lane → Lane} {p : Prop}
    (hnone : (s.lane l).actOf b = none → f (s.lane l) = s.lane l)
    (hidle : ∀ n, (s.lane l).actOf b = some n → p → f (s.lane l) = s.lane l)
    (h : (s.lane l).actOf b = none ∨ p) : (.next (s.on l f) : Host.Outcome State Fault Refusal) = .next s := by
  refine congrArg _ (s.on_id l ?_)
  cases hact : (s.lane l).actOf b with
  | none => exact hnone hact
  | some n => exact hidle n hact (h.resolve_left (by simp [hact]))

theorem execHfiCheckEnd_of_idle {s : State} {l : LaneId} {b : Fin 8} (h : (s.lane l).actOf b = none ∨
      ((s.lane l).fes.get b).asrc ≠ .hfiCheck ∨ ((s.lane l).fes.get b).due.isSome = true) (th : Rat) :
    execHfiCheckEnd l b th s = .next s :=
  State.next_of_idle (fun hact => by simp only [hact]) (fun n hact h => by simp only [hact]; exact if_pos h) h

/-! ### The loss of the rotor (R172, R173, R178) -/

theorem Lane.loseRotor_of_early {L : Lane} {b : Fin 8} (h : (L.pastLosses b).length < 2) (n : Fin 8) (w : Rat)
    (raiseIt : Bool) :
    ((L.loseRotor b n w raiseIt).fes.get b).asrc = (if L.chooseShort n (some w) then .lost else .reacquire) ∧
      ((L.loseRotor b n w raiseIt).bridges.get b).short = L.chooseShort n (some w) ∧
      ((L.loseRotor b n w raiseIt).bridges.get b).off = !L.chooseShort n (some w) := by
  obtain ⟨-, hshort, hoff⟩ := Lane.settle_requests ((L.lossNoted b n w raiseIt).onBr b fun br =>
    br.request (L.chooseShort n (some w)) false) b
  rw [Lane.loseRotor_eq, if_neg (by omega), hshort, hoff, Lane.settle_fes, Lane.onBr_fes, Lane.onBr_same,
    Lane.lossNoted, Lane.onFe_same]
  simp [FrontEnd.lost, Bridge.request]

theorem Lane.loseRotor_of_third {L : Lane} {b n : Fin 8} (hact : L.actOf b = some n)
    (h : 2 ≤ (L.pastLosses b).length) (w : Rat) (raiseIt : Bool) :
    ((L.loseRotor b n w raiseIt).fes.get b).asrc = .isolated := by
  have kept := (L.lossNoted_sensorKept b n w raiseIt).toOnlySet.trans (Lane.raise_onlySet _ b (feCode b 0x0B) 2 0 0)
  rw [← Lane.actOf_congr kept.id kept.dict] at hact
  rw [Lane.loseRotor_eq, if_pos (by omega)]
  exact (Lane.isolateSet_result hact _).1

/-- The front end with its run of residuals ended. -/
def FrontEnd.residualsEnded (f : FrontEnd) : FrontEnd := { f with resRun := 0 }

theorem execRotorLost_of_residuals {s : State} {l : LaneId} {b n : Fin 8} (hact : (s.lane l).actOf b = some n)
    (hsrc : ((s.lane l).fes.get b).asrc = .observer) (hrun : 3 ≤ ((s.lane l).fes.get b).resRun) :
    execRotorLost l b s = .next (s.on l fun L =>
      (L.onFe b FrontEnd.residualsEnded).loseRotor b n (L.fes.get b).wObs true) :=
  congrArg Host.Outcome.next (s.on_congr l (by simp only [hact]; exact if_pos ⟨hsrc, hrun⟩))

/-! ### The return of the rotor (R177) -/

/-- The front end of a set that returns to the observer, seeded with the last estimate. -/
def FrontEnd.found (f : FrontEnd) : FrontEnd :=
  { f with due := some .observer, thObs := f.acqLast.getD f.thObs, wObs := f.acqW.getD f.wObs, acqRun := 0
           resRun := 0 }

/-- The lane whose set returns to the observer, its requests withdrawn. -/
def Lane.rotorFound (L : Lane) (b : Fin 8) : Lane := ((L.onFe b FrontEnd.found).onBr b Bridge.noRequest).settle b

theorem Lane.rotorFound_fe (L : Lane) (b : Fin 8) : (L.rotorFound b).fes.get b = (L.fes.get b).found := by
  rw [Lane.rotorFound, Lane.settle_fes, Lane.onBr_fes, Lane.onFe_same]

theorem Lane.rotorFound_requests (L : Lane) (b : Fin 8) :
    ((L.rotorFound b).bridges.get b).short = false ∧ ((L.rotorFound b).bridges.get b).off = false := by
  obtain ⟨-, hshort, hoff⟩ := Lane.settle_requests ((L.onFe b FrontEnd.found).onBr b Bridge.noRequest) b
  rw [Lane.rotorFound, hshort, hoff, Lane.onBr_same]
  exact ⟨rfl, rfl⟩

theorem execRotorAcquired_of_estimates {s : State} {l : LaneId} {b : Fin 8}
    (hsrc : ((s.lane l).fes.get b).asrc = .reacquire) (hrun : 8 ≤ ((s.lane l).fes.get b).acqRun) :
    execRotorAcquired l b s = .next (s.on l fun L => L.rotorFound b) :=
  congrArg Host.Outcome.next (s.on_congr l (if_pos ⟨hsrc, hrun⟩))

/-! ### The statement -/

/-- Settles O22: each row acts on a set in the state that Table 5.2 names for it (R165-R168, R172, R175, R177, R178). -/
theorem rotorSources : Obligations.RotorSources := by
  refine ⟨⟨fun s l b => ⟨fun hsrc hlo hhi => ?_, fun h => ?_⟩, fun s l b n th hact hsrc hdue => ?_,
      fun s l b th h => execHfiCheckEnd_of_idle h th⟩,
    fun s l b => ⟨fun n hact h => ?_, fun h => ?_, fun n hact hsrc hrun => ?_, fun h => ?_,
      fun n hact hsrc hshort => ?_, fun h => ?_, fun hsrc hrun => ?_, fun h => ?_, fun h => ?_,
      fun hlost hreacq => ?_⟩⟩
  · exact congrArg Host.Outcome.next (s.on_congr l (if_pos ⟨hsrc, hlo, hhi⟩))
  · exact congrArg Host.Outcome.next (s.on_id l (if_neg (by grind)))
  · have step := execHfiCheckEnd_of_checked hact hsrc hdue th
    refine ⟨fun hfast => ?_, fun hslow hsal => ?_, fun hslow hsal hoff => ?_, fun hslow hsal hoff => ?_⟩
    · exact step.trans (congrArg _ (s.on_congr l (if_pos hfast)))
    · exact step.trans (congrArg _ (s.on_congr l ((if_neg (by simp [hslow])).trans (if_pos hsal))))
    · exact step.trans (congrArg _ (s.on_congr l
        ((if_neg (by simp [hslow])).trans ((if_neg (by simp [hsal])).trans (if_pos hoff)))))
    · exact step.trans (congrArg _ (s.on_congr l
        ((if_neg (by simp [hslow])).trans ((if_neg (by simp [hsal])).trans (if_neg (not_le.2 hoff))))))
  · exact congrArg Host.Outcome.next (s.on_congr l (by simp only [hact]; exact if_pos h))
  · exact State.next_of_idle (fun hact => by simp only [hact])
      (fun n hact h => by simp only [hact]; exact if_neg (not_le.2 h)) h
  · refine ⟨_, execRotorLost_of_residuals hact hsrc hrun, s.onlyLane_on l _, ?_⟩
    rw [State.lane_on_same]
    generalize s.lane l = L at *
    have kept := (L.onFe b FrontEnd.residualsEnded).loseRotor_sensorKept b n (L.fes.get b).wObs true
    have hpast : (L.onFe b FrontEnd.residualsEnded).pastLosses b = L.pastLosses b := by
      rw [Lane.pastLosses, Lane.onFe_same]; rfl
    refine ⟨(congrArg SensorPart.resRun kept.sensed).trans (by rw [Lane.onFe_same]; rfl), kept.vote, fun c hc =>
      ⟨(kept.fes c hc).trans (L.onFe_ne _ hc), kept.bridges c hc⟩, fun h => ?_, fun h => ?_⟩
    · exact Lane.loseRotor_of_early (hpast ▸ h) n _ true
    · exact Lane.loseRotor_of_third (L := L.onFe b FrontEnd.residualsEnded) hact (hpast ▸ h) _ true
  · exact State.next_of_idle (fun hact => by simp only [hact])
      (fun n hact h => by simp only [hact]; exact if_neg (by grind)) h
  · exact congrArg Host.Outcome.next (s.on_congr l (by simp only [hact]; exact if_pos ⟨hsrc, hshort⟩))
  · exact State.next_of_idle (fun hact => by simp only [hact])
      (fun n hact h => by simp only [hact]; exact if_neg (by grind)) h
  · refine ⟨_, execRotorAcquired_of_estimates hsrc hrun, s.onlyLane_on l _, ?_⟩
    rw [State.lane_on_same, Lane.rotorFound_fe]
    obtain ⟨hshort, hoff⟩ := (s.lane l).rotorFound_requests b
    exact ⟨rfl, hsrc, hshort, hoff, fun th h => congrArg (Option.getD · _) h, fun w h => congrArg (Option.getD · _) h⟩
  · exact congrArg Host.Outcome.next (s.on_id l (if_neg (by grind)))
  · exact congrArg Host.Outcome.next (s.on_congr l (if_pos h))
  · exact congrArg Host.Outcome.next (s.on_id l (if_neg (not_or.2 ⟨hlost, hreacq⟩)))

end Sys2Proof.Machine
end

section
/-! PROOFS, writes that act on a bridge or on the DC link. -/
namespace Sys2Proof.Machine

/-! ### The latch of a gate drive (R208, R209) -/

/-- The latch of a gate drive, its kind and the try history. -/
def Gate.latched (g : Gate) : Bool × BitVec 8 × List Nat := (g.latch, g.latchedKind, g.tries)

theorem Lane.setMode_latched (L : Lane) (b : Fin 8) (m : Mode) :
    ((L.setMode b m).gates.get b).latched = (L.gates.get b).latched := by
  rw [Lane.setMode, Lane.onGate_same]
  rfl

theorem Lane.setPrecharge_latched (L : Lane) (b : Fin 8) :
    ((L.setPrecharge b).gates.get b).latched = (L.gates.get b).latched := by
  rw [Lane.setPrecharge, Lane.onGate_same]
  rfl

theorem Lane.testEnded_latched (L : Lane) (b : Fin 8) :
    ((L.testEnded b).gates.get b).latched = (L.gates.get b).latched := by
  unfold Lane.testEnded Lane.abortTest
  split
  · dsimp only
    split
    · rw [Lane.raise_gates, Lane.onGate_same]
      rfl
    · rfl
  · rfl

theorem Lane.settle_latched (L : Lane) (b : Fin 8) :
    ((L.settle b).gates.get b).latched = (L.gates.get b).latched := by
  rcases L.settle_cases b with ⟨-, h⟩ | h <;>
  simp only [h, Lane.setPrecharge_latched, Lane.setMode_latched, Lane.testEnded_latched]

theorem Lane.reopen_latched (L : Lane) (b : Fin 8) :
    ((L.reopen b).gates.get b).latched = (L.gates.get b).latched := by
  unfold Lane.reopen
  dsimp only
  rw [Lane.settle_latched]
  split
  · exact L.setMode_latched b _
  · rfl

/-- Reopening a bridge leaves the causes of its isolation. -/
theorem Lane.reopen_isolKinds (L : Lane) (b : Fin 8) :
    ((L.reopen b).bridges.get b).isolKinds = (L.bridges.get b).isolKinds := by
  unfold Lane.reopen
  dsimp only
  rw [(Lane.settle_requests _ b).1]
  split
  · rw [Lane.setMode_bridge]
    rfl
  · rfl

/-! ### One cause of isolation ends -/

theorem Lane.unisolate_gates (L : Lane) (b : Fin 8) (code : Nat) : (L.unisolate b code).gates = L.gates := by
  unfold Lane.unisolate
  dsimp only
  split
  · rfl
  · split <;> rfl

theorem Lane.unisolate_isolKinds (L : Lane) (b : Fin 8) (code : Nat) :
    ((L.unisolate b code).bridges.get b).isolKinds = (L.bridges.get b).isolKinds.filter (· ≠ code) := by
  unfold Lane.unisolate
  dsimp only
  split
  · next h =>
    refine (List.filter_eq_self.2 fun k hk => decide_eq_true ?_).symm
    rintro rfl
    simp [hk] at h
  · split
    · rw [Lane.onBr_same]
    · rw [Lane.onFe_bridges, Lane.onBr_same, Lane.onBr_same]
      rfl

/-! ### GD_CLEAR (R209) -/

theorem Lane.gdClear_of_free {L : Lane} {b : Fin 8} (h : (L.gates.get b).latch = false) :
    L.gdClear b = L.onGate b fun g => { g with tries := [] } :=
  if_neg (by simp [h])

/-- What clearing a latched bridge leaves in its gate drive and among the causes of its isolation. -/
theorem Lane.gdClear_of_latched {L : Lane} {b : Fin 8} (h : (L.gates.get b).latch = true) :
    ((L.gdClear b).gates.get b).latched = (false, 0, []) ∧
      ((L.gdClear b).bridges.get b).isolKinds = (L.bridges.get b).isolKinds.filter (· ≠ brCode b 0x0B) := by
  rw [Lane.gdClear, if_pos h]
  dsimp only
  rw [Lane.reopen_latched, Lane.reopen_isolKinds, Lane.unisolate_gates, Lane.unisolate_isolKinds, Lane.onGate_same]
  exact ⟨rfl, rfl⟩

theorem execGdClear_of_ok {s : State} {l : LaneId} {m : Master} {b : Fin 8} {data : List Byte} {e : ClearIn}
    (h : (s.lane l).writeErr m ((s.lane l).brIdx b 3) 1 data ((s.lane l).clearable b e) false = none) (tid : Nat) :
    execGdClear l m tid b data e s =
      .next (s.on l fun L => ((L.sbCount m (L.brIdx b 3)).gdClear b).answer m tid (L.brIdx b 3) 1 0) :=
  congrArg Host.Outcome.next (s.on_congr l (Lane.write_of_ok h tid _))

/-! ### CHOP_TEST (R225) -/

/-- A chopper test may start: the chopper enabled and off, no test running and the link within its window. -/
def Lane.chopTestable (L : Lane) : Bool :=
  L.obj (L.dcIdx 0) 0x0B == 1 && !L.dc.chopOn && !L.dc.testing &&
    decide (L.dcReal 9 ≤ L.dc.vdc) && decide (L.dc.vdc ≤ L.dcReal 1 - L.dcReal 2)

theorem Lane.chopTestable_iff (L : Lane) : L.chopTestable = true ↔
    L.obj (L.dcIdx 0) 0x0B = 1 ∧ L.dc.chopOn = false ∧ L.dc.testing = false ∧ L.dcReal 9 ≤ L.dc.vdc ∧
      L.dc.vdc ≤ L.dcReal 1 - L.dcReal 2 := by
  simp [Lane.chopTestable, and_assoc]

theorem Lane.chopHeld_sbCount (L : Lane) (m : Master) (idx : Nat) : (L.sbCount m idx).chopHeld = L.chopHeld := by
  rw [Lane.chopHeld, Lane.sbCount_pwr, Lane.chopHeld]

/-! ### The statement -/

/-- Settles O23: a write acts and is answered 0, or is answered with the code of its checks (R154, R209, R211, R225). -/
theorem writesOfBridgeAndLink : Obligations.WritesOfBridgeAndLink := fun s l m tid b data => by
  refine ⟨fun h => congrArg Host.Outcome.next (s.on_congr l (Lane.write_of_ok h tid _)),
    fun x h => congrArg Host.Outcome.next (s.on_congr l (Lane.write_of_err h tid _)),
    fun e => ⟨fun h => ⟨fun hfree => ?_, fun hlatch => ?_⟩, fun x h =>
      congrArg Host.Outcome.next (s.on_congr l (Lane.write_of_err h tid _))⟩,
    fun h => congrArg Host.Outcome.next (s.on_congr l (Lane.write_of_ok h tid _)),
    fun x h => congrArg Host.Outcome.next (s.on_congr l (Lane.write_of_err h tid _)),
    fun hen hon htest hlo hhi h => ?_, fun hno x h => ?_⟩
  · refine (execGdClear_of_ok h tid).trans (congrArg Host.Outcome.next (s.on_congr l ?_))
    rw [Lane.gdClear_of_free (by rwa [Lane.sbCount_gates])]
  · refine ⟨_, execGdClear_of_ok h tid, s.onlyLane_on l _, ?_⟩
    rw [State.lane_on_same]
    obtain ⟨hgate, hkinds⟩ := Lane.gdClear_of_latched (L := (s.lane l).sbCount m ((s.lane l).brIdx b 3)) (b := b)
      (by rwa [Lane.sbCount_gates])
    simp only [Gate.latched, Prod.mk.injEq] at hgate
    obtain ⟨hlatch, hkind, htries⟩ := hgate
    rw [Lane.sbCount_bridges] at hkinds
    rw [Lane.answer_gates, Lane.answer_bridges, Lane.answer_vote, (Lane.gdClear_voteKept ..).2, Lane.sbCount_vote]
    exact ⟨hlatch, hkind, htries, rfl, hkinds⟩
  · have hok := (s.lane l).chopTestable_iff.2 ⟨hen, hon, htest, hlo, hhi⟩
    have h : (s.lane l).writeErr m ((s.lane l).dcIdx 2) 1 data (s.lane l).chopTestable false = none := by rwa [hok]
    refine congrArg Host.Outcome.next (s.on_congr l ((Lane.write_of_ok h tid _).trans ?_))
    simp only [Lane.chopHeld_sbCount]
  · have hno : (s.lane l).chopTestable = false := by
      rw [← Bool.not_eq_true, Lane.chopTestable_iff]
      grind
    have h : (s.lane l).writeErr m ((s.lane l).dcIdx 2) 1 data (s.lane l).chopTestable false = some x := by rwa [hno]
    exact congrArg Host.Outcome.next (s.on_congr l (Lane.write_of_err h tid _))

end Sys2Proof.Machine
end

section
/-! PROOFS, the gate rail and the adaptation of a gate drive. -/
namespace Sys2Proof.Machine

/-! ### The gate rail (R186) -/

/-- A lane-out leaves the power group but for the stop line, x_nFLT and a pending exit. -/
theorem Lane.laneOut_vgdBad (L : Lane) (code detId detVal : Nat) :
    (L.laneOut code detId detVal).pwr.vgdBad = L.pwr.vgdBad := by
  unfold Lane.laneOut Lane.goOut
  split <;> rfl

theorem Lane.laneOut_stopLine (L : Lane) (code detId detVal : Nat) :
    (L.laneOut code detId detVal).pwr.stopLine = true := by
  unfold Lane.laneOut Lane.goOut
  split <;> rfl

/-- The lane whose gate rail has failed, before its lane-out. -/
def Lane.railFailed (L : Lane) (low : Bool) : Lane :=
  { L with
    pwr := { L.pwr with vgdBad := true }
    kiln := { L.kiln with uvloVgd := if low then satInc L.kiln.uvloVgd else L.kiln.uvloVgd } }

theorem exec_gateRailFault_of_on {s : State} {l : LaneId} (halive : (s.lane l).alive = true)
    (hon : (s.lane l).pwr.vgdOn = true) (low : Bool) :
    exec (.gateRailFault l low) s =
      .next (s.on l fun L => (L.railFailed low).laneOut (if low then 0x6FC1 else 0x6FC2)) :=
  State.next_on_of_holds (c := fun L => (L.alive && L.pwr.vgdOn) = true) (by simp [halive, hon])

theorem exec_gateRailFault_of_off {s : State} {l : LaneId}
    (h : (s.lane l).alive = false ∨ (s.lane l).pwr.vgdOn = false) (low : Bool) :
    exec (.gateRailFault l low) s = .next s :=
  State.next_on_of_fails (c := fun L => (L.alive && L.pwr.vgdOn) = true) (by rcases h with h | h <;> simp [h])

/-! ### Gate outputs as bits -/

theorem outBit_getLsbD (i : Nat) : (outBit i).getLsbD i = decide (i < 6) := by
  rw [outBit, BitVec.getLsbD_ofNat, Nat.testBit_two_pow_self, Bool.and_true]

/-- An output taken from a set of outputs is not in it. -/
theorem andNot_outBit_getLsbD (o : BitVec 6) (i : Nat) : (o &&& ~~~outBit i).getLsbD i = false := by
  simp [outBit_getLsbD]

theorem andNot_getLsbD_of_off {o : BitVec 6} {i : Nat} (h : o.getLsbD i = false) (x : BitVec 6) :
    (o &&& x).getLsbD i = false := by
  simp [h]

/-- No supply puts on an output that is not commanded on (R183). -/
theorem Lane.supplied_getLsbD_of_off {o : BitVec 6} {i : Nat} (h : o.getLsbD i = false) (L : Lane) (b : Fin 8) :
    (L.supplied b o).getLsbD i = false :=
  andNot_getLsbD_of_off h _

@[simp] theorem sideOf_setSide {α : Type} (p : α × α) (high : Bool) (v : α) : sideOf (setSide p high v) high = v := by
  cases high <;> rfl

/-! ### A crossing of the switch node (R184, R190, R191, R193) -/

/-- The adaptation acts on the strengths of the drive, not on what its outputs are commanded to (R191). -/
theorem Lane.adapt_gate (L : Lane) (b : Fin 8) (p : Phase) (high hard : Bool) (tsw : Rat) :
    ((L.adapt b p high hard tsw).gates.get b).onOut = (L.gates.get b).onOut ∧
      ((L.adapt b p high hard tsw).gates.get b).noValid = (L.gates.get b).noValid := by
  rw [Lane.adapt, Lane.onGate_same]
  exact ⟨rfl, rfl⟩

/-- A valid crossing becomes the measured delay of its edge in its bridge (R139, R190). -/
theorem Lane.crossed_bridge (L : Lane) (b : Fin 8) (p : Phase) (rise : Bool) (edge : Rat) :
    (L.crossed b p rise edge).bridges.get b =
      if rise then { L.bridges.get b with advance := (L.bridges.get b).advance.set p edge }
      else { L.bridges.get b with advanceF := (L.bridges.get b).advanceF.set p edge } := by
  unfold Lane.crossed
  dsimp only
  split <;> rw [Lane.adapt, Lane.onGate_bridges, Lane.onGate_bridges, Lane.onBr_same]

/-- The gate drive after a valid crossing: its count of missing ones ended, the other gate of the leg off. -/
theorem Lane.crossed_gate (L : Lane) (b : Fin 8) (p : Phase) (rise : Bool) (edge : Rat) :
    sideOf (((L.crossed b p rise edge).gates.get b).noValid.get p) rise = 0 ∧
      ((L.crossed b p rise edge).gates.get b).onOut.getLsbD (outNum p (!rise)) = false := by
  unfold Lane.crossed
  dsimp only
  split <;>
  · rw [(Lane.adapt_gate ..).1, (Lane.adapt_gate ..).2, Lane.onGate_same, Tri3.get_set_same]
    exact ⟨sideOf_setSide .., Lane.supplied_getLsbD_of_off (andNot_outBit_getLsbD ..) L b⟩

/-- Neither gate of a leg that the interlock holds off is commanded on (R184). -/
theorem Lane.heldOff_gate (L : Lane) (b : Fin 8) (p : Phase) :
    ((L.heldOff b p).gates.get b).onOut.getLsbD (outNum p true) = false ∧
      ((L.heldOff b p).gates.get b).onOut.getLsbD (outNum p false) = false := by
  rw [Lane.heldOff, Lane.onGate_same]
  exact ⟨andNot_getLsbD_of_off (andNot_outBit_getLsbD ..) _, andNot_outBit_getLsbD ..⟩

section
variable {s : State} {l : LaneId} {b : Fin 8}

/-- What a lane does on a crossing of a served bridge that switches. -/
def Lane.crossing (L : Lane) (b : Fin 8) (p : Phase) (c : Crossing) : Lane :=
  if c.stuck then (L.missed b p c.rise).heldOff b p
  else match c.edge with
    | some e => if 0 ≤ e ∧ e ≤ 2000 then L.crossed b p c.rise (timed e) else L.missed b p c.rise
    | none => L.missed b p c.rise

theorem exec_switchNodeCrossing_of_switching (hserved : (s.lane l).served b = true)
    (hmode : modeSwitches ((s.lane l).bridges.get b).mode = true) (p : Phase) (c : Crossing) :
    exec (.switchNodeCrossing l b p c) s = .next (s.on l fun L => L.crossing b p c) :=
  State.next_on_of_holds (c := fun L => (L.served b && modeSwitches (L.bridges.get b).mode) = true)
    (by simp [hserved, hmode])

theorem exec_switchNodeCrossing_of_idle
    (h : (s.lane l).served b = false ∨ modeSwitches ((s.lane l).bridges.get b).mode = false) (p : Phase)
    (c : Crossing) : exec (.switchNodeCrossing l b p c) s = .next s :=
  State.next_on_of_fails (c := fun L => (L.served b && modeSwitches (L.bridges.get b).mode) = true)
    (by rcases h with h | h <;> simp [h])

end

theorem Lane.crossing_of_valid (L : Lane) (b : Fin 8) (p : Phase) (rise : Bool) {e : Rat} (hlo : 0 ≤ e)
    (hhi : e ≤ 2000) :
    L.crossing b p { rise := rise, edge := some e, stuck := false } = L.crossed b p rise (timed e) := by
  simp [Lane.crossing, hlo, hhi]

theorem Lane.crossing_of_missing (L : Lane) (b : Fin 8) (p : Phase) (rise : Bool) {e : Option Rat}
    (h : ∀ x, e = some x → x < 0 ∨ 2000 < x) :
    L.crossing b p { rise := rise, edge := e, stuck := false } = L.missed b p rise := by
  cases e with
  | none => rfl
  | some x =>
    have hout : ¬(0 ≤ x ∧ x ≤ 2000) := fun ⟨hlo, hhi⟩ => (h x rfl).elim hlo.not_gt hhi.not_gt
    simp [Lane.crossing, hout]

theorem switchNodeCrossing_valid {s : State} {l : LaneId} {b : Fin 8} (hserved : (s.lane l).served b = true)
    (hmode : modeSwitches ((s.lane l).bridges.get b).mode = true) (p : Phase) (rise : Bool) {e : Rat} (hlo : 0 ≤ e)
    (hhi : e ≤ 2000) :
    ∃ t, exec (.switchNodeCrossing l b p { rise := rise, edge := some e, stuck := false }) s = .next t ∧
      OnlyLane l s t ∧
      (rise = true → ((t.lane l).bridges.get b).advance.get p = timed e) ∧
      (rise = false → ((t.lane l).bridges.get b).advanceF.get p = timed e) ∧
      sideOf (((t.lane l).gates.get b).noValid.get p) rise = 0 ∧
      ((t.lane l).gates.get b).onOut.getLsbD (outNum p (!rise)) = false ∧
      ((t.lane l).bridges.get b).mode = ((s.lane l).bridges.get b).mode := by
  refine ⟨_, exec_switchNodeCrossing_of_switching hserved hmode p _, s.onlyLane_on l _, ?_⟩
  rw [State.lane_on_same, Lane.crossing_of_valid _ b p rise hlo hhi, Lane.crossed_bridge]
  obtain ⟨hcount, hother⟩ := (s.lane l).crossed_gate b p rise (timed e)
  refine ⟨?_, ?_, hcount, hother, ?_⟩
  · rintro rfl
    exact Tri3.get_set_same ..
  · rintro rfl
    exact Tri3.get_set_same ..
  · cases rise <;> rfl

/-! ### The statement -/

/-- Settles O24: each row acts in the state that its counted condition names (R184, R186, R190-R193, R196). -/
theorem gateAdaptation : Obligations.GateAdaptation := fun s l b => by
  refine ⟨fun low => ⟨fun halive hon => ?_, fun hoff => exec_gateRailFault_of_off hoff low⟩,
    fun hserved hmode => ⟨fun p rise e hlo hhi => switchNodeCrossing_valid hserved hmode p rise hlo hhi,
      fun p rise e hmiss => ?_, fun p rise e => ?_⟩,
    fun h p c => exec_switchNodeCrossing_of_idle h p c,
    fun p high => ⟨fun h => State.next_on_of_holds h, fun h => State.next_on_of_fails (not_le.2 h)⟩,
    fun p => ⟨fun h => State.next_on_of_holds h, fun h => State.next_on_of_fails (not_le.2 h)⟩⟩
  · refine ⟨_, exec_gateRailFault_of_on halive hon low, s.onlyLane_on l _, ?_⟩
    rw [State.lane_on_same, Lane.laneOut_vgdBad, Lane.laneOut_last]
    refine ⟨rfl, Lane.laneOut_stopLine .., ?_, fun c => (Lane.laneOut_gates_low _ _ _ _ c).2,
      Lane.laneOut_chopOn ..⟩
    cases low <;> rfl
  · rw [exec_switchNodeCrossing_of_switching hserved hmode]
    exact congrArg Host.Outcome.next (s.on_congr l (Lane.crossing_of_missing _ b p rise hmiss))
  · refine ⟨_, exec_switchNodeCrossing_of_switching hserved hmode p _, s.onlyLane_on l _, ?_⟩
    rw [State.lane_on_same]
    obtain ⟨hhigh, hlow⟩ := ((s.lane l).missed b p rise).heldOff_gate b p
    exact ⟨hhigh, hlow, rfl⟩

end Sys2Proof.Machine
end

section
/-! PROOFS, what the shared operations leave of a gate drive: its protection, and the outputs of an open bridge. -/
namespace Sys2Proof.Machine

/-! ### The protection of a gate drive -/

/-- A gate drive with its self-test left out. -/
def Gate.untested (g : Gate) : Gate := { g with testing := false, testBy := none, result := {} }

/-- A gate drive with what placing its bridge acts on left out: the outputs commanded on, precharge, the dead time held
and the self-test. The flags of detections, an episode, a fault wait, the tries and a latch remain. -/
def Gate.protection (g : Gate) : Gate := { g.untested with onOut := 0, precharge := false, deadHeld := none }

/-- What is read of the protection alone agrees where the protection does. -/
theorem Gate.read_eq {α : Type} {g h : Gate} (heq : g.protection = h.protection) (f : Gate → α)
    (hf : ∀ g, f g.protection = f g := by exact fun _ => rfl) : f g = f h :=
  (hf g).symm.trans ((congrArg f heq).trans (hf h))

theorem Lane.setMode_protection (L : Lane) (b : Fin 8) (m : Mode) :
    ((L.setMode b m).gates.get b).protection = (L.gates.get b).protection := by
  rw [Lane.setMode, Lane.onGate_same]
  rfl

theorem Lane.setPrecharge_protection (L : Lane) (b : Fin 8) :
    ((L.setPrecharge b).gates.get b).protection = (L.gates.get b).protection := by
  rw [Lane.setPrecharge, Lane.onGate_same]
  rfl

/-- Ending a self-test leaves the rest of the gate drive (R212). -/
theorem Lane.abortTest_untested (L : Lane) (b : Fin 8) :
    ((L.abortTest b).gates.get b).untested = (L.gates.get b).untested := by
  unfold Lane.abortTest
  dsimp only
  split
  · rw [Lane.raise_gates, Lane.onGate_same]
    rfl
  · rfl

theorem Lane.testEnded_untested (L : Lane) (b : Fin 8) :
    ((L.testEnded b).gates.get b).untested = (L.gates.get b).untested := by
  unfold Lane.testEnded
  split
  · exact L.abortTest_untested b
  · rfl

theorem Lane.testEnded_protection (L : Lane) (b : Fin 8) :
    ((L.testEnded b).gates.get b).protection = (L.gates.get b).protection := by
  rw [Gate.protection, L.testEnded_untested, Gate.protection]

theorem Lane.settle_protection (L : Lane) (b : Fin 8) :
    ((L.settle b).gates.get b).protection = (L.gates.get b).protection := by
  rcases L.settle_cases b with ⟨-, h⟩ | h
  · rw [h, Lane.setPrecharge_protection, Lane.testEnded_protection]
  · rw [h, Lane.setPrecharge_protection, Lane.setMode_protection, Lane.testEnded_protection]

theorem Lane.isolateSet_protection (L : Lane) (b : Fin 8) (code : Nat) :
    ((L.isolateSet b code).gates.get b).protection = (L.gates.get b).protection := by
  cases hact : L.actOf b with
  | none => rw [Lane.isolateSet_of_unmapped hact]
  | some n =>
    obtain ⟨short, heq⟩ := Lane.isolateSet_of_mapped hact code
    rw [heq, Lane.settle_protection, Lane.onBr_gates, Lane.onFe_gates]

theorem Lane.isolate_protection (L : Lane) (b : Fin 8) (code detId detVal : Nat) :
    ((L.isolate b code detId detVal).gates.get b).protection = (L.gates.get b).protection :=
  Lane.isolateSet_protection ..

theorem Lane.reopen_protection (L : Lane) (b : Fin 8) :
    ((L.reopen b).gates.get b).protection = (L.gates.get b).protection := by
  unfold Lane.reopen
  dsimp only
  rw [Lane.settle_protection]
  split
  · exact L.setMode_protection b _
  · rfl

/-! ### A bridge without a self-test -/

theorem Lane.testEnded_of_untested {L : Lane} {b : Fin 8} (h : (L.gates.get b).testing = false) :
    L.testEnded b = L := by
  simp [Lane.testEnded, Lane.abortTest, h]

/-- Settling a bridge that runs no self-test records nothing and leaves the last test's result. -/
theorem Lane.settle_of_untested {L : Lane} {b : Fin 8} (h : (L.gates.get b).testing = false) :
    ((L.settle b).gates.get b).testing = false ∧
      ((L.settle b).gates.get b).result = (L.gates.get b).result ∧ (L.settle b).flog = L.flog := by
  rcases L.settle_cases b with ⟨-, heq⟩ | heq <;>
  · rw [heq, Lane.testEnded_of_untested h]
    simp [Lane.setPrecharge, Lane.setMode, h]

theorem Lane.isolateSet_of_untested {L : Lane} {b : Fin 8} (h : (L.gates.get b).testing = false) (code : Nat) :
    ((L.isolateSet b code).gates.get b).testing = false ∧ (L.isolateSet b code).flog = L.flog := by
  cases hact : L.actOf b with
  | none => rw [Lane.isolateSet_of_unmapped hact]; exact ⟨h, rfl⟩
  | some n =>
    obtain ⟨short, heq⟩ := Lane.isolateSet_of_mapped hact code
    obtain ⟨htest, -, hlog⟩ := Lane.settle_of_untested (b := b)
      (L := (L.onFe b FrontEnd.isolated).onBr b fun br => br.isolated code short) h
    rw [heq]
    exact ⟨htest, hlog⟩

/-! ### An open bridge -/

theorem Lane.supplied_zero (L : Lane) (b : Fin 8) : L.supplied b 0 = 0 := by
  simp [Lane.supplied]

/-- A protective opening leaves rank 1 or rank 2, and their modes command no output (Table 4.6). -/
theorem Lane.wanted_of_open {L : Lane} {b : Fin 8} (h : L.opened b = true) :
    modeOutputs (L.wanted b).2 = 0 := by
  simp only [Lane.wanted, h]
  split <;> rfl

/-- An open bridge whose outputs are off stays so when it settles. -/
theorem Lane.settle_onOut_of_open {L : Lane} {b : Fin 8} (hopen : L.opened b = true)
    (hoff : (L.gates.get b).onOut = 0) : ((L.settle b).gates.get b).onOut = 0 := by
  rcases L.settle_cases b with ⟨-, heq⟩ | heq <;> rw [heq, Lane.setPrecharge_onOut]
  · exact (congrArg Gate.onOut (L.testEnded_untested b)).trans hoff
  · rw [Lane.setMode, Lane.onGate_same, Lane.wanted_of_open hopen]
    exact Lane.supplied_zero ..

theorem Lane.OnlySet.served {b : Fin 8} {L M : Lane} (h : L.OnlySet b M) (c : Fin 8) : M.served c = L.served c := by
  simp only [Lane.served, Lane.alive, h.pwr, Lane.actOf_congr h.id h.dict]

/-- An open bridge of a served set is ALL_OFF while its stop line is released. -/
theorem Lane.settle_allOff_of_open {L : Lane} {b : Fin 8} (hserved : L.served b = true) (hopen : L.opened b = true)
    (hstop : L.pwr.stopLine = false) : ((L.settle b).bridges.get b).mode = .allOff := by
  obtain ⟨n, hact⟩ := Option.isSome_iff_exists.1 (Bool.and_eq_true_iff.1 hserved).2
  have hw := Lane.wanted_of_opened hstop hact hopen
  rw [Lane.settle_mode_of_rank (by simp [hw]), hw]

end Sys2Proof.Machine
end

section
/-! PROOFS, fault events of a bridge, short-circuit episodes and bootstrap supplies. -/
namespace Sys2Proof.Machine

/-! ### A fault event (R205, R208) -/

/-- A gate drive whose episode or try has ended, every output off, with the tries that still count. -/
def Gate.ended (g : Gate) (tries : List Nat) : Gate :=
  { g with onOut := 0, soft := 0, episode := false, trying := false, precharge := false, tries := tries }

/-- The same in a fault wait (R205). -/
def Gate.waiting (g : Gate) (tries : List Nat) (kind : Nat) : Gate :=
  { g.ended tries with wait := true, waitKind := kind }

/-- The same latched (R208). -/
def Gate.latchedBy (g : Gate) (tries : List Nat) (kind : Nat) : Gate :=
  { g.ended tries with wait := false, latch := true, latchedKind := BitVec.ofNat 8 kind }

section
variable {L : Lane} {b : Fin 8}

/-- The tries that count are those of the gate drive at the lane's present time. -/
theorem Lane.triesNow_congr {M : Lane} (honly : L.OnlySet b M)
    (h : (M.gates.get b).latched = (L.gates.get b).latched) : M.triesNow b = L.triesNow b := by
  have htries : (M.gates.get b).tries = (L.gates.get b).tries := congrArg (·.2.2) h
  rw [Lane.triesNow, htries, honly.tb, Lane.triesNow]

theorem Lane.gateEvent_of_latch (h : (L.gates.get b).latch = true) (kind : Nat) :
    ((L.gateEvent b kind).gates.get b).protection = ((L.gates.get b).ended (L.triesNow b)).protection := by
  rw [Lane.gateEvent, if_pos h, Lane.settle_protection, Lane.onGate_same]
  rfl

/-- A fault event with fewer than three tries in the last second is a fault wait, and nothing is commanded on. -/
theorem Lane.gateEvent_of_early (hlatch : (L.gates.get b).latch = false) (htries : (L.triesNow b).length < 3)
    (kind : Nat) :
    ((L.gateEvent b kind).gates.get b).protection = ((L.gates.get b).waiting (L.triesNow b) kind).protection ∧
      ((L.gateEvent b kind).gates.get b).onOut = 0 := by
  rw [Lane.gateEvent, if_neg (by simp [hlatch]), if_neg (by omega)]
  refine ⟨?_, Lane.settle_onOut_of_open (by simp [Lane.opened]) (by simp)⟩
  rw [Lane.settle_protection, Lane.onGate_same, Lane.onGate_same]
  rfl

/-- A fault event after three tries in the last second is a latch. -/
theorem Lane.gateEvent_of_third (hlatch : (L.gates.get b).latch = false) (htries : 3 ≤ (L.triesNow b).length)
    (kind : Nat) :
    ((L.gateEvent b kind).gates.get b).protection = ((L.gates.get b).latchedBy (L.triesNow b) kind).protection := by
  rw [Lane.gateEvent, if_neg (by simp [hlatch]), if_pos htries, Lane.isolate_protection, Lane.onGate_same,
    Lane.onGate_same]
  rfl

/-- Whatever a fault event leads to, it ends the episode and its soft turn-off. -/
theorem Lane.gateEvent_ends (L : Lane) (b : Fin 8) (kind : Nat) :
    ((L.gateEvent b kind).gates.get b).episode = false ∧ ((L.gateEvent b kind).gates.get b).soft = 0 := by
  cases hlatch : (L.gates.get b).latch with
  | true =>
    have h := Lane.gateEvent_of_latch hlatch kind
    exact ⟨Gate.read_eq h Gate.episode, Gate.read_eq h Gate.soft⟩
  | false =>
    rcases Nat.lt_or_ge (L.triesNow b).length 3 with htries | htries
    · have h := (Lane.gateEvent_of_early hlatch htries kind).1
      exact ⟨Gate.read_eq h Gate.episode, Gate.read_eq h Gate.soft⟩
    · have h := Lane.gateEvent_of_third hlatch htries kind
      exact ⟨Gate.read_eq h Gate.episode, Gate.read_eq h Gate.soft⟩

end

/-! ### A detection (R202, R203) -/

/-- A gate drive within an episode, the running one or a new one of the given kind. -/
def Gate.inEpisode (g : Gate) (kind : Nat) : Gate :=
  if g.episode then g else { g with episode := true, epKind := kind, desat := 0, oc := false, gfb := false }

/-- A gate drive that a detection finds outside a wait: within an episode, the outputs that are on in soft turn-off. -/
def Gate.detected (g : Gate) (kind : Nat) (on : BitVec 6) : Gate :=
  { g.inEpisode kind with soft := (g.inEpisode kind).soft ||| on, onOut := 0 }

/-- A detection opens or joins an episode, adds to the outputs in soft turn-off, and leaves the tries and the latch. -/
theorem Gate.detected_parts (g : Gate) (kind : Nat) (on : BitVec 6) :
    (g.detected kind on).episode = true ∧ (g.detected kind on).soft = g.soft ||| on ∧
      (g.detected kind on).latched = g.latched := by
  unfold Gate.detected Gate.inEpisode
  split
  · exact ⟨‹_›, rfl, rfl⟩
  · exact ⟨rfl, rfl, rfl⟩

/-- A new episode carries the kind of the detection that opens it. -/
theorem Gate.detected_epKind {g : Gate} (h : g.episode = false) (kind : Nat) (on : BitVec 6) :
    (g.detected kind on).epKind = kind := by
  simp [Gate.detected, Gate.inEpisode, h]

/-- The lane after a detection is recorded and noted in the gate drive. -/
def Lane.detected (L : Lane) (b : Fin 8) (kind det : Nat) (on : BitVec 6) (flag : Gate → Gate) : Lane :=
  (L.raise (brCode b kind) 1 det).onGate b fun g => flag (g.detected kind on)

theorem Lane.detected_onlySet (L : Lane) (b : Fin 8) (kind det : Nat) (on : BitVec 6) (flag : Gate → Gate) :
    L.OnlySet b (L.detected b kind det on flag) :=
  (L.raise_onlySet b (brCode b kind) 1 det 0).trans (Lane.onGate_onlySet ..)

section
variable {L : Lane} {b : Fin 8} {kind det : Nat} {on : BitVec 6} {flag : Gate → Gate}

theorem Lane.detect_of_wait (h : (L.gates.get b).wait = true) (kind det : Nat) (on : BitVec 6) (flag : Gate → Gate) :
    L.detect b kind det on flag = L.countOnly (brCode b kind) :=
  if_pos h

/-- A detection that finds an output on or in soft turn-off: the bridge settles as an episode leaves it. -/
theorem Lane.detect_of_on (hwait : (L.gates.get b).wait = false)
    (hon : ((L.detected b kind det on flag).gates.get b).soft ≠ 0) :
    L.detect b kind det on flag = (L.detected b kind det on flag).settle b :=
  (if_neg (by simp [hwait])).trans (if_neg hon)

/-- A detection that finds nothing on and no soft turn-off: the episode is a fault event at once. -/
theorem Lane.detect_of_off (hwait : (L.gates.get b).wait = false)
    (hoff : ((L.detected b kind det on flag).gates.get b).soft = 0) :
    L.detect b kind det on flag = (L.detected b kind det on flag).gateEvent b
      ((L.detected b kind det on flag).gates.get b).epKind :=
  (if_neg (by simp [hwait])).trans (if_pos hoff)

/-- A detection on a bridge with an output on leaves an open episode: nothing commanded on, and
ALL_OFF while the stop line is released (R202, R203). -/
theorem Lane.detect_opens (hserved : L.served b = true) (hwait : (L.gates.get b).wait = false) (hon : on ≠ 0)
    (hflag : ∀ g, (flag g).episode = g.episode ∧ (flag g).soft = g.soft ∧ (flag g).onOut = g.onOut) :
    ((L.detect b kind det on flag).gates.get b).protection = (flag ((L.gates.get b).detected kind on)).protection ∧
      ((L.detect b kind det on flag).gates.get b).episode = true ∧
      ((L.detect b kind det on flag).gates.get b).soft = (L.gates.get b).soft ||| on ∧
      ((L.detect b kind det on flag).gates.get b).onOut = 0 ∧
      (L.pwr.stopLine = false → ((L.detect b kind det on flag).bridges.get b).mode = .allOff) := by
  obtain ⟨hepisode, hsoft, hoff⟩ := hflag ((L.gates.get b).detected kind on)
  obtain ⟨hopens, hjoins, -⟩ := (L.gates.get b).detected_parts kind on
  have hsome : (L.gates.get b).soft ||| on ≠ 0 := fun h => hon (BitVec.or_eq_zero_iff.1 h).2
  have hgate : (L.detected b kind det on flag).gates.get b = flag ((L.gates.get b).detected kind on) :=
    Lane.onGate_same ..
  have hopen : (L.detected b kind det on flag).opened b = true := by
    simp [Lane.opened, hgate, hepisode, hopens]
  rw [Lane.detect_of_on hwait (by rwa [hgate, hsoft, hjoins])]
  have hprot := ((L.detected b kind det on flag).settle_protection b).trans (congrArg Gate.protection hgate)
  refine ⟨hprot, ?_, ?_, ?_, ?_⟩
  · exact (Gate.read_eq hprot Gate.episode).trans (hepisode.trans hopens)
  · exact (Gate.read_eq hprot Gate.soft).trans (hsoft.trans hjoins)
  · exact Lane.settle_onOut_of_open hopen (by rw [hgate, hoff, Gate.detected])
  · intro hstop
    exact Lane.settle_allOff_of_open (((L.detected_onlySet b kind det on flag).served b).trans hserved) hopen hstop

/-- A detection that finds nothing on and no soft turn-off, with fewer than three tries in the last second, is a fault
wait of its own kind. -/
theorem Lane.detect_waits (hwait : (L.gates.get b).wait = false) (hsoft : (L.gates.get b).soft = 0)
    (hepisode : (L.gates.get b).episode = false) (hlatch : (L.gates.get b).latch = false)
    (htries : (L.triesNow b).length < 3) (kind : Nat)
    (hflag : ∀ g, (flag g).soft = g.soft ∧ (flag g).epKind = g.epKind ∧ (flag g).latched = g.latched) :
    ((L.detect b kind det 0 flag).gates.get b).protection =
      ((flag ((L.gates.get b).detected kind 0)).waiting (L.triesNow b) kind).protection := by
  obtain ⟨hkeepsSoft, hkeepsKind, hkeepsLatch⟩ := hflag ((L.gates.get b).detected kind 0)
  obtain ⟨-, hjoins, hlatched⟩ := (L.gates.get b).detected_parts kind 0
  have hgate : (L.detected b kind det 0 flag).gates.get b = flag ((L.gates.get b).detected kind 0) :=
    Lane.onGate_same ..
  have hkept : ((L.detected b kind det 0 flag).gates.get b).latched = (L.gates.get b).latched := by
    rw [hgate, hkeepsLatch, hlatched]
  have htriesKept := Lane.triesNow_congr (L.detected_onlySet b kind det 0 flag) hkept
  rw [Lane.detect_of_off hwait (by rw [hgate, hkeepsSoft, hjoins, hsoft]; rfl),
    (Lane.gateEvent_of_early ((congrArg Prod.fst hkept).trans hlatch) (by rwa [htriesKept]) _).1, hgate, htriesKept,
    hkeepsKind, Gate.detected_epKind hepisode]

end

/-! ### The detections -/

section
variable {s : State} {l : LaneId} {b : Fin 8}

/-- The flag of an overcurrent (R201). -/
def Gate.withOc (g : Gate) : Gate := { g with oc := true }

/-- The flag of a readback mismatch (R194). -/
def Gate.withGfb (g : Gate) : Gate := { g with gfb := true }

/-- The flag of a desaturated output (R200). -/
def Gate.withDesat (out : Fin 6) (g : Gate) : Gate := { g with desat := g.desat ||| outBit out.val }

/-- The outputs on at a desaturation: while any is on, the comparator's own counts as on and the other of its leg as
off (R202). -/
def Lane.desatOn (L : Lane) (b : Fin 8) (out : Fin 6) : BitVec 6 :=
  if L.outOn b = 0 then 0
  else (L.outOn b &&& ~~~(outBit (if out.val % 2 = 0 then out.val + 1 else out.val - 1))) ||| outBit out.val

/-- The kind of a desaturation: 1 on a high side, 2 on a low side (R214). -/
def desatKind (out : Fin 6) : Nat := if out.val % 2 = 0 then 1 else 2

/-- The comparator of a gate output watches: a wait, an episode, the output on, or a leg that switches (R200). -/
def Lane.desatArmed (L : Lane) (b : Fin 8) (out : Fin 6) : Bool :=
  (L.gates.get b).wait || (L.gates.get b).episode || (L.outOn b).getLsbD out.val ||
    modeSwitches (L.bridges.get b).mode

theorem exec_hardOvercurrent_of_served (h : (s.lane l).served b = true) :
    exec (.hardOvercurrent l b) s = .next (s.on l fun L => L.detect b 3 (L.outOn b).toNat (L.outOn b) Gate.withOc) :=
  State.next_on_of_holds (c := fun L => L.served b = true) h

theorem exec_hardOvercurrent_of_unserved (h : (s.lane l).served b = false) :
    exec (.hardOvercurrent l b) s = .next s :=
  State.next_on_of_fails (c := fun L => L.served b = true) (by simp [h])

theorem exec_desaturationDetect_of_armed {out : Fin 6} (hserved : (s.lane l).served b = true)
    (harmed : (s.lane l).desatArmed b out = true) :
    exec (.desaturationDetect l b out) s = .next (s.on l fun L =>
      L.detect b (desatKind out) out.val (L.desatOn b out) (Gate.withDesat out)) :=
  State.next_on_of_holds (c := fun L => (L.served b && L.desatArmed b out) = true) (by simp [hserved, harmed])

theorem exec_desaturationDetect_of_idle {out : Fin 6}
    (h : (s.lane l).served b = false ∨ (s.lane l).desatArmed b out = false) :
    exec (.desaturationDetect l b out) s = .next s :=
  State.next_on_of_fails (c := fun L => (L.served b && L.desatArmed b out) = true)
    (by rcases h with h | h <;> simp [h])

theorem exec_gateReadbackMismatch_of_watched {out : Fin 6} (hserved : (s.lane l).served b = true)
    (hsoft : ((s.lane l).gates.get b).soft.getLsbD out.val = false) :
    exec (.gateReadbackMismatch l b out) s = .next (s.on l fun L =>
      L.detect b 5 out.val (L.outOn b) Gate.withGfb) :=
  State.next_on_of_holds (c := fun L => (L.served b && !((L.gates.get b).soft.getLsbD out.val)) = true)
    (by rw [hserved, hsoft]; rfl)

theorem exec_gateReadbackMismatch_of_idle {out : Fin 6}
    (h : (s.lane l).served b = false ∨ ((s.lane l).gates.get b).soft.getLsbD out.val = true) :
    exec (.gateReadbackMismatch l b out) s = .next s :=
  State.next_on_of_fails (c := fun L => (L.served b && !((L.gates.get b).soft.getLsbD out.val)) = true)
    (by rcases h with h | h <;> rw [h] <;> simp)

/-- An overcurrent opens an episode with every output that is on in soft turn-off. -/
theorem hardOvercurrent_opens (hserved : (s.lane l).served b = true) (hwait : ((s.lane l).gates.get b).wait = false)
    (hon : (s.lane l).outOn b ≠ 0) :
    ∃ t, exec (.hardOvercurrent l b) s = .next t ∧ OnlyLane l s t ∧ ((t.lane l).gates.get b).episode = true ∧
      ((t.lane l).gates.get b).oc = true ∧ ((t.lane l).gates.get b).onOut = 0 ∧
      ((t.lane l).gates.get b).soft = ((s.lane l).gates.get b).soft ||| (s.lane l).outOn b ∧
      ((s.lane l).pwr.stopLine = false → ((t.lane l).bridges.get b).mode = .allOff) ∧
      (t.lane l).vote = (s.lane l).vote := by
  refine ⟨_, exec_hardOvercurrent_of_served hserved, s.onlyLane_on l _, ?_⟩
  rw [State.lane_on_same]
  obtain ⟨hprot, hepisode, hsoft, hoff, hmode⟩ := Lane.detect_opens (kind := 3)
    (det := ((s.lane l).outOn b).toNat) (flag := Gate.withOc) hserved hwait hon fun _ => ⟨rfl, rfl, rfl⟩
  exact ⟨hepisode, Gate.read_eq hprot Gate.oc, hoff, hsoft, hmode, (Lane.detect_voteKept ..).2⟩

/-- A readback mismatch does so too, under its own flag. -/
theorem gateReadbackMismatch_opens (hserved : (s.lane l).served b = true)
    (hwait : ((s.lane l).gates.get b).wait = false) (hon : (s.lane l).outOn b ≠ 0) {out : Fin 6}
    (hout : ((s.lane l).gates.get b).soft.getLsbD out.val = false) :
    ∃ t, exec (.gateReadbackMismatch l b out) s = .next t ∧ OnlyLane l s t ∧
      ((t.lane l).gates.get b).episode = true ∧ ((t.lane l).gates.get b).onOut = 0 ∧
      ((t.lane l).gates.get b).gfb = true ∧
      ((t.lane l).gates.get b).soft = ((s.lane l).gates.get b).soft ||| (s.lane l).outOn b ∧
      ((s.lane l).pwr.stopLine = false → ((t.lane l).bridges.get b).mode = .allOff) ∧
      (t.lane l).vote = (s.lane l).vote := by
  refine ⟨_, exec_gateReadbackMismatch_of_watched hserved hout, s.onlyLane_on l _, ?_⟩
  rw [State.lane_on_same]
  obtain ⟨hprot, hepisode, hsoft, hoff, hmode⟩ := Lane.detect_opens (kind := 5) (det := out.val)
    (flag := Gate.withGfb) hserved hwait hon fun _ => ⟨rfl, rfl, rfl⟩
  exact ⟨hepisode, hoff, Gate.read_eq hprot Gate.gfb, hsoft, hmode, (Lane.detect_voteKept ..).2⟩

theorem or_outBit_getLsbD (o : BitVec 6) (out : Fin 6) : (o ||| outBit out.val).getLsbD out.val = true := by
  simp [outBit_getLsbD]

theorem Lane.desatOn_getLsbD {L : Lane} (hon : L.outOn b ≠ 0) (out : Fin 6) :
    (L.desatOn b out).getLsbD out.val = true := by
  rw [Lane.desatOn, if_neg hon]
  exact or_outBit_getLsbD ..

/-- A desaturation opens an episode with its own output flagged and in soft turn-off. -/
theorem desaturationDetect_opens (hserved : (s.lane l).served b = true)
    (hwait : ((s.lane l).gates.get b).wait = false) (hon : (s.lane l).outOn b ≠ 0) {out : Fin 6}
    (harmed : (s.lane l).desatArmed b out = true) :
    ∃ t, exec (.desaturationDetect l b out) s = .next t ∧ OnlyLane l s t ∧
      ((t.lane l).gates.get b).episode = true ∧ ((t.lane l).gates.get b).onOut = 0 ∧
      ((t.lane l).gates.get b).desat.getLsbD out.val = true ∧
      ((t.lane l).gates.get b).soft.getLsbD out.val = true ∧
      ((s.lane l).pwr.stopLine = false → ((t.lane l).bridges.get b).mode = .allOff) ∧
      (t.lane l).vote = (s.lane l).vote := by
  refine ⟨_, exec_desaturationDetect_of_armed hserved harmed, s.onlyLane_on l _, ?_⟩
  rw [State.lane_on_same]
  have hown := Lane.desatOn_getLsbD hon out
  have hsome : (s.lane l).desatOn b out ≠ 0 := fun h => by simp [h] at hown
  obtain ⟨hprot, hepisode, hsoft, hoff, hmode⟩ := Lane.detect_opens (kind := desatKind out) (det := out.val)
    (flag := Gate.withDesat out) hserved hwait hsome fun _ => ⟨rfl, rfl, rfl⟩
  refine ⟨hepisode, hoff, ?_, ?_, hmode, (Lane.detect_voteKept ..).2⟩
  · exact (Gate.read_eq hprot fun g => g.desat.getLsbD out.val).trans (or_outBit_getLsbD ..)
  · rw [hsoft, BitVec.getLsbD_or, hown, Bool.or_true]

/-- With nothing on and no soft turn-off, an overcurrent is a fault wait at once (log entry 79). -/
theorem hardOvercurrent_waits (hserved : (s.lane l).served b = true) (hwait : ((s.lane l).gates.get b).wait = false)
    (hon : (s.lane l).outOn b = 0) (hsoft : ((s.lane l).gates.get b).soft = 0)
    (hepisode : ((s.lane l).gates.get b).episode = false) (hlatch : ((s.lane l).gates.get b).latch = false)
    (htries : ((s.lane l).triesNow b).length < 3) :
    ∃ t, exec (.hardOvercurrent l b) s = .next t ∧ OnlyLane l s t ∧ ((t.lane l).gates.get b).wait = true ∧
      ((t.lane l).gates.get b).waitKind = 3 ∧ ((t.lane l).gates.get b).oc = true := by
  refine ⟨_, exec_hardOvercurrent_of_served hserved, s.onlyLane_on l _, ?_⟩
  rw [State.lane_on_same, hon]
  have hprot := Lane.detect_waits (det := (0#6).toNat) (flag := Gate.withOc) hwait hsoft hepisode hlatch htries 3
    fun _ => ⟨rfl, rfl, rfl⟩
  exact ⟨Gate.read_eq hprot Gate.wait, Gate.read_eq hprot Gate.waitKind, Gate.read_eq hprot Gate.oc⟩

/-! ### The end of soft turn-off (R203, R205) -/

theorem exec_softTurnoffEnd_of_episode (h : ((s.lane l).gates.get b).episode = true) :
    exec (.softTurnoffEnd l b) s = .next (s.on l fun L => L.gateEvent b (L.gates.get b).epKind) :=
  State.next_on_of_holds (c := fun L => (L.gates.get b).episode = true) h

theorem exec_softTurnoffEnd_of_none (h : ((s.lane l).gates.get b).episode = false) :
    exec (.softTurnoffEnd l b) s = .next s :=
  State.next_on_of_fails (c := fun L => (L.gates.get b).episode = true) (by simp [h])

/-- An episode ends with its soft turn-off: in a fault wait of its kind, or after three tries in a latch. -/
theorem softTurnoffEnd_ends (hepisode : ((s.lane l).gates.get b).episode = true) :
    ∃ t, exec (.softTurnoffEnd l b) s = .next t ∧ OnlyLane l s t ∧
      ((t.lane l).gates.get b).episode = false ∧ ((t.lane l).gates.get b).soft = 0 ∧
      (t.lane l).vote = (s.lane l).vote ∧
      (((s.lane l).gates.get b).latch = false → ((s.lane l).triesNow b).length < 3 →
        ((t.lane l).gates.get b).wait = true ∧
        ((t.lane l).gates.get b).waitKind = ((s.lane l).gates.get b).epKind) ∧
      (((s.lane l).gates.get b).latch = false → 3 ≤ ((s.lane l).triesNow b).length →
        ((t.lane l).gates.get b).latch = true ∧ ((t.lane l).gates.get b).wait = false) := by
  refine ⟨_, exec_softTurnoffEnd_of_episode hepisode, s.onlyLane_on l _, ?_⟩
  rw [State.lane_on_same]
  obtain ⟨hended, hsoft⟩ := (s.lane l).gateEvent_ends b ((s.lane l).gates.get b).epKind
  refine ⟨hended, hsoft, (Lane.gateEvent_voteKept ..).2, fun hlatch htries => ?_, fun hlatch htries => ?_⟩
  · have hprot := (Lane.gateEvent_of_early hlatch htries ((s.lane l).gates.get b).epKind).1
    exact ⟨Gate.read_eq hprot Gate.wait, Gate.read_eq hprot Gate.waitKind⟩
  · have hprot := Lane.gateEvent_of_third hlatch htries ((s.lane l).gates.get b).epKind
    exact ⟨Gate.read_eq hprot Gate.latch, Gate.read_eq hprot Gate.wait⟩

/-! ### A low bootstrap supply (R197, R205) -/

/-- The flag of a low bootstrap supply (R197). -/
def Gate.withBsUv (p : Phase) (g : Gate) : Gate := { g with bsUv := g.bsUv.set p true }

/-- The lane after a low bootstrap supply is noted in the gate drive and the Kiln log. -/
def Lane.uvloNoted (L : Lane) (b : Fin 8) (p : Phase) : Lane :=
  let M := L.onGate b (Gate.withBsUv p)
  { M with kiln := { M.kiln with uvloBs := M.kiln.uvloBs.set b (satInc (M.kiln.uvloBs.get b)) } }

theorem Lane.uvloNoted_gate (L : Lane) (b : Fin 8) (p : Phase) :
    (L.uvloNoted b p).gates.get b = (L.gates.get b).withBsUv p :=
  Lane.onGate_same ..

theorem Lane.uvloNoted_bridges (L : Lane) (b : Fin 8) (p : Phase) : (L.uvloNoted b p).bridges = L.bridges := by
  unfold Lane.uvloNoted
  rfl

theorem Lane.uvloNoted_count (L : Lane) (b : Fin 8) (p : Phase) :
    (L.uvloNoted b p).kiln.uvloBs.get b = satInc (L.kiln.uvloBs.get b) :=
  Oct.get_set_same ..

/-- The lane after the low supply is recorded too. -/
def Lane.uvloRaised (L : Lane) (b : Fin 8) (p : Phase) : Lane :=
  (L.uvloNoted b p).raise (brCode b 4) 1 (phaseNum p)

theorem Lane.uvloRaised_onlySet (L : Lane) (b : Fin 8) (p : Phase) : L.OnlySet b (L.uvloRaised b p) :=
  Lane.OnlySet.trans (M := L.uvloNoted b p) { L.onGate_onlySet b (Gate.withBsUv p) with } (Lane.raise_onlySet ..)

theorem exec_bootstrapUvlo_of_unserved (h : (s.lane l).served b = false) (p : Phase) :
    exec (.bootstrapUvlo l b p) s = .next s :=
  State.next_on_of_fails (c := fun L => L.served b = true) (by simp [h])

theorem exec_bootstrapUvlo_of_wait (hserved : (s.lane l).served b = true)
    (hwait : ((s.lane l).gates.get b).wait = true) (p : Phase) :
    exec (.bootstrapUvlo l b p) s = .next (s.on l fun L => (L.uvloNoted b p).countOnly (brCode b 4)) :=
  congrArg Host.Outcome.next (s.on_congr l ((if_pos hserved).trans (if_pos hwait)))

theorem exec_bootstrapUvlo_of_episode (hserved : (s.lane l).served b = true)
    (hwait : ((s.lane l).gates.get b).wait = false) (hepisode : ((s.lane l).gates.get b).episode = true) (p : Phase) :
    exec (.bootstrapUvlo l b p) s = .next (s.on l fun L => L.uvloRaised b p) :=
  congrArg Host.Outcome.next (s.on_congr l ((if_pos hserved).trans
    ((if_neg (by simp [hwait])).trans (if_pos hepisode))))

theorem exec_bootstrapUvlo_of_free (hserved : (s.lane l).served b = true)
    (hwait : ((s.lane l).gates.get b).wait = false) (hepisode : ((s.lane l).gates.get b).episode = false)
    (p : Phase) :
    exec (.bootstrapUvlo l b p) s = .next (s.on l fun L => (L.uvloRaised b p).gateEvent b 4) :=
  congrArg Host.Outcome.next (s.on_congr l ((if_pos hserved).trans
    ((if_neg (by simp [hwait])).trans (if_neg (by simp [hepisode])))))

/-- Outside a wait and an episode, a low bootstrap supply is a fault wait of kind 4. -/
theorem bootstrapUvlo_waits (hserved : (s.lane l).served b = true) (hwait : ((s.lane l).gates.get b).wait = false)
    (hepisode : ((s.lane l).gates.get b).episode = false) (hlatch : ((s.lane l).gates.get b).latch = false)
    (htries : ((s.lane l).triesNow b).length < 3) (p : Phase) :
    ∃ t, exec (.bootstrapUvlo l b p) s = .next t ∧ OnlyLane l s t ∧ ((t.lane l).gates.get b).wait = true ∧
      ((t.lane l).gates.get b).waitKind = 4 ∧ ((t.lane l).gates.get b).onOut = 0 := by
  refine ⟨_, exec_bootstrapUvlo_of_free hserved hwait hepisode p, s.onlyLane_on l _, ?_⟩
  rw [State.lane_on_same]
  have hkept : (((s.lane l).uvloRaised b p).gates.get b).latched = ((s.lane l).gates.get b).latched := by
    rw [Lane.uvloRaised, Lane.raise_gates, Lane.uvloNoted_gate]
    rfl
  obtain ⟨hprot, hoff⟩ := Lane.gateEvent_of_early ((congrArg Prod.fst hkept).trans hlatch)
    (by rwa [Lane.triesNow_congr ((s.lane l).uvloRaised_onlySet b p) hkept]) 4
  exact ⟨Gate.read_eq hprot Gate.wait, Gate.read_eq hprot Gate.waitKind, hoff⟩

end

/-! ### The statement -/

/-- Settles O25: a detection opens an episode, is a fault wait or only counts, and its episode ends in a fault wait or a
latch (R194, R197, R200-R205, log entry 79). -/
theorem shortCircuitEpisodes : Obligations.ShortCircuitEpisodes := by
  refine ⟨fun s l b hserved => ⟨fun hwait hon => ⟨hardOvercurrent_opens hserved hwait hon,
      fun out hout => desaturationDetect_opens hserved hwait hon ?_,
      fun out hsoft => gateReadbackMismatch_opens hserved hwait hon hsoft⟩,
      hardOvercurrent_waits hserved, fun hwait => ⟨?_, fun out => ?_, fun out hsoft => ?_⟩,
      fun p hwait => ?_, fun p hwait hepisode => ?_,
      fun p hwait hepisode hlatch htries => bootstrapUvlo_waits hserved hwait hepisode hlatch htries p⟩,
    fun s l b => ⟨fun hno => ⟨exec_hardOvercurrent_of_unserved hno,
      fun out => exec_desaturationDetect_of_idle (.inl hno),
      fun out => exec_gateReadbackMismatch_of_idle (.inl hno), exec_bootstrapUvlo_of_unserved hno⟩,
      fun out hsoft => exec_gateReadbackMismatch_of_idle (.inr hsoft),
      fun out hwait hepisode hout hmode => exec_desaturationDetect_of_idle (.inr ?_),
      softTurnoffEnd_ends, exec_softTurnoffEnd_of_none⟩⟩
  · rcases hout with h | h <;> simp only [Lane.desatArmed, h, Bool.or_true, Bool.true_or]
  · rw [exec_hardOvercurrent_of_served hserved]
    exact congrArg Host.Outcome.next (s.on_congr l (Lane.detect_of_wait hwait ..))
  · rw [exec_desaturationDetect_of_armed hserved (by simp [Lane.desatArmed, hwait])]
    exact congrArg Host.Outcome.next (s.on_congr l (Lane.detect_of_wait hwait ..))
  · rw [exec_gateReadbackMismatch_of_watched hserved hsoft]
    exact congrArg Host.Outcome.next (s.on_congr l (Lane.detect_of_wait hwait ..))
  · refine ⟨_, exec_bootstrapUvlo_of_wait hserved hwait p, s.onlyLane_on l _, ?_⟩
    rw [State.lane_on_same, Lane.countOnly_gates, Lane.countOnly_kiln, Lane.countOnly_bridges, Lane.uvloNoted_gate,
      Lane.uvloNoted_bridges, Lane.uvloNoted_count]
    exact ⟨Tri3.get_set_same .., rfl, rfl⟩
  · refine ⟨_, exec_bootstrapUvlo_of_episode hserved hwait hepisode p, s.onlyLane_on l _, ?_⟩
    rw [State.lane_on_same, Lane.uvloRaised, Lane.raise_gates, Lane.raise_bridges, Lane.raise_last,
      Lane.uvloNoted_gate, Lane.uvloNoted_bridges]
    exact ⟨Tri3.get_set_same .., hepisode, rfl, rfl⟩
  · rw [Lane.desatArmed, hwait, hepisode, hout, hmode]
    rfl

end Sys2Proof.Machine
end

section
/-! PROOFS, fault waits, tries and the end of a self-test. -/
namespace Sys2Proof.Machine

section
variable {s : State} {l : LaneId} {b : Fin 8}

/-! ### Waits and tries (R207, R208) -/

/-- A gate drive whose fault wait has ended in a try, counted among the tries that still count. -/
def Gate.tried (g : Gate) (now : Nat) (tries : List Nat) : Gate :=
  { g with wait := false, trying := true, tries := now :: tries }

/-- A gate drive whose try is released. -/
def Gate.released (g : Gate) : Gate := { g with trying := false, bsUv := ⟨false, false, false⟩ }

theorem exec_faultWaitEnd_of_wait (h : ((s.lane l).gates.get b).wait = true) :
    exec (.faultWaitEnd l b) s =
      .next (s.on l fun L => (L.onGate b fun g => g.tried L.tb.mono (L.triesNow b)).settle b) :=
  State.next_on_of_holds (c := fun L => (L.gates.get b).wait = true) h

theorem exec_faultWaitEnd_of_none (h : ((s.lane l).gates.get b).wait = false) :
    exec (.faultWaitEnd l b) s = .next s :=
  State.next_on_of_fails (c := fun L => (L.gates.get b).wait = true) (by simp [h])

theorem exec_tryRelease_of_trying (h : ((s.lane l).gates.get b).trying = true) :
    exec (.tryRelease l b) s = .next (s.on l fun L => (L.onGate b Gate.released).reopen b) :=
  State.next_on_of_holds (c := fun L => (L.gates.get b).trying = true) h

theorem exec_tryRelease_of_none (h : ((s.lane l).gates.get b).trying = false) :
    exec (.tryRelease l b) s = .next s :=
  State.next_on_of_fails (c := fun L => (L.gates.get b).trying = true) (by simp [h])

theorem exec_tryTimeout_of_trying (h : ((s.lane l).gates.get b).trying = true) :
    exec (.tryTimeout l b) s = .next (s.on l fun L => L.gateEvent b (L.gates.get b).waitKind) :=
  State.next_on_of_holds (c := fun L => (L.gates.get b).trying = true) h

theorem exec_tryTimeout_of_none (h : ((s.lane l).gates.get b).trying = false) :
    exec (.tryTimeout l b) s = .next s :=
  State.next_on_of_fails (c := fun L => (L.gates.get b).trying = true) (by simp [h])

/-- A wait that ends is a try, and the try counts. -/
theorem faultWaitEnd_tries (h : ((s.lane l).gates.get b).wait = true) :
    ∃ t, exec (.faultWaitEnd l b) s = .next t ∧ OnlyLane l s t ∧ ((t.lane l).gates.get b).wait = false ∧
      ((t.lane l).gates.get b).trying = true ∧
      ((t.lane l).gates.get b).tries = (s.lane l).tb.mono :: (s.lane l).triesNow b ∧
      (t.lane l).vote = (s.lane l).vote := by
  refine ⟨_, exec_faultWaitEnd_of_wait h, s.onlyLane_on l _, ?_⟩
  rw [State.lane_on_same]
  have hprot := Lane.settle_protection
    ((s.lane l).onGate b fun g => g.tried (s.lane l).tb.mono ((s.lane l).triesNow b)) b
  rw [Lane.onGate_same] at hprot
  exact ⟨Gate.read_eq hprot Gate.wait, Gate.read_eq hprot Gate.trying, Gate.read_eq hprot Gate.tries,
    (Lane.settle_voteKept ..).2⟩

/-- A released try ends with its bootstrap supplies up. -/
theorem tryRelease_ends (h : ((s.lane l).gates.get b).trying = true) :
    ∃ t, exec (.tryRelease l b) s = .next t ∧ OnlyLane l s t ∧ ((t.lane l).gates.get b).trying = false ∧
      ((t.lane l).gates.get b).bsUv = ⟨false, false, false⟩ ∧ (t.lane l).vote = (s.lane l).vote := by
  refine ⟨_, exec_tryRelease_of_trying h, s.onlyLane_on l _, ?_⟩
  rw [State.lane_on_same]
  have hprot := Lane.reopen_protection ((s.lane l).onGate b Gate.released) b
  rw [Lane.onGate_same] at hprot
  exact ⟨Gate.read_eq hprot Gate.trying, Gate.read_eq hprot Gate.bsUv, (Lane.reopen_voteKept ..).2⟩

/-- A try that times out is a fault wait of the same kind. -/
theorem tryTimeout_waits (h : ((s.lane l).gates.get b).trying = true) (hlatch : ((s.lane l).gates.get b).latch = false)
    (htries : ((s.lane l).triesNow b).length < 3) :
    ∃ t, exec (.tryTimeout l b) s = .next t ∧ OnlyLane l s t ∧ ((t.lane l).gates.get b).wait = true ∧
      ((t.lane l).gates.get b).trying = false ∧ (t.lane l).vote = (s.lane l).vote ∧
      ((t.lane l).gates.get b).waitKind = ((s.lane l).gates.get b).waitKind := by
  refine ⟨_, exec_tryTimeout_of_trying h, s.onlyLane_on l _, ?_⟩
  rw [State.lane_on_same]
  have hprot := (Lane.gateEvent_of_early hlatch htries ((s.lane l).gates.get b).waitKind).1
  exact ⟨Gate.read_eq hprot Gate.wait, Gate.read_eq hprot Gate.trying, (Lane.gateEvent_voteKept ..).2,
    Gate.read_eq hprot Gate.waitKind⟩

/-- After three tries in the last second it is a latch. -/
theorem tryTimeout_latches (h : ((s.lane l).gates.get b).trying = true)
    (hlatch : ((s.lane l).gates.get b).latch = false) (htries : 3 ≤ ((s.lane l).triesNow b).length) :
    ∃ t, exec (.tryTimeout l b) s = .next t ∧ OnlyLane l s t ∧ ((t.lane l).gates.get b).latch = true ∧
      ((t.lane l).gates.get b).wait = false ∧ ((t.lane l).gates.get b).trying = false ∧
      ((t.lane l).gates.get b).latchedKind = BitVec.ofNat 8 ((s.lane l).gates.get b).waitKind := by
  refine ⟨_, exec_tryTimeout_of_trying h, s.onlyLane_on l _, ?_⟩
  rw [State.lane_on_same]
  have hprot := Lane.gateEvent_of_third hlatch htries ((s.lane l).gates.get b).waitKind
  exact ⟨Gate.read_eq hprot Gate.latch, Gate.read_eq hprot Gate.wait, Gate.read_eq hprot Gate.trying,
    Gate.read_eq hprot Gate.latchedKind⟩

/-! ### The end of a self-test (R211, R212) -/

theorem exec_selftestComplete_of_done (h : ((s.lane l).gates.get b).testing = true) (desat : BitVec 6) (oc : Bool)
    (bs : BitVec 3) :
    exec (.selftestComplete l b (.done desat oc bs)) s = .next (s.on l fun L => L.testDone b desat oc bs) :=
  State.next_on_of_holds (c := fun L => (L.gates.get b).testing = true) h

theorem exec_selftestComplete_of_aborted (h : ((s.lane l).gates.get b).testing = true) :
    exec (.selftestComplete l b .aborted) s = .next (s.on l fun L => L.abortTest b) :=
  State.next_on_of_holds (c := fun L => (L.gates.get b).testing = true) h

theorem exec_selftestComplete_of_none (h : ((s.lane l).gates.get b).testing = false) (e : TestEnd) :
    exec (.selftestComplete l b e) s = .next s :=
  State.next_on_of_fails (c := fun L => (L.gates.get b).testing = true) (by simp [h])

end

/-- A gate drive whose self-test has ended, with the result objects it leaves. -/
def Gate.testOver (g : Gate) (r : Res3) : Gate := { g with testing := false, testBy := none, result := r }

/-- A test that a master started and that passes reports it and ends the isolation of an earlier failure. -/
theorem Lane.testDone_of_pass {L : Lane} {b : Fin 8} {m : Master} (h : (L.gates.get b).testBy = some m) :
    L.testDone b 0 false 0 =
      ((L.onGate b fun g => g.testOver ((L.gates.get b).result.finish m 0)).unisolate b (brCode b 8)).settle b := by
  simp [Lane.testDone, h, Gate.testOver, b2n]

/-- A test that fails isolates the set. -/
theorem Lane.testDone_of_fail (L : Lane) (b : Fin 8) {desat : BitVec 6} {oc : Bool} {bs : BitVec 3}
    (h : desat ≠ 0 ∨ oc = true ∨ bs ≠ 0) :
    ∃ r, L.testDone b desat oc bs = (L.onGate b fun g => g.testOver r).isolate b (brCode b 8) :=
  ⟨_, if_pos (by simpa [or_assoc] using h)⟩

/-- An aborted test is a record (R212). -/
theorem Lane.abortTest_of_testing {L : Lane} {b : Fin 8} (h : (L.gates.get b).testing = true) :
    ∃ r, L.abortTest b = (L.onGate b fun g => g.testOver r).raise (brCode b 9) 0 :=
  ⟨_, if_pos h⟩

/-- What a passed test leaves in its gate drive and among the causes of its set's isolation. -/
theorem Lane.testDone_pass_result {L : Lane} {b : Fin 8} {m : Master} (h : (L.gates.get b).testBy = some m) :
    ((L.testDone b 0 false 0).gates.get b).testing = false ∧
      ((L.testDone b 0 false 0).gates.get b).result = (L.gates.get b).result.finish m 0 ∧
      ((L.testDone b 0 false 0).bridges.get b).isolKinds =
        (L.bridges.get b).isolKinds.filter (· ≠ brCode b 8) := by
  rw [Lane.testDone_of_pass h, (Lane.settle_requests ..).1, Lane.unisolate_isolKinds, Lane.onGate_bridges]
  have hgate : (((L.onGate b fun g => g.testOver ((L.gates.get b).result.finish m 0)).unisolate b
      (brCode b 8)).gates.get b) = (L.gates.get b).testOver ((L.gates.get b).result.finish m 0) := by
    rw [Lane.unisolate_gates, Lane.onGate_same]
  obtain ⟨htest, hresult, -⟩ := Lane.settle_of_untested (congrArg Gate.testing hgate)
  exact ⟨htest, hresult.trans (congrArg Gate.result hgate), rfl⟩

/-- What a failed test leaves: no test runs, the failure recorded, and among the causes of a mapped set's isolation. -/
theorem Lane.testDone_fail_result (L : Lane) (b : Fin 8) {desat : BitVec 6} {oc : Bool} {bs : BitVec 3}
    (h : desat ≠ 0 ∨ oc = true ∨ bs ≠ 0) :
    ((L.testDone b desat oc bs).gates.get b).testing = false ∧
      (L.testDone b desat oc bs).flog.last = BitVec.ofNat 16 (brCode b 8) ∧
      ∀ n, L.actOf b = some n → brCode b 8 ∈ ((L.testDone b desat oc bs).bridges.get b).isolKinds := by
  obtain ⟨r, heq⟩ := L.testDone_of_fail b h
  rw [heq, Lane.isolate]
  have hover : (((L.onGate b fun g => g.testOver r).raise (brCode b 8) 2).gates.get b).testing = false := by
    rw [Lane.raise_gates, Lane.onGate_same, Gate.testOver]
  obtain ⟨htest, hlog⟩ := Lane.isolateSet_of_untested hover (brCode b 8)
  refine ⟨htest, ?_, fun n hact => ?_⟩
  · rw [hlog, Lane.raise_last]
  · have hactOver : ((L.onGate b fun g => g.testOver r).raise (brCode b 8) 2).actOf b = some n := by
      rw [Lane.actOf_congr (Lane.raise_id ..) (Lane.raise_dict ..), Lane.actOf_congr (Lane.onGate_id ..)
        (Lane.onGate_dict ..), hact]
    obtain ⟨-, -, hkinds⟩ := Lane.isolateSet_result hactOver (brCode b 8)
    exact (hkinds (brCode b 8)).2 (.inl rfl)

/-! ### The statement -/

/-- Settles O26: a wait ends in a try, a try in its release or a new fault event, and a self-test in its report, an
isolation or a record (R205, R207, R208, R211, R212). -/
theorem faultWaitsAndTries : Obligations.FaultWaitsAndTries := by
  refine fun s l b => ⟨faultWaitEnd_tries, exec_faultWaitEnd_of_none,
    fun htry => ⟨tryRelease_ends htry, tryTimeout_waits htry, tryTimeout_latches htry⟩,
    fun hnone => ⟨exec_tryRelease_of_none hnone, exec_tryTimeout_of_none hnone⟩,
    fun htest => ⟨fun m hby => ?_, fun desat oc bs hfail => ?_, ?_⟩,
    exec_selftestComplete_of_none⟩
  · refine ⟨_, exec_selftestComplete_of_done htest 0 false 0, s.onlyLane_on l _, ?_⟩
    rw [State.lane_on_same]
    exact Lane.testDone_pass_result hby
  · refine ⟨_, exec_selftestComplete_of_done htest desat oc bs, s.onlyLane_on l _, ?_⟩
    rw [State.lane_on_same]
    obtain ⟨hover, hlast, hkinds⟩ := (s.lane l).testDone_fail_result b hfail
    exact ⟨hover, (Lane.testDone_voteKept ..).2, hlast, hkinds⟩
  · refine ⟨_, exec_selftestComplete_of_aborted htest, s.onlyLane_on l _, ?_⟩
    obtain ⟨r, heq⟩ := Lane.abortTest_of_testing htest
    rw [State.lane_on_same, heq, Lane.raise_last, Lane.raise_gates, Lane.onGate_same, Lane.raise_bridges,
      Lane.onGate_bridges]
    exact ⟨rfl, rfl, rfl⟩

end Sys2Proof.Machine
end

section
/-! PROOFS, the DC link: what placing a bridge leaves of it, loops over the winding sets of a lane, and its
thresholds. -/
namespace Sys2Proof.Machine

/-! ### Placing a bridge leaves the DC link -/

@[simp] theorem Lane.abortTest_dc (L : Lane) (b : Fin 8) : (L.abortTest b).dc = L.dc := by
  unfold Lane.abortTest
  dsimp only
  split <;> rfl

@[simp] theorem Lane.testEnded_dc (L : Lane) (b : Fin 8) : (L.testEnded b).dc = L.dc := by
  unfold Lane.testEnded
  split
  · exact L.abortTest_dc b
  · rfl

@[simp] theorem Lane.settle_dc (L : Lane) (b : Fin 8) : (L.settle b).dc = L.dc := by
  rcases L.settle_cases b with ⟨-, h⟩ | h <;> simp [h]

@[simp] theorem Lane.followEmf_dc (L : Lane) (b : Fin 8) : (L.followEmf b).dc = L.dc := by
  unfold Lane.followEmf
  split
  · rfl
  · simp [apply_ite Lane.dc]

/-- An operation on winding set `b` that leaves the DC link. -/
structure Lane.LinkSet (b : Fin 8) (L M : Lane) : Prop extends Lane.OnlySet b L M where
  dc : M.dc = L.dc

theorem Lane.settle_linkSet (L : Lane) (b : Fin 8) : L.LinkSet b (L.settle b) :=
  ⟨(L.settle_placedSet b).toOnlySet, L.settle_dc b⟩

theorem Lane.isolateSet_linkSet (L : Lane) (b : Fin 8) (code : Nat) : L.LinkSet b (L.isolateSet b code) := by
  refine ⟨(L.isolateSet_placedSet b code).toOnlySet, ?_⟩
  cases hact : L.actOf b with
  | none => rw [Lane.isolateSet_of_unmapped hact]
  | some n =>
    obtain ⟨short, heq⟩ := Lane.isolateSet_of_mapped hact code
    rw [heq, Lane.settle_dc, Lane.onBr_dc, Lane.onFe_dc]

theorem Lane.unisolate_linkSet (L : Lane) (b : Fin 8) (code : Nat) : L.LinkSet b (L.unisolate b code) := by
  unfold Lane.unisolate
  dsimp only
  split
  · exact ⟨.refl b L, rfl⟩
  · split
    · exact ⟨L.onBr_onlySet b _, rfl⟩
    · exact ⟨((L.onBr_onlySet b _).trans (Lane.onBr_onlySet ..)).trans (Lane.onFe_onlySet ..), rfl⟩

theorem Lane.unisolate_flog (L : Lane) (b : Fin 8) (code : Nat) : (L.unisolate b code).flog = L.flog := by
  unfold Lane.unisolate
  dsimp only
  split
  · rfl
  · split <;> rfl

theorem Lane.reopen_linkSet (L : Lane) (b : Fin 8) : L.LinkSet b (L.reopen b) := by
  unfold Lane.reopen
  dsimp only
  split
  · have settled := (L.setMode b .disabled).settle_linkSet b
    exact ⟨(L.setMode_placedSet b _).toOnlySet.trans settled.toOnlySet, settled.dc.trans (L.setMode_dc b _)⟩
  · exact L.settle_linkSet b

/-! ### Loops over the winding sets -/

/-- Winding set `b` is the same, and what placing it reads of the lane. -/
structure Lane.SetKept (b : Fin 8) (L M : Lane) : Prop where
  id : M.id = L.id
  dict : M.dict = L.dict
  pwr : M.pwr = L.pwr
  dc : M.dc = L.dc
  bridge : M.bridges.get b = L.bridges.get b
  fe : M.fes.get b = L.fes.get b
  gate : M.gates.get b = L.gates.get b

theorem Lane.SetKept.refl (b : Fin 8) (L : Lane) : L.SetKept b L := ⟨rfl, rfl, rfl, rfl, rfl, rfl, rfl⟩

theorem Lane.SetKept.trans {b : Fin 8} {L M N : Lane} (h : L.SetKept b M) (h' : M.SetKept b N) : L.SetKept b N :=
  ⟨h'.id.trans h.id, h'.dict.trans h.dict, h'.pwr.trans h.pwr, h'.dc.trans h.dc, h'.bridge.trans h.bridge,
    h'.fe.trans h.fe, h'.gate.trans h.gate⟩

theorem Lane.SetKept.actOf {b : Fin 8} {L M : Lane} (h : L.SetKept b M) : M.actOf = L.actOf :=
  Lane.actOf_congr h.id h.dict

/-- An operation on another set keeps this one. -/
theorem Lane.LinkSet.setKept {b c : Fin 8} {L M : Lane} (h : L.LinkSet c M) (hne : b ≠ c) : L.SetKept b M :=
  ⟨h.id, h.dict, h.pwr, h.dc, h.bridges b hne, h.fes b hne, h.gates b hne⟩

section
variable {f : Lane → Fin 8 → Lane} (hf : ∀ (M : Lane) c, M.LinkSet c (f M c))
include hf

/-- A loop over other sets keeps this one. -/
theorem Lane.foldl_setKept {b : Fin 8} {l : List (Fin 8)} (hb : b ∉ l) (L : Lane) : L.SetKept b (l.foldl f L) :=
  List.foldlRecOn l f (motive := L.SetKept b) (.refl b L) fun M hM c hc =>
    hM.trans ((hf M c).setKept fun h => hb (h ▸ hc))

/-- A loop over the eight sets acts on each once, and finds it as it was before the loop. -/
theorem Lane.foldl_fin8_set (b : Fin 8) (L : Lane) :
    ∃ M, L.SetKept b M ∧ (f M b).SetKept b (fin8.foldl f L) := by
  obtain ⟨before, after, hsplit⟩ := List.append_of_mem (mem_fin8 b)
  have hnodup : (before ++ b :: after).Nodup := hsplit ▸ (by decide : fin8.Nodup)
  obtain ⟨hbefore, hafter⟩ : b ∉ before ∧ b ∉ after := by simpa using (List.nodup_middle.1 hnodup).notMem
  rw [hsplit, List.foldl_append, List.foldl_cons]
  exact ⟨_, Lane.foldl_setKept hf hbefore L, Lane.foldl_setKept hf hafter _⟩

theorem Lane.foldl_linkSet_dc (l : List (Fin 8)) (L : Lane) : (l.foldl f L).dc = L.dc :=
  List.foldlRecOn l f (motive := fun M : Lane => M.dc = L.dc) rfl fun M hM c _ => (hf M c).dc.trans hM

end

@[simp] theorem Lane.settleAll_dc (L : Lane) : L.settleAll.dc = L.dc :=
  Lane.foldl_linkSet_dc Lane.settle_linkSet fin8 L

/-! ### The thresholds of the link (Table 7.1) -/

/-- The DC link with its flags and its chopper as a judgement leaves them. -/
def DcLink.judged (d : DcLink) (ov1 ov2 ov3 cut low chop : Bool) : DcLink :=
  { d with
    ov1 := ov1, ov2 := ov2, ov3 := ov3, regenCut := cut, linkLow := low, chopOn := chop
    chopRun := if chop = d.chopOn then d.chopRun else 0 }

/-- A judgement sets the flags and the chopper; it may record a cut and settle every bridge. -/
theorem Lane.judgeLink_cases (L : Lane) : ∃ ov1 ov2 ov3 cut low M,
    (M = { L with dc := L.dc.judged ov1 ov2 ov3 cut low (L.chopNext ov1) } ∨
      M = ({ L with dc := L.dc.judged ov1 ov2 ov3 cut low (L.chopNext ov1) } : Lane).raise (dcCode 5) 0) ∧
    (L.judgeLink = M ∨ L.judgeLink = M.settleAll) := by
  unfold Lane.judgeLink
  exact ⟨_, _, _, _, _, _, (ite_eq_or_eq ..).symm, (ite_eq_or_eq ..).symm⟩

theorem Lane.judgeLink_dc (L : Lane) : ∃ ov1 ov2 ov3 cut low,
    L.judgeLink.dc = L.dc.judged ov1 ov2 ov3 cut low (L.chopNext ov1) := by
  obtain ⟨ov1, ov2, ov3, cut, low, M, hM, hjudge⟩ := L.judgeLink_cases
  have hdc : M.dc = L.dc.judged ov1 ov2 ov3 cut low (L.chopNext ov1) := by rcases hM with rfl | rfl <;> rfl
  refine ⟨ov1, ov2, ov3, cut, low, ?_⟩
  rcases hjudge with h | h
  · rw [h, hdc]
  · rw [h, Lane.settleAll_dc, hdc]

/-- A gate held low by the stop line or the gate rail is off (R229). -/
theorem Lane.chopNext_of_held {L : Lane} (h : L.chopHeld = true) (ov1 : Bool) : L.chopNext ov1 = false :=
  if_pos h

/-- A faulty chopper is on for a hardware hold or a test alone (R222, R225, R229). -/
theorem Lane.chopNext_of_fault {L : Lane} (hfault : L.dc.chopFault = true) (hhold : L.dc.hwHold = false)
    (htest : L.dc.testing = false) (ov1 : Bool) : L.chopNext ov1 = false := by
  simp [Lane.chopNext, Lane.chopAvail, hfault, hhold, htest]

end Sys2Proof.Machine
end

section
/-! PROOFS, samples of the DC link and checks of the chopper. -/
namespace Sys2Proof.Machine

section
variable {s : State} {l : LaneId}

/-! ### Samples (R217, R218, R221) -/

/-- The lane with a sample of its link taken, its thresholds not yet judged. -/
def Lane.linkSampled (L : Lane) (v i : Rat) : Lane :=
  { L with
    dc := { L.dc with
      vdc := vdcReading v, vdcNs := L.tb.ns, chi := i, recent := (vdcReading v :: L.dc.recent).take 4
      chopRun := L.dc.chopRun + 1 }
    kiln := { L.kiln with secVdc := some (match L.kiln.secVdc with
      | some a => max a (vdcReading v)
      | none => vdcReading v) } }

theorem exec_vdcSample_of_alive (h : (s.lane l).alive = true) (v i : Rat) :
    exec (.vdcSample l { v := v, chi := i }) s =
      .next (s.on l fun L => fin8.foldl Lane.followEmf (L.linkSampled v i).judgeLink) :=
  State.next_on_of_holds (c := fun L => L.alive = true) h

theorem exec_vdcSample_of_dead (h : (s.lane l).alive = false) (x : LinkSample) :
    exec (.vdcSample l x) s = .next s :=
  State.next_on_of_fails (c := fun L => L.alive = true) (by simp [h])

/-- The set of a bridge follows its back-EMF without acting on the link (R173). -/
theorem Lane.foldl_followEmf_dc (L : Lane) : (fin8.foldl Lane.followEmf L).dc = L.dc :=
  List.foldlRecOn fin8 _ (motive := fun M : Lane => M.dc = L.dc) rfl fun M hM b _ => (M.followEmf_dc b).trans hM

theorem Lane.chopHeld_iff (L : Lane) :
    L.chopHeld = true ↔ L.pwr.stopLine = true ∨ L.pwr.vgdBad = true ∨ L.pwr.vgdOn = false := by
  simp [Lane.chopHeld, or_assoc]

theorem vdcSample_takes (h : (s.lane l).alive = true) (v i : Rat) :
    ∃ t, exec (.vdcSample l { v := v, chi := i }) s = .next t ∧ OnlyLane l s t ∧
      (t.lane l).dc.vdc = vdcReading v ∧ (t.lane l).dc.chi = i ∧
      (t.lane l).dc.recent = (vdcReading v :: (s.lane l).dc.recent).take 4 ∧
      (t.lane l).dc.vdcNs = (s.lane l).tb.ns ∧ ((s.lane l).chopHeld = true → (t.lane l).dc.chopOn = false) ∧
      (t.lane l).vote = (s.lane l).vote := by
  refine ⟨_, exec_vdcSample_of_alive h v i, s.onlyLane_on l _, ?_⟩
  rw [State.lane_on_same, Lane.foldl_followEmf_dc]
  obtain ⟨ov1, ov2, ov3, cut, low, hdc⟩ := ((s.lane l).linkSampled v i).judgeLink_dc
  rw [hdc]
  exact ⟨rfl, rfl, rfl, rfl, fun hheld => Lane.chopNext_of_held (L := (s.lane l).linkSampled v i) hheld ov1,
    ((Lane.foldl_voteKept Lane.followEmf_voteKept fin8 _).2).trans (Lane.judgeLink_voteKept _).2⟩

/-! ### Checks of the chopper current (R222, R225) -/

/-- Iexp, the current of a chopper that is on (R222). -/
def Lane.chopExpected (L : Lane) : Rat := L.dc.vdc / L.dcReal 0x0C

theorem Lane.chopVerdict_on_open {L : Lane} {i : Rat} (h : i < 3 / 10 * L.chopExpected) : L.chopVerdict true i = 1 :=
  if_pos h

theorem Lane.chopVerdict_on_wrong {L : Lane} {i : Rat} (hopen : 3 / 10 * L.chopExpected ≤ i)
    (h : i ≤ 7 / 10 * L.chopExpected ∨ 13 / 10 * L.chopExpected < i) : L.chopVerdict true i = 2 :=
  (if_neg (not_lt.2 hopen)).trans (if_pos h)

theorem Lane.chopVerdict_on_good {L : Lane} {i : Rat} (hopen : 3 / 10 * L.chopExpected ≤ i)
    (hlo : 7 / 10 * L.chopExpected < i) (hhi : i ≤ 13 / 10 * L.chopExpected) : L.chopVerdict true i = 0 :=
  (if_neg (not_lt.2 hopen)).trans (if_neg (not_or.2 ⟨not_le.2 hlo, not_lt.2 hhi⟩))

theorem Lane.chopVerdict_off (L : Lane) (i : Rat) :
    L.chopVerdict false i = if max 1 (L.chopExpected / 10) < i then 3 else 0 :=
  rfl

theorem Lane.chopCheck_of_on {L : Lane} {k : Nat} {i : Rat} (hon : L.dc.chopOn = true) (hk : L.chopVerdict true i = k) :
    L.chopCheck i = { L.dc with
      openRun := if k = 1 then L.dc.openRun + 1 else 0, wrongRun := if k = 2 then L.dc.wrongRun + 1 else 0 } := by
  simp [Lane.chopCheck, hon, hk]

theorem Lane.chopCheck_of_off {L : Lane} (hoff : L.dc.chopOn = false) (i : Rat) :
    L.chopCheck i = { L.dc with
      condRun := if max 1 (L.chopExpected / 10) < i then L.dc.condRun + 1 else 0 } := by
  simp [Lane.chopCheck, hoff, Lane.chopVerdict_off]

/-- What a current check makes of the link: a check of the test that runs, none while the chopper is faulty, else a
running check. -/
def Lane.currentChecked (L : Lane) (i : Rat) : DcLink :=
  if L.dc.testing then L.chopTestCheck i else if L.dc.chopFault then L.dc else L.chopCheck i

theorem exec_chopperCurrentCheck_of_alive (h : (s.lane l).alive = true) {i : Rat} {d : DcLink}
    (hd : (s.lane l).currentChecked i = d) :
    exec (.chopperCurrentCheck l i) s = .next (s.on l fun L => { L with dc := { d with chi := i } }) := by
  subst hd
  exact congrArg Host.Outcome.next (s.on_congr l (if_pos h))

theorem exec_chopperCurrentCheck_of_dead (h : (s.lane l).alive = false) (i : Rat) :
    exec (.chopperCurrentCheck l i) s = .next s :=
  State.next_on_of_fails (c := fun L => L.alive = true) (by simp [h])

/-- A running check of a chopper that is not faulty. -/
theorem exec_chopperCurrentCheck_of_running (h : (s.lane l).alive = true) (htest : (s.lane l).dc.testing = false)
    (hfault : (s.lane l).dc.chopFault = false) (i : Rat) :
    exec (.chopperCurrentCheck l i) s = .next (s.on l fun L => { L with dc := { L.chopCheck i with chi := i } }) :=
  (exec_chopperCurrentCheck_of_alive h rfl).trans (congrArg Host.Outcome.next (s.on_congr l (by
    simp [Lane.currentChecked, htest, hfault])))

theorem exec_chopperCurrentCheck_of_on (h : (s.lane l).alive = true) (htest : (s.lane l).dc.testing = false)
    (hfault : (s.lane l).dc.chopFault = false) (hon : (s.lane l).dc.chopOn = true) {k : Nat} {i : Rat}
    (hk : (s.lane l).chopVerdict true i = k) :
    exec (.chopperCurrentCheck l i) s = .next (s.on l fun L => { L with dc := { L.dc with
      chi := i, openRun := if k = 1 then L.dc.openRun + 1 else 0
      wrongRun := if k = 2 then L.dc.wrongRun + 1 else 0 } }) :=
  (exec_chopperCurrentCheck_of_running h htest hfault i).trans (congrArg Host.Outcome.next (s.on_congr l (by
    rw [Lane.chopCheck_of_on hon hk])))

theorem chopperCurrentCheck_tests (h : (s.lane l).alive = true) (htest : (s.lane l).dc.testing = true) (i : Rat) :
    ∃ t, exec (.chopperCurrentCheck l i) s = .next t ∧ OnlyLane l s t ∧ (t.lane l).dc.chi = i ∧
      (t.lane l).dc.testChecks = (s.lane l).dc.testChecks + 1 ∧
      (2 ≤ (s.lane l).dc.testChecks → (t.lane l).dc.chopOn = false) ∧ (t.lane l).vote = (s.lane l).vote := by
  refine ⟨_, exec_chopperCurrentCheck_of_alive h (if_pos htest), s.onlyLane_on l _, ?_⟩
  rw [State.lane_on_same]
  refine ⟨rfl, rfl, fun hthird => ?_, rfl⟩
  exact (congrArg _ (decide_eq_false (not_lt.2 hthird))).trans (Bool.and_false _)

/-! ### A faulty chopper (R222) -/

/-- The lane with a fault of its chopper recorded, its thresholds not yet judged. -/
def Lane.chopFailed (L : Lane) (kind : Nat) : Lane :=
  ({ L with dc := { L.dc with
    chopFault := true, chopFaultKind := kind, openRun := 0, wrongRun := 0, condRun := 0 } } : Lane).raise
      (dcCode kind) 2

theorem Lane.chopFail_eq (L : Lane) (kind : Nat) : L.chopFail kind = (L.chopFailed kind).judgeLink := rfl

/-- What a fault of the chopper leaves: CHOP_FAULT with its KIND, no run of failures, and the gate low but for a
hardware hold or a test. -/
theorem Lane.chopFail_dc (L : Lane) (kind : Nat) :
    (L.chopFail kind).dc.chopFault = true ∧ (L.chopFail kind).dc.chopFaultKind = kind ∧
      (L.chopFail kind).dc.openRun = 0 ∧ (L.chopFail kind).dc.wrongRun = 0 ∧ (L.chopFail kind).dc.condRun = 0 ∧
      (L.chopFail kind).dc.testing = L.dc.testing ∧ (L.chopFail kind).dc.ctest = L.dc.ctest ∧
      (L.dc.hwHold = false → L.dc.testing = false → (L.chopFail kind).dc.chopOn = false) := by
  obtain ⟨ov1, ov2, ov3, cut, low, hdc⟩ := (L.chopFailed kind).judgeLink_dc
  rw [Lane.chopFail_eq, hdc]
  exact ⟨rfl, rfl, rfl, rfl, rfl, rfl, rfl,
    fun hhold htest => Lane.chopNext_of_fault (L := L.chopFailed kind) rfl hhold htest ov1⟩

/-- KIND of the first complete run of failures (R222). -/
def DcLink.failedKind (d : DcLink) : Nat := if 3 ≤ d.openRun then 1 else if 3 ≤ d.wrongRun then 2 else 3

theorem exec_chopperFault_of_run (hfault : (s.lane l).dc.chopFault = false)
    (hrun : 3 ≤ (s.lane l).dc.openRun ∨ 3 ≤ (s.lane l).dc.wrongRun ∨ 3 ≤ (s.lane l).dc.condRun) :
    exec (.chopperFault l) s = .next (s.on l fun L => L.chopFail L.dc.failedKind) := by
  refine congrArg Host.Outcome.next (s.on_congr l ((if_neg (by simp [hfault])).trans ?_))
  unfold DcLink.failedKind
  by_cases hopen : 3 ≤ (s.lane l).dc.openRun
  · rw [if_pos hopen, if_pos hopen]
  · by_cases hwrong : 3 ≤ (s.lane l).dc.wrongRun
    · simp only [if_neg hopen, if_pos hwrong]
    · simp only [if_neg hopen, if_neg hwrong, if_pos ((hrun.resolve_left hopen).resolve_left hwrong)]

theorem exec_chopperFault_of_none (h : (s.lane l).dc.chopFault = true ∨
      (s.lane l).dc.openRun < 3 ∧ (s.lane l).dc.wrongRun < 3 ∧ (s.lane l).dc.condRun < 3) :
    exec (.chopperFault l) s = .next s := by
  refine congrArg Host.Outcome.next (s.on_id l ?_)
  rcases h with hfault | ⟨hopen, hwrong, hcond⟩
  · exact if_pos hfault
  · simp only [if_neg (not_le.2 hopen), if_neg (not_le.2 hwrong), if_neg (not_le.2 hcond), ite_self]

/-! ### The energy account (R224) -/

/-- The energy account after one more round, never below 0. -/
def Lane.energyNext (L : Lane) : Rat :=
  max 0 (L.dc.energy + (L.dc.vdc * L.dc.chi - L.dcReal 0x0E) / 100000)

/-- CHOP_HOT after that round: set above the cap, cleared below half of it. -/
def Lane.hotNext (L : Lane) : Bool :=
  nextFlag L.dc.chopHot (decide (L.dcReal 0x0F < L.energyNext)) (decide (L.energyNext < L.dcReal 0x0F / 2))

/-- The lane with its energy account integrated, the flag that rises recorded. -/
def Lane.energyTaken (L : Lane) : Lane :=
  let M : Lane := { L with dc := { L.dc with energy := L.energyNext, chopHot := L.hotNext } }
  if L.hotNext && !L.dc.chopHot then M.raise (dcCode 4) 0 else M

theorem Lane.energyTaken_dc (L : Lane) :
    L.energyTaken.dc = { L.dc with energy := L.energyNext, chopHot := L.hotNext } := by
  unfold Lane.energyTaken
  dsimp only
  split <;> rfl

theorem Lane.energyTaken_vote (L : Lane) : L.energyTaken.vote = L.vote := by
  unfold Lane.energyTaken
  dsimp only
  split <;> rfl

theorem Lane.hotNext_of_above {L : Lane} (h : L.dcReal 0x0F < L.energyNext) : L.hotNext = true :=
  if_pos (decide_eq_true h)

theorem exec_chopperEnergyUpdate_of_alive (h : (s.lane l).alive = true) :
    exec (.chopperEnergyUpdate l) s = .next (s.on l fun L => L.energyTaken.judgeLink) :=
  State.next_on_of_holds (c := fun L => L.alive = true) h

theorem exec_chopperEnergyUpdate_of_dead (h : (s.lane l).alive = false) :
    exec (.chopperEnergyUpdate l) s = .next s :=
  State.next_on_of_fails (c := fun L => L.alive = true) (by simp [h])

theorem chopperEnergyUpdate_integrates (h : (s.lane l).alive = true) :
    ∃ t, exec (.chopperEnergyUpdate l) s = .next t ∧ OnlyLane l s t ∧
      (t.lane l).dc.energy = (s.lane l).energyNext ∧
      ((s.lane l).dcReal 0x0F < (t.lane l).dc.energy → (t.lane l).dc.chopHot = true) ∧
      (t.lane l).vote = (s.lane l).vote := by
  refine ⟨_, exec_chopperEnergyUpdate_of_alive h, s.onlyLane_on l _, ?_⟩
  obtain ⟨ov1, ov2, ov3, cut, low, hdc⟩ := (s.lane l).energyTaken.judgeLink_dc
  rw [State.lane_on_same, hdc, Lane.energyTaken_dc]
  exact ⟨rfl, Lane.hotNext_of_above, (Lane.judgeLink_voteKept _).2.trans (Lane.energyTaken_vote _)⟩

/-! ### The end of a chopper test (R225) -/

/-- KIND of the test's first failed check, the off check that ends it included; 0 where all have passed. -/
def Lane.testVerdict (L : Lane) (i : Rat) : Nat :=
  if L.dc.testKind = 0 then L.chopVerdict false i else L.dc.testKind

theorem Lane.testVerdict_pass {L : Lane} {i : Rat} (hkind : L.dc.testKind = 0)
    (hoff : i ≤ max 1 (L.chopExpected / 10)) : L.testVerdict i = 0 :=
  (if_pos hkind).trans (if_neg (not_lt.2 hoff))

theorem Lane.testVerdict_fail {L : Lane} {i : Rat} (h : L.dc.testKind ≠ 0 ∨ max 1 (L.chopExpected / 10) < i) :
    L.testVerdict i = if L.dc.testKind = 0 then 3 else L.dc.testKind := by
  unfold Lane.testVerdict
  split
  · exact if_pos (h.resolve_left (not_not.2 ‹_›))
  · rfl

theorem exec_chopperTestComplete_of_testing (h : (s.lane l).dc.testing = true) (i : Rat) :
    exec (.chopperTestComplete l i) s = .next (s.on l fun L => L.chopTested (L.testVerdict i)) :=
  State.next_on_of_holds (c := fun L => L.dc.testing = true) h

theorem exec_chopperTestComplete_of_none (h : (s.lane l).dc.testing = false) (i : Rat) :
    exec (.chopperTestComplete l i) s = .next s :=
  State.next_on_of_fails (c := fun L => L.dc.testing = true) (by simp [h])

theorem Lane.chopTested_of_pass (L : Lane) :
    (L.chopTested 0).dc.testing = false ∧ (L.chopTested 0).dc.chopFault = false ∧ (L.chopTested 0).dc.ctest = 1 ∧
      (L.chopTested 0).flog = L.flog :=
  ⟨rfl, rfl, rfl, rfl⟩

theorem Lane.chopTested_of_fail (L : Lane) {kind : Nat} (h : kind ≠ 0) :
    (L.chopTested kind).dc.testing = false ∧ (L.chopTested kind).dc.chopFault = true ∧
      (L.chopTested kind).dc.chopFaultKind = kind ∧ (L.chopTested kind).dc.ctest = 2 := by
  unfold Lane.chopTested
  dsimp only
  rw [if_neg h, if_neg h]
  obtain ⟨hfault, hkind, -, -, -, htest, hctest, -⟩ := Lane.chopFail_dc { L with dc := { L.dc with
    testing := false, chopOn := L.dc.hwHold && !L.chopHeld, chopRun := 0, ctest := 2 } } kind
  exact ⟨htest, hfault, hkind, hctest⟩

end

/-! ### The statement -/

/-- Settles O27: a sample, a check or a round acts in the state that its rule names, and a test ends by its checks
(R217, R218, R221, R222, R224, R225). -/
theorem linkSamplesAndChopper : Obligations.LinkSamplesAndChopper := fun s l => by
  refine ⟨fun v i => ⟨fun halive => ?_, fun hdead => exec_vdcSample_of_dead hdead _⟩,
    fun hrun => State.next_on_of_holds (c := fun L => 3 ≤ L.dc.senseRun) hrun,
    fun hrun => State.next_on_of_fails (c := fun L => 3 ≤ L.dc.senseRun) (not_le.2 hrun),
    fun i halive htest hfault => ⟨fun hon hopen => ?_, fun hon hopen hwrong => ?_, fun hon hopen hlo hhi => ?_,
      fun hoff => ?_⟩,
    fun i halive htest hfault => ?_, fun i halive htest => chopperCurrentCheck_tests halive htest i,
    fun i hdead => exec_chopperCurrentCheck_of_dead hdead i, fun hfault hrun => ?_, exec_chopperFault_of_none,
    chopperEnergyUpdate_integrates, exec_chopperEnergyUpdate_of_dead,
    fun i htest => ⟨fun ⟨hkind, hoff⟩ => ?_, fun hfail => ?_⟩, exec_chopperTestComplete_of_none⟩
  · obtain ⟨t, hexec, honly, hvdc, hchi, hrecent, hns, hheld, hvote⟩ := vdcSample_takes halive v i
    exact ⟨t, hexec, honly, hvdc, hchi, hrecent, hns, fun h => hheld ((Lane.chopHeld_iff _).2 h), hvote⟩
  · exact exec_chopperCurrentCheck_of_on halive htest hfault hon (Lane.chopVerdict_on_open hopen)
  · exact exec_chopperCurrentCheck_of_on halive htest hfault hon (Lane.chopVerdict_on_wrong hopen hwrong)
  · exact exec_chopperCurrentCheck_of_on halive htest hfault hon (Lane.chopVerdict_on_good hopen hlo hhi)
  · refine (exec_chopperCurrentCheck_of_running halive htest hfault i).trans (congrArg Host.Outcome.next
      (s.on_congr l ?_))
    rw [Lane.chopCheck_of_off hoff]
    rfl
  · refine (exec_chopperCurrentCheck_of_alive halive rfl).trans (congrArg Host.Outcome.next (s.on_congr l ?_))
    simp [Lane.currentChecked, htest, hfault]
  · refine ⟨_, exec_chopperFault_of_run hfault hrun, s.onlyLane_on l _, ?_⟩
    rw [State.lane_on_same]
    obtain ⟨hset, hkind, hopen, hwrong, hcond, -, -, hgate⟩ := (s.lane l).chopFail_dc (s.lane l).dc.failedKind
    exact ⟨hset, hkind, hopen, hwrong, hcond, hgate, (Lane.chopFail_voteKept ..).2⟩
  · refine ⟨_, exec_chopperTestComplete_of_testing htest i, s.onlyLane_on l _, ?_⟩
    rw [State.lane_on_same, Lane.testVerdict_pass hkind hoff]
    exact Lane.chopTested_of_pass _
  · refine ⟨_, exec_chopperTestComplete_of_testing htest i, s.onlyLane_on l _, ?_⟩
    rw [State.lane_on_same, Lane.testVerdict_fail hfail]
    refine Lane.chopTested_of_fail _ ?_
    split
    · exact three_ne_zero
    · assumption

end Sys2Proof.Machine
end

section
/-! PROOFS, over-voltage and under-voltage of the DC link. -/
namespace Sys2Proof.Machine

/-! ### Bridges under the hardware hold (R229, Table 4.6) -/

theorem Lane.opened_of_hold {L : Lane} (h : L.dc.hwHold = true) (b : Fin 8) : L.opened b = true := by
  simp [Lane.opened, h]

/-- An open bridge settles in ALL_OFF, or in DISABLED where the stop line is asserted or the map does not name it. -/
theorem Lane.settle_mode_of_open {L : Lane} {b : Fin 8} (h : L.opened b = true) :
    ((L.settle b).bridges.get b).mode = if L.pwr.stopLine || (L.actOf b).isNone then .disabled else .allOff := by
  by_cases hstop : (L.pwr.stopLine || (L.actOf b).isNone) = true
  · have hw : L.wanted b = (1, .disabled) := if_pos hstop
    rw [Lane.settle_mode_of_rank (by simp [hw]), hw, if_pos hstop]
  · have hw : L.wanted b = (2, .allOff) := (if_neg hstop).trans (if_pos h)
    rw [Lane.settle_mode_of_rank (by simp [hw]), hw, if_neg hstop]

theorem Lane.settleAll_mode_of_hold {L : Lane} (h : L.dc.hwHold = true) (b : Fin 8) :
    (L.settleAll.bridges.get b).mode =
      if L.pwr.stopLine || (L.actOf b).isNone then .disabled else .allOff := by
  obtain ⟨M, before, after⟩ := Lane.foldl_fin8_set Lane.settle_linkSet b L
  have hhold : M.dc.hwHold = true := by rw [before.dc, h]
  rw [Lane.settleAll, after.bridge, Lane.settle_mode_of_open (Lane.opened_of_hold hhold b), before.pwr, before.actOf]

/-! ### A bridge at rest (R230, Table 4.6) -/

/-- No protective opening and no request of rank 3 or 4 stands on a bridge. -/
structure Lane.Unheld (b : Fin 8) (L : Lane) : Prop where
  opened : L.opened b = false
  short : (L.bridges.get b).short = false
  off : (L.bridges.get b).off = false

section
variable {L M : Lane} {b : Fin 8}

/-- Whether a bridge is open is read off its gate drive's protection and the hardware hold. -/
theorem Lane.opened_congr (hgate : (M.gates.get b).protection = (L.gates.get b).protection) (hdc : M.dc = L.dc) :
    M.opened b = L.opened b := by
  rw [Lane.opened, Gate.read_eq hgate Gate.wait, Gate.read_eq hgate Gate.trying, Gate.read_eq hgate Gate.latch,
    Gate.read_eq hgate Gate.soft, Gate.read_eq hgate Gate.episode, hdc]
  rfl

theorem Lane.Unheld.of_setKept (h : L.Unheld b) (kept : L.SetKept b M) : M.Unheld b :=
  ⟨(Lane.opened_congr (congrArg Gate.protection kept.gate) kept.dc).trans h.opened,
    (congrArg Bridge.short kept.bridge).trans h.short, (congrArg Bridge.off kept.bridge).trans h.off⟩

theorem Lane.Unheld.settle (h : L.Unheld b) : (L.settle b).Unheld b := by
  obtain ⟨-, hshort, hoff⟩ := L.settle_requests b
  exact ⟨(Lane.opened_congr (L.settle_protection b) (L.settle_dc b)).trans h.opened, hshort.trans h.short,
    hoff.trans h.off⟩

theorem Lane.Unheld.setMode (h : L.Unheld b) (m : Mode) : (L.setMode b m).Unheld b := by
  refine ⟨(Lane.opened_congr (L.setMode_protection b m) (L.setMode_dc b m)).trans h.opened, ?_, ?_⟩ <;>
  rw [Lane.setMode_bridge]
  · exact h.short
  · exact h.off

theorem Lane.Unheld.reopen (h : L.Unheld b) : (L.reopen b).Unheld b := by
  unfold Lane.reopen
  dsimp only
  split
  · exact (h.setMode .disabled).settle
  · exact h.settle

/-- Without an opening or a request the stop line, the map or a rank from 5 on governs, unless OV3 does. -/
theorem Lane.Unheld.wanted (h : L.Unheld b)
    (hov3 : (L.dc.ov3 && modeOv3 (L.bridges.get b).mode) = false) :
    L.wanted b = (1, .disabled) ∨ 5 ≤ (L.wanted b).1 := by
  unfold Lane.wanted
  dsimp only
  split
  · exact .inl rfl
  · rw [if_neg (by simp [h.opened]), if_neg (by simp [h.short, hov3]), if_neg (by simp [h.off])]
    refine .inr ?_
    split
    · exact le_rfl
    · split <;> decide

/-- A mode of rank 5 to 7 waits for a period boundary (R147). -/
theorem Lane.settle_mode_of_waiting (h : 5 ≤ (L.wanted b).1) :
    ((L.settle b).bridges.get b).mode = (L.bridges.get b).mode := by
  have heq : L.settle b = (L.testEnded b).setPrecharge b := by
    unfold Lane.settle
    dsimp only
    rw [← Lane.testEnded]
    split
    · rfl
    · exact if_neg (by omega)
  rw [heq, Lane.setPrecharge_bridges, Lane.testEnded_bridges]

/-- A DISABLED bridge without an opening or a request stays DISABLED when it settles, under OV3 too: what it then wants
waits for a boundary (R147, R228). -/
theorem Lane.Unheld.settle_disabled (h : L.Unheld b) (hmode : (L.bridges.get b).mode = .disabled) :
    ((L.settle b).bridges.get b).mode = .disabled := by
  have hov3 : (L.dc.ov3 && modeOv3 (L.bridges.get b).mode) = false := by rw [hmode]; exact Bool.and_false _
  rcases h.wanted hov3 with hw | hrank
  · rw [Lane.settle_mode_of_rank (by simp [hw]), hw]
  · exact (Lane.settle_mode_of_waiting hrank).trans hmode

/-- A bridge that nothing holds returns through DISABLED (R207, R230). -/
theorem Lane.Unheld.reopen_disabled (h : L.Unheld b) (hov3 : L.dc.ov3 = false) :
    ((L.reopen b).bridges.get b).mode = .disabled := by
  unfold Lane.reopen
  dsimp only
  rcases h.wanted (by rw [hov3]; rfl) with hw | hrank
  · rw [if_neg (by simp [hw]), Lane.settle_mode_of_rank (by simp [hw]), hw]
  · rw [if_pos hrank]
    exact (h.setMode .disabled).settle_disabled (by rw [Lane.setMode_bridge]; rfl)

/-- What a judgement of the link changes leaves a DISABLED bridge that nothing holds (R228). -/
theorem Lane.Unheld.judgeLink_disabled (h : L.Unheld b) (hmode : (L.bridges.get b).mode = .disabled) :
    (L.judgeLink.bridges.get b).mode = .disabled := by
  obtain ⟨ov1, ov2, ov3, cut, low, M, hM, hjudge⟩ := L.judgeLink_cases
  have hrests : M.Unheld b ∧ (M.bridges.get b).mode = .disabled := by
    rcases hM with rfl | rfl <;> exact ⟨⟨h.opened, h.short, h.off⟩, hmode⟩
  obtain ⟨hunheld, hmode⟩ := hrests
  rcases hjudge with heq | heq <;> rw [heq]
  · exact hmode
  · obtain ⟨N, before, after⟩ := Lane.foldl_fin8_set Lane.settle_linkSet b M
    rw [Lane.settleAll, after.bridge]
    exact (hunheld.of_setKept before).settle_disabled ((congrArg Bridge.mode before.bridge).trans hmode)

end

section
variable {s : State} {l : LaneId}

/-! ### OV3 (R228) -/

theorem exec_ov3Timeout_of_ov3 (h : (s.lane l).dc.ov3 = true) :
    exec (.ov3Timeout l) s = .next (s.on l fun L => L.laneOut 0x6F86) :=
  State.next_on_of_holds (c := fun L => L.dc.ov3 = true) h

theorem exec_ov3Timeout_of_none (h : (s.lane l).dc.ov3 = false) : exec (.ov3Timeout l) s = .next s :=
  State.next_on_of_fails (c := fun L => L.dc.ov3 = true) (by simp [h])

/-! ### The hardware trip (R229, R230) -/

/-- The trips within 60 s, the one at hand counted. -/
def Lane.tripTimes (L : Lane) : List Nat := L.tb.mono :: recent L.tb.mono 60000000000 L.dc.hwTimes

/-- The lane held by the hardware comparator, its bridges not yet placed. -/
def Lane.hwTripped (L : Lane) : Lane :=
  { L with dc := { L.dc with
    hwHold := true, hwTrips := satInc L.dc.hwTrips, hwTimes := L.tripTimes, chopOn := !L.chopHeld, chopRun := 0
    testing := false } }

/-- A trip of the lane: every bridge placed, and a record or, on the third trip, a lane-out. -/
def Lane.hwTrip (L : Lane) : Lane :=
  if 3 ≤ L.tripTimes.length then L.hwTripped.settleAll.laneOut (dcCode 7)
  else L.hwTripped.settleAll.raise (dcCode 7) 0

theorem exec_hwOvTrip_of_running (halive : (s.lane l).alive = true) (hhold : (s.lane l).dc.hwHold = false) :
    exec (.hwOvTrip l) s = .next (s.on l Lane.hwTrip) :=
  State.next_on_of_holds (c := fun L => (L.alive && !L.dc.hwHold) = true) (by simp [halive, hhold])

/-- A trip while the hold stands changes nothing. (DEDUCED, log entry 82) -/
theorem exec_hwOvTrip_of_idle (h : (s.lane l).alive = false ∨ (s.lane l).dc.hwHold = true) :
    exec (.hwOvTrip l) s = .next s :=
  State.next_on_of_fails (c := fun L => (L.alive && !L.dc.hwHold) = true) (by rcases h with h | h <;> simp [h])

theorem Lane.laneOut_dc (L : Lane) (code detId detVal : Nat) :
    (L.laneOut code detId detVal).dc = { L.dc with chopOn := false } := by
  rw [Lane.laneOut, Lane.goOut_dc]
  rfl

/-- Whichever trip it is: the hold stands, the trip is counted and recorded, and no chopper test runs on. -/
theorem Lane.hwTrip_result (L : Lane) :
    L.hwTrip.dc.hwHold = true ∧ L.hwTrip.dc.hwTrips = satInc L.dc.hwTrips ∧ L.hwTrip.dc.testing = false ∧
      L.hwTrip.flog.last = 0x6F87 := by
  unfold Lane.hwTrip
  split
  · rw [Lane.laneOut_dc, Lane.settleAll_dc, Lane.laneOut_last]
    exact ⟨rfl, rfl, rfl, rfl⟩
  · rw [Lane.raise_dc, Lane.settleAll_dc, Lane.raise_last]
    exact ⟨rfl, rfl, rfl, rfl⟩

/-- The first and second trip within 60 s hold every bridge off and turn the chopper on. -/
theorem Lane.hwTrip_of_early {L : Lane} (h : (recent L.tb.mono 60000000000 L.dc.hwTimes).length < 2) :
    L.hwTrip.vote = L.vote ∧ L.hwTrip.dc.chopOn = !L.chopHeld ∧
      ∀ b, (L.hwTrip.bridges.get b).mode =
        if L.pwr.stopLine || (L.actOf b).isNone then .disabled else .allOff := by
  have heq : L.hwTrip = L.hwTripped.settleAll.raise (dcCode 7) 0 := if_neg (by simp [Lane.tripTimes]; omega)
  rw [heq, Lane.raise_vote, Lane.raise_dc, Lane.settleAll_dc, Lane.raise_bridges]
  exact ⟨(Lane.settleAll_voteKept _).2, rfl, fun b => Lane.settleAll_mode_of_hold (L := L.hwTripped) rfl b⟩

/-- The third takes the lane out. -/
theorem Lane.hwTrip_of_third {L : Lane} (h : 2 ≤ (recent L.tb.mono 60000000000 L.dc.hwTimes).length)
    (hout : L.vote.outNow = false) : L.hwTrip.vote.role = .out := by
  have heq : L.hwTrip = L.hwTripped.settleAll.laneOut (dcCode 7) := if_pos (by simp [Lane.tripTimes]; omega)
  have hout : (L.hwTripped.settleAll.raise (dcCode 7) 3 0 0).vote.outNow = false := by
    rw [Lane.raise_vote, (Lane.settleAll_voteKept _).2, Lane.hwTripped, hout]
  rw [heq, Lane.laneOut, Lane.goOut_vote hout]

/-! ### The end of the hold (R230) -/

/-- The lane with its hold ended, its bridges not yet reopened: an available chopper stays on above its release. -/
def Lane.hwReleased (L : Lane) : Lane :=
  let on := L.dc.chopOn && L.chopAvail && L.dc.ov1
  { L with dc := { L.dc with hwHold := false, chopOn := on, chopRun := if on then L.dc.chopRun else 0 } }

theorem exec_hwOvRelease_of_hold (h : (s.lane l).dc.hwHold = true) :
    exec (.hwOvRelease l) s = .next (s.on l fun L => (fin8.foldl Lane.reopen L.hwReleased).judgeLink) :=
  State.next_on_of_holds (c := fun L => L.dc.hwHold = true) h

theorem exec_hwOvRelease_of_none (h : (s.lane l).dc.hwHold = false) : exec (.hwOvRelease l) s = .next s :=
  State.next_on_of_fails (c := fun L => L.dc.hwHold = true) (by simp [h])

/-- After the hold a bridge is open only by its own gate drive. -/
theorem Lane.opened_hwReleased {L : Lane} {b : Fin 8} (hwait : (L.gates.get b).wait = false)
    (htrying : (L.gates.get b).trying = false) (hlatch : (L.gates.get b).latch = false)
    (hsoft : (L.gates.get b).soft = 0) (hepisode : (L.gates.get b).episode = false) :
    L.hwReleased.opened b = false := by
  simp [Lane.opened, Lane.hwReleased, hwait, htrying, hlatch, hsoft, hepisode]

/-- A bridge that nothing else holds is DISABLED when the hold has ended. -/
theorem Lane.hwRelease_disabled {L : Lane} {b : Fin 8} (h : L.Unheld b) (hov3 : L.dc.ov3 = false) :
    ((fin8.foldl Lane.reopen L).judgeLink.bridges.get b).mode = .disabled := by
  obtain ⟨M, before, after⟩ := Lane.foldl_fin8_set Lane.reopen_linkSet b L
  have hunheld := h.of_setKept before
  exact (hunheld.reopen.of_setKept after).judgeLink_disabled ((congrArg Bridge.mode after.bridge).trans
    (hunheld.reopen_disabled ((congrArg DcLink.ov3 before.dc).trans hov3)))

theorem Lane.hwRelease_hwHold (L : Lane) :
    (fin8.foldl Lane.reopen L.hwReleased).judgeLink.dc.hwHold = false := by
  obtain ⟨ov1, ov2, ov3, cut, low, hdc⟩ := (fin8.foldl Lane.reopen L.hwReleased).judgeLink_dc
  rw [hdc, Lane.foldl_linkSet_dc Lane.reopen_linkSet]
  rfl

/-! ### Under-voltage (R234) -/

/-- The lane with UV2 as given. -/
def Lane.withUv2 (L : Lane) (uv2 : Bool) : Lane := { L with dc := { L.dc with uv2 := uv2 } }

theorem exec_linkUndervoltage_of_running (halive : (s.lane l).alive = true) (huv : (s.lane l).dc.uv2 = false) :
    exec (.linkUndervoltage l) s = .next (s.on l fun L =>
      fin8.foldl (fun M b => M.isolateSet b (dcCode 8)) ((L.withUv2 true).raise (dcCode 8) 2)) :=
  State.next_on_of_holds (c := fun L => (L.alive && !L.dc.uv2) = true) (by simp [halive, huv])

theorem exec_linkUndervoltage_of_idle (h : (s.lane l).alive = false ∨ (s.lane l).dc.uv2 = true) :
    exec (.linkUndervoltage l) s = .next s :=
  State.next_on_of_fails (c := fun L => (L.alive && !L.dc.uv2) = true) (by rcases h with h | h <;> simp [h])

theorem exec_linkUvRecover_of_uv2 (h : (s.lane l).dc.uv2 = true) :
    exec (.linkUvRecover l) s = .next (s.on l fun L =>
      fin8.foldl (fun M b => M.unisolate b (dcCode 8)) (L.withUv2 false)) :=
  State.next_on_of_holds (c := fun L => L.dc.uv2 = true) h

theorem exec_linkUvRecover_of_none (h : (s.lane l).dc.uv2 = false) : exec (.linkUvRecover l) s = .next s :=
  State.next_on_of_fails (c := fun L => L.dc.uv2 = true) (by simp [h])

end

/-- A fault that isolates every set of the lane leaves each mapped one isolated by it. -/
theorem Lane.isolateAll_result {L : Lane} {b n : Fin 8} (hact : L.actOf b = some n) (code : Nat) :
    code ∈ ((fin8.foldl (fun M b => M.isolateSet b code) L).bridges.get b).isolKinds ∧
      ((fin8.foldl (fun M b => M.isolateSet b code) L).fes.get b).asrc = .isolated := by
  obtain ⟨M, before, after⟩ := Lane.foldl_fin8_set (fun M c => M.isolateSet_linkSet c code) b L
  obtain ⟨hsrc, -, hkinds⟩ := Lane.isolateSet_result (L := M) (b := b) (by rw [before.actOf, hact]) code
  rw [after.bridge, after.fe]
  exact ⟨(hkinds code).2 (.inl rfl), hsrc⟩

/-- That cause of isolation alone ends in every set. -/
theorem Lane.unisolateAll_isolKinds (L : Lane) (code : Nat) (b : Fin 8) :
    ((fin8.foldl (fun M b => M.unisolate b code) L).bridges.get b).isolKinds =
      (L.bridges.get b).isolKinds.filter (· ≠ code) := by
  obtain ⟨M, before, after⟩ := Lane.foldl_fin8_set (fun M c => M.unisolate_linkSet c code) b L
  rw [after.bridge, Lane.unisolate_isolKinds, before.bridge]

theorem Lane.unisolateAll_flog (L : Lane) (code : Nat) :
    (fin8.foldl (fun M b => M.unisolate b code) L).flog = L.flog :=
  List.foldlRecOn fin8 _ (motive := fun M : Lane => M.flog = L.flog) rfl fun M hM b _ =>
    (M.unisolate_flog b code).trans hM

/-! ### The statement -/

/-- Settles O28: OV3 that lasts is a lane-out, the hardware hold opens every bridge until it ends, and an under-voltage
isolates every set until it recovers (R228-R230, R234, log entry 82). -/
theorem linkProtection : Obligations.LinkProtection := fun s l => by
  refine ⟨exec_ov3Timeout_of_ov3, exec_ov3Timeout_of_none, fun halive hhold => ?_, exec_hwOvTrip_of_idle,
    fun hhold => ?_, exec_hwOvRelease_of_none, fun halive huv => ?_, exec_linkUndervoltage_of_idle, fun huv => ?_,
    exec_linkUvRecover_of_none⟩
  · refine ⟨_, exec_hwOvTrip_of_running halive hhold, s.onlyLane_on l _, ?_⟩
    rw [State.lane_on_same]
    obtain ⟨hheld, hcount, htest, hlast⟩ := (s.lane l).hwTrip_result
    exact ⟨hheld, hcount, htest, hlast, Lane.hwTrip_of_early, Lane.hwTrip_of_third⟩
  · refine ⟨_, exec_hwOvRelease_of_hold hhold, s.onlyLane_on l _, ?_⟩
    rw [State.lane_on_same]
    refine ⟨Lane.hwRelease_hwHold _, (Lane.judgeLink_voteKept _).2.trans
      (Lane.foldl_voteKept Lane.reopen_voteKept fin8 _).2,
      fun hov3 b hwait htrying hlatch hsoft hepisode hshort hoff => ?_⟩
    exact Lane.hwRelease_disabled (L := (s.lane l).hwReleased)
      ⟨Lane.opened_hwReleased hwait htrying hlatch hsoft hepisode, hshort, hoff⟩ hov3
  · refine ⟨_, exec_linkUndervoltage_of_running halive huv, s.onlyLane_on l _, ?_⟩
    rw [State.lane_on_same, Lane.foldl_linkSet_dc fun M c => M.isolateSet_linkSet c (dcCode 8)]
    exact ⟨rfl, (Lane.foldl_voteKept (fun M c => M.isolateSet_voteKept c (dcCode 8)) fin8 _).2,
      fun b n hact => Lane.isolateAll_result (L := ((s.lane l).withUv2 true).raise (dcCode 8) 2) hact (dcCode 8)⟩
  · refine ⟨_, exec_linkUvRecover_of_uv2 huv, s.onlyLane_on l _, ?_⟩
    rw [State.lane_on_same, Lane.foldl_linkSet_dc fun M c => M.unisolate_linkSet c (dcCode 8)]
    exact ⟨rfl, Lane.unisolateAll_isolKinds _ (dcCode 8),
      (Lane.foldl_voteKept (fun M c => M.unisolate_voteKept c (dcCode 8)) fin8 _).2,
      Lane.unisolateAll_flog _ (dcCode 8)⟩

end Sys2Proof.Machine
end

section
/-! PROOFS, channels of a lane's network and the states of its node. -/
namespace Sys2Proof.Machine

/-! ### One channel replaced -/

@[simp] theorem Node.setCh_ch (n : Node) (ch : Chan) (c : Channel) : (n.setCh ch c).ch ch = c := by cases ch <;> rfl

@[simp] theorem Lane.onCh_ch (L : Lane) (ch : Chan) (f : Channel → Channel) :
    (L.onCh ch f).net.ch ch = f (L.net.ch ch) :=
  Node.setCh_ch ..

@[simp] theorem Lane.onCh_rxFrames (L : Lane) (ch : Chan) (f : Channel → Channel) :
    (L.onCh ch f).net.rxFrames = L.net.rxFrames := by cases ch <;> rfl

@[simp] theorem Lane.onCh_authFail (L : Lane) (ch : Chan) (f : Channel → Channel) :
    (L.onCh ch f).net.authFail = L.net.authFail := by cases ch <;> rfl

@[simp] theorem Lane.onCh_state (L : Lane) (ch : Chan) (f : Channel → Channel) :
    (L.onCh ch f).net.state = L.net.state := by cases ch <;> rfl

@[simp] theorem Lane.onCh_sched (L : Lane) (ch : Chan) (f : Channel → Channel) (idx sub : Nat) :
    (L.onCh ch f).sched idx sub = L.sched idx sub := by cases ch <;> rfl

@[simp] theorem Lane.onCh_desc (L : Lane) (ch d : Chan) (f : Channel → Channel) (service : Bool) (k : Nat) :
    (L.onCh ch f).desc d service k = L.desc d service k := by
  simp [Lane.desc, Lane.slot, Lane.svcSlot]

end Sys2Proof.Machine
end

section
/-! PROOFS, frame starts at a star port, and its guardian. -/
namespace Sys2Proof.Machine

/-! ### A list with an element replaced -/

theorem setAt_eq_set {α : Type} (l : List α) (i : Nat) (v : α) : setAt l i v = l.set i v := by
  induction l generalizing i with
  | nil => rfl
  | cons x t ih =>
    cases i with
    | zero => rfl
    | succ i => exact congrArg (x :: ·) (ih i)

/-! ### A start at a port that serves (R248-R251) -/

/-- The star's ports serve as long as their links stand as they stood. -/
theorem Lane.onCh_portServes (L : Lane) (ch : Chan) {f : Channel → Channel} (h : ∀ c, (f c).linkUp = c.linkUp)
    (port : Nat) : (L.onCh ch f).portServes ch port = L.portServes ch port := by
  unfold Lane.portServes
  rw [Lane.onCh_ch, h]
  rfl

/-- In OPEN mode each start counts for its port (R251). -/
def Lane.countStart (L : Lane) (ch : Chan) (port : Nat) : Lane :=
  if L.net.guardOpen then
    L.onCh ch fun x => { x with openStarts := setAt x.openStarts port (((x.openStarts[port]?).getD 0) + 1) }
  else L

@[simp] theorem Lane.countStart_portServes (L : Lane) (ch : Chan) (port k : Nat) :
    (L.countStart ch port).portServes ch k = L.portServes ch k := by
  unfold Lane.countStart
  split
  · exact L.onCh_portServes ch (by intro; rfl) k
  · rfl

/-- A start of higher rank in the same capture quantum takes a busy star (R249). -/
def Lane.takesStar (L : Lane) (ch : Chan) (port : Nat) (f : StarStart) : Bool :=
  decide (f.ns < (L.net.ch ch).busyUntil) && f.ns / 8 == (L.net.ch ch).busyNs / 8 &&
    decide (portRank port < portRank (L.net.ch ch).busyPort)

/-- The star carries an admitted frame to every port that serves, until its limit at the latest (R248, R250). -/
def Lane.carryFrame (L : Lane) (ch : Chan) (port : Nat) (f : StarStart) (limit : Nat) (M : Lane) : Lane :=
  M.onCh ch fun x => { x with
    busyNs := f.ns, busyUntil := f.ns + f.len, busyPort := port, outNs := f.ns + 320, limitNs := limit
    outPorts := (List.range 7).map fun k => L.portServes ch k, cut := false }

/-- The ports a frame is repeated to are those that served when it arrived. -/
theorem Lane.repeatFrame_eq {L M : Lane} {ch : Chan} (h : ∀ k, M.portServes ch k = L.portServes ch k) (port : Nat)
    (f : StarStart) (limit : Nat) : M.repeatFrame ch port f limit = L.carryFrame ch port f limit M := by
  unfold Lane.repeatFrame Lane.carryFrame
  simp only [h]

/-- What a start does at a port that serves (R248-R251). -/
def Lane.arrive (L : Lane) (ch : Chan) (port : Nat) (f : StarStart) : Lane :=
  match L.admits ch port f with
  | none => (L.countStart ch port).onCh ch fun x => x.block port
  | some limit =>
    if L.takesStar ch port f then
      ((L.countStart ch port).onCh ch fun x => x.block (L.net.ch ch).busyPort).repeatFrame ch port f limit
    else if f.ns < (L.net.ch ch).busyUntil then (L.countStart ch port).onCh ch fun x => x.block port
    else (L.countStart ch port).repeatFrame ch port f limit

section
variable {L : Lane} {ch : Chan} {port lim : Nat} {f : StarStart}

theorem Lane.takesStar_of_free (hfree : (L.net.ch ch).busyUntil ≤ f.ns) : L.takesStar ch port f = false := by
  simp [Lane.takesStar, not_lt.2 hfree]

theorem Lane.arrive_of_not_admitted (h : L.admits ch port f = none) :
    L.arrive ch port f = (L.countStart ch port).onCh ch fun x => x.block port := by
  simp only [Lane.arrive, h]

theorem Lane.arrive_at_free_star (h : L.admits ch port f = some lim) (hfree : (L.net.ch ch).busyUntil ≤ f.ns) :
    L.arrive ch port f = L.carryFrame ch port f lim (L.countStart ch port) := by
  simp only [Lane.arrive, h, Lane.takesStar_of_free hfree, if_neg (not_lt.2 hfree)]
  exact Lane.repeatFrame_eq (L.countStart_portServes ch port) port f lim

theorem Lane.arrive_at_busy_star (h : L.admits ch port f = some lim) (hbusy : f.ns < (L.net.ch ch).busyUntil)
    (hrank : f.ns / 8 ≠ (L.net.ch ch).busyNs / 8 ∨ portRank (L.net.ch ch).busyPort ≤ portRank port) :
    L.arrive ch port f = (L.countStart ch port).onCh ch fun x => x.block port := by
  have hlow : L.takesStar ch port f = false := by
    rcases hrank with hquantum | hrank
    · simp [Lane.takesStar, hquantum]
    · simp [Lane.takesStar, not_lt.2 hrank]
  simp only [Lane.arrive, h, hlow, if_pos hbusy]
  rfl

theorem Lane.arrive_of_higher_rank (h : L.admits ch port f = some lim) (hbusy : f.ns < (L.net.ch ch).busyUntil)
    (hquantum : f.ns / 8 = (L.net.ch ch).busyNs / 8) (hrank : portRank port < portRank (L.net.ch ch).busyPort) :
    L.arrive ch port f = L.carryFrame ch port f lim
      ((L.countStart ch port).onCh ch fun x => x.block (L.net.ch ch).busyPort) := by
  have hhigh : L.takesStar ch port f = true := by simp [Lane.takesStar, hbusy, hquantum, hrank]
  simp only [Lane.arrive, h, hhigh, if_true]
  exact Lane.repeatFrame_eq (fun k => ((L.countStart ch port).onCh_portServes ch (by intro; rfl) k).trans
    (L.countStart_portServes ch port k)) port f lim

/-- NORMAL admits a start within tACC of its slot's point, on the slot's port, in a cycle the slot is used in (R250). -/
theorem Lane.guardAdmits_some {ns : Nat} (h : L.guardAdmits ch port ns = some lim) :
    ∃ sv k, L.slotNow ch ns = some (sv, k) ∧ (L.desc ch sv k).port = port ∧
      (L.desc ch sv k).used L.net.cycleNow = true ∧ (L.nodeTime ns - (L.atStar ch sv k : Int)).natAbs ≤ L.tAcc ∧
      lim = L.netTime (L.atStar ch sv k + L.tAcc + tLine (L.desc ch sv k).len - 96) := by
  unfold Lane.guardAdmits at h
  split at h
  · cases h
  · rename_i sv k hslot
    dsimp only at h
    split at h
    · rename_i hadmit
      simp only [Bool.and_eq_true, beq_iff_eq, decide_eq_true_eq] at hadmit
      obtain ⟨⟨⟨hport, -⟩, hused⟩, hnear⟩ := hadmit
      exact ⟨sv, k, hslot, hport, hused, hnear, (Option.some.inj h).symm⟩
    · cases h

theorem Lane.admits_of_normal (h : L.net.guardOpen = false) : L.admits ch port f = L.guardAdmits ch port f.ns := by
  simp [Lane.admits, h]

end

section
variable {s : State} {l : LaneId} {ch : Chan} {port : Nat}

theorem exec_starFrameArrival_of_served (halive : (s.lane l).alive = true) (hport : port < 7)
    (hserves : (s.lane l).portServes ch port = true) (f : StarStart) :
    exec (.starFrameArrival l ch port f) s = .next (s.on l fun _ => (s.lane l).arrive ch port f) :=
  congrArg Host.Outcome.next (s.on_congr l (if_neg (by simp [halive, hserves, hport])))

theorem exec_starFrameArrival_of_unserved
    (h : (s.lane l).alive = false ∨ 7 ≤ port ∨ (s.lane l).portServes ch port = false) (f : StarStart) :
    exec (.starFrameArrival l ch port f) s = .next s :=
  congrArg Host.Outcome.next (s.on_id l (if_pos h))

/-! ### Guardians and ports (R241, R250, R251, Table 8.13) -/

theorem exec_guardianTruncate_of_past (halive : (s.lane l).alive = true)
    (hpast : ((s.lane l).net.ch ch).limitNs < ((s.lane l).net.ch ch).busyUntil) :
    exec (.guardianTruncate l ch) s = .next (s.on l fun L => L.onCh ch fun c =>
      { c with busyUntil := c.limitNs, cut := true }) :=
  State.next_on_of_holds (c := fun L => (L.alive && decide ((L.net.ch ch).limitNs < (L.net.ch ch).busyUntil)) = true)
    (by simp [halive, hpast])

theorem exec_guardianTruncate_of_within
    (h : (s.lane l).alive = false ∨ ((s.lane l).net.ch ch).busyUntil ≤ ((s.lane l).net.ch ch).limitNs) :
    exec (.guardianTruncate l ch) s = .next s :=
  State.next_on_of_fails (c := fun L => (L.alive && decide ((L.net.ch ch).limitNs < (L.net.ch ch).busyUntil)) = true)
    (by rcases h with h | h <;> simp [h])

/-- A port's link read anew, with the test ended that ran on a link gone down (R241, R501). -/
def Lane.linkRead (L : Lane) (ch : Chan) (port : Nat) (up : Bool) : Lane :=
  if up then L.onCh ch fun c => { c with linkUp := setAt c.linkUp port up }
  else (L.onCh ch fun c => { c with linkUp := setAt c.linkUp port up }).lptDown (chanNum ch * 8 + port)

theorem Lane.linkRead_net (L : Lane) (ch : Chan) (port : Nat) (up : Bool) :
    (L.linkRead ch port up).net = (L.onCh ch fun c => { c with linkUp := setAt c.linkUp port up }).net := by
  unfold Lane.linkRead
  split
  · rfl
  · exact Lane.lptDown_net ..

/-- PORT_LINK_CHANGE at an external port: the link as read, with a record of a loss at a port that owns slots. -/
def Lane.linkChange (L : Lane) (ch : Chan) (port : Nat) (up : Bool) : Lane :=
  if ((L.net.ch ch).linkUp[port]?).getD false && !up && decide (0 < L.portSlots ch port) then
    (L.linkRead ch port up).raise (tsCode (chanNum ch * 8 + port) 9) 0
  else L.linkRead ch port up

theorem Lane.linkChange_net (L : Lane) (ch : Chan) (port : Nat) (up : Bool) :
    (L.linkChange ch port up).net = (L.onCh ch fun c => { c with linkUp := setAt c.linkUp port up }).net := by
  unfold Lane.linkChange
  split
  · exact L.linkRead_net ch port up
  · exact L.linkRead_net ch port up

theorem Lane.linkChange_vote (L : Lane) (ch : Chan) (port : Nat) (up : Bool) :
    (L.linkChange ch port up).vote = L.vote := by
  have hread : (L.linkRead ch port up).vote = L.vote := by
    unfold Lane.linkRead
    split
    · rfl
    · exact Lane.lptDown_vote ..
  unfold Lane.linkChange
  split
  · exact hread
  · exact hread

theorem exec_portLinkChange_of_external (halive : (s.lane l).alive = true) (hcut : (s.lane l).therm.cutL = false)
    (hport : port < 6) (up : Bool) :
    exec (.portLinkChange l ch port up) s = .next (s.on l fun L => L.linkChange ch port up) :=
  State.next_on_of_holds (s := s) (l := l) (c := fun L => (L.alive && !L.therm.cutL && decide (port < 6)) = true)
    (f := fun L => L.linkChange ch port up) (by simp [halive, hcut, hport])

theorem exec_portLinkChange_of_none (h : (s.lane l).alive = false ∨ (s.lane l).therm.cutL = true ∨ 6 ≤ port)
    (up : Bool) : exec (.portLinkChange l ch port up) s = .next s :=
  State.next_on_of_fails (c := fun L => (L.alive && !L.therm.cutL && decide (port < 6)) = true)
    (by rcases h with h | h | h <;> simp [h])

end

/-! ### The statement -/

/-- Settles O29: the guardian and the star's state decide what a start does, and each port row acts in the state its
rule names (R241, R248-R251). -/
theorem starAndGuardian : Obligations.StarAndGuardian := by
  refine ⟨fun s l ch port f halive hport hserves => ?_, fun L ch port f lim hnormal hadmit => ?_, fun s l ch =>
    ⟨fun port f h => exec_starFrameArrival_of_unserved h f, exec_guardianTruncate_of_past,
      exec_guardianTruncate_of_within, State.next_on_of_holds (c := fun L => L.net.holdover = true),
      fun h => State.next_on_of_fails (c := fun L => L.net.holdover = true) (by simp [h]),
      fun port up halive hcut hport hlen => ?_, fun port up h => exec_portLinkChange_of_none h up, fun port =>
      ⟨State.next_on_of_holds (c := fun L => 8 ≤ (((L.net.ch ch).blockedRun[port]?).getD 0)),
        fun h => State.next_on_of_fails (c := fun L => 8 ≤ (((L.net.ch ch).blockedRun[port]?).getD 0)) (not_le.2 h)⟩⟩⟩
  · intro c N R
    have harrive {g : Lane → Lane} (h : (s.lane l).arrive ch port f = g (s.lane l)) :
        exec (.starFrameArrival l ch port f) s = .next (s.on l g) :=
      (exec_starFrameArrival_of_served halive hport hserves f).trans (congrArg Host.Outcome.next (s.on_congr l h))
    exact ⟨fun hadmit => harrive (Lane.arrive_of_not_admitted hadmit),
      fun lim hadmit hfree => harrive (Lane.arrive_at_free_star hadmit hfree),
      fun lim hadmit hbusy hrank => harrive (Lane.arrive_at_busy_star hadmit hbusy hrank),
      fun lim hadmit hbusy hquantum hrank => harrive (Lane.arrive_of_higher_rank hadmit hbusy hquantum hrank)⟩
  · rw [Lane.admits_of_normal hnormal] at hadmit
    exact Lane.guardAdmits_some hadmit
  · refine ⟨_, exec_portLinkChange_of_external halive hcut hport up, s.onlyLane_on l _, ?_⟩
    rw [State.lane_on_same, Lane.linkChange_net, Lane.onCh_ch, setAt_eq_set]
    exact ⟨by simp [hlen, hport], fun q hq => List.getElem?_set_ne hq.symm, Lane.linkChange_vote ..⟩

end Sys2Proof.Machine
end

section
/-! PROOFS, frames received and sent, and the counts of slots. -/
namespace Sys2Proof.Machine

/-! ### Frames received (R246, R255-R257) -/

section
variable {L : Lane} {ch : Chan} {f : FrameIn}

/-- The lane with the slots noted in which frame starts reached the receiver of a channel. -/
def Lane.withStarted (L : Lane) (ch : Chan) (ks : List Nat) : Lane := L.onCh ch fun c => { c with started := ks }

theorem Lane.exists_frameStarts (L : Lane) (ch : Chan) (f : FrameIn) :
    ∃ ks, L.frameStarts ch f = L.withStarted ch ks := by
  unfold Lane.frameStarts
  split
  · exact ⟨_, rfl⟩
  · exact ⟨(L.net.ch ch).started, by cases ch <;> rfl⟩

@[simp] theorem Lane.withStarted_state (L : Lane) (ch : Chan) (ks : List Nat) :
    (L.withStarted ch ks).net.state = L.net.state := L.onCh_state ..

theorem Lane.withStarted_checks (L : Lane) (ch : Chan) (ks : List Nat) (f : FrameIn) :
    (L.withStarted ch ks).frameForm ch f = L.frameForm ch f ∧
      (∀ w, (L.withStarted ch ks).inWindow ch f w = L.inWindow ch f w) ∧
      (∀ c, (L.withStarted ch ks).frameTag f c = L.frameTag f c) ∧ (L.withStarted ch ks).tAcc = L.tAcc := by
  cases ch <;> exact ⟨rfl, fun _ => rfl, fun _ => rfl, rfl⟩

theorem Lane.rxFrame_of_own (hcluster : f.cluster = L.sched 0x4800 2) (hnode : f.node = L.sched 0x4800 3) (unc : Nat) :
    L.rxFrame ch f unc = L :=
  if_pos ⟨hcluster, hnode⟩

/-- In ACTIVE a frame of another node in its form and window is taken or counted as one whose tag fails (R246). -/
theorem Lane.exists_rxFrame_active (hother : ¬(f.cluster = L.sched 0x4800 2 ∧ f.node = L.sched 0x4800 3))
    (hactive : L.net.state = .active) (hform : L.frameForm ch f = true) (hwindow : L.inWindow ch f L.tAcc = true)
    (unc : Nat) : ∃ ks, L.rxFrame ch f unc = if L.frameTag f L.net.cycleNow then
      (L.withStarted ch ks).acceptFrame ch f unc else (L.withStarted ch ks).badTag ch f := by
  obtain ⟨ks, hstarts⟩ := L.exists_frameStarts ch f
  obtain ⟨hform', hwindow', htag', hacc'⟩ := L.withStarted_checks ch ks f
  have hcycle : (L.withStarted ch ks).net.cycleNow = L.net.cycleNow := by cases ch <;> rfl
  refine ⟨ks, ?_⟩
  unfold Lane.rxFrame
  simp only [if_neg hother, hstarts, L.withStarted_state ch ks, hactive, hform', hwindow', htag', hacc', hcycle, hform,
    hwindow, Bool.and_self, if_true]


theorem Lane.sync_of_frameForm (h : L.frameForm ch f = true) : f.sync = (L.desc ch (f.kind == 1) f.slot).sync := by
  simp only [Lane.frameForm, Bool.and_eq_true, beq_iff_eq] at h
  obtain ⟨⟨⟨-, hsync⟩, -⟩, -⟩ := h
  exact hsync

/-- A frame of a static slot with RX, no sync frame, is stored fresh (R256, R257). -/
theorem Lane.exists_storeFrame_of_rx (hkind : f.kind = 0) (hsync : (L.desc ch false f.slot).sync = false)
    (hrx : (L.desc ch false f.slot).rx = true) :
    ∃ r rest, L.storeFrame ch f = { L with net := { L.net with rxFrames := r :: rest } } ∧ r.ch = ch ∧
      r.slot = f.slot ∧ r.payload = f.payload ∧ r.fresh = true ∧ r.arrNs = f.arrNs := by
  have hstatic : (f.kind == 1) = false := by rw [hkind]; rfl
  unfold Lane.storeFrame
  simp only [hstatic, hsync, hrx, Bool.false_or, Bool.not_true, Bool.false_and, Bool.false_eq_true, if_false]
  exact ⟨_, _, rfl, rfl, rfl, rfl, rfl, rfl⟩

/-- A frame taken from a static slot with RX: stored fresh, its slot passed, its channel alive (R246, R256, R279). -/
theorem Lane.acceptFrame_of_rx (unc : Nat) (hsync : f.sync = false) (hkind : f.kind = 0)
    (hnosync : (L.desc ch false f.slot).sync = false) (hrx : (L.desc ch false f.slot).rx = true) :
    (∃ r rest, (L.acceptFrame ch f unc).net.rxFrames = r :: rest ∧ r.ch = ch ∧ r.slot = f.slot ∧
      r.payload = f.payload ∧ r.fresh = true ∧ r.arrNs = f.arrNs) ∧
    ((L.acceptFrame ch f unc).net.ch ch).gotFrame = true ∧
    f.slot ∈ ((L.acceptFrame ch f unc).net.ch ch).passed := by
  obtain ⟨r, rest, hstore, hr⟩ := Lane.exists_storeFrame_of_rx
    (L := L.onCh ch fun c => { c.pass f with gotFrame := true }) hkind ((congrArg SlotDesc.sync (L.onCh_desc ..)).trans
      hnosync) ((congrArg SlotDesc.rx (L.onCh_desc ..)).trans hrx)
  have haccept : L.acceptFrame ch f unc = (L.onCh ch fun c => { c.pass f with gotFrame := true }).storeFrame ch f := by
    simp [Lane.acceptFrame, hsync]
  rw [haccept, hstore]
  have hch : (Node.ch { (L.onCh ch fun c => { c.pass f with gotFrame := true }).net with rxFrames := r :: rest } ch) =
      { (L.net.ch ch).pass f with gotFrame := true } := by cases ch <;> rfl
  refine ⟨⟨r, rest, rfl, hr⟩, ?_, ?_⟩
  · rw [hch]
  · rw [hch]
    simp [Channel.pass, hkind]

/-- A frame whose tag fails is counted and recorded, and nothing is stored (R246, R426). -/
theorem Lane.badTag_result (L : Lane) (ch : Chan) (f : FrameIn) :
    (L.badTag ch f).net.authFail = satInc L.net.authFail ∧ (L.badTag ch f).flog.last = 0x9081 ∧
      (L.badTag ch f).net.rxFrames = L.net.rxFrames :=
  ⟨rfl, Lane.raise_last .., rfl⟩

end

/-- The module with one lane replaced and one free value drawn (log entry 5). -/
def State.onDrawing (s : State) (l : LaneId) (f : Lane → Lane) : State := { s.on l f with freeCtr := s.freeCtr + 1 }

@[simp] theorem State.lane_onDrawing_same (s : State) (l : LaneId) (f : Lane → Lane) :
    (s.onDrawing l f).lane l = f (s.lane l) := s.lane_on_same l f

@[simp] theorem State.lane_onDrawing_ne (s : State) {l p : LaneId} (f : Lane → Lane) (h : p ≠ l) :
    (s.onDrawing l f).lane p = s.lane p := s.lane_on_ne f h

theorem exec_tsuvasFrameReceived_of_alive {s : State} {l : LaneId} (h : (s.lane l).alive = true) (ch : Chan)
    (f : FrameIn) : ∃ unc, exec (.tsuvasFrameReceived l ch f) s = .next (s.onDrawing l fun L => L.rxFrame ch f unc) :=
  ⟨_, if_pos h⟩

theorem exec_tsuvasFrameReceived_of_dead {s : State} {l : LaneId} (h : (s.lane l).alive = false) (ch : Chan)
    (f : FrameIn) : exec (.tsuvasFrameReceived l ch f) s = .next s :=
  if_neg (by simp [h])

/-! ### Frames sent (R255, R260, R302) -/

@[simp] theorem Lane.stamp_net (L : Lane) (q : TsqId) (tag : Nat) (late : Bool) : (L.stamp q tag late).net = L.net := by
  unfold Lane.stamp
  dsimp only
  split <;> rfl

@[simp] theorem Lane.stamp_tb (L : Lane) (q : TsqId) (tag : Nat) (late : Bool) : (L.stamp q tag late).tb = L.tb := by
  unfold Lane.stamp
  dsimp only
  split <;> rfl

theorem Lane.exists_ownExt (L : Lane) : ∃ e, L.ownExt = { L with net := { L.net with extDes := e } } := by
  unfold Lane.ownExt
  dsimp only
  split_ifs
  · exact ⟨_, rfl⟩
  · exact ⟨L.net.extDes, rfl⟩

theorem Lane.tsReq_congr {L M : Lane} (hid : M.id = L.id) (hdict : M.dict = L.dict) (ch : Chan) (slot : Nat) :
    M.tsReq ch slot = L.tsReq ch slot := by
  simp only [Lane.tsReq, Lane.obj, hid, hdict]

/-- The lane with a frame launched: what it last sent, its buffers and the responses that still wait. -/
def Lane.withLaunch (L : Lane) (ext : Option (Nat × Int)) (tx : TxSent) (bufs : List TxBuf) (out : Dict) : Lane :=
  { L with net := { L.net with extDes := ext, lastTx := some tx, txBufs := bufs }, dict := out }

/-- A launch moves the clocks to the action point, sends one frame, and stamps it where TS_REQ names its slot. -/
theorem Lane.exists_sendFrame (L : Lane) (ch : Chan) (service : Bool) (slot : Nat) (fill : Bool) :
    ∃ ext tx bufs out q tag, L.sendFrame ch service slot fill =
        (let M := (L.advance (L.netTime (L.actionPoint ch service slot))).withLaunch ext tx bufs out
        if !service && L.tsReq ch slot then M.stamp q tag false else M) ∧
      tx.slot = slot ∧ tx.ch = ch ∧ tx.service = service ∧ tx.fill = fill ∧ tx.cycle = L.net.cycleNow ∧
      tx.atNs = max L.tb.ns (L.netTime (L.actionPoint ch service slot)) := by
  unfold Lane.sendFrame
  dsimp only
  generalize hA : L.advance (L.netTime (L.actionPoint ch service slot)) = A
  have hreq : A.tsReq ch slot = L.tsReq ch slot := by
    rw [← hA]
    exact Lane.tsReq_congr (L.advance_id _) (L.advance_dict _) ch slot
  have hns : A.tb.ns = max L.tb.ns (L.netTime (L.actionPoint ch service slot)) := by rw [← hA, Lane.advance_ns]
  have hcycle : A.net.cycleNow = L.net.cycleNow := by rw [← hA, Lane.advance_net]
  obtain ⟨ext, hext⟩ : ∃ e, (if (A.desc ch service slot).sync then A.ownExt else A) =
      { A with net := { A.net with extDes := e } } := by
    split
    · exact A.exists_ownExt
    · exact ⟨A.net.extDes, rfl⟩
  rw [hext, ← hreq]
  exact ⟨ext, _, _, _, _, _, rfl, rfl, rfl, rfl, rfl, hcycle, hns⟩

/-- What a launch leaves: the frame it sent, at its action point or at once where that has passed (R255). -/
theorem Lane.sendFrame_result (L : Lane) (ch : Chan) (service : Bool) (slot : Nat) (fill : Bool) :
    (∃ x, (L.sendFrame ch service slot fill).net.lastTx = some x ∧ x.slot = slot ∧ x.ch = ch ∧ x.service = service ∧
      x.fill = fill ∧ x.cycle = L.net.cycleNow ∧ x.atNs = (L.sendFrame ch service slot fill).tb.ns) ∧
    (L.sendFrame ch service slot fill).tb.ns = max L.tb.ns (L.netTime (L.actionPoint ch service slot)) ∧
    (L.sendFrame ch service slot fill).net.txEmpty = L.net.txEmpty := by
  obtain ⟨ext, tx, bufs, out, q, tag, hsend, hslot, hch, hservice, hfill, hcycle, hat⟩ :=
    L.exists_sendFrame ch service slot fill
  obtain ⟨hnet, hns⟩ : (L.sendFrame ch service slot fill).net =
        { L.net with extDes := ext, lastTx := some tx, txBufs := bufs } ∧
      (L.sendFrame ch service slot fill).tb.ns = max L.tb.ns (L.netTime (L.actionPoint ch service slot)) := by
    rw [hsend]
    dsimp only
    split <;> simp [Lane.withLaunch, Lane.advance_ns]
  rw [hnet, hns]
  exact ⟨⟨tx, rfl, hslot, hch, hservice, hfill, hcycle, hat⟩, rfl, rfl⟩

/-- A launch without a stamp records nothing (R303). -/
theorem Lane.sendFrame_flog {L : Lane} {ch : Chan} {slot : Nat} (h : L.tsReq ch slot = false) (service fill : Bool) :
    (L.sendFrame ch service slot fill).flog = L.flog := by
  obtain ⟨ext, tx, bufs, out, q, tag, hsend, -⟩ := L.exists_sendFrame ch service slot fill
  rw [hsend, h]
  simp [Lane.withLaunch]

/-! ### SLOT_LAUNCH -/

theorem Lane.txMissed_net (L : Lane) (ch : Chan) (slot : Nat) :
    (L.txMissed ch slot).net = { L.net with txEmpty := satInc L.net.txEmpty } := rfl

section
variable {L : Lane} {ch : Chan} {slot : Nat}

/-- A sync or cold-start slot sends in any case, another with a ready buffer: the frame alone, or with a count of
missing data (R255). -/
theorem Lane.exists_launchStatic_sends (h : (L.desc ch false slot).sync = true ∨ (L.desc ch false slot).cstart = true ∨
    L.slotReady ch slot = true) :
    ∃ fill, L.launchStatic ch slot = L.sendFrame ch false slot fill ∨
      L.launchStatic ch slot = (L.sendFrame ch false slot fill).txMissed ch slot := by
  unfold Lane.launchStatic
  dsimp only
  split_ifs with hsync _ _ hready
  · exact ⟨false, .inl rfl⟩
  · exact ⟨true, .inr rfl⟩
  · exact ⟨true, .inl rfl⟩
  · exact ⟨false, .inl rfl⟩
  · simp only [Bool.or_eq_true, not_or] at hsync
    rcases h with h | h | h
    · exact absurd h hsync.1
    · exact absurd h hsync.2
    · exact absurd h hready

theorem Lane.launchStatic_of_plain (hsync : (L.desc ch false slot).sync = false)
    (hstart : (L.desc ch false slot).cstart = false) : L.launchStatic ch slot =
      if L.slotReady ch slot then L.sendFrame ch false slot false else L.txMissed ch slot :=
  if_neg (by rw [show L.slot ch slot = L.desc ch false slot from rfl, hsync, hstart]; simp)

end

/-- What the node does at the action point of an own slot that is used in the cycle, by its state (R255, R260). -/
def Lane.launch (L : Lane) (ch : Chan) (slot : Nat) (service : Bool) : Lane :=
  match L.net.state with
  | .coldstart =>
    if ch = .X ∧ (L.desc ch service slot).cstart ∧ L.net.csFrom ≤ L.net.cycleNow then
      L.sendFrame ch service slot true
    else L
  | .active =>
    if service then if (L.slotResponses ch slot).isEmpty then L else L.sendFrame ch true slot false
    else L.launchStatic ch slot
  | _ => L

section
variable {L : Lane} {ch : Chan} {slot : Nat}

theorem Lane.launch_static (h : L.net.state = .active) : L.launch ch slot false = L.launchStatic ch slot := by
  simp [Lane.launch, h]

theorem Lane.launch_service (h : L.net.state = .active) : L.launch ch slot true =
    if (L.slotResponses ch slot).isEmpty then L else L.sendFrame ch true slot false := by
  simp [Lane.launch, h]

theorem Lane.launch_coldstart (h : L.net.state = .coldstart) (sv : Bool) : L.launch ch slot sv =
    if ch = .X ∧ (L.desc ch sv slot).cstart = true ∧ L.net.csFrom ≤ L.net.cycleNow then L.sendFrame ch sv slot true
    else L := by
  simp [Lane.launch, h]

theorem Lane.launch_other (hactive : L.net.state ≠ .active) (hcold : L.net.state ≠ .coldstart) (sv : Bool) :
    L.launch ch slot sv = L := by
  unfold Lane.launch
  split
  · exact absurd ‹_› hcold
  · exact absurd ‹_› hactive
  · rfl

end

/-- A slot of a running lane's own node, used in the running cycle (R251, R254, R257). -/
structure Lane.OwnSlot (L : Lane) (ch : Chan) (service : Bool) (slot : Nat) : Prop where
  alive : L.alive = true
  port : (L.desc ch service slot).port = 6
  slotIn : L.slotIn ch service slot = true
  used : (L.desc ch service slot).used L.net.cycleNow = true

section
variable {s : State} {l : LaneId} {ch : Chan} {slot : Nat} {sv : Bool}

theorem exec_slotLaunch_of_own (hown : (s.lane l).OwnSlot ch sv slot) :
    exec (.slotLaunch l ch slot sv) s = .next (s.on l fun L => L.launch ch slot sv) :=
  State.next_on_of_holds (s := s) (l := l) (f := fun L => L.launch ch slot sv) (c := fun L => (L.alive &&
    ((L.desc ch sv slot).port == 6 && L.slotIn ch sv slot && (L.desc ch sv slot).used L.net.cycleNow)) = true)
    (by simp [hown.alive, hown.port, hown.slotIn, hown.used])

theorem exec_slotLaunch_of_not_own (h : (s.lane l).alive = false ∨ ((s.lane l).desc ch sv slot).port ≠ 6 ∨
    (s.lane l).slotIn ch sv slot = false ∨ ((s.lane l).desc ch sv slot).used (s.lane l).net.cycleNow = false) :
    exec (.slotLaunch l ch slot sv) s = .next s :=
  State.next_on_of_fails (s := s) (l := l) (f := fun L => L.launch ch slot sv) (c := fun L => (L.alive &&
    ((L.desc ch sv slot).port == 6 && L.slotIn ch sv slot && (L.desc ch sv slot).used L.net.cycleNow)) = true)
    (by rcases h with h | h | h | h <;> simp [h])

/-! ### SLOT_END (R279) -/

/-- A slot without a passed frame counts as invalid where a frame start was seen in it, else as empty. -/
def SlotCount.miss (started : Bool) (k : SlotCount) : SlotCount :=
  if started then { k with invalid := satInc k.invalid } else { k with empty := satInc k.empty }

theorem exec_slotEnd_of_missed (halive : (s.lane l).alive = true) (hin : (s.lane l).slotIn ch false slot = true)
    (h7 : ((s.lane l).slot ch slot).port ≠ 7) (h6 : ((s.lane l).slot ch slot).port ≠ 6)
    (hused : ((s.lane l).slot ch slot).used (s.lane l).net.cycleNow = true)
    (hmissed : slot ∉ ((s.lane l).net.ch ch).passed) :
    exec (.slotEnd l ch slot) s = .next (s.on l fun L => L.onCh ch fun x =>
      { x with slots := bumpSlot x.slots slot (SlotCount.miss (((s.lane l).net.ch ch).started.contains slot)) }) :=
  congrArg Host.Outcome.next (s.on_congr l (if_pos (by
    simp only [halive, hin, bne_iff_ne.2 h7, bne_iff_ne.2 h6, hused, List.contains_eq_mem, hmissed]
    rfl)))

theorem exec_slotEnd_of_none (h : (s.lane l).alive = false ∨ (s.lane l).slotIn ch false slot = false ∨
    ((s.lane l).slot ch slot).port = 7 ∨ ((s.lane l).slot ch slot).port = 6 ∨
    ((s.lane l).slot ch slot).used (s.lane l).net.cycleNow = false ∨ slot ∈ ((s.lane l).net.ch ch).passed) :
    exec (.slotEnd l ch slot) s = .next s :=
  congrArg Host.Outcome.next (s.on_id l (if_neg (by rcases h with h | h | h | h | h | h <;> simp [h])))

/-! ### Frames in an ACTIVE node (R246) -/

theorem exec_tsuvasFrameReceived_badTag {f : FrameIn} (halive : (s.lane l).alive = true)
    (hother : ¬(f.cluster = (s.lane l).sched 0x4800 2 ∧ f.node = (s.lane l).sched 0x4800 3))
    (hactive : (s.lane l).net.state = .active) (hform : (s.lane l).frameForm ch f = true)
    (hwindow : (s.lane l).inWindow ch f (s.lane l).tAcc = true)
    (htag : (s.lane l).frameTag f (s.lane l).net.cycleNow = false) :
    ∃ t, exec (.tsuvasFrameReceived l ch f) s = .next t ∧
      (∀ p, p ≠ l → t.lane p = s.lane p) ∧ t.freeCtr = s.freeCtr + 1 ∧
      (t.lane l).net.authFail = satInc (s.lane l).net.authFail ∧ (t.lane l).flog.last = 0x9081 ∧
      (t.lane l).net.rxFrames = (s.lane l).net.rxFrames ∧ (t.lane l).vote = (s.lane l).vote := by
  obtain ⟨unc, hexec⟩ := exec_tsuvasFrameReceived_of_alive halive ch f
  obtain ⟨ks, hrx⟩ := Lane.exists_rxFrame_active hother hactive hform hwindow unc
  obtain ⟨hfail, hlast, hframes⟩ := ((s.lane l).withStarted ch ks).badTag_result ch f
  refine ⟨_, hexec, fun p hp => s.lane_onDrawing_ne _ hp, rfl, ?_⟩
  rw [State.lane_onDrawing_same, (Lane.rxFrame_voteKept ..).2, hrx, htag, if_neg Bool.false_ne_true,
    hfail, hlast, hframes]
  exact ⟨congrArg satInc (Lane.onCh_authFail ..), rfl, Lane.onCh_rxFrames .., rfl⟩

theorem exec_tsuvasFrameReceived_stored {f : FrameIn} (halive : (s.lane l).alive = true)
    (hother : ¬(f.cluster = (s.lane l).sched 0x4800 2 ∧ f.node = (s.lane l).sched 0x4800 3))
    (hactive : (s.lane l).net.state = .active) (hform : (s.lane l).frameForm ch f = true)
    (hwindow : (s.lane l).inWindow ch f (s.lane l).tAcc = true)
    (htag : (s.lane l).frameTag f (s.lane l).net.cycleNow = true) (hkind : f.kind = 0) (hsync : f.sync = false)
    (hrx : ((s.lane l).desc ch false f.slot).rx = true) :
    ∃ t, exec (.tsuvasFrameReceived l ch f) s = .next t ∧ (∀ p, p ≠ l → t.lane p = s.lane p) ∧
      (∃ r rest, (t.lane l).net.rxFrames = r :: rest ∧ r.ch = ch ∧ r.slot = f.slot ∧ r.payload = f.payload ∧
        r.fresh = true ∧ r.arrNs = f.arrNs) ∧
      ((t.lane l).net.ch ch).gotFrame = true ∧ f.slot ∈ ((t.lane l).net.ch ch).passed ∧
      (t.lane l).vote = (s.lane l).vote := by
  obtain ⟨unc, hexec⟩ := exec_tsuvasFrameReceived_of_alive halive ch f
  obtain ⟨ks, htake⟩ := Lane.exists_rxFrame_active hother hactive hform hwindow unc
  have hnosync : ((s.lane l).desc ch false f.slot).sync = false := by
    have := Lane.sync_of_frameForm hform
    rw [hkind, hsync] at this
    exact this.symm
  have hdesc : ((s.lane l).withStarted ch ks).desc ch false f.slot = (s.lane l).desc ch false f.slot :=
    Lane.onCh_desc ..
  obtain ⟨hstored, hgot, hpassed⟩ := Lane.acceptFrame_of_rx (L := (s.lane l).withStarted ch ks) unc hsync hkind
    (by rw [hdesc, hnosync]) (by rw [hdesc, hrx])
  refine ⟨_, hexec, fun p hp => s.lane_onDrawing_ne _ hp, ?_⟩
  rw [State.lane_onDrawing_same, (Lane.rxFrame_voteKept ..).2, htake, htag, if_pos rfl]
  exact ⟨hstored, hgot, hpassed, rfl⟩

/-! ### Launches -/

theorem exec_slotLaunch_static_sends (hown : (s.lane l).OwnSlot ch false slot)
    (hactive : (s.lane l).net.state = .active)
    (hsends : ((s.lane l).desc ch false slot).sync = true ∨ ((s.lane l).desc ch false slot).cstart = true ∨
      (s.lane l).slotReady ch slot = true) :
    ∃ t, exec (.slotLaunch l ch slot false) s = .next t ∧ OnlyLane l s t ∧
      (t.lane l).tb.ns = max (s.lane l).tb.ns ((s.lane l).netTime ((s.lane l).actionPoint ch false slot)) ∧
      ∃ x, (t.lane l).net.lastTx = some x ∧ x.slot = slot ∧ x.ch = ch ∧ x.service = false ∧
        x.cycle = (s.lane l).net.cycleNow ∧ x.atNs = (t.lane l).tb.ns := by
  refine ⟨_, exec_slotLaunch_of_own hown, s.onlyLane_on l _, ?_⟩
  obtain ⟨fill, hlaunch⟩ := Lane.exists_launchStatic_sends hsends
  obtain ⟨⟨x, htx, hslot, hch, hservice, -, hcycle, hat⟩, hns, -⟩ := (s.lane l).sendFrame_result ch false slot fill
  rw [State.lane_on_same, Lane.launch_static hactive]
  rcases hlaunch with heq | heq <;> rw [heq]
  · exact ⟨hns, x, htx, hslot, hch, hservice, hcycle, hat⟩
  · exact ⟨hns, x, htx, hslot, hch, hservice, hcycle, hat⟩

/-- A frame launched alone, by any of the three kinds of slot. -/
theorem exec_slotLaunch_of_sends {fill : Bool} (hown : (s.lane l).OwnSlot ch sv slot)
    (hlaunch : (s.lane l).launch ch slot sv = (s.lane l).sendFrame ch sv slot fill) :
    ∃ t x, exec (.slotLaunch l ch slot sv) s = .next t ∧ OnlyLane l s t ∧ (t.lane l).net.lastTx = some x ∧
      x.slot = slot ∧ x.ch = ch ∧ x.service = sv ∧ x.fill = fill ∧ (t.lane l).net.txEmpty = (s.lane l).net.txEmpty ∧
      t.lane l = (s.lane l).sendFrame ch sv slot fill := by
  obtain ⟨⟨x, htx, hslot, hch, hservice, hfill, -, -⟩, -, hempty⟩ := (s.lane l).sendFrame_result ch sv slot fill
  have hlane : (s.on l fun L => L.launch ch slot sv).lane l = (s.lane l).sendFrame ch sv slot fill := by
    rw [State.lane_on_same, hlaunch]
  exact ⟨_, x, exec_slotLaunch_of_own hown, s.onlyLane_on l _, hlane ▸ htx, hslot, hch, hservice, hfill, hlane ▸ hempty,
    hlane⟩

theorem exec_slotLaunch_of_idle (hown : (s.lane l).OwnSlot ch sv slot)
    (hidle : (s.lane l).launch ch slot sv = s.lane l) : exec (.slotLaunch l ch slot sv) s = .next s :=
  (exec_slotLaunch_of_own hown).trans (congrArg Host.Outcome.next (s.on_id l hidle))

end

/-! ### The statement -/

/-- Settles O30: the checks decide what becomes of a frame, the node's state what an own slot sends, and the frames
passed what another node's slot counts (R246, R255, R256, R260, R279). -/
theorem framesAndSlots : Obligations.FramesAndSlots := by
  refine ⟨fun s l ch f => ⟨fun hdead => exec_tsuvasFrameReceived_of_dead hdead ch f, fun halive =>
    ⟨fun hcluster hnode => ?_, fun hother hactive hform hwindow =>
      ⟨exec_tsuvasFrameReceived_badTag halive hother hactive hform hwindow,
        exec_tsuvasFrameReceived_stored halive hother hactive hform hwindow⟩⟩⟩,
    fun s l ch slot halive => ⟨fun sv hport hin hused => ?_, fun sv h => exec_slotLaunch_of_not_own (.inr h),
      exec_slotEnd_of_missed halive, fun h => exec_slotEnd_of_none (.inr h)⟩,
    fun s l ch slot sv hdead => ⟨exec_slotLaunch_of_not_own (.inl hdead), exec_slotEnd_of_none (.inl hdead)⟩⟩
  · obtain ⟨unc, hexec⟩ := exec_tsuvasFrameReceived_of_alive halive ch f
    refine ⟨_, hexec, rfl, fun p => ?_⟩
    by_cases hp : p = l
    · rw [hp, State.lane_onDrawing_same, Lane.rxFrame_of_own hcluster hnode]
    · exact s.lane_onDrawing_ne _ hp
  · have hown : (s.lane l).OwnSlot ch sv slot := ⟨halive, hport, hin, hused⟩
    refine ⟨fun hactive hsv => ?_, fun hactive hsv => ?_, fun hcold => ⟨fun hx hstart hfrom => ?_, fun h => ?_⟩,
      fun hactive hcold => exec_slotLaunch_of_idle hown (Lane.launch_other hactive hcold sv)⟩
    · subst hsv
      refine ⟨exec_slotLaunch_static_sends hown hactive, fun hsync hstart hready hreq => ?_,
        fun hsync hstart hready => ⟨_, exec_slotLaunch_of_own hown, s.onlyLane_on l _, ?_⟩⟩
      · obtain ⟨t, x, hexec, -, htx, -, -, -, hfill, hempty, hlane⟩ := exec_slotLaunch_of_sends hown
          ((Lane.launch_static hactive).trans ((Lane.launchStatic_of_plain hsync hstart).trans (if_pos hready)))
        exact ⟨t, x, hexec, htx, hfill, hlane ▸ Lane.sendFrame_flog hreq false false, hempty⟩
      · rw [State.lane_on_same, Lane.launch_static hactive, Lane.launchStatic_of_plain hsync hstart,
          if_neg (by simp [hready]), Lane.txMissed_net]
        exact ⟨rfl, rfl⟩
    · subst hsv
      refine ⟨fun hnone => exec_slotLaunch_of_idle hown
        ((Lane.launch_service hactive).trans (if_pos (by simp [hnone]))), fun hsome => ?_⟩
      obtain ⟨t, x, hexec, honly, htx, hslot, hch, hservice, -⟩ := exec_slotLaunch_of_sends hown
        ((Lane.launch_service hactive).trans (if_neg (by simp [hsome])))
      exact ⟨t, x, hexec, honly, htx, hslot, hch, hservice⟩
    · obtain ⟨t, x, hexec, honly, htx, hslot, hch, -, hfill, -⟩ := exec_slotLaunch_of_sends hown
        ((Lane.launch_coldstart hcold sv).trans (if_pos ⟨hx, hstart, hfrom⟩))
      exact ⟨t, x, hexec, honly, htx, hslot, hch, hfill⟩
    · refine exec_slotLaunch_of_idle hown ((Lane.launch_coldstart hcold sv).trans (if_neg ?_))
      rintro ⟨hx, hstart, hfrom⟩
      rcases h with h | h | h
      · exact h hx
      · exact Bool.false_ne_true (h.symm.trans hstart)
      · omega

end Sys2Proof.Machine
end

section
/-! PROOFS, the end of a network cycle and the loss of synchronisation, channel or network. -/
namespace Sys2Proof.Machine

/-! ### What the time base leaves of the node -/

@[simp] theorem Lane.judgeTime_net (L : Lane) (synced : Bool) : (L.judgeTime synced).net = L.net := by
  unfold Lane.judgeTime
  split
  · rfl
  · split <;> rfl
  · split <;> rfl

@[simp] theorem Lane.judgeTime_pwr (L : Lane) (synced : Bool) : (L.judgeTime synced).pwr = L.pwr := by
  unfold Lane.judgeTime
  split
  · rfl
  · split <;> rfl
  · split <;> rfl

/-! ### What the end of a cycle keeps until the next begins -/

/-- The number of the running cycle, its deviations and the lane's power group as they were. -/
structure Lane.CycleDataKept (L M : Lane) : Prop where
  cycleNow : M.net.cycleNow = L.net.cycleNow
  devNow : M.net.devNow = L.net.devNow
  pwr : M.pwr = L.pwr

theorem Lane.CycleDataKept.refl (L : Lane) : L.CycleDataKept L := ⟨rfl, rfl, rfl⟩

theorem Lane.CycleDataKept.trans {L M N : Lane} (h : L.CycleDataKept M) (h' : M.CycleDataKept N) : L.CycleDataKept N :=
  ⟨h'.cycleNow.trans h.cycleNow, h'.devNow.trans h.devNow, h'.pwr.trans h.pwr⟩

theorem Lane.correct_cycleDataKept (L : Lane) : L.CycleDataKept L.correct := by
  unfold Lane.correct
  dsimp only
  split
  · split
    · exact ⟨rfl, rfl, rfl⟩
    · exact ⟨rfl, rfl, rfl⟩
  · exact ⟨rfl, rfl, rfl⟩

theorem Lane.activate_cycleDataKept (L : Lane) : L.CycleDataKept L.activate := ⟨rfl, rfl, rfl⟩

theorem Lane.observedEnd_cycleDataKept (L : Lane) (peerActive : Bool) : L.CycleDataKept (L.observedEnd peerActive) := by
  unfold Lane.observedEnd
  dsimp only
  split_ifs
  · exact ⟨rfl, rfl, rfl⟩
  · exact ⟨rfl, rfl, rfl⟩
  · exact .refl L
  · exact L.correct_cycleDataKept
  · exact L.correct_cycleDataKept.trans (Lane.activate_cycleDataKept _)

/-! ### The phases of NETWORK_CYCLE_END -/

/-- The clocks at the start of the idle time, the sync values counted and the channels judged (R266, R276). -/
def Lane.cycleCounted (L : Lane) : Lane :=
  let M := L.advance (L.netTime ((L.net.cycleNow + 1) * (L.cycleLen * 1000) - L.tNit.toNat))
  let active := M.net.state == .active
  let count := (M.devs M.net.devNow).length
  { M with net := { M.net with
    syncCount := count
    lowSync := if active && decide (count < 2) then M.net.lowSync + 1 else 0
    x := M.net.x.cycleEnd active, y := M.net.y.cycleEnd active } }

/-- The corrections of the cycle, or the end of an observed one (R265, R270). -/
def Lane.cycleCorrected (L : Lane) (peerActive : Bool) : Lane :=
  match L.net.state with
  | .active => if L.net.cycleNow % 2 = 1 then L.correct else L
  | .integrate | .mute => L.observedEnd peerActive
  | _ => L

/-- The time base judged, and its clocks at the cycle's end unless a slew runs (R288, R292). -/
def Lane.cycleTimed (L : Lane) (synced : Bool) (next : Nat) : Lane :=
  let M := L.judgeTime synced
  if M.tb.slewTicks = 0 then M.advance (M.netTime next) else M

/-- While an entry is in its phases the node halts (R450). -/
def Lane.cycleHalted (L : Lane) : Lane := if L.pwr.phase = 0 then L else L.setNode .halt

/-- The next cycle begins: no deviation is collected, the last cycle's are kept (R240, R269). -/
def Lane.nextCycle (L : Lane) : Lane :=
  { L with
    net := { L.net with
      csNodes := 0, devEven := L.net.devNow, devNow := [], extDes := none, cycleNow := L.net.cycleNow + 1 } }

theorem Lane.exists_cycleEnd_eq (L : Lane) (peerActive : Bool) : ∃ synced next,
    L.cycleEnd peerActive =
      ((L.cycleCounted.cycleCorrected peerActive).cycleTimed synced next).cycleHalted.nextCycle :=
  ⟨_, _, rfl⟩

theorem Lane.cycleCounted_cycleDataKept (L : Lane) : L.CycleDataKept L.cycleCounted := by
  constructor <;> simp [Lane.cycleCounted]

theorem Lane.cycleCorrected_cycleDataKept (L : Lane) (peerActive : Bool) :
    L.CycleDataKept (L.cycleCorrected peerActive) := by
  unfold Lane.cycleCorrected
  split
  · split
    · exact L.correct_cycleDataKept
    · exact .refl L
  · exact L.observedEnd_cycleDataKept peerActive
  · exact L.observedEnd_cycleDataKept peerActive
  · exact .refl L

@[simp] theorem Lane.cycleTimed_net (L : Lane) (synced : Bool) (next : Nat) :
    (L.cycleTimed synced next).net = L.net := by
  unfold Lane.cycleTimed
  dsimp only
  split <;> simp

@[simp] theorem Lane.cycleTimed_pwr (L : Lane) (synced : Bool) (next : Nat) :
    (L.cycleTimed synced next).pwr = L.pwr := by
  unfold Lane.cycleTimed
  dsimp only
  split <;> simp

theorem Lane.cycleHalted_cycleDataKept (L : Lane) : L.CycleDataKept L.cycleHalted := by
  unfold Lane.cycleHalted
  split
  · exact .refl L
  · exact ⟨rfl, rfl, rfl⟩

/-! ### A cycle with fewer than two sync values (R266, R270) -/

theorem ftm_of_few {v : List Rat} (h : v.length < 2) : ftm v = none := if_pos h

theorem Lane.midpoints_of_few {L : Lane} (h : (L.devs L.net.devNow).length < 2) : L.midpoints = none := by
  unfold Lane.midpoints
  dsimp only
  rw [ftm_of_few (by simpa using h)]

/-- Without midpoints nothing is corrected. -/
theorem Lane.correct_of_few {L : Lane} (h : (L.devs L.net.devNow).length < 2) :
    L.correct = { L with net := { L.net with extApplied := false } } := by
  simp only [Lane.correct, Lane.midpoints_of_few h]

theorem Lane.sched_congr {L M : Lane} (hid : M.id = L.id) (hsched : M.net.sched = L.net.sched) (idx sub : Nat) :
    M.sched idx sub = L.sched idx sub := by
  rw [Lane.sched, Lane.sched, hid, hsched]

theorem Lane.devs_congr {L M : Lane} (hid : M.id = L.id) (hsched : M.net.sched = L.net.sched) (l : List SyncVal) :
    M.devs l = L.devs l := by
  have hrole : M.nodeRole 0 = L.nodeRole 0 := congrArg (bit · 0) (Lane.sched_congr hid hsched ..)
  rw [Lane.devs, Lane.devs, hrole, Lane.sched_congr hid hsched]

theorem Lane.cycleCounted_devs (L : Lane) (l : List SyncVal) : L.cycleCounted.devs l = L.devs l :=
  Lane.devs_congr (L.advance_id _) (congrArg Node.sched (L.advance_net _)) l

theorem Lane.cycleCounted_state (L : Lane) : L.cycleCounted.net.state = L.net.state := by
  simp [Lane.cycleCounted]

theorem Lane.cycleCounted_lowSync {L : Lane} (hactive : L.net.state = .active)
    (hfew : (L.devs L.net.devNow).length < 2) : L.cycleCounted.net.lowSync = L.net.lowSync + 1 := by
  have hdevs (ns : Nat) : (L.advance ns).devs L.net.devNow = L.devs L.net.devNow :=
    Lane.devs_congr (L.advance_id ns) (congrArg Node.sched (L.advance_net ns)) _
  simp [Lane.cycleCounted, hactive, hdevs, hfew]

/-- An ACTIVE node with too few values counts the cycle and stays as it is. -/
theorem Lane.cycleCorrected_of_few {L : Lane} (hactive : L.net.state = .active)
    (hfew : (L.devs L.net.devNow).length < 2) (peerActive : Bool) :
    (L.cycleCorrected peerActive).net.lowSync = L.net.lowSync ∧ (L.cycleCorrected peerActive).net.state = .active := by
  have heq : L.cycleCorrected peerActive = if L.net.cycleNow % 2 = 1 then L.correct else L := by
    simp only [Lane.cycleCorrected, hactive]
  rw [heq, Lane.correct_of_few hfew]
  split
  · exact ⟨rfl, hactive⟩
  · exact ⟨rfl, hactive⟩

/-- The lane as its next cycle begins (R240, R266, R269, R450). -/
theorem Lane.cycleEnd_result (L : Lane) (peerActive : Bool) :
    (L.cycleEnd peerActive).net.cycleNow = L.net.cycleNow + 1 ∧ (L.cycleEnd peerActive).net.devNow = [] ∧
    (L.cycleEnd peerActive).net.devEven = L.net.devNow ∧ (L.cycleEnd peerActive).net.extDes = none ∧
    (L.pwr.phase = 0 → L.net.state = .active → (L.devs L.net.devNow).length < 2 →
      (L.cycleEnd peerActive).net.lowSync = L.net.lowSync + 1 ∧ (L.cycleEnd peerActive).net.state = .active) ∧
    (L.pwr.phase ≠ 0 → (L.cycleEnd peerActive).net.state = .halt) := by
  obtain ⟨synced, next, heq⟩ := L.exists_cycleEnd_eq peerActive
  have hcounted := L.cycleCounted_cycleDataKept
  have hcorrected := hcounted.trans (L.cycleCounted.cycleCorrected_cycleDataKept peerActive)
  have htimed : L.CycleDataKept ((L.cycleCounted.cycleCorrected peerActive).cycleTimed synced next) :=
    ⟨by rw [Lane.cycleTimed_net, hcorrected.cycleNow], by rw [Lane.cycleTimed_net, hcorrected.devNow],
      by rw [Lane.cycleTimed_pwr, hcorrected.pwr]⟩
  have hhalted := htimed.trans (Lane.cycleHalted_cycleDataKept _)
  rw [heq]
  refine ⟨congrArg (· + 1) hhalted.cycleNow, rfl, hhalted.devNow, rfl, fun hphase hactive hfew => ?_, fun hphase => ?_⟩
  · obtain ⟨hlow, hstate⟩ := Lane.cycleCorrected_of_few (L.cycleCounted_state.trans hactive)
      (by rw [L.cycleCounted_devs, hcounted.devNow]; exact hfew) peerActive
    rw [Lane.cycleHalted, if_pos (by rw [htimed.pwr, hphase])]
    simp only [Lane.nextCycle, Lane.cycleTimed_net]
    exact ⟨hlow.trans (Lane.cycleCounted_lowSync hactive hfew), hstate⟩
  · rw [Lane.cycleHalted, if_neg (by rw [htimed.pwr]; exact hphase)]
    rfl

/-! ### The commands (R266, R276, R277) -/

section
variable {s : State} {l : LaneId}

theorem exec_networkCycleEnd_of_alive (h : (s.lane l).alive = true) :
    exec (.networkCycleEnd l) s = .next (s.on l fun L => L.cycleEnd (s.peerActive l)) :=
  State.next_on_of_holds (c := fun L => L.alive = true) h

theorem exec_networkCycleEnd_of_dead (h : (s.lane l).alive = false) : exec (.networkCycleEnd l) s = .next s :=
  State.next_on_of_fails (c := fun L => L.alive = true) (by simp [h])

/-- The node has run too many cycles on too few sync values (R266). -/
def Lane.syncLost (L : Lane) : Prop := L.net.state = .active ∧ L.sched 0x4800 0x15 ≤ L.net.lowSync

theorem exec_syncLoss_of_lost (h : (s.lane l).syncLost) :
    exec (.syncLoss l) s = .next (s.on l fun L => L.listen.raise 0x4FC4 0) :=
  congrArg Host.Outcome.next (s.on_congr l (if_pos h))

theorem exec_syncLoss_of_synced (h : ¬(s.lane l).syncLost) : exec (.syncLoss l) s = .next s :=
  congrArg Host.Outcome.next (s.on_id l (if_neg h))

theorem exec_channelLost_of_silent {ch : Chan} (h : (s.lane l).net.state = .active ∧
    3 ≤ ((s.lane l).net.ch ch).lostRun ∧ ((s.lane l).net.ch ch).lost = false) :
    exec (.channelLost l ch) s = .next (s.on l fun L =>
      (L.onCh ch fun c => { c with lost := true }).raise (if ch = .X then 0x4001 else 0x4041) 0) := by
  have hcode : tsCode (chanNum ch) 1 = if ch = .X then 0x4001 else 0x4041 := by cases ch <;> rfl
  rw [← hcode]
  exact congrArg Host.Outcome.next (s.on_congr l (if_pos h))

theorem exec_channelLost_of_none {ch : Chan} (h : (s.lane l).net.state ≠ .active ∨
    ((s.lane l).net.ch ch).lostRun < 3 ∨ ((s.lane l).net.ch ch).lost = true) :
    exec (.channelLost l ch) s = .next s :=
  congrArg Host.Outcome.next (s.on_id l (if_neg fun ⟨hactive, hrun, hlost⟩ =>
    h.elim (· hactive) fun h => h.elim hrun.not_gt (by simp [hlost])))

theorem exec_channelRestored_of_heard {ch : Chan} (hlost : ((s.lane l).net.ch ch).lost = true)
    (hrun : 3 ≤ ((s.lane l).net.ch ch).okRun) :
    exec (.channelRestored l ch) s = .next (s.on l fun L => L.onCh ch fun c => { c with lost := false }) :=
  congrArg Host.Outcome.next (s.on_congr l (if_pos ⟨hlost, hrun⟩))

theorem exec_channelRestored_of_none {ch : Chan} (h : ((s.lane l).net.ch ch).lost = false ∨
    ((s.lane l).net.ch ch).okRun < 3) : exec (.channelRestored l ch) s = .next s :=
  congrArg Host.Outcome.next (s.on_id l (if_neg fun ⟨hlost, hrun⟩ => h.elim (by simp [hlost]) hrun.not_gt))

theorem exec_networkLost_of_silent (hrun : 3 ≤ (s.lane l).net.netBad) (hlost : (s.lane l).net.netLost = false) :
    exec (.networkLost l) s = .next (s.on l fun L =>
      ({ L with net := { L.net with netLost := true } } : Lane).raise 0x4FC2 2) :=
  congrArg Host.Outcome.next (s.on_congr l (if_pos ⟨hrun, hlost⟩))

theorem exec_networkLost_of_none (h : (s.lane l).net.netBad < 3 ∨ (s.lane l).net.netLost = true) :
    exec (.networkLost l) s = .next s :=
  congrArg Host.Outcome.next (s.on_id l (if_neg fun ⟨hrun, hlost⟩ => h.elim hrun.not_gt (by simp [hlost])))

theorem exec_networkRestored_of_heard (hlost : (s.lane l).net.netLost = true) (hrun : 3 ≤ (s.lane l).net.netGood) :
    exec (.networkRestored l) s = .next (s.on l fun L => { L with net := { L.net with netLost := false } }) :=
  congrArg Host.Outcome.next (s.on_congr l (if_pos ⟨hlost, hrun⟩))

theorem exec_networkRestored_of_none (h : (s.lane l).net.netLost = false ∨ (s.lane l).net.netGood < 3) :
    exec (.networkRestored l) s = .next s :=
  congrArg Host.Outcome.next (s.on_id l (if_neg fun ⟨hlost, hrun⟩ => h.elim (by simp [hlost]) hrun.not_gt))

end

/-! ### The statement -/

/-- Settles O31: the cycle's end counts and passes on, and each loss or return acts on a complete run alone (R240, R266,
R276, R277, R450). -/
theorem networkCycleAndLoss : Obligations.NetworkCycleAndLoss := fun s l => by
  refine ⟨fun halive => ⟨_, exec_networkCycleEnd_of_alive halive, s.onlyLane_on l _, ?_⟩, exec_networkCycleEnd_of_dead,
    fun hactive hlow => ⟨_, exec_syncLoss_of_lost ⟨hactive, hlow⟩, s.onlyLane_on l _, ?_⟩,
    fun h => exec_syncLoss_of_synced ?_,
    fun ch => ⟨fun hactive hrun hlost => exec_channelLost_of_silent ⟨hactive, hrun, hlost⟩, exec_channelLost_of_none⟩,
    fun ch => ⟨exec_channelRestored_of_heard, exec_channelRestored_of_none⟩, exec_networkLost_of_silent,
    exec_networkLost_of_none, exec_networkRestored_of_heard, exec_networkRestored_of_none⟩
  · rw [State.lane_on_same]
    obtain ⟨hcycle, hdevs, heven, hext, hfew, hhalt⟩ := (s.lane l).cycleEnd_result (s.peerActive l)
    exact ⟨hcycle, hdevs, heven, hext, hfew, hhalt, (Lane.cycleEnd_voteKept ..).2⟩
  · rw [State.lane_on_same]
    exact ⟨rfl, Lane.raise_last .., rfl, rfl⟩
  · rintro ⟨hactive, hlow⟩
    rcases h with h | h
    · exact h hactive
    · omega

end Sys2Proof.Machine
end

section
/-! PROOFS, cold start and the comparison with a peer. -/
namespace Sys2Proof.Machine

section
variable {s : State} {l : LaneId}

/-! ### LISTEN_TIMEOUT (R260, R267) -/

/-- The lane leads a cold start, and sends from the next cycle of its own network time on. -/
def Lane.leadStart (L : Lane) : Lane :=
  let c := (L.nodeTime L.tb.ns).toNat / (max 1 (L.cycleLen * 1000))
  let M : Lane := { L with net := { L.net with
    startups := satInc L.net.startups, leader := true, cycleNow := c, csFrom := c + 1, devNow := [], devEven := [] } }
  M.setNode .coldstart

/-- A listening cold-start node that R267 lets lead. -/
def State.startsCold (s : State) (l : LaneId) (L : Lane) : Bool :=
  L.net.state == .listen && L.nodeRole 1 && !(L.nodeRole 2) && !L.net.backoff && !L.net.barred && s.leadAllowed l

theorem exec_listenTimeout_of_leading (h : s.startsCold l (s.lane l) = true) :
    exec (.listenTimeout l) s = .next (s.on l Lane.leadStart) :=
  State.next_on_of_holds (c := fun L => s.startsCold l L = true) h

theorem exec_listenTimeout_of_waiting (h : s.startsCold l (s.lane l) = false) :
    exec (.listenTimeout l) s = .next s :=
  State.next_on_of_fails (c := fun L => s.startsCold l L = true) (f := Lane.leadStart) (by simp [h])

/-! ### An attempt given up or completed (R261, R263, R268) -/

/-- An attempt given up: LISTEN with a backoff, recorded (R261, R263). -/
theorem Lane.abandonCold_result (L : Lane) : L.abandonCold.net.state = .listen ∧ L.abandonCold.net.backoff = true ∧
    L.abandonCold.net.leader = false ∧ L.abandonCold.flog.last = 0x4005 :=
  ⟨rfl, rfl, rfl, Lane.raise_last ..⟩

/-- The collision counted, and the transmission ended with it (R261). -/
def Lane.collided (L : Lane) : Lane :=
  { L with net := { L.net with
    collisions := satInc L.net.collisions, lastTx := L.net.lastTx.map fun x => { x with cut := true } } }

theorem exec_coldstartCollision_of_starting (h : (s.lane l).net.state = .coldstart) :
    exec (.coldstartCollision l) s = .next (s.on l fun L => L.collided.abandonCold) :=
  State.next_on_of_holds (c := fun L => L.net.state = .coldstart) h

theorem exec_coldstartCollision_of_other (h : (s.lane l).net.state ≠ .coldstart) :
    exec (.coldstartCollision l) s = .next s :=
  State.next_on_of_fails (c := fun L => L.net.state = .coldstart) h

theorem Lane.collided_cut (L : Lane) {x : TxSent} (h : L.collided.abandonCold.net.lastTx = some x) : x.cut = true := by
  have h : L.net.lastTx.map (fun x => { x with cut := true }) = some x := h
  obtain ⟨y, -, rfl⟩ := Option.map_eq_some_iff.1 h
  rfl

/-- ACTIVE, with network time slewing to the cluster counter (R290). -/
theorem Lane.activate_result (L : Lane) : L.activate.net.state = .active ∧ L.activate.tb.cluster = none := by
  refine ⟨rfl, ?_⟩
  unfold Lane.activate
  dsimp only
  split
  · rfl
  · assumption

/-- The count of a cycle of the attempt goes on (R263). -/
def Lane.coldCounted (L : Lane) : Lane :=
  { L with net := { L.net with
    csConfirm := (if L.net.csSeen then L.net.csConfirm + 1 else 0), csCycles := L.net.csCycles + 1, csSeen := false } }

/-- A second confirmed cycle ends the attempt, unless a peer's time is still to be compared (R263, R268). -/
def State.confirms (s : State) (l : LaneId) (L : Lane) : Prop :=
  2 ≤ L.coldCounted.net.csConfirm ∧ (s.peerActive l = false ∨ L.net.peerOk = true)

theorem State.not_confirms (h : (s.lane l).net.csSeen = false ∨ (s.lane l).net.csConfirm = 0 ∨
    s.peerActive l = true ∧ (s.lane l).net.peerOk = false) : ¬ s.confirms l (s.lane l) := by
  rintro ⟨hcount, hpeer⟩
  simp only [Lane.coldCounted] at hcount
  rcases h with hseen | hfirst | ⟨hactive, hok⟩
  · rw [if_neg (by simp [hseen])] at hcount
    omega
  · split at hcount <;> omega
  · simp [hactive, hok] at hpeer

theorem exec_coldstartCycleEnd_of_confirmed (hcold : (s.lane l).net.state = .coldstart)
    (h : s.confirms l (s.lane l)) : exec (.coldstartCycleEnd l) s = .next (s.on l Lane.activate) :=
  congrArg Host.Outcome.next (s.on_congr l ((if_pos hcold).trans (if_pos h)))

theorem exec_coldstartCycleEnd_of_going_on (hcold : (s.lane l).net.state = .coldstart)
    (h : ¬ s.confirms l (s.lane l)) (hcycles : (s.lane l).net.csCycles < 7) :
    exec (.coldstartCycleEnd l) s = .next (s.on l Lane.coldCounted) :=
  congrArg Host.Outcome.next (s.on_congr l
    ((if_pos hcold).trans ((if_neg h).trans (if_neg (by omega)))))

theorem exec_coldstartCycleEnd_of_eighth (hcold : (s.lane l).net.state = .coldstart)
    (h : ¬ s.confirms l (s.lane l)) (hcycles : 7 ≤ (s.lane l).net.csCycles) :
    exec (.coldstartCycleEnd l) s = .next (s.on l Lane.abandonCold) :=
  congrArg Host.Outcome.next (s.on_congr l
    ((if_pos hcold).trans ((if_neg h).trans (if_pos (by omega)))))

theorem exec_coldstartCycleEnd_of_other (h : (s.lane l).net.state ≠ .coldstart) :
    exec (.coldstartCycleEnd l) s = .next s :=
  congrArg Host.Outcome.next (s.on_id l (if_neg h))

end

/-! ### A read of a peer's time (R267, R268, R289, R290) -/

@[simp] theorem Lane.setTime_net (L : Lane) (ns : Nat) : (L.setTime ns).net = L.net := rfl

@[simp] theorem Lane.validate_net (L : Lane) (synced : Bool) (unc : Nat) : (L.validate synced unc).net = L.net := by
  unfold Lane.validate
  split_ifs
  · rfl
  · rfl
  · rfl

/-- A listening lane that took a peer's time may lead, and listens on (R267). -/
theorem Lane.takePeerTime_net (L src : Lane) (t unc : Nat) :
    (L.takePeerTime src t unc).net = { L.net with mayLead := true, peerOk := true } := by
  unfold Lane.takePeerTime
  dsimp only
  split_ifs
  · rfl
  · rw [Lane.validate_net]
    rfl
  · rfl

theorem Lane.comparePeer_of_near {L : Lane} {t : Nat} (h : (L.nodeTime L.tb.ns - (t : Int)).natAbs ≤ 5000) :
    L.comparePeer t = { L with net := { L.net with peerOk := true } } :=
  if_pos h

/-- A mismatch returns the node to LISTEN, barred (R268). -/
theorem Lane.comparePeer_of_far {L : Lane} {t : Nat} (h : 5000 < (L.nodeTime L.tb.ns - (t : Int)).natAbs) :
    (L.comparePeer t).net.state = .listen ∧ (L.comparePeer t).net.timeMism = true ∧
      (L.comparePeer t).net.barred = true ∧ (L.comparePeer t).flog.last = 0x4FC6 := by
  rw [Lane.comparePeer, if_neg (not_le.2 h)]
  exact ⟨rfl, rfl, rfl, Lane.raise_last ..⟩

/-- What a read that counts does, by the node's state. -/
def Lane.peerRead (L src : Lane) (t unc : Nat) : Lane :=
  match L.net.state with
  | .listen => if L.net.barred then L else L.takePeerTime src t unc
  | .integrate | .mute | .coldstart => L.comparePeer t
  | _ => L

section
variable {L : Lane}

theorem Lane.peerRead_listen (h : L.net.state = .listen) (hbarred : L.net.barred = false) (src : Lane) (t unc : Nat) :
    L.peerRead src t unc = L.takePeerTime src t unc := by
  simp [Lane.peerRead, h, hbarred]

theorem Lane.peerRead_compares (h : L.net.state = .integrate ∨ L.net.state = .mute ∨ L.net.state = .coldstart)
    (src : Lane) (t unc : Nat) : L.peerRead src t unc = L.comparePeer t := by
  rcases h with h | h | h <;> simp [Lane.peerRead, h]

end

section
variable {s : State} {l src : LaneId} {rtt : Nat}

theorem exec_peerTimeRead_of_counting (halive : (s.lane l).alive = true) (hfirst : s.firstActive l = some src)
    (hrtt : rtt ≤ 20000) (ns : Nat) : ∃ unc, exec (.peerTimeRead l src rtt ns) s =
      .next (s.onDrawing l fun L => L.peerRead (s.lane src) (ns + rtt / 2) unc) :=
  ⟨_, if_pos (by simp [halive, hfirst, hrtt])⟩

theorem exec_peerTimeRead_of_not_counting
    (h : (s.lane l).alive = false ∨ s.firstActive l ≠ some src ∨ 20000 < rtt) (ns : Nat) :
    exec (.peerTimeRead l src rtt ns) s = .next s :=
  if_neg (by rcases h with h | h | h <;> simp [h])

end

/-! ### The statement -/

/-- Settles O32: who may lead starts, two confirmed cycles end an attempt well and a collision or eight cycles badly,
and a peer's time is taken in LISTEN and compared in the attempt (R260, R261, R263, R267, R268). -/
theorem coldStart : Obligations.ColdStart := by
  refine ⟨fun s l => ⟨fun hlisten hstart hfollow hbackoff hbarred hlead => ?_, fun h => ?_,
    fun hcold => ⟨?_, fun hseen hconfirm hpeer => ?_, fun h => ⟨?_, fun hcycles => ?_⟩⟩,
    fun h => ⟨exec_coldstartCollision_of_other h, exec_coldstartCycleEnd_of_other h⟩, rfl, rfl⟩,
    fun s l src rtt ns => ⟨fun halive hfirst hrtt => ?_, fun h => exec_peerTimeRead_of_not_counting h ns⟩⟩
  · refine ⟨_, exec_listenTimeout_of_leading ?_, s.onlyLane_on l _, ?_⟩
    · simp [State.startsCold, hlisten, hstart, hfollow, hbackoff, hbarred, hlead]
    · rw [State.lane_on_same]
      exact ⟨rfl, rfl, rfl, rfl, rfl⟩
  · refine exec_listenTimeout_of_waiting ?_
    rcases h with h | h | h | h | h | h <;> simp [State.startsCold, h]
  · refine ⟨_, exec_coldstartCollision_of_starting hcold, s.onlyLane_on l _, ?_⟩
    rw [State.lane_on_same]
    obtain ⟨hstate, hbackoff, hleader, hlast⟩ := (s.lane l).collided.abandonCold_result
    exact ⟨hstate, hbackoff, hleader, fun x hx => Lane.collided_cut _ hx, rfl, hlast⟩
  · have hconfirms : s.confirms l (s.lane l) := ⟨by simp only [Lane.coldCounted, hseen, if_true]; omega, hpeer⟩
    refine ⟨_, exec_coldstartCycleEnd_of_confirmed hcold hconfirms, s.onlyLane_on l _, ?_⟩
    rw [State.lane_on_same]
    obtain ⟨hstate, hcluster⟩ := (s.lane l).activate_result
    exact ⟨hstate, hcluster, (Lane.activate_voteKept _).2⟩
  · exact exec_coldstartCycleEnd_of_going_on hcold (State.not_confirms h)
  · refine ⟨_, exec_coldstartCycleEnd_of_eighth hcold (State.not_confirms h) hcycles, s.onlyLane_on l _, ?_⟩
    rw [State.lane_on_same]
    obtain ⟨hstate, hbackoff, -, hlast⟩ := (s.lane l).abandonCold_result
    exact ⟨hstate, hbackoff, hlast⟩
  · obtain ⟨unc, hexec⟩ := exec_peerTimeRead_of_counting halive hfirst hrtt ns
    refine ⟨fun hlisten hbarred => ⟨_, hexec, rfl, fun p hp => s.lane_onDrawing_ne _ hp, ?_⟩, fun hstate =>
      ⟨fun hnear => ⟨_, hexec, rfl, fun p hp => s.lane_onDrawing_ne _ hp, ?_⟩,
        fun hfar => ⟨_, hexec, rfl, fun p hp => s.lane_onDrawing_ne _ hp, ?_⟩⟩⟩
    · rw [State.lane_onDrawing_same, Lane.peerRead_listen hlisten hbarred, Lane.takePeerTime_net]
      exact ⟨rfl, hlisten, (Lane.takePeerTime_voteKept ..).2⟩
    · rw [State.lane_onDrawing_same, Lane.peerRead_compares hstate, Lane.comparePeer_of_near hnear]
    · rw [State.lane_onDrawing_same, Lane.peerRead_compares hstate]
      exact Lane.comparePeer_of_far hfar

end Sys2Proof.Machine
end

section
/-! PROOFS, the increment of the time base and its ticks. -/
namespace Sys2Proof.Machine

/-- The increment stays within 1.75 to 2.25 ns, whatever the slew asks (R287, R288). -/
theorem TimeBase.inc_bounds (t : TimeBase) : 0x1C0000000 ≤ t.inc ∧ t.inc ≤ 0x240000000 := by
  unfold TimeBase.inc
  dsimp only
  omega

/-- A tick adds exactly the increment to nanoseconds and fraction (R285). -/
theorem TimeBase.tick_count (t : TimeBase) :
    t.tick.ns * 4294967296 + t.tick.frac.toNat = t.ns * 4294967296 + t.frac.toNat + t.inc := by
  simp only [TimeBase.tick, BitVec.toNat_ofNat]
  omega

/-- An increment of more than 1 ns carries into the nanoseconds at every tick. -/
theorem TimeBase.ns_lt_tick (t : TimeBase) : t.ns < t.tick.ns := by
  have hinc := t.inc_bounds.1
  show t.ns < t.ns + (t.frac.toNat + t.inc) / 4294967296
  omega

theorem Lane.tick_tb_of_running {L : Lane} (h : L.clk.netLock = true) : L.tick.tb = L.tb.tick := by
  rw [Lane.tick, if_pos h]

/-- A lane whose network clock stands keeps its time (R453). -/
theorem Lane.tick_ns_of_standing {L : Lane} (h : L.clk.netLock = false) : L.tick.tb.ns = L.tb.ns := by
  rw [Lane.tick, if_neg (by simp [h])]

@[simp] theorem Lane.tick_dict (L : Lane) : L.tick.dict = L.dict := by
  unfold Lane.tick
  split <;> rfl

theorem step_of_idle {s : State} (h : s.pending = []) : step s = .next s.tickAll := by
  rw [step, h]

/-- Settles O33: the bounds of the increment make the time of a running lane rise at every tick (R285, R287, R288). -/
theorem timeBaseTick : Obligations.TimeBaseTick := by
  refine ⟨TimeBase.inc_bounds, fun s hidle => ⟨s.tickAll, step_of_idle hidle, ⟨rfl, rfl, rfl⟩, fun l => ?_⟩⟩
  rw [State.tickAll, State.lane_onAll]
  refine ⟨fun hrun => ?_, Lane.tick_ns_of_standing, (Lane.tick_voteKept _).2, Lane.tick_dict _⟩
  rw [Lane.tick_tb_of_running hrun]
  exact ⟨TimeBase.tick_count _, TimeBase.ns_lt_tick _⟩

end Sys2Proof.Machine
end

section
/-! PROOFS, the uplink clock, the slew, the sleep record and the raise of a cycle point. -/
namespace Sys2Proof.Machine

section
variable {s : State} {l : LaneId}

/-! ### Writes that act on one lane (R347, R371) -/

section
variable {m : Master} {idx sub : Nat} {data : List Byte} {present : Lane → Bool}

/-- A write that passes its checks acts and is answered 0. -/
theorem State.next_write_of_ok (h : (s.lane l).writeErr m idx sub data (present (s.lane l)) false = none) (tid : Nat)
    (act : Lane → Lane) :
    (.next (s.on l fun L => L.write m tid idx sub data (present L) act) : Host.Outcome State Fault Refusal) =
      .next (s.on l fun L => (act (L.sbCount m idx)).answer m tid idx sub 0) :=
  congrArg _ (s.on_congr l (Lane.write_of_ok h tid act))

/-- A write that its checks refuse is answered with their code alone. -/
theorem State.next_write_of_err {e : W32}
    (h : (s.lane l).writeErr m idx sub data (present (s.lane l)) false = some e) (tid : Nat) (act : Lane → Lane) :
    (.next (s.on l fun L => L.write m tid idx sub data (present L) act) : Host.Outcome State Fault Refusal) =
      .next (s.on l fun L => L.answer m tid idx sub e) :=
  congrArg _ (s.on_congr l (Lane.write_of_err h tid act))

end

/-! ### GPTP_SYNC and its loss (R298, R300) -/

/-- A Sync of the grandmaster that the lane, with a link and no grandmaster itself, follows. -/
def Lane.follows (L : Lane) (g : SyncIn) : Bool := L.alive && L.upl.link && !L.upl.gmSelf && L.upl.gmSel == g.gm

theorem exec_gptpSync_of_followed {g : SyncIn} (h : (s.lane l).follows g = true) :
    ∃ unc, exec (.gptpSync l g) s = .next (s.onDrawing l fun L => L.takeSync g unc) :=
  ⟨_, if_pos h⟩

theorem exec_gptpSync_of_other {g : SyncIn} (h : (s.lane l).follows g = false) : exec (.gptpSync l g) s = .next s :=
  if_neg (ne_true_of_eq_false h)

/-- The first Sync sets an UNSET clock. -/
theorem Lane.takeSync_of_unset {L : Lane} (h : L.upl.state = .unset) (g : SyncIn) (unc : Nat) :
    L.takeSync g unc = { L with upl := { L.upl with
      offset := g.m, rate := 0, updNs := L.tb.ns, state := .synced, unc := unc } } :=
  if_pos h

/-- The uplink clock is tracked by the Sync of another clock, so that its loss leads to HOLDOVER. -/
def Lane.tracksSync (L : Lane) : Bool :=
  L.alive && !L.upl.gmSelf && (L.upl.state == .synced || L.upl.state == .candidate)

theorem exec_gptpSyncTimeout_of_tracked (h : (s.lane l).tracksSync = true) :
    exec (.gptpSyncTimeout l) s = .next (s.on l fun L =>
      ({ L with upl := { L.upl with state := .holdover, candCount := 0 } } : Lane).raise 0x5041 0) :=
  State.next_on_of_holds (c := fun L => L.tracksSync = true) h

theorem exec_gptpSyncTimeout_of_untracked (h : (s.lane l).tracksSync = false) :
    exec (.gptpSyncTimeout l) s = .next s :=
  State.next_on_of_fails (c := fun L => L.tracksSync = true) (ne_true_of_eq_false h)

/-! ### GPTP_ANNOUNCE and SYNC_TRANSMISSION (R295, R297) -/

/-- The lane's uplink port runs. -/
def Lane.onUplink (L : Lane) : Bool := L.alive && L.upl.link

/-- What a change of the selected grandmaster does in a lane whose uplink port runs. -/
def Lane.announced (L : Lane) (a : AnnounceIn) : Lane :=
  if a.self then
    if L.obj 0x2301 2 = 1 ∧ L.upl.gmSelf = false then
      { L with upl := { L.upl with
          gmSelf := true, gmSel := a.gm, rate := 0, updNs := L.tb.ns
          offset := if L.upl.state = .unset then 0 else L.uplOffsetNow } }
    else L
  else { L with upl := { L.upl with gmSelf := false, gmSel := a.gm } }

theorem exec_gptpAnnounce_of_linked (h : (s.lane l).onUplink = true) (a : AnnounceIn) :
    exec (.gptpAnnounce l a) s = .next (s.on l fun L => L.announced a) :=
  State.next_on_of_holds (c := fun L => L.onUplink = true) h

theorem exec_gptpAnnounce_of_unlinked (h : (s.lane l).onUplink = false) (a : AnnounceIn) :
    exec (.gptpAnnounce l a) s = .next s :=
  State.next_on_of_fails (c := fun L => L.onUplink = true) (f := fun L => L.announced a) (ne_true_of_eq_false h)

theorem exec_syncTransmission_of_grandmaster (h : ((s.lane l).onUplink && (s.lane l).upl.gmSelf) = true) :
    exec (.syncTransmission l) s = .next (s.on l fun L =>
      { L with upl := { L.upl with syncSent := L.upl.syncSent + 1 } }) :=
  State.next_on_of_holds (c := fun L => (L.onUplink && L.upl.gmSelf) = true) h

theorem exec_syncTransmission_of_other (h : ((s.lane l).onUplink && (s.lane l).upl.gmSelf) = false) :
    exec (.syncTransmission l) s = .next s :=
  State.next_on_of_fails (c := fun L => (L.onUplink && L.upl.gmSelf) = true) (ne_true_of_eq_false h)

/-! ### SLEW_END (R288) -/

/-- The lane with the rest of its slew added over the ticks that were left. -/
def Lane.slewDone (L : Lane) : Lane :=
  { L with tb := { L.tb with
      ns := ((L.tb.ns : Int) + ((2 * L.tb.slewTicks : Nat) : Int) + roundR L.tb.slewRem).toNat
      mono := L.tb.mono + 2 * L.tb.slewTicks, slewRem := 0, slewTicks := 0 } }

theorem exec_slewEnd_of_slewing (h : (s.lane l).tb.slewTicks ≠ 0) :
    exec (.slewEnd l) s = .next (s.on l Lane.slewDone) :=
  congrArg Host.Outcome.next (s.on_congr l (if_neg h))

theorem exec_slewEnd_of_none (h : (s.lane l).tb.slewTicks = 0) : exec (.slewEnd l) s = .next s :=
  congrArg Host.Outcome.next (s.on_id l (if_pos h))

/-! ### CYCLE_POINT_RAISE (R281, R282) -/

/-- Descriptor of a cycle point. -/
def Lane.cpDesc (L : Lane) (cp : Fin 8) : Nat := L.sched 0x4802 (cp.val + 1)

/-- A cycle point that raises nothing: no vote cycle, one of the cycle's own points, disabled or without an action. -/
def Lane.cpIdle (L : Lane) (cp : Fin 8) : Prop :=
  L.runs = false ∨ L.vote.running = false ∨ cp.val < 5 ∨ bit (L.cpDesc cp) 31 = false ∨ bits (L.cpDesc cp) 24 4 = 0

theorem exec_cyclePointRaise_of_idle {cp : Fin 8} (h : (s.lane l).cpIdle cp) (busy : Bool) :
    exec (.cyclePointRaise l cp busy) s = .next s :=
  congrArg Host.Outcome.next (s.on_id l (if_pos h))

/-- A raise whose task still runs is dropped and counted. -/
theorem exec_cyclePointRaise_of_busy {cp : Fin 8} (h : ¬ (s.lane l).cpIdle cp) :
    exec (.cyclePointRaise l cp true) s = .next (s.on l fun L =>
      let M := L.toPoint (bits (L.cpDesc cp) 0 16)
      ({ M with net := { M.net with cpOverrun := satInc M.net.cpOverrun } } : Lane).raise
        (0xA000 + cp.val * 0x40 + 8) 0) :=
  congrArg Host.Outcome.next (s.on_congr l (if_neg h))

/-- Action 1 is TX_COMMIT. -/
theorem exec_cyclePointRaise_of_txCommit {cp : Fin 8} (h : ¬ (s.lane l).cpIdle cp)
    (hact : bits ((s.lane l).cpDesc cp) 24 4 = 1) :
    exec (.cyclePointRaise l cp false) s = .next (s.on l fun L => (L.toPoint (bits (L.cpDesc cp) 0 16)).txCommit) :=
  congrArg Host.Outcome.next (s.on_congr l ((if_neg h).trans (if_pos hact)))

/-- TX_COMMIT fills every own buffer with the latest agreed outputs at the time of the raise (R281). -/
theorem Lane.txCommit_fills (L : Lane) {x : Chan × Nat × Nat} (h : x ∈ L.ownBufs) :
    ∃ b, b ∈ L.txCommit.net.txBufs ∧ b.buf = x.2.2 ∧ b.ready = true ∧ b.readyNs = L.tb.ns ∧ b.out = L.vote.latestOut :=
  ⟨_, List.mem_append_left _ (List.mem_map_of_mem h), rfl, rfl, rfl, rfl⟩

theorem Lane.toPoint_ownBufs (L : Lane) (us : Nat) : (L.toPoint us).ownBufs = L.ownBufs := by
  obtain ⟨t, ht⟩ := L.exists_toPoint us
  rw [ht]
  rfl

@[simp] theorem Lane.txCommit_tb (L : Lane) : L.txCommit.tb = L.tb := rfl
@[simp] theorem Lane.txCommit_flog (L : Lane) : L.txCommit.flog = L.flog := rfl

end

/-! ### The statement -/

/-- Settles O34: each row acts under its condition and leaves the module where that fails (R281, R282, R288, R295-R300,
R312). -/
theorem uplinkClock : Obligations.UplinkClock := by
  refine fun s l => ⟨fun g => ⟨fun halive hlink hself hgm hunset => ?_, fun h => exec_gptpSync_of_other ?_⟩,
    fun halive hself hstate => exec_gptpSyncTimeout_of_tracked ?_, fun h => exec_gptpSyncTimeout_of_untracked ?_,
    fun a => ⟨fun halive hlink => ?_, fun h => exec_gptpAnnounce_of_unlinked ?_ a⟩,
    fun halive hlink hself => exec_syncTransmission_of_grandmaster (by simp [Lane.onUplink, halive, hlink, hself]),
    fun h => exec_syncTransmission_of_other ?_,
    fun h => ⟨_, exec_slewEnd_of_slewing h, s.onlyLane_on l _, ?_⟩, exec_slewEnd_of_none, rfl,
    fun m tid data => ⟨fun h => State.next_write_of_ok (present := fun L => L.upl.state == .candidate) h tid _,
      fun e h => State.next_write_of_err (present := fun L => L.upl.state == .candidate) h tid _⟩,
    fun cp hruns hvote hcp hon hact => ?_, fun cp busy h => exec_cyclePointRaise_of_idle h busy⟩
  · obtain ⟨unc, hexec⟩ := exec_gptpSync_of_followed (l := l) (g := g) (s := s)
      (by simp [Lane.follows, halive, hlink, hself, hgm])
    refine ⟨_, hexec, rfl, fun p hp => s.lane_onDrawing_ne _ hp, ?_⟩
    rw [State.lane_onDrawing_same, Lane.takeSync_of_unset hunset]
    exact ⟨rfl, rfl, rfl, rfl, rfl⟩
  · rcases h with h | h | h | h <;> simp [Lane.follows, h]
  · rcases hstate with h | h <;> simp [Lane.tracksSync, halive, hself, h]
  · rcases h with h | h | ⟨hsynced, hcand⟩
    · simp [Lane.tracksSync, h]
    · simp [Lane.tracksSync, h]
    · simp [Lane.tracksSync, hsynced, hcand]
  · have hexec := exec_gptpAnnounce_of_linked (s := s) (l := l) (by simp [Lane.onUplink, halive, hlink]) a
    refine ⟨fun hother => hexec.trans (congrArg _ (s.on_congr l ?_)),
      fun hself hcap hfree => hexec.trans (congrArg _ (s.on_congr l ?_)),
      fun hself hno => hexec.trans (congrArg _ (s.on_id l ?_))⟩
    · exact if_neg (ne_true_of_eq_false hother)
    · exact (if_pos hself).trans (if_pos ⟨hcap, hfree⟩)
    · exact (if_pos hself).trans (if_neg fun ⟨hcap, hfree⟩ => hno.elim (· hcap) fun hgm => by simp [hgm] at hfree)
  · rcases h with h | h <;> simp [Lane.onUplink, h]
  · rcases h with h | h | h <;> simp [Lane.onUplink, h]
  · rw [State.lane_on_same]
    exact ⟨rfl, rfl, rfl, rfl, rfl⟩
  · have hraise : ¬ (s.lane l).cpIdle cp := by
      rintro (h | h | h | h | h)
      · simp [h] at hruns
      · simp [h] at hvote
      · omega
      · rw [Lane.cpDesc, hon] at h
        cases h
      · exact hact h
    refine ⟨⟨_, exec_cyclePointRaise_of_busy hraise, s.onlyLane_on l _, ?_⟩,
      fun htx => ⟨_, exec_cyclePointRaise_of_txCommit hraise htx, s.onlyLane_on l _, ?_⟩⟩
    · rw [State.lane_on_same]
      exact ⟨by rw [Lane.raise_net, Lane.toPoint_net], Lane.raise_last .., by rw [Lane.raise_ct]; exact Lane.toPoint_ct ..⟩
    · rw [State.lane_on_same]
      refine ⟨fun x hx => ?_, ?_, ?_⟩
      · rw [← Lane.toPoint_ownBufs] at hx
        have hfill := Lane.txCommit_fills _ hx
        rwa [Lane.toPoint_vote] at hfill
      · rw [(Lane.txCommit_voteKept _).2, Lane.toPoint_vote]
      · rw [Lane.txCommit_flog, Lane.toPoint_flog]

end Sys2Proof.Machine
end

section
/-! PROOFS, timed actions and timestamp queues. -/
namespace Sys2Proof.Machine

/-! ### TA_SUBMIT (R305, R306, R310) -/

theorem Lane.taSubmit_of_outOfRange {L : Lane} {r : Nat} (h : recordOk L.tb.ns r = false) (m : Master) (lineNs : Nat) :
    L.taSubmit m r lineNs = L.taEnd m 0xFF 5 :=
  if_pos h

/-- A capture in its ranges that leaves its lead time is queued in the lowest free entry (log entry 84). -/
theorem Lane.taSubmit_of_capture {L : Lane} {r k due : Nat} (hok : recordOk L.tb.ns r = true) (hkind : bits r 80 8 = 2)
    (hslot : L.ta.freeSlot 0 88 = some k) (hdue : time80 (bits r 0 80) = some due) (hlead : L.tb.ns + 1000 ≤ due)
    (m : Master) (lineNs : Nat) :
    L.taSubmit m r lineNs = L.taQueue m k
      { kind := 2, dueNs := due, tag := BitVec.ofNat 16 (bits r 96 16), arg := bits r 112 8, tsreq := bit r 120,
        lineNs := lineNs } := by
  have hintime : ¬ due < L.tb.ns + leadNs 2 := not_lt.2 hlead
  simp [Lane.taSubmit, hok, hslot, hkind, hdue, hintime]

section
variable {s : State} {l : LaneId} {m : Master} {data : List Byte}

theorem exec_taSubmit_of_err {e : W32} (h : (s.lane l).writeErr m 0x2310 1 data true false = some e)
    (tid lineNs : Nat) :
    exec (.taSubmit l m tid data lineNs) s = .next (s.on l fun L => L.answer m tid 0x2310 1 e) :=
  congrArg Host.Outcome.next (s.on_congr l (by simp only [h]))

theorem exec_taSubmit_of_busy (h : (s.lane l).writeErr m 0x2310 1 data true false = none)
    (hbusy : (s.lane l).ta.result.busy m = true) (tid lineNs : Nat) :
    exec (.taSubmit l m tid data lineNs) s = .next (s.on l fun L => L.answer m tid 0x2310 1 eBusy) :=
  congrArg Host.Outcome.next (s.on_congr l (by simp only [h, hbusy, if_true]))

theorem exec_taSubmit_of_accepted (h : (s.lane l).writeErr m 0x2310 1 data true false = none)
    (hbusy : (s.lane l).ta.result.busy m = false) (tid lineNs : Nat) :
    exec (.taSubmit l m tid data lineNs) s = .next (s.on l fun L =>
      ((L.sbCount m 0x2310).taSubmit m (ofBytes data) lineNs).answer m tid 0x2310 1 0) :=
  congrArg Host.Outcome.next (s.on_congr l (by simp only [h, hbusy, Bool.false_eq_true, if_false]))

end

/-! ### TA_CANCEL (R309) -/

/-- A cancel ends the later entries of its master and tag, and no other. -/
theorem Ta.mem_cancelTag (t : Ta) (m : Master) (tag : W16) (now : Nat) (e : TaEntry) :
    e ∈ (t.cancelTag m tag now).entries ↔ e ∈ t.entries ∧ ¬(e.owner = some m ∧ e.tag = tag ∧ now < e.dueNs) := by
  simp only [Ta.cancelTag, List.mem_filter, Bool.not_eq_true', ← Bool.not_eq_true, Bool.and_eq_true, beq_iff_eq,
    decide_eq_true_eq, and_assoc]

/-! ### TIMED_ACTION_DUE (R307, R308, R310) -/

theorem exec_timedActionDue_of_entry {s : State} {l : LaneId} {slot : Nat} {e : TaEntry}
    (h : (s.lane l).ta.entries.find? (fun x => x.slot == slot) = some e) (full : Bool) :
    exec (.timedActionDue l slot full) s = .next (s.on l fun L => L.taRun e full) :=
  congrArg Host.Outcome.next (s.on_congr l (by simp only [h]))

theorem exec_timedActionDue_of_none {s : State} {l : LaneId} {slot : Nat}
    (h : (s.lane l).ta.entries.find? (fun x => x.slot == slot) = none) (full : Bool) :
    exec (.timedActionDue l slot full) s = .next s :=
  congrArg Host.Outcome.next (s.on_id l (by simp only [h]))

/-- The lane at the time of an entry that falls due, which has left the queue. -/
def Lane.taTaken (L : Lane) (e : TaEntry) : Lane :=
  let M := L.advance e.dueNs
  { M with ta := { M.ta with entries := M.ta.entries.filter fun x => x.slot != e.slot } }

theorem Lane.taTaken_ta (L : Lane) (e : TaEntry) :
    (L.taTaken e).ta = { L.ta with entries := L.ta.entries.filter fun x => x.slot != e.slot } := by
  rw [Lane.taTaken, Lane.advance_ta]

theorem Lane.taTaken_ns (L : Lane) (e : TaEntry) : (L.taTaken e).tb.ns = max L.tb.ns e.dueNs := L.advance_ns e.dueNs

@[simp] theorem Lane.taTaken_flog (L : Lane) (e : TaEntry) : (L.taTaken e).flog = L.flog := L.advance_flog e.dueNs

@[simp] theorem Lane.taTaken_upl (L : Lane) (e : TaEntry) : (L.taTaken e).upl = L.upl := L.advance_upl e.dueNs

/-- An entry in time acts, and its outcome goes into the pending result of its master. -/
theorem Lane.taRun_of_pending {L M : Lane} {e : TaEntry} {full : Bool} {m : Master} {outcome : Nat}
    (hact : (L.taTaken e).taAct e full = (M, outcome)) (hintime : outcome ≠ 2) (howner : e.owner = some m)
    (hresult : M.ta.result = L.ta.result) (hbusy : L.ta.result.busy m = true) :
    L.taRun e full =
      { M with ta := { M.ta with result := L.ta.result.finish m (taPayload e.slot outcome) } } := by
  rw [← hresult] at hbusy ⊢
  rw [Lane.taTaken] at hact
  simp only [Lane.taRun, hact, if_neg hintime, howner]
  exact if_pos hbusy

theorem Lane.stamp_ta (L : Lane) (q : TsqId) (tag : Nat) (late : Bool) : (L.stamp q tag late).ta = L.ta := by
  unfold Lane.stamp
  dsimp only
  split <;> rfl

theorem Lane.taAct_capture {L : Lane} {e : TaEntry} (hkind : e.kind = 2) (hlate : e.late = false) (full : Bool) :
    L.taAct e full = (L.captureAll e.dueNs, 1) := by
  simp [Lane.taAct, hkind, hlate]

/-- A launch with a frame records its tag, whether it asks for a stamp or not (R307). -/
theorem Lane.exists_taAct_launch {L : Lane} {e : TaEntry} (hkind : e.kind = 1) (hlate : e.late = false)
    (hlink : L.upl.link = true) :
    ∃ M, L.taAct e true = (M, 1) ∧ M.ta = { L.ta with launched := e.tag.toNat :: L.ta.launched } := by
  cases hreq : e.tsreq with
  | false => exact ⟨_, by simp [Lane.taAct, hkind, hlate, hlink, hreq]; rfl, rfl⟩
  | true => exact ⟨_, by simp [Lane.taAct, hkind, hlate, hlink, hreq]; rfl, by rw [Lane.stamp_ta]⟩

/-- A launch without a frame, or without a link, is a fault with OUTCOME 9 (R307). -/
theorem Lane.taAct_unlaunched {L : Lane} {e : TaEntry} {full : Bool} (hkind : e.kind = 1)
    (hnone : full = false ∨ L.upl.link = false) : L.taAct e full = (L.raise 0x50C4 0 0 e.tag.toNat, 9) := by
  rcases hnone with h | h <;> simp [Lane.taAct, hkind, h]

/-! ### TSQ_POP (R304) -/

theorem Tsq.get_set (t : Tsq) (q r : TsqId) (v : Queue) : (t.set q v).get r = if r = q then v else t.get r := by
  cases q <;> cases r <;> rfl

/-- The head of a queue has the tag written. -/
def Queue.headTagged (c : Queue) (data : List Byte) : Bool :=
  match c.items with
  | [] => false
  | h :: _ => h.tag.toNat == ofBytes data

/-- The lane without the head of a queue. -/
def Lane.popHead (L : Lane) (q : TsqId) : Lane :=
  { L with tsq := L.tsq.set q { L.tsq.get q with items := (L.tsq.get q).items.tail } }

theorem exec_tsqPop (s : State) (l : LaneId) (m : Master) (tid : Nat) (q : TsqId) (data : List Byte) :
    exec (.tsqPop l m tid q data) s = .next (s.on l fun L =>
      L.write m tid (tsqIdx q) 2 data ((L.tsq.get q).headTagged data) fun L => L.popHead q) := rfl

section
variable {s : State} {l : LaneId} {m : Master} {q : TsqId} {data : List Byte}

theorem exec_tsqPop_of_tagged (htag : ((s.lane l).tsq.get q).headTagged data = true)
    (h : (s.lane l).writeErr m (tsqIdx q) 2 data true false = none) (tid : Nat) :
    exec (.tsqPop l m tid q data) s = .next (s.on l fun L =>
      ((L.sbCount m (tsqIdx q)).popHead q).answer m tid (tsqIdx q) 2 0) :=
  (exec_tsqPop s l m tid q data).trans
    (State.next_write_of_ok (present := fun L => (L.tsq.get q).headTagged data) (by rwa [htag]) tid _)

theorem exec_tsqPop_of_untagged {e : W32} (htag : ((s.lane l).tsq.get q).headTagged data = false)
    (h : (s.lane l).writeErr m (tsqIdx q) 2 data false false = some e) (tid : Nat) :
    exec (.tsqPop l m tid q data) s = .next (s.on l fun L => L.answer m tid (tsqIdx q) 2 e) :=
  (exec_tsqPop s l m tid q data).trans
    (State.next_write_of_err (present := fun L => (L.tsq.get q).headTagged data) (by rwa [htag]) tid _)

end

/-! ### The statement -/

/-- Settles O35: a record is queued, ended or busy, a due entry acts once and its outcome reaches its master, a cancel
and a pop take what carries their tag (R304-R310, R368, R369). -/
theorem timedActions : Obligations.TimedActions := by
  refine fun s l m tid data => ⟨fun lineNs e h => exec_taSubmit_of_err h tid lineNs,
    fun lineNs k due h hbusy hok hkind hslot hdue hlead => ?_, fun lineNs h hbusy hbad => ?_,
    fun lineNs h hbusy => exec_taSubmit_of_busy h hbusy tid lineNs, fun h => ?_,
    fun e h => State.next_write_of_err (present := fun _ => true) h tid _,
    fun e full hfind hlate howner hbusy => ?_, fun slot full h => exec_timedActionDue_of_none h full,
    fun q h rest hitems => ⟨fun htag hok => ?_, fun htag e herr => exec_tsqPop_of_untagged ?_ herr tid⟩,
    fun q e hitems herr => exec_tsqPop_of_untagged (by simp [Queue.headTagged, hitems]) herr tid⟩
  · refine ⟨_, exec_taSubmit_of_accepted h hbusy tid lineNs, s.onlyLane_on l _, ?_⟩
    rw [State.lane_on_same, Lane.answer_ta, Lane.answer_vote, (Lane.taSubmit_voteKept ..).2, Lane.sbCount_vote,
      Lane.taSubmit_of_capture (k := k) (due := due) (by rwa [Lane.sbCount_tb]) hkind (by rwa [Lane.sbCount_ta]) hdue
        (by rwa [Lane.sbCount_tb]), Lane.taQueue, Lane.sbCount_ta]
    exact ⟨⟨_, rfl, rfl, rfl, rfl, rfl, rfl, rfl⟩, rfl, rfl⟩
  · refine ⟨_, exec_taSubmit_of_accepted h hbusy tid lineNs, s.onlyLane_on l _, ?_⟩
    rw [State.lane_on_same, Lane.answer_ta, Lane.taSubmit_of_outOfRange (by rwa [Lane.sbCount_tb]), Lane.taEnd,
      Lane.sbCount_ta]
    exact ⟨rfl, rfl⟩
  · refine ⟨_, State.next_write_of_ok (present := fun _ => true) h tid _, s.onlyLane_on l _, fun e => ?_⟩
    rw [State.lane_on_same, Lane.answer_ta, Lane.sbCount_ta, Lane.sbCount_tb]
    exact Ta.mem_cancelTag ..
  · have hexec := exec_timedActionDue_of_entry hfind full
    have hresult : ((s.lane l).taTaken e).ta.result = (s.lane l).ta.result := by rw [Lane.taTaken_ta]
    refine ⟨fun hkind => ⟨_, hexec, s.onlyLane_on l _, ?_⟩, fun hkind hfull hlink => ⟨_, hexec, s.onlyLane_on l _, ?_⟩,
      fun hkind hnone => ⟨_, hexec, s.onlyLane_on l _, ?_⟩⟩
    · rw [State.lane_on_same,
        Lane.taRun_of_pending (Lane.taAct_capture hkind hlate full) (by decide) howner hresult hbusy]
      exact ⟨congrArg Ta.entries (Lane.taTaken_ta ..), Lane.taTaken_ns .., rfl, rfl, rfl, Lane.taTaken_flog ..,
        Lane.advance_vote ..⟩
    · subst hfull
      obtain ⟨M, hact, hta⟩ := Lane.exists_taAct_launch (L := (s.lane l).taTaken e) hkind hlate
        (by rwa [Lane.taTaken_upl])
      rw [State.lane_on_same, Lane.taRun_of_pending hact (by decide) howner (by rw [hta, hresult]) hbusy, hta,
        Lane.taTaken_ta]
      exact ⟨rfl, rfl, rfl⟩
    · have hact := Lane.taAct_unlaunched (L := (s.lane l).taTaken e) hkind (by rwa [Lane.taTaken_upl])
      rw [State.lane_on_same, Lane.taRun_of_pending hact (by decide) howner hresult hbusy, Lane.raise_ta,
        Lane.taTaken_ta]
      exact ⟨rfl, rfl, Lane.raise_last .., rfl⟩
  · refine ⟨_, exec_tsqPop_of_tagged (by simp [Queue.headTagged, hitems, htag]) hok tid, s.onlyLane_on l _, ?_⟩
    rw [State.lane_on_same, Lane.answer_tsq, Lane.popHead, Lane.sbCount_tsq]
    exact ⟨by rw [Tsq.get_set, if_pos rfl, hitems, List.tail_cons], fun r hr => by rw [Tsq.get_set, if_neg hr]⟩
  · simp [Queue.headTagged, hitems, htag]

end Sys2Proof.Machine
end

section
/-! PROOFS, what an admitted contract keeps. -/
namespace Sys2Proof.Machine

/-! ### The rules in their order (Table 10.3) -/

/-- A list of rules passes when none of them fails. -/
theorem firstFail_eq_none_iff (l : List Bool) : firstFail l = none ↔ ∀ b ∈ l, b = true := by
  simp [firstFail]

section
variable {L : Lane} {c : Contract} {p q : Nat}

/-- Rules 8 to 10 for the phase a contract would get. -/
def Lane.ctRest (L : Lane) (c : Contract) (p : Nat) : Nat ⊕ Nat :=
  if L.ctShare { c with phase := p } = false then .inr 8
  else if c.dir ≠ 2 ∧ L.clearsLaunches { c with phase := p } = false then .inr 9
  else if L.ctSource { c with phase := p } = false then .inr 10
  else .inl p

/-- Rules 8 to 10 choose no phase, and rule 8 holds where they pass. -/
theorem Lane.ctRest_inl (h : L.ctRest c p = .inl q) : p = q ∧ L.ctShare { c with phase := p } = true := by
  unfold Lane.ctRest at h
  split at h
  · cases h
  next hshare =>
    split at h
    · cases h
    · split at h
      · cases h
      · exact ⟨Sum.inl.inj h, eq_true_of_ne_false hshare⟩

/-- The search for a phase finds one among those searched that clears every other contract (R327). -/
theorem Lane.freePhase_some {n : Nat} : ∀ {p : Nat}, L.freePhase c n p = some q →
    q < p + n ∧ L.clearsContracts { c with phase := q } = true := by
  induction n with
  | zero => exact fun h => nomatch h
  | succ n ih =>
    intro p h
    rw [Lane.freePhase] at h
    split at h
    next hfree =>
      cases h
      exact ⟨by omega, (Bool.and_eq_true_iff.1 hfree).1⟩
    · obtain ⟨hlt, hclear⟩ := ih h
      exact ⟨by omega, hclear⟩

/-- A phase below the period at which an outbound contract clears every other, the one asked for where the record asks
(R327). -/
def Lane.fits (L : Lane) (c : Contract) (p : Nat) : Prop :=
  L.clearsContracts { c with phase := p } = true ∧ p < c.period ∧ (c.phase ≠ 0xFFFFFFFF → p = c.phase)

/-- The phase that rules 7 to 10 give passes rule 8, and rule 7 where the contract is outbound. -/
theorem Lane.ctPhase_inl (h : L.ctPhase c = .inl p) :
    L.ctShare { c with phase := p } = true ∧ (c.dir ≠ 2 → L.fits c p) := by
  unfold Lane.ctPhase at h
  split at h
  next hin =>
    obtain ⟨rfl, hshare⟩ := Lane.ctRest_inl h
    exact ⟨hshare, fun hout => absurd hin hout⟩
  · split at h
    next hfree =>
      split at h
      next q hq =>
        obtain ⟨rfl, hshare⟩ := Lane.ctRest_inl h
        obtain ⟨hlt, hclear⟩ := Lane.freePhase_some hq
        exact ⟨hshare, fun _ => ⟨hclear, by omega, absurd hfree⟩⟩
      · cases h
    · split at h
      next hasked =>
        obtain ⟨rfl, hshare⟩ := Lane.ctRest_inl h
        exact ⟨hshare, fun _ => ⟨hasked.2, hasked.1, fun _ => rfl⟩⟩
      · cases h

/-- A record that finds a place passes every rule of Table 10.3. -/
theorem Lane.placeContract_inl {rsv : Nat} (h : L.placeContract c rsv = .inl p) :
    (∀ b ∈ L.ctRules c rsv, b = true) ∧ L.ctPhase c = .inl p := by
  unfold Lane.placeContract at h
  split at h
  · cases h
  next hpass => exact ⟨(firstFail_eq_none_iff _).1 hpass, h⟩

/-- Rule 6 holds against the minimum of the contract's kind (R328). -/
theorem Lane.ctLatency_iff : L.ctLatency c = true ↔ ∃ m, L.ctMinimum c = some m ∧ m ≤ c.latBound * 10 := by
  unfold Lane.ctLatency
  split <;> simp_all

/-- Rule 7 keeps an outbound contract apart from every other one (R327). -/
theorem Lane.windowsApart_of_clears (h : L.clearsContracts c = true) {d : Contract} (hd : d ∈ L.ct.list)
    (hout : d.dir ≠ 2) : L.windowsApart c d = true := by
  simpa [hout] using List.all_eq_true.1 h d hd

/-- Rule 8 as a sum over the outbound contracts alone. -/
theorem Lane.ctShare_iff : L.ctShare c = true ↔
    (((c :: L.ct.list).filter fun d => d.dir != 2).map fun d =>
      ((50000 + L.ctLine d : Nat) : Rat) / ((max 1 d.period * 10000 : Nat) : Rat)).sum ≤ 4 / 5 := by
  rw [Lane.ctShare, decide_eq_true_eq, List.sum_map_ite]
  simp only [List.map_const', List.sum_replicate, smul_zero, zero_add, decide_not]
  rfl

end

/-! ### The statement -/

/-- Settles O37: each clause is one of the rules of Table 10.3, which a record that finds a place passes. -/
theorem windowsApart : Obligations.WindowsApart := by
  intro L c rsv p h
  obtain ⟨hrules, hphase⟩ := Lane.placeContract_inl h
  obtain ⟨hshare, hfits⟩ := Lane.ctPhase_inl hphase
  simp only [Lane.ctRules, List.forall_mem_cons, decide_eq_true_eq, Bool.and_eq_true, List.all_eq_true, bne_iff_ne]
    at hrules
  obtain ⟨hroom, ⟨-, htag⟩, -, -, -, hlatency, -⟩ := hrules
  refine ⟨hroom, htag, Lane.ctLatency_iff.1 hlatency, fun hout d hd => ?_, fun hout _ => ?_, fun hout hasked => ?_,
    Lane.ctShare_iff.1 hshare⟩
  · exact Lane.windowsApart_of_clears (hfits hout).1 hd
  · exact (hfits hout).2.1
  · obtain ⟨-, hlt, hphase⟩ := hfits hout
    exact ⟨hphase hasked, hlt⟩

end Sys2Proof.Machine
end

section
/-! PROOFS, what the uplink brings and takes. -/
namespace Sys2Proof.Machine

/-! ### Settings and clocks -/

@[simp] theorem Lane.advance_obj (L : Lane) (ns idx sub : Nat) : (L.advance ns).obj idx sub = L.obj idx sub :=
  congrFun₂ (Lane.obj_congr (L.advance_id ns) (L.advance_dict ns)) idx sub

@[simp] theorem Lane.advance_ownAddr (L : Lane) (ns : Nat) (v6 : Bool) : (L.advance ns).ownAddr v6 = L.ownAddr v6 := by
  simp only [Lane.ownAddr, Lane.advance_obj]

@[simp] theorem Lane.advance_lptOn (L : Lane) (ns link : Nat) : (L.advance ns).lptOn link = L.lptOn link := by
  simp only [Lane.lptOn, Lane.lptLink, Lane.advance_lpt]

@[simp] theorem Lane.stamp_ct (L : Lane) (q : TsqId) (tag : Nat) (late : Bool) : (L.stamp q tag late).ct = L.ct := by
  unfold Lane.stamp
  dsimp only
  split <;> rfl

/-! ### The link (R331, R501) -/

section
variable {s : State} {l : LaneId}

/-- The lane with the state of its uplink replaced. -/
def Lane.setLink (L : Lane) (up : Bool) : Lane := { L with upl := { L.upl with link := up } }

theorem exec_uplinkLinkChange_up (h : (s.lane l).alive = true) :
    exec (.uplinkLinkChange l true) s = .next (s.on l fun L => L.setLink true) :=
  State.next_on_of_holds (c := fun L => L.alive = true) h

/-- A link that goes down is a fault, and a pattern test on it ends. -/
theorem exec_uplinkLinkChange_down (h : (s.lane l).alive = true) (hlink : (s.lane l).upl.link = true) :
    exec (.uplinkLinkChange l false) s =
      .next (s.on l fun L => ((L.setLink false).lptDown 16).raise 0x4801 0) :=
  congrArg Host.Outcome.next (s.on_congr l ((if_pos h).trans (if_pos hlink)))

theorem exec_uplinkLinkChange_of_not_alive (h : (s.lane l).alive = false) (up : Bool) :
    exec (.uplinkLinkChange l up) s = .next s :=
  congrArg Host.Outcome.next (s.on_id l (if_neg (ne_true_of_eq_false h)))

/-- No pattern test runs on a link that went down (R501). -/
theorem Lane.lptDown_lptOn (L : Lane) (link : Nat) : (L.lptDown link).lptOn link = false := by
  unfold Lane.lptDown
  split
  next h =>
    have hrun : L.lpt.running = true := (Bool.and_eq_true_iff.1 h).1
    simp [Lane.lptOn, Lpt.stop, hrun]
  next h => exact eq_false_of_ne_true h

/-! ### Frames received (R318, R319) -/

/-- The uplink receives: the pairs serve, the link is up and no pattern test runs on it. -/
def Lane.hears (L : Lane) : Bool := L.pairsUp && L.upl.link && !L.lptOn 16

theorem Lane.hears_eq_false_iff (L : Lane) :
    L.hears = false ↔ L.pairsUp = false ∨ L.upl.link = false ∨ L.lptOn 16 = true := by
  simp only [Lane.hears, Bool.and_eq_false_iff, Bool.not_eq_false', or_assoc]

theorem exec_uplinkFrameReceived_of_deaf (h : (s.lane l).hears = false) (ns : Nat) (f : UplinkIn) :
    exec (.uplinkFrameReceived l ns f) s = .next s :=
  congrArg Host.Outcome.next (s.on_id l (if_neg (ne_true_of_eq_false h)))

theorem exec_uplinkFrameReceived_foreign (h : (s.lane l).hears = true) (ns : Nat) :
    exec (.uplinkFrameReceived l ns .foreign) s = .next (s.on l fun L => (L.advance ns).rxDrop) :=
  congrArg Host.Outcome.next (s.on_congr l (if_pos h))

/-- A datagram that reaches a port of the lane: its family is on, its frame is no longer than allowed, and it is sent to
the lane's own address. -/
def Lane.addressedBy (L : Lane) (d : Datagram) : Prop :=
  (if d.v6 then L.obj 0x4A00 6 else L.obj 0x4A00 5) ≠ 0 ∧ fitsFrame d = true ∧ d.dst = L.ownAddr d.v6

/-- An admitted datagram is served by its port. -/
theorem exec_uplinkFrameReceived_udp {d : Datagram} (h : (s.lane l).hears = true) (hd : (s.lane l).addressedBy d)
    (ns : Nat) : exec (.uplinkFrameReceived l ns (.udp d)) s = .next (s.on l fun L =>
      if d.dport = L.obj 0x4A00 8 then
        (L.advance ns).datagram d false fun N => { N with ct := { N.ct with asked := some d, replied := none } }
      else if d.dport = L.obj 0x4A00 9 then
        (L.advance ns).datagram d true fun N => N.takeForward (ofBytes (d.payload.take 2)) (d.payload.drop 2)
      else L.advance ns) := by
  obtain ⟨hfamily, hfits, hdst⟩ := hd
  have hon : (if d.v6 then (s.lane l).obj 0x4A00 6 != 0 else (s.lane l).obj 0x4A00 5 != 0) = true := by
    cases hv : d.v6 <;> simpa [hv] using hfamily
  refine congrArg Host.Outcome.next (s.on_congr l ((if_pos h).trans ?_))
  simp only [Lane.advance_obj, Lane.advance_ownAddr, hon, hfits, hdst, Bool.true_eq_false, or_self, if_false, ne_eq,
    not_true_eq_false]

theorem exec_uplinkFrameReceived_dictionary {d : Datagram} (h : (s.lane l).hears = true) (hd : (s.lane l).addressedBy d)
    (hport : d.dport = (s.lane l).obj 0x4A00 8) (ns : Nat) :
    exec (.uplinkFrameReceived l ns (.udp d)) s = .next (s.on l fun L => (L.advance ns).datagram d false fun N =>
      { N with ct := { N.ct with asked := some d, replied := none } }) :=
  (exec_uplinkFrameReceived_udp h hd ns).trans (congrArg _ (s.on_congr l (if_pos hport)))

theorem exec_uplinkFrameReceived_forward {d : Datagram} (h : (s.lane l).hears = true) (hd : (s.lane l).addressedBy d)
    (hother : d.dport ≠ (s.lane l).obj 0x4A00 8) (hport : d.dport = (s.lane l).obj 0x4A00 9) (ns : Nat) :
    exec (.uplinkFrameReceived l ns (.udp d)) s = .next (s.on l fun L => (L.advance ns).datagram d true fun N =>
      N.takeForward (ofBytes (d.payload.take 2)) (d.payload.drop 2)) :=
  (exec_uplinkFrameReceived_udp h hd ns).trans (congrArg _ (s.on_congr l ((if_neg hother).trans (if_pos hport))))

end

/-! ### The tag of a datagram and its replay (R427, R428) -/

section
variable {L : Lane} {d : Datagram}

/-- The datagram's tag and source stand in the replay cache. -/
def Lane.replays (L : Lane) (d : Datagram) : Bool := L.replayNow.any fun e => e.1 == d.tag && e.2.1 == d.src

/-- The lane that remembers a datagram it accepts. -/
def Lane.remember (L : Lane) (d : Datagram) : Lane :=
  { L with ct := { L.ct with replay := L.replayNow ++ [(d.tag, d.src, L.tb.mono)] } }

theorem Lane.datagram_of_unverified (h : L.tagOk d = false) (serve : Lane → Lane) :
    L.datagram d false serve = L.authDrop :=
  if_pos h

theorem Lane.datagram_of_replay (hok : L.tagOk d = true) (h : L.replays d = true) (forward : Bool)
    (serve : Lane → Lane) :
    L.datagram d forward serve =
      (({ L with ct := { L.ct with replay := L.replayNow } } : Lane).rxDrop).raise 0x90C2 0 :=
  (if_neg (by simp [hok])).trans (if_pos (Bool.or_eq_true_iff.2 (.inl h)))

theorem Lane.datagram_of_new (hok : L.tagOk d = true) (h : L.replays d = false) (hroom : L.replayNow.length < 512)
    (forward : Bool) (serve : Lane → Lane) : L.datagram d forward serve = serve (L.remember d) :=
  have hkept : (L.replays d || decide (512 ≤ L.replayNow.length)) = false := by simp [h, hroom]
  (if_neg (by simp [hok])).trans (if_neg (ne_true_of_eq_false hkept))

theorem Lane.remember_replay (L : Lane) (d : Datagram) :
    ∃ x ∈ (L.remember d).ct.replay, x.1 = d.tag ∧ x.2.1 = d.src :=
  ⟨_, List.mem_append_right _ (List.mem_singleton_self _), rfl, rfl⟩

@[simp] theorem Lane.remember_list (L : Lane) (d : Datagram) : (L.remember d).ct.list = L.ct.list := rfl

/-- A datagram that fits waits with the contract that its tag names (R337). -/
theorem Lane.takeForward_of_fits {tag : Nat} {payload : List Byte} {c : Contract}
    (hfind : (L.ct.list.find? fun x => x.dir == 2 && x.tag == tag) = some c) (hfits : payload.length ≤ c.size) :
    L.takeForward tag payload =
      { L with ct := L.ct.onNum c.num fun x => { x with inWait := x.inWait ++ [(L.tb.ns, payload)] } } := by
  simp only [Lane.takeForward, hfind, if_pos hfits]

end

/-! ### One contract of the list -/

section
variable {t : Ct} {f : Contract → Contract} {x y : Contract}

theorem Ct.mem_onNum (hx : x ∈ t.list) : f x ∈ (t.onNum x.num f).list :=
  List.mem_map.2 ⟨x, hx, if_pos (beq_self_eq_true _)⟩

/-- A contract of the number that was changed comes from one that bore it. -/
theorem Ct.exists_of_mem_onNum {n : Nat} (hy : y ∈ (t.onNum n f).list)
    (hnum : y.num = n) : ∃ x ∈ t.list, y = f x := by
  obtain ⟨x, hx, rfl⟩ := List.mem_map.1 hy
  split at hnum
  next h => exact ⟨x, hx, if_pos h⟩
  next h => exact absurd (beq_iff_eq.2 hnum) h

end

/-! ### Contract windows (R322, R323, R331) -/

section
variable {s : State} {l : LaneId} {n : Nat} {c : Contract}

/-- The opening instant of a contract's next window. -/
def Lane.nextWindow (L : Lane) (c : Contract) : Int := c.windowFrom (L.uplAt (max L.tb.ns c.nextNs))

/-- The lane at that instant. -/
def Lane.atWindow (L : Lane) (c : Contract) : Lane := L.advance (L.netAt (L.nextWindow c))

theorem exec_contractWindow_of_none (h : ((s.lane l).ct.list.find? fun c => c.num == n) = none) :
    exec (.contractWindow l n) s = .next s :=
  congrArg Host.Outcome.next (s.on_id l (by simp only [h]))

/-- No window opens for a contract that is not outbound, nor while the pairs do not serve. -/
theorem exec_contractWindow_of_idle (hfind : ((s.lane l).ct.list.find? fun c => c.num == n) = some c)
    (h : ((s.lane l).pairsUp && c.dir != 2) = false) : exec (.contractWindow l n) s = .next s :=
  congrArg Host.Outcome.next (s.on_id l (by simp only [hfind, h, Bool.false_eq_true, if_false]))

end

section
variable {L : Lane} {c : Contract}

@[simp] theorem Lane.atWindow_ct (L : Lane) (c : Contract) : (L.atWindow c).ct = L.ct := L.advance_ct _
@[simp] theorem Lane.atWindow_net (L : Lane) (c : Contract) : (L.atWindow c).net = L.net := L.advance_net _
@[simp] theorem Lane.atWindow_upl (L : Lane) (c : Contract) : (L.atWindow c).upl = L.upl := L.advance_upl _
@[simp] theorem Lane.atWindow_vote (L : Lane) (c : Contract) : (L.atWindow c).vote = L.vote := L.advance_vote _
@[simp] theorem Lane.atWindow_flog (L : Lane) (c : Contract) : (L.atWindow c).flog = L.flog := L.advance_flog _
@[simp] theorem Lane.atWindow_lptOn (L : Lane) (c : Contract) (link : Nat) :
    (L.atWindow c).lptOn link = L.lptOn link := L.advance_lptOn _ link

theorem Lane.le_atWindow_ns (L : Lane) (c : Contract) : L.tb.ns ≤ (L.atWindow c).tb.ns := by
  rw [Lane.atWindow, Lane.advance_ns]
  exact le_max_left ..

/-- A telemetry window with a complete snapshot sends one (R331, R335). -/
theorem Lane.exists_windowRecord_of_snapshot (hlink : L.upl.link = true) (hlpt : L.lptOn 16 = false) (hdir : c.dir = 0)
    (h : ∃ x ∈ L.ct.snaps, x.prodNs + 40000 ≤ L.tb.ns) (w : Int) :
    ∃ x : TSnap, L.windowRecord c w = some (x.prodNs, L.telemRecord c x w) := by
  have hsome : (L.ct.snaps.find? fun t => decide (t.prodNs + 40000 ≤ L.tb.ns)).isSome := by
    simpa [List.find?_isSome] using h
  obtain ⟨x, hx⟩ := Option.isSome_iff_exists.1 hsome
  exact ⟨x, by simp [Lane.windowRecord, hlink, hlpt, hdir, hx]⟩

/-- A forwarding window sends the frame stored of its slot (R331, R336). -/
theorem Lane.windowRecord_of_frame (hlink : L.upl.link = true) (hlpt : L.lptOn 16 = false) (hdir : c.dir = 1)
    {f : RxFrame} (h : (L.net.rxFrames.find? fun f => f.ch == (ctSlot c.source).1 && f.slot == (ctSlot c.source).2) =
      some f) (w : Int) : L.windowRecord c w = some (f.arrNs, L.forwardRecord c f w) := by
  simp [Lane.windowRecord, hlink, hlpt, hdir, h]

/-- A telemetry window without a snapshot has nothing to send (R331). -/
theorem Lane.windowRecord_of_no_snapshot (hdir : c.dir = 0) (h : L.ct.snaps = []) (w : Int) :
    L.windowRecord c w = none := by
  simp [Lane.windowRecord, hdir, h]

/-- The lane whose window opens at an instant. -/
def Lane.openWindow (L : Lane) (c : Contract) (w : Int) : Lane :=
  match L.windowRecord c w with
  | some (prod, r) => L.windowSend c prod r
  | none => L.windowEmpty c

theorem Lane.openWindow_of_record {w : Int} {prod : Nat} {r : Record} (h : L.windowRecord c w = some (prod, r)) :
    L.openWindow c w = L.windowSend c prod r := by
  simp only [Lane.openWindow, h]

theorem Lane.openWindow_of_none {w : Int} (h : L.windowRecord c w = none) : L.openWindow c w = L.windowEmpty c := by
  simp only [Lane.openWindow, h]

/-- The contract after a window that sent its record. -/
def Contract.sent (c : Contract) (now prod : Nat) : Contract :=
  { c with seq := c.seq + 1, missed := false, lastProd := some prod, nextNs := now + 1 }

/-- The contract after a window that stayed empty. -/
def Contract.skipped (c : Contract) (now : Nat) : Contract :=
  { c with seq := c.seq + 1, missed := true, everEmpty := true, nextNs := now + 1 }

theorem Lane.windowSend_ct (L : Lane) (c : Contract) (prod : Nat) (r : Record) :
    (L.windowSend c prod r).ct = { L.ct.onNum c.num fun x => x.sent L.tb.ns prod with
      winSent := satInc L.ct.winSent, sent := some r, datagram := some (L.recordFrame c.dest r) } := by
  unfold Lane.windowSend
  dsimp only
  split
  · rw [Lane.stamp_ct]; rfl
  · rfl

theorem Lane.windowEmpty_ct (L : Lane) (c : Contract) :
    (L.windowEmpty c).ct =
      { L.ct.onNum c.num fun x => x.skipped L.tb.ns with winMissed := satInc L.ct.winMissed } := by
  unfold Lane.windowEmpty
  dsimp only
  split <;> rfl

/-- A contract whose window sent its record marks nothing. -/
theorem Lane.missed_of_mem_windowSend {prod : Nat} {r : Record} {y : Contract}
    (hy : y ∈ (L.windowSend c prod r).ct.list) (hnum : y.num = c.num) : y.missed = false := by
  rw [Lane.windowSend_ct] at hy
  obtain ⟨x, -, rfl⟩ := Ct.exists_of_mem_onNum hy hnum
  rfl

/-- A contract whose window stayed empty marks its next record (R331). -/
theorem Lane.missed_of_mem_windowEmpty {y : Contract} (hy : y ∈ (L.windowEmpty c).ct.list) (hnum : y.num = c.num) :
    y.missed = true ∧ y.everEmpty = true := by
  rw [Lane.windowEmpty_ct] at hy
  obtain ⟨x, -, rfl⟩ := Ct.exists_of_mem_onNum hy hnum
  exact ⟨rfl, rfl⟩

/-- The first empty window of a contract is a fault (R331). -/
theorem Lane.windowEmpty_of_first (h : c.everEmpty = false) : (L.windowEmpty c).flog.last = 0x4802 := by
  simp [Lane.windowEmpty, h]

/-- A later one is only counted. -/
theorem Lane.windowEmpty_of_later (h : c.everEmpty = true) : (L.windowEmpty c).flog = L.flog := by
  simp [Lane.windowEmpty, h]

end

/-! ### CONTRACT_WINDOW of an outbound contract -/

section
variable {s : State} {l : LaneId} {n : Nat} {c : Contract}
  (hfind : ((s.lane l).ct.list.find? fun c => c.num == n) = some c) (hup : (s.lane l).pairsUp = true)
include hfind hup

theorem exec_contractWindow_of_outbound (hout : c.dir ≠ 2) :
    exec (.contractWindow l n) s = .next (s.on l fun L => (L.atWindow c).openWindow c (L.nextWindow c)) := by
  refine congrArg Host.Outcome.next (s.on_congr l ?_)
  simp only [hfind, hup, bne_iff_ne.2 hout, Bool.and_self, if_true]
  rfl

theorem exec_contractWindow_of_record (hout : c.dir ≠ 2) {prod : Nat} {r : Record}
    (h : ((s.lane l).atWindow c).windowRecord c ((s.lane l).nextWindow c) = some (prod, r)) :
    exec (.contractWindow l n) s = .next (s.on l fun L => (L.atWindow c).windowSend c prod r) :=
  (exec_contractWindow_of_outbound hfind hup hout).trans (congrArg _ (s.on_congr l (Lane.openWindow_of_record h)))

theorem exec_contractWindow_of_no_snapshot (hdir : c.dir = 0) (h : (s.lane l).ct.snaps = []) :
    exec (.contractWindow l n) s = .next (s.on l fun L => (L.atWindow c).windowEmpty c) :=
  (exec_contractWindow_of_outbound hfind hup (by omega)).trans (congrArg _ (s.on_congr l
    (Lane.openWindow_of_none (Lane.windowRecord_of_no_snapshot hdir (by rwa [Lane.atWindow_ct]) _))))

section
variable (hlink : (s.lane l).upl.link = true) (hlpt : (s.lane l).lptOn 16 = false)
include hlink hlpt

/-- A snapshot that was complete is so at the window too. -/
theorem exists_exec_contractWindow_of_snapshot (hdir : c.dir = 0)
    (h : ∃ x ∈ (s.lane l).ct.snaps, x.prodNs + 40000 ≤ (s.lane l).tb.ns) :
    ∃ x : TSnap, exec (.contractWindow l n) s = .next (s.on l fun L => (L.atWindow c).windowSend c x.prodNs
      (((s.lane l).atWindow c).telemRecord c x ((s.lane l).nextWindow c))) := by
  obtain ⟨y, hy, hdone⟩ := h
  obtain ⟨x, hrec⟩ := Lane.exists_windowRecord_of_snapshot (L := (s.lane l).atWindow c) (by rwa [Lane.atWindow_upl])
    (by rwa [Lane.atWindow_lptOn]) hdir ⟨y, by rwa [Lane.atWindow_ct], hdone.trans (Lane.le_atWindow_ns ..)⟩
    ((s.lane l).nextWindow c)
  exact ⟨x, exec_contractWindow_of_record hfind hup (by omega) hrec⟩

theorem exec_contractWindow_of_frame (hdir : c.dir = 1) {f : RxFrame} (h : ((s.lane l).net.rxFrames.find? fun f =>
      f.ch == (ctSlot c.source).1 && f.slot == (ctSlot c.source).2) = some f) :
    exec (.contractWindow l n) s = .next (s.on l fun L => (L.atWindow c).windowSend c f.arrNs
      (((s.lane l).atWindow c).forwardRecord c f ((s.lane l).nextWindow c))) :=
  exec_contractWindow_of_record hfind hup (by omega) (Lane.windowRecord_of_frame (by rwa [Lane.atWindow_upl])
    (by rwa [Lane.atWindow_lptOn]) hdir (by rwa [Lane.atWindow_net]) _)

end

end

end Sys2Proof.Machine
end

section
/-! PROOFS, how contracts are admitted and withdrawn. -/
namespace Sys2Proof.Machine

/-! ### The list of contracts -/

theorem Ct.mem_add_self (t : Ct) (c : Contract) : c ∈ (t.add c).list :=
  List.mem_append_right _ List.mem_cons_self

/-- A contract placed leaves those of every other number. -/
theorem Ct.mem_add_of_ne {t : Ct} {c d : Contract} (hd : d ∈ t.list) (hne : d.num ≠ c.num) : d ∈ (t.add c).list := by
  rcases Nat.lt_or_gt_of_ne hne with hlt | hgt
  · exact List.mem_append_left _ (List.mem_filter.2 ⟨hd, decide_eq_true hlt⟩)
  · exact List.mem_append_right _ (List.mem_cons_of_mem _ (List.mem_filter.2 ⟨hd, decide_eq_true hgt⟩))

/-! ### CT_SUBMIT (R325-R327) -/

@[simp] theorem Lane.ctEnd_net (L : Lane) (m : Master) (reason num : Nat) : (L.ctEnd m reason num).net = L.net := rfl

@[simp] theorem Lane.ctEnd_list (L : Lane) (m : Master) (reason num : Nat) :
    (L.ctEnd m reason num).ct.list = L.ct.list := rfl

/-- REASON 0 leaves the contract's number alone in the result. -/
theorem Lane.ctEnd_result_of_done (L : Lane) (m : Master) (num : Nat) :
    (L.ctEnd m 0 num).ct.result = (L.ct.result.start m).finish m (BitVec.ofNat 12 num) := by
  rw [Lane.ctEnd, Nat.zero_mul, Nat.zero_add]

/-- The contract that a record gives at a phase, its first window at least 1 ms away. -/
def Lane.admitted (L : Lane) (r p : Nat) : Contract :=
  { ctRecord r with num := L.ct.freeNum, phase := p, nextNs := L.tb.ns + 1000000 }

section
variable {L : Lane} {r : Nat}

theorem Lane.ctSubmit_of_placed {p : Nat} (h : L.placeContract (ctRecord r) (bits r 18 5) = .inl p) (m : Master) :
    L.ctSubmit m r = ({ L with ct := L.ct.add (L.admitted r p) } : Lane).ctEnd m 0 L.ct.freeNum := by
  simp only [Lane.ctSubmit, h]
  rfl

theorem Lane.ctSubmit_of_refused {reason : Nat} (h : L.placeContract (ctRecord r) (bits r 18 5) = .inr reason)
    (m : Master) : L.ctSubmit m r = L.ctEnd m reason 0 := by
  simp only [Lane.ctSubmit, h]

end

section
variable {s : State} {l : LaneId} {m : Master} {data : List Byte}

theorem exec_ctSubmit_of_err {e : W32} (h : (s.lane l).writeErr m 0x4A01 1 data true false = some e) (tid : Nat) :
    exec (.ctSubmit l m tid data) s = .next (s.on l fun L => L.answer m tid 0x4A01 1 e) :=
  congrArg Host.Outcome.next (s.on_congr l (by simp only [h]))

section
variable (h : (s.lane l).writeErr m 0x4A01 1 data true false = none)
include h

theorem exec_ctSubmit_of_busy (hbusy : (s.lane l).ct.result.busy m = true) (tid : Nat) :
    exec (.ctSubmit l m tid data) s = .next (s.on l fun L => L.answer m tid 0x4A01 1 eBusy) :=
  congrArg Host.Outcome.next (s.on_congr l (by simp only [h, hbusy, if_true]))

theorem exec_ctSubmit_of_accepted (hbusy : (s.lane l).ct.result.busy m = false) (tid : Nat) :
    exec (.ctSubmit l m tid data) s = .next (s.on l fun L =>
      ((L.sbCount m 0x4A01).ctSubmit m (ofBytes data)).answer m tid 0x4A01 1 0) :=
  congrArg Host.Outcome.next (s.on_congr l (by simp only [h, hbusy, Bool.false_eq_true, if_false]))

end

/-! ### CT_WITHDRAW (R329) -/

/-- The contract of the tag written. -/
def Lane.tagged (L : Lane) (data : List Byte) : Option Contract := L.ct.list.find? fun c => c.tag == ofBytes data

/-- The lane without a contract. -/
def Lane.dropContract (L : Lane) (c : Contract) : Lane :=
  { L with ct := { L.ct with list := L.ct.list.filter fun d => d.num != c.num } }

theorem exec_ctWithdraw_of_err {e : W32}
    (h : (s.lane l).writeErr m 0x4A01 2 data ((s.lane l).tagged data).isSome false = some e) (tid : Nat) :
    exec (.ctWithdraw l m tid data) s = .next (s.on l fun L => L.answer m tid 0x4A01 2 e) := by
  rw [Lane.tagged] at h
  exact congrArg Host.Outcome.next (s.on_congr l (by simp only [h]))

section
variable {c : Contract} (hfind : (s.lane l).tagged data = some c)
  (h : (s.lane l).writeErr m 0x4A01 2 data true false = none)
include hfind h

theorem exec_ctWithdraw_of_busy (hbusy : (s.lane l).ct.result.busy m = true) (tid : Nat) :
    exec (.ctWithdraw l m tid data) s = .next (s.on l fun L => L.answer m tid 0x4A01 2 eBusy) := by
  rw [Lane.tagged] at hfind
  exact congrArg Host.Outcome.next (s.on_congr l (by simp only [hfind, Option.isSome_some, h, hbusy, if_true]))

theorem exec_ctWithdraw_of_tagged (hbusy : (s.lane l).ct.result.busy m = false) (tid : Nat) :
    exec (.ctWithdraw l m tid data) s = .next (s.on l fun L =>
      (((L.sbCount m 0x4A01).dropContract c).ctEnd m 0 c.num).answer m tid 0x4A01 2 0) := by
  rw [Lane.tagged] at hfind
  refine congrArg Host.Outcome.next (s.on_congr l ?_)
  simp only [hfind, Option.isSome_some, h, hbusy, Bool.false_eq_true, if_false]
  rfl

end

end

/-! ### The statement -/

/-- Settles O36: the link, the frames and the windows act under their conditions, a submission and a withdrawal change
the list by one contract or leave it (R318, R322, R323, R325, R326, R329, R331, R336, R337, R368, R427, R428). -/
theorem uplinkTrafficAndContracts : Obligations.UplinkTrafficAndContracts := by
  refine ⟨fun s l => ⟨fun halive => ⟨exec_uplinkLinkChange_up halive, fun hlink =>
      ⟨_, exec_uplinkLinkChange_down halive hlink, s.onlyLane_on l _, ?linkDown⟩⟩, exec_uplinkLinkChange_of_not_alive,
    fun hup hlink hlpt ns => ?frame,
    fun h => exec_uplinkFrameReceived_of_deaf ((Lane.hears_eq_false_iff _).2 h), fun n c hfind hup => ?window,
    fun n h => ?noWindow⟩,
    fun s l m tid data => ⟨fun h => ⟨fun hbusy => ⟨fun p hplace =>
      ⟨_, exec_ctSubmit_of_accepted h hbusy tid, s.onlyLane_on l _, ?admitted⟩, fun reason hfail =>
      ⟨_, exec_ctSubmit_of_accepted h hbusy tid, s.onlyLane_on l _, ?failed⟩⟩,
      fun hbusy => exec_ctSubmit_of_busy h hbusy tid⟩,
    fun e h => exec_ctSubmit_of_err h tid, fun c hfind => ⟨fun h hbusy =>
      ⟨_, exec_ctWithdraw_of_tagged hfind h hbusy tid, s.onlyLane_on l _, ?withdrawn⟩,
      fun h hbusy => exec_ctWithdraw_of_busy hfind h hbusy tid,
      fun e h => exec_ctWithdraw_of_err (by rwa [Lane.tagged, hfind]) tid⟩,
    fun e hfind h => exec_ctWithdraw_of_err (by rwa [Lane.tagged, hfind]) tid⟩⟩
  case linkDown =>
    rw [State.lane_on_same]
    exact ⟨by rw [Lane.raise_upl, Lane.lptDown_upl]; rfl, Lane.raise_last .., Lane.lptDown_lptOn .., by
      rw [Lane.raise_vote, Lane.lptDown_vote]; rfl⟩
  case frame =>
    have hhears : (s.lane l).hears = true := by simp [Lane.hears, hup, hlink, hlpt]
    refine ⟨exec_uplinkFrameReceived_foreign hhears ns, fun d hfamily hfits hdst => ?_⟩
    have hd : (s.lane l).addressedBy d := ⟨hfamily, hfits, hdst⟩
    refine ⟨fun hport => ?_, fun hother hport hok hnew hroom c hfind hsize => ?_⟩
    · have hexec := exec_uplinkFrameReceived_dictionary hhears hd hport ns
      refine ⟨fun hbad => ⟨_, hexec, s.onlyLane_on l _, ?_⟩, fun hok => ⟨fun hold => ⟨_, hexec, s.onlyLane_on l _, ?_⟩,
        fun hnew hroom => ⟨_, hexec, s.onlyLane_on l _, ?_⟩⟩⟩
      · rw [State.lane_on_same, Lane.datagram_of_unverified hbad, Lane.authDrop, Lane.raise_ct, Lane.advance_ct]
        exact ⟨rfl, Lane.raise_last ..⟩
      · rw [State.lane_on_same, Lane.datagram_of_replay hok hold, Lane.raise_ct, Lane.rxDrop, Lane.advance_ct]
        exact ⟨rfl, Lane.raise_last .., rfl⟩
      · rw [State.lane_on_same, Lane.datagram_of_new hok hnew hroom]
        exact ⟨Lane.remember_replay _ d, rfl, rfl, Lane.advance_flog ..⟩
    · refine ⟨_, exec_uplinkFrameReceived_forward hhears hd hother hport ns, s.onlyLane_on l _, ?_⟩
      have hkept : (((s.lane l).advance ns).remember d).ct.list = (s.lane l).ct.list := by
        rw [Lane.remember_list, Lane.advance_ct]
      have hdrops : ((s.lane l).advance ns).ct.rxDropped = (s.lane l).ct.rxDropped := by rw [Lane.advance_ct]
      rw [State.lane_on_same, Lane.datagram_of_new hok hnew hroom, Lane.takeForward_of_fits (by rwa [hkept]) hsize]
      refine ⟨Lane.remember_replay _ d, Lane.advance_flog .., hdrops, fun x hx hnum => ?_⟩
      rw [← hkept] at hx
      rw [← hnum]
      exact Ct.mem_onNum hx
  case window =>
    have hnum : c.num = n := by simpa using List.find?_some hfind
    refine ⟨fun hlink hlpt hdir hsnap => ?_, fun hlink hlpt hdir x hx => ?_, fun hdir hnone => ?_,
      fun hdir => exec_contractWindow_of_idle hfind (by simp [hdir])⟩
    · obtain ⟨x, hexec⟩ := exists_exec_contractWindow_of_snapshot hfind hup hlink hlpt hdir hsnap
      refine ⟨_, hexec, s.onlyLane_on l _, ?_⟩
      rw [State.lane_on_same]
      refine ⟨?_, ?_, fun y hy hynum => Lane.missed_of_mem_windowSend hy (hynum.trans hnum.symm), ?_⟩
      · rw [Lane.windowSend_ct, Lane.atWindow_ct]
      · rw [Lane.windowSend_ct]
        exact ⟨_, _, rfl, rfl, rfl, rfl, rfl, rfl, rfl, rfl⟩
      · rw [(Lane.windowSend_voteKept ..).2, Lane.atWindow_vote]
    · refine ⟨_, exec_contractWindow_of_frame hfind hup hlink hlpt hdir hx, s.onlyLane_on l _, ?_⟩
      rw [State.lane_on_same, Lane.windowSend_ct, (Lane.windowSend_voteKept ..).2, Lane.atWindow_ct, Lane.atWindow_vote]
      exact ⟨rfl, ⟨_, rfl, rfl, rfl, rfl, rfl⟩, rfl⟩
    · refine ⟨_, exec_contractWindow_of_no_snapshot hfind hup hdir hnone, s.onlyLane_on l _, ?_⟩
      rw [State.lane_on_same]
      refine ⟨?_, ?_, fun y hy hynum => Lane.missed_of_mem_windowEmpty hy (hynum.trans hnum.symm),
        Lane.windowEmpty_of_first, fun h => ?_⟩
      · rw [Lane.windowEmpty_ct, Lane.atWindow_ct]
      · rw [Lane.windowEmpty_ct, Lane.atWindow_ct]
        rfl
      · rw [Lane.windowEmpty_of_later h, Lane.atWindow_flog]
  case noWindow =>
    rcases h with h | h
    · exact exec_contractWindow_of_none h
    · cases hfind : (s.lane l).ct.list.find? fun c => c.num == n with
      | none => exact exec_contractWindow_of_none hfind
      | some c => exact exec_contractWindow_of_idle hfind (by simp [h])
  case admitted =>
    rw [State.lane_on_same, Lane.answer_ct, Lane.answer_net, Lane.ctSubmit_of_placed hplace, Lane.ctEnd_list,
      Lane.ctEnd_net, Lane.ctEnd_result_of_done, Lane.admitted, Lane.sbCount_ct, Lane.sbCount_net, Lane.sbCount_tb]
    exact ⟨Ct.mem_add_self .., fun d hd hne => Ct.mem_add_of_ne hd hne, rfl, rfl⟩
  case failed =>
    rw [State.lane_on_same, Lane.answer_ct, Lane.ctSubmit_of_refused hfail, Lane.ctEnd, Lane.sbCount_ct]
    exact ⟨rfl, rfl⟩
  case withdrawn =>
    rw [State.lane_on_same, Lane.answer_ct, Lane.answer_net, Lane.ctEnd_list, Lane.ctEnd_net,
      Lane.ctEnd_result_of_done, Lane.dropContract, Lane.sbCount_ct]
    exact ⟨rfl, rfl, Lane.sbCount_net ..⟩

end Sys2Proof.Machine
end

section
/-! PROOFS, what each operation leaves of a lane's power group. Most keep it whole (`_pwr`), the others keep at least
its state (`_pwrState`) or bring no lane into RUN. -/
namespace Sys2Proof.Machine

/-! ### What is kept -/

/-- The lane is in RUN only if it was before. -/
@[reducible, simp] def Lane.NoRunGained (L M : Lane) : Prop := M.pwr.state = .run → L.pwr.state = .run

@[simp] theorem Lane.pwr_ite (c : Prop) [Decidable c] (L M : Lane) :
    (if c then L else M).pwr = if c then L.pwr else M.pwr :=
  apply_ite Lane.pwr c L M

@[simp] theorem Pwr.state_ite (c : Prop) [Decidable c] (p q : Pwr) :
    (if c then p else q).state = if c then p.state else q.state :=
  apply_ite Pwr.state c p q

/-- A loop keeps the power group that its body keeps. -/
@[simp] theorem Lane.foldl_pwr {α : Type} {f : Lane → α → Lane} (h : ∀ (M : Lane) x, (f M x).pwr = M.pwr)
    (l : List α) (L : Lane) : (l.foldl f L).pwr = L.pwr :=
  List.foldlRecOn l f (motive := fun M => M.pwr = L.pwr) rfl fun M hM x _ => (h M x).trans hM

/-- A loop keeps the power state that its body keeps. -/
theorem Lane.foldl_pwrState {α : Type} {f : Lane → α → Lane}
    (h : ∀ (M : Lane) x, (f M x).pwr.state = M.pwr.state) (l : List α) (L : Lane) :
    (l.foldl f L).pwr.state = L.pwr.state :=
  List.foldlRecOn l f (motive := fun M => M.pwr.state = L.pwr.state) rfl fun M hM x _ => (h M x).trans hM

/-! ### Shared operations -/

@[simp] theorem Lane.assertStop_pwr (L : Lane) : L.assertStop.pwr = { L.pwr with stopLine := true } := rfl

@[simp] theorem Lane.goOut_pwrState (L : Lane) (code : Nat) : (L.goOut code).pwr.state = L.pwr.state := by
  unfold Lane.goOut; split <;> rfl

@[simp] theorem Lane.goOut_pwrStep (L : Lane) (code : Nat) : (L.goOut code).pwr.step = L.pwr.step := by
  unfold Lane.goOut; split <;> rfl

@[simp] theorem Lane.laneOut_pwrState (L : Lane) (code detId detVal : Nat) :
    (L.laneOut code detId detVal).pwr.state = L.pwr.state := by simp [Lane.laneOut]

@[simp] theorem Lane.answerWith_pwr (L : Lane) (r : Resp) : (L.answerWith r).pwr = L.pwr := by
  simp [Lane.answerWith]

@[simp] theorem Lane.segFail_pwr (L : Lane) (m : Master) (tid idx sub : Nat) (code : W32) :
    (L.segFail m tid idx sub code).pwr = L.pwr := by simp [Lane.segFail]

theorem Lane.write_pwr (L : Lane) (m : Master) (tid idx sub : Nat) (data : List Byte) (present : Bool)
    {act : Lane → Lane} (h : ∀ M : Lane, (act M).pwr = M.pwr) : (L.write m tid idx sub data present act).pwr = L.pwr := by
  unfold Lane.write
  split
  · simp
  · simp [h]

@[simp] theorem Lane.prepareNew_pwr (L : Lane) (m : Master) (item : CommitItem) (g : Option Nat) (rwp : Bool) :
    (L.prepareNew m item g rwp).pwr = L.pwr := by simp [Lane.prepareNew]

@[simp] theorem Lane.onCommit_pwr (L : Lane) (c : Commit) (f : Commit → Commit) : (L.onCommit c f).pwr = L.pwr := by
  simp [Lane.onCommit]

@[simp] theorem Lane.prepareMore_pwr (L : Lane) (c : Commit) (item : CommitItem) :
    (L.prepareMore c item).pwr = L.pwr := by simp [Lane.prepareMore]

@[simp] theorem Lane.failGroup_pwr (L : Lane) (m : Master) (g : Option Nat) : (L.failGroup m g).pwr = L.pwr := by
  unfold Lane.failGroup
  (repeat' split) <;> simp

@[simp] theorem Lane.prepare_pwr (L : Lane) (m : Master) (tid idx sub raw : Nat) (g : Option Nat) (rwp : Bool) :
    (L.prepare m tid idx sub raw g rwp).pwr = L.pwr := by
  unfold Lane.prepare
  (repeat' split) <;> simp

@[simp] theorem Lane.writeWide_pwr (L : Lane) (m : Master) (tid idx sub : Nat) (data : List Byte)
    (present : Bool) (g : Option Nat) (window : Bool) :
    (L.writeWide m tid idx sub data present g window).pwr = L.pwr := by
  unfold Lane.writeWide
  split <;> simp

/-! ### Clocks and heat -/

@[simp] theorem Lane.judgeTemps_pwr (L : Lane) : L.judgeTemps.pwr = L.pwr := by simp [Lane.judgeTemps]

@[simp] theorem Lane.judgeWarn_pwr (L : Lane) : L.judgeWarn.pwr = L.pwr := by simp [Lane.judgeWarn]

@[simp] theorem Lane.judgeCutSensors_pwr (L : Lane) : L.judgeCutSensors.pwr = L.pwr := by
  simp [Lane.judgeCutSensors]

@[simp] theorem Lane.compensate_pwr (L : Lane) : L.compensate.pwr = L.pwr := by
  unfold Lane.compensate
  (repeat' split) <;> simp

@[simp] theorem Lane.trim_pwr (L : Lane) : L.trim.pwr = L.pwr := by simp [Lane.trim]

@[simp] theorem Lane.judgeRefs_pwr (L : Lane) : L.judgeRefs.pwr = L.pwr := by simp [Lane.judgeRefs]

@[simp] theorem Lane.judgeAo_pwr (L : Lane) (hz : Rat) : (L.judgeAo hz).pwr = L.pwr := by simp [Lane.judgeAo]

@[simp] theorem Lane.judgeLinkSense_pwr (L : Lane) : L.judgeLinkSense.pwr = L.pwr := by simp [Lane.judgeLinkSense]

@[simp] theorem Lane.kilnRound_pwr (L : Lane) : L.kilnRound.pwr = L.pwr := by simp [Lane.kilnRound]

theorem Lane.judged_pwr (L : Lane) (hz : Rat) :
    ((((L.judgeTemps.judgeWarn.judgeCutSensors).compensate.trim.judgeRefs).judgeAo
      hz).judgeLinkSense).kilnRound.pwr = L.pwr := by
  simp

theorem Lane.clk_therm_pwr (L : Lane) (c : Clk) (t : Therm) : ({ L with clk := c, therm := t } : Lane).pwr = L.pwr := rfl

@[simp] theorem Lane.hkRound_pwr (L : Lane) (n : Nat) (r : HkRound) : (L.hkRound n r).pwr = L.pwr :=
  (Lane.judged_pwr _ _).trans ((Lane.clk_therm_pwr _ _ _).trans ((Lane.clk_therm_pwr _ _ _).trans (L.advance_pwr _)))

@[simp] theorem Lane.coneCell_pwr (L : Lane) : L.coneCell.pwr = L.pwr := by simp [Lane.coneCell]

/-! ### Bridges -/

@[simp] theorem Lane.holdDead_pwr (L : Lane) (idx sub : Nat) : (L.holdDead idx sub).pwr = L.pwr := by
  unfold Lane.holdDead
  split <;> simp

@[simp] theorem Lane.abortTest_pwr (L : Lane) (b : Fin 8) : (L.abortTest b).pwr = L.pwr := by simp [Lane.abortTest]

@[simp] theorem Lane.settle_pwr (L : Lane) (b : Fin 8) : (L.settle b).pwr = L.pwr := by simp [Lane.settle]

@[simp] theorem Lane.settleAll_pwr (L : Lane) : L.settleAll.pwr = L.pwr := by simp [Lane.settleAll]

@[simp] theorem Lane.isolateSet_pwr (L : Lane) (b : Fin 8) (code : Nat) : (L.isolateSet b code).pwr = L.pwr := by
  unfold Lane.isolateSet
  split <;> simp

@[simp] theorem Lane.isolate_pwr (L : Lane) (b : Fin 8) (code : Nat) (detId : Nat) (detVal : Nat) :
    (L.isolate b code detId detVal).pwr = L.pwr := by simp [Lane.isolate]

@[simp] theorem Lane.unisolate_pwr (L : Lane) (b : Fin 8) (code : Nat) : (L.unisolate b code).pwr = L.pwr := by
  simp [Lane.unisolate]

@[simp] theorem Lane.loseRotor_pwr (L : Lane) (b n : Fin 8) (w : Rat) (raiseIt : Bool) :
    (L.loseRotor b n w raiseIt).pwr = L.pwr := by simp [Lane.loseRotor]

@[simp] theorem Lane.leaveSensor_pwr (L : Lane) (b n : Fin 8) : (L.leaveSensor b n).pwr = L.pwr := by
  simp [Lane.leaveSensor]

@[simp] theorem Lane.dropSensor_pwr (L : Lane) (b : Fin 8) : (L.dropSensor b).pwr = L.pwr := by
  unfold Lane.dropSensor
  split <;> simp

@[simp] theorem Lane.isolateSensor_pwr (L : Lane) (b : Fin 8) (kind : Nat) :
    (L.isolateSensor b kind).pwr = L.pwr := by simp [Lane.isolateSensor]

@[simp] theorem Lane.followEmf_pwr (L : Lane) (b : Fin 8) : (L.followEmf b).pwr = L.pwr := by
  unfold Lane.followEmf
  split <;> simp

@[simp] theorem Lane.gateEvent_pwr (L : Lane) (b : Fin 8) (kind : Nat) : (L.gateEvent b kind).pwr = L.pwr := by
  simp [Lane.gateEvent]

/-! ### Position front ends -/

@[simp] theorem Lane.showAngles_pwr (L : Lane) (b n : Fin 8) : (L.showAngles b n).pwr = L.pwr := by
  simp [Lane.showAngles]

@[simp] theorem Lane.track_pwr (L : Lane) (b : Fin 8) (sinV cosV : Rat) : (L.track b sinV cosV).pwr = L.pwr := by
  simp [Lane.track]

@[simp] theorem Lane.coast_pwr (L : Lane) (b : Fin 8) (low : Bool) : (L.coast b low).pwr = L.pwr := by
  simp [Lane.coast]

@[simp] theorem Lane.takePair_pwr (L : Lane) (b n : Fin 8) (sinV cosV amp : Rat) :
    (L.takePair b n sinV cosV amp).pwr = L.pwr := by simp [Lane.takePair]

@[simp] theorem Lane.bissDiscard_pwr (L : Lane) (b : Fin 8) : (L.bissDiscard b).pwr = L.pwr := by
  simp [Lane.bissDiscard]

@[simp] theorem Lane.bissTake_pwr (L : Lane) (b n : Fin 8) (d : BissData) (delay : Nat) :
    (L.bissTake b n d delay).pwr = L.pwr := by simp [Lane.bissTake]

/-! ### Field engines -/

@[simp] theorem Lane.carrierStep_pwr (L : Lane) (b n : Fin 8) (ns : Nat) (frac : Rat) :
    (L.carrierStep b n ns frac).pwr = L.pwr := by simp [Lane.carrierStep]

@[simp] theorem Lane.loadEdges_pwr (L : Lane) (b : Fin 8) (old : Bridge) : (L.loadEdges b old).pwr = L.pwr := by
  simp [Lane.loadEdges]

@[simp] theorem Lane.startLoop_pwr (L : Lane) (b : Fin 8) (m : Mode) : (L.startLoop b m).pwr = L.pwr := by
  simp [Lane.startLoop]

@[simp] theorem Lane.enterModulate_pwr (L : Lane) (b n : Fin 8) : (L.enterModulate b n).pwr = L.pwr := by
  simp [Lane.enterModulate]

@[simp] theorem Lane.settleBoundary_pwr (L : Lane) (b n : Fin 8) : (L.settleBoundary b n).pwr = L.pwr := by
  simp [Lane.settleBoundary]

@[simp] theorem Lane.takeDue_pwr (L : Lane) (b : Fin 8) : (L.takeDue b).pwr = L.pwr := by
  unfold Lane.takeDue
  split <;> simp

@[simp] theorem Lane.sourceStep_pwr (L : Lane) (b n : Fin 8) : (L.sourceStep b n).pwr = L.pwr := by
  simp only [Lane.sourceStep]
  split <;> simp

@[simp] theorem Lane.loadPeriod_pwr (L : Lane) (b n : Fin 8) (br : Bridge) : (L.loadPeriod b n br).pwr = L.pwr := by
  simp [Lane.loadPeriod]

@[simp] theorem Lane.kilnCurrent_pwr (L : Lane) (b n : Fin 8) (i : Tri3 Rat) :
    (L.kilnCurrent b n i).pwr = L.pwr := by simp [Lane.kilnCurrent]

@[simp] theorem Lane.computeLoop_pwr (L : Lane) (b n : Fin 8) (q : Samples) (ctr : Nat) :
    (L.computeLoop b n q ctr).pwr = L.pwr := by simp [Lane.computeLoop]

@[simp] theorem Lane.holdDuty_pwr (L : Lane) (b n : Fin 8) : (L.holdDuty b n).pwr = L.pwr := by simp [Lane.holdDuty]

@[simp] theorem Lane.computeAcquire_pwr (L : Lane) (b n : Fin 8) (q : Samples) :
    (L.computeAcquire b n q).pwr = L.pwr := by simp [Lane.computeAcquire]

@[simp] theorem Lane.compute_pwr (L : Lane) (b n : Fin 8) (q : Samples) (ctr : Nat) :
    (L.compute b n q ctr).pwr = L.pwr := by simp [Lane.compute]

/-! ### Slip links -/

@[simp] theorem Lane.badMessage_pwr (L : Lane) (via : LaneId) : (L.badMessage via).pwr = L.pwr := by
  simp [Lane.badMessage]

/-! ### Gate drive -/

@[simp] theorem Lane.adapt_pwr (L : Lane) (b : Fin 8) (p : Phase) (high hard : Bool) (tsw : Rat) :
    (L.adapt b p high hard tsw).pwr = L.pwr := by simp [Lane.adapt]

@[simp] theorem Lane.heldOff_pwr (L : Lane) (b : Fin 8) (p : Phase) : (L.heldOff b p).pwr = L.pwr := by
  simp [Lane.heldOff]

@[simp] theorem Lane.crossed_pwr (L : Lane) (b : Fin 8) (p : Phase) (rise : Bool) (edge : Rat) :
    (L.crossed b p rise edge).pwr = L.pwr := by simp [Lane.crossed]

@[simp] theorem Lane.missed_pwr (L : Lane) (b : Fin 8) (p : Phase) (rise : Bool) :
    (L.missed b p rise).pwr = L.pwr := by simp [Lane.missed]

@[simp] theorem Lane.detect_pwr (L : Lane) (b : Fin 8) (kind det : Nat) (on : BitVec 6) (flag : Gate → Gate) :
    (L.detect b kind det on flag).pwr = L.pwr := by simp [Lane.detect]

@[simp] theorem Lane.reopen_pwr (L : Lane) (b : Fin 8) : (L.reopen b).pwr = L.pwr := by simp [Lane.reopen]

@[simp] theorem Lane.gdClear_pwr (L : Lane) (b : Fin 8) : (L.gdClear b).pwr = L.pwr := by simp [Lane.gdClear]

@[simp] theorem Lane.testDone_pwr (L : Lane) (b : Fin 8) (desat : BitVec 6) (oc : Bool) (bs : BitVec 3) :
    (L.testDone b desat oc bs).pwr = L.pwr := by simp [Lane.testDone]

/-! ### DC link -/

@[simp] theorem Lane.judgeLink_pwr (L : Lane) : L.judgeLink.pwr = L.pwr := by simp [Lane.judgeLink]

@[simp] theorem Lane.chopFail_pwr (L : Lane) (kind : Nat) : (L.chopFail kind).pwr = L.pwr := by simp [Lane.chopFail]

@[simp] theorem Lane.uvIsolate_pwr (L : Lane) : L.uvIsolate.pwr = L.pwr := by simp [Lane.uvIsolate]

@[simp] theorem Lane.chopTested_pwr (L : Lane) (kind : Nat) : (L.chopTested kind).pwr = L.pwr := by
  simp [Lane.chopTested]

/-! ### Time base and timed actions -/

@[simp] theorem Lane.tick_pwr (L : Lane) : L.tick.pwr = L.pwr := by simp [Lane.tick]

@[simp] theorem Lane.setTime_pwr (L : Lane) (ns : Nat) : (L.setTime ns).pwr = L.pwr := by simp [Lane.setTime]

@[simp] theorem Lane.enterHoldover_pwr (L : Lane) (unc : Nat) : (L.enterHoldover unc).pwr = L.pwr := by
  simp [Lane.enterHoldover]

@[simp] theorem Lane.validate_pwr (L : Lane) (synced : Bool) (unc : Nat) : (L.validate synced unc).pwr = L.pwr := by
  simp [Lane.validate]

@[simp] theorem Lane.syncTrack_pwr (L : Lane) (g : SyncIn) (d : Int) (unc : Nat) :
    (L.syncTrack g d unc).pwr = L.pwr := by simp [Lane.syncTrack]

@[simp] theorem Lane.syncRefuse_pwr (L : Lane) (g : SyncIn) : (L.syncRefuse g).pwr = L.pwr := by
  simp [Lane.syncRefuse]

@[simp] theorem Lane.syncStep_pwr (L : Lane) (g : SyncIn) (unc : Nat) : (L.syncStep g unc).pwr = L.pwr := by
  simp [Lane.syncStep]

@[simp] theorem Lane.takeSync_pwr (L : Lane) (g : SyncIn) (unc : Nat) : (L.takeSync g unc).pwr = L.pwr := by
  simp [Lane.takeSync]

@[simp] theorem Lane.stamp_pwr (L : Lane) (q : TsqId) (tag : Nat) (late : Bool) :
    (L.stamp q tag late).pwr = L.pwr := by simp [Lane.stamp]

@[simp] theorem Lane.taEnd_pwr (L : Lane) (m : Master) (entry outcome : Nat) :
    (L.taEnd m entry outcome).pwr = L.pwr := by simp [Lane.taEnd]

@[simp] theorem Lane.taQueue_pwr (L : Lane) (m : Master) (slot : Nat) (e : TaEntry) :
    (L.taQueue m slot e).pwr = L.pwr := by simp [Lane.taQueue]

@[simp] theorem Lane.taSubmit_pwr (L : Lane) (m : Master) (r lineNs : Nat) :
    (L.taSubmit m r lineNs).pwr = L.pwr := by
  unfold Lane.taSubmit
  split <;> simp

@[simp] theorem Lane.captureAll_pwr (L : Lane) (due : Nat) : (L.captureAll due).pwr = L.pwr := by
  simp [Lane.captureAll]

@[simp] theorem Lane.releaseSetpoints_pwr (L : Lane) : L.releaseSetpoints.pwr = L.pwr := by
  simp [Lane.releaseSetpoints]

@[simp] theorem Lane.taAct_pwr (L : Lane) (e : TaEntry) (full : Bool) : (L.taAct e full).1.pwr = L.pwr := by
  unfold Lane.taAct
  (repeat' split) <;> simp

@[simp] theorem Lane.taRun_pwr (L : Lane) (e : TaEntry) (full : Bool) : (L.taRun e full).pwr = L.pwr := by
  unfold Lane.taRun
  split <;> simp

/-! ### Network -/

@[simp] theorem Lane.onCh_pwr (L : Lane) (ch : Chan) (f : Channel → Channel) : (L.onCh ch f).pwr = L.pwr := by
  simp [Lane.onCh]

@[simp] theorem Lane.setNode_pwr (L : Lane) (st : NState) : (L.setNode st).pwr = L.pwr := by simp [Lane.setNode]

@[simp] theorem Lane.listen_pwr (L : Lane) : L.listen.pwr = L.pwr := by simp [Lane.listen]

@[simp] theorem Lane.activate_pwr (L : Lane) : L.activate.pwr = L.pwr := by simp [Lane.activate]

@[simp] theorem Lane.repeatFrame_pwr (L : Lane) (ch : Chan) (port : Nat) (f : StarStart) (limit : Nat) :
    (L.repeatFrame ch port f limit).pwr = L.pwr := by simp [Lane.repeatFrame]

@[simp] theorem Lane.takeDev_pwr (L : Lane) (ch : Chan) (f : FrameIn) : (L.takeDev ch f).pwr = L.pwr := by
  simp [Lane.takeDev]

@[simp] theorem Lane.storeFrame_pwr (L : Lane) (ch : Chan) (f : FrameIn) : (L.storeFrame ch f).pwr = L.pwr := by
  simp [Lane.storeFrame]

@[simp] theorem Lane.acceptFrame_pwr (L : Lane) (ch : Chan) (f : FrameIn) (unc : Nat) :
    (L.acceptFrame ch f unc).pwr = L.pwr := by simp [Lane.acceptFrame]

@[simp] theorem Lane.badTag_pwr (L : Lane) (ch : Chan) (f : FrameIn) : (L.badTag ch f).pwr = L.pwr := by
  simp [Lane.badTag]

@[simp] theorem Lane.observeFrame_pwr (L : Lane) (ch : Chan) (f : FrameIn) : (L.observeFrame ch f).pwr = L.pwr := by
  simp [Lane.observeFrame]

@[simp] theorem Lane.firstFrame_pwr (L : Lane) (ch : Chan) (f : FrameIn) (unc : Nat) :
    (L.firstFrame ch f unc).pwr = L.pwr := by
  unfold Lane.firstFrame
  split <;> simp

@[simp] theorem Lane.abandonCold_pwr (L : Lane) : L.abandonCold.pwr = L.pwr := by simp [Lane.abandonCold]

@[simp] theorem Lane.coldFrame_pwr (L : Lane) (ch : Chan) (f : FrameIn) : (L.coldFrame ch f).pwr = L.pwr := by
  simp [Lane.coldFrame]

@[simp] theorem Lane.frameStarts_pwr (L : Lane) (ch : Chan) (f : FrameIn) : (L.frameStarts ch f).pwr = L.pwr := by
  unfold Lane.frameStarts
  split <;> simp

@[simp] theorem Lane.rxFrame_pwr (L : Lane) (ch : Chan) (f : FrameIn) (unc : Nat) :
    (L.rxFrame ch f unc).pwr = L.pwr := by
  simp only [Lane.rxFrame]
  (repeat' split) <;> simp

@[simp] theorem Lane.txMissed_pwr (L : Lane) (ch : Chan) (slot : Nat) : (L.txMissed ch slot).pwr = L.pwr := by
  simp [Lane.txMissed]

@[simp] theorem Lane.ownExt_pwr (L : Lane) : L.ownExt.pwr = L.pwr := by simp [Lane.ownExt]

@[simp] theorem Lane.sendFrame_pwr (L : Lane) (ch : Chan) (service : Bool) (slot : Nat) (fill : Bool) :
    (L.sendFrame ch service slot fill).pwr = L.pwr := by simp [Lane.sendFrame]

@[simp] theorem Lane.launchStatic_pwr (L : Lane) (ch : Chan) (slot : Nat) :
    (L.launchStatic ch slot).pwr = L.pwr := by simp [Lane.launchStatic]

@[simp] theorem Lane.correct_pwr (L : Lane) : L.correct.pwr = L.pwr := by
  unfold Lane.correct
  (repeat' split) <;> simp

@[simp] theorem Lane.observedEnd_pwr (L : Lane) (peerActive : Bool) : (L.observedEnd peerActive).pwr = L.pwr := by
  simp [Lane.observedEnd]

@[simp] theorem Lane.cycleEnd_pwr (L : Lane) (peerActive : Bool) : (L.cycleEnd peerActive).pwr = L.pwr := by
  simp only [Lane.cycleEnd]
  split <;> simp

@[simp] theorem Lane.takePeerTime_pwr (L : Lane) (src : Lane) (t unc : Nat) :
    (L.takePeerTime src t unc).pwr = L.pwr := by simp [Lane.takePeerTime]

@[simp] theorem Lane.comparePeer_pwr (L : Lane) (t : Nat) : (L.comparePeer t).pwr = L.pwr := by
  simp [Lane.comparePeer]

/-! ### Services -/

@[simp] theorem Lane.refuseCommand_pwr (L : Lane) (num : Nat) (curvature : Bool) :
    (L.refuseCommand num curvature).pwr = L.pwr := by simp [Lane.refuseCommand]

@[simp] theorem Lane.stopFor_pwr (L : Lane) (c : Causes) : (L.stopFor c).pwr = L.pwr := by simp [Lane.stopFor]

@[simp] theorem Lane.judgeStop_pwr (L : Lane) : L.judgeStop.pwr = L.pwr := by simp [Lane.judgeStop]

@[simp] theorem Lane.task2_pwr (L : Lane) : L.task2.pwr = L.pwr := by simp [Lane.task2]

@[simp] theorem Lane.holdAngles_pwr (L : Lane) : L.holdAngles.pwr = L.pwr := by simp [Lane.holdAngles]

@[simp] theorem Lane.task1_pwr (L : Lane) : L.task1.pwr = L.pwr := by simp [Lane.task1]

@[simp] theorem Lane.task3_pwr (L : Lane) : L.task3.pwr = L.pwr := by simp [Lane.task3]

@[simp] theorem Lane.task4_pwr (L : Lane) : L.task4.pwr = L.pwr := by simp [Lane.task4]

@[simp] theorem Lane.task5_pwr (L : Lane) : L.task5.pwr = L.pwr := by simp [Lane.task5]

@[simp] theorem Lane.learn_pwr (L : Lane) (n : Fin 8) (t : Rat) : (L.learn n t).pwr = L.pwr := by simp [Lane.learn]

@[simp] theorem Lane.loopOf_pwr (L : Lane) (n : Fin 8) : (L.loopOf n).pwr = L.pwr := by
  unfold Lane.loopOf
  split <;> simp

@[simp] theorem Lane.task7_pwr (L : Lane) : L.task7.pwr = L.pwr := by
  simp only [Lane.task7]
  split <;> simp

@[simp] theorem Lane.task8_pwr (L : Lane) : L.task8.pwr = L.pwr := by simp [Lane.task8]

@[simp] theorem Lane.releaseStop_pwr (L : Lane) : L.releaseStop.pwr = L.pwr := by simp [Lane.releaseStop]

@[simp] theorem Lane.task9_pwr (L : Lane) (endUs : Nat) : (L.task9 endUs).pwr = L.pwr := by simp [Lane.task9]

@[simp] theorem Lane.runTask_pwr (L : Lane) (task endUs : Nat) : (L.runTask task endUs).pwr = L.pwr := by
  unfold Lane.runTask
  split <;> simp

@[simp] theorem Lane.staleNow_pwr (L : Lane) (k : AgeKind) : (L.staleNow k).pwr = L.pwr := by
  unfold Lane.staleNow
  (repeat' split) <;> simp

/-! ### Configuration checks -/

@[simp] theorem Lane.runCheck_pwr (get : Nat → Nat → Nat) (L : Lane) (kind : Nat) :
    (Lane.runCheck get L kind).pwr = L.pwr := by
  simp [Lane.runCheck]

@[simp] theorem Lane.checkAll_pwr (L : Lane) : L.checkAll.pwr = L.pwr := by simp [Lane.checkAll]

@[simp] theorem Lane.afterWrite_pwr (L : Lane) (idx sub : Nat) : (L.afterWrite idx sub).pwr = L.pwr := by
  simp [Lane.afterWrite]

/-! ### Safety inputs and stored sets -/

@[simp] theorem Lane.setIn_pwr (L : Lane) (i : Fin 8) (x : SafeIn) : (L.setIn i x).pwr = L.pwr := by
  simp [Lane.setIn]

@[simp] theorem Lane.latchTp_pwr (L : Lane) (i : Fin 8) (channel : Nat) : (L.latchTp i channel).pwr = L.pwr := by
  simp [Lane.latchTp]

@[simp] theorem Lane.readBack_pwr (L : Lane) (o ok : Bool) : (L.readBack o ok).pwr = L.pwr := by
  simp [Lane.readBack]

@[simp] theorem Lane.tpoRest_pwr (L : Lane) : L.tpoRest.pwr = L.pwr := by simp [Lane.tpoRest]

@[simp] theorem Lane.sampleSrst_pwr (L : Lane) (lv : Bool) : (L.sampleSrst lv).pwr = L.pwr := by
  simp [Lane.sampleSrst]

@[simp] theorem Lane.sampleSeal_pwr (L : Lane) (s1 s2 : Bool) : (L.sampleSeal s1 s2).pwr = L.pwr := by
  simp [Lane.sampleSeal]

@[simp] theorem Lane.sample_pwr (L : Lane) (n : Nat) (p : SafetyPins) : (L.sample n p).pwr = L.pwr := by
  simp [Lane.sample]

@[simp] theorem Lane.pulseIn_pwr (L : Lane) (i : Fin 8) (c1 c2 : Bool) : (L.pulseIn i c1 c2).pwr = L.pwr := by
  simp [Lane.pulseIn]

@[simp] theorem Lane.evalChk_pwr (L : Lane) : L.evalChk.pwr = L.pwr := by simp [Lane.evalChk]

@[simp] theorem Lane.storeSet_pwr (L : Lane) (n : Nat) : (L.storeSet n).pwr = L.pwr := by simp [Lane.storeSet]

@[simp] theorem Lane.logChange_pwr (L : Lane) (kind : Nat) (m : Master) (idx sub len old new ns : Nat) :
    (L.logChange kind m idx sub len old new ns).pwr = L.pwr := by simp [Lane.logChange]

@[simp] theorem Lane.pwFail_pwr (L : Lane) : L.pwFail.pwr = L.pwr := by simp [Lane.pwFail]

/-! ### Commits -/

@[simp] theorem Lane.holdField_pwr (L : Lane) (idx sub : Nat) : (L.holdField idx sub).pwr = L.pwr := by
  simp [Lane.holdField]

@[simp] theorem Lane.answerCommit_pwr (L : Lane) (c : Commit) (code : W32) :
    (L.answerCommit c code).pwr = L.pwr := by simp [Lane.answerCommit]

@[simp] theorem Lane.decideOne_pwr (L : Lane) (v : Vote) (out : Option W32) : (L.decideOne v out).pwr = L.pwr := by
  simp only [Lane.decideOne]
  split <;> simp

@[simp] theorem Lane.decideCommits_pwr (L : Lane) : L.decideCommits.pwr = L.pwr :=
  Lane.foldl_pwr (fun M _ => M.decideOne_pwr _ _) _ _

@[simp] theorem Lane.contactWritten_pwr (L : Lane) (i : CommitItem) : (L.contactWritten i).pwr = L.pwr := by
  unfold Lane.contactWritten
  split <;> simp

@[simp] theorem Lane.force_pwr (L : Lane) (c : Commit) (i : CommitItem) : (L.force c i).pwr = L.pwr := by
  simp [Lane.force]

@[simp] theorem Lane.remap_pwr (L : Lane) : L.remap.pwr = L.pwr := by simp [Lane.remap]

@[simp] theorem Lane.forceCommits_pwr (L : Lane) : L.forceCommits.pwr = L.pwr := by simp [Lane.forceCommits]

/-! ### Security -/

@[simp] theorem Lane.dbgFail_pwr (L : Lane) : L.dbgFail.pwr = L.pwr := by simp [Lane.dbgFail]

@[simp] theorem Lane.dbgOpen_pwr (L : Lane) : L.dbgOpen.pwr = { L.pwr with stopLine := true } := by
  simp [Lane.dbgOpen]

@[simp] theorem Lane.secureBoot_pwr (L : Lane) : L.secureBoot.pwr = L.pwr := by simp [Lane.secureBoot]

@[simp] theorem Lane.sbClose_pwr (L : Lane) (cause : Nat) : (L.sbClose cause).pwr = L.pwr := by simp [Lane.sbClose]

@[simp] theorem Lane.sbWake_pwrState (L : Lane) : L.sbWake.pwr.state = L.pwr.state := by
  unfold Lane.sbWake
  split <;> rfl

@[simp] theorem Lane.sbOpen_pwr (L : Lane) (c : W64) : (L.sbOpen c).pwr = L.pwr := by simp [Lane.sbOpen]

/-! ### Starts and saves -/

@[simp] theorem Lane.kilnWrite_pwr (L : Lane) : L.kilnWrite.pwr = L.pwr := by simp [Lane.kilnWrite]

@[simp] theorem Lane.starsDown_pwr (L : Lane) : L.starsDown.pwr = L.pwr := by simp [Lane.starsDown]

@[simp] theorem Lane.resetLogic_pwr (L : Lane) (keepWorking keepTime : Bool) :
    (L.resetLogic keepWorking keepTime).pwr = L.pwr := by simp +contextual [Lane.resetLogic]

@[simp] theorem Lane.resetMonitor_pwr (L : Lane) : L.resetMonitor.pwr = L.pwr := by simp [Lane.resetMonitor]

@[simp] theorem Lane.powerUp_pwrState (L : Lane) (kind : Nat) : (L.powerUp kind).pwr.state = .starting := rfl

@[simp] theorem Lane.restartAt_pwrState (L : Lane) (step kind : Nat) (keepTime wedgeOk : Bool) (owed : BitVec 16) :
    (L.restartAt step kind keepTime wedgeOk owed).pwr.state = .starting := rfl

@[simp] theorem Lane.saveBegin_pwr (L : Lane) :
    L.saveBegin.pwr = { L.pwr with
      stopLine := true, phase := 1, announce := true, vgdOn := false, exit := false, pending := 0, nflt := false } := rfl

@[simp] theorem Lane.saveEnd_pwr (L : Lane) : L.saveEnd.pwr = L.pwr := by simp [Lane.saveEnd]

/-! ### Recorder and memories -/

@[simp] theorem Lane.kilnSecond_pwr (L : Lane) : L.kilnSecond.pwr = L.pwr := by simp [Lane.kilnSecond]

@[simp] theorem Lane.raiseCells_pwr (L : Lane) (cells : List FailCell) : (L.raiseCells cells).pwr = L.pwr :=
  Lane.foldl_pwr (fun M _ => M.raise_pwr ..) _ _

@[simp] theorem Lane.groupEnd_pwr (L : Lane) (cells : List FailCell) : (L.groupEnd cells).pwr = L.pwr := by
  simp [Lane.groupEnd]

@[simp] theorem Lane.passEnd_noRunGained (L : Lane) : L.NoRunGained L.passEnd := by
  simp only [Lane.passEnd]
  split <;> simp

@[simp] theorem Lane.testBegin_pwrState (L : Lane) (m : Master) : (L.testBegin m).pwr.state = .starting := rfl

@[simp] theorem Lane.testDemand_pwr (L : Lane) : L.testDemand.pwr = L.pwr := by simp [Lane.testDemand]

@[simp] theorem Lane.lptWrite_pwr (L : Lane) (m : Master) (tid : Nat) (data : List Byte) (rx : LptRx) :
    (L.lptWrite m tid data rx).pwr = L.pwr := by
  simp only [Lane.lptWrite]
  split <;> simp

@[simp] theorem Lane.lptDemand_pwr (L : Lane) : L.lptDemand.pwr = L.pwr := by simp [Lane.lptDemand]

/-! ### Power requests -/

@[simp] theorem Lane.enter_pwr (L : Lane) (toOff : Bool) :
    (L.enter toOff).pwr = { L.saveBegin.pwr with
      toOff := toOff, abandon := false, asleep := false, latched := false, exitTo := 0, exitPassive := false } := rfl

@[simp] theorem Lane.goOff_pwrState (L : Lane) : L.goOff.pwr.state = .off := rfl

@[simp] theorem Lane.wakeUp_pwrState (L : Lane) (src : Byte) : (L.wakeUp src).pwr.state = .starting := rfl

@[simp] theorem Lane.preEmpt_noRunGained (L : Lane) (src : Byte) : L.NoRunGained (L.preEmpt src) := by
  simp only [Lane.preEmpt]
  (repeat' split) <;> simp

@[simp] theorem Lane.exitFor_pwr (L : Lane) (k : Nat) : (L.exitFor k).pwr = { L.pwr with exit := true, exitTo := k } := rfl

@[simp] theorem Lane.stay_pwrState (L : Lane) (k : Nat) : (L.stay k).pwr.state = L.pwr.state := by
  unfold Lane.stay
  split <;> rfl

@[simp] theorem Lane.reqStarting_pwrState (L : Lane) (m : Master) (k : Nat) :
    (L.reqStarting m k).1.pwr.state = L.pwr.state := by
  unfold Lane.reqStarting
  (repeat' split) <;> simp

@[simp] theorem Lane.reqEntry_noRunGained (L : Lane) (k : Nat) : L.NoRunGained (L.reqEntry k).1 := by
  unfold Lane.reqEntry
  (repeat' split)
  · simp
  · simp
  · simp
  · exact L.preEmpt_noRunGained 4

/-! ### First half of a vote cycle -/

@[simp] theorem Lane.judgeLinks_pwr (L : Lane) (s : State) : (L.judgeLinks s).pwr = L.pwr := by
  simp [Lane.judgeLinks]

@[simp] theorem Lane.countNet_pwr (L : Lane) : L.countNet.pwr = L.pwr := by simp [Lane.countNet]

@[simp] theorem Lane.countCycle_pwrState (L : Lane) : L.countCycle.pwr.state = L.pwr.state := by
  simp [Lane.countCycle]

@[simp] theorem Lane.freshFlags_pwr (L : Lane) : L.freshFlags.pwr = L.pwr := by simp [Lane.freshFlags]

@[simp] theorem Lane.startCycle_pwrState (L : Lane) (s : State) (k : Nat) :
    (L.startCycle s k).pwr.state = L.pwr.state := by
  unfold Lane.startCycle; split <;> simp

@[simp] theorem Lane.revSync_pwr (L : Lane) : L.revSync.pwr = L.pwr := by
  refine Lane.foldl_pwr (fun M b => ?_) _ _
  (repeat' split) <;> simp

@[simp] theorem Lane.closeReads_pwr (L : Lane) : L.closeReads.pwr = L.pwr := by simp [Lane.closeReads]

@[simp] theorem Lane.close_pwr (L : Lane) : L.close.pwr = L.pwr := by simp [Lane.close]

@[simp] theorem Lane.takeDirect_pwr (L : Lane) (src : LaneId) (x : InSet) (crcOk use : Bool) :
    (L.takeDirect src x crcOk use).pwr = L.pwr := by simp [Lane.takeDirect]

@[simp] theorem Lane.takeRelayed_pwr (L : Lane) (src : LaneId) (x : InSet) (crcOk : Bool) :
    (L.takeRelayed src x crcOk).pwr = L.pwr := by simp [Lane.takeRelayed]

/-! ### Agreement -/

@[simp] theorem Lane.missing_pwr (L : Lane) (s : State) : (L.missing s).pwr = L.pwr := by simp [Lane.missing]

@[simp] theorem Lane.judgeContact_pwrState (L : Lane) : L.judgeContact.pwr.state = L.pwr.state := by
  simp only [Lane.judgeContact]
  (repeat' split) <;> simp

@[simp] theorem Lane.discipline_pwr (L : Lane) (ofs : Int) (synced : Bool) :
    (L.discipline ofs synced).pwr = L.pwr := by simp [Lane.discipline]

@[simp] theorem Lane.judgeClose_pwrState (L : Lane) (s : State) : (L.judgeClose s).pwr.state = L.pwr.state := by
  simp only [Lane.judgeClose]
  (repeat' split) <;> simp

@[simp] theorem Lane.judgeExt_pwr (L : Lane) : L.judgeExt.pwr = L.pwr := by simp [Lane.judgeExt]

@[simp] theorem Lane.judgeSource_pwr (L : Lane) (n : Nat) (d : InDesc) (a : Int) (p : LaneId) :
    (L.judgeSource n d a p).pwr = L.pwr := by
  simp only [Lane.judgeSource]
  (repeat' split) <;> simp

@[simp] theorem Lane.agreeInput_pwr (L : Lane) (n : Nat) : (L.agreeInput n).1.pwr = L.pwr := by
  have sources (d : InDesc) (a : Int) : (allLanes.foldl (fun M p => M.judgeSource n d a p) L).pwr = L.pwr :=
    Lane.foldl_pwr (fun M p => M.judgeSource_pwr n d a p) _ _
  unfold Lane.agreeInput
  cases L.input n with
  | none => rfl
  | some d =>
    dsimp only
    cases d.cls with
    | discrete => simp [sources]
    | analogue => simp [sources]
    | sequenced => dsimp only; split <;> simp
    | perLane => rfl

@[simp] theorem Lane.agreeInputs_pwr (L : Lane) : L.agreeInputs.pwr = L.pwr :=
  List.foldlRecOn L.inputNums _ (motive := fun acc : Lane × List Agreed => acc.1.pwr = L.pwr) rfl
    fun acc hacc n _ => (acc.1.agreeInput_pwr n).trans hacc

@[simp] theorem Lane.judgeShafts_pwr (L : Lane) : L.judgeShafts.pwr = L.pwr := by
  refine Lane.foldl_pwr (fun M b => ?_) _ _
  (repeat' split) <;> simp

@[simp] theorem Lane.agreeOwn_pwr (L : Lane) : L.agreeOwn.pwr = L.pwr := by simp [Lane.agreeOwn]

@[simp] theorem Lane.exitStepOf_pwr (L : Lane) (p : LaneId) : (L.exitStepOf p).pwr = L.pwr := by
  simp only [Lane.exitStepOf]
  (repeat' split) <;> simp

@[simp] theorem Lane.judgeExits_pwrState (L : Lane) : L.judgeExits.pwr.state = L.pwr.state := by
  simp only [Lane.judgeExits]
  split
  · rfl
  · exact Lane.foldl_pwrState (fun M p => congrArg Pwr.state (M.exitStepOf_pwr p)) _ _

@[simp] theorem Lane.judgeReports_pwr (L : Lane) : L.judgeReports.pwr = L.pwr :=
  Lane.foldl_pwr (fun M k => M.onLink_pwr k _) _ _

@[simp] theorem Lane.agreeAll_pwrState (L : Lane) (s : State) : (L.agreeAll s).pwr.state = L.pwr.state := by
  simp only [Lane.agreeAll]
  (repeat' split) <;> simp

@[simp] theorem Lane.agree_pwrState (L : Lane) (s : State) : (L.agree s).pwr.state = L.pwr.state := by
  unfold Lane.agree
  (repeat' split) <;> simp

/-! ### Second half of a vote cycle -/

@[simp] theorem Lane.missDeadline_pwr (L : Lane) : L.missDeadline.pwr = L.pwr := by simp [Lane.missDeadline]

@[simp] theorem Lane.meetDeadline_pwr (L : Lane) : L.meetDeadline.pwr = L.pwr := by simp [Lane.meetDeadline]

@[simp] theorem Lane.deadline_pwr (L : Lane) : L.deadline.pwr = L.pwr := by simp [Lane.deadline]

@[simp] theorem Lane.offer_pwr (L : Lane) (src : LaneId) (x : OutSet) (flagged : Bool) :
    (L.offer src x flagged).pwr = L.pwr := by simp [Lane.offer]

@[simp] theorem Lane.takeOutput_pwr (L : Lane) (src : LaneId) (x : OutSet) (direct use flagged : Bool) :
    (L.takeOutput src x direct use flagged).pwr = L.pwr := by simp [Lane.takeOutput]

@[simp] theorem Lane.enterPassive_pwr (L : Lane) : L.enterPassive.pwr = L.pwr := by
  unfold Lane.enterPassive
  split
  · rfl
  · refine (Lane.settleAll_pwr _).trans (Lane.foldl_pwr (fun M b => ?_) _ _)
    (repeat' split) <;> simp

@[simp] theorem Lane.lostPassive_pwr (L : Lane) : L.lostPassive.pwr = L.pwr := by
  unfold Lane.lostPassive
  split
  · rfl
  · dsimp only
    split
    · rfl
    · refine (Lane.settleAll_pwr _).trans (Lane.foldl_pwr (fun M b => ?_) _ _)
      (repeat' split) <;> simp

@[simp] theorem Lane.moduleSafe_pwr (L : Lane) : L.moduleSafe.pwr = L.pwr := by
  unfold Lane.moduleSafe
  split <;> simp +contextual

@[simp] theorem Lane.outvote_pwrState (L : Lane) (p : LaneId) : (L.outvote p).pwr.state = L.pwr.state := by
  simp only [Lane.outvote]
  split <;> simp

@[simp] theorem Lane.unresolve_pwrState (L : Lane) : L.unresolve.pwr.state = L.pwr.state := by
  simp only [Lane.unresolve]
  split <;> simp

@[simp] theorem Lane.noAgreed_pwr (L : Lane) (code run : Nat) : (L.noAgreed code run).pwr = L.pwr := by
  unfold Lane.noAgreed
  dsimp only
  split
  · exact (L.raise code _ 0 _).moduleSafe_pwr
  · simp

@[simp] theorem Lane.decision_pwrState (L : Lane) (d : Decided) : (L.decision d).pwr.state = L.pwr.state := by
  unfold Lane.decision
  cases d with
  | agreed x o f => cases o <;> cases f <;> simp
  | none_ => rfl
  | three => simp
  | noDriver => simp
  | unresolved => simp

@[simp] theorem Lane.judgeShadow_pwr (L : Lane) (ref : Option OutSet) : (L.judgeShadow ref).pwr = L.pwr := by
  simp [Lane.judgeShadow]

@[simp] theorem Lane.handSetpoints_pwr (L : Lane) : L.handSetpoints.pwr = L.pwr := by
  have onBridges (f : Fin 8 → Bridge → Bridge) (own : List (Fin 8 × Fin 8)) (M : Lane) :
      (own.foldl (fun M x => M.onBr x.1 (f x.2)) M).pwr = M.pwr := Lane.foldl_pwr (fun M x => M.onBr_pwr ..) _ _
  simp only [Lane.handSetpoints]
  (repeat' split)
  · rfl
  · exact onBridges (fun _ br => { br with stale := true }) _ _
  next o _ _ _ _ _ _ =>
    exact onBridges (fun n br => { br with spPending := some ((o.iq.get L.id).get n) }) _ _
  · exact (Lane.foldl_pwr (fun M x => M.raise_pwr ..) _ _).trans (onBridges (fun _ br => { br with stale := true }) _ _)

@[simp] theorem Lane.missReaction_pwrState (L : Lane) : L.missReaction.pwr.state = L.pwr.state := by
  unfold Lane.missReaction
  split <;> simp

@[simp] theorem Lane.splitFault_pwrState (L : Lane) : L.splitFault.pwr.state = L.pwr.state := by
  simp [Lane.splitFault]

@[simp] theorem Lane.compare_pwrState (L : Lane) (s : State) (f : Bool) : (L.compare s f).pwr.state = L.pwr.state := by
  simp only [Lane.compare]
  (repeat' split) <;> simp

@[simp] theorem Lane.runApplies_pwr (L : Lane) : L.runApplies.pwr = L.pwr := by simp [Lane.runApplies]

@[simp] theorem Lane.apply_pwrState (L : Lane) : L.apply.pwr.state = L.pwr.state := by
  simp only [Lane.apply]
  (repeat' split) <;> simp

@[simp] theorem Lane.takeConfig_pwr (L : Lane) (src : Lane) : (L.takeConfig src).pwr = L.pwr := by
  simp [Lane.takeConfig]

@[simp] theorem Lane.adopt_pwr (L : Lane) (src : Lane) : (L.adopt src).pwr = L.pwr := by simp [Lane.adopt]

@[simp] theorem Lane.diverge_pwrState (L src : Lane) : (L.diverge src).pwr.state = L.pwr.state := by
  simp only [Lane.diverge]
  split <;> simp

@[simp] theorem Lane.useCopy_pwrState (L src : Lane) : (L.useCopy src).pwr.state = L.pwr.state := by
  unfold Lane.useCopy
  (repeat' split) <;> simp

@[simp] theorem Lane.takeCopy_pwrState (L : Lane) (src : Lane) (direct use : Bool) :
    (L.takeCopy src direct use).pwr.state = L.pwr.state := by
  simp only [Lane.takeCopy]
  (repeat' split) <;> simp

@[simp] theorem Lane.endShadow_pwr (L : Lane) (s : State) : (L.endShadow s).pwr = L.pwr := by simp [Lane.endShadow]

@[simp] theorem Lane.copyEnd_pwr (L : Lane) (s : State) : (L.copyEnd s).pwr = L.pwr := by simp [Lane.copyEnd]

/-! ### Roles -/

@[simp] theorem Lane.cutLink_pwr (L : Lane) (k : LinkId) : (L.cutLink k).pwr = L.pwr := by simp [Lane.cutLink]

@[simp] theorem Lane.isolateLink_pwr (L : Lane) (k : LinkId) : (L.isolateLink k).pwr = L.pwr := by
  simp [Lane.isolateLink]

@[simp] theorem Lane.returnLink_pwr (L : Lane) (k : LinkId) : (L.returnLink k).pwr = L.pwr := by
  simp [Lane.returnLink]

@[simp] theorem Lane.restartOut_pwrState (L : Lane) : L.restartOut.pwr.state = .starting := by
  simp only [Lane.restartOut]
  split <;> simp

@[simp] theorem Lane.proceed_noRunGained (L : Lane) (k : Nat) : L.NoRunGained (L.proceed k) := by
  simp only [Lane.proceed]
  split <;> simp

@[simp] theorem Lane.leaveDrive_pwr (L : Lane) : L.leaveDrive.pwr = { L.pwr with stopLine := true } := rfl

@[simp] theorem Lane.moduleStart_pwr (L : Lane) (ds : List LaneId) : (L.moduleStart ds).pwr = L.pwr := by
  simp [Lane.moduleStart]

/-! ### Uplink -/

@[simp] theorem Lane.ctEnd_pwr (L : Lane) (m : Master) (reason num : Nat) : (L.ctEnd m reason num).pwr = L.pwr := by
  simp [Lane.ctEnd]

@[simp] theorem Lane.ctSubmit_pwr (L : Lane) (m : Master) (r : Nat) : (L.ctSubmit m r).pwr = L.pwr := by
  simp only [Lane.ctSubmit]
  split <;> simp

@[simp] theorem Lane.telemSnapshot_pwr (L : Lane) : L.telemSnapshot.pwr = L.pwr := by simp [Lane.telemSnapshot]

@[simp] theorem Lane.txCommit_pwr (L : Lane) : L.txCommit.pwr = L.pwr := by simp [Lane.txCommit]

@[simp] theorem Lane.windowEmpty_pwr (L : Lane) (c : Contract) : (L.windowEmpty c).pwr = L.pwr := by
  simp [Lane.windowEmpty]

@[simp] theorem Lane.windowSend_pwr (L : Lane) (c : Contract) (prod : Nat) (r : Record) :
    (L.windowSend c prod r).pwr = L.pwr := by simp [Lane.windowSend]

@[simp] theorem Lane.rxDrop_pwr (L : Lane) : L.rxDrop.pwr = L.pwr := by simp [Lane.rxDrop]

@[simp] theorem Lane.reply_pwr (L : Lane) : L.reply.pwr = L.pwr := by simp [Lane.reply]

@[simp] theorem Lane.authDrop_pwr (L : Lane) : L.authDrop.pwr = L.pwr := by simp [Lane.authDrop]

theorem Lane.datagram_pwr (L : Lane) (d : Datagram) (forward : Bool) {serve : Lane → Lane}
    (h : ∀ M : Lane, (serve M).pwr = M.pwr) : (L.datagram d forward serve).pwr = L.pwr := by
  unfold Lane.datagram
  split
  · simp
  · dsimp only
    split
    · simp
    · exact h _

@[simp] theorem Lane.takeForward_pwr (L : Lane) (tag : Nat) (payload : List Byte) :
    (L.takeForward tag payload).pwr = L.pwr := by
  unfold Lane.takeForward
  split <;> simp

/-! ### Restore -/

@[simp] theorem Lane.heldReset_pwrState (L : Lane) : L.heldReset.pwr.state = .starting := rfl

@[simp] theorem Lane.phase1End_noRunGained (L : Lane) : L.NoRunGained L.phase1End := by
  simp only [Lane.phase1End]
  split <;> simp

@[simp] theorem Lane.phase2End_noRunGained (L : Lane) : L.NoRunGained L.phase2End := by
  unfold Lane.phase2End
  (repeat' split) <;> simp

@[simp] theorem Lane.phase3End_pwr (L : Lane) (r : PhaseReport) :
    (L.phase3End r).pwr = { L.pwr with phase := 4, asleep := true } := by simp [Lane.phase3End]

@[simp] theorem Lane.phase4End_noRunGained (L : Lane) : L.NoRunGained L.phase4End := by
  simp only [Lane.phase4End]
  (repeat' split) <;> simp

@[simp] theorem Lane.allotted_pwrState (L : Lane) : L.allotted.pwr.state = L.pwr.state := by simp [Lane.allotted]

@[simp] theorem Lane.stuck_pwr (L : Lane) (code : Nat) (detId : Nat) :
    (L.stuck code detId).pwr = { L.pwr with stuckAt := true } := by simp [Lane.stuck]

@[simp] theorem Lane.toStep_pwr (L : Lane) (k : Nat) : (L.toStep k).pwr = { L.pwr with step := k } := rfl

@[simp] theorem Lane.step1End_pwrState (L : Lane) : L.step1End.pwr.state = L.pwr.state := by
  unfold Lane.step1End
  split <;> simp

@[simp] theorem Lane.step2End_pwrState (L : Lane) (done : Bool) : (L.step2End done).pwr.state = L.pwr.state := by
  unfold Lane.step2End
  split <;> simp

@[simp] theorem Lane.step3End_pwrState (L : Lane) (done : Bool) : (L.step3End done).pwr.state = L.pwr.state := by
  unfold Lane.step3End
  split <;> simp

@[simp] theorem Lane.step4End_pwrState (L : Lane) (done : Bool) : (L.step4End done).pwr.state = L.pwr.state := by
  unfold Lane.step4End
  split <;> simp

@[simp] theorem Lane.mapMarked_pwr (L : Lane) : L.mapMarked.pwr = L.pwr :=
  Lane.foldl_pwr (fun M _ => M.raise_pwr ..) _ _

@[simp] theorem Lane.step5End_pwrState (L : Lane) (done : Bool) (cells : List FailCell) :
    (L.step5End done cells).pwr.state = L.pwr.state := by
  simp only [Lane.step5End]
  split <;> simp

@[simp] theorem Lane.takePins_pwr (L : Lane) (pins : Option (Nat × Nat)) : (L.takePins pins).pwr = L.pwr := by
  unfold Lane.takePins
  split <;> simp

@[simp] theorem Lane.restoreSet_pwr (L : Lane) : L.restoreSet.pwr = L.pwr := by
  unfold Lane.restoreSet
  split <;> simp

@[simp] theorem Lane.loadSched_pwr (L : Lane) : L.loadSched.pwr = L.pwr := by simp [Lane.loadSched]

@[simp] theorem Lane.step6End_pwrState (L : Lane) (done : Bool) (pins : Option (Nat × Nat)) :
    (L.step6End done pins).pwr.state = L.pwr.state := by
  simp only [Lane.step6End]
  (repeat' split) <;> simp

@[simp] theorem Lane.integrate_pwr (L : Lane) : L.integrate.pwr = L.pwr := by simp [Lane.integrate]

@[simp] theorem Lane.readmit_pwr (L : Lane) : L.readmit.pwr = L.pwr := by
  refine Lane.foldl_pwr (fun M c => ?_) _ _
  dsimp only
  split <;> simp

theorem Lane.tb_sleep_pwr (L : Lane) (x : TimeBase) (y : Sleep) : ({ L with tb := x, sleep := y } : Lane).pwr = L.pwr := rfl

@[simp] theorem Lane.seedWake_pwr (L : Lane) (cw : Nat) : (L.seedWake cw).pwr = L.pwr := by
  unfold Lane.seedWake
  split
  · exact (Lane.enterHoldover_pwr _ _).trans ((Lane.tb_sleep_pwr _ _ _).trans (L.setTime_pwr _))
  · exact ((L.setTime _).raise_pwr _ _ _ _).trans (L.setTime_pwr _)

@[simp] theorem Lane.seedTime_pwr (L : Lane) (peer : Option (Nat × Lane)) (unc cw : Nat) :
    (L.seedTime peer unc cw).pwr = L.pwr := by
  unfold Lane.seedTime
  split <;> simp

@[simp] theorem Lane.step7End_pwr (L : Lane) (peer : Option (Nat × Lane)) (unc cw : Nat) :
    (L.step7End peer unc cw).pwr = { L.pwr with step := 8, stopLine := false } := by simp [Lane.step7End]

@[simp] theorem Lane.bridgeStart_pwr (L : Lane) (fails : Oct Bool) (b : Fin 8) :
    (L.bridgeStart fails b).pwr = L.pwr := by
  simp only [Lane.bridgeStart]
  split <;> simp

@[simp] theorem Lane.chopStart_pwr (L : Lane) (i : Rat × Rat × Rat) : (L.chopStart i).pwr = L.pwr := by
  simp [Lane.chopStart]

@[simp] theorem Lane.step8End_pwrState (L : Lane) (r : StepReport) : (L.step8End r).pwr.state = L.pwr.state := by
  simp only [Lane.step8End]
  split <;> simp

@[simp] theorem Lane.stepEnd_pwrState (L : Lane) (r : StepReport) (peer : Option (Nat × Lane)) (unc : Nat) :
    (L.stepEnd r peer unc).pwr.state = L.pwr.state := by
  simp only [Lane.stepEnd]
  (repeat' split) <;> simp

/-! ### Dictionary server -/

@[simp] theorem Lane.onResult_pwr (L : Lane) (k : ResultKind) (f : Res3 → Res3) : (L.onResult k f).pwr = L.pwr := by
  unfold Lane.onResult
  split <;> simp

@[simp] theorem Lane.consumeRead_pwr (L : Lane) (m : Master) (idx sub : Nat) :
    (L.consumeRead m idx sub).pwr = L.pwr := by
  unfold Lane.consumeRead
  split <;> simp

@[simp] theorem Lane.answerData_pwr (L : Lane) (m : Master) (tid idx sub ofs total : Nat) (data : List Byte)
    (last : Bool) : (L.answerData m tid idx sub ofs total data last).pwr = L.pwr := by simp [Lane.answerData]

@[simp] theorem Lane.readFirst_pwr (L : Lane) (m : Master) (tid key idx sub len : Nat) (value : List Byte) :
    (L.readFirst m tid key idx sub len value).pwr = L.pwr := by
  simp only [Lane.readFirst]
  split <;> simp

@[simp] theorem Lane.readNext_pwr (L : Lane) (m : Master) (tid key idx sub ofs len : Nat) :
    (L.readNext m tid key idx sub ofs len).pwr = L.pwr := by
  unfold Lane.readNext
  split <;> simp

@[simp] theorem Lane.serveRead_pwrState (L P : Lane) (m : Master) (tid key idx sub ofs len : Nat) :
    (L.serveRead P m tid key idx sub ofs len).pwr.state = L.pwr.state := by
  simp only [Lane.serveRead]
  (repeat' split) <;> simp

@[simp] theorem Lane.readDraw_pwrState (L : Lane) (m : Master) (tid key idx sub len : Nat) (c : W64) :
    (L.readDraw m tid key idx sub len c).pwr.state = L.pwr.state := by
  simp only [Lane.readDraw]
  (repeat' split) <;> simp

@[simp] theorem Lane.supReply_pwr (L : Lane) : L.supReply.pwr = L.pwr := by
  unfold Lane.supReply
  split <;> simp

@[simp] theorem Lane.takeSegment_pwr (L : Lane) (m : Master) (tid idx sub ofs total : Nat) (data : List Byte) :
    (L.takeSegment m tid idx sub ofs total data).pwr = L.pwr := by
  unfold Lane.takeSegment
  (repeat' split) <;> simp

@[simp] theorem Lane.storeLocal_pwr (L : Lane) (m : Master) (idx sub raw : Nat) :
    (L.storeLocal m idx sub raw).pwr = L.pwr := by simp [Lane.storeLocal]

@[simp] theorem Lane.plainWrite_pwr (L : Lane) (m : Master) (tid idx sub : Nat) (data : List Byte)
    (g : Option Nat) : (L.plainWrite m tid idx sub data g).pwr = L.pwr := by
  unfold Lane.plainWrite
  split <;> simp

@[simp] theorem Lane.uplStatusWrite_pwr (L : Lane) (m : Master) (tid : Nat) (data : List Byte) :
    (L.uplStatusWrite m tid data).pwr = L.pwr :=
  L.write_pwr _ _ _ _ _ _ fun _ => rfl

@[simp] theorem Lane.tsqStatusWrite_pwr (L : Lane) (m : Master) (tid : Nat) (q : TsqId) (data : List Byte) :
    (L.tsqStatusWrite m tid q data).pwr = L.pwr :=
  L.write_pwr _ _ _ _ _ _ fun _ => rfl

@[simp] theorem Lane.setStage_pwr (L : Lane) (k : Fin 5) (g : Staging) : (L.setStage k g).pwr = L.pwr := by
  simp [Lane.setStage]

@[simp] theorem Lane.installed_pwr (L : Lane) (k : Fin 5) (i : List Byte) : (L.installed k i).pwr = L.pwr := by
  simp [Lane.installed]

@[simp] theorem Lane.windowWrite_pwr (L : Lane) (m : Master) (tid : Nat) (data : List Byte) (g : Option Nat) :
    (L.windowWrite m tid data g).pwr = L.pwr := by
  simp only [Lane.windowWrite]
  (repeat' split) <;> simp

@[simp] theorem Lane.tagFail_pwr (L : Lane) : L.tagFail.pwr = L.pwr := by simp [Lane.tagFail]

/-! ### Fault events -/

@[simp] theorem Lane.positionOut_pwr (L : Lane) (b : Fin 8) (kind code : Nat) :
    (L.positionOut b kind code).pwr = L.pwr := by simp [Lane.positionOut]

@[simp] theorem Lane.linkOut_pwr (L : Lane) (kind : Nat) : (L.linkOut kind).pwr = L.pwr := by simp [Lane.linkOut]

@[simp] theorem Lane.inputOut_pwr (L : Lane) (unit kind : Nat) : (L.inputOut unit kind).pwr = L.pwr := by
  unfold Lane.inputOut
  split <;> simp

@[simp] theorem Lane.sourceOut_pwr (L : Lane) (n lane : Nat) : (L.sourceOut n lane).pwr = L.pwr := by
  simp [Lane.sourceOut]

@[simp] theorem Lane.linkNumOut_pwr (L : Lane) (k : Nat) : (L.linkNumOut k).pwr = L.pwr := by
  unfold Lane.linkNumOut
  split <;> simp

@[simp] theorem Lane.takeOut_pwr (L : Lane) (code detId : Nat) : (L.takeOut code detId).pwr = L.pwr := by
  simp only [Lane.takeOut]
  (repeat' split) <;> simp

@[simp] theorem Lane.react_pwrState (L : Lane) (code level detId : Nat) :
    (L.react code level detId).pwr.state = L.pwr.state := by
  unfold Lane.react
  split <;> simp

@[simp] theorem Lane.record_pwr (L : Lane) (code level detId detVal : Nat) (full : Bool) :
    (L.record code level detId detVal full).pwr = L.pwr := by simp [Lane.record]

@[simp] theorem Lane.discard_pwr (L : Lane) (h : Held) : (L.discard h).pwr = L.pwr := by
  unfold Lane.discard
  split <;> simp

end Sys2Proof.Machine
end

section
/-! PROOFS, what each command leaves of the power states: none but a request for RUN and the start of a vote cycle
brings a lane into RUN. -/
namespace Sys2Proof.Machine

/-! ### The module -/

/-- No lane comes into RUN. -/
def State.NoRunGained (s t : State) : Prop := ∀ l, (s.lane l).NoRunGained (t.lane l)

/-- The answer of a command, where it is a next state, has no lane come into RUN. -/
def State.NoNewRun (s : State) (o : Host.Outcome State Fault Refusal) : Prop := ∀ t, o = .next t → s.NoRunGained t

theorem State.NoRunGained.refl (s : State) : s.NoRunGained s := fun _ h => h

theorem State.NoRunGained.trans {s t u : State} (h : s.NoRunGained t) (h' : t.NoRunGained u) : s.NoRunGained u :=
  fun l hu => h l (h' l hu)

@[simp] theorem State.noRunGained_self (s : State) : s.NoRunGained s := State.NoRunGained.refl s

@[simp] theorem State.noRunGained_on_iff (s : State) (l : LaneId) (f : Lane → Lane) :
    s.NoRunGained (s.on l f) ↔ (s.lane l).NoRunGained (f (s.lane l)) := by
  refine ⟨fun h => by simpa using h l, fun h p => ?_⟩
  by_cases hp : p = l
  · subst hp; simpa using h
  · simp [hp]

@[simp] theorem State.noRunGained_onAll_iff (s : State) (f : Lane → Lane) :
    s.NoRunGained (s.onAll f) ↔ ∀ l, (s.lane l).NoRunGained (f (s.lane l)) := by
  simp [State.NoRunGained]

@[simp] theorem State.noNewRun_next_iff (s t : State) : s.NoNewRun (.next t) ↔ s.NoRunGained t :=
  ⟨fun h => h t rfl, fun h _ ht => by cases ht; exact h⟩

@[simp] theorem State.noNewRun_on_iff (s : State) (l : LaneId) (f : Lane → Lane) :
    s.NoNewRun (.next (s.on l f)) ↔ (s.lane l).NoRunGained (f (s.lane l)) := by
  rw [State.noNewRun_next_iff, State.noRunGained_on_iff]

@[simp] theorem State.noNewRun_onAll_iff (s : State) (f : Lane → Lane) :
    s.NoNewRun (.next (s.onAll f)) ↔ ∀ l, (s.lane l).NoRunGained (f (s.lane l)) := by
  rw [State.noNewRun_next_iff, State.noRunGained_onAll_iff]

theorem State.on_noRunGained (s : State) (l : LaneId) {f : Lane → Lane} (h : ∀ L : Lane, L.NoRunGained (f L)) :
    s.NoRunGained (s.on l f) :=
  (State.noRunGained_on_iff _ _ _).2 (h _)

theorem State.onAll_noRunGained (s : State) {f : Lane → Lane} (h : ∀ L : Lane, L.NoRunGained (f L)) :
    s.NoRunGained (s.onAll f) :=
  (State.noRunGained_onAll_iff _ _).2 fun _ => h _

/-- A complete write whose action keeps the power group. -/
theorem State.noNewRun_write (s : State) (l : LaneId) (m : Master) (tid : Nat) (idx : Lane → Nat)
    (sub : Nat) (data : List Byte) (present : Lane → Bool) (act : Lane → Lane → Lane)
    (h : ∀ L M : Lane, (act L M).pwr = M.pwr) :
    s.NoNewRun (.next (s.on l fun L => L.write m tid (idx L) sub data (present L) (act L))) := by
  rw [State.noNewRun_on_iff, Lane.NoRunGained, Lane.write_pwr _ _ _ _ _ _ _ (h _)]
  exact id

theorem State.noRunGained_freeCtr_iff (s t : State) (n : Nat) :
    s.NoRunGained { t with freeCtr := n } ↔ s.NoRunGained t := Iff.rfl

/-- A lane that starts anew leaves every power group. -/
@[simp] theorem State.lane_laneStarted_pwr (s : State) (l p : LaneId) : ((s.laneStarted l).lane p).pwr = (s.lane p).pwr := by
  rw [State.laneStarted, State.lane_onAll]
  exact Lane.foldl_pwr (fun M k => by split <;> simp) allLinks _

/-- A lane that starts anew, then acts. -/
theorem State.started_on_noRunGained (s : State) (l : LaneId) {f : Lane → Lane}
    (h : ∀ L : Lane, L.NoRunGained (f L)) :
    s.NoRunGained ((s.laneStarted l).on l f) :=
  State.NoRunGained.trans (fun p hp => by rwa [State.lane_laneStarted_pwr] at hp) (State.on_noRunGained _ l h)

/-- The state that the command of a written object leads to. -/
theorem State.after_noRunGained {s : State} {o : Host.Outcome State Fault Refusal} (h : s.NoNewRun o) :
    s.NoRunGained (s.after o) := by
  cases o with
  | next t => exact h t rfl
  | fault _ => exact .refl s
  | refused _ => exact .refl s

theorem State.serveRead_noRunGained (s : State) (l : LaneId) (m : Master) (tid key idx sub ofs len : Nat) :
    s.NoRunGained (s.serveRead l m tid key idx sub ofs len) := by
  unfold State.serveRead
  split
  · exact State.on_noRunGained s.drawn l fun L => by simp
  · exact s.on_noRunGained l fun L => by simp

theorem State.lptWrite_noRunGained (s : State) (l : LaneId) (m : Master) (tid : Nat) (data : List Byte) (rx : LptRx) :
    s.NoRunGained (s.lptWrite l m tid data rx) := by
  have own := s.on_noRunGained l (f := fun L => L.lptWrite m tid data (s.lptRx l rx)) fun L => by simp
  unfold State.lptWrite
  dsimp only
  split
  · split
    · exact own.trans (State.on_noRunGained _ _ fun _ => id)
    · exact own
  · exact own

@[simp] theorem State.lane_views_pwr (s : State) (l : LaneId) : (s.views.lane l).pwr = (s.lane l).pwr := by
  rw [State.views, State.lane_onAll]
  split <;> rfl

@[simp] theorem State.lane_viewsNow_pwr (s : State) (l : LaneId) : (s.viewsNow.lane l).pwr = (s.lane l).pwr := by
  rw [State.viewsNow, State.lane_onAll]
  split <;> rfl

@[simp] theorem State.lane_succeed_pwr (s : State) (l : LaneId) : (s.succeed.lane l).pwr = (s.lane l).pwr := by
  unfold State.succeed
  dsimp only
  (repeat' split)
  · rfl
  · rfl
  · rw [State.lane_on]; split <;> rfl
  · rfl

/-! ### Commands -/

@[simp] theorem execClockCheck_noNewRun (l : LaneId) (ppm : Rat) (s : State) : s.NoNewRun (execClockCheck l ppm s) := by
  simp only [execClockCheck, State.noNewRun_on_iff]
  (repeat' split) <;> simp

@[simp] theorem execPllUnlock_noNewRun (l : LaneId) (net : Bool) (s : State) : s.NoNewRun (execPllUnlock l net s) := by
  simp only [execPllUnlock, State.noNewRun_on_iff]
  split <;> simp

@[simp] theorem execHkRound_noNewRun (l : LaneId) (n : Nat) (r : HkRound) (s : State) : s.NoNewRun (execHkRound l n r s) := by
  simp [execHkRound]

@[simp] theorem execSensorBroken_noNewRun (l : LaneId) (i : Fin 10) (s : State) : s.NoNewRun (execSensorBroken l i s) := by
  simp [execSensorBroken]

@[simp] theorem execReferenceCheckFault_noNewRun (l : LaneId) (s : State) : s.NoNewRun (execReferenceCheckFault l s) := by
  simp only [execReferenceCheckFault, State.noNewRun_on_iff]
  split <;> simp

@[simp] theorem execCutSensorImplausible_noNewRun (l : LaneId) (drive : Bool) (s : State) :
    s.NoNewRun (execCutSensorImplausible l drive s) := by
  simp only [execCutSensorImplausible, State.noNewRun_on_iff]
  (repeat' split) <;> simp

@[simp] theorem execD2dFrame_noNewRun (l : LaneId) (b : Fin 8) (up crcOk : Bool) (s : State) :
    s.NoNewRun (execD2dFrame l b up crcOk s) := by simp [execD2dFrame]

@[simp] theorem execD2dLinkFailed_noNewRun (l : LaneId) (s : State) : s.NoNewRun (execD2dLinkFailed l s) := by
  simp only [execD2dLinkFailed, State.noNewRun_on_iff]
  split <;> simp

@[simp] theorem execThermalCut_noNewRun (l : LaneId) (drive : Bool) (s : State) : s.NoNewRun (execThermalCut l drive s) := by
  simp only [execThermalCut, State.noNewRun_on_iff]
  split <;> simp

@[simp] theorem execConeLatchTrip_noNewRun (l : LaneId) (hot : Bool) (s : State) :
    s.NoNewRun (execConeLatchTrip l hot s) := by
  simp only [execConeLatchTrip, State.noNewRun_on_iff]
  split <;> simp

@[simp] theorem execCoolingDone_noNewRun (l : LaneId) (s : State) : s.NoNewRun (execCoolingDone l s) := by
  simp [execCoolingDone]

@[simp] theorem execVinUndervoltage_noNewRun (l : LaneId) (s : State) : s.NoNewRun (execVinUndervoltage l s) := by
  simp only [execVinUndervoltage, State.noNewRun_on_iff]
  split <;> simp

@[simp] theorem execVinOvervoltage_noNewRun (l : LaneId) (s : State) : s.NoNewRun (execVinOvervoltage l s) := by
  simp [execVinOvervoltage]

@[simp] theorem execAonReset_noNewRun (l : LaneId) (s : State) : s.NoNewRun (execAonReset l s) := by simp [execAonReset]

@[simp] theorem execResolverPair_noNewRun (l : LaneId) (b : Fin 8) (sinS cosS : List Rat) (s : State) :
    s.NoNewRun (execResolverPair l b sinS cosS s) := by
  simp only [execResolverPair, State.noNewRun_on_iff]
  split <;> simp

@[simp] theorem execResolverAmplitudeFault_noNewRun (l : LaneId) (b : Fin 8) (s : State) :
    s.NoNewRun (execResolverAmplitudeFault l b s) := by simp [execResolverAmplitudeFault]

@[simp] theorem execExcitationFault_noNewRun (l : LaneId) (b : Fin 8) (mA : Nat) (s : State) :
    s.NoNewRun (execExcitationFault l b mA s) := by simp [execExcitationFault]

@[simp] theorem execTrackingFault_noNewRun (l : LaneId) (b : Fin 8) (s : State) : s.NoNewRun (execTrackingFault l b s) := by
  simp [execTrackingFault]

@[simp] theorem execBissFrame_noNewRun (l : LaneId) (b : Fin 8) (pos : List Bool) (nE nW : Bool) (crc : List Bool)
    (delay : Nat) (s : State) : s.NoNewRun (execBissFrame l b pos nE nW crc delay s) := by
  simp only [execBissFrame, State.noNewRun_on_iff]
  split <;> simp

@[simp] theorem execBissFrameTimeout_noNewRun (l : LaneId) (b : Fin 8) (s : State) :
    s.NoNewRun (execBissFrameTimeout l b s) := by
  simp only [execBissFrameTimeout, State.noNewRun_on_iff]
  split <;> simp

@[simp] theorem execBissFrameFault_noNewRun (l : LaneId) (b : Fin 8) (s : State) : s.NoNewRun (execBissFrameFault l b s) := by
  simp [execBissFrameFault]

@[simp] theorem execHfiBiasPhase_noNewRun (l : LaneId) (b : Fin 8) (s : State) : s.NoNewRun (execHfiBiasPhase l b s) := by
  simp [execHfiBiasPhase]

@[simp] theorem execHfiCheckEnd_noNewRun (l : LaneId) (b : Fin 8) (th : Rat) (s : State) :
    s.NoNewRun (execHfiCheckEnd l b th s) := by
  simp only [execHfiCheckEnd, State.noNewRun_on_iff]
  split <;> simp

@[simp] theorem execObserverImplausible_noNewRun (l : LaneId) (b : Fin 8) (s : State) :
    s.NoNewRun (execObserverImplausible l b s) := by
  simp only [execObserverImplausible, State.noNewRun_on_iff]
  split <;> simp

@[simp] theorem execRotorLost_noNewRun (l : LaneId) (b : Fin 8) (s : State) : s.NoNewRun (execRotorLost l b s) := by
  simp only [execRotorLost, State.noNewRun_on_iff]
  split <;> simp

@[simp] theorem execSettleExpiry_noNewRun (l : LaneId) (b : Fin 8) (s : State) : s.NoNewRun (execSettleExpiry l b s) := by
  simp only [execSettleExpiry, State.noNewRun_on_iff]
  split <;> simp

@[simp] theorem execRotorAcquired_noNewRun (l : LaneId) (b : Fin 8) (s : State) : s.NoNewRun (execRotorAcquired l b s) := by
  simp [execRotorAcquired]

@[simp] theorem execReacquireTimeout_noNewRun (l : LaneId) (b : Fin 8) (s : State) :
    s.NoNewRun (execReacquireTimeout l b s) := by simp [execReacquireTimeout]

@[simp] theorem execRevCountWrite_noNewRun (l : LaneId) (m : Master) (tid : Nat) (b : Fin 8) (data : List Byte) (s : State) :
    s.NoNewRun (execRevCountWrite l m tid b data s) := 
  State.noNewRun_write s l m tid (fun L => L.brIdx b 1) 8 data (fun _ => _) (fun _ => _) fun _ _ => rfl

@[simp] theorem execPwmPeriodBoundary_noNewRun (l : LaneId) (b : Fin 8) (ns : Nat) (frac : Rat) (bs : Tri3 Bool) (s : State) :
    s.NoNewRun (execPwmPeriodBoundary l b ns frac bs s) := by
  simp only [execPwmPeriodBoundary, State.noNewRun_on_iff]
  split <;> simp

@[simp] theorem execPeriodCompute_noNewRun (l : LaneId) (b : Fin 8) (q : Samples) (s : State) :
    s.NoNewRun (execPeriodCompute l b q s) := by
  simp only [execPeriodCompute]
  (repeat' split)
  · simp
  · rw [State.noNewRun_next_iff]
    exact State.on_noRunGained s l fun L => by rw [Lane.NoRunGained, Lane.compute_pwr]; exact id
  · simp

@[simp] theorem execComputeOverrunIsolate_noNewRun (l : LaneId) (b : Fin 8) (s : State) :
    s.NoNewRun (execComputeOverrunIsolate l b s) := by simp [execComputeOverrunIsolate]

@[simp] theorem execShuntSaturation_noNewRun (l : LaneId) (b : Fin 8) (s : State) :
    s.NoNewRun (execShuntSaturation l b s) := by simp [execShuntSaturation]

@[simp] theorem execCurrentTrackingFault_noNewRun (l : LaneId) (b : Fin 8) (s : State) :
    s.NoNewRun (execCurrentTrackingFault l b s) := by simp [execCurrentTrackingFault]

@[simp] theorem execFieldWeakeningExhausted_noNewRun (l : LaneId) (b : Fin 8) (s : State) :
    s.NoNewRun (execFieldWeakeningExhausted l b s) := by simp [execFieldWeakeningExhausted]

@[simp] theorem execOscMeasure_noNewRun (l : LaneId) (hz : Rat) (s : State) : s.NoNewRun (execOscMeasure l hz s) := by
  simp only [execOscMeasure, State.noNewRun_on_iff]
  (repeat' split) <;> simp

@[simp] theorem execBridgeModeRequest_noNewRun (l : LaneId) (b : Fin 8) (rank3 on : Bool) (s : State) :
    s.NoNewRun (execBridgeModeRequest l b rank3 on s) := by simp [execBridgeModeRequest]

@[simp] theorem execParkLockComplete_noNewRun (l : LaneId) (b : Fin 8) (s : State) :
    s.NoNewRun (execParkLockComplete l b s) := by simp [execParkLockComplete]

@[simp] theorem execGateRailFault_noNewRun (l : LaneId) (low : Bool) (s : State) :
    s.NoNewRun (execGateRailFault l low s) := by
  simp only [execGateRailFault, State.noNewRun_on_iff]
  split <;> simp

@[simp] theorem execSwitchNodeCrossing_noNewRun (l : LaneId) (b : Fin 8) (p : Phase) (c : Crossing) (s : State) :
    s.NoNewRun (execSwitchNodeCrossing l b p c s) := by
  simp only [execSwitchNodeCrossing, State.noNewRun_on_iff]
  (repeat' split) <;> simp

@[simp] theorem execDriveStrengthLimit_noNewRun (l : LaneId) (b : Fin 8) (p : Phase) (high : Bool) (s : State) :
    s.NoNewRun (execDriveStrengthLimit l b p high s) := by simp [execDriveStrengthLimit]

@[simp] theorem execSwitchNodeSenseLost_noNewRun (l : LaneId) (b : Fin 8) (p : Phase) (s : State) :
    s.NoNewRun (execSwitchNodeSenseLost l b p s) := by simp [execSwitchNodeSenseLost]

@[simp] theorem execGateReadbackMismatch_noNewRun (l : LaneId) (b : Fin 8) (out : Fin 6) (s : State) :
    s.NoNewRun (execGateReadbackMismatch l b out s) := by simp [execGateReadbackMismatch]

@[simp] theorem execDesaturationDetect_noNewRun (l : LaneId) (b : Fin 8) (out : Fin 6) (s : State) :
    s.NoNewRun (execDesaturationDetect l b out s) := by simp [execDesaturationDetect]

@[simp] theorem execHardOvercurrent_noNewRun (l : LaneId) (b : Fin 8) (s : State) :
    s.NoNewRun (execHardOvercurrent l b s) := by simp [execHardOvercurrent]

@[simp] theorem execSoftTurnoffEnd_noNewRun (l : LaneId) (b : Fin 8) (s : State) : s.NoNewRun (execSoftTurnoffEnd l b s) := by
  simp [execSoftTurnoffEnd]

@[simp] theorem execBootstrapRefresh_noNewRun (l : LaneId) (b : Fin 8) (p : Phase) (s : State) :
    s.NoNewRun (execBootstrapRefresh l b p s) := by simp [execBootstrapRefresh]

@[simp] theorem execBootstrapUvlo_noNewRun (l : LaneId) (b : Fin 8) (p : Phase) (s : State) :
    s.NoNewRun (execBootstrapUvlo l b p s) := by simp [execBootstrapUvlo]

@[simp] theorem execFaultWaitEnd_noNewRun (l : LaneId) (b : Fin 8) (s : State) : s.NoNewRun (execFaultWaitEnd l b s) := by
  simp [execFaultWaitEnd]

@[simp] theorem execTryRelease_noNewRun (l : LaneId) (b : Fin 8) (s : State) : s.NoNewRun (execTryRelease l b s) := by
  simp [execTryRelease]

@[simp] theorem execTryTimeout_noNewRun (l : LaneId) (b : Fin 8) (s : State) : s.NoNewRun (execTryTimeout l b s) := by
  simp [execTryTimeout]

@[simp] theorem execGdClear_noNewRun (l : LaneId) (m : Master) (tid : Nat) (b : Fin 8) (data : List Byte) (e : ClearIn)
    (s : State) : s.NoNewRun (execGdClear l m tid b data e s) :=
  State.noNewRun_write s l m tid (fun L => L.brIdx b 3) 1 data (fun _ => _) (fun _ => _) fun _ M => M.gdClear_pwr b

@[simp] theorem execSelftest_noNewRun (l : LaneId) (m : Master) (tid : Nat) (b : Fin 8) (data : List Byte) (s : State) :
    s.NoNewRun (execSelftest l m tid b data s) := 
  State.noNewRun_write s l m tid (fun L => L.brIdx b 3) 2 data (fun _ => _) (fun _ => _) fun _ _ => rfl

@[simp] theorem execSelftestComplete_noNewRun (l : LaneId) (b : Fin 8) (e : TestEnd) (s : State) :
    s.NoNewRun (execSelftestComplete l b e s) := by
  simp only [execSelftestComplete, State.noNewRun_on_iff]
  (repeat' split) <;> simp

@[simp] theorem execVdcSample_noNewRun (l : LaneId) (x : LinkSample) (s : State) : s.NoNewRun (execVdcSample l x s) := by
  simp [execVdcSample]

@[simp] theorem execLinkSenseDisagree_noNewRun (l : LaneId) (s : State) : s.NoNewRun (execLinkSenseDisagree l s) := by
  simp only [execLinkSenseDisagree, State.noNewRun_on_iff]
  split <;> simp

@[simp] theorem execChopperCurrentCheck_noNewRun (l : LaneId) (i : Rat) (s : State) :
    s.NoNewRun (execChopperCurrentCheck l i s) := by simp [execChopperCurrentCheck]

@[simp] theorem execChopperFault_noNewRun (l : LaneId) (s : State) : s.NoNewRun (execChopperFault l s) := by
  simp [execChopperFault]

@[simp] theorem execChopperEnergyUpdate_noNewRun (l : LaneId) (s : State) : s.NoNewRun (execChopperEnergyUpdate l s) := by
  simp [execChopperEnergyUpdate]

@[simp] theorem execChopTest_noNewRun (l : LaneId) (m : Master) (tid : Nat) (data : List Byte) (s : State) :
    s.NoNewRun (execChopTest l m tid data s) := 
  State.noNewRun_write s l m tid (fun L => L.dcIdx 2) 1 data (fun _ => _) (fun _ => _) fun _ _ => rfl

@[simp] theorem execChopperTestComplete_noNewRun (l : LaneId) (amps : Rat) (s : State) :
    s.NoNewRun (execChopperTestComplete l amps s) := by simp [execChopperTestComplete]

@[simp] theorem execOv3Timeout_noNewRun (l : LaneId) (s : State) : s.NoNewRun (execOv3Timeout l s) := by
  simp only [execOv3Timeout, State.noNewRun_on_iff]
  split <;> simp

@[simp] theorem execHwOvTrip_noNewRun (l : LaneId) (s : State) : s.NoNewRun (execHwOvTrip l s) := by
  simp only [execHwOvTrip, State.noNewRun_on_iff]
  (repeat' split) <;> simp

@[simp] theorem execHwOvRelease_noNewRun (l : LaneId) (s : State) : s.NoNewRun (execHwOvRelease l s) := by
  simp [execHwOvRelease]

@[simp] theorem execLinkUndervoltage_noNewRun (l : LaneId) (s : State) : s.NoNewRun (execLinkUndervoltage l s) := by
  simp [execLinkUndervoltage]

@[simp] theorem execLinkUvRecover_noNewRun (l : LaneId) (s : State) : s.NoNewRun (execLinkUvRecover l s) := by
  simp [execLinkUvRecover]

@[simp] theorem execSlewEnd_noNewRun (l : LaneId) (s : State) : s.NoNewRun (execSlewEnd l s) := by simp [execSlewEnd]

@[simp] theorem execSleepRecordInvalidate_noNewRun (l : LaneId) (s : State) : s.NoNewRun (execSleepRecordInvalidate l s) := by
  simp [execSleepRecordInvalidate]

@[simp] theorem execGptpSync_noNewRun (l : LaneId) (g : SyncIn) (s : State) : s.NoNewRun (execGptpSync l g s) := by
  simp only [execGptpSync]
  split
  · rw [State.noNewRun_next_iff]
    exact State.on_noRunGained s l fun L => by rw [Lane.NoRunGained, Lane.takeSync_pwr]; exact id
  · simp

@[simp] theorem execGptpSyncTimeout_noNewRun (l : LaneId) (s : State) : s.NoNewRun (execGptpSyncTimeout l s) := by
  simp [execGptpSyncTimeout]

@[simp] theorem execGptpAnnounce_noNewRun (l : LaneId) (a : AnnounceIn) (s : State) :
    s.NoNewRun (execGptpAnnounce l a s) := by simp [execGptpAnnounce]

@[simp] theorem execSyncTransmission_noNewRun (l : LaneId) (s : State) : s.NoNewRun (execSyncTransmission l s) := by
  simp [execSyncTransmission]

@[simp] theorem execStepAccept_noNewRun (l : LaneId) (m : Master) (tid : Nat) (data : List Byte) (s : State) :
    s.NoNewRun (execStepAccept l m tid data s) := by
  exact State.noNewRun_write s _ _ _ (fun _ => _) _ _ (fun _ => _) (fun _ => _) fun _ _ => rfl

@[simp] theorem execTsqPop_noNewRun (l : LaneId) (m : Master) (tid : Nat) (q : TsqId) (data : List Byte) (s : State) :
    s.NoNewRun (execTsqPop l m tid q data s) := by
  exact State.noNewRun_write s _ _ _ (fun _ => _) _ _ (fun _ => _) (fun _ => _) fun _ _ => rfl

@[simp] theorem execTaSubmit_noNewRun (l : LaneId) (m : Master) (tid : Nat) (data : List Byte) (lineNs : Nat) (s : State) :
    s.NoNewRun (execTaSubmit l m tid data lineNs s) := by
  simp only [execTaSubmit, State.noNewRun_on_iff]
  split <;> simp

@[simp] theorem execTaCancel_noNewRun (l : LaneId) (m : Master) (tid : Nat) (data : List Byte) (s : State) :
    s.NoNewRun (execTaCancel l m tid data s) := by
  exact State.noNewRun_write s _ _ _ (fun _ => _) _ _ (fun _ => _) (fun _ => _) fun _ _ => rfl

@[simp] theorem execTimedActionDue_noNewRun (l : LaneId) (slot : Nat) (full : Bool) (s : State) :
    s.NoNewRun (execTimedActionDue l slot full s) := by
  simp only [execTimedActionDue, State.noNewRun_on_iff]
  split <;> simp

@[simp] theorem execStarFrameArrival_noNewRun (l : LaneId) (ch : Chan) (port : Nat) (f : StarStart) (s : State) :
    s.NoNewRun (execStarFrameArrival l ch port f s) := by
  simp only [execStarFrameArrival, State.noNewRun_on_iff]
  (repeat' split) <;> simp

@[simp] theorem execGuardianTruncate_noNewRun (l : LaneId) (ch : Chan) (s : State) :
    s.NoNewRun (execGuardianTruncate l ch s) := by simp [execGuardianTruncate]

@[simp] theorem execGuardianHoldoverEnd_noNewRun (l : LaneId) (s : State) : s.NoNewRun (execGuardianHoldoverEnd l s) := by
  simp [execGuardianHoldoverEnd]

@[simp] theorem execPortLinkChange_noNewRun (l : LaneId) (ch : Chan) (port : Nat) (up : Bool) (s : State) :
    s.NoNewRun (execPortLinkChange l ch port up s) := by simp [execPortLinkChange]

@[simp] theorem execPortBlockedPersist_noNewRun (l : LaneId) (ch : Chan) (port : Nat) (s : State) :
    s.NoNewRun (execPortBlockedPersist l ch port s) := by simp [execPortBlockedPersist]

@[simp] theorem execTsuvasFrameReceived_noNewRun (l : LaneId) (ch : Chan) (f : FrameIn) (s : State) :
    s.NoNewRun (execTsuvasFrameReceived l ch f s) := by
  simp only [execTsuvasFrameReceived]
  split
  · rw [State.noNewRun_next_iff]
    exact State.on_noRunGained s l fun L => by rw [Lane.NoRunGained, Lane.rxFrame_pwr]; exact id
  · simp

@[simp] theorem execSlotLaunch_noNewRun (l : LaneId) (ch : Chan) (slot : Nat) (service : Bool) (s : State) :
    s.NoNewRun (execSlotLaunch l ch slot service s) := by
  simp only [execSlotLaunch, State.noNewRun_on_iff]
  (repeat' split) <;> simp

@[simp] theorem execSlotEnd_noNewRun (l : LaneId) (ch : Chan) (slot : Nat) (s : State) :
    s.NoNewRun (execSlotEnd l ch slot s) := by simp [execSlotEnd]

@[simp] theorem execNetworkCycleEnd_noNewRun (l : LaneId) (s : State) : s.NoNewRun (execNetworkCycleEnd l s) := by
  simp [execNetworkCycleEnd]

@[simp] theorem execSyncLoss_noNewRun (l : LaneId) (s : State) : s.NoNewRun (execSyncLoss l s) := by simp [execSyncLoss]

@[simp] theorem execListenTimeout_noNewRun (l : LaneId) (s : State) : s.NoNewRun (execListenTimeout l s) := by
  simp [execListenTimeout]

@[simp] theorem execColdstartCollision_noNewRun (l : LaneId) (s : State) : s.NoNewRun (execColdstartCollision l s) := by
  simp [execColdstartCollision]

@[simp] theorem execBackoffExpiry_noNewRun (l : LaneId) (s : State) : s.NoNewRun (execBackoffExpiry l s) := by
  simp [execBackoffExpiry]

@[simp] theorem execColdstartCycleEnd_noNewRun (l : LaneId) (s : State) : s.NoNewRun (execColdstartCycleEnd l s) := by
  simp [execColdstartCycleEnd]

@[simp] theorem execPeerTimeRead_noNewRun (l src : LaneId) (rttNs ns : Nat) (s : State) :
    s.NoNewRun (execPeerTimeRead l src rttNs ns s) := by
  simp only [execPeerTimeRead]
  split
  · rw [State.noNewRun_next_iff, State.noRunGained_freeCtr_iff, State.noRunGained_on_iff]
    (repeat' split) <;> simp
  · simp

@[simp] theorem execTimeMismatchRetry_noNewRun (l : LaneId) (s : State) : s.NoNewRun (execTimeMismatchRetry l s) := by
  simp [execTimeMismatchRetry]

@[simp] theorem execChannelLost_noNewRun (l : LaneId) (ch : Chan) (s : State) : s.NoNewRun (execChannelLost l ch s) := by
  simp [execChannelLost]

@[simp] theorem execChannelRestored_noNewRun (l : LaneId) (ch : Chan) (s : State) :
    s.NoNewRun (execChannelRestored l ch s) := by simp [execChannelRestored]

@[simp] theorem execNetworkLost_noNewRun (l : LaneId) (s : State) : s.NoNewRun (execNetworkLost l s) := by
  simp [execNetworkLost]

@[simp] theorem execNetworkRestored_noNewRun (l : LaneId) (s : State) : s.NoNewRun (execNetworkRestored l s) := by
  simp [execNetworkRestored]

@[simp] theorem execServiceTaskEnd_noNewRun (l : LaneId) (task endUs : Nat) (s : State) :
    s.NoNewRun (execServiceTaskEnd l task endUs s) := by simp [execServiceTaskEnd]

@[simp] theorem execAgeLimitReached_noNewRun (l : LaneId) (k : AgeKind) (s : State) :
    s.NoNewRun (execAgeLimitReached l k s) := by simp [execAgeLimitReached]

@[simp] theorem execStopHoldExpiry_noNewRun (l : LaneId) (s : State) : s.NoNewRun (execStopHoldExpiry l s) := by
  simp [execStopHoldExpiry]

@[simp] theorem execSlipHoldExpiry_noNewRun (l : LaneId) (n : Fin 8) (s : State) : s.NoNewRun (execSlipHoldExpiry l n s) := by
  simp [execSlipHoldExpiry]

@[simp] theorem execOverloadBudgetExhausted_noNewRun (l : LaneId) (n : Fin 8) (s : State) :
    s.NoNewRun (execOverloadBudgetExhausted l n s) := by simp [execOverloadBudgetExhausted]

@[simp] theorem execStopRelease_noNewRun (l : LaneId) (m : Master) (tid : Nat) (data : List Byte) (s : State) :
    s.NoNewRun (execStopRelease l m tid data s) := by simp [execStopRelease]

@[simp] theorem execContactWrite_noNewRun (l : LaneId) (m : Master) (tid : Nat) (n : Fin 8) (data : List Byte) (s : State) :
    s.NoNewRun (execContactWrite l m tid n data s) := by simp [execContactWrite]

@[simp] theorem execSafetySample_noNewRun (l : LaneId) (n : Nat) (p : SafetyPins) (s : State) :
    s.NoNewRun (execSafetySample l n p s) := by simp [execSafetySample]

@[simp] theorem execDiscrepancyFault_noNewRun (l : LaneId) (i : Fin 8) (s : State) :
    s.NoNewRun (execDiscrepancyFault l i s) := by
  simp only [execDiscrepancyFault, State.noNewRun_on_iff]
  split <;> simp

@[simp] theorem execSafetyReset_noNewRun (l : LaneId) (s : State) : s.NoNewRun (execSafetyReset l s) := by
  simp [execSafetyReset]

@[simp] theorem execSrstStuck_noNewRun (l : LaneId) (s : State) : s.NoNewRun (execSrstStuck l s) := by
  simp only [execSrstStuck, State.noNewRun_on_iff]
  split <;> simp

@[simp] theorem execSealOpen_noNewRun (l : LaneId) (s : State) : s.NoNewRun (execSealOpen l s) := by simp [execSealOpen]

@[simp] theorem execSealDisagree_noNewRun (l : LaneId) (s : State) : s.NoNewRun (execSealDisagree l s) := by
  simp [execSealDisagree]

@[simp] theorem execTestPulse_noNewRun (l : LaneId) (o : Bool) (n : Nat) (s : State) : s.NoNewRun (execTestPulse l o n s) := by
  have own (L : Lane) (ns : Nat) (x : Safe) : L.NoRunGained { L.advance ns with safe := x } := fun h =>
    L.advance_pwr ns ▸ h
  rw [execTestPulse, State.noNewRun_on_iff]
  split
  · exact own _ _ _
  · simp

@[simp] theorem execTestPulseCheck_noNewRun (l : LaneId) (o backLow : Bool) (ch1 ch2 : Oct Bool) (s : State) :
    s.NoNewRun (execTestPulseCheck l o backLow ch1 ch2 s) := by simp [execTestPulseCheck]

@[simp] theorem execSetStore_noNewRun (l : LaneId) (m : Master) (tid : Nat) (data : List Byte) (s : State) :
    s.NoNewRun (execSetStore l m tid data s) := by
  refine State.noNewRun_write s _ _ _ (fun _ => _) _ _ (fun _ => _) (fun _ => _) fun _ _ => by simp

@[simp] theorem execDs2Password_noNewRun (l : LaneId) (m : Master) (tid total : Nat) (data : List Byte) (s : State) :
    s.NoNewRun (execDs2Password l m tid total data s) := by
  simp only [execDs2Password, State.noNewRun_on_iff]
  (repeat' split) <;> simp

@[simp] theorem execDs2Store_noNewRun (l : LaneId) (m : Master) (tid : Nat) (data : List Byte) (s : State) :
    s.NoNewRun (execDs2Store l m tid data s) := by
  refine State.noNewRun_write s _ _ _ (fun _ => _) _ _ (fun _ => _) (fun _ => _) fun _ _ => by simp

@[simp] theorem execDs2Lock_noNewRun (l : LaneId) (m : Master) (tid : Nat) (data : List Byte) (s : State) :
    s.NoNewRun (execDs2Lock l m tid data s) := by
  exact State.noNewRun_write s _ _ _ (fun _ => _) _ _ (fun _ => _) (fun _ => _) fun _ _ => rfl

@[simp] theorem execDs2BlockExpiry_noNewRun (l : LaneId) (s : State) : s.NoNewRun (execDs2BlockExpiry l s) := by
  simp [execDs2BlockExpiry]

@[simp] theorem execDs2UnlockTimeout_noNewRun (l : LaneId) (m : Master) (s : State) :
    s.NoNewRun (execDs2UnlockTimeout l m s) := by simp [execDs2UnlockTimeout]

@[simp] theorem execKeyprov_noNewRun (l : LaneId) (head wrapped : List Byte) (otpOk : Bool) (s : State) :
    s.NoNewRun (execKeyprov l head wrapped otpOk s) := by simp [execKeyprov]

@[simp] theorem execJtagIdcode_noNewRun (l : LaneId) (s : State) : s.NoNewRun (execJtagIdcode l s) := by simp [execJtagIdcode]

@[simp] theorem execJtagBypass_noNewRun (l : LaneId) (s : State) : s.NoNewRun (execJtagBypass l s) := by simp [execJtagBypass]

@[simp] theorem execKeyRevoke_noNewRun (l : LaneId) (m : Master) (tid : Nat) (data : List Byte) (s : State) :
    s.NoNewRun (execKeyRevoke l m tid data s) := by
  refine State.noNewRun_write s _ _ _ (fun _ => _) _ _ (fun _ => _) (fun _ => _) fun _ _ => by simp

@[simp] theorem execDbgChallenge_noNewRun (l : LaneId) (m : Master) (tid : Nat) (s : State) :
    s.NoNewRun (execDbgChallenge l m tid s) := by
  refine (State.noNewRun_next_iff _ _).2 (State.on_noRunGained s.drawn l fun L => ?_)
  split <;> simp

@[simp] theorem execDbgResponse_noNewRun (l : LaneId) (m : Master) (tid : Nat) (rPart sPart : List Byte) (s : State) :
    s.NoNewRun (execDbgResponse l m tid rPart sPart s) := by
  simp only [execDbgResponse, State.noNewRun_on_iff]
  (repeat' split) <;> simp

@[simp] theorem execDbgBlockExpiry_noNewRun (l : LaneId) (s : State) : s.NoNewRun (execDbgBlockExpiry l s) := by
  simp [execDbgBlockExpiry]

@[simp] theorem execSbChallenge_noNewRun (l : LaneId) (s : State) :
    s.NoNewRun (execSbChallenge l s) := by
  refine (State.noNewRun_next_iff _ _).2 (State.on_noRunGained s.drawn l fun L => ?_)
  split <;> simp

@[simp] theorem execSbResponse_noNewRun (l : LaneId) (data : List Byte) (s : State) :
    s.NoNewRun (execSbResponse l data s) := by
  simp only [execSbResponse, State.noNewRun_on_iff]
  (repeat' split) <;> simp

@[simp] theorem execSbClose_noNewRun (l : LaneId) (m : Master) (tid : Nat) (data : List Byte) (s : State) :
    s.NoNewRun (execSbClose l m tid data s) := by
  refine State.noNewRun_write s _ _ _ (fun _ => _) _ _ (fun _ => _) (fun _ => _) fun _ _ => by simp

@[simp] theorem execSessionTimeout_noNewRun (l : LaneId) (s : State) : s.NoNewRun (execSessionTimeout l s) := by
  simp [execSessionTimeout]

@[simp] theorem execCanBusOff_noNewRun (l : LaneId) (s : State) : s.NoNewRun (execCanBusOff l s) := by simp [execCanBusOff]

@[simp] theorem execMonitorRest_noNewRun (l : LaneId) (s : State) : s.NoNewRun (execMonitorRest l s) := by
  simp [execMonitorRest]

@[simp] theorem execLogCommit_noNewRun (l : LaneId) (n : Nat) (s : State) : s.NoNewRun (execLogCommit l n s) := by
  have own (L : Lane) (ns : Nat) (x : Rec) : L.NoRunGained { L.advance ns with flog := x } := fun h =>
    L.advance_pwr ns ▸ h
  rw [execLogCommit, State.noNewRun_on_iff]
  split
  · exact own _ _ _
  · simp

@[simp] theorem execKilnSecond_noNewRun (l : LaneId) (n : Nat) (s : State) : s.NoNewRun (execKilnSecond l n s) := by
  simp [execKilnSecond]

@[simp] theorem execKilnCommit_noNewRun (l : LaneId) (n : Nat) (s : State) : s.NoNewRun (execKilnCommit l n s) := by
  simp [execKilnCommit]

@[simp] theorem execWedgeGroupEnd_noNewRun (l : LaneId) (cells : List FailCell) (s : State) :
    s.NoNewRun (execWedgeGroupEnd l cells s) := by
  simp only [execWedgeGroupEnd, State.noNewRun_on_iff]
  (repeat' split)
  · exact fun h => by simpa using Lane.passEnd_noRunGained _ h
  · simp
  · simp

@[simp] theorem execMarchElementEnd_noNewRun (l : LaneId) (s : State) : s.NoNewRun (execMarchElementEnd l s) := by
  simp only [execMarchElementEnd, State.noNewRun_on_iff]
  (repeat' split) <;> simp

@[simp] theorem execScrubPass_noNewRun (l : LaneId) (cells : List FailCell) (s : State) :
    s.NoNewRun (execScrubPass l cells s) := by
  rw [execScrubPass, State.noNewRun_on_iff]
  split
  · rw [Lane.NoRunGained, Lane.foldl_pwr (fun M c => by dsimp only; (repeat' split) <;> simp)]
    exact id
  · simp

@[simp] theorem execMemTest_noNewRun (l : LaneId) (m : Master) (tid : Nat) (data : List Byte) (s : State) :
    s.NoNewRun (execMemTest l m tid data s) := by
  simp only [execMemTest, State.noNewRun_on_iff]
  (repeat' split) <;> simp

@[simp] theorem execMemTestDemand_noNewRun (l : LaneId) (s : State) : s.NoNewRun (execMemTestDemand l s) := by
  simp only [execMemTestDemand]
  split <;> simp

@[simp] theorem execCompareSelfCheck_noNewRun (l : LaneId) (pass : Bool) (s : State) :
    s.NoNewRun (execCompareSelfCheck l pass s) := by
  simp only [execCompareSelfCheck, State.noNewRun_on_iff]
  split <;> simp

@[simp] theorem execLptStart_noNewRun (l : LaneId) (m : Master) (tid : Nat) (data : List Byte) (s : State) :
    s.NoNewRun (execLptStart l m tid data s) := by simp [execLptStart, State.lptWrite_noRunGained]

@[simp] theorem execLptStop_noNewRun (l : LaneId) (m : Master) (tid : Nat) (data : List Byte) (rx : LptRx) (s : State) :
    s.NoNewRun (execLptStop l m tid data rx s) := by simp [execLptStop, State.lptWrite_noRunGained]

@[simp] theorem execLptInject_noNewRun (l : LaneId) (m : Master) (tid : Nat) (data : List Byte) (rx : LptRx) (s : State) :
    s.NoNewRun (execLptInject l m tid data rx s) := by simp [execLptInject, State.lptWrite_noRunGained]

@[simp] theorem execLptDurationEnd_noNewRun (l : LaneId) (rx : LptRx) (s : State) :
    s.NoNewRun (execLptDurationEnd l rx s) := by simp [execLptDurationEnd]

@[simp] theorem execInputClose_noNewRun (s : State) : s.NoNewRun (execInputClose s) := by simp [execInputClose]

@[simp] theorem execInputSetReceived_noNewRun (dst src : LaneId) (direct crcOk : Bool) (other : List (Nat × Bool × Int))
    (s : State) : s.NoNewRun (execInputSetReceived dst src direct crcOk other s) := by
  simp only [execInputSetReceived]
  (repeat' split) <;> simp

@[simp] theorem execInputAgreement_noNewRun (s : State) : s.NoNewRun (execInputAgreement s) := by
  simp [execInputAgreement]

@[simp] theorem execComputeDeadline_noNewRun (s : State) : s.NoNewRun (execComputeDeadline s) := by simp [execComputeDeadline]

@[simp] theorem execOutputSetReceived_noNewRun (dst src : LaneId) (way : Way) (flagged : Bool)
    (other : List (LaneId × Fin 8 × Rat)) (s : State) :
    s.NoNewRun (execOutputSetReceived dst src way flagged other s) := by
  simp only [execOutputSetReceived]
  (repeat' split) <;> simp

@[simp] theorem execApply_noNewRun (s : State) : s.NoNewRun (execApply s) := by simp [execApply, State.NoRunGained]

@[simp] theorem execStateCopy_noNewRun (s : State) : s.NoNewRun (execStateCopy s) := by simp [execStateCopy]

@[simp] theorem execStateVectorReceived_noNewRun (c : CopyIn) (s : State) : s.NoNewRun (execStateVectorReceived c s) := by
  simp only [execStateVectorReceived]
  split
  · simp
  · rw [State.noNewRun_on_iff]
    (repeat' split) <;> simp

@[simp] theorem execStateCopyDeadline_noNewRun (s : State) : s.NoNewRun (execStateCopyDeadline s) := by
  simp [execStateCopyDeadline]

@[simp] theorem execLockstepFault_noNewRun (l : LaneId) (service : Bool) (s : State) :
    s.NoNewRun (execLockstepFault l service s) := by
  simp only [execLockstepFault, State.noNewRun_on_iff]
  split <;> simp

@[simp] theorem execSlipLinkIsolate_noNewRun (k : LinkId) (s : State) :
    s.NoNewRun (execSlipLinkIsolate k s) := by
  unfold execSlipLinkIsolate
  dsimp only
  split
  · rw [State.noNewRun_onAll_iff]
    intro l
    split <;> simp
  · simp

@[simp] theorem execSlipLinkReturn_noNewRun (k : LinkId) (s : State) : s.NoNewRun (execSlipLinkReturn k s) := by
  simp [execSlipLinkReturn]

@[simp] theorem execShadowPromote_noNewRun (l : LaneId) (s : State) : s.NoNewRun (execShadowPromote l s) := by
  simp [execShadowPromote]

@[simp] theorem execRampComplete_noNewRun (l : LaneId) (s : State) : s.NoNewRun (execRampComplete l s) := by
  simp [execRampComplete]

@[simp] theorem execLaneRestart_noNewRun (l : LaneId) (r : Rails) (s : State) : s.NoNewRun (execLaneRestart l r s) := by
  simp only [execLaneRestart]
  split
  · exact (State.noNewRun_next_iff _ _).2 (s.started_on_noRunGained l fun L => by simp)
  · simp

@[simp] theorem execReintRelease_noNewRun (l : LaneId) (m : Master) (tid : Nat) (data : List Byte) (s : State) :
    s.NoNewRun (execReintRelease l m tid data s) := by
  exact State.noNewRun_write s _ _ _ (fun _ => _) _ _ (fun _ => _) (fun _ => _) fun _ _ => rfl

@[simp] theorem execExitPassiveEnd_noNewRun (s : State) : s.NoNewRun (execExitPassiveEnd s) := by
  simp only [execExitPassiveEnd, State.noNewRun_onAll_iff]
  intro l
  split
  · exact Lane.proceed_noRunGained (s.lane l).leaveDrive _
  · exact id

@[simp] theorem execCtSubmit_noNewRun (l : LaneId) (m : Master) (tid : Nat) (data : List Byte) (s : State) :
    s.NoNewRun (execCtSubmit l m tid data s) := by
  simp only [execCtSubmit, State.noNewRun_on_iff]
  split <;> simp

@[simp] theorem execCtWithdraw_noNewRun (l : LaneId) (m : Master) (tid : Nat) (data : List Byte) (s : State) :
    s.NoNewRun (execCtWithdraw l m tid data s) := by
  simp only [execCtWithdraw, State.noNewRun_on_iff]
  (repeat' split) <;> simp

@[simp] theorem execCyclePointRaise_noNewRun (l : LaneId) (cp : Fin 8) (busy : Bool) (s : State) :
    s.NoNewRun (execCyclePointRaise l cp busy s) := by simp [execCyclePointRaise]

@[simp] theorem execContractWindow_noNewRun (l : LaneId) (n : Nat) (s : State) : s.NoNewRun (execContractWindow l n s) := by
  simp only [execContractWindow, State.noNewRun_on_iff]
  (repeat' split) <;> simp

@[simp] theorem execUplinkLinkChange_noNewRun (l : LaneId) (up : Bool) (s : State) :
    s.NoNewRun (execUplinkLinkChange l up s) := by simp [execUplinkLinkChange]

@[simp] theorem execUplinkFrameReceived_noNewRun (l : LaneId) (ns : Nat) (f : UplinkIn) (s : State) :
    s.NoNewRun (execUplinkFrameReceived l ns f s) := by
  have asked (L : Lane) (d : Datagram) :
      (L.datagram d false fun N => { N with ct := { N.ct with asked := some d, replied := none } }).pwr = L.pwr :=
    L.datagram_pwr d false fun _ => rfl
  have forwarded (L : Lane) (d : Datagram) :
      (L.datagram d true fun N => N.takeForward (ofBytes (d.payload.take 2)) (d.payload.drop 2)).pwr = L.pwr :=
    L.datagram_pwr d true fun N => N.takeForward_pwr _ _
  rw [execUplinkFrameReceived, State.noNewRun_on_iff]
  split
  · cases f with
    | udp d => simp [asked, forwarded]
    | foreign => simp
    | arp own => simp
    | neighbour own => simp
    | echo six => simp
    | gptp => simp
    | unserved => simp
  · simp

@[simp] theorem execVinPowerOn_noNewRun (l : LaneId) (s : State) : s.NoNewRun (execVinPowerOn l s) := by
  simp only [execVinPowerOn]
  (repeat' split)
  · simp
  · simp
  · exact (State.noNewRun_next_iff _ _).2 (s.started_on_noRunGained l fun L => by simp)

@[simp] theorem execNrstAssert_noNewRun (l : LaneId) (s : State) : s.NoNewRun (execNrstAssert l s) := by
  simp [execNrstAssert]

@[simp] theorem execNrstRelease_noNewRun (l : LaneId) (s : State) : s.NoNewRun (execNrstRelease l s) := by
  unfold execNrstRelease
  split
  · refine (State.noNewRun_next_iff _ _).2 (s.started_on_noRunGained l fun L => ?_)
    dsimp only
    split <;> simp
  · simp

@[simp] theorem execVinBelowPowerOn_noNewRun (l : LaneId) (written aonLow : Bool) (s : State) :
    s.NoNewRun (execVinBelowPowerOn l written aonLow s) := by
  simp only [execVinBelowPowerOn, State.noNewRun_on_iff]
  split <;> simp

@[simp] theorem execWakeEvent_noNewRun (l : LaneId) (src : WakeSrc) (s : State) : s.NoNewRun (execWakeEvent l src s) := by
  simp only [execWakeEvent]
  (repeat' split)
  · simp
  · exact (State.noNewRun_next_iff _ _).2 (s.started_on_noRunGained l fun L => by simp)
  · simp
  · simp
  · exact (State.noNewRun_on_iff _ _ _).2 (Lane.preEmpt_noRunGained _ _)

@[simp] theorem execEntryPhaseEnd_noNewRun (l : LaneId) (r : PhaseReport) (s : State) :
    s.NoNewRun (execEntryPhaseEnd l r s) := by
  simp only [execEntryPhaseEnd, State.noNewRun_on_iff]
  split
  · exact Lane.phase1End_noRunGained _
  · exact Lane.phase2End_noRunGained _
  · simp
  · exact Lane.phase4End_noRunGained _
  · simp

@[simp] theorem execRestoreStepEnd_noNewRun (l : LaneId) (r : StepReport) (s : State) :
    s.NoNewRun (execRestoreStepEnd l r s) := by
  simp only [execRestoreStepEnd]
  (repeat' split)
  · simp
  · exact (State.noNewRun_next_iff _ _).2 (s.started_on_noRunGained l fun L => by simp)
  · rw [State.noNewRun_next_iff, State.noRunGained_freeCtr_iff]
    exact s.started_on_noRunGained l fun L => by rw [Lane.NoRunGained, Lane.stepEnd_pwrState]; exact id
  · simp

@[simp] theorem execTransferRead_noNewRun (l : LaneId) (m : Master) (tid idx sub ofs len : Nat) (s : State) :
    s.NoNewRun (execTransferRead l m tid idx sub ofs len s) := by simp [execTransferRead, State.serveRead_noRunGained]

@[simp] theorem execResultRead_noNewRun (l : LaneId) (m : Master) (tid : Nat) (k : ResultKind) (own : Master) (s : State) :
    s.NoNewRun (execResultRead l m tid k own s) := by simp [execResultRead, State.serveRead_noRunGained]

@[simp] theorem execSupervisoryRead_noNewRun (l : LaneId) (tid idx sub ofs len op : Nat) (s : State) :
    s.NoNewRun (execSupervisoryRead l tid idx sub ofs len op s) := by
  have replied (t : State) : t.NoRunGained (t.on l Lane.supReply) := t.on_noRunGained l fun L => by simp
  simp only [execSupervisoryRead]
  split
  · simp
  · rw [State.noNewRun_next_iff]
    refine State.NoRunGained.trans ?_ (replied _)
    split
    · exact s.serveRead_noRunGained _ _ _ _ _ _ _ _
    · exact s.on_noRunGained l fun L => by simp

@[simp] theorem execPeerRead_noNewRun (l : LaneId) (msg : SlipMsg) (tid idx sub ofs len : Nat) (s : State) :
    s.NoNewRun (execPeerRead l msg tid idx sub ofs len s) := by
  unfold execPeerRead
  dsimp only
  split
  · split
    · split
      · exact (State.noNewRun_next_iff _ _).2 (s.serveRead_noRunGained _ _ _ _ _ _ _ _)
      · simp
    · simp
  · simp

@[simp] theorem execSnapshotLapse_noNewRun (l : LaneId) (m : Master) (tid : Nat) (s : State) :
    s.NoNewRun (execSnapshotLapse l m tid s) := by simp [execSnapshotLapse]

@[simp] theorem execTransferWriteSegment_noNewRun (l : LaneId) (m : Master) (tid idx sub ofs total : Nat) (data : List Byte)
    (s : State) : s.NoNewRun (execTransferWriteSegment l m tid idx sub ofs total data s) := by
  simp [execTransferWriteSegment]

@[simp] theorem execTransferAbort_noNewRun (l : LaneId) (m : Master) (tid : Nat) (s : State) :
    s.NoNewRun (execTransferAbort l m tid s) := by simp [execTransferAbort]

@[simp] theorem execSegmentTimeout_noNewRun (l : LaneId) (m : Master) (tid : Nat) (s : State) :
    s.NoNewRun (execSegmentTimeout l m tid s) := by
  simp only [execSegmentTimeout, State.noNewRun_on_iff]
  split <;> simp

@[simp] theorem execFaultSeenClear_noNewRun (l : LaneId) (m : Master) (tid : Nat) (data : List Byte) (s : State) :
    s.NoNewRun (execFaultSeenClear l m tid data s) := by
  exact State.noNewRun_write s _ _ _ (fun _ => _) _ _ (fun _ => _) (fun _ => _) fun _ _ => rfl

@[simp] theorem execProgramStage_noNewRun (l : LaneId) (m : Master) (tid : Nat) (k : Fin 5) (total : Nat) (data : List Byte)
    (s : State) : s.NoNewRun (execProgramStage l m tid k total data s) := by
  simp only [execProgramStage, State.noNewRun_on_iff]
  (repeat' split) <;> simp

@[simp] theorem execProgramInstall_noNewRun (l : LaneId) (m : Master) (tid : Nat) (k : Fin 5) (s : State) :
    s.NoNewRun (execProgramInstall l m tid k s) := by
  simp only [execProgramInstall, State.noNewRun_on_iff]
  split <;> simp

@[simp] theorem execProgramInstallComplete_noNewRun (l : LaneId) (k : Fin 5) (s : State) :
    s.NoNewRun (execProgramInstallComplete l k s) := by
  simp only [execProgramInstallComplete, State.noNewRun_on_iff]
  split <;> simp

@[simp] theorem execProgramDiscard_noNewRun (l : LaneId) (m : Master) (tid : Nat) (k : Fin 5) (s : State) :
    s.NoNewRun (execProgramDiscard l m tid k s) := by
  refine State.noNewRun_write s _ _ _ (fun _ => _) _ _ (fun _ => _) (fun _ => _) fun _ _ => by simp

@[simp] theorem execDs2Value_noNewRun (l : LaneId) (m : Master) (tid : Nat) (data : List Byte) (grp : Option (Fin 16))
    (s : State) : s.NoNewRun (execDs2Value l m tid data grp s) := by simp [execDs2Value]

@[simp] theorem execSidebandValueDownload_noNewRun (l : LaneId) (idx sub : Nat) (data : List Byte) (s : State) :
    s.NoNewRun (execSidebandValueDownload l idx sub data s) := by
  simp only [execSidebandValueDownload]
  split
  · simp
  · rw [State.noNewRun_next_iff]
    exact (s.on_noRunGained l fun L => by simp).trans (State.on_noRunGained _ l fun L => by simp)

@[simp] theorem execCommitPrepareReceived_noNewRun (l : LaneId) (msg : SlipMsg) (ctr : W16) (s : State) :
    s.NoNewRun (execCommitPrepareReceived l msg ctr s) := by
  simp only [execCommitPrepareReceived]
  (repeat' split) <;> simp

@[simp] theorem execFaultEvent_noNewRun (l : LaneId) (code : W16) (level : Fin 7) (detId detVal : W32) (full : Bool)
    (s : State) : s.NoNewRun (execFaultEvent l code level detId detVal full s) := by
  have own := s.on_noRunGained l (f := fun L =>
    (L.record code.toNat level.val detId.toNat detVal.toNat full).react code.toNat level.val detId.toNat)
    fun L => by simp
  unfold execFaultEvent
  rw [State.noNewRun_next_iff]
  split
  · exact own.trans (State.onAll_noRunGained _ fun L => by split <;> simp)
  · exact own

@[simp] theorem execSramDoubleBitError_noNewRun (l : LaneId) (g : Fin 16) (cell : Nat × Nat) (held : Held) (s : State) :
    s.NoNewRun (execSramDoubleBitError l g cell held s) := by
  simp only [execSramDoubleBitError, State.noNewRun_on_iff]
  (repeat' split) <;> simp


end Sys2Proof.Machine
end

section
/-! PROOFS, a lane enters RUN only when every condition holds (O60). What a lane that comes into RUN has met, held
through what the same command still does to it. -/
namespace Sys2Proof.Machine

/-! ### The conditions of R386 -/

/-- Lane `M` has kept from `L` everything the conditions of R386 speak of but the power state. -/
structure Lane.ReadyKept (L M : Lane) : Prop where
  id : M.id = L.id
  working : M.dict.working = L.dict.working
  step : M.pwr.step = L.pwr.step
  sec : M.sec = L.sec
  cfg : M.flog.cfg = L.flog.cfg
  safe : M.safe = L.safe
  cone : M.therm.cone = L.therm.cone
  held : M.vote.held = L.vote.held

theorem Lane.ReadyKept.refl (L : Lane) : L.ReadyKept L := ⟨rfl, rfl, rfl, rfl, rfl, rfl, rfl, rfl⟩

theorem Lane.ReadyKept.trans {L M N : Lane} (h : L.ReadyKept M) (h' : M.ReadyKept N) : L.ReadyKept N :=
  ⟨h'.id.trans h.id, h'.working.trans h.working, h'.step.trans h.step, h'.sec.trans h.sec, h'.cfg.trans h.cfg,
    h'.safe.trans h.safe, h'.cone.trans h.cone, h'.held.trans h.held⟩

theorem Lane.ReadyKept.runOk {L M : Lane} (h : L.ReadyKept M) : M.runOk = L.runOk := by
  simp only [Lane.runOk, Lane.cfgOk, Lane.keysOk, Lane.keyOk, Lane.uplinkOn, Lane.obj, h.id, h.working, h.step, h.sec,
    h.cfg, h.safe, h.cone, h.held]
  rfl

/-- What RUNOK says, condition by condition (R386, R417). -/
theorem Lane.runOk_iff (L : Lane) : L.runOk = true ↔
    L.pwr.step = 9 ∧ L.sec.bootOk = true ∧ L.cfgOk = true ∧ L.safe.chkOk = true ∧ L.safe.sealOpen = false ∧
    L.therm.cone = false ∧ L.vote.held = false ∧ L.keysOk = true := by
  simp [Lane.runOk, and_assoc]

theorem Lane.keysOk_slots {L : Lane} (h : L.keysOk = true) :
    L.keyOk (L.obj 0x4800 0x16) = true ∧ L.keyOk 10 = true ∧ L.keyOk 11 = true ∧
    (L.uplinkOn = true → L.keyOk 8 = true ∨ L.keyOk 9 = true) := by
  simp only [Lane.keysOk, Bool.and_eq_true, Bool.or_eq_true, Bool.not_eq_true', or_assoc] at h
  obtain ⟨⟨⟨⟨-, tx⟩, k10⟩, k11⟩, up⟩ := h
  exact ⟨tx, k10, k11, fun on => up.resolve_left (by simp [on])⟩

/-- The items of a configuration check that fail are not the ring's matter. -/
@[simp] theorem Rec.take_cfg (f : Rec) (code level detId detVal ns : Nat) (st : TState) :
    (f.take code level detId detVal ns st).cfg = f.cfg := by
  simp only [Rec.take]
  cases coalesce code detId ns st level detVal f.ring with
  | some r => dsimp only; split <;> rfl
  | none =>
    by_cases hroom : f.ring.length < 512
    · simp only [if_pos hroom]; split <;> rfl
    · simp only [if_neg hroom]
      cases dropOldest f.ring with
      | some r => dsimp only [Option.map]; split <;> rfl
      | none => rfl

@[simp] theorem Lane.raise_cfg (L : Lane) (code level detId detVal : Nat) :
    (L.raise code level detId detVal).flog.cfg = L.flog.cfg := Rec.take_cfg ..

theorem Lane.raise_readyKept (L : Lane) (code level detId detVal : Nat) :
    L.ReadyKept (L.raise code level detId detVal) :=
  ⟨rfl, rfl, rfl, rfl, L.raise_cfg .., rfl, rfl, rfl⟩

/-- A response to a master that reaches the lane. -/
theorem Lane.answer_resp {L : Lane} {m : Master} (h : L.reaches m = true) (tid idx sub : Nat) (code : W32)
    (data : List Byte) : (L.answer m tid idx sub code data).dict.resp =
      some { m := m, tid := tid, idx := idx, sub := sub, code := code, data := data, atNs := L.tb.ns } := by
  simp [Lane.answer, Lane.answerWith, h]

theorem Lane.answer_readyKept (L : Lane) (m : Master) (tid idx sub : Nat) (code : W32) (data : List Byte := []) :
    L.ReadyKept (L.answer m tid idx sub code data) := by
  unfold Lane.answer Lane.answerWith
  split
  · exact .refl L
  · exact ⟨rfl, rfl, rfl, rfl, rfl, rfl, rfl, rfl⟩

theorem Lane.lptDemand_readyKept (L : Lane) : L.ReadyKept L.lptDemand := by
  unfold Lane.lptDemand
  split
  · exact Lane.ReadyKept.trans (M := { L with lpt := L.lpt.stop 4 }) ⟨rfl, rfl, rfl, rfl, rfl, rfl, rfl, rfl⟩
      (Lane.raise_readyKept ..)
  · exact .refl L

theorem Lane.lptDemand_run_readyKept (L : Lane) :
    L.ReadyKept { L.lptDemand with pwr := { L.lptDemand.pwr with state := .run } } :=
  L.lptDemand_readyKept.trans ⟨rfl, rfl, rfl, rfl, rfl, rfl, rfl, rfl⟩

theorem Lane.enter_readyKept (L : Lane) (toOff : Bool) : L.ReadyKept (L.enter toOff) :=
  ⟨rfl, rfl, rfl, rfl, rfl, rfl, rfl, rfl⟩

theorem Lane.exitFor_readyKept (L : Lane) (k : Nat) : L.ReadyKept (L.exitFor k) :=
  ⟨rfl, rfl, rfl, rfl, rfl, rfl, rfl, rfl⟩

theorem Lane.stay_readyKept (L : Lane) (k : Nat) : L.ReadyKept (L.stay k) := by
  unfold Lane.stay
  split
  · exact ⟨rfl, rfl, rfl, rfl, rfl, rfl, rfl, rfl⟩
  · exact ⟨rfl, rfl, rfl, rfl, rfl, rfl, rfl, rfl⟩

/-! ### A lane that comes into RUN, or stays in it -/

/-- Where lane `M` is in RUN, `L` was, or `M` meets the conditions. -/
def Lane.RunChecked (L M : Lane) : Prop := M.pwr.state = .run → L.pwr.state = .run ∨ M.runOk = true

/-- Where lane `M` is in RUN, `L` was, and kept what the conditions speak of. -/
def Lane.RunHeld (L M : Lane) : Prop := M.pwr.state = .run → L.pwr.state = .run ∧ L.ReadyKept M

theorem Lane.NoRunGained.runChecked {L M : Lane} (h : L.NoRunGained M) : L.RunChecked M := fun hm => .inl (h hm)

theorem Lane.RunChecked.before {L L' M : Lane} (h : L'.RunChecked M) (hs : L'.pwr.state = L.pwr.state) :
    L.RunChecked M := fun hm => hs ▸ h hm

theorem Lane.RunChecked.held {L M N : Lane} (h : L.RunChecked M) (h' : M.RunHeld N) : L.RunChecked N := fun hn => by
  obtain ⟨hm, kept⟩ := h' hn
  exact kept.runOk ▸ h hm

theorem Lane.ReadyKept.runHeld {L M : Lane} (h : L.ReadyKept M) (hs : M.pwr.state = L.pwr.state) : L.RunHeld M :=
  fun hm => ⟨hs ▸ hm, h⟩

theorem Lane.RunHeld.refl (L : Lane) : L.RunHeld L := (ReadyKept.refl L).runHeld rfl

theorem Lane.runHeld_of_ne {L M : Lane} (h : M.pwr.state ≠ .run) : L.RunHeld M := fun hm => absurd hm h

/-! ### Power requests -/

theorem Lane.preEmpt_runHeld (L : Lane) (src : Byte) : L.RunHeld (L.preEmpt src) := by
  simp only [Lane.preEmpt]
  split
  · exact Lane.ReadyKept.runHeld ⟨rfl, rfl, rfl, rfl, rfl, rfl, rfl, rfl⟩ rfl
  · split
    · exact .refl L
    · split
      · exact Lane.runHeld_of_ne (by simp)
      · refine ((L.raise_readyKept 0x1FD9 0 0 0).trans ?_).runHeld rfl
        exact ⟨rfl, rfl, rfl, rfl, rfl, rfl, rfl, rfl⟩

theorem Lane.reqEntry_runHeld (L : Lane) (k : Nat) : L.RunHeld (L.reqEntry k).1 := by
  unfold Lane.reqEntry
  split
  · exact .refl L
  · split
    · exact Lane.ReadyKept.runHeld ⟨rfl, rfl, rfl, rfl, rfl, rfl, rfl, rfl⟩ rfl
    · split
      · exact .refl L
      · exact L.preEmpt_runHeld 4

/-- A request in HOLD that is not for RUN leaves the lane out of RUN; one for RUN is checked (R386). -/
theorem Lane.reqHold_runChecked (L : Lane) (k : Nat) (h : L.pwr.state = .hold) : L.RunChecked (L.reqHold k).1 := by
  unfold Lane.reqHold
  split
  · split
    next ready => exact fun _ => .inr (L.lptDemand_run_readyKept.runOk.trans ready)
    · exact fun hm => .inl hm
  · split
    · exact fun hm => .inl hm
    · exact fun hm => by simp [h] at hm

theorem Lane.reqHold_pwrState (L : Lane) {k : Nat} (hk : k ≠ 1) : (L.reqHold k).1.pwr.state = L.pwr.state := by
  unfold Lane.reqHold
  rw [if_neg hk]
  split
  · rfl
  · simp

theorem Lane.reqRun_runHeld (L : Lane) (k : Nat) : L.RunHeld (L.reqRun k).1 := by
  have exits := (L.exitFor_readyKept k).runHeld rfl
  have stays := (L.stay_readyKept k).runHeld (L.stay_pwrState k)
  have same := RunHeld.refl L
  have enters := (L.enter_readyKept (k = 4)).runHeld rfl
  unfold Lane.reqRun
  split
  · split
    · split
      · exact stays
      · split
        · exact exits
        · exact same
    · split
      · exact same
      · split
        · exact exits
        · exact same
  · split
    · exact same
    · split
      · exact Lane.runHeld_of_ne nofun
      · exact enters

theorem Lane.reqStandby_runHeld (L : Lane) (k : Nat) : L.RunHeld (L.reqStandby k).1 := by
  unfold Lane.reqStandby
  (repeat' split)
  · exact .refl L
  · exact Lane.runHeld_of_ne (by simp)
  · exact Lane.runHeld_of_ne (by simp)
  · exact .refl L

/-- A request that is not for RUN in HOLD keeps a lane in RUN as it was, or leaves it out of RUN. -/
theorem Lane.request_runHeld (L : Lane) (m : Master) (k : Nat) (h : k ≠ 1 ∨ L.pwr.state ≠ .hold) :
    L.RunHeld (L.request m k).1 := by
  unfold Lane.request
  split
  · exact L.reqEntry_runHeld k
  · split
    next starts => exact Lane.runHeld_of_ne (by simp [starts])
    next holds =>
      exact Lane.runHeld_of_ne (by rw [L.reqHold_pwrState (h.resolve_right (not_not_intro holds)), holds]; nofun)
    · exact L.reqRun_runHeld k
    · exact L.reqStandby_runHeld k
    · exact .refl L

theorem Lane.RunHeld.runChecked {L M : Lane} (h : L.RunHeld M) : L.RunChecked M := fun hm => .inl (h hm).1

theorem Lane.request_runChecked (L : Lane) (m : Master) (k : Nat) : L.RunChecked (L.request m k).1 := by
  by_cases holds : L.pwr.state = .hold
  · unfold Lane.request
    split
    · exact (L.reqEntry_runHeld k).runChecked
    · simpa only [holds] using L.reqHold_runChecked k holds
  · exact (L.request_runHeld m k (.inr holds)).runChecked

theorem Lane.heldRequest_runHeld (L : Lane) : L.RunHeld L.heldRequest := by
  have cleared : L.ReadyKept { L with pwr := { L.pwr with pending := 0 } } := ⟨rfl, rfl, rfl, rfl, rfl, rfl, rfl, rfl⟩
  simp only [Lane.heldRequest]
  split
  · exact .refl L
  next pends =>
    intro hm
    obtain ⟨was, kept⟩ := Lane.request_runHeld _ .host (L.pwr.pending + 1) (.inl (by omega)) hm
    exact ⟨was, cleared.trans kept⟩

theorem Lane.powerWrite_runChecked (L : Lane) (m : Master) (tid k : Nat) : L.RunChecked (L.powerWrite m tid k) := by
  unfold Lane.powerWrite
  dsimp only
  split
  · exact fun hm => .inl hm
  · split
    · exact fun hm => .inl (by simpa [pwr_ite] using hm)
    · exact (Lane.request_runChecked _ m k).before (by simp [pwr_ite])

theorem Lane.powerBytes_runChecked (L : Lane) (m : Master) (tid : Nat) (data : List Byte) :
    L.RunChecked (L.powerBytes m tid data) := by
  unfold Lane.powerBytes
  split
  · exact fun hm => .inl (by simpa using hm)
  · exact L.powerWrite_runChecked m tid _

/-! ### Entry to SHADOW (R450) -/

/-- A lane in RUN meets the conditions. -/
def Lane.RunReady (L : Lane) : Prop := L.pwr.state = .run → L.runOk = true

theorem Lane.RunReady.held {L M : Lane} (h : L.RunReady) (h' : L.RunHeld M) : M.RunReady := fun hm => by
  obtain ⟨was, kept⟩ := h' hm
  exact kept.runOk.trans (h was)

theorem Lane.shadowState_runReady (L : Lane) : L.shadowState.RunReady := by
  intro hm
  have ready : ({ L with pwr := { L.pwr with step := 9 } } : Lane).runOk = true := by
    simp only [Lane.shadowState] at hm
    split at hm
    next run => exact (Bool.and_eq_true_iff.1 run).2
    · cases hm
  exact (Lane.ReadyKept.runOk (L := { L with pwr := { L.pwr with step := 9 } })
    ⟨rfl, rfl, rfl, rfl, rfl, rfl, rfl, rfl⟩).trans ready

/-- The position front end `b` counts anew what the lane agreed of it. -/
theorem Lane.onFe_readyKept (L : Lane) (b : Fin 8) (f : FrontEnd → FrontEnd) : L.ReadyKept (L.onFe b f) :=
  ⟨rfl, rfl, rfl, rfl, rfl, rfl, rfl, rfl⟩

theorem Lane.revSync_readyKept (L : Lane) : L.ReadyKept L.revSync := by
  refine List.foldlRecOn fin8 _ (motive := L.ReadyKept) (.refl L) fun M hM b _ => hM.trans ?_
  dsimp only
  (repeat' split)
  · exact .refl M
  · exact .refl M
  · exact .refl M
  · exact M.onFe_readyKept ..

theorem Lane.enterShadow_runReady (L : Lane) (driver : Bool) : (L.enterShadow driver).RunReady := by
  unfold Lane.enterShadow
  dsimp only
  split
  · exact (L.shadowState_runReady.held (L.shadowState.revSync_readyKept.runHeld (by simp))).held
      (Lane.heldRequest_runHeld _)
  · exact L.shadowState_runReady.held (Lane.heldRequest_runHeld _)

/-! ### The module -/

/-- Each lane that comes into RUN meets the conditions there. -/
def State.RunChecked (s t : State) : Prop := ∀ l, (s.lane l).RunChecked (t.lane l)

theorem State.NoRunGained.runChecked {s t : State} (h : s.NoRunGained t) : s.RunChecked t := fun l => (h l).runChecked

theorem State.RunChecked.before {s s' t : State} (h : s'.RunChecked t)
    (hs : ∀ l, (s'.lane l).pwr.state = (s.lane l).pwr.state) : s.RunChecked t := fun l => (h l).before (hs l)

theorem State.RunChecked.held {s t u : State} (h : s.RunChecked t) (h' : ∀ l, (t.lane l).RunHeld (u.lane l)) :
    s.RunChecked u := fun l => (h l).held (h' l)

theorem State.on_runChecked (s : State) (l : LaneId) {f : Lane → Lane} (h : (s.lane l).RunChecked (f (s.lane l))) :
    s.RunChecked (s.on l f) := fun p => by
  by_cases hp : p = l
  · subst hp; simpa using h
  · rw [s.lane_on_ne f hp]; exact fun hm => .inl hm

theorem State.RunChecked.on {s t : State} (h : s.RunChecked t) (l : LaneId) {f : Lane → Lane}
    (hf : (f (t.lane l)).RunReady) : s.RunChecked (t.on l f) := fun p => by
  by_cases hp : p = l
  · subst hp; rw [State.lane_on_same]; exact fun hm => .inr (hf hm)
  · rw [t.lane_on_ne f hp]; exact h p

theorem State.RunChecked.on_held {s t : State} (h : s.RunChecked t) (l : LaneId) {f : Lane → Lane}
    (hf : ∀ M : Lane, M.RunHeld (f M)) : s.RunChecked (t.on l f) :=
  h.held fun p => by
    rw [State.lane_on]
    split
    · exact hf _
    · exact .refl _

theorem State.views_runHeld (s : State) (l : LaneId) : (s.lane l).RunHeld (s.views.lane l) := by
  rw [State.views, State.lane_onAll]
  split
  · exact Lane.ReadyKept.runHeld ⟨rfl, rfl, rfl, rfl, rfl, rfl, rfl, rfl⟩ rfl
  · exact .refl _

/-! ### The start of a vote cycle -/

@[simp] theorem State.changeRole_pwr (s : State) (l p : LaneId) : ((s.changeRole l).lane p).pwr = (s.lane p).pwr := by
  unfold State.changeRole
  split
  · simp only [State.lane_onAll, Lane.rampFrom0]
    rw [State.lane_on]; split <;> simp_all
  · rw [State.lane_on]
    split <;> simp only [State.lane_onAll] <;> split <;> simp_all
  · rw [State.lane_on]; split <;> simp_all
  · rfl

@[simp] theorem State.roleChanges_pwr (s : State) (p : LaneId) : (s.roleChanges.lane p).pwr = (s.lane p).pwr := by
  rw [State.roleChanges_eq]
  exact List.foldlRecOn allLanes _ (motive := fun t : State => (t.lane p).pwr = (s.lane p).pwr) rfl
    fun t ht l _ => (t.changeRole_pwr l p).trans ht

theorem State.shadowEntry_runChecked (s old : State) : s.RunChecked (s.shadowEntry old) := by
  refine List.foldlRecOn allLanes _ (motive := s.RunChecked) (fun _ hm => .inl hm) fun t ht l _ => ?_
  dsimp only
  split
  · split
    · exact ht.on l (Lane.enterShadow_runReady _ _)
    · split
      · exact ht.on l (Lane.enterShadow_runReady _ _)
      · exact ht
  · exact ht

/-- What a command answers, where it is a next state, has each lane that comes into RUN meet the conditions. -/
def State.NewRunChecked (s : State) (o : Host.Outcome State Fault Refusal) : Prop := ∀ t, o = .next t → s.RunChecked t

theorem State.NoNewRun.newRunChecked {s : State} {o : Host.Outcome State Fault Refusal} (h : s.NoNewRun o) :
    s.NewRunChecked o := fun t ht => (h t ht).runChecked

theorem State.newRunChecked_next {s t : State} (h : s.RunChecked t) : s.NewRunChecked (.next t) := fun _ ht => by
  cases ht; exact h

theorem execVoteCycleStart_newRunChecked (k : Nat) (s : State) : s.NewRunChecked (execVoteCycleStart k s) := by
  refine State.newRunChecked_next ?_
  refine ((State.shadowEntry_runChecked _ s).held (State.views_runHeld _)).before fun l => ?_
  rw [State.roleChanges_pwr, State.lane_onAll, Lane.startCycle_pwrState]
  rfl

/-! ### Power requests and AUTO_RUN -/

theorem State.powerWrite_newRunChecked (s : State) (l : LaneId) (m : Master) (tid k : Nat) :
    s.NewRunChecked (.next (s.on l fun L => L.powerWrite m tid k)) :=
  State.newRunChecked_next (s.on_runChecked l (Lane.powerWrite_runChecked _ m tid k))

theorem execAutoRunRequest_newRunChecked (l : LaneId) (s : State) : s.NewRunChecked (execAutoRunRequest l s) := by
  refine State.newRunChecked_next (s.on_runChecked l ?_)
  split
  next due =>
    have ready : (s.lane l).runOk = true := (Bool.and_eq_true_iff.1 due).2
    exact fun _ => .inr ((Lane.lptDemand_run_readyKept _).runOk.trans ready)
  · exact fun hm => .inl hm

/-! ### Writes of any object -/

theorem State.programControl_noRunGained (s : State) (l : LaneId) (m : Master) (tid : Nat) (k : Fin 5)
    (data : List Byte) : s.NoRunGained (s.programControl l m tid k data) := by
  unfold State.programControl
  split
  · exact State.after_noRunGained (execProgramInstall_noNewRun l m tid k s)
  · split
    · exact State.after_noRunGained (execProgramDiscard_noNewRun l m tid k s)
    · exact s.on_noRunGained l fun L => by simp

theorem State.writeLow_runChecked {s t : State} {l : LaneId} {m : Master} {tid idx sub : Nat} {data : List Byte}
    {e : WriteEnv} (ht : s.writeLow l m tid idx sub data e = some t) : s.RunChecked t := by
  have kept {o : Host.Outcome State Fault Refusal} (h : s.NoNewRun o) : s.RunChecked (s.after o) :=
    (State.after_noRunGained h).runChecked
  unfold State.writeLow at ht
  simp only at ht
  split at ht
  · cases ht; exact kept (execFaultSeenClear_noNewRun l m tid data s)
  · cases ht; exact s.on_runChecked l (Lane.powerBytes_runChecked _ m tid data)
  · cases ht; exact (s.on_noRunGained l fun L => by simp).runChecked
  · cases ht; exact kept (execStepAccept_noNewRun l m tid data s)
  · cases ht; exact kept (execTaSubmit_noNewRun l m tid data e.lineNs s)
  · cases ht; exact kept (execTaCancel_noNewRun l m tid data s)
  · split at ht
    · cases ht; exact kept (execProgramStage_noNewRun l m tid _ data.length data s)
    · split at ht
      · cases ht; exact (s.programControl_noRunGained l m tid _ data).runChecked
      · split at ht
        · cases ht; exact kept (execTsqPop_noNewRun l m tid _ data s)
        · split at ht
          · cases ht; exact (s.on_noRunGained l fun L => by simp).runChecked
          · cases ht

theorem State.writeHigh_noRunGained {s t : State} {l : LaneId} {m : Master} {tid idx sub : Nat} {data : List Byte}
    {g : Option Nat} {e : WriteEnv} (ht : s.writeHigh l m tid idx sub data g e = some t) : s.NoRunGained t := by
  unfold State.writeHigh at ht
  split at ht
  · cases ht; exact State.after_noRunGained (execSetStore_noNewRun l m tid data s)
  · cases ht; exact State.after_noRunGained (execDs2Password_noNewRun l m tid data.length data s)
  · cases ht; exact s.on_noRunGained l fun L => by simp
  · cases ht; exact State.after_noRunGained (execDs2Store_noNewRun l m tid data s)
  · cases ht; exact State.after_noRunGained (execDs2Lock_noNewRun l m tid data s)
  · cases ht; exact State.after_noRunGained (execDbgResponse_noNewRun l m tid _ _ s)
  · cases ht; exact State.after_noRunGained (execKeyRevoke_noNewRun l m tid data s)
  · cases ht; exact State.after_noRunGained (execSbClose_noNewRun l m tid data s)
  · cases ht; exact State.after_noRunGained (execReintRelease_noNewRun l m tid data s)
  · cases ht; exact s.on_noRunGained l fun L => by simp
  · cases ht; exact State.after_noRunGained (execCtSubmit_noNewRun l m tid data s)
  · cases ht; exact State.after_noRunGained (execCtWithdraw_noNewRun l m tid data s)
  · cases ht; exact State.after_noRunGained (execMemTest_noNewRun l m tid data s)
  · cases ht; exact s.lptWrite_noRunGained l m tid data e.rx
  · split at ht
    · cases ht; exact State.after_noRunGained (execRevCountWrite_noNewRun l m tid _ data s)
    · cases ht; exact State.after_noRunGained (execGdClear_noNewRun l m tid _ data e.gate s)
    · cases ht; exact State.after_noRunGained (execSelftest_noNewRun l m tid _ data s)
    · cases ht; exact State.after_noRunGained (execChopTest_noNewRun l m tid data s)
    · cases ht

theorem State.performWrite_runChecked (s : State) (l : LaneId) (m : Master) (tid idx sub : Nat) (data : List Byte)
    (g : Option Nat) (e : WriteEnv) : s.RunChecked (s.performWrite l m tid idx sub data g e) := by
  unfold State.performWrite
  split
  case h_1 t ht =>
    split at ht
    · exact State.writeLow_runChecked ht
    · exact (State.writeHigh_noRunGained ht).runChecked
  · exact (s.on_noRunGained l fun L => by simp).runChecked

/-- An update of one lane that leaves the power states, then a command's effect. -/
theorem State.RunChecked.after_on {s t : State} {l : LaneId} {f : Lane → Lane} (h : (s.on l f).RunChecked t)
    (hf : ∀ L : Lane, (f L).pwr.state = L.pwr.state) : s.RunChecked t :=
  h.before fun p => by rw [State.lane_on]; split <;> simp_all

theorem execObjectWrite_newRunChecked (l : LaneId) (m : Master) (tid idx sub ofs total : Nat) (grp : Option (Fin 16))
    (data : List Byte) (e : WriteEnv) (s : State) :
    s.NewRunChecked (execObjectWrite l m tid idx sub ofs total grp data e s) := by
  have kept {u : State} {f : Lane → Lane} (hf : ∀ L : Lane, (f L).pwr = L.pwr) : u.RunChecked (u.on l f) :=
    (u.on_noRunGained l fun L => by rw [Lane.NoRunGained, hf]; exact id).runChecked
  have act (u : State) (data : List Byte) : u.RunChecked
      ((u.on l fun L => { L with dict := L.dict.dropBuf m tid }).performWrite l m tid idx sub data (grp.map (·.val)) e) :=
    State.RunChecked.after_on (State.performWrite_runChecked _ l m tid idx sub data _ e) fun _ => rfl
  have woken {t : State} (h : (if m = .sideBand then s.on l Lane.sbWake else s).RunChecked t) : s.RunChecked t := by
    split at h
    · exact h.after_on Lane.sbWake_pwrState
    · exact h
  unfold execObjectWrite
  dsimp only
  split
  · exact State.newRunChecked_next fun _ hm => .inl hm
  · split
    · exact State.newRunChecked_next (woken (kept fun _ => by simp))
    · split
      · exact State.newRunChecked_next (woken (kept fun _ => by simp))
      · split
        · exact State.newRunChecked_next (woken (act _ _))
        · split
          · split
            · exact State.newRunChecked_next (woken (act _ _))
            · exact State.newRunChecked_next (woken (kept fun _ => by simp))
          · exact State.newRunChecked_next (woken (kept fun _ => by simp))

theorem execSbTag_newRunChecked (l : LaneId) (data : List Byte) (e : WriteEnv) (s : State) :
    s.NewRunChecked (execSbTag l data e s) := by
  have kept {u : State} {f : Lane → Lane} (hf : ∀ L : Lane, (f L).pwr = L.pwr) : u.RunChecked (u.on l f) :=
    (u.on_noRunGained l fun L => by rw [Lane.NoRunGained, hf]; exact id).runChecked
  have woken {t : State} (h : (s.on l Lane.sbWake).RunChecked t) : s.RunChecked t := h.after_on Lane.sbWake_pwrState
  have counted (n : W32) (M : Lane) :
      M.RunHeld (if M.sb.isOpen then { M with sb := { M.sb with counter := n } } else M) := by
    split
    · exact Lane.ReadyKept.runHeld ⟨rfl, rfl, rfl, rfl, rfl, rfl, rfl, rfl⟩ rfl
    · exact .refl M
  unfold execSbTag
  dsimp only
  split
  · exact State.newRunChecked_next fun _ hm => .inl hm
  · split
    · exact State.newRunChecked_next (woken (kept fun _ => by simp))
    · split
      · exact State.newRunChecked_next (woken (kept fun _ => by simp))
      · split
        · refine State.newRunChecked_next (woken (State.RunChecked.on_held ?_ l (counted _)))
          exact State.RunChecked.after_on (State.performWrite_runChecked _ l .sideBand 0 _ _ _ none e) fun _ => rfl
        · exact State.newRunChecked_next (woken (kept fun _ => by simp))

/-! ### Roles: output compare, exit, formation -/

theorem execOutputCompare_noNewRun (flags : Tri Bool) (s : State) : s.NoNewRun (execOutputCompare flags s) := by
  refine (State.noNewRun_next_iff _ _).2 fun l hl => ?_
  rw [State.lane_onAll] at hl
  split at hl <;> simpa using hl

theorem execExitRampEnd_noNewRun (l : LaneId) (s : State) : s.NoNewRun (execExitRampEnd l s) := by
  have stop (M : Lane) : (if M.alive && M.vote.running then M.judgeStop else M).pwr = M.pwr := by
    split <;> simp
  intro t ht
  obtain rfl | rfl := State.eq_of_ite_next ht
  · refine State.NoRunGained.trans (t := State.onAll _ _) (fun p hp => ?_)
      (State.on_noRunGained _ l fun M => M.proceed_noRunGained _)
    rw [State.lane_onAll, stop, State.lane_views_pwr, State.lane_succeed_pwr, State.lane_onAll] at hp
    by_cases hpl : p = l
    · subst hpl; simpa using hp
    · simpa [hpl] using hp
  · exact .refl t

theorem execModuleFormation_noNewRun (s : State) : s.NoNewRun (execModuleFormation s) := by
  unfold execModuleFormation
  dsimp only
  split
  · exact (State.noNewRun_next_iff _ _).2 (.refl s)
  · split
    · exact (State.noNewRun_next_iff _ _).2 (.refl s)
    · refine (State.noNewRun_next_iff _ _).2 fun l hl => ?_
      rw [State.lane_views_pwr, State.lane_onAll] at hl
      simpa [Lane.pwr_ite] using hl

/-! ### Every command, and the step -/

/-- The commands under which a lane may come into RUN. -/
def entersRun : Instr → Bool
  | .voteCycleStart .. | .pwrReqRun .. | .pwrReqHold .. | .pwrReqStandby .. | .pwrReqOff .. | .autoRunRequest .. |
    .objectWrite .. | .sbTag .. => true
  | _ => false

theorem exec_noNewRun {c : Instr} (h : entersRun c = false) (s : State) : s.NoNewRun (exec c s) := by
  cases c with
  | voteCycleStart => cases h
  | pwrReqRun => cases h
  | pwrReqHold => cases h
  | pwrReqStandby => cases h
  | pwrReqOff => cases h
  | autoRunRequest => cases h
  | objectWrite => cases h
  | sbTag => cases h
  | outputCompare flags => exact execOutputCompare_noNewRun flags s
  | exitRampEnd l => exact execExitRampEnd_noNewRun l s
  | moduleFormation => exact execModuleFormation_noNewRun s
  | _ => unfold exec; simp

theorem exec_newRunChecked (c : Instr) (s : State) : s.NewRunChecked (exec c s) := by
  cases hc : entersRun c with
  | false => exact (exec_noNewRun hc s).newRunChecked
  | true =>
    cases c with
    | voteCycleStart k => exact execVoteCycleStart_newRunChecked k s
    | pwrReqRun l m tid => exact s.powerWrite_newRunChecked l m tid 1
    | pwrReqHold l m tid => exact s.powerWrite_newRunChecked l m tid 2
    | pwrReqStandby l m tid => exact s.powerWrite_newRunChecked l m tid 3
    | pwrReqOff l m tid => exact s.powerWrite_newRunChecked l m tid 4
    | autoRunRequest l => exact execAutoRunRequest_newRunChecked l s
    | objectWrite l m tid idx sub ofs total grp data e =>
      exact execObjectWrite_newRunChecked l m tid idx sub ofs total grp data e s
    | sbTag l data e => exact execSbTag_newRunChecked l data e s
    | _ => cases hc

theorem step_runChecked {s t : State} (h : step s = .next t) : s.RunChecked t := by
  cases hq : s.pending with
  | nil =>
    simp only [step, hq] at h
    cases h
    exact fun l hm => .inl (by simpa [State.tickAll] using hm)
  | cons c rest =>
    simp only [step, hq] at h
    exact fun l => exec_newRunChecked c { s with pending := rest } t h l

/-! ### What a refused request leaves -/

/-- A request for RUN in HOLD that the conditions refuse is answered, and does nothing else (R386, R436). -/
theorem Lane.powerWrite_refused {L : Lane} {m : Master} {tid : Nat} (hr : L.reaches m = true)
    (hh : L.pwr.state = .hold) (hp : L.pwr.phase = 0) (hready : L.runOk = false)
    (hw : L.writeErr m 0x2100 2 [1] true false = none) :
    L.powerWrite m tid 1 = L.answer m tid 0x2100 2 0x08000022 := by
  have awake : (if m = .sideBand then L.sbWake else L) = L := by
    split
    · simp [Lane.sbWake, hh]
    · rfl
  have refused (M : Lane) (hm : M.pwr = L.pwr) (kept : L.ReadyKept M) : M.request m 1 = (M, eState) := by
    simp [Lane.request, hm, hp, hh, Lane.reqHold, kept.runOk, hready]
  simp only [Lane.powerWrite, hr, awake, Bool.true_eq_false, if_false]
  rw [show [BitVec.ofNat 8 1] = [(1 : Byte)] from rfl, hw]
  simp only [refused L rfl (.refl L)]
  rw [if_neg (by decide), refused _ (by simp) (L.answer_readyKept ..)]
  rfl

/-- Settles O60: a lane comes into RUN by a request, by AUTO_RUN or at the end of its restore, each of which checks
the conditions; nothing the same command does after that touches them. -/
theorem runOnlyWhenReady : Obligations.RunOnlyWhenReady := by
  refine ⟨fun s t l ht hnot hrun => ?_, fun s l hold hready => ⟨fun m tid hr hp hw => ?_, ?_⟩⟩
  · obtain ⟨hstep, boot, cfg, chk, shut, cone, held, keys⟩ :=
      (Lane.runOk_iff _).1 ((step_runChecked ht l hrun).resolve_left hnot)
    exact ⟨hstep, boot, cfg, chk, shut, cone, held, Lane.keysOk_slots keys⟩
  · refine ⟨_, rfl, ?_⟩
    rw [State.lane_on_same, Lane.powerWrite_refused hr hold hp hready hw]
    exact ⟨by simp [hold], _, Lane.answer_resp hr .., rfl⟩
  · exact congrArg Host.Outcome.next (s.on_id l (if_neg (by simp [hready])))

end Sys2Proof.Machine
end

section
/-! PROOFS, a step runs the command at the front of the queue (O57). -/
namespace Sys2Proof.Machine

/-- Every command completes in every state: each branch of each meaning is a next state. -/
theorem exec_completes (c : Instr) (s : State) : ∃ t, exec c s = .next t := by
  cases c with
  | inputSetReceived =>
    simp only [exec, execInputSetReceived]
    (repeat' split) <;> exact ⟨_, rfl⟩
  | outputSetReceived =>
    simp only [exec, execOutputSetReceived]
    (repeat' split) <;> exact ⟨_, rfl⟩
  | stateVectorReceived =>
    simp only [exec, execStateVectorReceived]
    (repeat' split) <;> exact ⟨_, rfl⟩
  | slipLinkIsolate =>
    simp only [exec, execSlipLinkIsolate]
    (repeat' split) <;> exact ⟨_, rfl⟩
  | laneRestart =>
    simp only [exec, execLaneRestart]
    (repeat' split) <;> exact ⟨_, rfl⟩
  | periodCompute =>
    simp only [exec, execPeriodCompute]
    (repeat' split) <;> exact ⟨_, rfl⟩
  | tsuvasFrameReceived =>
    simp only [exec, execTsuvasFrameReceived]
    (repeat' split) <;> exact ⟨_, rfl⟩
  | peerTimeRead =>
    simp only [exec, execPeerTimeRead]
    (repeat' split) <;> exact ⟨_, rfl⟩
  | gptpSync =>
    simp only [exec, execGptpSync]
    (repeat' split) <;> exact ⟨_, rfl⟩
  | supervisoryRead =>
    simp only [exec, execSupervisoryRead]
    (repeat' split) <;> exact ⟨_, rfl⟩
  | objectWrite =>
    simp only [exec, execObjectWrite]
    (repeat' split) <;> exact ⟨_, rfl⟩
  | commitPrepareReceived =>
    simp only [exec, execCommitPrepareReceived]
    (repeat' split) <;> exact ⟨_, rfl⟩
  | peerRead =>
    simp only [exec, execPeerRead]
    (repeat' split) <;> exact ⟨_, rfl⟩
  | sidebandValueDownload =>
    simp only [exec, execSidebandValueDownload]
    (repeat' split) <;> exact ⟨_, rfl⟩
  | sbTag =>
    simp only [exec, execSbTag]
    (repeat' split) <;> exact ⟨_, rfl⟩
  | exitRampEnd =>
    simp only [exec, execExitRampEnd]
    (repeat' split) <;> exact ⟨_, rfl⟩
  | moduleFormation =>
    simp only [exec, execModuleFormation]
    (repeat' split) <;> exact ⟨_, rfl⟩
  | wakeEvent =>
    simp only [exec, execWakeEvent]
    (repeat' split) <;> exact ⟨_, rfl⟩
  | vinPowerOn =>
    simp only [exec, execVinPowerOn]
    (repeat' split) <;> exact ⟨_, rfl⟩
  | nrstRelease =>
    simp only [exec, execNrstRelease]
    (repeat' split) <;> exact ⟨_, rfl⟩
  | restoreStepEnd =>
    simp only [exec, execRestoreStepEnd]
    (repeat' split) <;> exact ⟨_, rfl⟩
  | memTestDemand =>
    simp only [exec, execMemTestDemand]
    (repeat' split) <;> exact ⟨_, rfl⟩
  | _ => exact ⟨_, rfl⟩

/-- Settles O57: step is exec on the front of the queue, and no word of the opcode table spells a command. -/
theorem stepRunsFront : Obligations.StepRunsFront := by
  refine ⟨fun c s rest hq => ?_, fun _ _ => ⟨rfl, rfl⟩, exec_completes, fun s hq => ?_, fun _ _ => rfl, fun _ _ _ => rfl⟩
  · simp only [step, hq]
  · simp only [step, hq]

end Sys2Proof.Machine
end

section
/-! PROOFS, the dictionary server: answers, buffers and the order of the checks (R345, R356, R371). -/
namespace Sys2Proof.Machine

/-! ### Answers -/

/-- What a master's reach depends on. -/
theorem Lane.reaches_congr {L M : Lane} (hpwr : M.pwr = L.pwr) (hmem : M.mem = L.mem) (htherm : M.therm = L.therm)
    (hlpt : M.lpt = L.lpt) : M.reaches = L.reaches := by
  funext m
  simp only [Lane.reaches, Lane.sbReach, Lane.pairsUp, Lane.lptOn, Lane.lptLink, hpwr, hmem, htherm, hlpt]

section
variable (L : Lane) (m : Master) (tid idx sub : Nat) (code : W32) (data : List Byte)

/-- Of the dictionary group an answer changes the response, the count of busy answers and the queue to the host. -/
theorem Lane.exists_answer_dict : ∃ r b o, (L.answer m tid idx sub code data).dict =
    { L.dict with resp := r, txnBusy := b, hostOut := o } := by
  unfold Lane.answer Lane.answerWith
  split
  · exact ⟨_, _, _, rfl⟩
  · exact ⟨_, _, _, rfl⟩

@[simp] theorem Lane.answer_working : (L.answer m tid idx sub code data).dict.working = L.dict.working := by
  obtain ⟨r, b, o, h⟩ := L.exists_answer_dict m tid idx sub code data; rw [h]

@[simp] theorem Lane.answer_kept : (L.answer m tid idx sub code data).dict.kept = L.dict.kept := by
  obtain ⟨r, b, o, h⟩ := L.exists_answer_dict m tid idx sub code data; rw [h]

@[simp] theorem Lane.answer_sets : (L.answer m tid idx sub code data).dict.sets = L.dict.sets := by
  obtain ⟨r, b, o, h⟩ := L.exists_answer_dict m tid idx sub code data; rw [h]

@[simp] theorem Lane.answer_staging : (L.answer m tid idx sub code data).dict.staging = L.dict.staging := by
  obtain ⟨r, b, o, h⟩ := L.exists_answer_dict m tid idx sub code data; rw [h]

@[simp] theorem Lane.answer_progRes : (L.answer m tid idx sub code data).dict.progRes = L.dict.progRes := by
  obtain ⟨r, b, o, h⟩ := L.exists_answer_dict m tid idx sub code data; rw [h]

@[simp] theorem Lane.answer_snaps : (L.answer m tid idx sub code data).dict.snaps = L.dict.snaps := by
  obtain ⟨r, b, o, h⟩ := L.exists_answer_dict m tid idx sub code data; rw [h]

@[simp] theorem Lane.answer_wbufs : (L.answer m tid idx sub code data).dict.wbufs = L.dict.wbufs := by
  obtain ⟨r, b, o, h⟩ := L.exists_answer_dict m tid idx sub code data; rw [h]

@[simp] theorem Lane.answer_open (k : Master) :
    (L.answer m tid idx sub code data).dict.open_ k = L.dict.open_ k := by
  obtain ⟨r, b, o, h⟩ := L.exists_answer_dict m tid idx sub code data; rw [h]; cases k <;> rfl

@[simp] theorem Lane.answer_obj (i j : Nat) : (L.answer m tid idx sub code data).obj i j = L.obj i j := by
  simp [Lane.obj]

@[simp] theorem Lane.answer_reaches : (L.answer m tid idx sub code data).reaches = L.reaches :=
  Lane.reaches_congr (by simp) (by simp) (by simp) (by simp)

end

@[simp] theorem Lane.sbCount_obj (L : Lane) (m : Master) (x i j : Nat) : (L.sbCount m x).obj i j = L.obj i j := by
  simp [Lane.obj]

@[simp] theorem Lane.sbCount_reaches (L : Lane) (m : Master) (x : Nat) : (L.sbCount m x).reaches = L.reaches :=
  Lane.reaches_congr (by simp) (by simp) (by simp) (by simp)

@[simp] theorem Lane.raise_reaches (L : Lane) (c lv d v : Nat) : (L.raise c lv d v).reaches = L.reaches := rfl

/-- The side-band's arrival wakes nothing in a lane whose monitor runs or whose logic runs. -/
theorem Lane.sbWake_of_ne {L : Lane} (h : L.pwr.state ≠ .standby) : L.sbWake = L := if_neg fun hw => h hw.1

@[simp] theorem Lane.sbWake_dict (L : Lane) : L.sbWake.dict = L.dict := by unfold Lane.sbWake; split <;> rfl
@[simp] theorem Lane.sbWake_ds2 (L : Lane) : L.sbWake.ds2 = L.ds2 := by unfold Lane.sbWake; split <;> rfl
@[simp] theorem Lane.sbWake_id (L : Lane) : L.sbWake.id = L.id := by unfold Lane.sbWake; split <;> rfl

/-- Where the pairs serve, the lane is out of STANDBY and OFF (R434, R448). -/
theorem Lane.state_of_pairsUp {L : Lane} (h : L.pairsUp = true) :
    L.pwr.state = .starting ∨ L.pwr.state = .hold ∨ L.pwr.state = .run := by
  simp only [Lane.pairsUp, Bool.and_eq_true, Bool.or_eq_true, beq_iff_eq, or_assoc] at h
  exact h.2

theorem Lane.state_ne_standby {L : Lane} (h : L.pairsUp = true) : L.pwr.state ≠ .standby := by
  rcases Lane.state_of_pairsUp h with hs | hs | hs <;> simp [hs]

/-! ### Buffers (R358) -/

theorem Dict.dropBuf_of_none {d : Dict} {m : Master} {tid : Nat} (h : d.bufOf m tid = none) : d.dropBuf m tid = d := by
  refine if_neg fun hany => ?_
  obtain ⟨x, hx, hmt⟩ := List.any_eq_true.1 hany
  exact absurd hmt (by simpa using List.find?_eq_none.1 h x hx)

theorem Dict.dropBuf_of_nil {d : Dict} (h : d.wbufs = []) (m : Master) (tid : Nat) : d.dropBuf m tid = d :=
  Dict.dropBuf_of_none (by simp [Dict.bufOf, h])

@[simp] theorem Dict.bufOf_dropBuf (d : Dict) (m : Master) (tid : Nat) : (d.dropBuf m tid).bufOf m tid = none := by
  unfold Dict.dropBuf
  split
  · exact List.find?_eq_none.2 fun x hx => by simpa [imp_iff_not_or] using (List.mem_filter.1 hx).2
  next hno => exact List.find?_eq_none.2 fun x hx hmt => hno (List.any_eq_true.2 ⟨x, hx, hmt⟩)

/-- Of the dictionary group a dropped buffer changes the buffers and the count of its kind of master. -/
theorem Dict.exists_dropBuf (d : Dict) (m : Master) (tid : Nat) : ∃ b h k p u, d.dropBuf m tid =
    { d with wbufs := b, openHost := h, openSb := k, openPeer := p, openSup := u } := by
  unfold Dict.dropBuf Dict.closeTxn
  split
  · cases m <;> exact ⟨_, _, _, _, _, rfl⟩
  · exact ⟨_, _, _, _, _, rfl⟩

@[simp] theorem Dict.dropBuf_working (d : Dict) (m : Master) (tid : Nat) : (d.dropBuf m tid).working = d.working := by
  obtain ⟨b, h, k, p, u, e⟩ := d.exists_dropBuf m tid; rw [e]

@[simp] theorem Dict.dropBuf_sets (d : Dict) (m : Master) (tid : Nat) : (d.dropBuf m tid).sets = d.sets := by
  obtain ⟨b, h, k, p, u, e⟩ := d.exists_dropBuf m tid; rw [e]

@[simp] theorem Dict.dropBuf_resp (d : Dict) (m : Master) (tid : Nat) : (d.dropBuf m tid).resp = d.resp := by
  obtain ⟨b, h, k, p, u, e⟩ := d.exists_dropBuf m tid; rw [e]

@[simp] theorem Dict.dropBuf_snaps (d : Dict) (m : Master) (tid : Nat) : (d.dropBuf m tid).snaps = d.snaps := by
  obtain ⟨b, h, k, p, u, e⟩ := d.exists_dropBuf m tid; rw [e]

@[simp] theorem Dict.dropBuf_staging (d : Dict) (m : Master) (tid : Nat) : (d.dropBuf m tid).staging = d.staging := by
  obtain ⟨b, h, k, p, u, e⟩ := d.exists_dropBuf m tid; rw [e]

/-! ### The checks of a write, in the order of R371 -/

/-- The checks before the seal or password step let the master's write of a row that is not RO pass: its share is not
used up, the pairs serve, and a side-band has a session. -/
structure Lane.Serves (L : Lane) (m : Master) : Prop where
  free : L.txnFull m = false
  up : L.pairsUp = true
  known : m = .host ∨ m = .sideBand ∧ L.sb.isOpen = true ∧ L.sbReach = true

theorem Lane.Serves.reaches {L : Lane} {m : Master} (h : L.Serves m) : L.reaches m = true := by
  obtain rfl | ⟨rfl, -, hreach⟩ := h.known
  · exact h.up
  · exact hreach

section
variable {L : Lane} {m : Master} {idx sub : Nat} {data : List Byte} {present window : Bool} {r : ObjRow}

/-- A row that is not RO, asked for by a master that is served, is judged from the seal or password step on. -/
theorem Lane.writeErr_of_serves (h : L.Serves m) (hrow : findObj L.id idx sub = some r) (hro : r.acc ≠ .ro) :
    L.writeErr m idx sub data present window =
      (L.sealErr m (if needsSeal idx sub then .rws else r.acc) window).or
        (if present = false then some eState
        else (lengthErr r.ty data.length).or (rangeErr r.rng sub (ofBytes data))) := by
  have late : L.canWrite m idx sub = true ∧ ¬(m = .supervisory ∨ m = .peer) ∧
      ¬(m = .sideBand ∧ L.sb.isOpen = false ∧ idx ≠ 0x2510) := by
    obtain rfl | ⟨rfl, hopen, hreach⟩ := h.known
    · simp [Lane.canWrite, h.up]
    · simp [Lane.canWrite, h.up, hopen, hreach]
  obtain ⟨hcan, hmaster, hauth⟩ := late
  simp only [Lane.writeErr, h.free, hrow, if_neg hmaster, if_neg hro, if_neg hauth, hcan]
  cases L.sealErr m (if needsSeal idx sub then .rws else r.acc) window with
  | some e => rfl
  | none => cases lengthErr r.ty data.length <;> rfl

theorem Lane.writeErr_of_sealErr {e : W32} (h : L.Serves m) (hrow : findObj L.id idx sub = some r) (hro : r.acc ≠ .ro)
    (hseal : L.sealErr m (if needsSeal idx sub then .rws else r.acc) window = some e) :
    L.writeErr m idx sub data present window = some e := by
  rw [Lane.writeErr_of_serves h hrow hro, hseal, Option.some_or]

theorem Lane.writeErr_of_absent (h : L.Serves m) (hrow : findObj L.id idx sub = some r) (hro : r.acc ≠ .ro)
    (hseal : L.sealErr m (if needsSeal idx sub then .rws else r.acc) window = none) :
    L.writeErr m idx sub data false window = some eState := by
  rw [Lane.writeErr_of_serves h hrow hro, hseal, Option.none_or, if_pos rfl]

/-- A write whose seal or password step would fail succeeds for no master. -/
theorem Lane.exists_writeErr_of_sealErr {e : W32} (hrow : findObj L.id idx sub = some r)
    (hseal : L.sealErr m (if needsSeal idx sub then .rws else r.acc) window = some e) :
    ∃ e, L.writeErr m idx sub data present window = some e := by
  simp only [Lane.writeErr, hrow, hseal]
  (repeat' split) <;> exact ⟨_, rfl⟩

/-- A write against the present state succeeds for no master. -/
theorem Lane.exists_writeErr_of_absent : ∃ e, L.writeErr m idx sub data false window = some e := by
  simp only [Lane.writeErr]
  (repeat' split) <;> simp_all

end

end Sys2Proof.Machine
end

section
/-! PROOFS, the password-protected objects (O49). -/
namespace Sys2Proof.Machine

/-! ### The RWP objects of the tables -/

/-- A row of access RWP stands at 0x2405, from subindex 3 to 5. -/
def ObjRow.rwpAtDs2 (r : ObjRow) : Bool :=
  r.acc != .rwp || (r.lo == 0x2405 && r.hi == 0x2405 && decide (3 ≤ r.slo) && decide (r.shi ≤ 5))

/-- Every table keeps to it, one after the other. -/
theorem objRows_rwpAtDs2 : objRows.all ObjRow.rwpAtDs2 = true := by
  simp only [objRows, List.all_append, Bool.and_eq_true]
  and_intros <;> decide

theorem objRows_rwp {r : ObjRow} (hr : r ∈ objRows) (hacc : r.acc = .rwp) :
    r.lo = 0x2405 ∧ r.hi = 0x2405 ∧ 3 ≤ r.slo ∧ r.shi ≤ 5 := by
  simpa [ObjRow.rwpAtDs2, hacc, and_assoc] using List.all_eq_true.1 objRows_rwpAtDs2 r hr

/-- Index 0x2405 stands for itself alone. -/
theorem eq_of_baseIdx_ds2 {l : LaneId} {idx : Nat} (h : baseIdx l idx = some 0x2405) : idx = 0x2405 := by
  unfold baseIdx at h
  (repeat' split at h) <;> simp only [Option.some.injEq, reduceCtorEq] at h <;> omega

/-- A row that is found is one of the tables, and stands at the index and subindex. -/
theorem findObj_spec {l : LaneId} {idx sub : Nat} {r : ObjRow} (h : findObj l idx sub = some r) :
    ∃ i, baseIdx l idx = some i ∧ r ∈ objRows ∧ r.lo ≤ i ∧ i ≤ r.hi ∧ r.slo ≤ sub ∧ sub ≤ r.shi := by
  unfold findObj at h
  split at h
  · cases h
  next i hbase =>
    split at h
    · cases h
    · have hprop := List.find?_some h
      simp only [ObjRow.atIdx, Bool.and_eq_true, decide_eq_true_eq] at hprop
      obtain ⟨⟨⟨hlo, hhi⟩, hslo⟩, hshi⟩ := hprop
      exact ⟨i, hbase, List.mem_of_find?_eq_some h, hlo, hhi, hslo, hshi⟩

/-- The rows of DS2_PASSWORD, DS2_TARGET, DS2_VALUE and DS2_STORE. -/
theorem findObj_ds2 (l : LaneId) :
    (∃ r, findObj l 0x2405 2 = some r ∧ r.acc = .wo) ∧ (∃ r, findObj l 0x2405 3 = some r ∧ r.acc = .rwp) ∧
    (∃ r, findObj l 0x2405 4 = some r ∧ r.acc = .rwp) ∧ (∃ r, findObj l 0x2405 5 = some r ∧ r.acc = .rwp) :=
  ⟨⟨_, rfl, rfl⟩, ⟨_, rfl, rfl⟩, ⟨_, rfl, rfl⟩, ⟨_, rfl, rfl⟩⟩

theorem findObj_rwp_iff (l : LaneId) (idx sub : Nat) :
    (∃ r, findObj l idx sub = some r ∧ r.acc = .rwp) ↔ idx = 0x2405 ∧ (sub = 3 ∨ sub = 4 ∨ sub = 5) := by
  constructor
  · rintro ⟨r, hfind, hacc⟩
    obtain ⟨i, hbase, hmem, hlo, hhi, hslo, hshi⟩ := findObj_spec hfind
    obtain ⟨h1, h2, h3, h4⟩ := objRows_rwp hmem hacc
    obtain rfl : i = 0x2405 := by omega
    exact ⟨eq_of_baseIdx_ds2 hbase, by omega⟩
  · obtain ⟨-, h3, h4, h5⟩ := findObj_ds2 l
    rintro ⟨rfl, rfl | rfl | rfl⟩
    · exact h3
    · exact h4
    · exact h5

/-! ### Writes while DS2_MODE is 0 -/

section
variable {L : Lane} (hmode : L.obj 0x2405 1 = 0) (m : Master) (data : List Byte)
include hmode

theorem Lane.sealErr_rwp : L.sealErr m .rwp false = some eSeal := by
  simp [Lane.sealErr, Lane.rwpOpen, hmode]

/-- A write of an RWP object of 0x2405 fails at the seal or password step, when no earlier check gives its code. -/
theorem Lane.writeErr_ds2 {sub : Nat} (hsub : sub = 3 ∨ sub = 4 ∨ sub = 5) (present : Bool) :
    (L.Serves m → L.writeErr m 0x2405 sub data present false = some 0x08000021) ∧
    ∃ e, L.writeErr m 0x2405 sub data present false = some e := by
  obtain ⟨r, hrow, hacc⟩ := (findObj_rwp_iff L.id 0x2405 sub).2 ⟨rfl, hsub⟩
  have hseal : L.sealErr m (if needsSeal 0x2405 sub then .rws else r.acc) false = some eSeal := by
    rw [if_neg (by simp [needsSeal]), hacc, Lane.sealErr_rwp hmode]
  exact ⟨fun h => Lane.writeErr_of_sealErr h hrow (by simp [hacc]) hseal,
    Lane.exists_writeErr_of_sealErr hrow hseal⟩

/-- A password is refused by the present state, when no earlier check gives its code. -/
theorem Lane.writeErr_password :
    (L.Serves m → L.writeErr m 0x2405 2 data (L.obj 0x2405 1 == 1) false = some 0x08000022) ∧
    ∃ e, L.writeErr m 0x2405 2 data (L.obj 0x2405 1 == 1) false = some e := by
  obtain ⟨⟨r, hrow, hacc⟩, -⟩ := findObj_ds2 L.id
  rw [show (L.obj 0x2405 1 == 1) = false by simp [hmode]]
  exact ⟨fun h => Lane.writeErr_of_absent h hrow (by simp [hacc]) (by simp [needsSeal, hacc, Lane.sealErr]),
    Lane.exists_writeErr_of_absent⟩

end

/-- A complete write of DS2_TARGET has no action of its own. -/
theorem State.performWrite_ds2Target (s : State) (l : LaneId) (m : Master) (tid : Nat) (data : List Byte)
    (g : Option Nat) (e : WriteEnv) :
    s.performWrite l m tid 0x2405 3 data g e = s.on l fun L => L.plainWrite m tid 0x2405 3 data g := rfl

/-- A refused write keeps what a write would change. -/
structure Lane.WriteKept (L M : Lane) : Prop where
  working : M.dict.working = L.dict.working
  ds2 : M.ds2 = L.ds2
  sets : M.dict.sets = L.dict.sets

theorem Lane.answer_writeKept (L : Lane) (m : Master) (tid idx sub : Nat) (e : W32) :
    L.WriteKept (L.answer m tid idx sub e) := ⟨by simp, by simp, by simp⟩

theorem State.on_writeKept {s : State} {l : LaneId} {f : Lane → Lane} (h : (s.lane l).WriteKept (f (s.lane l))) :
    (s.lane l).WriteKept ((s.on l f).lane l) := by rwa [State.lane_on_same]

/-! #### DS2_TARGET, by OBJECT_WRITE -/

theorem Lane.plainWrite_of_writeErr {L : Lane} {m : Master} {idx sub : Nat} {data : List Byte} {e : W32}
    (h : L.writeErr m idx sub data (L.plainNow idx sub) false = some e) (tid : Nat) :
    L.plainWrite m tid idx sub data none = L.answer m tid idx sub e := by
  simp only [Lane.plainWrite, Lane.plainErr, h]
  rfl

theorem Lane.plainWrite_ds2_writeKept {L : Lane} (hmode : L.obj 0x2405 1 = 0) (m : Master) (tid : Nat)
    (data : List Byte) : L.WriteKept (L.plainWrite m tid 0x2405 3 data none) := by
  obtain ⟨e, he⟩ := (Lane.writeErr_ds2 hmode m data (sub := 3) (by simp) (L.plainNow 0x2405 3)).2
  rw [Lane.plainWrite_of_writeErr he]
  exact L.answer_writeKept ..

/-- A write of one message, from a master that is served, is performed at once. -/
theorem exec_objectWrite_of_serves {s : State} {l : LaneId} {m : Master} (h : (s.lane l).Serves m)
    (hbuf : (s.lane l).dict.wbufs = []) (tid idx sub : Nat) (grp : Option (Fin 16)) (data : List Byte) (e : WriteEnv) :
    exec (.objectWrite l m tid idx sub 0 data.length grp data e) s =
      .next (s.performWrite l m tid idx sub data (grp.map (·.val)) e) := by
  have awake : (if m = .sideBand then s.on l Lane.sbWake else s) = s := by
    split
    · exact s.on_id l (Lane.sbWake_of_ne (Lane.state_ne_standby h.up))
    · rfl
  have master : ¬(m = .supervisory ∨ m = .peer) := by
    obtain rfl | ⟨rfl, -⟩ := h.known <;> simp
  have dropped : (s.on l fun L => { L with dict := L.dict.dropBuf m tid }) = s :=
    s.on_id l (by rw [Dict.dropBuf_of_nil hbuf])
  simp only [exec, execObjectWrite, h.reaches, awake, dropped, if_neg master]
  simp

theorem exec_ds2Target_writeKept {s : State} {l : LaneId} (hmode : (s.lane l).obj 0x2405 1 = 0) (m : Master) (tid : Nat)
    (data : List Byte) :
    ∃ t, exec (.objectWrite l m tid 0x2405 3 0 data.length none data {}) s = .next t ∧
      (s.lane l).WriteKept (t.lane l) := by
  have woken : (s.lane l).WriteKept ((if m = .sideBand then s.on l Lane.sbWake else s).lane l) := by
    split
    · exact State.on_writeKept ⟨by simp, by simp, by simp⟩
    · exact ⟨rfl, rfl, rfl⟩
  have wokenId : ((if m = .sideBand then s.on l Lane.sbWake else s).lane l).id = (s.lane l).id := by
    split <;> simp
  simp only [exec, execObjectWrite]
  split
  · exact ⟨s, rfl, rfl, rfl, rfl⟩
  · generalize (if m = .sideBand then s.on l Lane.sbWake else s) = u at woken wokenId ⊢
    obtain ⟨hw, hd, hs⟩ := woken
    split
    · refine ⟨_, rfl, ?_⟩
      rw [State.lane_on_same]
      exact ⟨by simpa using hw, by simpa using hd, by simpa using hs⟩
    · rw [if_neg (by simp), if_pos trivial, State.performWrite_ds2Target]
      refine ⟨_, rfl, ?_⟩
      rw [State.lane_on_same, State.lane_on_same]
      obtain ⟨hw', hd', hs'⟩ := Lane.plainWrite_ds2_writeKept
        (L := { u.lane l with dict := (u.lane l).dict.dropBuf m tid }) (by simpa [Lane.obj, hw, wokenId] using hmode)
        m tid data
      exact ⟨hw'.trans (by simpa using hw), hd'.trans hd, hs'.trans (by simpa using hs)⟩

/-! #### The four -/

/-- The four writes, each with its subindex and code. -/
inductive Ds2Write (l : LaneId) (m : Master) (tid : Nat) (data : List Byte) : Instr → Nat → W32 → Prop
  | target : Ds2Write l m tid data (.objectWrite l m tid 0x2405 3 0 data.length none data {}) 3 0x08000021
  | value : Ds2Write l m tid data (.ds2Value l m tid data none) 4 0x08000021
  | store : Ds2Write l m tid data (.ds2Store l m tid data) 5 0x08000021
  | password : Ds2Write l m tid data (.ds2Password l m tid data.length data) 2 0x08000022

section
variable {s : State} {l : LaneId} {m : Master} {tid : Nat} {data : List Byte}

theorem exec_ds2Value_of_err {e : W32}
    (h : (s.lane l).writeErr m 0x2405 4 data ((s.lane l).obj 0x2405 3 != 0) false = some e) :
    exec (.ds2Value l m tid data none) s = .next (s.on l fun L => L.answer m tid 0x2405 4 e) :=
  congrArg _ (s.on_congr l (by simp only [Option.map_none, Lane.windowWrite, h]; rfl))

theorem exec_ds2Store_of_err {e : W32} (h : (s.lane l).writeErr m 0x2405 5 data true false = some e) :
    exec (.ds2Store l m tid data) s = .next (s.on l fun L => L.answer m tid 0x2405 5 e) :=
  State.next_write_of_err (present := fun _ => true) h tid _

theorem exec_ds2Password_of_err {e : W32}
    (h : (s.lane l).writeErr m 0x2405 2 data ((s.lane l).obj 0x2405 1 == 1) false = some e) :
    exec (.ds2Password l m tid data.length data) s = .next (s.on l fun L => L.answer m tid 0x2405 2 e) :=
  congrArg _ (s.on_congr l (by rw [if_neg (by simp), h]))

variable {c : Instr} {sub : Nat} {code : W32}

/-- Where no earlier check gives its code, each of the four is answered with its own, and does nothing else. -/
theorem Ds2Write.exec_of_serves (h : Ds2Write l m tid data c sub code) (hmode : (s.lane l).obj 0x2405 1 = 0)
    (hserves : (s.lane l).Serves m) (hbuf : (s.lane l).dict.wbufs = []) :
    exec c s = .next (s.on l fun L => L.answer m tid 0x2405 sub code) := by
  cases h with
  | target =>
    rw [exec_objectWrite_of_serves hserves hbuf, State.performWrite_ds2Target]
    exact congrArg _ (s.on_congr l
      (Lane.plainWrite_of_writeErr ((Lane.writeErr_ds2 hmode m data (by simp) _).1 hserves) tid))
  | value => exact exec_ds2Value_of_err ((Lane.writeErr_ds2 hmode m data (by simp) _).1 hserves)
  | store => exact exec_ds2Store_of_err ((Lane.writeErr_ds2 hmode m data (by simp) _).1 hserves)
  | password => exact exec_ds2Password_of_err ((Lane.writeErr_password hmode m data).1 hserves)

/-- Whatever the earlier checks give, none of the four succeeds. -/
theorem Ds2Write.exec_writeKept (h : Ds2Write l m tid data c sub code) (hmode : (s.lane l).obj 0x2405 1 = 0) :
    ∃ t, exec c s = .next t ∧ (s.lane l).WriteKept (t.lane l) := by
  have answered {i : Nat} {e : W32} (hexec : exec c s = .next (s.on l fun L => L.answer m tid 0x2405 i e)) :
      ∃ t, exec c s = .next t ∧ (s.lane l).WriteKept (t.lane l) :=
    ⟨_, hexec, State.on_writeKept (Lane.answer_writeKept ..)⟩
  cases h with
  | target => exact exec_ds2Target_writeKept hmode m tid data
  | value =>
    obtain ⟨e, he⟩ := (Lane.writeErr_ds2 hmode m data (sub := 4) (by simp) _).2
    exact answered (exec_ds2Value_of_err he)
  | store =>
    obtain ⟨e, he⟩ := (Lane.writeErr_ds2 hmode m data (sub := 5) (by simp) _).2
    exact answered (exec_ds2Store_of_err he)
  | password =>
    obtain ⟨e, he⟩ := (Lane.writeErr_password hmode m data).2
    exact answered (exec_ds2Password_of_err he)

theorem Ds2Write.exec_refused (h : Ds2Write l m tid data c sub code) (hmode : (s.lane l).obj 0x2405 1 = 0)
    (hserves : (s.lane l).Serves m) (hbuf : (s.lane l).dict.wbufs = []) :
    ∃ t, exec c s = .next t ∧ OnlyLane l s t ∧ (t.lane l).dict.working = (s.lane l).dict.working ∧
      (t.lane l).ds2 = (s.lane l).ds2 ∧ (t.lane l).dict.sets = (s.lane l).dict.sets ∧
      (∃ r, (t.lane l).dict.resp = some r ∧ r.sub = sub ∧ r.code = code) := by
  refine ⟨_, h.exec_of_serves hmode hserves hbuf, s.onlyLane_on l _, ?_⟩
  rw [State.lane_on_same]
  exact ⟨by simp, by simp, by simp, _, Lane.answer_resp hserves.reaches .., rfl, rfl⟩

end

/-- Settles O49: the tables name the three, and the checks of R371 end every write of the four while DS2_MODE is 0. -/
theorem ds2Objects : Obligations.Ds2Objects := by
  refine ⟨findObj_rwp_iff, fun s l m tid data hmode c sub code hc => ?_⟩
  have write : Ds2Write l m tid data c sub code := by
    obtain ⟨rfl, rfl, rfl⟩ | ⟨rfl, rfl, rfl⟩ | ⟨rfl, rfl, rfl⟩ | ⟨rfl, rfl, rfl⟩ := hc
    · exact .target
    · exact .value
    · exact .store
    · exact .password
  refine ⟨fun hm hup hfree hbuf => write.exec_refused hmode ⟨hm ▸ hfree, hup, .inl hm⟩ hbuf,
    fun hm hup hfree hopen hreach hbuf =>
      write.exec_refused hmode ⟨hm ▸ hfree, hup, .inr ⟨hm, hopen, hreach⟩⟩ hbuf, ?_⟩
  obtain ⟨t, hexec, hw, hd, hs⟩ := write.exec_writeKept (s := s) hmode
  exact ⟨t, hexec, hw, hd, hs⟩

end Sys2Proof.Machine
end

section
/-! PROOFS, how commits are decided and come into force (O40). -/
namespace Sys2Proof.Machine

/-! ### What leaves the dictionary alone -/

/-- A chain of updates that each leave the dictionary group. -/
theorem Lane.foldl_dict {α : Type} {f : Lane → α → Lane} (h : ∀ M x, (f M x).dict = M.dict) (l : List α) (L : Lane) :
    (l.foldl f L).dict = L.dict :=
  List.foldlRecOn l f (motive := fun M => M.dict = L.dict) rfl fun M hM x _ => (h M x).trans hM

@[simp] theorem Lane.abortTest_dict (L : Lane) (b : Fin 8) : (L.abortTest b).dict = L.dict := by
  unfold Lane.abortTest
  dsimp only
  split <;> simp

@[simp] theorem Lane.settle_dict (L : Lane) (b : Fin 8) : (L.settle b).dict = L.dict := by
  unfold Lane.settle
  dsimp only
  (repeat' split) <;> simp

@[simp] theorem Lane.settleAll_dict (L : Lane) : L.settleAll.dict = L.dict :=
  Lane.foldl_dict Lane.settle_dict fin8 L

@[simp] theorem Lane.remap_dict (L : Lane) : L.remap.dict = L.dict := by simp [Lane.remap]

@[simp] theorem Lane.runCheck_dict (get : Nat → Nat → Nat) (L : Lane) (kind : Nat) :
    (L.runCheck get kind).dict = L.dict :=
  Lane.foldl_dict (fun M _ => M.cfgFault_dict ..) _ _

@[simp] theorem Lane.runCheck_id (get : Nat → Nat → Nat) (L : Lane) (kind : Nat) : (L.runCheck get kind).id = L.id :=
  (Lane.runCheck_voteKept get L kind).1

@[simp] theorem Lane.afterWrite_dict (L : Lane) (idx sub : Nat) : (L.afterWrite idx sub).dict = L.dict :=
  Lane.foldl_dict (fun M k => M.runCheck_dict _ k) _ _

@[simp] theorem Lane.logChange_dict (L : Lane) (kind : Nat) (m : Master) (idx sub len old new ns : Nat) :
    (L.logChange kind m idx sub len old new ns).dict = L.dict := rfl

@[simp] theorem Lane.contactWritten_dict (L : Lane) (i : CommitItem) : (L.contactWritten i).dict = L.dict := by
  unfold Lane.contactWritten
  split <;> rfl

/-! ### The decision (R351) -/

/-- Of the dictionary group, the answers of a commit leave all but the transactions, the response and what answers
count. -/
structure Dict.Answered (d e : Dict) : Prop where
  working : e.working = d.working
  kept : e.kept = d.kept
  known : e.known = d.known
  cfgGen : e.cfgGen = d.cfgGen

theorem Dict.Answered.refl (d : Dict) : d.Answered d := ⟨rfl, rfl, rfl, rfl⟩

theorem Dict.Answered.trans {d e f : Dict} (h : d.Answered e) (h' : e.Answered f) : d.Answered f :=
  ⟨h'.working.trans h.working, h'.kept.trans h.kept, h'.known.trans h.known, h'.cfgGen.trans h.cfgGen⟩

theorem Dict.closeTxn_answered (d : Dict) (m : Master) : d.Answered (d.closeTxn m) := by
  cases m <;> exact ⟨rfl, rfl, rfl, rfl⟩

theorem Lane.answer_answered (L : Lane) (m : Master) (tid idx sub : Nat) (code : W32) :
    L.dict.Answered (L.answer m tid idx sub code).dict := by
  obtain ⟨r, b, o, h⟩ := L.exists_answer_dict m tid idx sub code []
  rw [h]
  exact ⟨rfl, rfl, rfl, rfl⟩

theorem Lane.answerCommit_answered (L : Lane) (c : Commit) (code : W32) : L.dict.Answered (L.answerCommit c code).dict :=
  List.foldlRecOn c.items _ (motive := fun M : Lane => L.dict.Answered M.dict) (.refl _) fun M hM _ _ =>
    (hM.trans (M.dict.closeTxn_answered c.m)).trans (Lane.answer_answered { M with dict := M.dict.closeTxn c.m } ..)

@[simp] theorem Lane.answerCommit_vote (L : Lane) (c : Commit) (code : W32) : (L.answerCommit c code).vote = L.vote :=
  (L.answerCommit_voteKept c code).2

@[simp] theorem Lane.answerCommit_svc (L : Lane) (c : Commit) (code : W32) : (L.answerCommit c code).svc = L.svc :=
  List.foldlRecOn c.items _ (motive := fun M : Lane => M.svc = L.svc) rfl fun M hM i _ => by simpa using hM

/-- The commits the lane holds after a decision, as it takes them: one that succeeds is marked, one that fails goes. -/
def Dict.decided (d : Dict) (v : Vote) (out : Option W32) : List Commit :=
  let hit := fun c : Commit => c.server == v.server && c.ctr == v.ctr
  match out with
  | none => d.known.map fun c => if hit c then { c with decided := some true } else c
  | some _ => d.known.filter fun c => !hit c

/-- One decision of a lane. -/
structure Lane.DecidedOne (L M : Lane) (v : Vote) (out : Option W32) : Prop where
  decisions : M.vote.decisions = L.vote.decisions ++ [(v.server, v.ctr, out.isNone)]
  working : M.dict.working = L.dict.working
  cfgGen : M.dict.cfgGen = L.dict.cfgGen + (if out.isNone then 1 else 0)
  known : M.dict.known = L.dict.decided v out

theorem Lane.decideOne_decided (L : Lane) (v : Vote) (out : Option W32) : L.DecidedOne (L.decideOne v out) v out := by
  have answered (M : Lane) (hM : L.DecidedOne M v out) (c : Commit) (code : W32) :
      L.DecidedOne (M.answerCommit c code) v out := by
    obtain ⟨hw, -, hk, hg⟩ := M.answerCommit_answered c code
    exact ⟨by rw [Lane.answerCommit_vote]; exact hM.decisions, hw.trans hM.working, hg.trans hM.cfgGen,
      hk.trans hM.known⟩
  cases out with
  | none =>
    unfold Lane.decideOne
    dsimp only
    split
    · split
      · refine answered _ ?_ _ _
        exact ⟨rfl, rfl, rfl, rfl⟩
      · exact ⟨rfl, rfl, rfl, rfl⟩
    · exact ⟨rfl, rfl, rfl, rfl⟩
  | some e =>
    unfold Lane.decideOne
    dsimp only
    split
    · split
      · refine answered _ ?_ _ _
        exact ⟨rfl, rfl, by simp, rfl⟩
      · exact ⟨rfl, rfl, by simp, rfl⟩
    · exact ⟨rfl, rfl, by simp, rfl⟩

/-- What a commit still held was before it was decided. -/
def Commit.sameWrites (c d : Commit) : Prop := d.server = c.server ∧ d.ctr = c.ctr ∧ d.items = c.items

theorem Dict.sameWrites_of_mem_decided {d : Dict} {v : Vote} {out : Option W32} {c : Commit}
    (h : c ∈ d.decided v out) : ∃ b ∈ d.known, c.sameWrites b := by
  cases out with
  | none =>
    obtain ⟨b, hb, rfl⟩ := List.mem_map.1 h
    refine ⟨b, hb, ?_⟩
    split <;> exact ⟨rfl, rfl, rfl⟩
  | some e => exact ⟨c, List.mem_of_mem_filter h, rfl, rfl, rfl⟩

/-- The decisions on the votes `vs` of a cycle whose commits are `cs`: each names its commit and whether it succeeds. -/
def decisionsOn (own : Tri (Option PerLane)) (cs vs : List Vote) : List (LaneId × W16 × Bool) :=
  vs.map fun v => (v.server, v.ctr, (commitOutcome own cs v).isNone)

theorem length_successes_cons (own : Tri (Option PerLane)) (cs vs : List Vote) (v : Vote) :
    ((decisionsOn own cs (v :: vs)).filter fun d => d.2.2).length =
      (if (commitOutcome own cs v).isNone then 1 else 0) + ((decisionsOn own cs vs).filter fun d => d.2.2).length := by
  cases h : commitOutcome own cs v <;> simp [decisionsOn, h, Nat.add_comm]

/-- A chain of decisions, one vote after the other. -/
theorem Lane.decideEach (own : Tri (Option PerLane)) (cs vs : List Vote) (L : Lane) :
    let M := vs.foldl (fun M v => M.decideOne v (commitOutcome own cs v)) L
    M.vote.decisions = L.vote.decisions ++ decisionsOn own cs vs ∧
    M.dict.cfgGen = L.dict.cfgGen + BitVec.ofNat 32 ((decisionsOn own cs vs).filter fun d => d.2.2).length ∧
    M.dict.working = L.dict.working ∧ ∀ c ∈ M.dict.known, ∃ b ∈ L.dict.known, c.sameWrites b := by
  induction vs generalizing L with
  | nil => exact ⟨by simp [decisionsOn], by simp [decisionsOn], rfl, fun c hc => ⟨c, hc, rfl, rfl, rfl⟩⟩
  | cons v vs ih =>
    obtain ⟨hd, hw, hg, hk⟩ := L.decideOne_decided v (commitOutcome own cs v)
    obtain ⟨ihd, ihg, ihw, ihk⟩ := ih (L.decideOne v (commitOutcome own cs v))
    refine ⟨by rw [List.foldl_cons, ihd, hd]; simp [decisionsOn], ?_, ihw.trans hw, fun c hc => ?_⟩
    · rw [List.foldl_cons, ihg, hg, length_successes_cons, BitVec.ofNat_add, ← BitVec.add_assoc]
      cases commitOutcome own cs v <;> rfl
    · obtain ⟨b, hb, h1, h2, h3⟩ := ihk c hc
      obtain ⟨a, ha, g1, g2, g3⟩ := Dict.sameWrites_of_mem_decided (hk ▸ hb)
      exact ⟨a, ha, g1.trans h1, g2.trans h2, g3.trans h3⟩

theorem Lane.decideCommits_decisions (L : Lane) : L.decideCommits.vote.decisions =
    L.vote.decisions ++ decisionsOn L.vote.agreedOwn (namedVotes L.vote.agreedOwn) (namedVotes L.vote.agreedOwn) :=
  (Lane.decideEach _ _ _ L).1

/-! ### The outcome of a commit (R351) -/

theorem commitOutcome_eq_none_iff (own : Tri (Option PerLane)) (cs : List Vote) (c : Vote) :
    commitOutcome own cs c = none ↔ (∀ i ∈ c.items, itemOk own cs i = true) ∧ c.items ≠ [] := by
  unfold commitOutcome
  dsimp only
  split
  next h => simpa [List.filter_eq_nil_iff] using h
  next h =>
    refine ⟨fun hn => ?_, fun hok => absurd ⟨by simpa [List.filter_eq_nil_iff] using hok.1, hok.2⟩ h⟩
    split at hn <;> cases hn

theorem voteMeets_iff (own : Tri (Option PerLane)) (v : Vote) : voteMeets own v = true ↔
    (own.get v.server).isSome = true ∧ ∀ l p, own.get l = some p → (voteOf p v).1 = true := by
  simp only [voteMeets, Bool.and_eq_true, List.all_eq_true, and_congr_right_iff]
  refine fun _ => ⟨fun h l p hp => ?_, fun h l _ => ?_⟩
  · simpa [hp] using h l (by cases l <;> simp [allLanes])
  · cases hp : own.get l with
    | none => rfl
    | some p => exact h l p hp

/-! ### In force (R352) -/

theorem Lane.holdField_known (L : Lane) (idx sub : Nat) : (L.holdField idx sub).dict.known = L.dict.known := by
  unfold Lane.holdField
  split <;> rfl

/-- The settings after a value is stored are those after it is set. -/
theorem Lane.storeObj_obj (L : Lane) (idx sub raw : Nat) : (L.storeObj idx sub raw).obj = (L.setObj idx sub raw).obj := by
  unfold Lane.storeObj
  split
  · split <;> rfl
  · rfl

@[simp] theorem Lane.storeObj_known (L : Lane) (idx sub raw : Nat) :
    (L.storeObj idx sub raw).dict.known = L.dict.known := by
  unfold Lane.storeObj
  split
  · split <;> rfl
  · rfl

/-- One plain write comes into force: the settings are those after it is set, and the commits held stay. -/
theorem Lane.force_plain (L : Lane) (c : Commit) {i : CommitItem} (h : ¬(i.idx = 0x4300 ∧ i.sub = 9)) :
    (L.force c i).obj = (L.setObj i.idx i.sub i.raw).obj ∧ (L.force c i).dict.known = L.dict.known := by
  have stored : ((L.holdField i.idx i.sub).storeObj i.idx i.sub i.raw).obj = (L.setObj i.idx i.sub i.raw).obj := by
    rw [Lane.storeObj_obj]
    unfold Lane.holdField
    split <;> rfl
  have forced : (L.force c i).id = ((L.holdField i.idx i.sub).storeObj i.idx i.sub i.raw).id ∧
      (L.force c i).dict = ((L.holdField i.idx i.sub).storeObj i.idx i.sub i.raw).dict := by
    constructor
    · simp
    · unfold Lane.force
      simp only [if_neg h]
      (repeat' split) <;> simp
  rw [Lane.obj_congr forced.1 forced.2, forced.2]
  exact ⟨stored, by rw [Lane.storeObj_known, Lane.holdField_known]⟩

/-- The only commit, decided as a success with one plain write, comes into force. -/
theorem Lane.forceCommits_of_single {L : Lane} {c : Commit} {i : CommitItem} (hk : L.dict.known = [c])
    (hc : c.decided = some true) (hi : c.items = [i]) (h : ¬(i.idx = 0x4300 ∧ i.sub = 9)) :
    L.forceCommits.obj = (L.setObj i.idx i.sub i.raw).obj ∧ L.forceCommits.dict.known = [] := by
  obtain ⟨outbox, hforce⟩ : ∃ outbox, L.forceCommits =
      (({ L with dict := { L.dict with known := [], outbox := outbox } } : Lane).force c i).remap :=
    ⟨_, by simp [Lane.forceCommits, hk, hc, hi]; rfl⟩
  obtain ⟨hobj, hknown⟩ := Lane.force_plain { L with dict := { L.dict with known := [], outbox := outbox } } c h
  rw [hforce, Lane.obj_congr (Lane.remap_voteKept _).1 (Lane.remap_dict _), hobj, Lane.remap_dict, hknown]
  exact ⟨rfl, rfl⟩

/-- Where no commit was decided as a success, the late ones are answered, and nothing comes into force. -/
theorem Lane.forceCommits_of_none {L : Lane} (h : ∀ c ∈ L.dict.known, c.decided ≠ some true) :
    L.forceCommits.dict.working = L.dict.working ∧ L.forceCommits.dict.kept = L.dict.kept ∧
    L.forceCommits.svc = L.svc := by
  have none : (L.dict.known.filter fun c => c.decided == some true) = [] :=
    List.filter_eq_nil_iff.2 fun c hc => by simpa using h c hc
  simp only [Lane.forceCommits, none, List.foldl_nil, List.isEmpty_nil, if_true]
  refine List.foldlRecOn _ _ (motive := fun M : Lane => M.dict.working = L.dict.working ∧ M.dict.kept = L.dict.kept ∧
    M.svc = L.svc) ⟨rfl, rfl, rfl⟩ fun M hM c _ => ?_
  obtain ⟨hw, hkept, hsvc⟩ := hM
  split
  · have answered := Lane.answerCommit_answered
      { M with dict := { M.dict with commitFails := satInc M.dict.commitFails } } c eNotCommitted
    exact ⟨answered.working.trans hw, answered.kept.trans hkept, by rw [Lane.answerCommit_svc]; exact hsvc⟩
  · exact ⟨hw, hkept, hsvc⟩

/-- Settles O40: the decisions are a chain over the votes that the agreed set names, and what comes into force is what
was decided. -/
theorem commitsDecided : Obligations.CommitsDecided := by
  refine ⟨⟨fun L => ?_, fun L M hown => ?_, fun own cs c hout i hi => ?_, fun own cs c hc hne hmeets hno => ?_⟩, fun L =>
    ⟨fun c i hk hc hi hplain => ?_, fun h => ?_⟩⟩
  · obtain ⟨hd, hg, hw, hk⟩ := Lane.decideEach L.vote.agreedOwn (namedVotes L.vote.agreedOwn) (namedVotes L.vote.agreedOwn) L
    exact ⟨_, hd, by simp [decisionsOn], hg, hw, fun c hc _ => hk c hc⟩
  · exact ⟨_, L.decideCommits_decisions, hown ▸ M.decideCommits_decisions⟩
  · have hok := ((commitOutcome_eq_none_iff own cs c).1 hout).1 i hi
    obtain ⟨v, hv, hvok⟩ := List.any_eq_true.1 hok
    simp only [Bool.and_eq_true] at hvok
    obtain ⟨server, voted⟩ := (voteMeets_iff own v).1 hvok.1.2
    exact ⟨v, hv, hvok.1.1, server, voted⟩
  · refine (commitOutcome_eq_none_iff own cs c).2 ⟨fun i hi => List.any_eq_true.2 ⟨c, hc, ?_⟩, hne⟩
    have gives : c.gives i = true := List.any_eq_true.2 ⟨i, hi, by simp⟩
    simp [gives, hmeets, hno i hi]
  · obtain ⟨hobj, hknown⟩ := Lane.forceCommits_of_single hk hc hi hplain
    refine ⟨by rw [hobj, Lane.obj_setObj_same], hknown, fun a b hab => by rw [hobj, L.obj_setObj_ne i.raw hab],
      (L.forceCommits_voteKept).2, L.forceCommits_pwr⟩
  · obtain ⟨hw, hkept, hsvc⟩ := Lane.forceCommits_of_none h
    exact ⟨hw, hkept, hsvc, L.forceCommits_voteKept.2⟩

end Sys2Proof.Machine
end

section
/-! PROOFS, reads, segments and result objects (O38). -/
namespace Sys2Proof.Machine

/-! ### Snapshots (R357) -/

theorem Dict.open_closeTxn_le (d : Dict) (m k : Master) : (d.closeTxn m).open_ k ≤ d.open_ k := by
  cases m <;> cases k <;> simp [Dict.closeTxn, Dict.open_]

@[simp] theorem Dict.open_openTxn_same (d : Dict) (m : Master) : (d.openTxn m).open_ m = d.open_ m + 1 := by
  cases m <;> rfl

/-- Of the dictionary group a dropped snapshot changes the snapshots and the count of its kind of master. -/
theorem Dict.exists_dropSnap (d : Dict) (m : Master) (key : Nat) : ∃ b h k p u, d.dropSnap m key =
    { d with snaps := b, openHost := h, openSb := k, openPeer := p, openSup := u } := by
  unfold Dict.dropSnap Dict.closeTxn
  split
  · cases m <;> exact ⟨_, _, _, _, _, rfl⟩
  · exact ⟨_, _, _, _, _, rfl⟩

theorem Dict.open_dropSnap_le (d : Dict) (m : Master) (key : Nat) (k : Master) :
    (d.dropSnap m key).open_ k ≤ d.open_ k := by
  unfold Dict.dropSnap
  split
  · exact (d.open_closeTxn_le m k).trans' (by cases k <;> exact Nat.le_refl _)
  · exact Nat.le_refl _

theorem Dict.dropSnap_of_nil {d : Dict} (h : d.snaps = []) (m : Master) (key : Nat) : d.dropSnap m key = d :=
  if_neg (by simp [h])

theorem Dict.mem_dropSnap_iff (d : Dict) (m : Master) (key : Nat) (x : Snapshot) :
    x ∈ (d.dropSnap m key).snaps ↔ x ∈ d.snaps ∧ ¬(x.m = m ∧ x.tid = key) := by
  unfold Dict.dropSnap
  split
  · simp [imp_iff_not_or]
  next hno =>
    refine ⟨fun hx => ⟨hx, fun hmt => hno (List.any_eq_true.2 ⟨x, hx, by simp [hmt]⟩)⟩, fun hx => hx.1⟩

@[simp] theorem Dict.dropSnap_resp (d : Dict) (m : Master) (key : Nat) : (d.dropSnap m key).resp = d.resp := by
  obtain ⟨b, h, k, p, u, e⟩ := d.exists_dropSnap m key; rw [e]

@[simp] theorem Dict.dropSnap_working (d : Dict) (m : Master) (key : Nat) : (d.dropSnap m key).working = d.working := by
  obtain ⟨b, h, k, p, u, e⟩ := d.exists_dropSnap m key; rw [e]

/-! ### A read -/

/-- A snapshot that ends lets no read fail that would have passed. -/
theorem Lane.readErr_dropSnap {L : Lane} {m : Master} {idx sub : Nat} (h : L.readErr m idx sub = none) (key : Nat) :
    ({ L with dict := L.dict.dropSnap m key } : Lane).readErr m idx sub = none := by
  have free : ({ L with dict := L.dict.dropSnap m key } : Lane).txnFull m = false := by
    have full : L.txnFull m = false := by
      unfold Lane.readErr at h
      by_contra hfull
      rw [if_pos (by simpa using hfull)] at h
      cases h
    simp only [Lane.txnFull, decide_eq_false_iff_not] at full ⊢
    have := L.dict.open_dropSnap_le m key m
    omega
  unfold Lane.readErr at h ⊢
  rw [if_neg (by simp [free])]
  split at h
  · cases h
  · exact h

theorem Lane.answerData_resp {L : Lane} {m : Master} (h : L.reaches m = true) (tid idx sub ofs total : Nat)
    (data : List Byte) (last : Bool) : (L.answerData m tid idx sub ofs total data last).dict.resp = some
      { m := m, tid := tid, idx := idx, sub := sub, data := data, pend := L.pendOf idx sub, last := last
        op := 1, ofs := ofs, total := total, atNs := L.tb.ns } := by
  simp [Lane.answerData, Lane.answerWith, h]

/-- Of the dictionary group a read response changes what any answer changes. -/
theorem Lane.exists_answerData_dict (L : Lane) (m : Master) (tid idx sub ofs total : Nat) (data : List Byte)
    (last : Bool) : ∃ r b o, (L.answerData m tid idx sub ofs total data last).dict =
      { L.dict with resp := r, txnBusy := b, hostOut := o } := by
  unfold Lane.answerData Lane.answerWith
  split
  · exact ⟨_, _, _, rfl⟩
  · exact ⟨_, _, _, rfl⟩

@[simp] theorem Lane.onResult_resp (L : Lane) (k : ResultKind) (f : Res3 → Res3) :
    (L.onResult k f).dict.resp = L.dict.resp := by cases k <;> rfl

@[simp] theorem Lane.onResult_working (L : Lane) (k : ResultKind) (f : Res3 → Res3) :
    (L.onResult k f).dict.working = L.dict.working := by cases k <;> rfl

@[simp] theorem Lane.onResult_wbufs (L : Lane) (k : ResultKind) (f : Res3 → Res3) :
    (L.onResult k f).dict.wbufs = L.dict.wbufs := by cases k <;> rfl

@[simp] theorem Lane.consumeRead_resp (L : Lane) (m : Master) (idx sub : Nat) :
    (L.consumeRead m idx sub).dict.resp = L.dict.resp := by
  unfold Lane.consumeRead
  (repeat' split) <;> simp

@[simp] theorem Lane.consumeRead_working (L : Lane) (m : Master) (idx sub : Nat) :
    (L.consumeRead m idx sub).dict.working = L.dict.working := by
  unfold Lane.consumeRead
  (repeat' split) <;> simp

section
variable {L : Lane} {m : Master} {idx sub len : Nat} {value : List Byte}

/-- A read that its checks let pass, of a value that fits, is served whole, and a result object that it names is
consumed (R357, R368). -/
theorem Lane.readFirst_of_fits (h : L.readErr m idx sub = none) (hlen : value.length ≤ len) (tid key : Nat) :
    L.readFirst m tid key idx sub len value =
      (({ L with dict := L.dict.dropSnap m key } : Lane).answerData m tid idx sub 0 value.length value true).consumeRead
        m idx sub := by
  simp only [Lane.readFirst, Lane.readErr_dropSnap h key, if_pos hlen]

/-- What a read that is served whole answers. -/
theorem Lane.readFirst_resp (hreach : L.reaches m = true) (h : L.readErr m idx sub = none) (hlen : value.length ≤ len)
    (tid key : Nat) : ∃ r, (L.readFirst m tid key idx sub len value).dict.resp = some r ∧ r.m = m ∧ r.tid = tid ∧
      r.code = 0 ∧ r.last = true ∧ r.data = value := by
  rw [Lane.readFirst_of_fits h hlen, Lane.consumeRead_resp,
    Lane.answerData_resp (L := { L with dict := L.dict.dropSnap m key }) hreach]
  exact ⟨_, rfl, rfl, rfl, rfl, rfl, rfl⟩

theorem Lane.readFirst_working (h : L.readErr m idx sub = none) (hlen : value.length ≤ len) (tid key : Nat) :
    (L.readFirst m tid key idx sub len value).dict.working = L.dict.working := by
  rw [Lane.readFirst_of_fits h hlen, Lane.consumeRead_working]
  obtain ⟨r, b, o, e⟩ := Lane.exists_answerData_dict { L with dict := L.dict.dropSnap m key } m tid idx sub 0
    value.length value true
  rw [e]
  exact L.dict.dropSnap_working m key

/-- A read that its checks let pass, of a value that does not fit, leaves a snapshot (R357). -/
theorem Lane.readFirst_of_long (hsnaps : L.dict.snaps = []) (h : L.readErr m idx sub = none)
    (hlen : len < value.length) (tid key : Nat) : L.readFirst m tid key idx sub len value =
      ({ L with dict := { L.dict.openTxn m with
          snaps := [{ m := m, tid := key, idx := idx, sub := sub, data := value }] } } : Lane).answerData m tid idx sub
        0 value.length (value.take len) false := by
  simp only [Lane.readFirst, Dict.dropSnap_of_nil hsnaps, h, if_neg (Nat.not_le.2 hlen), hsnaps, List.nil_append]

theorem Lane.readFirst_of_err {e : W32} (hsnaps : L.dict.snaps = []) (h : L.readErr m idx sub = some e) (tid key : Nat) :
    L.readFirst m tid key idx sub len value = L.answer m tid idx sub e := by
  simp only [Lane.readFirst, Dict.dropSnap_of_nil hsnaps, h]

end

/-! ### A read request at a lane -/

section
variable {s : State} {l : LaneId} {m : Master} {idx sub ofs len : Nat}

/-- A read of anything but a challenge draws nothing. -/
theorem State.serveRead_of_plain (h : ¬(ofs = 0 ∧ sub = 1 ∧ (idx = 0x2510 ∨ idx = 0x2501))) (tid key : Nat) :
    s.serveRead l m tid key idx sub ofs len = s.on l fun L =>
      L.serveRead (if m = .supervisory then (s.pub.get l).getD L else L) m tid key idx sub ofs len := if_neg h

end

theorem Lane.serveRead_of_unreached {L : Lane} {m : Master} (h : L.reaches m = false) (P : Lane)
    (tid key idx sub ofs len : Nat) : L.serveRead P m tid key idx sub ofs len = L := if_pos h

/-- A master other than the side-band that reaches the lane. -/
theorem Lane.serveRead_of_reached {L : Lane} {m : Master} (h : L.reaches m = true) (hm : m ≠ .sideBand) (P : Lane)
    (tid key idx sub ofs len : Nat) : L.serveRead P m tid key idx sub ofs len =
      if ofs = 0 then L.readFirst m tid key idx sub len (P.readValue idx sub)
      else L.readNext m tid key idx sub ofs len := by
  simp only [Lane.serveRead, h, if_neg hm]
  rfl

theorem Lane.readNext_of_none {L : Lane} (h : L.dict.snaps = []) (m : Master) (tid key idx sub ofs len : Nat) :
    L.readNext m tid key idx sub ofs len = L.answer m tid idx sub 0x05040000 := by
  simp only [Lane.readNext, h]
  rfl

@[simp] theorem Lane.supReply_dict (L : Lane) : L.supReply.dict = L.dict := by
  unfold Lane.supReply
  split <;> rfl

end Sys2Proof.Machine
end

section
/-! PROOFS, the rows of reads, segments and result objects (O38). -/
namespace Sys2Proof.Machine

section
variable {s : State} {l : LaneId} {m : Master} {tid key idx sub ofs len : Nat}

/-- A second update of the same lane. -/
theorem OnlyLane.on {t : State} (h : OnlyLane l s t) (f : Lane → Lane) : OnlyLane l s (t.on l f) :=
  ⟨fun p hp => (t.lane_on_ne f hp).trans (h.1 p hp), h.2⟩

/-! ### TRANSFER_READ -/

/-- A read request of a master that reads the lane itself. -/
theorem State.serveRead_own (hm : m ≠ .supervisory) (h : ¬(sub = 1 ∧ (idx = 0x2510 ∨ idx = 0x2501))) :
    s.serveRead l m tid key idx sub ofs len = s.on l fun L => L.serveRead L m tid key idx sub ofs len := by
  rw [State.serveRead_of_plain fun hp => h hp.2]
  simp only [if_neg hm]

theorem exec_transferRead_of_unreached (hm : m ≠ .supervisory) (h : ¬(sub = 1 ∧ (idx = 0x2510 ∨ idx = 0x2501)))
    (hreach : (s.lane l).reaches m = false) : exec (.transferRead l m tid idx sub ofs len) s = .next s :=
  congrArg Host.Outcome.next ((State.serveRead_own hm h).trans (s.on_id l (Lane.serveRead_of_unreached hreach ..)))

theorem exec_transferRead_later (hside : m ≠ .sideBand) (hm : m ≠ .supervisory)
    (h : ¬(sub = 1 ∧ (idx = 0x2510 ∨ idx = 0x2501))) (hreach : (s.lane l).reaches m = true)
    (hsnaps : (s.lane l).dict.snaps = []) (hofs : 0 < ofs) :
    exec (.transferRead l m tid idx sub ofs len) s = .next (s.on l fun L => L.answer m tid idx sub 0x05040000) := by
  refine congrArg Host.Outcome.next ((State.serveRead_own hm h).trans (s.on_congr l ?_))
  rw [Lane.serveRead_of_reached hreach hside, if_neg (by omega), Lane.readNext_of_none hsnaps]

/-- A first read of a master that reads the lane itself. -/
theorem State.serveRead_first (hside : m ≠ .sideBand) (hm : m ≠ .supervisory)
    (h : ¬(sub = 1 ∧ (idx = 0x2510 ∨ idx = 0x2501))) (hreach : (s.lane l).reaches m = true) :
    s.serveRead l m tid key idx sub 0 len =
      s.on l fun L => L.readFirst m tid key idx sub len (L.readValue idx sub) := by
  rw [State.serveRead_own hm h]
  exact s.on_congr l ((Lane.serveRead_of_reached hreach hside ..).trans (if_pos rfl))

/-- A first read that is served whole. -/
theorem State.serveRead_whole (hside : m ≠ .sideBand) (hm : m ≠ .supervisory)
    (h : ¬(sub = 1 ∧ (idx = 0x2510 ∨ idx = 0x2501))) (hreach : (s.lane l).reaches m = true)
    (herr : (s.lane l).readErr m idx sub = none) (hlen : ((s.lane l).readValue idx sub).length ≤ len) :
    OnlyLane l s (s.serveRead l m tid key idx sub 0 len) ∧
    (∃ r, ((s.serveRead l m tid key idx sub 0 len).lane l).dict.resp = some r ∧ r.m = m ∧ r.tid = tid ∧ r.code = 0 ∧
      r.last = true ∧ r.data = (s.lane l).readValue idx sub) ∧
    ((s.serveRead l m tid key idx sub 0 len).lane l).dict.working = (s.lane l).dict.working ∧
    ((s.serveRead l m tid key idx sub 0 len).lane l).vote = (s.lane l).vote := by
  rw [State.serveRead_first hside hm h hreach, State.lane_on_same]
  exact ⟨s.onlyLane_on l _, Lane.readFirst_resp hreach herr hlen tid key, Lane.readFirst_working herr hlen tid key,
    (Lane.readFirst_voteKept ..).2⟩

/-- A first read of a value that does not fit. -/
theorem exec_transferRead_long (hside : m ≠ .sideBand) (hm : m ≠ .supervisory)
    (h : ¬(sub = 1 ∧ (idx = 0x2510 ∨ idx = 0x2501))) (hreach : (s.lane l).reaches m = true)
    (hsnaps : (s.lane l).dict.snaps = []) (herr : (s.lane l).readErr m idx sub = none)
    (hlen : len < ((s.lane l).readValue idx sub).length) :
    ∃ t, exec (.transferRead l m tid idx sub 0 len) s = .next t ∧ OnlyLane l s t ∧
      (∃ r, (t.lane l).dict.resp = some r ∧ r.code = 0 ∧ r.last = false ∧
        r.data = ((s.lane l).readValue idx sub).take len) ∧
      (t.lane l).dict.snaps = [{ m := m, tid := tid, idx := idx, sub := sub, data := (s.lane l).readValue idx sub }] ∧
      (t.lane l).dict.open_ m = (s.lane l).dict.open_ m + 1 := by
  refine ⟨_, congrArg Host.Outcome.next (State.serveRead_first hside hm h hreach), s.onlyLane_on l _, ?_⟩
  rw [State.lane_on_same, Lane.readFirst_of_long hsnaps herr hlen]
  generalize hL : ({ s.lane l with dict := _ } : Lane) = L
  have reached : L.reaches m = true := hL ▸ hreach
  refine ⟨⟨_, Lane.answerData_resp reached .., rfl, rfl, rfl⟩, ?_⟩
  obtain ⟨r, b, o, e⟩ := L.exists_answerData_dict m tid idx sub 0 ((s.lane l).readValue idx sub).length
    (((s.lane l).readValue idx sub).take len) false
  rw [e, ← hL]
  exact ⟨rfl, by cases m <;> rfl⟩

/-! ### SUPERVISORY_READ (R365) -/

theorem exec_supervisoryRead_of_served (hlink : (s.lane l).upl.link = true) (hlpt : (s.lane l).lptOn 16 = false)
    (hreach : (s.lane l).reaches .supervisory = true) (op : Nat) :
    exec (.supervisoryRead l tid idx sub ofs len op) s = .next
      ((if op = 1 then
          s.serveRead l .supervisory tid tid idx sub ofs (min len (1384 - (s.lane l).supSoFar.length))
        else s.on l fun L => L.answer .supervisory tid idx sub (if op = 2 ∨ op = 3 then eAccess else eOrder)).on l
        Lane.supReply) := by
  simp only [exec, execSupervisoryRead]
  rw [if_neg (by simp [hlink, hlpt, hreach])]

theorem exec_supervisoryRead_of_copy (hlink : (s.lane l).upl.link = true) (hlpt : (s.lane l).lptOn 16 = false)
    (hreach : (s.lane l).reaches .supervisory = true) {P : Lane} (hP : s.pub.get l = some P)
    (herr : (s.lane l).readErr .supervisory idx sub = none)
    (hlen : (P.readValue idx sub).length ≤ min len (1384 - (s.lane l).supSoFar.length))
    (h : ¬(sub = 1 ∧ (idx = 0x2510 ∨ idx = 0x2501))) :
    ∃ t, exec (.supervisoryRead l tid idx sub 0 len 1) s = .next t ∧ OnlyLane l s t ∧
      ∃ r, (t.lane l).dict.resp = some r ∧ r.m = .supervisory ∧ r.code = 0 ∧ r.data = P.readValue idx sub := by
  refine ⟨_, exec_supervisoryRead_of_served hlink hlpt hreach 1, ?_⟩
  rw [if_pos rfl, State.serveRead_of_plain fun hp => h hp.2, hP]
  refine ⟨(s.onlyLane_on l _).on _, ?_⟩
  rw [State.lane_on_same, State.lane_on_same, Lane.supReply_dict, if_pos rfl, Option.getD_some,
    Lane.serveRead_of_reached hreach (by decide), if_pos rfl]
  obtain ⟨r, hr, hm, -, hcode, -, hdata⟩ := Lane.readFirst_resp hreach herr hlen tid tid
  exact ⟨r, hr, hm, hcode, hdata⟩

theorem exec_supervisoryRead_write (hlink : (s.lane l).upl.link = true) (hlpt : (s.lane l).lptOn 16 = false)
    (hreach : (s.lane l).reaches .supervisory = true) :
    ∃ t, exec (.supervisoryRead l tid idx sub 0 len 2) s = .next t ∧ OnlyLane l s t ∧
      (t.lane l).dict.working = (s.lane l).dict.working ∧
      ∃ r, (t.lane l).dict.resp = some r ∧ r.m = .supervisory ∧ r.code = 0x06010000 := by
  refine ⟨_, exec_supervisoryRead_of_served hlink hlpt hreach 2, ?_⟩
  rw [if_neg (by decide)]
  refine ⟨(s.onlyLane_on l _).on _, ?_⟩
  rw [State.lane_on_same, State.lane_on_same, Lane.supReply_dict]
  exact ⟨Lane.answer_working .., _, Lane.answer_resp hreach .., rfl, rfl⟩

theorem exec_supervisoryRead_of_unreached (h : (s.lane l).upl.link = false ∨ (s.lane l).lptOn 16 = true ∨
    (s.lane l).reaches .supervisory = false) (op : Nat) :
    exec (.supervisoryRead l tid idx sub ofs len op) s = .next s := by
  simp only [exec, execSupervisoryRead]
  exact if_pos (by tauto)

/-! ### PEER_READ (R366) -/

theorem exec_peerRead_of_path {src v : LaneId} (hv : s.via l src = some v) (hsrc : (s.lane src).alive = true)
    (hl : (s.lane l).alive = true) :
    exec (.peerRead l { src := src } tid idx sub ofs len) s =
      .next (s.serveRead l .peer tid (tid + 256 * (1 + src.num)) idx sub ofs len) ∧
    exec (.peerRead l { src := src, crcOk := false } tid idx sub ofs len) s = .next (s.on l fun L => L.badMessage v) := by
  simp [exec, execPeerRead, hv, hsrc, hl]

theorem exec_peerRead_of_none {src : LaneId} (h : s.via l src = none ∨ (s.lane src).alive = false ∨
    (s.lane l).alive = false) (crcOk : Bool) :
    exec (.peerRead l { src := src, crcOk := crcOk } tid idx sub ofs len) s = .next s := by
  simp only [exec, execPeerRead]
  split
  next v hv =>
    refine if_neg fun halive => ?_
    rcases h with h | h | h
    · rw [h] at hv; cases hv
    · simp [h] at halive
    · simp [h] at halive
  · rfl

/-! ### Segments (R358) -/

variable {total : Nat} {data : List Byte}

theorem exec_transferWriteSegment_first (hm : m = .host ∨ m = .sideBand) (hreach : (s.lane l).reaches m = true)
    (hbuf : (s.lane l).dict.wbufs = []) (hfree : (s.lane l).txnFull m = false) (hlen : data.length < total) :
    ∃ t, exec (.transferWriteSegment l m tid idx sub 0 total data) s = .next t ∧ OnlyLane l s t ∧
      (t.lane l).dict.wbufs = [{ m := m, tid := tid, idx := idx, sub := sub, total := total, data := data }] ∧
      (t.lane l).dict.open_ m = (s.lane l).dict.open_ m + 1 ∧
      (t.lane l).dict.working = (s.lane l).dict.working := by
  refine ⟨_, rfl, s.onlyLane_on l _, ?_⟩
  rw [State.lane_on_same, if_pos hreach]
  have woken : (if m = .sideBand then (s.lane l).sbWake else s.lane l).dict = (s.lane l).dict := by
    split <;> simp
  generalize (if m = .sideBand then (s.lane l).sbWake else s.lane l) = L at woken ⊢
  have master : ¬(m = .supervisory ∨ m = .peer) := by rcases hm with rfl | rfl <;> simp
  have free : L.txnFull m = false := by rwa [Lane.txnFull, woken]
  simp only [Lane.takeSegment, if_neg master, if_neg (by omega : ¬ total ≤ 0 + data.length),
    Dict.dropBuf_of_nil (woken ▸ hbuf)]
  rw [if_pos trivial, if_neg (by simp [free]), Lane.answer_wbufs, Lane.answer_open, Lane.answer_working, woken, hbuf]
  exact ⟨rfl, by cases m <;> rfl, by cases m <;> rfl⟩

theorem exec_transferWriteSegment_of_unreached (h : (s.lane l).reaches m = false) :
    exec (.transferWriteSegment l m tid idx sub ofs total data) s = .next s :=
  State.next_on_of_fails (c := fun L => L.reaches m = true) (ne_true_of_eq_false h)

/-! ### TRANSFER_ABORT, SNAPSHOT_LAPSE and SEGMENT_TIMEOUT -/

theorem exec_transferAbort_of_own (hsup : m ≠ .supervisory) (hpeer : m ≠ .peer) :
    ∃ t, exec (.transferAbort l m tid) s = .next t ∧ OnlyLane l s t ∧ (t.lane l).dict.bufOf m tid = none ∧
      (t.lane l).dict.resp = (s.lane l).dict.resp ∧ (∀ x ∈ (t.lane l).dict.snaps, ¬(x.m = m ∧ x.tid = tid)) := by
  refine ⟨_, rfl, s.onlyLane_on l _, ?_⟩
  rw [State.lane_on_same, if_neg (by simp [hsup, hpeer])]
  refine ⟨Dict.bufOf_dropBuf .., by simp, fun x hx => ?_⟩
  rw [Dict.dropBuf_snaps] at hx
  exact ((Dict.mem_dropSnap_iff _ _ _ _).1 hx).2

theorem exec_transferAbort_of_other (h : m = .supervisory ∨ m = .peer) :
    exec (.transferAbort l m tid) s = .next (s.on l fun L => L.answer m tid 0 0 0x06010000) :=
  congrArg Host.Outcome.next (s.on_congr l (if_pos h))

theorem exec_snapshotLapse_closes : ∃ t, exec (.snapshotLapse l m tid) s = .next t ∧ OnlyLane l s t ∧
    (∀ x, x ∈ (t.lane l).dict.snaps ↔ x ∈ (s.lane l).dict.snaps ∧ ¬(x.m = m ∧ x.tid = tid)) ∧
    (t.lane l).dict.resp = (s.lane l).dict.resp := by
  refine ⟨_, rfl, s.onlyLane_on l _, ?_⟩
  rw [State.lane_on_same]
  exact ⟨Dict.mem_dropSnap_iff _ m tid, Dict.dropSnap_resp ..⟩

/-- A gap fails the transaction, and leaves its buffer discarded and its code in the response. -/
theorem exec_segmentTimeout_of_gap {x : WriteBuf} (h : (s.lane l).dict.bufOf m tid = some x)
    (hreach : (s.lane l).reaches m = true) :
    ∃ t, exec (.segmentTimeout l m tid) s = .next t ∧ OnlyLane l s t ∧ (t.lane l).dict.bufOf m tid = none ∧
      (∃ r, (t.lane l).dict.resp = some r ∧ r.m = m ∧ r.tid = tid ∧ r.code = 0x05040000) := by
  have failed : ((s.lane l).segFail m tid x.idx x.sub eTimeout).dict.bufOf m tid = none ∧
      ∃ r, ((s.lane l).segFail m tid x.idx x.sub eTimeout).dict.resp = some r ∧ r.m = m ∧ r.tid = tid ∧
        r.code = 0x05040000 := by
    refine ⟨?_, _, Lane.answer_resp (L := { s.lane l with dict := (s.lane l).dict.dropBuf m tid }) hreach .., rfl, rfl,
      rfl⟩
    rw [Dict.bufOf, Lane.segFail, Lane.answer_wbufs]
    exact Dict.bufOf_dropBuf ..
  refine ⟨_, rfl, s.onlyLane_on l _, ?_⟩
  rw [State.lane_on_same, h]
  dsimp only
  generalize (s.lane l).segFail m tid x.idx x.sub eTimeout = M at failed ⊢
  (repeat' split)
  · simpa only [Dict.bufOf, Lane.onResult_wbufs, Lane.onResult_resp] using failed
  · simpa only [Dict.bufOf, Lane.onResult_wbufs, Lane.onResult_resp] using failed
  · exact failed

theorem exec_segmentTimeout_of_none (h : (s.lane l).dict.bufOf m tid = none) :
    exec (.segmentTimeout l m tid) s = .next s :=
  congrArg Host.Outcome.next (s.on_id l (by rw [h]))

/-! ### RESULT_READ (R368) -/

/-- The host's read of its result of timed actions passes its checks. -/
theorem Lane.readErr_taResult {L : Lane} (hreach : L.reaches .host = true) (hfree : L.txnFull .host = false) :
    L.readErr .host 0x2310 0x10 = none := by
  have up : L.pairsUp = true := hreach
  obtain ⟨r, hrow, hacc⟩ : ∃ r, findObj L.id 0x2310 0x10 = some r ∧ r.acc = .ro := ⟨_, rfl, rfl⟩
  simp [Lane.readErr, hfree, hrow, hacc, up]

theorem Lane.readValue_taResult (L : Lane) : L.readValue 0x2310 0x10 = toBytes 4 L.ta.result.host.word := by
  obtain ⟨r, hrow, hacc, hsize⟩ : ∃ r, findObj L.id 0x2310 0x10 = some r ∧ r.acc = .ro ∧ r.ty.size = some 4 :=
    ⟨_, rfl, rfl, rfl⟩
  simp [Lane.readValue, Lane.readObj, hrow, hacc, hsize, Lane.computed, Lane.readTime, Res3.word]

@[simp] theorem Lane.answerData_ta (L : Lane) (m : Master) (tid idx sub ofs total : Nat) (data : List Byte)
    (last : Bool) : (L.answerData m tid idx sub ofs total data last).ta = L.ta := by
  unfold Lane.answerData Lane.answerWith
  split <;> rfl

/-- The host's read of its result consumes it where it is ready. -/
theorem Lane.consumeRead_taResult {L : Lane} (h : L.ta.result.host.state = .ready) :
    (L.consumeRead .host 0x2310 0x10).ta.result.host = { L.ta.result.host with state := .consumed } := by
  simp [Lane.consumeRead, Lane.resultAt, resultSub, Lane.onResult, Res3.consume, Res3.get, Res3.set, h]

theorem exec_resultRead_of_ready (hreach : (s.lane l).reaches .host = true) (hfree : (s.lane l).txnFull .host = false)
    (hready : (s.lane l).ta.result.host.state = .ready) :
    ∃ t, exec (.resultRead l .host tid .ta .host) s = .next t ∧ OnlyLane l s t ∧
      (t.lane l).ta.result.host = { (s.lane l).ta.result.host with state := .consumed } ∧
      (∃ r, (t.lane l).dict.resp = some r ∧ r.code = 0 ∧ r.data = toBytes 4 (s.lane l).ta.result.host.word) := by
  have whole := State.serveRead_first (s := s) (l := l) (m := .host) (tid := tid) (key := tid) (idx := 0x2310)
    (sub := 0x10) (len := 4) (by decide) (by decide) (by decide) hreach
  have err := Lane.readErr_taResult hreach hfree
  have fits : ((s.lane l).readValue 0x2310 0x10).length ≤ 4 := by rw [Lane.readValue_taResult]; exact Nat.le_refl _
  refine ⟨_, congrArg Host.Outcome.next whole, s.onlyLane_on l _, ?_⟩
  rw [State.lane_on_same]
  obtain ⟨r, hr, -, -, hcode, -, hdata⟩ := Lane.readFirst_resp hreach err fits tid tid
  refine ⟨?_, r, hr, hcode, hdata.trans (Lane.readValue_taResult _)⟩
  rw [Lane.readFirst_of_fits err fits, Lane.consumeRead_taResult (by simpa using hready)]
  simp

end

/-- Settles O38: each row completes, its effect by the case of its request. -/
theorem transfers : Obligations.Transfers := by
  intro s l m tid idx sub len
  refine ⟨fun hside hm h => ⟨fun hreach ofs => exec_transferRead_of_unreached hm h hreach, fun hreach hsnaps =>
      ⟨fun ofs hofs => exec_transferRead_later hside hm h hreach hsnaps hofs, fun e he => ?_, fun herr =>
        ⟨fun hlen => ⟨_, rfl, State.serveRead_whole hside hm h hreach herr hlen⟩,
          exec_transferRead_long hside hm h hreach hsnaps herr⟩⟩⟩,
    fun hlink hlpt hreach => ⟨fun P hP herr hlen h => exec_supervisoryRead_of_copy hlink hlpt hreach hP herr hlen h,
      exec_supervisoryRead_write hlink hlpt hreach⟩,
    fun h ofs op => exec_supervisoryRead_of_unreached h op, fun src v hv hsrc hl => ?_,
    fun src crcOk ofs h => exec_peerRead_of_none h crcOk, fun total data =>
      ⟨exec_transferWriteSegment_first, fun h ofs => exec_transferWriteSegment_of_unreached h⟩,
    exec_transferAbort_of_own, exec_transferAbort_of_other, exec_snapshotLapse_closes,
    fun x hx hreach => exec_segmentTimeout_of_gap hx hreach, exec_segmentTimeout_of_none,
    fun hreach hfree hready _ => exec_resultRead_of_ready hreach hfree hready⟩
  · exact congrArg Host.Outcome.next ((State.serveRead_first hside hm h hreach).trans
      (s.on_congr l (Lane.readFirst_of_err hsnaps he tid tid)))
  · refine ⟨fun hreach herr hlen h => ?_, fun ofs => (exec_peerRead_of_path hv hsrc hl).2⟩
    obtain ⟨only, ⟨r, hr, hm, -, hcode, -, hdata⟩, -⟩ := State.serveRead_whole (s := s) (l := l) (m := .peer) (tid := tid)
      (key := tid + 256 * (1 + src.num)) (by decide) (by decide) h hreach herr hlen
    exact ⟨_, (exec_peerRead_of_path hv hsrc hl).1, only, r, hr, hm, hcode, hdata⟩

end Sys2Proof.Machine
end

section
/-! PROOFS, writes of objects and prepares of peers (O39). -/
namespace Sys2Proof.Machine

/-! ### A write of a plain object -/

/-- The objects of wakes and clocks have no action of their own. -/
theorem State.performWrite_of_wakeClock {idx : Nat} (hlo : 0x2101 ≤ idx) (hhi : idx < 0x2203) (s : State) (l : LaneId)
    (m : Master) (tid sub : Nat) (data : List Byte) (g : Option Nat) (e : WriteEnv) :
    s.performWrite l m tid idx sub data g e = s.on l fun L => L.plainWrite m tid idx sub data g := by
  have plain : s.writeLow l m tid idx sub data e = none := by
    unfold State.writeLow
    dsimp only
    split
    · omega
    · omega
    · omega
    · omega
    · omega
    · omega
    · rw [if_neg (by omega), if_neg (by omega), if_neg (by omega), if_neg (by omega)]
  rw [State.performWrite, if_pos (by omega), plain]

/-- The settings of redundancy have none either. -/
theorem State.performWrite_of_redundancy (s : State) (l : LaneId) (m : Master) (tid sub : Nat) (data : List Byte)
    (g : Option Nat) (e : WriteEnv) :
    s.performWrite l m tid 0x2600 sub data g e = s.on l fun L => L.plainWrite m tid 0x2600 sub data g := by
  have plain : s.writeHigh l m tid 0x2600 sub data g e = none := rfl
  rw [State.performWrite, if_neg (by omega), plain]

/-- Of the dictionary group a failed group changes the commits the lane holds and the list of failed groups. -/
theorem Lane.exists_failGroup (L : Lane) (m : Master) (g : Option Nat) : ∃ o k b, L.failGroup m g =
    { L with dict := { L.dict with outbox := o, known := k, badGroups := b } } := by
  unfold Lane.failGroup
  split
  · exact ⟨_, _, _, rfl⟩
  · dsimp only
    split
    · exact ⟨_, _, _, rfl⟩
    · exact ⟨_, _, _, rfl⟩

@[simp] theorem Lane.holdDead_dict (L : Lane) (idx sub : Nat) : (L.holdDead idx sub).dict = L.dict := by
  unfold Lane.holdDead
  (repeat' split) <;> rfl

@[simp] theorem Lane.holdDead_id (L : Lane) (idx sub : Nat) : (L.holdDead idx sub).id = L.id := by
  unfold Lane.holdDead
  (repeat' split) <;> rfl

/-- The settings after a value enters the lane are those after it is set. -/
theorem Lane.storeLocal_obj (L : Lane) (m : Master) (idx sub raw : Nat) :
    (L.storeLocal m idx sub raw).obj = (L.setObj idx sub raw).obj := by
  have stored : ((L.holdDead idx sub).storeObj idx sub raw).obj = (L.setObj idx sub raw).obj := by
    rw [Lane.storeObj_obj]
    funext i j
    simp [Lane.obj, Lane.setObj]
  rw [← stored]
  unfold Lane.storeLocal
  dsimp only
  refine Lane.obj_congr ?_ ?_
  · rw [(Lane.afterWrite_voteKept _ _ _).1]
    (repeat' split) <;> rfl
  · rw [Lane.afterWrite_dict]
    (repeat' split) <;> rfl

/-- Lane `M` is reached by the masters that reach `L`: it has kept what their reach depends on. -/
structure Lane.ReachKept (L M : Lane) : Prop where
  pwr : M.pwr = L.pwr
  mem : M.mem = L.mem
  therm : M.therm = L.therm
  lpt : M.lpt = L.lpt

theorem Lane.ReachKept.refl (L : Lane) : L.ReachKept L := ⟨rfl, rfl, rfl, rfl⟩

theorem Lane.ReachKept.trans {L M N : Lane} (h : L.ReachKept M) (h' : M.ReachKept N) : L.ReachKept N :=
  ⟨h'.pwr.trans h.pwr, h'.mem.trans h.mem, h'.therm.trans h.therm, h'.lpt.trans h.lpt⟩

theorem Lane.ReachKept.reaches {L M : Lane} (h : L.ReachKept M) : M.reaches = L.reaches :=
  Lane.reaches_congr h.pwr h.mem h.therm h.lpt

theorem Lane.foldl_reachKept {α : Type} {f : Lane → α → Lane} (h : ∀ (M : Lane) x, M.ReachKept (f M x)) (l : List α)
    (L : Lane) : L.ReachKept (l.foldl f L) :=
  List.foldlRecOn l f (motive := L.ReachKept) (.refl L) fun M hM x _ => hM.trans (h M x)

theorem Lane.runCheck_reachKept (get : Nat → Nat → Nat) (L : Lane) (kind : Nat) : L.ReachKept (L.runCheck get kind) :=
  Lane.ReachKept.trans (M := { L with flog := { L.flog with cfg := L.flog.cfg.filter fun c => c.toNat % 64 != kind } })
    ⟨rfl, rfl, rfl, rfl⟩ (Lane.foldl_reachKept (fun M _ => ⟨by simp, by simp, by simp, by simp⟩) _ _)

theorem Lane.afterWrite_reachKept (L : Lane) (idx sub : Nat) : L.ReachKept (L.afterWrite idx sub) :=
  Lane.foldl_reachKept (fun M k => M.runCheck_reachKept _ k) _ _

theorem Lane.holdDead_reachKept (L : Lane) (idx sub : Nat) : L.ReachKept (L.holdDead idx sub) := by
  unfold Lane.holdDead
  (repeat' split) <;> exact ⟨rfl, rfl, rfl, rfl⟩

theorem Lane.storeLocal_reachKept (L : Lane) (m : Master) (idx sub raw : Nat) :
    L.ReachKept (L.storeLocal m idx sub raw) := by
  have stored : L.ReachKept ((L.holdDead idx sub).storeObj idx sub raw) :=
    (L.holdDead_reachKept idx sub).trans ⟨by simp, by simp, by simp, by simp⟩
  unfold Lane.storeLocal
  dsimp only
  refine Lane.ReachKept.trans (stored.trans ?_) (Lane.afterWrite_reachKept ..)
  (repeat' split) <;> exact ⟨rfl, rfl, rfl, rfl⟩

/-! ### OBJECT_WRITE (R347, R358) -/

section
variable {s : State} {l : LaneId} {tid idx sub ofs total : Nat} {grp : Option (Fin 16)} {data : List Byte} {e : WriteEnv}

theorem exec_objectWrite_of_unreached {m : Master} (h : (s.lane l).reaches m = false) :
    exec (.objectWrite l m tid idx sub ofs total grp data e) s = .next s := if_pos h

/-- The host's write of one message is performed at once. -/
theorem exec_objectWrite_of_host (hreach : (s.lane l).reaches .host = true) (hbuf : (s.lane l).dict.wbufs = []) :
    exec (.objectWrite l .host tid idx sub 0 data.length grp data e) s =
      .next (s.performWrite l .host tid idx sub data (grp.map (·.val)) e) := by
  have dropped : (s.on l fun L => { L with dict := L.dict.dropBuf .host tid }) = s :=
    s.on_id l (by rw [Dict.dropBuf_of_nil hbuf])
  simp [exec, execObjectWrite, hreach, dropped]

theorem exec_objectWrite_unordered (hreach : (s.lane l).reaches .host = true) (hlen : ofs + data.length ≠ total) :
    exec (.objectWrite l .host tid idx sub ofs total grp data e) s =
      .next (s.on l fun L => L.segFail .host tid idx sub eOrder) := by
  simp [exec, execObjectWrite, hreach, hlen]

/-- What a failed order leaves. -/
theorem Lane.segFail_spec {L : Lane} {m : Master} (hreach : L.reaches m = true) (code : W32) :
    (L.segFail m tid idx sub code).dict.working = L.dict.working ∧
    (L.segFail m tid idx sub code).dict.bufOf m tid = none ∧
    ∃ r, (L.segFail m tid idx sub code).dict.resp = some r ∧ r.code = code := by
  refine ⟨?_, ?_, _, Lane.answer_resp (L := { L with dict := L.dict.dropBuf m tid }) hreach .., rfl⟩
  · rw [Lane.segFail, Lane.answer_working]
    exact Dict.dropBuf_working ..
  · rw [Dict.bufOf, Lane.segFail, Lane.answer_wbufs]
    exact Dict.bufOf_dropBuf ..

end

/-! #### A plain write at a lane -/

section
variable {L : Lane} {m : Master} {tid idx sub : Nat} {data : List Byte} {g : Option Nat}

theorem Lane.plainWrite_of_err {c : W32} (hreach : L.reaches m = true) (h : L.plainErr m idx sub data false = some c) :
    (L.plainWrite m tid idx sub data g).dict.working = L.dict.working ∧
    ∃ r, (L.plainWrite m tid idx sub data g).dict.resp = some r ∧ r.tid = tid ∧ r.idx = idx ∧ r.sub = sub ∧
      r.code = c := by
  obtain ⟨o, k, b, hfail⟩ := L.exists_failGroup m g
  simp only [Lane.plainWrite, h, Lane.answer_working]
  rw [hfail]
  exact ⟨rfl, _, Lane.answer_resp (L := { L with dict := { L.dict with outbox := o, known := k, badGroups := b } }) hreach ..,
    rfl, rfl, rfl, rfl⟩

theorem Lane.plainWrite_of_local (h : L.plainErr m idx sub data false = none) (hwide : isWide idx sub = false) :
    L.plainWrite m tid idx sub data g =
      ((L.sbCount m idx).storeLocal m idx sub (ofBytes data)).answer m tid idx sub 0 := by
  simp [Lane.plainWrite, h, hwide]

/-- A local write that passes its checks puts its value in force and is answered with 0. -/
theorem Lane.plainWrite_local_spec (hreach : L.reaches m = true) (h : L.plainErr m idx sub data false = none)
    (hwide : isWide idx sub = false) :
    (L.plainWrite m tid idx sub data g).obj idx sub = ofBytes data ∧
    (L.plainWrite m tid idx sub data g).vote = L.vote ∧
    (∀ i j, okey i j ≠ okey idx sub → (L.plainWrite m tid idx sub data g).obj i j = L.obj i j) ∧
    ∃ r, (L.plainWrite m tid idx sub data g).dict.resp = some r ∧ r.tid = tid ∧ r.idx = idx ∧ r.sub = sub ∧
      r.code = 0 := by
  rw [Lane.plainWrite_of_local h hwide]
  have reached : ((L.sbCount m idx).storeLocal m idx sub (ofBytes data)).reaches m = true := by
    rw [(Lane.storeLocal_reachKept ..).reaches, Lane.sbCount_reaches, hreach]
  refine ⟨?_, ?_, fun i j hij => ?_, _, Lane.answer_resp reached .., rfl, rfl, rfl, rfl⟩
  · rw [Lane.answer_obj, Lane.storeLocal_obj, Lane.obj_setObj_same]
  · rw [Lane.answer_vote, (Lane.storeLocal_voteKept ..).2, Lane.sbCount_vote]
  · rw [Lane.answer_obj, Lane.storeLocal_obj, Lane.obj_setObj_ne _ _ hij, Lane.sbCount_obj]

/-- A module-wide write that passes its checks becomes a prepared commit. -/
theorem Lane.plainWrite_wide (h : L.plainErr m idx sub data false = none) (hwide : isWide idx sub = true)
    (hrun : L.vote.running = true) (hprep : L.dict.prepared < 8) :
    L.Prepared m { idx := idx, sub := sub, raw := ofBytes data, tid := tid }
      (L.plainWrite m tid idx sub data none) := by
  have err : L.writeErr m idx sub data (L.plainNow idx sub) false = none := by
    unfold Lane.plainErr at h
    split at h
    · cases h
    · assumption
  have full : (L.sbCount m idx).txnFull m = false := by
    rw [Lane.txnFull, Lane.sbCount_dict]; exact Lane.txnFull_of_writeErr err
  have prepared : L.plainWrite m tid idx sub data none =
      (L.sbCount m idx).prepareNew m { idx := idx, sub := sub, raw := ofBytes data, tid := tid } none false := by
    simp [Lane.plainWrite, h, hwide, Lane.prepare, hrun, full, Nat.not_le.2 hprep]
  rw [prepared]
  exact L.prepareNew_prepared ..

end

/-! ### COMMIT_PREPARE_RECEIVED (R349, R350) -/

section
variable {s : State} {l src v : LaneId} {ctr : W16} {c : Commit}

/-- The commit that a prepare of lane `src` tells of. -/
def State.prepareOf (s : State) (src : LaneId) (ctr : W16) : Option Commit :=
  (s.lane src).dict.outbox.find? fun c => c.server == src && c.ctr == ctr

/-- A prepare arrives before the tCLOSE of its voting cycle. -/
def Lane.early (L : Lane) (c : Commit) : Bool :=
  decide (L.vote.cycle.toNat < c.cycle.toNat) ||
    (L.vote.cycle == c.cycle && decide (L.tb.ns < L.vote.startNs + L.tClose * 1000))

theorem exec_commitPrepareReceived_of_path (hv : s.via l src = some v) (hc : s.prepareOf src ctr = some c)
    (crcOk : Bool) :
    exec (.commitPrepareReceived l { src := src, crcOk := crcOk } ctr) s =
      if (s.lane l).alive ∧ crcOk = false then .next (s.on l fun L => L.badMessage v)
      else if (s.lane l).alive ∧ (s.lane l).vote.running ∧ (s.lane l).early c then
        .next (s.on l fun L => { L with dict := { L.dict with
          known := (L.dict.known.filter fun d => !d.same c) ++ [c] } })
      else .next s := by
  unfold State.prepareOf at hc
  simp only [exec, execCommitPrepareReceived, hv, hc]
  rfl

theorem exec_commitPrepareReceived_of_none (h : s.via l src = none ∨ s.prepareOf src ctr = none ∨
    (s.lane l).alive = false) (crcOk : Bool) :
    exec (.commitPrepareReceived l { src := src, crcOk := crcOk } ctr) s = .next s := by
  cases hv : s.via l src with
  | none => simp only [exec, execCommitPrepareReceived, hv]
  | some v =>
    cases hc : s.prepareOf src ctr with
    | none =>
      unfold State.prepareOf at hc
      simp only [exec, execCommitPrepareReceived, hv, hc]
    | some c =>
      have dead : (s.lane l).alive = false := by simpa [hv, hc] using h
      rw [exec_commitPrepareReceived_of_path hv hc, if_neg (by simp [dead]), if_neg (by simp [dead])]

end

/-- Settles O39: a write is performed by its checks, a prepare is held by the time at which it arrives. -/
theorem objectWrites : Obligations.ObjectWrites := by
  intro s l m tid idx sub grp data e
  refine ⟨fun h ofs total => exec_objectWrite_of_unreached h, fun hreach hm hbuf hlo hhi => ?_,
    fun hreach hm hbuf hidx hwide herr hrun hprep hgrp => ?_, fun ofs total hm hreach hlen => ?_,
    fun src v ctr c hv hc halive => ⟨?_, fun hrun hearly => ?_, fun hlate => ?_⟩,
    fun src crcOk ctr h => exec_commitPrepareReceived_of_none h crcOk⟩
  · subst hm
    have hexec := exec_objectWrite_of_host (tid := tid) (idx := idx) (sub := sub) (grp := grp) (data := data) (e := e)
      hreach hbuf
    rw [State.performWrite_of_wakeClock hlo hhi] at hexec
    refine ⟨fun c hc => ⟨_, hexec, s.onlyLane_on l _, ?_⟩, fun herr hwide => ⟨_, hexec, s.onlyLane_on l _, ?_⟩⟩
    · rw [State.lane_on_same]
      exact Lane.plainWrite_of_err hreach hc
    · rw [State.lane_on_same]
      exact Lane.plainWrite_local_spec hreach herr hwide
  · subst hm hidx hgrp
    have hexec := exec_objectWrite_of_host (tid := tid) (idx := 0x2600) (sub := sub) (grp := none) (data := data) (e := e)
      hreach hbuf
    rw [State.performWrite_of_redundancy] at hexec
    refine ⟨_, hexec, s.onlyLane_on l _, ?_⟩
    rw [State.lane_on_same]
    obtain ⟨hprepared, -, -, hworking, -, c, hout, hserver, hctr, -, hitems⟩ :=
      Lane.plainWrite_wide (tid := tid) herr hwide hrun hprep
    exact ⟨hprepared, hworking, c, hout, hserver, hctr, hitems⟩
  · subst hm
    refine ⟨_, exec_objectWrite_unordered hreach hlen, s.onlyLane_on l _, ?_⟩
    rw [State.lane_on_same]
    exact Lane.segFail_spec hreach eOrder
  · rw [exec_commitPrepareReceived_of_path hv hc, if_pos ⟨halive, rfl⟩]
    rfl
  · have early : (s.lane l).early c = true := by
      simpa [Lane.early] using hearly
    refine ⟨_, by rw [exec_commitPrepareReceived_of_path hv hc, if_neg (by simp), if_pos ⟨halive, hrun, early⟩],
      s.onlyLane_on l _, ?_⟩
    rw [State.lane_on_same]
    refine ⟨by simp, fun d hd => ?_, rfl⟩
    rcases List.mem_append.1 hd with hd | hd
    · exact .inr (List.mem_of_mem_filter hd)
    · exact .inl (List.mem_singleton.1 hd)
  · rw [exec_commitPrepareReceived_of_path hv hc, if_neg (by simp), if_neg fun hnow => ?_]
    obtain ⟨-, hrun, hearly⟩ := hnow
    simp only [Lane.early, Bool.or_eq_true, Bool.and_eq_true, decide_eq_true_eq, beq_iff_eq] at hearly
    rcases hlate with h | h | ⟨same, h⟩
    · simp [h] at hrun
    · rcases hearly with h' | ⟨h', -⟩
      · omega
      · rw [h'] at h; omega
    · rcases hearly with h' | ⟨-, h'⟩
      · rw [same] at h'; omega
      · omega

end Sys2Proof.Machine
end

section
/-! PROOFS, the side-band session (O41). -/
namespace Sys2Proof.Machine

/-! ### What opens and closes a session -/

/-- An open session closes: its pending write gone, the side-band's unlock ended, the close recorded. -/
structure Lane.SessionClosed (L M : Lane) : Prop where
  isOpen : M.sb.isOpen = false
  pend : M.sb.pend = none
  unlock : M.ds2.unlockSb = false
  last : M.flog.last = 0x9104
  pwr : M.pwr = L.pwr
  vote : M.vote = L.vote

theorem Lane.sbClose_closed {L : Lane} (h : L.sb.isOpen = true) (cause : Nat) : L.SessionClosed (L.sbClose cause) := by
  rw [Lane.sbClose, if_pos h]
  exact ⟨rfl, rfl, rfl, Lane.raise_last .., rfl, rfl⟩

theorem Lane.sbClose_of_closed {L : Lane} (h : L.sb.isOpen = false) (cause : Nat) : L.sbClose cause = L :=
  if_neg (ne_true_of_eq_false h)

@[simp] theorem Lane.sbClose_isOpen (L : Lane) (cause : Nat) : (L.sbClose cause).sb.isOpen = false := by
  unfold Lane.sbClose
  split
  · rfl
  next h => exact eq_false_of_ne_true h

@[simp] theorem Lane.sbClose_reaches (L : Lane) (cause : Nat) : (L.sbClose cause).reaches = L.reaches := by
  unfold Lane.sbClose
  split <;> rfl

/-- Of the side-band group an answer changes only the time of its last transaction. -/
theorem Lane.exists_answer_sb (L : Lane) (m : Master) (tid idx sub : Nat) (code : W32) (data : List Byte) :
    ∃ n, (L.answer m tid idx sub code data).sb = { L.sb with lastAt := n } := by
  unfold Lane.answer Lane.answerWith
  split
  · exact ⟨_, rfl⟩
  · dsimp only
    split
    · exact ⟨_, rfl⟩
    · exact ⟨_, rfl⟩

section
variable (L : Lane) (m : Master) (tid idx sub : Nat) (code : W32) (data : List Byte)

@[simp] theorem Lane.answer_isOpen : (L.answer m tid idx sub code data).sb.isOpen = L.sb.isOpen := by
  obtain ⟨n, h⟩ := L.exists_answer_sb m tid idx sub code data; rw [h]

@[simp] theorem Lane.answer_pend : (L.answer m tid idx sub code data).sb.pend = L.sb.pend := by
  obtain ⟨n, h⟩ := L.exists_answer_sb m tid idx sub code data; rw [h]

@[simp] theorem Lane.answer_counter : (L.answer m tid idx sub code data).sb.counter = L.sb.counter := by
  obtain ⟨n, h⟩ := L.exists_answer_sb m tid idx sub code data; rw [h]

@[simp] theorem Lane.answer_tagFails : (L.answer m tid idx sub code data).sb.tagFails = L.sb.tagFails := by
  obtain ⟨n, h⟩ := L.exists_answer_sb m tid idx sub code data; rw [h]

@[simp] theorem Lane.answer_challenge : (L.answer m tid idx sub code data).sb.challenge = L.sb.challenge := by
  obtain ⟨n, h⟩ := L.exists_answer_sb m tid idx sub code data; rw [h]

@[simp] theorem Lane.answer_sessions : (L.answer m tid idx sub code data).sb.sessions = L.sb.sessions := by
  obtain ⟨n, h⟩ := L.exists_answer_sb m tid idx sub code data; rw [h]

end

/-! ### A value that enters the lane leaves the session -/

theorem Lane.foldl_sb {α : Type} {f : Lane → α → Lane} (h : ∀ M x, (f M x).sb = M.sb) (l : List α) (L : Lane) :
    (l.foldl f L).sb = L.sb :=
  List.foldlRecOn l f (motive := fun M : Lane => M.sb = L.sb) rfl fun M hM x _ => (h M x).trans hM

@[simp] theorem Lane.runCheck_sb (get : Nat → Nat → Nat) (L : Lane) (kind : Nat) : (L.runCheck get kind).sb = L.sb :=
  Lane.foldl_sb (fun M _ => M.cfgFault_sb ..) _ _

@[simp] theorem Lane.afterWrite_sb (L : Lane) (idx sub : Nat) : (L.afterWrite idx sub).sb = L.sb :=
  Lane.foldl_sb (fun M k => M.runCheck_sb _ k) _ _

@[simp] theorem Lane.holdDead_sb (L : Lane) (idx sub : Nat) : (L.holdDead idx sub).sb = L.sb := by
  unfold Lane.holdDead
  (repeat' split) <;> rfl

@[simp] theorem Lane.storeLocal_sb (L : Lane) (m : Master) (idx sub raw : Nat) :
    (L.storeLocal m idx sub raw).sb = L.sb := by
  have stored : ((L.holdDead idx sub).storeObj idx sub raw).sb = L.sb := by simp
  rw [← stored]
  unfold Lane.storeLocal
  dsimp only
  rw [Lane.afterWrite_sb]
  (repeat' split) <;> rfl

section
variable (L : Lane) (p : Option SbPend) (n : Nat)

/-- The checks of a write look at the session only for whether it is open. -/
theorem Lane.writeErr_tagged :
    ({ L with sb := { L.sb with pend := p, tagFails := n } } : Lane).writeErr = L.writeErr := by
  funext m idx sub data present window
  simp only [Lane.writeErr, Lane.txnFull, Lane.canWrite, Lane.sealErr, Lane.rwpOpen, Lane.obj, Lane.sbReach,
    Lane.pairsUp, Lane.lptOn, Lane.lptLink] <;> rfl

theorem Lane.plainErr_tagged :
    ({ L with sb := { L.sb with pend := p, tagFails := n } } : Lane).plainErr = L.plainErr := by
  have now : ({ L with sb := { L.sb with pend := p, tagFails := n } } : Lane).plainNow = L.plainNow := by
    have map : ({ L with sb := { L.sb with pend := p, tagFails := n } } : Lane).bridgeOf = L.bridgeOf := rfl
    funext i j
    simp only [Lane.plainNow, Lane.carrierFree, map]
  have names : ({ L with sb := { L.sb with pend := p, tagFails := n } } : Lane).namesErr = L.namesErr := by
    funext i j raw
    simp only [Lane.namesErr, Lane.windowOk, Lane.itemOk] <;> rfl
  funext m idx sub data window
  simp only [Lane.plainErr, Lane.writeErr_tagged, now, names]

end

/-! ### Rows of a lane whose side-band is served -/

section
variable {s : State} {l : LaneId} (hreach : (s.lane l).sbReach = true) (hstate : (s.lane l).pwr.state ≠ .standby)
include hreach hstate

omit hreach in
/-- The side-band's request finds the lane awake. -/
theorem State.on_sbWake : s.on l Lane.sbWake = s := s.on_id l (Lane.sbWake_of_ne hstate)

/-! #### SB_CHALLENGE and SB_RESPONSE (R362) -/

theorem exec_sbChallenge_draws : ∃ t, exec (.sbChallenge l) s = .next t ∧ t.freeCtr = s.freeCtr + 1 ∧
    (∀ p, p ≠ l → t.lane p = s.lane p) ∧ (t.lane l).sb.challenge = some (Config.draw s.freeCtr) ∧
    (∃ r, (t.lane l).dict.resp = some r ∧ r.code = 0 ∧ r.data = toBytes 8 (Config.draw s.freeCtr).toNat) := by
  refine ⟨_, rfl, rfl, fun p hp => (State.lane_on_ne _ _ hp).trans rfl, ?_⟩
  have same : s.drawn.lane l = s.lane l := rfl
  rw [State.lane_on_same, same, if_pos hreach, Lane.sbWake_of_ne hstate, Lane.answer_challenge]
  exact ⟨rfl, _, Lane.answer_resp (by exact hreach) .., rfl, rfl⟩

/-- A response to the last challenge. -/
theorem exec_sbResponse_of_challenge {c : W64} (hc : (s.lane l).sb.challenge = some c) (data : List Byte) :
    exec (.sbResponse l data) s = .next (s.on l fun L =>
      if data == L.sbExpected c && L.keyOk 10 then (L.sbOpen c).answer .sideBand 0 0x2510 2 0
      else (L.raise 0x9102 0).answer .sideBand 0 0x2510 2 eAuth) := by
  refine congrArg Host.Outcome.next (s.on_congr l ?_)
  rw [if_neg (by simp [hreach]), Lane.sbWake_of_ne hstate]
  simp only [hc]

theorem exec_sbResponse_opens {c : W64} {data : List Byte} (hc : (s.lane l).sb.challenge = some c)
    (hopen : (s.lane l).sb.isOpen = false) (hkey : (s.lane l).keyOk 10 = true) (hdata : data = (s.lane l).sbExpected c) :
    ∃ t, exec (.sbResponse l data) s = .next t ∧ OnlyLane l s t ∧
      (t.lane l).sb.isOpen = true ∧ (t.lane l).sb.counter = 0 ∧ (t.lane l).sb.challenge = none ∧
      (t.lane l).sb.pend = none ∧ (t.lane l).sb.sessions = (s.lane l).sb.sessions + 1 ∧
      (t.lane l).flog.last = 0x9101 := by
  refine ⟨_, exec_sbResponse_of_challenge hreach hstate hc data, s.onlyLane_on l _, ?_⟩
  rw [State.lane_on_same, if_pos (by simp [hdata, hkey]), Lane.answer_isOpen, Lane.answer_counter, Lane.answer_challenge,
    Lane.answer_pend, Lane.answer_sessions, Lane.answer_flog, Lane.sbOpen, Lane.sbClose_of_closed hopen]
  exact ⟨rfl, rfl, rfl, rfl, rfl, Lane.raise_last ..⟩

theorem exec_sbResponse_fails {c : W64} {data : List Byte} (hc : (s.lane l).sb.challenge = some c)
    (hopen : (s.lane l).sb.isOpen = false)
    (h : (s.lane l).keyOk 10 = false ∨ data ≠ (s.lane l).sbExpected c) :
    ∃ t, exec (.sbResponse l data) s = .next t ∧ OnlyLane l s t ∧ (t.lane l).sb.isOpen = false ∧
      (t.lane l).flog.last = 0x9102 ∧ (∃ r, (t.lane l).dict.resp = some r ∧ r.code = 0x0D000005) := by
  refine ⟨_, exec_sbResponse_of_challenge hreach hstate hc data, s.onlyLane_on l _, ?_⟩
  rw [State.lane_on_same, if_neg (by rcases h with h | h <;> simp [h]), Lane.answer_isOpen, Lane.answer_flog]
  exact ⟨hopen, Lane.raise_last .., _, Lane.answer_resp (m := .sideBand) (L := (s.lane l).raise 0x9102 0) hreach .., rfl⟩

/-! #### SIDEBAND_VALUE_DOWNLOAD (R363) -/

theorem exec_sidebandValueDownload_of_reached {idx : Nat} (hidx : idx ≠ 0x2510) (sub : Nat) (data : List Byte) :
    exec (.sidebandValueDownload l idx sub data) s = .next (s.on l fun L =>
      (if s.downloadCode l idx sub data = 0 then
          { L with sb := { L.sb with pend := some { idx := idx, sub := sub, data := data } } }
        else L).answer .sideBand 0 idx sub (s.downloadCode l idx sub data)) := by
  simp only [exec, execSidebandValueDownload, State.on_sbWake hstate]
  rw [if_neg (by simp [hreach, hidx])]

theorem exec_sidebandValueDownload_held {idx sub : Nat} {data : List Byte} (hidx : idx ≠ 0x2510)
    (hcode : s.downloadCode l idx sub data = 0) :
    ∃ t, exec (.sidebandValueDownload l idx sub data) s = .next t ∧ OnlyLane l s t ∧
      (t.lane l).sb.pend = some { idx := idx, sub := sub, data := data } ∧
      (t.lane l).sb.counter = (s.lane l).sb.counter ∧ (t.lane l).dict.working = (s.lane l).dict.working := by
  refine ⟨_, exec_sidebandValueDownload_of_reached hreach hstate hidx sub data, s.onlyLane_on l _, ?_⟩
  rw [State.lane_on_same, if_pos hcode, Lane.answer_pend, Lane.answer_counter, Lane.answer_working]
  exact ⟨rfl, rfl, rfl⟩

theorem exec_sidebandValueDownload_refused {idx sub : Nat} {data : List Byte} (hidx : idx ≠ 0x2510)
    (hcode : s.downloadCode l idx sub data ≠ 0) :
    exec (.sidebandValueDownload l idx sub data) s = .next (s.on l fun L =>
      L.answer .sideBand 0 idx sub (s.downloadCode l idx sub data)) := by
  rw [exec_sidebandValueDownload_of_reached hreach hstate hidx sub data]
  simp only [if_neg hcode]

/-! #### SB_TAG (R363) -/

theorem exec_sbTag_of_closed (h : (s.lane l).sb.isOpen = false) (data : List Byte) (e : WriteEnv) :
    exec (.sbTag l data e) s = .next (s.on l fun L => L.answer .sideBand 0 0x2510 3 0x0D000005) := by
  simp only [exec, execSbTag, State.on_sbWake hstate, h]
  rw [if_neg (by simp [hreach])]
  rfl

theorem exec_sbTag_of_idle (hopen : (s.lane l).sb.isOpen = true) (h : (s.lane l).sb.pend = none) (data : List Byte)
    (e : WriteEnv) : exec (.sbTag l data e) s = .next (s.on l fun L => L.answer .sideBand 0 0x2510 3 0x08000022) := by
  simp only [exec, execSbTag, State.on_sbWake hstate, h]
  rw [if_neg (by simp [hreach]), if_neg (by simp [hopen])]
  rfl

/-- A tag on the pending write. -/
theorem exec_sbTag_of_pend (hopen : (s.lane l).sb.isOpen = true) {p : SbPend} (h : (s.lane l).sb.pend = some p)
    (data : List Byte) (e : WriteEnv) : exec (.sbTag l data e) s =
      if data == (s.lane l).sbTagFor p then
        .next (((s.on l fun L => { L with sb := { L.sb with pend := none, tagFails := 0 } }).performWrite l .sideBand 0
          p.idx p.sub p.data none e).on l fun M =>
            if M.sb.isOpen then { M with sb := { M.sb with counter := (s.lane l).sb.counter + 1 } } else M)
      else .next (s.on l Lane.tagFail) := by
  simp only [exec, execSbTag, State.on_sbWake hstate, h]
  rw [if_neg (by simp [hreach]), if_neg (by simp [hopen])]

theorem exec_sbTag_fails (hopen : (s.lane l).sb.isOpen = true) {p : SbPend} (h : (s.lane l).sb.pend = some p)
    {data : List Byte} (hdata : data ≠ (s.lane l).sbTagFor p) (e : WriteEnv) :
    ∃ t, exec (.sbTag l data e) s = .next t ∧ OnlyLane l s t ∧ (t.lane l).sb.pend = none ∧
      (t.lane l).sb.counter = (s.lane l).sb.counter ∧
      (t.lane l).sb.isOpen = decide ((s.lane l).sb.tagFails < 2) ∧
      (∃ r, (t.lane l).dict.resp = some r ∧ r.code = 0x0D000005) := by
  refine ⟨_, by rw [exec_sbTag_of_pend hreach hstate hopen h, if_neg (by simpa using hdata)], s.onlyLane_on l _, ?_⟩
  rw [State.lane_on_same, Lane.tagFail]
  generalize hM : ({ s.lane l with sb := _ } : Lane).raise 0x9103 0 = M
  have hsb : M.sb = { (s.lane l).sb with pend := none, tagFails := (s.lane l).sb.tagFails + 1 } := by rw [← hM]; rfl
  have reached : M.reaches .sideBand = true := by rw [← hM]; exact hreach
  split
  next hthree =>
    rw [hsb] at hthree
    rw [Lane.answer_pend, Lane.answer_counter, Lane.answer_isOpen, Lane.sbClose, if_pos (by rw [hsb]; exact hopen)]
    refine ⟨rfl, by rw [Lane.raise_sb, hsb], (decide_eq_false (Nat.not_lt.2 (by simpa using hthree))).symm, _,
      Lane.answer_resp (m := .sideBand) (by exact reached) .., rfl⟩
  next hless =>
    rw [hsb] at hless
    rw [Lane.answer_pend, Lane.answer_counter, Lane.answer_isOpen, hsb]
    exact ⟨rfl, rfl, by simpa [hopen] using hless, _, Lane.answer_resp reached .., rfl⟩

theorem exec_sbTag_verified (hopen : (s.lane l).sb.isOpen = true) {p : SbPend} (h : (s.lane l).sb.pend = some p)
    (hidx : p.idx = 0x2101) (hsub : p.sub = 1)
    (herr : (s.lane l).plainErr .sideBand 0x2101 1 p.data false = none) {data : List Byte}
    (hdata : data = (s.lane l).sbTagFor p) (e : WriteEnv) :
    ∃ t, exec (.sbTag l data e) s = .next t ∧ OnlyLane l s t ∧ (t.lane l).obj 0x2101 1 = ofBytes p.data ∧
      (t.lane l).sb.pend = none ∧ (t.lane l).sb.tagFails = 0 ∧ (t.lane l).sb.counter = (s.lane l).sb.counter + 1 ∧
      (t.lane l).sb.isOpen = true := by
  refine ⟨_, by rw [exec_sbTag_of_pend hreach hstate hopen h, if_pos (by simpa using hdata)], ?_⟩
  rw [hidx, hsub, State.performWrite_of_wakeClock (by decide) (by decide)]
  refine ⟨((s.onlyLane_on l _).on _).on _, ?_⟩
  rw [State.lane_on_same, State.lane_on_same, State.lane_on_same]
  generalize hQ : ({ s.lane l with sb := { (s.lane l).sb with pend := none, tagFails := 0 } } : Lane) = Q
  have errQ : Q.plainErr .sideBand 0x2101 1 p.data false = none := by
    rw [← hQ, Lane.plainErr_tagged]; exact herr
  have sbQ : Q.sb = { (s.lane l).sb with pend := none, tagFails := 0 } := hQ ▸ rfl
  obtain ⟨hobj, -, -, -⟩ := Lane.plainWrite_local_spec (tid := 0) (g := none) (by rw [← hQ]; exact hreach) errQ (by decide)
  have sbM : (Q.plainWrite .sideBand 0 0x2101 1 p.data none).sb.isOpen = true ∧
      (Q.plainWrite .sideBand 0 0x2101 1 p.data none).sb.pend = none ∧
      (Q.plainWrite .sideBand 0 0x2101 1 p.data none).sb.tagFails = 0 := by
    rw [Lane.plainWrite_of_local errQ (by decide), Lane.answer_isOpen, Lane.answer_pend, Lane.answer_tagFails,
      Lane.storeLocal_sb, Lane.sbCount, if_pos ⟨rfl, by decide, by rw [sbQ]; exact hopen⟩, sbQ]
    exact ⟨hopen, rfl, rfl⟩
  obtain ⟨openM, pendM, failsM⟩ := sbM
  rw [if_pos openM]
  exact ⟨hobj, pendM, failsM, rfl, openM⟩

/-! #### SB_CLOSE (R364) -/

omit hreach hstate in
theorem exec_sbClose_of_open (hopen : (s.lane l).sb.isOpen = true) {m : Master} {tid : Nat}
    (h : (s.lane l).writeErr m 0x2510 4 [1] true false = none) :
    ∃ t, exec (.sbClose l m tid [1]) s = .next t ∧ OnlyLane l s t ∧ (t.lane l).sb.isOpen = false ∧
      (t.lane l).sb.pend = none ∧ (t.lane l).ds2.unlockSb = false ∧ (t.lane l).flog.last = 0x9104 := by
  refine ⟨_, State.next_write_of_ok (present := fun _ => true) h tid _, s.onlyLane_on l _, ?_⟩
  rw [State.lane_on_same, Lane.sbCount, if_neg (by simp), Lane.answer_isOpen, Lane.answer_pend, Lane.answer_ds2,
    Lane.answer_flog]
  have closed := Lane.sbClose_closed hopen 1
  exact ⟨closed.isOpen, closed.pend, closed.unlock, closed.last⟩

end

/-! ### SESSION_TIMEOUT, CAN_BUS_OFF and MONITOR_REST (R364) -/

section
variable {s : State} {l : LaneId}

theorem State.on_sbClose_of_open (h : (s.lane l).sb.isOpen = true) (cause : Nat) :
    ∃ t, (.next (s.on l fun L => L.sbClose cause) : Host.Outcome State Fault Refusal) = .next t ∧ OnlyLane l s t ∧
      (t.lane l).sb.isOpen = false ∧ (t.lane l).sb.pend = none ∧ (t.lane l).ds2.unlockSb = false ∧
      (t.lane l).flog.last = 0x9104 ∧ (t.lane l).pwr = (s.lane l).pwr ∧ (t.lane l).vote = (s.lane l).vote := by
  refine ⟨_, rfl, s.onlyLane_on l _, ?_⟩
  rw [State.lane_on_same]
  obtain ⟨hopen, hpend, hunlock, hlast, hpwr, hvote⟩ := Lane.sbClose_closed h cause
  exact ⟨hopen, hpend, hunlock, hlast, hpwr, hvote⟩

theorem State.on_sbClose_of_closed (h : (s.lane l).sb.isOpen = false) (cause : Nat) :
    (.next (s.on l fun L => L.sbClose cause) : Host.Outcome State Fault Refusal) = .next s :=
  congrArg _ (s.on_id l (Lane.sbClose_of_closed h cause))

theorem exec_monitorRest_of_standby (h : (s.lane l).pwr.state = .standby) :
    ∃ t, exec (.monitorRest l) s = .next t ∧ OnlyLane l s t ∧ (t.lane l).pwr.monUp = false ∧
      (t.lane l).safe.sealOpen = false ∧ (t.lane l).sb.isOpen = false ∧ (t.lane l).pwr.state = .standby := by
  refine ⟨_, rfl, s.onlyLane_on l _, ?_⟩
  rw [State.lane_on_same, if_pos h]
  exact ⟨rfl, rfl, (s.lane l).sbClose_isOpen 6, by simpa using h⟩

end

/-- Settles O41: each row of the session, by whether the side-band is served and a session is open. -/
theorem sideBandSession : Obligations.SideBandSession := by
  refine ⟨fun s l hreach hstate => ⟨exec_sbChallenge_draws hreach hstate, fun c data hc hopen =>
      ⟨fun hkey hdata => exec_sbResponse_opens hreach hstate hc hopen hkey hdata,
        exec_sbResponse_fails hreach hstate hc hopen⟩,
      fun idx sub data hidx => ⟨exec_sidebandValueDownload_held hreach hstate hidx,
        exec_sidebandValueDownload_refused hreach hstate hidx⟩,
      fun hopen => ⟨fun p data e hp hidx hsub herr hdata =>
          exec_sbTag_verified hreach hstate hopen hp hidx hsub herr hdata e,
        fun p data e hp hdata => exec_sbTag_fails hreach hstate hopen hp hdata e,
        fun hp data e => exec_sbTag_of_idle hreach hstate hopen hp data e,
        fun m tid h => exec_sbClose_of_open hopen h⟩,
      fun h data e => exec_sbTag_of_closed hreach hstate h data e⟩,
    fun s l => ⟨fun h => ⟨State.on_sbClose_of_open h 2, State.on_sbClose_of_open h 4⟩,
      fun h => ⟨State.on_sbClose_of_closed h 2, State.on_sbClose_of_closed h 4⟩, exec_monitorRest_of_standby,
      fun h => congrArg Host.Outcome.next (s.on_id l (if_neg h))⟩⟩

end Sys2Proof.Machine
end

section
/-! PROOFS, images, stored sets and seen flags (O42). -/
namespace Sys2Proof.Machine

/-! ### Lists with an entry replaced -/

@[simp] theorem length_listSet {α : Type} (l : List α) (n : Nat) (a : α) : (listSet l n a).length = l.length := by
  induction l generalizing n with
  | nil => rfl
  | cons h t ih => cases n <;> simp [listSet, ih]

theorem getElem?_listSet_same {α : Type} {l : List α} {n : Nat} (h : n < l.length) (a : α) :
    (listSet l n a)[n]? = some a := by
  induction l generalizing n with
  | nil => cases h
  | cons _ t ih =>
    cases n with
    | zero => rfl
    | succ n => exact ih (Nat.lt_of_succ_lt_succ h)

theorem getElem?_listSet_ne {α : Type} (l : List α) {n k : Nat} (h : k ≠ n) (a : α) : (listSet l n a)[k]? = l[k]? := by
  induction l generalizing n k with
  | nil => rfl
  | cons _ t ih =>
    cases n with
    | zero =>
      cases k with
      | zero => exact absurd rfl h
      | succ k => rfl
    | succ n =>
      cases k with
      | zero => rfl
      | succ k => exact ih fun hk => h (congrArg _ hk)

/-! ### The staged images -/

theorem Lane.setStage_stage_same {L : Lane} (hlen : L.dict.staging.length = 5) (k : Fin 5) (g : Staging) :
    (L.setStage k g).dict.stage k = g := by
  rw [Dict.stage, Lane.setStage, getElem?_listSet_same (by omega)]
  rfl

theorem Lane.setStage_stage_ne (L : Lane) {j k : Fin 5} (h : j ≠ k) (g : Staging) :
    (L.setStage k g).dict.stage j = L.dict.stage j := by
  rw [Dict.stage, Lane.setStage, getElem?_listSet_ne _ fun hv => h (Fin.ext hv)]
  rfl

@[simp] theorem Lane.answer_stage (L : Lane) (m : Master) (tid idx sub : Nat) (code : W32) (data : List Byte) (k : Fin 5) :
    (L.answer m tid idx sub code data).dict.stage k = L.dict.stage k := by
  rw [Dict.stage, Lane.answer_staging]
  rfl

/-! ### PROGRAM_STAGE (R377) -/

section
variable {s : State} {l : LaneId} {m : Master} {tid : Nat} {k : Fin 5} {img : List Byte}

/-- A complete image, sent in one message, passes the checks of its order. -/
theorem exec_programStage_of_one {f : Lane → Lane} (hreach : (s.lane l).reaches m = true)
    (hbuf : (s.lane l).dict.wbufs = [])
    (herr : ∀ e, (s.lane l).writeErr m 0x1F50 (k.val + 1) [] true false = some e →
      f (s.lane l) = (s.lane l).answer m tid 0x1F50 (k.val + 1) e)
    (hok : (s.lane l).writeErr m 0x1F50 (k.val + 1) [] true false = none →
      f (s.lane l) = if imageMax k < img.length then (s.lane l).answer m tid 0x1F50 (k.val + 1) eAbove
        else (((s.lane l).sbCount m 0x1F50).setStage k
          { (s.lane l).dict.stage k with image := some img, installed := false }).answer m tid 0x1F50 (k.val + 1) 0) :
    exec (.programStage l m tid k img.length img) s = .next (s.on l f) := by
  refine congrArg Host.Outcome.next (s.on_congr l ?_)
  have nobuf : (s.lane l).dict.bufOf m tid = none := by simp [Dict.bufOf, hbuf]
  have whole : ({ s.lane l with dict := (s.lane l).dict.dropBuf m tid } : Lane) = s.lane l := by
    rw [Dict.dropBuf_of_nil hbuf]
  rw [if_neg (by simp [hreach]), nobuf]
  simp only [Option.filter_none, Option.map_none, Option.getD_none, List.nil_append, Option.any_none]
  rw [if_neg (by simp), whole]
  cases hw : (s.lane l).writeErr m 0x1F50 (k.val + 1) [] true false with
  | some e => exact (herr e hw).symm
  | none =>
    rw [hok hw]
    simp only [Lane.sbCount_dict]

theorem exec_programStage_of_err {e : W32} (hreach : (s.lane l).reaches m = true) (hbuf : (s.lane l).dict.wbufs = [])
    (h : (s.lane l).writeErr m 0x1F50 (k.val + 1) [] true false = some e) :
    exec (.programStage l m tid k img.length img) s = .next (s.on l fun L => L.answer m tid 0x1F50 (k.val + 1) e) :=
  exec_programStage_of_one hreach hbuf (fun e' h' => by rw [h] at h'; cases h'; rfl) (fun h' => by rw [h] at h'; cases h')

theorem exec_programStage_of_ok (hreach : (s.lane l).reaches m = true) (hbuf : (s.lane l).dict.wbufs = [])
    (h : (s.lane l).writeErr m 0x1F50 (k.val + 1) [] true false = none) :
    exec (.programStage l m tid k img.length img) s = .next (s.on l fun L =>
      if imageMax k < img.length then L.answer m tid 0x1F50 (k.val + 1) eAbove
      else ((L.sbCount m 0x1F50).setStage k { L.dict.stage k with image := some img, installed := false }).answer m tid
        0x1F50 (k.val + 1) 0) :=
  exec_programStage_of_one hreach hbuf (fun e' h' => by rw [h] at h'; cases h') (fun _ => rfl)

theorem exec_programStage_unordered {total : Nat} (hreach : (s.lane l).reaches m = true)
    (hlen : img.length ≠ total) (hm : m = .host ∨ m = .sideBand) (hbuf : (s.lane l).dict.wbufs = []) :
    exec (.programStage l m tid k total img) s = .next (s.on l fun L => L.segFail m tid 0x1F50 (k.val + 1) eOrder) := by
  refine congrArg Host.Outcome.next (s.on_congr l ?_)
  have nobuf : (s.lane l).dict.bufOf m tid = none := by simp [Dict.bufOf, hbuf]
  rw [if_neg (by simp [hreach]), nobuf]
  exact if_pos ⟨by rcases hm with rfl | rfl <;> decide, by rcases hm with rfl | rfl <;> decide, .inl hlen⟩

/-! ### PROGRAM_INSTALL (R377, R424) -/

theorem exec_programInstall_of_err {e : W32} (h : (s.lane l).writeErr m 0x1F51 (k.val + 1) [1] true false = some e) :
    exec (.programInstall l m tid k) s = .next (s.on l fun L => L.answer m tid 0x1F51 (k.val + 1) e) :=
  congrArg Host.Outcome.next (s.on_congr l (by rw [h]))

theorem exec_programInstall_of_busy (h : (s.lane l).writeErr m 0x1F51 (k.val + 1) [1] true false = none)
    (hbusy : (s.lane l).dict.progRes.busy m = true ∨ ((s.lane l).dict.stage k).busy.isSome = true) :
    exec (.programInstall l m tid k) s = .next (s.on l fun L => L.answer m tid 0x1F51 (k.val + 1) 0x0D000001) :=
  congrArg Host.Outcome.next (s.on_congr l (by rw [h]; exact if_pos (by simpa using hbusy)))

/-- The installation that an accepted write starts: its result pending, the write answered. -/
def Lane.installing (L : Lane) (m : Master) (tid : Nat) (k : Fin 5) : Lane :=
  ((L.sbCount m 0x1F51).onResult .prog fun r => r.start m).answer m tid 0x1F51 (k.val + 1) 0

theorem exec_programInstall_of_ok (h : (s.lane l).writeErr m 0x1F51 (k.val + 1) [1] true false = none)
    (hfree : (s.lane l).dict.progRes.busy m = false) (hidle : ((s.lane l).dict.stage k).busy = none) :
    exec (.programInstall l m tid k) s = .next (s.on l fun L =>
      let M := L.installing m tid k
      if L.installCheck k = 0 then M.setStage k { M.dict.stage k with busy := (M.dict.stage k).image, busyBy := m }
      else (M.onResult .prog fun r => r.finish m (BitVec.ofNat 12 (L.installCheck k * 256))).raise
        (0x9040 + L.installCheck k) 0) :=
  congrArg Host.Outcome.next (s.on_congr l (by rw [h]; exact if_neg (by simp [hfree, hidle])))

theorem Lane.installing_dict (L : Lane) (m : Master) (tid : Nat) (k : Fin 5) :
    (L.installing m tid k).dict.progRes = L.dict.progRes.start m ∧ (L.installing m tid k).dict.staging = L.dict.staging ∧
    (L.installing m tid k).dict.sets = L.dict.sets ∧ (L.installing m tid k).sec = L.sec := by
  rw [Lane.installing, Lane.answer_progRes, Lane.answer_staging, Lane.answer_sets, Lane.answer_sec, Lane.onResult]
  exact ⟨by rw [Lane.sbCount_dict], by rw [Lane.sbCount_dict], by rw [Lane.sbCount_dict], Lane.sbCount_sec ..⟩

/-! ### PROGRAM_INSTALL_COMPLETE (R425) -/

/-- An installation that is complete: the bank or the set, then its place in the tables. -/
theorem exec_programInstallComplete_of_busy {i : List Byte} (h : ((s.lane l).dict.stage k).busy = some i) :
    exec (.programInstallComplete l k) s = .next (s.on l fun L =>
      ((((L.installed k i).setStage k { L.dict.stage k with
          busy := none, id := BitVec.ofNat 32 (crc32 i)
          installed := (L.dict.stage k).installed || (L.dict.stage k).image == some i }).onResult .prog
        fun r => r.finish (L.dict.stage k).busyBy 0).raise 0x9046 0)) :=
  congrArg Host.Outcome.next (s.on_congr l (by simp only [h]))

theorem exec_programInstallComplete_of_none (h : ((s.lane l).dict.stage k).busy = none) :
    exec (.programInstallComplete l k) s = .next s :=
  congrArg Host.Outcome.next (s.on_id l (by simp only [h]))

/-- A firmware image enters the inactive bank; the dictionary stays. -/
theorem Lane.installed_firmware (L : Lane) {k : Fin 5} (hk : k = 0) (i : List Byte) :
    (L.sec.active = 0 → (L.installed k i).sec = { L.sec with
      bank1 := { ok := true, version := BitVec.ofNat 32 (imgField i 8 4), floor := BitVec.ofNat 32 (imgField i 12 4)
                 crc := BitVec.ofNat 32 (crc32 i) }
      active := 1 }) ∧
    (L.sec.active ≠ 0 → (L.installed k i).sec = { L.sec with
      bank0 := { ok := true, version := BitVec.ofNat 32 (imgField i 8 4), floor := BitVec.ofNat 32 (imgField i 12 4)
                 crc := BitVec.ofNat 32 (crc32 i) }
      active := 0 }) ∧ (L.installed k i).dict = L.dict := by
  subst hk
  unfold Lane.installed
  simp only [Fin.val_zero, if_true]
  split
  next h => exact ⟨fun _ => rfl, fun h' => absurd h h', rfl⟩
  next h => exact ⟨fun h' => absurd h' h, fun _ => rfl, rfl⟩

/-- A set image enters its set; the security group stays. -/
theorem Lane.installed_set (L : Lane) {k : Fin 5} (hk : k ≠ 0) (i : List Byte) :
    (L.installed k i).sec = L.sec ∧ (L.installed k i).dict = { L.dict with
      sets := listSet L.dict.sets (k.val - 1)
        { vals := L.imgVals i, crc := BitVec.ofNat 32 (imgField i 28 4), intact := true } } := by
  unfold Lane.installed
  rw [if_neg fun hv : k.val = 0 => hk (Fin.ext hv)]
  dsimp only
  split
  · exact ⟨rfl, rfl⟩
  · exact ⟨rfl, rfl⟩

/-- Whatever is installed, the staged images, the result and the settings stay. -/
theorem Lane.installed_rest (L : Lane) (k : Fin 5) (i : List Byte) :
    (L.installed k i).dict.staging = L.dict.staging ∧ (L.installed k i).dict.progRes = L.dict.progRes ∧
    (L.installed k i).dict.working = L.dict.working := by
  by_cases hk : k = 0
  · rw [(L.installed_firmware hk i).2.2]
    exact ⟨rfl, rfl, rfl⟩
  · rw [(L.installed_set hk i).2]
    exact ⟨rfl, rfl, rfl⟩

end

/-! ### Stored sets (R384, R406) -/

@[simp] theorem Lane.cfgVals_sbCount (L : Lane) (m : Master) (x : Nat) : (L.sbCount m x).cfgVals = L.cfgVals := by
  unfold Lane.sbCount
  split <;> rfl

@[simp] theorem Lane.setCrc_sbCount (L : Lane) (m : Master) (x : Nat) : (L.sbCount m x).setCrc = L.setCrc := by
  unfold Lane.sbCount
  split <;> rfl

/-- The set that the working values make. -/
def Lane.workingSet (L : Lane) : StoredSet := { vals := L.cfgVals, crc := BitVec.ofNat 32 L.setCrc, intact := true }

/-- Of the dictionary group, a stored set changes the sets. -/
theorem Lane.storeSet_dict (L : Lane) (n : Nat) :
    (L.storeSet n).dict = { L.dict with sets := listSet L.dict.sets n L.workingSet } := by
  unfold Lane.storeSet
  dsimp only
  split <;> rfl

theorem ofBytes_fin4 (n : Fin 4) : ofBytes [BitVec.ofNat 8 n.val] = n.val := by
  fin_cases n <;> rfl

/-! ### Flags (R382) -/

/-- A bit falls when it is written 1 and has no event in the cycle. -/
theorem getLsbD_w1cMask {w : Nat} (seen v now : BitVec w) (i : Nat) :
    (seen &&& w1cMask v now).getLsbD i = (seen.getLsbD i && !(v.getLsbD i && !now.getLsbD i)) := by
  by_cases hi : i < w
  · simp [w1cMask, hi]
  · simp [BitVec.getLsbD_of_ge _ _ (Nat.le_of_not_lt hi)]

/-! ### The rows -/

section
variable {s : State} {l : LaneId} {m : Master} {tid : Nat} {k : Fin 5}

theorem exec_programStage_staged {img : List Byte} (hreach : (s.lane l).reaches m = true)
    (hbuf : (s.lane l).dict.wbufs = []) (h : (s.lane l).writeErr m 0x1F50 (k.val + 1) [] true false = none)
    (hsize : img.length ≤ imageMax k) (hlen : (s.lane l).dict.staging.length = 5) :
    ∃ t, exec (.programStage l m tid k img.length img) s = .next t ∧ OnlyLane l s t ∧
      ((t.lane l).dict.stage k).image = some img ∧ ((t.lane l).dict.stage k).installed = false ∧
      (∀ j, j ≠ k → (t.lane l).dict.stage j = (s.lane l).dict.stage j) ∧
      (t.lane l).dict.sets = (s.lane l).dict.sets ∧ (t.lane l).sec = (s.lane l).sec := by
  refine ⟨_, exec_programStage_of_ok hreach hbuf h, s.onlyLane_on l _, ?_⟩
  rw [State.lane_on_same, if_neg (Nat.not_lt.2 hsize)]
  simp only [Lane.answer_stage, Lane.answer_sets, Lane.answer_sec]
  rw [Lane.setStage_stage_same (by rw [Lane.sbCount_dict]; exact hlen)]
  refine ⟨rfl, rfl, fun j hj => ?_, ?_, Lane.sbCount_sec ..⟩
  · rw [Lane.setStage_stage_ne _ hj, Lane.sbCount_dict]
  · rw [Lane.setStage, Lane.sbCount_dict]

theorem exec_programStage_oversize {img : List Byte} (hreach : (s.lane l).reaches m = true)
    (hbuf : (s.lane l).dict.wbufs = []) (h : (s.lane l).writeErr m 0x1F50 (k.val + 1) [] true false = none)
    (hsize : imageMax k < img.length) :
    ∃ t, exec (.programStage l m tid k img.length img) s = .next t ∧ OnlyLane l s t ∧
      (t.lane l).dict.staging = (s.lane l).dict.staging ∧
      (∃ r, (t.lane l).dict.resp = some r ∧ r.code = 0x06090031) := by
  refine ⟨_, exec_programStage_of_ok hreach hbuf h, s.onlyLane_on l _, ?_⟩
  rw [State.lane_on_same, if_pos hsize]
  exact ⟨Lane.answer_staging .., _, Lane.answer_resp hreach .., rfl⟩

theorem exec_programInstall_runs (h : (s.lane l).writeErr m 0x1F51 (k.val + 1) [1] true false = none)
    (hfree : (s.lane l).dict.progRes.busy m = false) (hidle : ((s.lane l).dict.stage k).busy = none)
    (hlen : (s.lane l).dict.staging.length = 5) (hcheck : (s.lane l).installCheck k = 0) :
    ∃ t, exec (.programInstall l m tid k) s = .next t ∧ OnlyLane l s t ∧
      ((t.lane l).dict.stage k).busy = ((s.lane l).dict.stage k).image ∧ ((t.lane l).dict.stage k).busyBy = m ∧
      (t.lane l).dict.progRes = (s.lane l).dict.progRes.start m ∧ (t.lane l).sec = (s.lane l).sec ∧
      (t.lane l).dict.sets = (s.lane l).dict.sets := by
  obtain ⟨hres, hstaging, hsets, hsec⟩ := (s.lane l).installing_dict m tid k
  refine ⟨_, exec_programInstall_of_ok h hfree hidle, s.onlyLane_on l _, ?_⟩
  rw [State.lane_on_same, if_pos hcheck, Lane.setStage_stage_same (by rw [hstaging]; exact hlen)]
  refine ⟨?_, rfl, hres, hsec, hsets⟩
  rw [Dict.stage, hstaging]
  rfl

theorem exec_programInstall_fails (h : (s.lane l).writeErr m 0x1F51 (k.val + 1) [1] true false = none)
    (hfree : (s.lane l).dict.progRes.busy m = false) (hidle : ((s.lane l).dict.stage k).busy = none)
    {o : Nat} (hcheck : (s.lane l).installCheck k = o) (ho : o ≠ 0) :
    ∃ t, exec (.programInstall l m tid k) s = .next t ∧ OnlyLane l s t ∧
      (t.lane l).dict.progRes = ((s.lane l).dict.progRes.start m).finish m (BitVec.ofNat 12 (o * 256)) ∧
      (t.lane l).flog.last = BitVec.ofNat 16 (0x9040 + o) ∧ (t.lane l).dict.staging = (s.lane l).dict.staging ∧
      (t.lane l).sec = (s.lane l).sec ∧ (t.lane l).dict.sets = (s.lane l).dict.sets := by
  subst hcheck
  obtain ⟨hres, hstaging, hsets, hsec⟩ := (s.lane l).installing_dict m tid k
  refine ⟨_, exec_programInstall_of_ok h hfree hidle, s.onlyLane_on l _, ?_⟩
  rw [State.lane_on_same, if_neg ho, Lane.raise_dict, Lane.raise_sec, Lane.raise_last]
  exact ⟨congrArg (fun r : Res3 => r.finish m _) hres, rfl, hstaging, hsec, hsets⟩

theorem exec_programInstallComplete_installs {i : List Byte} (h : ((s.lane l).dict.stage k).busy = some i)
    (hlen : (s.lane l).dict.staging.length = 5) (hsets : (s.lane l).dict.sets.length = 4) :
    ∃ t, exec (.programInstallComplete l k) s = .next t ∧ OnlyLane l s t ∧
      (k = 0 → (s.lane l).sec.active = 0 → (t.lane l).sec.active = 1 ∧
        (t.lane l).sec.bank1 = { ok := true, version := BitVec.ofNat 32 (imgField i 8 4),
                                 floor := BitVec.ofNat 32 (imgField i 12 4), crc := BitVec.ofNat 32 (crc32 i) } ∧
        (t.lane l).sec.bank0 = (s.lane l).sec.bank0) ∧
      (k = 0 → (s.lane l).sec.active ≠ 0 → (t.lane l).sec.active = 0 ∧
        (t.lane l).sec.bank0 = { ok := true, version := BitVec.ofNat 32 (imgField i 8 4),
                                 floor := BitVec.ofNat 32 (imgField i 12 4), crc := BitVec.ofNat 32 (crc32 i) } ∧
        (t.lane l).sec.bank1 = (s.lane l).sec.bank1) ∧
      (k ≠ 0 → (t.lane l).sec = (s.lane l).sec ∧
        (t.lane l).dict.sets[k.val - 1]? = some { vals := (s.lane l).imgVals i,
                                                  crc := BitVec.ofNat 32 (imgField i 28 4), intact := true }) ∧
      ((t.lane l).dict.stage k).busy = none ∧ ((t.lane l).dict.stage k).id = BitVec.ofNat 32 (crc32 i) ∧
      (t.lane l).flog.last = 0x9046 ∧
      (t.lane l).dict.progRes = (s.lane l).dict.progRes.finish ((s.lane l).dict.stage k).busyBy 0 ∧
      (t.lane l).dict.working = (s.lane l).dict.working := by
  obtain ⟨hstaging, hres, hworking⟩ := (s.lane l).installed_rest k i
  refine ⟨_, exec_programInstallComplete_of_busy h, s.onlyLane_on l _, ?_⟩
  rw [State.lane_on_same, Lane.raise_sec, Lane.raise_dict, Lane.raise_last]
  generalize hg : ({ (s.lane l).dict.stage k with
    busy := none, id := BitVec.ofNat 32 (crc32 i)
    installed := ((s.lane l).dict.stage k).installed || ((s.lane l).dict.stage k).image == some i } : Staging) = g
  have staged := Lane.setStage_stage_same (L := (s.lane l).installed k i) (by rw [hstaging]; exact hlen) k g
  refine ⟨fun hk hact => ?_, fun hk hact => ?_, fun hk => ?_, ?_, ?_, rfl, ?_, hworking⟩
  · have hsec : ((s.lane l).installed k i).sec = _ := ((s.lane l).installed_firmware hk i).1 hact
    exact ⟨congrArg Sec.active hsec, congrArg Sec.bank1 hsec, (congrArg Sec.bank0 hsec).trans rfl⟩
  · have hsec : ((s.lane l).installed k i).sec = _ := ((s.lane l).installed_firmware hk i).2.1 hact
    exact ⟨congrArg Sec.active hsec, congrArg Sec.bank0 hsec, (congrArg Sec.bank1 hsec).trans rfl⟩
  · obtain ⟨hsec, hdict⟩ := (s.lane l).installed_set hk i
    refine ⟨hsec, ?_⟩
    show ((s.lane l).installed k i).dict.sets[k.val - 1]? = _
    rw [hdict]
    exact getElem?_listSet_same (by have := k.isLt; omega) _
  · exact (congrArg Staging.busy staged).trans (by rw [← hg])
  · exact (congrArg Staging.id staged).trans (by rw [← hg])
  · exact congrArg (fun r : Res3 => r.finish ((s.lane l).dict.stage k).busyBy 0) hres

theorem exec_programDiscard_of_ok (h : (s.lane l).writeErr m 0x1F51 (k.val + 1) [3] true false = none)
    (hlen : (s.lane l).dict.staging.length = 5) :
    ∃ t, exec (.programDiscard l m tid k) s = .next t ∧ OnlyLane l s t ∧
      ((t.lane l).dict.stage k).image = (if ((s.lane l).dict.stage k).installed then
        ((s.lane l).dict.stage k).image else none) ∧
      (∀ j, j ≠ k → (t.lane l).dict.stage j = (s.lane l).dict.stage j) := by
  refine ⟨_, State.next_write_of_ok (present := fun _ => true) h tid _, s.onlyLane_on l _, ?_⟩
  rw [State.lane_on_same]
  simp only [Lane.answer_stage, Lane.sbCount_dict]
  split
  · exact ⟨by rw [Lane.sbCount_dict], fun j _ => by rw [Lane.sbCount_dict]⟩
  · rw [Lane.setStage_stage_same (by rw [Lane.sbCount_dict]; exact hlen)]
    exact ⟨rfl, fun j hj => by rw [Lane.setStage_stage_ne _ hj, Lane.sbCount_dict]⟩

theorem exec_setStore_of_ok (n : Fin 4) (h : (s.lane l).writeErr m 0x2404 5 [BitVec.ofNat 8 n.val] true false = none)
    (hsets : (s.lane l).dict.sets.length = 4) :
    ∃ t, exec (.setStore l m tid [BitVec.ofNat 8 n.val]) s = .next t ∧ OnlyLane l s t ∧
      (t.lane l).dict.sets[n.val]? = some { vals := (s.lane l).cfgVals, crc := BitVec.ofNat 32 (s.lane l).setCrc,
                                            intact := true } ∧
      (∀ j : Nat, j ≠ n.val → (t.lane l).dict.sets[j]? = (s.lane l).dict.sets[j]?) ∧
      (t.lane l).dict.working = (s.lane l).dict.working := by
  refine ⟨_, State.next_write_of_ok (present := fun _ => true) h tid _, s.onlyLane_on l _, ?_⟩
  rw [State.lane_on_same, Lane.answer_sets, Lane.answer_working, Lane.storeSet_dict, ofBytes_fin4, Lane.sbCount_dict,
    Lane.workingSet, Lane.cfgVals_sbCount, Lane.setCrc_sbCount]
  exact ⟨getElem?_listSet_same (by have := n.isLt; omega) _, fun j hj => getElem?_listSet_ne _ hj _, rfl⟩

theorem exec_faultSeenClear_of_ok {data : List Byte} (h : (s.lane l).writeErr m 0x2001 3 data true false = none) :
    ∃ t, exec (.faultSeenClear l m tid data) s = .next t ∧ OnlyLane l s t ∧
      (∀ i, (t.lane l).flog.seen.getLsbD i = ((s.lane l).flog.seen.getLsbD i &&
        !((BitVec.ofNat 16 (ofBytes data)).getLsbD i && !(s.lane l).flog.seenNow.getLsbD i))) ∧
      (t.lane l).flog.ring = (s.lane l).flog.ring := by
  refine ⟨_, State.next_write_of_ok (present := fun _ => true) h tid _, s.onlyLane_on l _, ?_⟩
  rw [State.lane_on_same, Lane.answer_flog]
  simp only [Lane.sbCount_flog]
  exact ⟨getLsbD_w1cMask _ _ _, trivial⟩

end

/-- Settles O42: each row by its checks; an image, an installation and a set each in its own table. -/
theorem programsAndSets : Obligations.ProgramsAndSets := by
  intro s l m tid k
  refine ⟨fun img hreach hbuf => ⟨fun h => ⟨fun hsize hlen => exec_programStage_staged hreach hbuf h hsize hlen,
        fun hsize => exec_programStage_oversize hreach hbuf h hsize⟩,
      fun e h => ⟨_, exec_programStage_of_err hreach hbuf h, s.onlyLane_on l _, ?_⟩, fun total hlen hm =>
        ⟨_, exec_programStage_unordered hreach hlen hm hbuf, s.onlyLane_on l _, ?_⟩⟩,
    fun h => ⟨exec_programInstall_of_busy h, fun hfree hidle hlen =>
      ⟨exec_programInstall_runs h hfree hidle hlen, fun o hcheck ho => exec_programInstall_fails h hfree hidle hcheck ho⟩⟩,
    fun e h => exec_programInstall_of_err h, fun i h hlen hsets => exec_programInstallComplete_installs h hlen hsets,
    exec_programInstallComplete_of_none, exec_programDiscard_of_ok,
    fun e h => State.next_write_of_err (present := fun _ => true) h tid _, exec_setStore_of_ok,
    fun data e h => State.next_write_of_err (present := fun _ => true) h tid _,
    fun data h => exec_faultSeenClear_of_ok h,
    fun data e h => State.next_write_of_err (present := fun _ => true) h tid _⟩
  · rw [State.lane_on_same]
    exact ⟨Lane.answer_staging .., _, Lane.answer_resp hreach .., rfl⟩
  · rw [State.lane_on_same, Lane.segFail]
    exact ⟨(Lane.answer_staging ..).trans (Dict.dropBuf_staging ..), _, Lane.answer_resp (by exact hreach) .., rfl⟩

end Sys2Proof.Machine
end

section
/-! PROOFS, safety inputs, test pulses, the safety reset and the seal (O48). -/
namespace Sys2Proof.Machine

/-! ### What the monitor's parts leave of the rest of the lane -/

/-- Lane `M` has kept from `L` its place, settings and clock. -/
structure Lane.MonitorKept (L M : Lane) : Prop where
  id : M.id = L.id
  dict : M.dict = L.dict
  tb : M.tb = L.tb

theorem Lane.MonitorKept.refl (L : Lane) : L.MonitorKept L := ⟨rfl, rfl, rfl⟩

theorem Lane.MonitorKept.trans {L M N : Lane} (h : L.MonitorKept M) (h' : M.MonitorKept N) : L.MonitorKept N :=
  ⟨h'.id.trans h.id, h'.dict.trans h.dict, h'.tb.trans h.tb⟩

theorem Lane.MonitorKept.siMode {L M : Lane} (h : L.MonitorKept M) : M.siMode = L.siMode := by
  funext i
  rw [Lane.siMode, Lane.obj_congr h.id h.dict, Lane.siMode]

theorem Lane.MonitorKept.selects {L M : Lane} (h : L.MonitorKept M) : M.selects = L.selects := by
  funext o i
  rw [Lane.selects, h.siMode, Lane.selects]

theorem Lane.MonitorKept.tpoUsed {L M : Lane} (h : L.MonitorKept M) : M.tpoUsed = L.tpoUsed := by
  funext o
  rw [Lane.tpoUsed, h.selects, Lane.tpoUsed]

theorem Lane.foldl_monitorKept {α : Type} {f : Lane → α → Lane} (h : ∀ (M : Lane) x, M.MonitorKept (f M x)) (l : List α)
    (L : Lane) : L.MonitorKept (l.foldl f L) :=
  List.foldlRecOn l f (motive := L.MonitorKept) (.refl L) fun M hM x _ => hM.trans (h M x)

theorem Lane.latchTp_monitorKept (L : Lane) (i : Fin 8) (channel : Nat) : L.MonitorKept (L.latchTp i channel) := by
  unfold Lane.latchTp
  dsimp only
  split <;> exact ⟨rfl, rfl, rfl⟩

theorem Lane.readBack_monitorKept (L : Lane) (o ok : Bool) : L.MonitorKept (L.readBack o ok) := by
  unfold Lane.readBack
  dsimp only
  split
  · exact .refl L
  · split
    · exact ⟨rfl, rfl, rfl⟩
    · split
      · refine Lane.MonitorKept.trans ?_ (Lane.foldl_monitorKept (fun M i => ?_) fin8 _)
        · exact ⟨rfl, rfl, rfl⟩
        · split
          · exact M.latchTp_monitorKept i 0
          · exact .refl M
      · exact ⟨rfl, rfl, rfl⟩

theorem Lane.pulseIn_monitorKept (L : Lane) (i : Fin 8) (c1 c2 : Bool) : L.MonitorKept (L.pulseIn i c1 c2) := by
  have counted (x : SafeIn) : L.MonitorKept (L.setIn i x) := ⟨rfl, rfl, rfl⟩
  unfold Lane.pulseIn
  dsimp only
  split
  · exact (counted _).trans (Lane.latchTp_monitorKept ..)
  · split
    · exact (counted _).trans (Lane.latchTp_monitorKept ..)
    · exact counted _

theorem Lane.sampleSrst_monitorKept (L : Lane) (lv : Bool) : L.MonitorKept (L.sampleSrst lv) := by
  unfold Lane.sampleSrst
  dsimp only
  (repeat' split) <;> exact ⟨rfl, rfl, rfl⟩

@[simp] theorem Lane.sampleSrst_inp (L : Lane) (lv : Bool) : (L.sampleSrst lv).safe.inp = L.safe.inp := by
  unfold Lane.sampleSrst
  dsimp only
  (repeat' split) <;> rfl

/-! ### Inputs -/

@[simp] theorem Lane.setIn_inp_same (L : Lane) (i : Fin 8) (x : SafeIn) : (L.setIn i x).safe.inp.get i = x :=
  Oct.get_set_same ..

theorem Lane.setIn_inp_ne (L : Lane) {i j : Fin 8} (h : j ≠ i) (x : SafeIn) :
    (L.setIn i x).safe.inp.get j = L.safe.inp.get j := Oct.get_set_ne _ _ h

/-- Input `y` is `x`, or has its test-pulse fault latched besides. -/
def SafeIn.Latched (x y : SafeIn) : Prop := y = x ∨ y = { x with tp := true }

theorem SafeIn.Latched.trans {x y z : SafeIn} (h : x.Latched y) (h' : y.Latched z) : x.Latched z := by
  obtain rfl | rfl := h
  · exact h'
  · obtain rfl | rfl := h'
    · exact .inr rfl
    · exact .inr rfl

theorem Lane.latchTp_inp_same (L : Lane) (i : Fin 8) (channel : Nat) :
    (L.latchTp i channel).safe.inp.get i = { L.safe.inp.get i with tp := true } := by
  unfold Lane.latchTp
  dsimp only
  split
  next h => rw [← h]
  · exact L.setIn_inp_same i _

theorem Lane.latchTp_inp_ne (L : Lane) {i j : Fin 8} (h : j ≠ i) (channel : Nat) :
    (L.latchTp i channel).safe.inp.get j = L.safe.inp.get j := by
  unfold Lane.latchTp
  dsimp only
  split
  · rfl
  · exact L.setIn_inp_ne h _

theorem Lane.latchTp_latched (L : Lane) (i j : Fin 8) (channel : Nat) :
    (L.safe.inp.get j).Latched ((L.latchTp i channel).safe.inp.get j) := by
  by_cases h : j = i
  · subst h; exact .inr (L.latchTp_inp_same j channel)
  · exact .inl (L.latchTp_inp_ne h channel)

/-- The inputs that select an output latch one after the other; the others stay as they are. -/
theorem Lane.foldl_latchTp_latched (K : Lane) (o : Bool) (i : Fin 8) :
    (K.safe.inp.get i).Latched
      ((fin8.foldl (fun J i => if J.selects o i then J.latchTp i 0 else J) K).safe.inp.get i) ∧
    (K.selects o i = false →
      (fin8.foldl (fun J i => if J.selects o i then J.latchTp i 0 else J) K).safe.inp.get i = K.safe.inp.get i) := by
  refine (List.foldlRecOn fin8 _ (motive := fun J : Lane => K.MonitorKept J ∧
    (K.safe.inp.get i).Latched (J.safe.inp.get i) ∧ (K.selects o i = false → J.safe.inp.get i = K.safe.inp.get i))
    ⟨.refl K, .inl rfl, fun _ => rfl⟩ fun J hJ j _ => ?_).2
  obtain ⟨kept, latched, unselected⟩ := hJ
  split
  next hsel =>
    refine ⟨kept.trans (J.latchTp_monitorKept j 0), latched.trans (J.latchTp_latched j i 0), fun h => ?_⟩
    have hne : i ≠ j := by rintro rfl; rw [kept.selects, h] at hsel; cases hsel
    exact (J.latchTp_inp_ne hne 0).trans (unselected h)
  · exact ⟨kept, latched, unselected⟩

@[simp] theorem Safe.setTpo_inp (x : Safe) (o : Bool) (t : Tpo) : (x.setTpo o t).inp = x.inp := by
  unfold Safe.setTpo; split <;> rfl

/-- A read-back latches inputs at most, and only those that select the output. -/
theorem Lane.readBack_latched (L : Lane) (o ok : Bool) (i : Fin 8) :
    (L.safe.inp.get i).Latched ((L.readBack o ok).safe.inp.get i) ∧
    (L.selects o i = false → (L.readBack o ok).safe.inp.get i = L.safe.inp.get i) := by
  have same {M : Lane} (h : M.safe.inp = L.safe.inp) : (L.safe.inp.get i).Latched (M.safe.inp.get i) ∧
      (L.selects o i = false → M.safe.inp.get i = L.safe.inp.get i) := by rw [h]; exact ⟨.inl rfl, fun _ => rfl⟩
  unfold Lane.readBack
  dsimp only
  split
  · exact same rfl
  · split
    · exact same (Safe.setTpo_inp ..)
    · split
      · generalize hK : Lane.raise _ _ _ = K
        have inpK : K.safe.inp = L.safe.inp := by
          rw [← hK, Lane.raise_safe]
          exact (Safe.setTpo_inp ..).trans (Safe.setTpo_inp ..)
        have keptK : L.MonitorKept K := by rw [← hK]; exact ⟨rfl, rfl, rfl⟩
        rw [← inpK, ← keptK.selects]
        exact K.foldl_latchTp_latched o i
      · exact same (Safe.setTpo_inp ..)

/-! ### SAFETY_SAMPLE -/

/-- The lane with the samples of its inputs taken in (R390). -/
def Lane.inputsSampled (L : Lane) (n : Nat) (p : SafetyPins) : Lane :=
  let M := (L.advance (n * 250000)).tpoRest
  { M with safe := { M.safe with
      inp := Oct.ofFn fun i => ((M.safe.inp.get i).note (n * 250000)).sample (M.siMode i) (p.ch1.get i) (p.ch2.get i) } }

theorem Lane.sample_of_sampling {L : Lane} (h : L.sampling = true) (n : Nat) (p : SafetyPins) :
    L.sample n p = ((((L.inputsSampled n p).readBack false p.back0).readBack true p.back1).sampleSrst p.srst).sampleSeal
      p.seal1 p.seal2 := if_pos h

theorem Lane.inputsSampled_monitorKept (L : Lane) (n : Nat) (p : SafetyPins) :
    (L.advance (n * 250000)).MonitorKept (L.inputsSampled n p) := ⟨rfl, rfl, rfl⟩

theorem Lane.sampleSeal_monitorKept (L : Lane) (a b : Bool) : L.MonitorKept (L.sampleSeal a b) := ⟨rfl, rfl, rfl⟩

@[simp] theorem Lane.sampleSeal_inp (L : Lane) (a b : Bool) : (L.sampleSeal a b).safe.inp = L.safe.inp := rfl

theorem Lane.inputsSampled_inp (L : Lane) (n : Nat) (p : SafetyPins) (i : Fin 8) :
    (L.inputsSampled n p).safe.inp.get i =
      ((L.safe.inp.get i).note (n * 250000)).sample (L.siMode i) (p.ch1.get i) (p.ch2.get i) := by
  have hmode : (L.advance (n * 250000)).tpoRest.siMode i = L.siMode i := L.advance_obj ..
  have hinp : (L.advance (n * 250000)).tpoRest.safe.inp = L.safe.inp :=
    congrArg Safe.inp (a₁ := (L.advance (n * 250000)).safe) (L.advance_safe _)
  rw [Lane.inputsSampled, Oct.get_ofFn, hmode, hinp]

/-- A sample keeps the lane's place, settings and clock, the clock advanced to the sample. -/
theorem Lane.sample_monitorKept {L : Lane} (h : L.sampling = true) (n : Nat) (p : SafetyPins) :
    (L.advance (n * 250000)).MonitorKept (L.sample n p) := by
  rw [Lane.sample_of_sampling h]
  exact (L.inputsSampled_monitorKept n p).trans <| (Lane.readBack_monitorKept _ false p.back0).trans <|
    (Lane.readBack_monitorKept _ true p.back1).trans <| (Lane.sampleSrst_monitorKept _ p.srst).trans <|
    Lane.sampleSeal_monitorKept _ _ _

/-- The sample of an input enters the lane, its test-pulse fault latched besides where a read-back asks so. -/
theorem Lane.sample_latched {L : Lane} (h : L.sampling = true) (n : Nat) (p : SafetyPins) (i : Fin 8) :
    (((L.safe.inp.get i).note (n * 250000)).sample (L.siMode i) (p.ch1.get i) (p.ch2.get i)).Latched
      ((L.sample n p).safe.inp.get i) := by
  rw [Lane.sample_of_sampling h, Lane.sampleSeal_inp, Lane.sampleSrst_inp, ← Lane.inputsSampled_inp]
  exact (Lane.readBack_latched _ false p.back0 i).1.trans (Lane.readBack_latched _ true p.back1 i).1

theorem SafeIn.sample_of_agree (x : SafeIn) {mode : Nat} {c1 c2 v : Bool} (hon : mode % 4 ≠ 0)
    (h : inputState mode c1 c2 = some v) :
    (x.sample mode c1 c2).value = v ∧ (x.sample mode c1 c2).has = true ∧ (x.sample mode c1 c2).dis = none := by
  unfold SafeIn.sample
  simp [hon, h]

theorem SafeIn.sample_of_disagree {x : SafeIn} {mode : Nat} {c1 c2 : Bool} (hon : mode % 4 ≠ 0)
    (h : inputState mode c1 c2 = none) (hmode : x.modeUsed = mode) :
    (x.sample mode c1 c2).value = x.value ∧ (x.sample mode c1 c2).dis = some (x.dis.elim 0 (· + 1)) := by
  unfold SafeIn.sample
  simp [hon, h, hmode]
  cases x.dis <;> rfl

theorem SafeIn.Latched.value {x y : SafeIn} (h : x.Latched y) : y.value = x.value := by
  obtain rfl | rfl := h <;> rfl

theorem SafeIn.Latched.has {x y : SafeIn} (h : x.Latched y) : y.has = x.has := by
  obtain rfl | rfl := h <;> rfl

theorem SafeIn.Latched.dis {x y : SafeIn} (h : x.Latched y) : y.dis = x.dis := by
  obtain rfl | rfl := h <;> rfl

/-- An input whose channels agree takes the value they give. -/
theorem Lane.sample_of_agree {L : Lane} (h : L.sampling = true) (n : Nat) {p : SafetyPins} {i : Fin 8} {v : Bool}
    (hon : L.siMode i % 4 ≠ 0) (hst : inputState (L.siMode i) (p.ch1.get i) (p.ch2.get i) = some v) :
    ((L.sample n p).safe.inp.get i).value = v ∧ ((L.sample n p).safe.inp.get i).has = true ∧
      ((L.sample n p).safe.inp.get i).dis = none := by
  have latched := Lane.sample_latched h n p i
  rw [latched.value, latched.has, latched.dis]
  exact SafeIn.sample_of_agree _ hon hst

/-- A disagreement keeps the value and counts from 0. -/
theorem Lane.sample_of_disagree {L : Lane} (h : L.sampling = true) (n : Nat) {p : SafetyPins} {i : Fin 8}
    (hon : L.siMode i % 4 ≠ 0) (hst : inputState (L.siMode i) (p.ch1.get i) (p.ch2.get i) = none)
    (hmode : (L.safe.inp.get i).modeUsed = L.siMode i) :
    ((L.sample n p).safe.inp.get i).value = (L.safe.inp.get i).value ∧
      ((L.sample n p).safe.inp.get i).dis = some ((L.safe.inp.get i).dis.elim 0 (· + 1)) := by
  have latched := Lane.sample_latched h n p i
  rw [latched.value, latched.dis]
  exact SafeIn.sample_of_disagree (x := (L.safe.inp.get i).note (n * 250000)) hon hst hmode

/-- A sample that does not read open closes the seal. -/
theorem Lane.sampleSeal_of_closed (L : Lane) {a b : Bool} (h : (a && !b) = false) :
    (L.sampleSeal a b).safe.sealOpen = false ∧ (L.sampleSeal a b).safe.openRun = 0 := by
  unfold Lane.sampleSeal
  constructor
  · cases a <;> cases b <;> simp_all
  · simp [h]

theorem Lane.sample_of_closed {L : Lane} (hs : L.sampling = true ∨ (L.pwr.state = .standby ∧ L.pwr.monUp = true))
    (n : Nat) {p : SafetyPins} (h : (p.seal1 && !p.seal2) = false) :
    (L.sample n p).safe.sealOpen = false ∧ (L.sample n p).safe.openRun = 0 := by
  unfold Lane.sample
  split
  · exact Lane.sampleSeal_of_closed _ h
  next hns =>
    rw [if_pos (hs.resolve_left hns)]
    exact L.sampleSeal_of_closed h

theorem Lane.sample_of_off {L : Lane} (h : L.sampling = false) (hst : L.pwr.state ≠ .standby) (n : Nat) (p : SafetyPins) :
    L.sample n p = L := by
  unfold Lane.sample
  rw [if_neg (ne_true_of_eq_false h), if_neg fun hs => hst hs.1]

/-! ### TEST_PULSE and TEST_PULSE_CHECK -/

@[simp] theorem Safe.tpo_setTpo_same (x : Safe) (o : Bool) (t : Tpo) : (x.setTpo o t).tpo o = t := by
  cases o <;> rfl

@[simp] theorem Safe.tpo_setTpo_other (x : Safe) (o : Bool) (t : Tpo) : (x.setTpo o t).tpo (!o) = x.tpo (!o) := by
  cases o <;> rfl

theorem Lane.tpoRest_level (L : Lane) (o : Bool) : (L.tpoRest.safe.tpo o).level = L.tpoUsed o := by
  cases o <;> rfl

/-- The check of one input at the end of a pulse, where it is on the output and on. -/
def Lane.pulseChecked (o : Bool) (c1 c2 : Oct Bool) (J : Lane) (i : Fin 8) : Lane :=
  if J.selects o i && J.siMode i % 4 != 0 then J.pulseIn i (c1.get i) (c2.get i) else J

theorem Lane.pulseIn_inp_ne (L : Lane) {i j : Fin 8} (h : j ≠ i) (c1 c2 : Bool) :
    (L.pulseIn i c1 c2).safe.inp.get j = L.safe.inp.get j := by
  unfold Lane.pulseIn
  dsimp only
  split
  · rw [Lane.latchTp_inp_ne _ h, L.setIn_inp_ne h]
  · split
    · rw [Lane.latchTp_inp_ne _ h, L.setIn_inp_ne h]
    · rw [L.setIn_inp_ne h]

theorem Lane.pulseIn_tp {L : Lane} {i : Fin 8} (h1 : (L.safe.inp.get i).ch1 = true)
    (hrun : 1 ≤ (L.safe.inp.get i).run1) (c2 : Bool) : ((L.pulseIn i true c2).safe.inp.get i).tp = true := by
  have hr : 2 ≤ chanRun (L.safe.inp.get i).run1 (L.safe.inp.get i).ch1 true := by simp [chanRun, h1, hrun]
  unfold Lane.pulseIn
  dsimp only
  rw [if_pos hr, Lane.latchTp_inp_same]

section
variable (o : Bool) (c1 c2 : Oct Bool)

theorem Lane.pulseChecked_monitorKept (J : Lane) (i : Fin 8) : J.MonitorKept (J.pulseChecked o c1 c2 i) := by
  unfold Lane.pulseChecked
  split
  · exact J.pulseIn_monitorKept i _ _
  · exact .refl J

theorem Lane.pulseChecked_inp_ne (J : Lane) {i j : Fin 8} (h : j ≠ i) :
    (J.pulseChecked o c1 c2 i).safe.inp.get j = J.safe.inp.get j := by
  unfold Lane.pulseChecked
  split
  · exact J.pulseIn_inp_ne h _ _
  · rfl

/-- The checks of other inputs leave an input. -/
theorem Lane.foldl_pulseChecked_inp {l : List (Fin 8)} {i : Fin 8} (h : i ∉ l) (K : Lane) :
    (l.foldl (Lane.pulseChecked o c1 c2) K).safe.inp.get i = K.safe.inp.get i :=
  List.foldlRecOn l _ (motive := fun J : Lane => J.safe.inp.get i = K.safe.inp.get i) rfl fun J hJ _ hj =>
    (J.pulseChecked_inp_ne o c1 c2 (ne_of_mem_of_not_mem hj h).symm).trans hJ

/-- An input that does not select the output is not checked. -/
theorem Lane.foldl_pulseChecked_unselected {K : Lane} {i : Fin 8} (h : K.selects o i = false) :
    (fin8.foldl (Lane.pulseChecked o c1 c2) K).safe.inp.get i = K.safe.inp.get i := by
  refine (List.foldlRecOn fin8 _ (motive := fun J : Lane => K.MonitorKept J ∧ J.safe.inp.get i = K.safe.inp.get i)
    ⟨.refl K, rfl⟩ fun J hJ j _ => ⟨hJ.1.trans (J.pulseChecked_monitorKept o c1 c2 j), ?_⟩).2
  by_cases hj : i = j
  · subst hj
    rw [Lane.pulseChecked, hJ.1.selects, h]
    exact hJ.2
  · exact (J.pulseChecked_inp_ne o c1 c2 hj).trans hJ.2

theorem Lane.foldl_pulseChecked_tp {K : Lane} {i : Fin 8} (hsel : K.selects o i = true) (hon : K.siMode i % 4 ≠ 0)
    (h1 : (K.safe.inp.get i).ch1 = true) (hc : c1.get i = true) (hrun : 1 ≤ (K.safe.inp.get i).run1) :
    ((fin8.foldl (Lane.pulseChecked o c1 c2) K).safe.inp.get i).tp = true := by
  obtain ⟨pre, post, hsplit⟩ := List.append_of_mem (mem_fin8 i)
  have hnodup : (pre ++ i :: post).Nodup := by rw [← hsplit]; decide
  have hpre : i ∉ pre := fun h => (List.nodup_append.1 hnodup).2.2 i h i (List.mem_cons_self ..) rfl
  have hpost : i ∉ post := (List.nodup_cons.1 (List.nodup_append.1 hnodup).2.1).1
  rw [hsplit, List.foldl_append, List.foldl_cons, Lane.foldl_pulseChecked_inp o c1 c2 hpost]
  have kept := Lane.foldl_monitorKept (Lane.pulseChecked_monitorKept o c1 c2) pre K
  have hin := Lane.foldl_pulseChecked_inp o c1 c2 hpre K
  rw [Lane.pulseChecked, kept.selects, kept.siMode, if_pos (by simp [hsel, hon]), hc]
  exact Lane.pulseIn_tp (by rw [hin, h1]) (by rw [hin]; exact hrun) _

end

theorem SafeIn.Latched.ch1 {x y : SafeIn} (h : x.Latched y) : y.ch1 = x.ch1 := by
  obtain rfl | rfl := h <;> rfl

theorem SafeIn.Latched.run1 {x y : SafeIn} (h : x.Latched y) : y.run1 = x.run1 := by
  obtain rfl | rfl := h <;> rfl

/-- The lane when a pulse has been checked. -/
def Lane.pulseDone (L : Lane) (o back : Bool) (c1 c2 : Oct Bool) : Lane :=
  (fin8.foldl (Lane.pulseChecked o c1 c2) (L.readBack o back)).tpoRest

theorem execTestPulseCheck_eq (l : LaneId) (o back : Bool) (c1 c2 : Oct Bool) (s : State) :
    execTestPulseCheck l o back c1 c2 s =
      .next (s.on l fun L => if L.sampling && L.tpoUsed o then L.pulseDone o back c1 c2 else L) := rfl

section
variable {L : Lane} (o back : Bool) (c1 c2 : Oct Bool)

theorem Lane.pulseDone_level (h : L.tpoUsed o = true) : ((L.pulseDone o back c1 c2).safe.tpo o).level = true := by
  have kept := (L.readBack_monitorKept o back).trans
    (Lane.foldl_monitorKept (Lane.pulseChecked_monitorKept o c1 c2) fin8 (L.readBack o back))
  rw [Lane.pulseDone, Lane.tpoRest_level, kept.tpoUsed, h]

theorem Lane.pulseDone_unselected {i : Fin 8} (h : L.selects o i = false) :
    (L.pulseDone o back c1 c2).safe.inp.get i = L.safe.inp.get i := by
  have hsel : (L.readBack o back).selects o i = false := by rw [(L.readBack_monitorKept o back).selects, h]
  exact (Lane.foldl_pulseChecked_unselected o c1 c2 hsel).trans ((L.readBack_latched o back i).2 h)

theorem Lane.pulseDone_tp {i : Fin 8} (hsel : L.selects o i = true) (hon : L.siMode i % 4 ≠ 0)
    (h1 : (L.safe.inp.get i).ch1 = true) (hc : c1.get i = true) (hrun : 1 ≤ (L.safe.inp.get i).run1) :
    ((L.pulseDone o back c1 c2).safe.inp.get i).tp = true := by
  have kept := L.readBack_monitorKept o back
  have latched := (L.readBack_latched o back i).1
  exact Lane.foldl_pulseChecked_tp (K := L.readBack o back) o c1 c2 (by rw [kept.selects, hsel])
    (by rw [kept.siMode]; exact hon) (by rw [latched.ch1, h1]) hc (by rw [latched.run1]; exact hrun)

end

/-! ### The commands -/

section
variable {s : State} {l : LaneId}

theorem exec_safetySample_of_sampling (h : (s.lane l).sampling = true) (n : Nat) (p : SafetyPins) :
    ∃ t, exec (.safetySample l n p) s = .next t ∧
      OnlyLane l s t ∧ (t.lane l).tb.ns = max (s.lane l).tb.ns (n * 250000) ∧ (t.lane l).vote = (s.lane l).vote ∧
      (t.lane l).pwr = (s.lane l).pwr ∧
      (∀ (i : Fin 8) (v : Bool), (s.lane l).siMode i % 4 = 1 → p.ch1.get i = v → p.ch2.get i = v →
        ((t.lane l).safe.inp.get i).value = v ∧ ((t.lane l).safe.inp.get i).has = true ∧
        ((t.lane l).safe.inp.get i).dis = none) ∧
      (∀ (i : Fin 8) (v : Bool), (s.lane l).siMode i % 4 = 2 → p.ch1.get i = v → p.ch2.get i = !v →
        ((t.lane l).safe.inp.get i).value = v ∧ ((t.lane l).safe.inp.get i).has = true ∧
        ((t.lane l).safe.inp.get i).dis = none) ∧
      (∀ i : Fin 8, (s.lane l).siMode i % 4 ≠ 0 → inputState ((s.lane l).siMode i) (p.ch1.get i) (p.ch2.get i) = none →
        ((s.lane l).safe.inp.get i).modeUsed = (s.lane l).siMode i →
        ((t.lane l).safe.inp.get i).value = ((s.lane l).safe.inp.get i).value ∧
        ((t.lane l).safe.inp.get i).dis = some (((s.lane l).safe.inp.get i).dis.elim 0 (· + 1))) := by
  refine ⟨_, rfl, s.onlyLane_on l _, ?_⟩
  rw [s.lane_on_same]
  refine ⟨?_, ((s.lane l).sample_voteKept n p).2, Lane.sample_pwr _ n p, fun i v hm h1 h2 => ?_,
    fun i v hm h1 h2 => ?_, fun i => Lane.sample_of_disagree h n⟩
  · rw [(Lane.sample_monitorKept h n p).tb, Lane.advance_ns]
  · exact Lane.sample_of_agree h n (by omega) (by simp [inputState, hm, h1, h2])
  · exact Lane.sample_of_agree h n (by omega) (by simp [inputState, hm, h1, h2])

/-- DISCREPANCY_FAULT through the number the input has counted (R392). -/
theorem exec_discrepancyFault_of_counted {i : Fin 8} {k : Nat} (h : ((s.lane l).safe.inp.get i).dis = some k)
    (hk : (s.lane l).discSamples i + 1 ≤ k) (hdisc : ((s.lane l).safe.inp.get i).disc = false)
    (hon : (s.lane l).siMode i % 4 ≠ 0) :
    ∃ t, exec (.discrepancyFault l i) s = .next t ∧ OnlyLane l s t ∧ ((t.lane l).safe.inp.get i).disc = true ∧
      (t.lane l).flog.last = BitVec.ofNat 16 (0x8001 + 0x40 * i.val) ∧
      (∀ j, j ≠ i → (t.lane l).safe.inp.get j = (s.lane l).safe.inp.get j) ∧ (t.lane l).vote = (s.lane l).vote := by
  refine ⟨s.on l fun L => (L.setIn i { L.safe.inp.get i with disc := true }).raise (0x8001 + 0x40 * i.val) 2,
    congrArg Host.Outcome.next (s.on_congr l ?_), s.onlyLane_on l _, ?_⟩
  · simp only [h]
    exact if_pos ⟨hk, hdisc, hon⟩
  · rw [s.lane_on_same]
    exact ⟨by rw [Lane.raise_safe, Lane.setIn_inp_same], Lane.raise_last .., fun j hj => by
      rw [Lane.raise_safe, Lane.setIn_inp_ne _ hj], rfl⟩

theorem exec_discrepancyFault_of_not {i : Fin 8}
    (h : ∀ k, ((s.lane l).safe.inp.get i).dis = some k →
      ¬ ((s.lane l).discSamples i + 1 ≤ k ∧ ((s.lane l).safe.inp.get i).disc = false ∧ (s.lane l).siMode i % 4 ≠ 0)) :
    exec (.discrepancyFault l i) s = .next s := by
  refine congrArg Host.Outcome.next (s.on_id l ?_)
  dsimp only
  cases hd : ((s.lane l).safe.inp.get i).dis with
  | none => rfl
  | some k => exact if_neg (h k hd)

theorem exec_testPulse_of_sampling (h : (s.lane l).sampling = true) (o : Bool) (n : Nat) :
    ∃ t, exec (.testPulse l o n) s = .next t ∧ OnlyLane l s t ∧
      ((t.lane l).safe.tpo o).level = false ∧ (t.lane l).safe.tpo (!o) = (s.lane l).safe.tpo (!o) ∧
      (t.lane l).safe.inp = (s.lane l).safe.inp := by
  refine ⟨_, State.next_on_of_holds (c := fun L => L.sampling = true) h, s.onlyLane_on l _, ?_⟩
  rw [s.lane_on_same]
  simp

theorem exec_testPulseCheck_of_used (h : (s.lane l).sampling = true) (o back : Bool) (c1 c2 : Oct Bool)
    (hused : (s.lane l).tpoUsed o = true) :
    ∃ t, exec (.testPulseCheck l o back c1 c2) s = .next t ∧ OnlyLane l s t ∧ ((t.lane l).safe.tpo o).level = true ∧
      (∀ i : Fin 8, (s.lane l).selects o i = true → (s.lane l).siMode i % 4 ≠ 0 →
        ((s.lane l).safe.inp.get i).ch1 = true → c1.get i = true → 1 ≤ ((s.lane l).safe.inp.get i).run1 →
        ((t.lane l).safe.inp.get i).tp = true) ∧
      (∀ i : Fin 8, (s.lane l).selects o i = false → (t.lane l).safe.inp.get i = (s.lane l).safe.inp.get i) := by
  refine ⟨s.on l fun L => L.pulseDone o back c1 c2, ?_, s.onlyLane_on l _, ?_⟩
  · exact (execTestPulseCheck_eq l o back c1 c2 s).trans
      (congrArg Host.Outcome.next (s.on_congr l (if_pos (by rw [h, hused]; rfl))))
  · rw [s.lane_on_same]
    exact ⟨Lane.pulseDone_level o back c1 c2 hused, fun i => Lane.pulseDone_tp o back c1 c2,
      fun i => Lane.pulseDone_unselected o back c1 c2⟩

theorem exec_monitor_of_not_sampling (h : (s.lane l).sampling = false) (o back : Bool) (n : Nat) (c1 c2 : Oct Bool)
    (p : SafetyPins) :
    exec (.testPulse l o n) s = .next s ∧ exec (.testPulseCheck l o back c1 c2) s = .next s ∧
      ((s.lane l).pwr.state ≠ .standby → exec (.safetySample l n p) s = .next s) := by
  refine ⟨State.next_on_of_fails (c := fun L => L.sampling = true) (ne_true_of_eq_false h), ?_, fun hst => ?_⟩
  · exact congrArg Host.Outcome.next (s.on_id l (if_neg (by rw [h]; simp)))
  · exact congrArg Host.Outcome.next (s.on_id l (Lane.sample_of_off h hst n p))

/-- A release of 200 to 8,000 samples resets the inputs and the outputs (R401). -/
theorem exec_safetyReset_of_counts {k : Nat} (h : (s.lane l).safe.released = some k) (h1 : 200 ≤ k) (h2 : k ≤ 8000) :
    ∃ t, exec (.safetyReset l) s = .next t ∧ OnlyLane l s t ∧ (t.lane l).flog.last = 0x8203 ∧
      (∀ i, ((t.lane l).safe.inp.get i).tp = false ∧ ((t.lane l).safe.inp.get i).disc =
        (((s.lane l).safe.inp.get i).disc && ((s.lane l).safe.inp.get i).dis.isSome &&
          !((s.lane l).siMode i % 4 == 0)) ∧
        ((t.lane l).safe.inp.get i).value = ((s.lane l).safe.inp.get i).value) ∧
      (t.lane l).safe.tpo0.latched = false ∧ (t.lane l).safe.tpo1.latched = false ∧
      (t.lane l).gates = (s.lane l).gates ∧ (t.lane l).svc = (s.lane l).svc := by
  have hc : (s.lane l).resetCounts = true := by simp [Lane.resetCounts, h, h1, h2]
  refine ⟨_, State.next_on_of_holds (c := fun L => L.resetCounts = true) hc, s.onlyLane_on l _, ?_⟩
  rw [s.lane_on_same]
  exact ⟨Lane.raise_last .., fun i => by simp [SafeIn.reset], rfl, rfl, rfl, rfl⟩

theorem exec_safetyReset_of_not (h : (s.lane l).resetCounts = false) : exec (.safetyReset l) s = .next s :=
  State.next_on_of_fails (c := fun L => L.resetCounts = true) (ne_true_of_eq_false h)

theorem exec_srstStuck_of_long {k : Nat} (h : (s.lane l).safe.press = some k) (hk : 8001 ≤ k)
    (hst : (s.lane l).safe.stuck = false) :
    ∃ t, exec (.srstStuck l) s = .next t ∧ OnlyLane l s t ∧
      (t.lane l).safe = { (s.lane l).safe with stuck := true } ∧ (t.lane l).flog.last = 0x8201 := by
  refine ⟨s.on l fun L => ({ L with safe := { L.safe with stuck := true } } : Lane).raise 0x8201 0,
    congrArg Host.Outcome.next (s.on_congr l ?_), s.onlyLane_on l _, ?_⟩
  · simp only [h]
    exact if_pos ⟨hk, hst⟩
  · rw [s.lane_on_same]
    exact ⟨rfl, Lane.raise_last ..⟩

theorem exec_srstStuck_of_not (h : ∀ k, (s.lane l).safe.press = some k → ¬ (8001 ≤ k ∧ (s.lane l).safe.stuck = false)) :
    exec (.srstStuck l) s = .next s := by
  refine congrArg Host.Outcome.next (s.on_id l ?_)
  cases hp : (s.lane l).safe.press with
  | none => rfl
  | some k => exact if_neg (h k hp)

theorem exec_sealOpen_of_run (h : 8 ≤ (s.lane l).safe.openRun) (hc : (s.lane l).safe.sealOpen = false) :
    ∃ t, exec (.sealOpen l) s = .next t ∧
      OnlyLane l s t ∧ (t.lane l).safe = { (s.lane l).safe with sealOpen := true } ∧
      ((s.lane l).pwr.state = .run → (t.lane l).flog.last = 0x8402) ∧
      ((s.lane l).pwr.state ≠ .run → (t.lane l).flog = (s.lane l).flog) := by
  refine ⟨_, State.next_on_of_holds (c := fun L => 8 ≤ L.safe.openRun ∧ L.safe.sealOpen = false) ⟨h, hc⟩,
    s.onlyLane_on l _, ?_⟩
  rw [s.lane_on_same]
  by_cases hr : (s.lane l).pwr.state = .run
  · rw [if_pos hr]
    exact ⟨rfl, fun _ => Lane.raise_last .., fun hn => absurd hr hn⟩
  · rw [if_neg hr]
    exact ⟨rfl, fun hn => absurd hn hr, fun _ => rfl⟩

theorem exec_sealDisagree_of_run (h : 400 ≤ (s.lane l).safe.equalRun) (hc : (s.lane l).safe.disagree = false) :
    ∃ t, exec (.sealDisagree l) s = .next t ∧ OnlyLane l s t ∧
      (t.lane l).safe = { (s.lane l).safe with disagree := true } ∧ (t.lane l).flog.last = 0x8401 := by
  refine ⟨_, State.next_on_of_holds (c := fun L => 400 ≤ L.safe.equalRun ∧ L.safe.disagree = false) ⟨h, hc⟩,
    s.onlyLane_on l _, ?_⟩
  rw [s.lane_on_same]
  exact ⟨rfl, Lane.raise_last ..⟩

theorem exec_sealOpen_of_not (h : (s.lane l).safe.openRun < 8 ∨ (s.lane l).safe.sealOpen = true) :
    exec (.sealOpen l) s = .next s :=
  State.next_on_of_fails (c := fun L => 8 ≤ L.safe.openRun ∧ L.safe.sealOpen = false) (by simpa [imp_iff_not_or] using h)

theorem exec_sealDisagree_of_not (h : (s.lane l).safe.equalRun < 400 ∨ (s.lane l).safe.disagree = true) :
    exec (.sealDisagree l) s = .next s :=
  State.next_on_of_fails (c := fun L => 400 ≤ L.safe.equalRun ∧ L.safe.disagree = false)
    (by simpa [imp_iff_not_or] using h)

end

/-- Settles O48: each event of the monitor through what it does to one input, one output or the seal; a read-back only
latches inputs, so what a sample gave them stands. -/
theorem safetyInputsAndSeal : Obligations.SafetyInputsAndSeal := by
  unfold Obligations.SafetyInputsAndSeal
  refine ⟨fun s l => ⟨fun n p h => ?_, fun i => ⟨fun k hk => ⟨exec_discrepancyFault_of_counted hk, fun hle => ?_⟩,
      fun h => ?_⟩, fun o n h => exec_testPulse_of_sampling h o n,
      fun o back c1 c2 h => exec_testPulseCheck_of_used h o back c1 c2, fun h => exec_monitor_of_not_sampling h⟩,
    fun s l => ⟨fun k hk => ⟨exec_safetyReset_of_counts hk, fun h => ?_⟩, fun h => ?_,
      fun k hk => ⟨exec_srstStuck_of_long hk, fun h => ?_⟩, fun h => ?_, exec_sealOpen_of_run, exec_sealOpen_of_not,
      exec_sealDisagree_of_run, exec_sealDisagree_of_not,
      fun n p hs h => ⟨_, rfl, s.onlyLane_on l _, by rw [s.lane_on_same]; exact Lane.sample_of_closed hs n h⟩⟩⟩
  · obtain ⟨t, ht, hl, hns, hv, hp, h1, h2, h3⟩ := exec_safetySample_of_sampling h n p
    refine ⟨t, ht, hl, hns, hv, hp, h1, h2, fun i hon hst hm => ?_⟩
    obtain ⟨hval, hdis⟩ := h3 i hon hst hm
    refine ⟨hval, hdis.trans ?_⟩
    cases ((s.lane l).safe.inp.get i).dis <;> rfl
  · refine exec_discrepancyFault_of_not fun k' hk' hc => ?_
    rw [hk] at hk'
    cases hk'
    omega
  · refine exec_discrepancyFault_of_not fun k hk ⟨_, hdisc, hon⟩ => ?_
    obtain hn | hd | hoff := h
    · rw [hk] at hn; cases hn
    · rw [hdisc] at hd; cases hd
    · exact hon hoff
  · refine exec_safetyReset_of_not ?_
    simp only [Lane.resetCounts, hk, decide_eq_false_iff_not]
    omega
  · exact exec_safetyReset_of_not (by simp [Lane.resetCounts, h])
  · refine exec_srstStuck_of_not fun k' hk' ⟨hle, hst⟩ => ?_
    rw [hk] at hk'
    cases hk'
    obtain hlt | hs := h
    · omega
    · rw [hst] at hs; cases hs
  · exact exec_srstStuck_of_not fun k hk => by rw [h] at hk; cases hk

end Sys2Proof.Machine
end

section
/-! PROOFS, the DS2 compatibility method (O50). -/
namespace Sys2Proof.Machine

section
variable {s : State} {l : LaneId} {m : Master} {tid : Nat} {data : List Byte}

/-! ### DS2_PASSWORD (R409) -/

/-- A password that passes its checks is counted, then judged. -/
def Lane.passwordJudged (L : Lane) (m : Master) (tid : Nat) (data : List Byte) : Lane :=
  if L.ds2.blocked then L.answer m tid 0x2405 2 eAuth
  else if L.obj 0x2405 6 ≠ 0 ∧ L.obj 0x2405 6 = L.pwHash data then
    ({ L with ds2 := { L.ds2.setUnlock m true with fails := 0 } } : Lane).answer m tid 0x2405 2 0
  else L.pwFail.answer m tid 0x2405 2 eAuth

theorem exec_ds2Password_of_ok
    (h : (s.lane l).writeErr m 0x2405 2 data ((s.lane l).obj 0x2405 1 == 1) false = none) :
    exec (.ds2Password l m tid data.length data) s =
      .next (s.on l fun L => (L.sbCount m 0x2405).passwordJudged m tid data) :=
  congrArg _ (s.on_congr l (by rw [if_neg (by simp), h]; rfl))

@[simp] theorem Lane.sbCount_pwHash (L : Lane) (m : Master) (x : Nat) : (L.sbCount m x).pwHash data = L.pwHash data := by
  simp [Lane.pwHash]

theorem exec_ds2Password_of_match
    (h : (s.lane l).writeErr m 0x2405 2 data ((s.lane l).obj 0x2405 1 == 1) false = none)
    (hb : (s.lane l).ds2.blocked = false) (h0 : (s.lane l).obj 0x2405 6 ≠ 0)
    (hh : (s.lane l).obj 0x2405 6 = (s.lane l).pwHash data) :
    ∃ t, exec (.ds2Password l m tid data.length data) s = .next t ∧ OnlyLane l s t ∧
      (t.lane l).ds2 = { ((s.lane l).ds2.setUnlock m true) with fails := 0 } := by
  refine ⟨_, exec_ds2Password_of_ok h, s.onlyLane_on l _, ?_⟩
  rw [s.lane_on_same, Lane.passwordJudged, if_neg (by simp [hb]),
    if_pos ⟨by rwa [Lane.sbCount_obj], by rwa [Lane.sbCount_obj, Lane.sbCount_pwHash]⟩]
  simp

/-- A failed password counts and is raised; the third in a row blocks. -/
theorem Lane.pwFail_spec {L : Lane} (h : L.ds2.blocked = false) :
    L.pwFail.ds2.fails = min (L.ds2.fails + 1) 3 ∧ L.pwFail.ds2.blocked = decide (2 ≤ L.ds2.fails) ∧
    L.pwFail.ds2.unlockHost = L.ds2.unlockHost ∧ L.pwFail.ds2.unlockSb = L.ds2.unlockSb ∧
    L.pwFail.flog.last = if 2 ≤ L.ds2.fails then 0x8442 else 0x8441 := by
  have third : 3 ≤ min (L.ds2.fails + 1) 3 ↔ 2 ≤ L.ds2.fails := by omega
  unfold Lane.pwFail
  simp only [Lane.raise_ds2, third, h, and_true]
  by_cases h2 : 2 ≤ L.ds2.fails
  · rw [if_pos h2]
    exact ⟨rfl, (decide_eq_true h2).symm, rfl, rfl, (Lane.raise_last ..).trans (if_pos h2).symm⟩
  · rw [if_neg h2]
    exact ⟨rfl, (decide_eq_false h2).symm, rfl, rfl, (Lane.raise_last ..).trans (if_neg h2).symm⟩

theorem exec_ds2Password_of_mismatch
    (h : (s.lane l).writeErr m 0x2405 2 data ((s.lane l).obj 0x2405 1 == 1) false = none)
    (hb : (s.lane l).ds2.blocked = false)
    (hh : (s.lane l).obj 0x2405 6 = 0 ∨ (s.lane l).obj 0x2405 6 ≠ (s.lane l).pwHash data) :
    ∃ t, exec (.ds2Password l m tid data.length data) s = .next t ∧ OnlyLane l s t ∧
      (t.lane l).ds2.fails = min ((s.lane l).ds2.fails + 1) 3 ∧
      (t.lane l).ds2.blocked = decide (2 ≤ (s.lane l).ds2.fails) ∧
      (t.lane l).ds2.unlockHost = (s.lane l).ds2.unlockHost ∧ (t.lane l).ds2.unlockSb = (s.lane l).ds2.unlockSb ∧
      (t.lane l).flog.last = (if 2 ≤ (s.lane l).ds2.fails then 0x8442 else 0x8441) := by
  refine ⟨_, exec_ds2Password_of_ok h, s.onlyLane_on l _, ?_⟩
  have counted := Lane.pwFail_spec (L := (s.lane l).sbCount m 0x2405) (by rwa [Lane.sbCount_ds2])
  rw [Lane.sbCount_ds2] at counted
  rw [s.lane_on_same, Lane.passwordJudged, if_neg (by simp [hb]), if_neg, Lane.answer_ds2, Lane.answer_flog]
  · exact counted
  · rw [Lane.sbCount_obj, Lane.sbCount_pwHash]
    exact fun hc => hh.elim hc.1 fun hne => hne hc.2

theorem exec_ds2Password_of_blocked
    (h : (s.lane l).writeErr m 0x2405 2 data ((s.lane l).obj 0x2405 1 == 1) false = none)
    (hb : (s.lane l).ds2.blocked = true) : exec (.ds2Password l m tid data.length data) s =
      .next (s.on l fun L => (L.sbCount m 0x2405).answer m tid 0x2405 2 0x0D000005) :=
  (exec_ds2Password_of_ok h).trans
    (congrArg _ (s.on_congr l (if_pos (by simp [hb]))))

theorem exec_ds2Password_unordered {total : Nat} (hlen : data.length ≠ total) (hm : m = .host ∨ m = .sideBand)
    (hreach : (s.lane l).reaches m = true) :
    ∃ t, exec (.ds2Password l m tid total data) s = .next t ∧ OnlyLane l s t ∧ (t.lane l).ds2 = (s.lane l).ds2 ∧
      (∃ r, (t.lane l).dict.resp = some r ∧ r.code = 0x05040001) := by
  have hc : data.length ≠ total ∧ (s.lane l).reaches m = true ∧ m ≠ .supervisory ∧ m ≠ .peer :=
    ⟨hlen, hreach, by obtain rfl | rfl := hm <;> decide⟩
  refine ⟨s.on l fun L => L.segFail m tid 0x2405 2 eOrder, congrArg Host.Outcome.next (s.on_congr l (if_pos hc)),
    s.onlyLane_on l _, ?_⟩
  rw [s.lane_on_same]
  exact ⟨by rw [Lane.segFail, Lane.answer_ds2], (Lane.segFail_spec hreach _).2.2⟩

/-! ### DS2_VALUE (R410, R411) -/

/-- An entry of the change log is the newest, and 64 are kept. -/
theorem Lane.logChange_log (L : Lane) (kind : Nat) (m : Master) (idx sub len old new ns : Nat) :
    ∃ c rest, (L.logChange kind m idx sub len old new ns).ds2.log = c :: rest ∧ c.kind = kind ∧ c.idx = idx ∧
      c.sub = sub ∧ c.len = len ∧ c.new = BitVec.ofNat 32 new ∧ (c :: rest).length ≤ 64 := by
  refine ⟨_, _, List.take_succ_cons, rfl, rfl, rfl, rfl, rfl, ?_⟩
  exact Nat.succ_le_succ (List.length_take_le ..)

/-- A window write of a local target: the value enters the lane and the change log. -/
def Lane.windowLocal (L : Lane) (m : Master) (tid idx sub : Nat) (data : List Byte) : Lane :=
  let N := L.storeLocal m idx sub (ofBytes data)
  (N.logChange 1 m idx sub data.length (L.obj idx sub % 2 ^ 32) (ofBytes data % 2 ^ 32) N.recTime).answer m tid 0x2405 4 0

theorem Lane.windowLocal_spec (L : Lane) (m : Master) (tid idx sub : Nat) (data : List Byte) :
    (L.windowLocal m tid idx sub data).obj idx sub = ofBytes data ∧
    (∀ i j, okey i j ≠ okey idx sub → (L.windowLocal m tid idx sub data).obj i j = L.obj i j) ∧
    (∃ c rest, (L.windowLocal m tid idx sub data).ds2.log = c :: rest ∧ c.kind = 1 ∧ c.idx = idx ∧ c.sub = sub ∧
      c.len = data.length ∧ c.new = BitVec.ofNat 32 (ofBytes data % 2 ^ 32)) ∧
    (L.windowLocal m tid idx sub data).ds2.log.length ≤ 64 := by
  have values : (L.windowLocal m tid idx sub data).obj = (L.setObj idx sub (ofBytes data)).obj := by
    funext i j
    rw [Lane.windowLocal, Lane.answer_obj]
    exact congrFun (congrFun (L.storeLocal_obj m idx sub (ofBytes data)) i) j
  refine ⟨by rw [values, Lane.obj_setObj_same], fun i j hij => by rw [values, Lane.obj_setObj_ne _ _ hij], ?_⟩
  rw [Lane.windowLocal, Lane.answer_ds2]
  obtain ⟨c, rest, hlog, hkind, hidx, hsub, hlen, hnew, h64⟩ := (L.storeLocal m idx sub (ofBytes data)).logChange_log 1 m idx
    sub data.length (L.obj idx sub % 2 ^ 32) (ofBytes data % 2 ^ 32) (L.storeLocal m idx sub (ofBytes data)).recTime
  rw [hlog]
  exact ⟨⟨c, rest, rfl, hkind, hidx, hsub, hlen, hnew⟩, h64⟩

section
variable {L : Lane} {idx sub : Nat} (g : Option Nat) (htarget : L.obj 0x2405 3 ≠ 0)
  (hidx : bits (L.obj 0x2405 3) 16 16 = idx) (hsub : bits (L.obj 0x2405 3) 8 8 = sub)
  (h : L.writeErr m 0x2405 4 data true false = none)

include htarget hidx hsub h

theorem Lane.windowWrite_of_ok (hp : L.plainErr m idx sub data true = none) : L.windowWrite m tid data g =
    if isWide idx sub then (L.sbCount m 0x2405).prepare m tid idx sub (ofBytes data) g true
    else (L.sbCount m 0x2405).windowLocal m tid idx sub data := by
  have ht : (L.obj 0x2405 3 != 0) = true := by simpa using htarget
  rw [Lane.windowWrite, ht, h, hidx, hsub, hp]
  rfl

theorem Lane.windowWrite_of_plainErr {e : W32} (hp : L.plainErr m idx sub data true = some e) :
    L.windowWrite m tid data g = (L.failGroup m g).answer m tid 0x2405 4 e := by
  have ht : (L.obj 0x2405 3 != 0) = true := by simpa using htarget
  rw [Lane.windowWrite, ht, h, hidx, hsub, hp]

end

theorem exec_ds2Value_of_window (idx sub : Nat) (grp : Option (Fin 16)) (htarget : (s.lane l).obj 0x2405 3 ≠ 0)
    (hidx : bits ((s.lane l).obj 0x2405 3) 16 16 = idx) (hsub : bits ((s.lane l).obj 0x2405 3) 8 8 = sub)
    (h : (s.lane l).writeErr m 0x2405 4 data true false = none) :
    ((s.lane l).plainErr m idx sub data true = none →
      (isWide idx sub = false → ∃ t, exec (.ds2Value l m tid data grp) s = .next t ∧ OnlyLane l s t ∧
        (t.lane l).obj idx sub = ofBytes data ∧
        (∀ i j, okey i j ≠ okey idx sub → (t.lane l).obj i j = (s.lane l).obj i j) ∧
        (∃ c rest, (t.lane l).ds2.log = c :: rest ∧ c.kind = 1 ∧ c.idx = idx ∧ c.sub = sub ∧ c.len = data.length ∧
          c.new = BitVec.ofNat 32 (ofBytes data % 2 ^ 32)) ∧ (t.lane l).ds2.log.length ≤ 64) ∧
      (isWide idx sub = true → exec (.ds2Value l m tid data grp) s = .next (s.on l fun L =>
        (L.sbCount m 0x2405).prepare m tid idx sub (ofBytes data) (grp.map (·.val)) true))) ∧
    (∀ e : W32, (s.lane l).plainErr m idx sub data true = some e → exec (.ds2Value l m tid data none) s =
      .next (s.on l fun L => (L.failGroup m none).answer m tid 0x2405 4 e)) := by
  refine ⟨fun hp => ⟨fun hw => ?_, fun hw => ?_⟩, fun e hp => ?_⟩
  · refine ⟨s.on l fun L => (L.sbCount m 0x2405).windowLocal m tid idx sub data,
      congrArg _ (s.on_congr l ?_), s.onlyLane_on l _, ?_⟩
    · rw [Lane.windowWrite_of_ok _ htarget hidx hsub h hp, if_neg (ne_true_of_eq_false hw)]
    · rw [s.lane_on_same]
      obtain ⟨hval, hrest, hlog⟩ := ((s.lane l).sbCount m 0x2405).windowLocal_spec m tid idx sub data
      exact ⟨hval, fun i j hij => (hrest i j hij).trans (Lane.sbCount_obj ..), hlog⟩
  · refine congrArg _ (s.on_congr l ?_)
    rw [Lane.windowWrite_of_ok _ htarget hidx hsub h hp, if_pos hw]
  · exact congrArg _ (s.on_congr l (Lane.windowWrite_of_plainErr _ htarget hidx hsub h hp))

/-! ### DS2_STORE and DS2_LOCK (R409, R410) -/

@[simp] theorem Lane.storeSet_ds2 (L : Lane) (n : Nat) : (L.storeSet n).ds2 = L.ds2 := by
  unfold Lane.storeSet
  dsimp only
  split <;> rfl

theorem exec_ds2Store_of_ok (n : Fin 4) (h : (s.lane l).writeErr m 0x2405 5 [BitVec.ofNat 8 n.val] true false = none)
    (hsets : (s.lane l).dict.sets.length = 4) :
    ∃ t, exec (.ds2Store l m tid [BitVec.ofNat 8 n.val]) s = .next t ∧
      OnlyLane l s t ∧ (t.lane l).dict.sets[n.val]? = some
        { vals := (s.lane l).cfgVals, crc := BitVec.ofNat 32 (s.lane l).setCrc, intact := true } ∧
      (t.lane l).ds2.lastStore = n.val ∧
      (∃ c rest, (t.lane l).ds2.log = c :: rest ∧ c.kind = 2 ∧ c.idx = 0x2404 ∧ c.sub = n.val) := by
  refine ⟨_, State.next_write_of_ok (present := fun _ => true) h tid _, s.onlyLane_on l _, ?_⟩
  rw [State.lane_on_same, Lane.answer_sets, Lane.answer_ds2, Lane.logChange_dict]
  dsimp only
  rw [Lane.storeSet_dict, ofBytes_fin4, Lane.sbCount_dict, Lane.workingSet, Lane.cfgVals_sbCount, Lane.setCrc_sbCount]
  refine ⟨getElem?_listSet_same (by have := n.isLt; omega) _, rfl, ?_⟩
  obtain ⟨c, rest, hlog, hkind, hidx, hsub, -⟩ := Lane.logChange_log _ 2 m 0x2404 n.val 1 _ _ _
  exact ⟨c, rest, hlog, hkind, hidx, hsub⟩

theorem exec_ds2Lock_of_ok (h : (s.lane l).writeErr m 0x2405 8 data true false = none) :
    ∃ t, exec (.ds2Lock l m tid data) s = .next t ∧
      OnlyLane l s t ∧ (t.lane l).ds2 = (s.lane l).ds2.setUnlock m false := by
  refine ⟨_, State.next_write_of_ok (present := fun _ => true) h tid _, s.onlyLane_on l _, ?_⟩
  rw [State.lane_on_same, Lane.answer_ds2, Lane.sbCount_ds2]

end

/-- Settles O50: each write of the method by the outcome of its checks, and the change log by what an entry adds to it. -/
theorem ds2Method : Obligations.Ds2Method := by
  unfold Obligations.Ds2Method
  intro s l m tid data
  exact ⟨fun h => ⟨exec_ds2Password_of_match h, exec_ds2Password_of_mismatch h, exec_ds2Password_of_blocked h⟩,
    fun e => exec_ds2Password_of_err, fun total => exec_ds2Password_unordered, exec_ds2Value_of_window,
    exec_ds2Store_of_ok, fun e => exec_ds2Store_of_err, exec_ds2Lock_of_ok,
    fun e h => State.next_write_of_err (present := fun _ => true) h tid _, rfl, rfl⟩

end Sys2Proof.Machine
end

section
/-! PROOFS, keys, the test access port and debug (O51). -/
namespace Sys2Proof.Machine

section
variable {s : State} {l : LaneId}

/-! ### KEYPROV (R418) -/

/-- The slot a KEYPROV register names. -/
def provSlot (reg : List Byte) : Nat := ((reg[0]?).map (·.toNat)).getD 0

/-- An update that fails no condition met them all. -/
theorem Lane.of_keyprovResult {L : Lane} {reg : List Byte} {o : Bool} (h : L.keyprovResult reg o = 0) :
    L.pwr.state ≠ .run ∧ L.safe.sealOpen = true ∧ o = true ∧ ∃ k, L.provKey reg (provSlot reg) = some k := by
  unfold Lane.keyprovResult at h
  dsimp only at h
  split at h
  · cases h
  next hrun =>
  split at h
  · cases h
  next hseal =>
  split at h
  · cases h
  split at h
  · cases h
  split at h
  · cases h
  next hkey =>
  split at h
  · cases h
  next ho =>
  exact ⟨hrun, eq_true_of_ne_false hseal, eq_true_of_ne_false ho, 
    Option.isSome_iff_exists.1 (by rw [← Option.not_isNone, Bool.not_eq_true']; exact eq_false_of_ne_true hkey)⟩

/-- The lane with the key of a register in its slot. -/
def Lane.keyWritten (L : Lane) (reg : List Byte) : Lane :=
  ({ L with sec := { L.sec with
      ir := 2, keyprov := 0, written := L.sec.written ||| BitVec.ofNat 16 (2 ^ provSlot reg)
      keys := L.sec.keys.set (provSlot reg) ((L.provKey reg (provSlot reg)).getD [])
      serving := L.sec.serving ||| BitVec.ofNat 16 (2 ^ provSlot reg) } } : Lane).raise 0x9181 0 (provSlot reg)

/-- The lane with a result that is not a success. -/
def Lane.keyRefused (L : Lane) (r : Nat) : Lane :=
  ({ L with sec := { L.sec with ir := 2, keyprov := r } } : Lane).raise 0x9182 0 r

theorem exec_keyprov (l : LaneId) (head wrapped : List Byte) (o : Bool) (s : State) :
    exec (.keyprov l head wrapped o) s = .next (s.on l fun L =>
      if L.keyprovResult (head ++ wrapped) o = 0 then L.keyWritten (head ++ wrapped)
      else L.keyRefused (L.keyprovResult (head ++ wrapped) o)) := rfl

theorem exec_keyprov_writes {head wrapped reg : List Byte} {o : Bool} (hreg : reg = head ++ wrapped)
    (h : (s.lane l).keyprovResult reg o = 0) :
    ∃ t k, exec (.keyprov l head wrapped o) s = .next t ∧ OnlyLane l s t ∧
      (s.lane l).pwr.state ≠ .run ∧ (s.lane l).safe.sealOpen = true ∧ o = true ∧
      (s.lane l).provKey reg (provSlot reg) = some k ∧
      (t.lane l).sec.keys = (s.lane l).sec.keys.set (provSlot reg) k ∧
      (t.lane l).sec.written = (s.lane l).sec.written ||| BitVec.ofNat 16 (2 ^ provSlot reg) ∧
      (t.lane l).sec.keyprov = 0 ∧ (t.lane l).flog.last = 0x9181 := by
  subst hreg
  obtain ⟨hrun, hseal, ho, k, hk⟩ := Lane.of_keyprovResult h
  refine ⟨s.on l fun L => L.keyWritten (head ++ wrapped), k,
    (exec_keyprov ..).trans (congrArg Host.Outcome.next (s.on_congr l (if_pos h))), s.onlyLane_on l _, hrun, hseal, ho, hk, ?_⟩
  rw [s.lane_on_same]
  refine ⟨congrArg ((s.lane l).sec.keys.set _) ?_, rfl, rfl, Lane.raise_last ..⟩
  exact congrArg (Option.getD · []) hk

theorem exec_keyprov_fails {head wrapped reg : List Byte} {o : Bool} (hreg : reg = head ++ wrapped)
    (h : (s.lane l).keyprovResult reg o ≠ 0) :
    ∃ t, exec (.keyprov l head wrapped o) s = .next t ∧ OnlyLane l s t ∧
      (t.lane l).sec.written = (s.lane l).sec.written ∧ (t.lane l).sec.serving = (s.lane l).sec.serving ∧
      (t.lane l).sec.keys = (s.lane l).sec.keys ∧
      (t.lane l).sec.keyprov = (s.lane l).keyprovResult reg o ∧ (t.lane l).flog.last = 0x9182 := by
  subst hreg
  refine ⟨s.on l fun L => L.keyRefused (L.keyprovResult (head ++ wrapped) o),
    (exec_keyprov ..).trans (congrArg Host.Outcome.next (s.on_congr l (if_neg h))), s.onlyLane_on l _, ?_⟩
  rw [s.lane_on_same]
  exact ⟨rfl, rfl, rfl, rfl, Lane.raise_last ..⟩

/-! ### KEY_REVOKE (R419) -/

theorem getLsbD_ofNat_bit {v n : Nat} (hn : n < 16) : (BitVec.ofNat 16 v).getLsbD n = bit v n := by
  rw [BitVec.getLsbD_ofNat, decide_eq_true hn, Bool.true_and, Nat.testBit_eq_decide_div_mod_eq]
  rfl

theorem Lane.foldl_sec {α : Type} {f : Lane → α → Lane} (h : ∀ M x, (f M x).sec = M.sec) (l : List α) (L : Lane) :
    (l.foldl f L).sec = L.sec :=
  List.foldlRecOn l f (motive := fun M : Lane => M.sec = L.sec) rfl fun M hM x _ => (h M x).trans hM

/-- The lane with the slots of a mask revoked, each recorded. -/
def Lane.revoke (L : Lane) (mask : Nat) : Lane :=
  (List.range 16).foldl (fun J n => if bit mask n then J.raise 0x9183 0 n else J)
    { L with sec := { L.sec with revoked := L.sec.revoked ||| BitVec.ofNat 16 mask } }

theorem Lane.revoke_sec (L : Lane) (mask : Nat) :
    (L.revoke mask).sec = { L.sec with revoked := L.sec.revoked ||| BitVec.ofNat 16 mask } := by
  refine Lane.foldl_sec (fun M n => ?_) _ _
  split <;> rfl

/-- After a revocation a slot is good where it was and the mask does not name it. -/
theorem Lane.keyOk_of_revoked {L M : Lane} {mask : Nat}
    (h : M.sec = { L.sec with revoked := L.sec.revoked ||| BitVec.ofNat 16 mask }) {n : Nat} (hn : n < 16) :
    M.keyOk n = (L.keyOk n && !bit mask n) := by
  simp only [Lane.keyOk, slotBit, h, BitVec.getLsbD_or, getLsbD_ofNat_bit hn, Bool.not_or, Bool.and_assoc]

theorem exec_keyRevoke_of_ok {m : Master} {tid : Nat} {data : List Byte}
    (h : (s.lane l).writeErr m 0x2502 1 data ((s.lane l).revokeOk (ofBytes data)) false = none) :
    ∃ t, exec (.keyRevoke l m tid data) s = .next t ∧ OnlyLane l s t ∧ (t.lane l).sec = { (s.lane l).sec with
      revoked := (s.lane l).sec.revoked ||| BitVec.ofNat 16 (ofBytes data) } ∧
      (∀ n, n < 16 → bit (ofBytes data) n = true → (t.lane l).keyOk n = false) ∧
      (t.lane l).keyOk 10 = (s.lane l).keyOk 10 := by
  have accepted : (s.lane l).revokeOk (ofBytes data) = true := by
    refine eq_true_of_ne_false fun hno => ?_
    rw [hno] at h
    obtain ⟨e, he⟩ := Lane.exists_writeErr_of_absent (L := s.lane l) (m := m) (idx := 0x2502) (sub := 1) (data := data)
      (window := false)
    rw [h] at he
    cases he
  have spared : bit (ofBytes data) 10 = false := by
    simp only [Lane.revokeOk, Bool.and_eq_true, Bool.not_eq_true'] at accepted
    exact accepted.1.1.1
  refine ⟨_, State.next_write_of_ok (present := fun L => L.revokeOk (ofBytes data)) h tid _, s.onlyLane_on l _, ?_⟩
  rw [s.lane_on_same]
  generalize hM : Lane.answer _ m tid 0x2502 1 0 = M
  have hsec : M.sec = { (s.lane l).sec with
      revoked := (s.lane l).sec.revoked ||| BitVec.ofNat 16 (ofBytes data) } := by
    rw [← hM, Lane.answer_sec]
    exact (Lane.revoke_sec ((s.lane l).sbCount m 0x2502) (ofBytes data)).trans (by rw [Lane.sbCount_sec])
  refine ⟨hsec, fun n hn hbit => ?_, ?_⟩
  · rw [Lane.keyOk_of_revoked hsec hn, hbit, Bool.not_true, Bool.and_false]
  · rw [Lane.keyOk_of_revoked hsec (by decide), spared, Bool.not_false, Bool.and_true]

/-! ### DBG_CHALLENGE and DBG_RESPONSE (R430, R431) -/

theorem exec_dbgChallenge_draws {m : Master} (tid : Nat) (h : (s.lane l).readErr m 0x2501 1 = none)
    (hreach : (s.lane l).reaches m = true) :
    ∃ t, exec (.dbgChallenge l m tid) s = .next t ∧ t.freeCtr = s.freeCtr + 1 ∧ (∀ p, p ≠ l → t.lane p = s.lane p) ∧
      (t.lane l).sec = { (s.lane l).sec with dbgChallenge := some (Config.draw s.freeCtr) } ∧
      (∃ r, (t.lane l).dict.resp = some r ∧ r.code = 0 ∧
        r.data = toBytes 8 (Config.draw s.freeCtr).toNat ++ toBytes 8 (Config.laneUid (s.lane l).id).toNat) := by
  refine ⟨_, rfl, rfl, fun p hp => (State.lane_on_ne _ _ hp).trans rfl, ?_⟩
  have same : s.drawn.lane l = s.lane l := rfl
  rw [State.lane_on_same, same, h]
  refine ⟨Lane.answer_sec .., _, Lane.answer_resp (by exact hreach) .., rfl, rfl⟩

theorem exec_dbgChallenge_of_err {m : Master} (tid : Nat) {e : W32} (h : (s.lane l).readErr m 0x2501 1 = some e) :
    exec (.dbgChallenge l m tid) s =
      .next (State.on { s with freeCtr := s.freeCtr + 1 } l fun L => L.answer m tid 0x2501 1 e) := by
  have same : s.drawn.lane l = s.lane l := rfl
  exact congrArg Host.Outcome.next (s.drawn.on_congr l (by rw [same, h]))

/-- A response that passes its checks is judged, unless responses are blocked. -/
def Lane.responseJudged (L : Lane) (m : Master) (tid : Nat) (data : List Byte) : Lane :=
  if L.sec.dbgBlocked then L.answer m tid 0x2501 2 eAuth
  else if L.dbgSigOk data then
    ({ L with sec := { L.sec with dbgChallenge := none } } : Lane).dbgOpen.answer m tid 0x2501 2 0
  else ({ L with sec := { L.sec with dbgChallenge := none } } : Lane).dbgFail.answer m tid 0x2501 2 eAuth

section
variable {m : Master} {tid : Nat} {rPart sPart data : List Byte} (hdata : data = rPart ++ sPart)

include hdata in
theorem exec_dbgResponse_of_err {e : W32}
    (h : (s.lane l).writeErr m 0x2501 2 data ((s.lane l).pwr.state != .run) false = some e) :
    exec (.dbgResponse l m tid rPart sPart) s = .next (s.on l fun L => L.answer m tid 0x2501 2 e) := by
  subst hdata
  exact congrArg Host.Outcome.next (s.on_congr l (by dsimp only; rw [h]))

variable (h : (s.lane l).writeErr m 0x2501 2 data ((s.lane l).pwr.state != .run) false = none)

include hdata h

theorem exec_dbgResponse_of_ok : exec (.dbgResponse l m tid rPart sPart) s =
    .next (s.on l fun L => (L.sbCount m 0x2501).responseJudged m tid data) := by
  subst hdata
  exact congrArg Host.Outcome.next (s.on_congr l (by dsimp only; rw [h]; rfl))

theorem exec_dbgResponse_of_blocked (hb : (s.lane l).sec.dbgBlocked = true) :
    exec (.dbgResponse l m tid rPart sPart) s =
      .next (s.on l fun L => (L.sbCount m 0x2501).answer m tid 0x2501 2 0x0D000005) :=
  (exec_dbgResponse_of_ok hdata h).trans (congrArg Host.Outcome.next (s.on_congr l (if_pos (by simp [hb]))))

omit hdata h in
@[simp] theorem Lane.sbCount_dbgSigOk (L : Lane) (m : Master) (x : Nat) :
    (L.sbCount m x).dbgSigOk data = L.dbgSigOk data := by
  unfold Lane.sbCount
  split <;> rfl

theorem exec_dbgResponse_of_good (hb : (s.lane l).sec.dbgBlocked = false) (hgood : (s.lane l).dbgSigOk data = true) :
    ∃ t, exec (.dbgResponse l m tid rPart sPart) s = .next t ∧
      OnlyLane l s t ∧ (t.lane l).sec.debug = true ∧ (t.lane l).sec.dbgFails = 0 ∧
      (t.lane l).sec.dbgChallenge = none ∧ (t.lane l).vote.role = .out ∧ (t.lane l).pwr.stopLine = true ∧
      (t.lane l).flog.last = 0x9141 := by
  refine ⟨_, exec_dbgResponse_of_ok hdata h, s.onlyLane_on l _, ?_⟩
  rw [s.lane_on_same, Lane.responseJudged, if_neg (by simp [hb]), if_pos (by simpa using hgood), Lane.answer_sec,
    Lane.answer_vote, Lane.answer_pwr, Lane.answer_flog]
  exact ⟨rfl, rfl, rfl, rfl, rfl, Lane.raise_last ..⟩

omit hdata h in
/-- A refused response counts and is raised; the third in a row blocks. -/
theorem Lane.dbgFail_spec {L : Lane} (h : L.sec.dbgBlocked = false) :
    L.dbgFail.sec = { L.sec with
      dbgFails := min (L.sec.dbgFails + 1) 3, dbgBlocked := decide (2 ≤ L.sec.dbgFails) } ∧
    L.dbgFail.flog.last = (if 2 ≤ L.sec.dbgFails then 0x9143 else 0x9142) ∧ L.dbgFail.vote = L.vote := by
  have third : 3 ≤ min (L.sec.dbgFails + 1) 3 ↔ 2 ≤ L.sec.dbgFails := by omega
  unfold Lane.dbgFail
  simp only [Lane.raise_sec, third, h, and_true]
  by_cases h2 : 2 ≤ L.sec.dbgFails
  · rw [if_pos h2, if_pos h2, decide_eq_true h2, Lane.raise_sec, Lane.raise_vote]
    exact ⟨rfl, Lane.raise_last .., Lane.raise_vote ..⟩
  · rw [if_neg h2, if_neg h2, decide_eq_false h2, Lane.raise_sec, Lane.raise_vote]
    exact ⟨rfl, Lane.raise_last .., rfl⟩

theorem exec_dbgResponse_of_bad (hb : (s.lane l).sec.dbgBlocked = false) (hbad : (s.lane l).dbgSigOk data = false) :
    ∃ t, exec (.dbgResponse l m tid rPart sPart) s = .next t ∧ OnlyLane l s t ∧
      (t.lane l).sec.debug = (s.lane l).sec.debug ∧ (t.lane l).sec.dbgFails = min ((s.lane l).sec.dbgFails + 1) 3 ∧
      (t.lane l).sec.dbgBlocked = decide (2 ≤ (s.lane l).sec.dbgFails) ∧ (t.lane l).sec.dbgChallenge = none ∧
      (t.lane l).flog.last = (if 2 ≤ (s.lane l).sec.dbgFails then 0x9143 else 0x9142) ∧
      (t.lane l).vote = (s.lane l).vote := by
  refine ⟨_, exec_dbgResponse_of_ok hdata h, s.onlyLane_on l _, ?_⟩
  rw [s.lane_on_same, Lane.responseJudged, if_neg (by simp [hb]), if_neg (by simp [hbad]), Lane.answer_sec,
    Lane.answer_vote, Lane.answer_flog]
  rw [← Lane.sbCount_sec (s.lane l) m 0x2501] at hb
  obtain ⟨hsec, hlast, hvote⟩ := Lane.dbgFail_spec (L := { (s.lane l).sbCount m 0x2501 with
    sec := { ((s.lane l).sbCount m 0x2501).sec with dbgChallenge := none } }) hb
  rw [hsec, hlast, hvote]
  simp

end
end

/-- Settles O51: each write by the outcome of its checks, a key update by its result and a response by its signature. -/
theorem keysAndDebug : Obligations.KeysAndDebug := by
  unfold Obligations.KeysAndDebug
  intro s l
  exact ⟨fun head wrapped reg o hreg => ⟨exec_keyprov_writes hreg, exec_keyprov_fails hreg⟩, rfl, rfl,
    fun m tid data => ⟨exec_keyRevoke_of_ok, fun e h =>
      State.next_write_of_err (present := fun L => L.revokeOk (ofBytes data)) h tid _⟩,
    fun m tid => ⟨exec_dbgChallenge_draws tid, fun e => exec_dbgChallenge_of_err tid⟩,
    fun m tid rPart sPart data hdata => ⟨fun h => ⟨exec_dbgResponse_of_good hdata h, exec_dbgResponse_of_bad hdata h,
      exec_dbgResponse_of_blocked hdata h⟩, fun e => exec_dbgResponse_of_err hdata⟩, rfl⟩

end Sys2Proof.Machine
end

section
/-! PROOFS, power requests by the present state (O43). -/
namespace Sys2Proof.Machine

/-! ### A write of PWR_REQ (R436) -/

/-- The lane that a request has been counted and answered on, before the request acts. -/
def Lane.accepted (L : Lane) (m : Master) (tid : Nat) : Lane := (L.sbCount m 0x2100).answer m tid 0x2100 2 0

section
variable (L : Lane) (m : Master) (tid : Nat)

@[simp] theorem Lane.accepted_pwr : (L.accepted m tid).pwr = L.pwr := by simp [Lane.accepted]

@[simp] theorem Lane.accepted_vote : (L.accepted m tid).vote = L.vote := by simp [Lane.accepted]

@[simp] theorem Lane.accepted_mem : (L.accepted m tid).mem = L.mem := by simp [Lane.accepted]

@[simp] theorem Lane.accepted_obj (i j : Nat) : (L.accepted m tid).obj i j = L.obj i j := by simp [Lane.accepted]

theorem Lane.sbCount_readyKept (x : Nat) : L.ReadyKept (L.sbCount m x) := by
  unfold Lane.sbCount
  split <;> exact ⟨rfl, rfl, rfl, rfl, rfl, rfl, rfl, rfl⟩

theorem Lane.accepted_readyKept : L.ReadyKept (L.accepted m tid) :=
  (L.sbCount_readyKept m 0x2100).trans (Lane.answer_readyKept ..)

variable {L m} in
theorem Lane.accepted_resp (h : L.reaches m = true) : ∃ r, (L.accepted m tid).dict.resp = some r ∧ r.code = 0 :=
  ⟨_, Lane.answer_resp (L := L.sbCount m 0x2100) ((L.sbCount_reaches m 0x2100 ▸ h)) .., rfl⟩

end

section
variable {L : Lane} {m : Master} {tid k : Nat}

/-- What the side-band's request wakes is the monitor of a lane in STANDBY (R361). -/
theorem Lane.powerWrite_awake (hawake : L.pwr.state = .standby → L.pwr.monUp = true) :
    (if m = .sideBand then L.sbWake else L) = L := by
  have kept : L.sbWake = L := if_neg fun h => by simp [hawake h.1] at h
  rw [kept, ite_self]

theorem Lane.powerWrite_of_err (hr : L.reaches m = true) (hst : L.pwr.state ≠ .standby) {e : W32}
    (hw : L.writeErr m 0x2100 2 [BitVec.ofNat 8 k] true false = some e) :
    L.powerWrite m tid k = L.answer m tid 0x2100 2 e := by
  simp only [Lane.powerWrite, hr, Lane.powerWrite_awake fun h => absurd h hst, hw]
  rfl

variable (hr : L.reaches m = true) (hawake : L.pwr.state = .standby → L.pwr.monUp = true)
  (hw : L.writeErr m 0x2100 2 [BitVec.ofNat 8 k] true false = none)

include hr hawake hw

/-- A request that the present state accepts acts on the lane that was counted and answered. -/
theorem Lane.powerWrite_of_accepted (hc : (L.request m k).2 = 0) :
    L.powerWrite m tid k = ((L.accepted m tid).request m k).1 := by
  simp only [Lane.powerWrite, hr, Lane.powerWrite_awake hawake, hw, hc]
  rfl

theorem Lane.powerWrite_of_refused {e : W32} (hc : (L.request m k).2 = e) (he : e ≠ 0) :
    L.powerWrite m tid k = ((L.answer m tid 0x2100 2 e).request m k).1 := by
  simp only [Lane.powerWrite, hr, Lane.powerWrite_awake hawake, hw, hc, if_neg he]
  rfl

end

/-! ### Requests by the state (Table 15.2) -/

section
variable {L : Lane} (hphase : L.pwr.phase = 0) (m : Master) (k : Nat)

include hphase

theorem Lane.request_of_starting (h : L.pwr.state = .starting) : L.request m k = L.reqStarting m k := by
  rw [Lane.request, if_neg (fun hc => hc.1 hphase), h]

theorem Lane.request_of_hold (h : L.pwr.state = .hold) : L.request m k = L.reqHold k := by
  rw [Lane.request, if_neg (fun hc => hc.1 hphase), h]

theorem Lane.request_of_run (h : L.pwr.state = .run) : L.request m k = L.reqRun k := by
  rw [Lane.request, if_neg (fun hc => hc.1 hphase), h]

theorem Lane.request_of_standby (h : L.pwr.state = .standby) : L.request m k = L.reqStandby k := by
  rw [Lane.request, if_neg (fun hc => hc.1 hphase), h]

end

/-- RUN or HOLD of a driver that leaves towards a less active state withdraws the exit. -/
theorem Lane.reqRun_of_withdrawn {L : Lane} {k : Nat} (hd : L.vote.role.drives = true) (he : L.pwr.exit = true)
    (hk : k < 3) (hto : k < L.pwr.exitTo) : L.reqRun k = (L.stay k, 0) := by
  rw [Lane.reqRun, hd, Bool.true_or, if_pos rfl, if_pos he, if_pos ⟨hk, hto⟩]

/-- A driver that has no exit takes one at standstill and refuses it while it moves (R437). -/
theorem Lane.reqRun_of_driver {L : Lane} {k : Nat} (hd : L.vote.role.drives = true) (he : L.pwr.exit = false)
    (hk : k ≠ 1) : L.reqRun k = if L.stoodStill then (L.exitFor k, 0) else (L, eState) := by
  rw [Lane.reqRun, hd, Bool.true_or, if_pos rfl, if_neg (ne_true_of_eq_false he), if_neg hk]

/-- A lane that runs without driving goes to HOLD at once, or enters. -/
theorem Lane.reqRun_of_idle {L : Lane} {k : Nat} (hd : L.vote.role.drives = false) (hp : L.pwr.exitPassive = false)
    (hk : k ≠ 1) : L.reqRun k =
      if k = 2 then ({ L with pwr := { L.pwr with state := .hold } }, 0) else (L.enter (k = 4), 0) := by
  rw [Lane.reqRun, hd, hp, Bool.or_self, if_neg Bool.false_ne_true, if_neg hk]

/-- An entry begins: stop line asserted, role OUT, gate rail off, nothing due (R445). -/
theorem Lane.enter_begun (L : Lane) (toOff : Bool) :
    (L.enter toOff).pwr.phase = 1 ∧ (L.enter toOff).pwr.toOff = toOff ∧ (L.enter toOff).pwr.stopLine = true ∧
    (L.enter toOff).pwr.vgdOn = false ∧ (L.enter toOff).pwr.announce = true ∧ (L.enter toOff).vote.role = .out ∧
    (L.enter toOff).ta.entries = [] ∧ ∀ b, ((L.enter toOff).gates.get b).onOut = 0 := by
  refine ⟨rfl, rfl, rfl, rfl, rfl, rfl, rfl, fun b => ?_⟩
  have low : (L.enter toOff).gates = L.gates.map fun g => { g with onOut := 0, precharge := false, deadHeld := none } := rfl
  rw [low, Oct.get_map]

/-! ### The commands -/

/-- Command `c` writes the value `k` to PWR_REQ. -/
def PowerRequest (l : LaneId) (m : Master) (tid : Nat) (c : Instr) (k : Nat) : Prop :=
  ∀ s : State, exec c s = .next (s.on l fun L => L.powerWrite m tid k)

section
variable {s : State} {l : LaneId} {m : Master} {tid : Nat}

theorem pwrReqRun_powerRequest : PowerRequest l m tid (.pwrReqRun l m tid) 1 := fun _ => rfl
theorem pwrReqHold_powerRequest : PowerRequest l m tid (.pwrReqHold l m tid) 2 := fun _ => rfl
theorem pwrReqStandby_powerRequest : PowerRequest l m tid (.pwrReqStandby l m tid) 3 := fun _ => rfl
theorem pwrReqOff_powerRequest : PowerRequest l m tid (.pwrReqOff l m tid) 4 := fun _ => rfl

section
variable {c : Instr} {k : Nat} (hreq : PowerRequest l m tid c k)

include hreq

theorem PowerRequest.exec_of_unreached (hr : (s.lane l).reaches m = false) : exec c s = .next s :=
  (hreq s).trans (congrArg Host.Outcome.next (s.on_id l (if_pos hr)))

theorem PowerRequest.exec_of_err (hr : (s.lane l).reaches m = true) (hst : (s.lane l).pwr.state ≠ .standby) {e : W32}
    (hw : (s.lane l).writeErr m 0x2100 2 [BitVec.ofNat 8 k] true false = some e) :
    exec c s = .next (s.on l fun L => L.answer m tid 0x2100 2 e) :=
  (hreq s).trans (congrArg Host.Outcome.next (s.on_congr l (Lane.powerWrite_of_err hr hst hw)))

variable (hr : (s.lane l).reaches m = true) (hphase : (s.lane l).pwr.phase = 0)
  (hw : (s.lane l).writeErr m 0x2100 2 [BitVec.ofNat 8 k] true false = none)

include hr hphase hw

section
variable (hst : (s.lane l).pwr.state ≠ .standby)

include hst

omit hphase in
/-- A request that is accepted leaves what it makes of the counted and answered lane. -/
theorem PowerRequest.exec_of_accepted {M : Lane} (hc : ((s.lane l).request m k).2 = 0)
    (hM : (((s.lane l).accepted m tid).request m k).1 = M) :
    ∃ t, exec c s = .next t ∧ OnlyLane l s t ∧ t.lane l = M := by
  refine ⟨_, hreq s, s.onlyLane_on l _, ?_⟩
  rw [s.lane_on_same, Lane.powerWrite_of_accepted hr (fun h => absurd h hst) hw hc, hM]

omit hphase in
/-- One that the state takes and that has nothing to do is answered 0. -/
theorem PowerRequest.exec_of_noted (hc : ((s.lane l).request m k).2 = 0)
    (hM : (((s.lane l).accepted m tid).request m k).1 = (s.lane l).accepted m tid) :
    exec c s = .next (s.on l fun L => (L.sbCount m 0x2100).answer m tid 0x2100 2 0) :=
  (hreq s).trans (congrArg Host.Outcome.next
    (s.on_congr l ((Lane.powerWrite_of_accepted hr (fun h => absurd h hst) hw hc).trans hM)))

omit hphase in
/-- One that the state refuses is answered with the code of the present state. -/
theorem PowerRequest.exec_of_refused (hc : ((s.lane l).request m k).2 = eState)
    (hM : (((s.lane l).answer m tid 0x2100 2 eState).request m k).1 = (s.lane l).answer m tid 0x2100 2 eState) :
    exec c s = .next (s.on l fun L => L.answer m tid 0x2100 2 0x08000022) :=
  (hreq s).trans (congrArg Host.Outcome.next
    (s.on_congr l ((Lane.powerWrite_of_refused hr (fun h => absurd h hst) hw hc (by decide)).trans hM)))

end

/-- A driver takes HOLD, STANDBY or OFF as an exit at standstill, and refuses it while it moves. -/
theorem PowerRequest.exec_of_driver (hk : k ≠ 1) (hrun : (s.lane l).pwr.state = .run)
    (hd : (s.lane l).vote.role.drives = true) (he : (s.lane l).pwr.exit = false) :
    ((s.lane l).stoodStill = true → ∃ t, exec c s = .next t ∧ OnlyLane l s t ∧
      (t.lane l).pwr = { (s.lane l).pwr with exit := true, exitTo := k } ∧ (t.lane l).vote = (s.lane l).vote ∧
      (∃ r, (t.lane l).dict.resp = some r ∧ r.code = 0)) ∧
    ((s.lane l).stoodStill = false → exec c s = .next (s.on l fun L => L.answer m tid 0x2100 2 0x08000022)) := by
  have hst : (s.lane l).pwr.state ≠ .standby := by rw [hrun]; decide
  have request (A : Lane) (hp : A.pwr = (s.lane l).pwr) (hv : A.vote = (s.lane l).vote) : A.request m k =
      if (s.lane l).stoodStill then (A.exitFor k, 0) else (A, eState) := by
    rw [Lane.request_of_run (by rw [hp, hphase]) m k (by rw [hp, hrun]), Lane.reqRun_of_driver (by rw [hv, hd]) (by rw [hp, he]) hk,
      Lane.stoodStill, hv, Lane.stoodStill]
  refine ⟨fun hstill => ?_, fun hmoves => ?_⟩
  · obtain ⟨t, ht, hl, hM⟩ := hreq.exec_of_accepted hr hw hst (M := ((s.lane l).accepted m tid).exitFor k)
      (by rw [request _ rfl rfl, if_pos hstill]) (by rw [request _ (by simp) (by simp), if_pos hstill])
    refine ⟨t, ht, hl, ?_⟩
    rw [hM, Lane.exitFor, Lane.accepted_pwr]
    exact ⟨rfl, Lane.accepted_vote .., Lane.accepted_resp tid hr⟩
  · have hno := ne_true_of_eq_false hmoves
    exact hreq.exec_of_refused hr hw hst (by rw [request _ rfl rfl, if_neg hno])
      (by rw [request _ (by simp) (by simp), if_neg hno])

/-- STANDBY and OFF begin an entry from HOLD, and from RUN without driving. -/
theorem PowerRequest.exec_of_entry (hk1 : k ≠ 1) (hk2 : k ≠ 2) (h : (s.lane l).pwr.state = .hold ∨
      ((s.lane l).pwr.state = .run ∧ (s.lane l).vote.role.drives = false ∧ (s.lane l).pwr.exitPassive = false)) :
    ∃ t, exec c s = .next t ∧ OnlyLane l s t ∧ (t.lane l).pwr.phase = 1 ∧ (t.lane l).pwr.toOff = decide (k = 4) ∧
      (t.lane l).pwr.stopLine = true ∧ (t.lane l).pwr.vgdOn = false ∧ (t.lane l).pwr.announce = true ∧
      (t.lane l).vote.role = .out ∧ (t.lane l).ta.entries = [] ∧ (∀ b, ((t.lane l).gates.get b).onOut = 0) := by
  have entry (A : Lane) (hp : A.pwr = (s.lane l).pwr) (hv : A.vote = (s.lane l).vote) :
      ∃ B : Lane, A.request m k = (B.enter (k = 4), 0) := by
    obtain hhold | ⟨hrun, hd, hpas⟩ := h
    · refine ⟨A.lptDemand, ?_⟩
      rw [Lane.request_of_hold (by rw [hp, hphase]) m k (by rw [hp, hhold]), Lane.reqHold, if_neg hk1, if_neg hk2]
    · refine ⟨A, ?_⟩
      rw [Lane.request_of_run (by rw [hp, hphase]) m k (by rw [hp, hrun]),
        Lane.reqRun_of_idle (by rw [hv, hd]) (by rw [hp, hpas]) hk1, if_neg hk2]
  have hst : (s.lane l).pwr.state ≠ .standby := by
    obtain hhold | ⟨hrun, -⟩ := h
    · rw [hhold]; decide
    · rw [hrun]; decide
  obtain ⟨_, hnow⟩ := entry (s.lane l) rfl rfl
  obtain ⟨B, hB⟩ := entry ((s.lane l).accepted m tid) (by simp) (by simp)
  obtain ⟨t, ht, hl, hM⟩ := hreq.exec_of_accepted hr hw hst (congrArg Prod.snd hnow) (congrArg Prod.fst hB)
  exact ⟨t, ht, hl, by rw [hM]; exact B.enter_begun _⟩

/-- A starting lane keeps the request for later. -/
theorem PowerRequest.exec_of_starting (hk1 : k ≠ 1) (h : (s.lane l).pwr.state = .starting) :
    ∃ t, exec c s = .next t ∧ OnlyLane l s t ∧
      (t.lane l).pwr = { (s.lane l).pwr with pending := if k = 2 then 0 else k - 1 } ∧
      (t.lane l).vote = (s.lane l).vote := by
  have kept (A : Lane) (hp : A.pwr = (s.lane l).pwr) : A.request m k =
      ({ A with pwr := { A.pwr with pending := if k = 2 then 0 else k - 1 } }, 0) := by
    rw [Lane.request_of_starting (by rw [hp, hphase]) m k (by rw [hp, h]), Lane.reqStarting, if_neg hk1]
  obtain ⟨t, ht, hl, hM⟩ := hreq.exec_of_accepted hr hw (by rw [h]; decide) (by rw [kept _ rfl])
    (by rw [kept _ (Lane.accepted_pwr ..)])
  refine ⟨t, ht, hl, ?_⟩
  rw [hM, Lane.accepted_pwr]
  exact ⟨rfl, Lane.accepted_vote ..⟩

/-- RUN and HOLD wake a lane in STANDBY where WAKE_EN bit 2 allows it (R444). -/
theorem PowerRequest.exec_of_standby (hk : k = 1 ∨ k = 2) (h : (s.lane l).pwr.state = .standby)
    (hup : (s.lane l).pwr.monUp = true) :
    (bit ((s.lane l).obj 0x2101 1) 2 = true → ∃ t, exec c s = .next t ∧ OnlyLane l s t ∧
      (t.lane l).pwr.state = .starting ∧ (t.lane l).pwr.step = 1 ∧
      (t.lane l).pwr.kind = (if (s.lane l).mem.valid then 3 else 0) ∧ (t.lane l).pwr.wakeSrc = 4) ∧
    (bit ((s.lane l).obj 0x2101 1) 2 = false →
      exec c s = .next (s.on l fun L => L.answer m tid 0x2100 2 0x08000022)) := by
  have request (A : Lane) (hp : A.pwr = (s.lane l).pwr) (ho : A.obj 0x2101 1 = (s.lane l).obj 0x2101 1) :
      A.request m k = if bit ((s.lane l).obj 0x2101 1) 2 then (A.wakeUp 4, 0) else (A, eState) := by
    rw [Lane.request_of_standby (by rw [hp, hphase]) m k (by rw [hp, h]), Lane.reqStandby, if_neg (by omega),
      if_neg (by omega), ho]
  have hawake : (s.lane l).pwr.state = .standby → (s.lane l).pwr.monUp = true := fun _ => hup
  refine ⟨fun hen => ⟨_, hreq s, s.onlyLane_on l _, ?_⟩, fun hno => ?_⟩
  · rw [s.lane_on_same, Lane.powerWrite_of_accepted hr hawake hw (by rw [request _ rfl rfl, if_pos hen]),
      request _ (by simp) (by simp), if_pos hen]
    refine ⟨rfl, rfl, ?_, rfl⟩
    rw [← Lane.accepted_mem (s.lane l) m tid]
    rfl
  · have hn := ne_true_of_eq_false hno
    refine (hreq s).trans (congrArg Host.Outcome.next (s.on_congr l ?_))
    rw [Lane.powerWrite_of_refused hr hawake hw (e := eState) (by rw [request _ rfl rfl, if_neg hn]) (by decide),
      request _ (by simp) (by simp), if_neg hn]
    rfl

end

/-! ### RUN -/

section
variable (hr : (s.lane l).reaches m = true) (hphase : (s.lane l).pwr.phase = 0)
  (hw : (s.lane l).writeErr m 0x2100 2 [1] true false = none)

include hr hphase hw

theorem exec_pwrReqRun_of_ready (h : (s.lane l).pwr.state = .hold) (hready : (s.lane l).runOk = true) :
    ∃ t, exec (.pwrReqRun l m tid) s = .next t ∧
      OnlyLane l s t ∧ (t.lane l).pwr = { (s.lane l).pwr with state := .run } ∧ (t.lane l).vote = (s.lane l).vote ∧
      (∃ r, (t.lane l).dict.resp = some r ∧ r.code = 0) := by
  have request (A : Lane) (hp : A.pwr = (s.lane l).pwr) (kept : (s.lane l).ReadyKept A) : A.request m 1 =
      ({ A.lptDemand with pwr := { A.lptDemand.pwr with state := .run } }, 0) := by
    rw [Lane.request_of_hold (by rw [hp, hphase]) m 1 (by rw [hp, h]), Lane.reqHold, if_pos rfl,
      if_pos (by rw [kept.runOk, hready])]
  obtain ⟨t, ht, hl, hM⟩ := pwrReqRun_powerRequest.exec_of_accepted (tid := tid) hr (by exact hw) (by rw [h]; decide)
    (by rw [request _ rfl (.refl _)]) (by rw [request _ (by simp) (Lane.accepted_readyKept ..)])
  refine ⟨t, ht, hl, ?_⟩
  have demanded (A : Lane) : A.lptDemand.dict = A.dict := by unfold Lane.lptDemand; split <;> rfl
  rw [hM, Lane.lptDemand_pwr, Lane.accepted_pwr, (Lane.lptDemand_voteKept _).2, Lane.accepted_vote]
  refine ⟨rfl, rfl, ?_⟩
  dsimp only
  rw [demanded]
  exact Lane.accepted_resp tid hr

theorem exec_pwrReqRun_of_running (h : (s.lane l).pwr.state = .run) (he : (s.lane l).pwr.exit = false) :
    exec (.pwrReqRun l m tid) s = .next (s.on l fun L => (L.sbCount m 0x2100).answer m tid 0x2100 2 0) := by
  have request (A : Lane) (hp : A.pwr = (s.lane l).pwr) : A.request m 1 = (A, 0) := by
    rw [Lane.request_of_run (by rw [hp, hphase]) m 1 (by rw [hp, h]), Lane.reqRun,
      if_neg (c := A.pwr.exit = true) (by rw [hp, he]; decide), if_pos rfl, if_pos rfl, ite_self]
  exact pwrReqRun_powerRequest.exec_of_noted hr (by exact hw) (by rw [h]; decide) (by rw [request _ rfl])
    (by rw [request _ (Lane.accepted_pwr ..)])

theorem exec_pwrReqRun_of_leaving (h : (s.lane l).pwr.state = .run) (hd : (s.lane l).vote.role.drives = true)
    (he : (s.lane l).pwr.exit = true) (hp : (s.lane l).pwr.exitPassive = false) (hto : 1 < (s.lane l).pwr.exitTo) :
    ∃ t, exec (.pwrReqRun l m tid) s = .next t ∧
      OnlyLane l s t ∧ (t.lane l).pwr = { (s.lane l).pwr with exit := false, exitTo := 0 } ∧
      (t.lane l).vote = (s.lane l).vote := by
  have request (A : Lane) (hpwr : A.pwr = (s.lane l).pwr) (hv : A.vote = (s.lane l).vote) : A.request m 1 =
      ({ A with pwr := { A.pwr with exit := false, exitTo := 0 } }, 0) := by
    rw [Lane.request_of_run (by rw [hpwr, hphase]) m 1 (by rw [hpwr, h]), Lane.reqRun_of_withdrawn (by rw [hv, hd])
      (by rw [hpwr, he]) (by decide) (by rw [hpwr]; exact hto), Lane.stay, if_neg (by rw [hpwr, hp]; decide)]
  obtain ⟨t, ht, hl, hM⟩ := pwrReqRun_powerRequest.exec_of_accepted (tid := tid) hr (by exact hw) (by rw [h]; decide)
    (by rw [request _ rfl rfl]) (by rw [request _ (by simp) (by simp)])
  refine ⟨t, ht, hl, ?_⟩
  rw [hM, Lane.accepted_pwr]
  exact ⟨rfl, Lane.accepted_vote ..⟩

theorem exec_pwrReqRun_of_starting (h : (s.lane l).pwr.state = .starting) (htest : (s.lane l).mem.testing = false) :
    exec (.pwrReqRun l m tid) s = .next (s.on l fun L => L.answer m tid 0x2100 2 0x08000022) := by
  have request (A : Lane) (hp : A.pwr = (s.lane l).pwr) (hm : A.mem = (s.lane l).mem) : A.request m 1 = (A, eState) := by
    have still : A.testDemand = A := if_neg (by rw [hm, htest]; decide)
    rw [Lane.request_of_starting (by rw [hp, hphase]) m 1 (by rw [hp, h]), Lane.reqStarting, if_pos rfl, still, ite_self]
  exact pwrReqRun_powerRequest.exec_of_refused hr (by exact hw) (by rw [h]; decide) (by rw [request _ rfl rfl])
    (by rw [request _ (by simp) (by simp)])

end

/-! ### HOLD -/

section
variable (hr : (s.lane l).reaches m = true) (hphase : (s.lane l).pwr.phase = 0)
  (hw : (s.lane l).writeErr m 0x2100 2 [2] true false = none)

include hr hphase hw

theorem exec_pwrReqHold_of_hold (h : (s.lane l).pwr.state = .hold) :
    exec (.pwrReqHold l m tid) s = .next (s.on l fun L => (L.sbCount m 0x2100).answer m tid 0x2100 2 0) := by
  have request (A : Lane) (hp : A.pwr = (s.lane l).pwr) : A.request m 2 = (A, 0) := by
    rw [Lane.request_of_hold (by rw [hp, hphase]) m 2 (by rw [hp, h]), Lane.reqHold, if_neg (by decide), if_pos rfl]
  exact pwrReqHold_powerRequest.exec_of_noted hr (by exact hw) (by rw [h]; decide) (by rw [request _ rfl])
    (by rw [request _ (Lane.accepted_pwr ..)])

theorem exec_pwrReqHold_of_idle (h : (s.lane l).pwr.state = .run) (hd : (s.lane l).vote.role.drives = false)
    (hp : (s.lane l).pwr.exitPassive = false) :
    ∃ t, exec (.pwrReqHold l m tid) s = .next t ∧ OnlyLane l s t ∧
      (t.lane l).pwr = { (s.lane l).pwr with state := .hold } ∧ (t.lane l).vote = (s.lane l).vote := by
  have request (A : Lane) (hpwr : A.pwr = (s.lane l).pwr) (hv : A.vote = (s.lane l).vote) : A.request m 2 =
      ({ A with pwr := { A.pwr with state := .hold } }, 0) := by
    rw [Lane.request_of_run (by rw [hpwr, hphase]) m 2 (by rw [hpwr, h]), Lane.reqRun_of_idle (by rw [hv, hd])
      (by rw [hpwr, hp]) (by decide), if_pos rfl]
  obtain ⟨t, ht, hl, hM⟩ := pwrReqHold_powerRequest.exec_of_accepted (tid := tid) hr (by exact hw) (by rw [h]; decide)
    (by rw [request _ rfl rfl]) (by rw [request _ (by simp) (by simp)])
  refine ⟨t, ht, hl, ?_⟩
  rw [hM, Lane.accepted_pwr]
  exact ⟨rfl, Lane.accepted_vote ..⟩

end

/-! ### STANDBY and OFF of a lane in STANDBY -/

theorem exec_pwrReqStandby_of_standby (hr : (s.lane l).reaches m = true) (hphase : (s.lane l).pwr.phase = 0)
    (h : (s.lane l).pwr.state = .standby) (hup : (s.lane l).pwr.monUp = true)
    (hw : (s.lane l).writeErr m 0x2100 2 [3] true false = none) :
    exec (.pwrReqStandby l m tid) s = .next (s.on l fun L => (L.sbCount m 0x2100).answer m tid 0x2100 2 0) := by
  have request (A : Lane) (hp : A.pwr = (s.lane l).pwr) : A.request m 3 = (A, 0) := by
    rw [Lane.request_of_standby (by rw [hp, hphase]) m 3 (by rw [hp, h]), Lane.reqStandby, if_pos rfl]
  refine congrArg Host.Outcome.next (s.on_congr l ?_)
  rw [Lane.powerWrite_of_accepted hr (fun _ => hup) (by exact hw) (by rw [request _ rfl]), request _ (Lane.accepted_pwr ..)]
  rfl

theorem exec_pwrReqOff_of_standby (hr : (s.lane l).reaches m = true) (hphase : (s.lane l).pwr.phase = 0)
    (h : (s.lane l).pwr.state = .standby) (hup : (s.lane l).pwr.monUp = true)
    (hw : (s.lane l).writeErr m 0x2100 2 [4] true false = none) :
    ∃ t, exec (.pwrReqOff l m tid) s = .next t ∧
      OnlyLane l s t ∧ (t.lane l).pwr.state = .off ∧ (t.lane l).sleep.valid = false := by
  have request (A : Lane) (hp : A.pwr = (s.lane l).pwr) : A.request m 4 = (A.goOff, 0) := by
    rw [Lane.request_of_standby (by rw [hp, hphase]) m 4 (by rw [hp, h]), Lane.reqStandby, if_neg (by decide), if_pos rfl]
  refine ⟨_, rfl, s.onlyLane_on l _, ?_⟩
  rw [s.lane_on_same, Lane.powerWrite_of_accepted hr (fun _ => hup) (by exact hw) (by rw [request _ rfl]),
    request _ (Lane.accepted_pwr ..)]
  exact ⟨rfl, rfl⟩

/-! ### AUTO_RUN (R436) -/

theorem exec_autoRunRequest_of_ready (h : ((s.lane l).alive && (s.lane l).vote.running && (s.lane l).obj 0x2100 3 == 1 &&
      (s.lane l).pwr.state == .hold && (s.lane l).runOk) = true) :
    ∃ t, exec (.autoRunRequest l) s = .next t ∧ OnlyLane l s t ∧
      (t.lane l).pwr = { (s.lane l).pwr with state := .run } ∧ (t.lane l).vote = (s.lane l).vote := by
  refine ⟨s.on l fun L => { L.lptDemand with pwr := { L.lptDemand.pwr with state := .run } },
    congrArg Host.Outcome.next (s.on_congr l (if_pos h)), s.onlyLane_on l _, ?_⟩
  rw [s.lane_on_same, Lane.lptDemand_pwr]
  exact ⟨rfl, (Lane.lptDemand_voteKept _).2⟩

end

/-- Settles O43: every request by the row of Table 15.2 it meets; the answer that comes before it changes none of what that
row looks at. -/
theorem powerRequests : Obligations.PowerRequests := by
  unfold Obligations.PowerRequests
  intro s l m tid
  refine ⟨fun h => ⟨pwrReqRun_powerRequest.exec_of_unreached h, pwrReqHold_powerRequest.exec_of_unreached h,
      pwrReqStandby_powerRequest.exec_of_unreached h, pwrReqOff_powerRequest.exec_of_unreached h⟩,
    fun hr hst e => ⟨pwrReqRun_powerRequest.exec_of_err hr hst, pwrReqHold_powerRequest.exec_of_err hr hst,
      pwrReqStandby_powerRequest.exec_of_err hr hst, pwrReqOff_powerRequest.exec_of_err hr hst⟩,
    fun hr hp hw => ⟨exec_pwrReqRun_of_ready hr hp hw, fun h hno => ?_, exec_pwrReqRun_of_running hr hp hw,
      exec_pwrReqRun_of_leaving hr hp hw, exec_pwrReqRun_of_starting hr hp hw⟩,
    fun hr hp hw => ⟨exec_pwrReqHold_of_hold hr hp hw, exec_pwrReqHold_of_idle hr hp hw⟩,
    fun c k hc hr hp hw => ?_,
    fun _ hr hp hst hup => ⟨exec_pwrReqStandby_of_standby hr hp hst hup, exec_pwrReqOff_of_standby hr hp hst hup,
      fun c k hc hw => ?_⟩,
    exec_autoRunRequest_of_ready, fun h => congrArg Host.Outcome.next (s.on_id l (if_neg (ne_true_of_eq_false h)))⟩
  · exact congrArg Host.Outcome.next (s.on_congr l (Lane.powerWrite_refused hr h hp hno hw))
  · have hreq : PowerRequest l m tid c k := by
      obtain ⟨rfl, rfl⟩ | ⟨rfl, rfl⟩ | ⟨rfl, rfl⟩ := hc <;> exact fun _ => rfl
    have hk : k ≠ 1 := by omega
    exact ⟨hreq.exec_of_driver hr hp hw hk, fun h hk2 => hreq.exec_of_entry hr hp hw hk hk2 h,
      hreq.exec_of_starting hr hp hw hk⟩
  · obtain ⟨rfl, rfl⟩ | ⟨rfl, rfl⟩ := hc
    · exact pwrReqRun_powerRequest.exec_of_standby hr hp hw (.inl rfl) hst hup
    · exact pwrReqHold_powerRequest.exec_of_standby hr hp hw (.inr rfl) hst hup

end Sys2Proof.Machine
end

section
/-! PROOFS, exits and the first drivers of a module (O44). -/
namespace Sys2Proof.Machine

/-! ### Succession order (R69) -/

/-- Every lane stands in succession order. -/
theorem mem_succession (pref : Nat) (l : LaneId) : l ∈ succession pref := by
  have hlt : pref % 3 < 3 := Nat.mod_lt _ (by decide)
  have h1 : (pref + 1) % 3 = (pref % 3 + 1) % 3 := Nat.add_mod ..
  have h2 : (pref + 2) % 3 = (pref % 3 + 2) % 3 := Nat.add_mod ..
  simp only [succession, LaneId.ofNum, h1, h2]
  generalize pref % 3 = n at hlt ⊢
  interval_cases n <;> cases l <;> decide

/-- Where some lane has the property, the first in succession order has it. -/
theorem Lane.exists_successor (L : Lane) {p : LaneId → Bool} {q : LaneId} (h : p q = true) :
    ∃ d, L.successor p = some d ∧ p d = true := by
  have found : ((succession (L.obj 0x2600 7)).find? p).isSome := List.find?_isSome.2 ⟨q, mem_succession _ q, h⟩
  obtain ⟨d, hd⟩ := Option.isSome_iff_exists.1 found
  exact ⟨d, hd, List.find?_some hd⟩

theorem mem_allLanes (l : LaneId) : l ∈ allLanes := by cases l <;> decide

/-- Where some lane drives, some driver leads after the succession. -/
theorem State.exists_lead_succeed {s : State} {q : LaneId} (h : s.drives q = true) :
    ∃ d, (s.lane d).vote.role.drives = true ∧ (s.succeed.lane d).vote.role = .lead := by
  unfold State.succeed
  split
  next hany =>
    obtain ⟨d, -, hd⟩ := List.any_eq_true.1 hany
    have hlead := beq_iff_eq.1 hd
    exact ⟨d, by rw [hlead]; rfl, hlead⟩
  · dsimp only
    have hq : q ∈ allLanes.filter s.drives := List.mem_filter.2 ⟨mem_allLanes q, h⟩
    split
    next hnone => rw [List.head?_eq_none_iff.1 hnone] at hq; cases hq
    next d hd =>
      obtain ⟨p, hp, hin⟩ := (s.lane d).exists_successor (p := (allLanes.filter s.drives).contains)
        (List.contains_iff_mem.2 hq)
      rw [hp]
      refine ⟨p, (List.mem_filter.1 (List.contains_iff_mem.1 hin)).2, ?_⟩
      rw [State.lane_on_same]

/-! ### Leaving -/

/-- A driver that left: no exit any more, its stop line asserted, on its way to the state it asked for. -/
theorem Lane.proceed_spec {L : Lane} (hstop : L.pwr.stopLine = true) (hrole : L.vote.role = .shadow) (k : Nat) :
    (L.proceed k).pwr.stopLine = true ∧ (L.proceed k).pwr.exit = false ∧ (L.proceed k).pwr.exitPassive = false ∧
    (k = 2 → (L.proceed k).pwr.state = .hold ∧ (L.proceed k).vote.role = .shadow) ∧
    (k = 3 ∨ k = 4 → (L.proceed k).pwr.phase = 1 ∧ (L.proceed k).pwr.toOff = decide (k = 4) ∧
      (L.proceed k).vote.role = .out) := by
  unfold Lane.proceed
  dsimp only
  split
  · exact ⟨hstop, rfl, rfl, fun _ => ⟨rfl, hrole⟩, fun h => by omega⟩
  · exact ⟨rfl, rfl, rfl, fun h => by omega, fun _ => ⟨rfl, rfl, rfl⟩⟩
  · exact ⟨rfl, rfl, rfl, fun h => by omega, fun _ => ⟨rfl, rfl, rfl⟩⟩
  next h2 h3 h4 => exact ⟨hstop, rfl, rfl, fun h => absurd h h2, fun h => absurd h (not_or.2 ⟨h3, h4⟩)⟩

/-- The module once the exiting lane is SHADOW and its exit has run out. -/
def State.leftDrive (s : State) (l : LaneId) : State :=
  (s.on l Lane.leaveDrive).onAll fun M => { M with svc := { M.svc with exitStep := M.svc.exitStep.set l none } }

/-- The successor leads, every lane knows it and judges its stop. -/
def State.handedOver (s : State) : State :=
  s.succeed.views.onAll fun M => if M.alive && M.vote.running then M.judgeStop else M

section
variable (s : State) (l : LaneId)

theorem State.leftDrive_same : (s.leftDrive l).drives l = false ∧ ((s.leftDrive l).lane l).pwr.stopLine = true ∧
    ((s.leftDrive l).lane l).vote.role = .shadow := by
  rw [State.drives, State.leftDrive, State.lane_onAll, State.lane_on_same]
  exact ⟨rfl, rfl, rfl⟩

variable {l} in
theorem State.leftDrive_ne {p : LaneId} (h : p ≠ l) : ((s.leftDrive l).lane p).pwr = (s.lane p).pwr ∧
    ((s.leftDrive l).lane p).vote = (s.lane p).vote := by
  rw [State.leftDrive, State.lane_onAll, State.lane_on_ne _ _ h]
  exact ⟨rfl, rfl⟩

theorem State.lane_views_role (p : LaneId) : (s.views.lane p).vote.role = (s.lane p).vote.role := by
  rw [State.views, State.lane_onAll]
  split <;> rfl

/-- The succession, the views and the stop leave the power state, and every role but that of the lead. -/
theorem State.handedOver_lane (p : LaneId) : (s.handedOver.lane p).pwr = (s.lane p).pwr ∧
    (s.handedOver.lane p).vote.role = (s.succeed.lane p).vote.role := by
  have judged (M : Lane) : (if M.alive && M.vote.running then M.judgeStop else M).pwr = M.pwr ∧
      (if M.alive && M.vote.running then M.judgeStop else M).vote = M.vote := by
    split
    · exact ⟨M.judgeStop_pwr, M.judgeStop_voteKept.2⟩
    · exact ⟨rfl, rfl⟩
  obtain ⟨hpwr, hvote⟩ := judged (s.succeed.views.lane p)
  rw [State.handedOver, State.lane_onAll, hpwr, hvote]
  exact ⟨by rw [State.lane_views_pwr, State.lane_succeed_pwr], State.lane_views_role _ p⟩

theorem State.handedOver_lanesOnly : LanesOnly s s.handedOver := by
  obtain ⟨hpub, hpend, hfree⟩ := s.succeed_lanesOnly
  exact ⟨hpub, hpend, hfree⟩

end

/-! ### EXIT_RAMP_END and EXIT_PASSIVE_END (R438) -/

section
variable {s : State} {l : LaneId}

theorem exec_exitRampEnd_of_done {e : Nat} (ha : (s.lane l).alive = true) (hx : (s.lane l).pwr.exit = true)
    (hp : (s.lane l).pwr.exitPassive = false) (hd : (s.lane l).vote.role.drives = true)
    (he : (s.lane l).svc.exitStep.get l = some e) (hle : (s.lane l).rampSteps ≤ e) :
    exec (.exitRampEnd l) s =
      .next ((s.leftDrive l).handedOver.on l fun M => M.proceed (s.lane l).pwr.exitTo) := by
  refine (if_pos ?_ : execExitRampEnd l s = _)
  simp [ha, hx, hp, hd, he, hle]

theorem exec_exitRampEnd_leaves {e : Nat} (ha : (s.lane l).alive = true) (hx : (s.lane l).pwr.exit = true)
    (hp : (s.lane l).pwr.exitPassive = false) (hd : (s.lane l).vote.role.drives = true)
    (he : (s.lane l).svc.exitStep.get l = some e) (hle : (s.lane l).rampSteps ≤ e) :
    ∃ t, exec (.exitRampEnd l) s = .next t ∧ LanesOnly s t ∧ (t.lane l).pwr.stopLine = true ∧
      (t.lane l).pwr.exit = false ∧
      ((s.lane l).pwr.exitTo = 2 → (t.lane l).pwr.state = .hold ∧ (t.lane l).vote.role = .shadow) ∧
      ((s.lane l).pwr.exitTo = 3 ∨ (s.lane l).pwr.exitTo = 4 → (t.lane l).pwr.phase = 1 ∧
        (t.lane l).pwr.toOff = decide ((s.lane l).pwr.exitTo = 4) ∧ (t.lane l).vote.role = .out) ∧
      (∀ p, p ≠ l → (t.lane p).pwr = (s.lane p).pwr ∧
        ((t.lane p).vote.role = (s.lane p).vote.role ∨ (t.lane p).vote.role = .lead)) ∧
      ((∃ p, p ≠ l ∧ (s.lane p).vote.role.drives = true) → ∃ q, q ≠ l ∧ (t.lane q).vote.role = .lead) := by
  obtain ⟨hidle, hstop, hrole⟩ := s.leftDrive_same l
  have handed := (s.leftDrive l).handedOver_lane
  have shadow : ((s.leftDrive l).handedOver.lane l).vote.role = .shadow := by
    obtain ⟨r, hr, hcase⟩ := (s.leftDrive l).exists_succeed_lane l
    rw [(handed l).2, hr]
    obtain hsame | ⟨hdrive, -⟩ := hcase
    · exact hsame.trans hrole
    · rw [State.drives] at hidle
      rw [hidle] at hdrive
      cases hdrive
  obtain ⟨stop', exit', -, hold', entry'⟩ := Lane.proceed_spec (L := (s.leftDrive l).handedOver.lane l)
    (by rw [(handed l).1, hstop]) shadow (s.lane l).pwr.exitTo
  have lanes : LanesOnly s (s.leftDrive l).handedOver := (s.leftDrive l).handedOver_lanesOnly
  refine ⟨_, exec_exitRampEnd_of_done ha hx hp hd he hle, lanes, ?_⟩
  rw [State.lane_on_same]
  refine ⟨stop', exit', hold', entry', fun p hpl => ?_, fun ⟨p, hpl, hdrive⟩ => ?_⟩
  · rw [State.lane_on_ne _ _ hpl, (handed p).1, (handed p).2]
    obtain ⟨hpwr, hvote⟩ := s.leftDrive_ne hpl
    obtain ⟨r, hr, hcase⟩ := (s.leftDrive l).exists_succeed_lane p
    refine ⟨hpwr, ?_⟩
    rw [hr, ← hvote]
    exact hcase.imp_right And.right
  · obtain ⟨q, hq, hlead⟩ := State.exists_lead_succeed (s := s.leftDrive l) (q := p)
      (by rw [State.drives, (s.leftDrive_ne hpl).2, hdrive])
    have hql : q ≠ l := by
      rintro rfl
      rw [State.drives] at hidle
      rw [hidle] at hq
      cases hq
    exact ⟨q, hql, by rw [State.lane_on_ne _ _ hql, (handed q).2, hlead]⟩

theorem exec_exitRampEnd_of_not
    (h : ((s.lane l).alive && (s.lane l).pwr.exit && !(s.lane l).pwr.exitPassive && (s.lane l).vote.role.drives) = false ∨
      (s.lane l).svc.exitStep.get l = none ∨
      (∃ e, (s.lane l).svc.exitStep.get l = some e ∧ e < (s.lane l).rampSteps)) :
    exec (.exitRampEnd l) s = .next s := by
  refine (if_neg ?_ : execExitRampEnd l s = _)
  obtain hc | hn | ⟨e, he, hlt⟩ := h
  · simp only [hc, Bool.false_and, Bool.false_eq_true, not_false_eq_true]
  · simp [hn]
  · simp [he, hlt]

end

theorem exec_exitPassiveEnd (s : State) :
    ∃ t, exec .exitPassiveEnd s = .next t ∧ LanesOnly s t ∧ ∀ l,
      (((s.lane l).alive && (s.lane l).pwr.exitPassive && (s.lane l).vote.role == .shadow) = false → t.lane l = s.lane l) ∧
      (((s.lane l).alive && (s.lane l).pwr.exitPassive && (s.lane l).vote.role == .shadow) = true →
        (t.lane l).pwr.exitPassive = false ∧ (t.lane l).pwr.stopLine = true ∧
        ((s.lane l).pwr.exitTo = 2 → (t.lane l).pwr.state = .hold ∧ (t.lane l).vote.role = .shadow) ∧
        ((s.lane l).pwr.exitTo = 3 ∨ (s.lane l).pwr.exitTo = 4 → (t.lane l).pwr.phase = 1 ∧
          (t.lane l).pwr.toOff = decide ((s.lane l).pwr.exitTo = 4) ∧ (t.lane l).vote.role = .out)) := by
  refine ⟨_, rfl, ⟨rfl, rfl, rfl⟩, fun l => ⟨fun h => ?_, fun h => ?_⟩⟩
  · rw [State.lane_onAll, if_neg (ne_true_of_eq_false h)]
  · rw [State.lane_onAll, if_pos h]
    obtain ⟨stop', -, passive', hold', entry'⟩ :=
      Lane.proceed_spec (L := (s.lane l).leaveDrive) rfl rfl (s.lane l).pwr.exitTo
    exact ⟨passive', stop', hold', entry'⟩

/-! ### MODULE_FORMATION (R440) -/

/-- A lane at the formation of the drivers `ds` with that lead. -/
def Lane.formed (L : Lane) (ds : List LaneId) (lead : Option LaneId) : Lane :=
  let M := if L.voting then L.moduleStart ds else L
  if ds.contains L.id then
    { M with vote := { M.vote with
        role := if lead = some L.id then .lead else .follower, relAtApply := true, roleDue := none } }
  else M

section
variable (L : Lane) {ds : List LaneId} (lead : Option LaneId)

theorem Lane.formed_pwr : (L.formed ds lead).pwr = L.pwr := by
  unfold Lane.formed
  dsimp only
  (repeat' split) <;> rfl

variable {L} in
theorem Lane.formed_of_former (h : L.id ∈ ds) : (L.formed ds lead).vote.relAtApply = true ∧
    (L.formed ds lead).vote.role = if lead = some L.id then .lead else .follower := by
  rw [Lane.formed, if_pos (List.contains_iff_mem.2 h)]
  exact ⟨rfl, rfl⟩

variable {L} in
theorem Lane.formed_of_not (h : L.id ∉ ds) : (L.formed ds lead).vote.role = L.vote.role := by
  rw [Lane.formed, if_neg fun hc => h (List.contains_iff_mem.1 hc)]
  split <;> rfl

end

theorem State.lane_views_relAtApply (s : State) (p : LaneId) :
    (s.views.lane p).vote.relAtApply = (s.lane p).vote.relAtApply := by
  rw [State.views, State.lane_onAll]
  split <;> rfl

section
variable {s : State}

theorem exec_moduleFormation_of_formers {d : LaneId} (hd : s.formers.head? = some d) (hnone : s.anyDrives = false) :
    exec .moduleFormation s = .next
      (s.onAll fun L => L.formed s.formers ((s.lane d).successor s.formers.contains)).views := by
  simp [exec, execModuleFormation, hd, hnone, Lane.formed]

theorem exec_moduleFormation_forms (hs : s.placed) (hne : s.formers ≠ []) (hnone : s.anyDrives = false) :
    ∃ t, exec .moduleFormation s = .next t ∧ LanesOnly s t ∧
      (∀ l, l ∉ s.formers → (t.lane l).vote.role = (s.lane l).vote.role) ∧
      (∃ d ∈ s.formers, (t.lane d).vote.role = .lead ∧
        ∀ l ∈ s.formers, (t.lane l).vote.relAtApply = true ∧ (l ≠ d → (t.lane l).vote.role = .follower)) ∧
      (∀ l, (t.lane l).pwr = (s.lane l).pwr) := by
  obtain ⟨d, hd⟩ := Option.isSome_iff_exists.1 (List.isSome_head?.2 hne)
  obtain ⟨lead, hlead, hin⟩ := (s.lane d).exists_successor (p := s.formers.contains)
    (List.contains_iff_mem.2 (List.mem_of_mem_head? hd))
  refine ⟨_, exec_moduleFormation_of_formers hd hnone, ⟨rfl, rfl, rfl⟩, fun l hl => ?_,
    ⟨lead, List.contains_iff_mem.1 hin, ?_, fun l hl => ?_⟩, fun l => ?_⟩
  · rw [State.lane_views_role, State.lane_onAll, Lane.formed_of_not _ (by rwa [hs l])]
  · rw [State.lane_views_role, State.lane_onAll,
      (Lane.formed_of_former _ (by rw [hs lead]; exact List.contains_iff_mem.1 hin)).2, hlead, hs lead, if_pos rfl]
  · obtain ⟨hrel, hrole⟩ := Lane.formed_of_former (L := s.lane l) (ds := s.formers)
      ((s.lane d).successor s.formers.contains) (by rwa [hs l])
    rw [State.lane_views_role, State.lane_views_relAtApply, State.lane_onAll, hrel, hrole, hlead, hs l]
    exact ⟨rfl, fun hne => if_neg fun h => hne (Option.some.inj h).symm⟩
  · rw [State.lane_views_pwr, State.lane_onAll, Lane.formed_pwr]

theorem exec_moduleFormation_of_not (h : s.formers = [] ∨ s.anyDrives = true) : exec .moduleFormation s = .next s := by
  simp only [exec, execModuleFormation]
  cases hf : s.formers with
  | nil => rfl
  | cons d ds => exact if_pos (h.resolve_left (by simp [hf]))

end

/-- Settles O44: the lane that leaves is SHADOW before the succession looks for a lead, so another driver takes it; the
first drivers' lead is the first of them in succession order. -/
theorem exitsAndFormation : Obligations.ExitsAndFormation := by
  unfold Obligations.ExitsAndFormation
  intro s hs
  exact ⟨fun l => ⟨fun e => exec_exitRampEnd_leaves, exec_exitRampEnd_of_not⟩, exec_exitPassiveEnd s,
    exec_moduleFormation_forms hs, exec_moduleFormation_of_not⟩

end Sys2Proof.Machine
end

section
/-! PROOFS, supply, the lane reset and wake sources (O45). -/
namespace Sys2Proof.Machine

/-! ### What a start does -/

/-- A lane that starts anew leaves of each lane all but the links and the findings on its sources (R48, R52). -/
theorem State.exists_laneStarted_lane (s : State) (l p : LaneId) : ∃ k x, (s.laneStarted l).lane p =
    { s.lane p with links := k, vote := { (s.lane p).vote with sources := x } } := by
  rw [State.laneStarted, State.lane_onAll]
  have links (L : Lane) : ∃ k, allLinks.foldl (fun M k =>
      if linkTouches k l then M.onLink k fun v => { v with barred := false } else M) L = { L with links := k } := by
    refine List.foldlRecOn allLinks _ (motive := fun M : Lane => ∃ k, M = { L with links := k }) ⟨L.links, rfl⟩ ?_
    rintro M ⟨k, rfl⟩ j -
    split
    · exact ⟨_, rfl⟩
    · exact ⟨_, rfl⟩
  obtain ⟨k, hk⟩ := links { s.lane p with vote :=
    { (s.lane p).vote with sources := (s.lane p).vote.sources.filter fun x => x.lane != l } }
  exact ⟨k, _, hk⟩

/-- A start through step 1 (R435, R449). -/
theorem Lane.powerUp_started (L : Lane) (kind : Nat) :
    (L.powerUp kind).pwr.state = .starting ∧ (L.powerUp kind).pwr.step = 1 ∧ (L.powerUp kind).pwr.vinOn = true ∧
    (L.powerUp kind).pwr.nrst = false ∧ (L.powerUp kind).pwr.stopLine = true ∧
    (L.powerUp kind).pwr.kind = (if L.mem.valid then kind else 0) ∧ (L.powerUp kind).vote.role = .out ∧
    (L.powerUp kind).mem.valid = false ∧ (L.powerUp kind).flog.nv = L.flog.nv ∧ (L.powerUp kind).sleep = L.sleep :=
  ⟨rfl, rfl, rfl, rfl, rfl, rfl, rfl, rfl, rfl, rfl⟩

/-- What a lane held in reset is (R435). -/
theorem Lane.heldReset_held (L : Lane) :
    L.heldReset.pwr.step = 0 ∧ L.heldReset.pwr.state = .starting ∧ L.heldReset.pwr.stopLine = true ∧
    L.heldReset.pwr.vaonOn = L.pwr.vaonOn ∧ L.heldReset.vote.role = .out ∧ L.heldReset.sb.isOpen = false ∧
    L.heldReset.safe.inp = L.safe.inp ∧ L.heldReset.therm = L.therm ∧ ∀ b, (L.heldReset.gates.get b).onOut = 0 := by
  have rest : (L.sbClose 5).safe = L.safe ∧ (L.sbClose 5).therm = L.therm := by
    unfold Lane.sbClose
    split <;> exact ⟨rfl, rfl⟩
  have supply : (L.sbClose 5).pwr.vaonOn = L.pwr.vaonOn := by rw [Lane.sbClose_pwr]
  exact ⟨rfl, rfl, rfl, supply, rfl, L.sbClose_isOpen 5, congrArg Safe.inp rest.1, rest.2,
    fun b => (L.sbClose 5).assertStop_onOut b⟩

section
variable {s : State} {l : LaneId}

/-! ### VIN_POWER_ON, NRST_ASSERT and NRST_RELEASE -/

theorem exec_vinPowerOn_starts (hv : (s.lane l).pwr.vinOn = false) (hp : (s.lane l).pwr.phase = 0)
    (hn : (s.lane l).pwr.nrst = false) : ∃ t, exec (.vinPowerOn l) s = .next t ∧ LanesOnly s t ∧
      (t.lane l).pwr.state = .starting ∧ (t.lane l).pwr.step = 1 ∧ (t.lane l).pwr.vinOn = true ∧
      (t.lane l).pwr.kind = (if (s.lane l).mem.valid then 1 else 0) ∧ (t.lane l).vote.role = .out ∧
      (t.lane l).pwr.stopLine = true ∧ (t.lane l).mem.valid = false ∧ (t.lane l).flog.nv = (s.lane l).flog.nv ∧
      ∀ p, p ≠ l → (t.lane p).pwr = (s.lane p).pwr ∧ (t.lane p).vote.role = (s.lane p).vote.role := by
  have start : exec (.vinPowerOn l) s = .next ((s.laneStarted l).on l fun L => L.powerUp 1) := by
    simp [exec, execVinPowerOn, hv, hp, hn]
  refine ⟨_, start, ⟨rfl, rfl, rfl⟩, ?_⟩
  rw [State.lane_on_same]
  obtain ⟨k, x, hl⟩ := s.exists_laneStarted_lane l l
  rw [hl]
  obtain ⟨hstate, hstep, hvin, -, hstop, hkind, hrole, hvalid, hnv, -⟩ := Lane.powerUp_started
    { s.lane l with links := k, vote := { (s.lane l).vote with sources := x } } 1
  refine ⟨hstate, hstep, hvin, hkind, hrole, hstop, hvalid, hnv, fun p hpl => ?_⟩
  obtain ⟨k, x, hl⟩ := s.exists_laneStarted_lane l p
  rw [State.lane_on_ne _ _ hpl, hl]
  exact ⟨rfl, rfl⟩

theorem exec_vinPowerOn_of_held (hv : (s.lane l).pwr.vinOn = false) (hp : (s.lane l).pwr.phase = 0)
    (hn : (s.lane l).pwr.nrst = true) : exec (.vinPowerOn l) s =
      .next (s.on l fun L => { L with pwr := { L.pwr with vinOn := true, vaonOn := true } }) := by
  simp [exec, execVinPowerOn, hv, hp, hn]

theorem exec_vinPowerOn_of_not (h : ((s.lane l).pwr.vinOn = true ∧ (s.lane l).pwr.step ≠ 0) ∨
    ((s.lane l).pwr.state = .off ∧ (s.lane l).pwr.vinOn = true) ∨ (s.lane l).pwr.phase ≠ 0) :
    exec (.vinPowerOn l) s = .next s := if_pos h

theorem exec_nrstAssert (s : State) (l : LaneId) : ∃ t, exec (.nrstAssert l) s = .next t ∧ OnlyLane l s t ∧
    (t.lane l).pwr.nrst = true ∧ (t.lane l).pwr.step = 0 ∧
    (t.lane l).pwr.state = .starting ∧ (t.lane l).vote.role = .out ∧ (t.lane l).pwr.stopLine = true ∧
    (t.lane l).sb.isOpen = false ∧ (∀ b, ((t.lane l).gates.get b).onOut = 0) ∧
    (t.lane l).safe.inp = (s.lane l).safe.inp := by
  refine ⟨_, rfl, s.onlyLane_on l _, ?_⟩
  rw [s.lane_on_same]
  obtain ⟨hstep, hstate, hstop, -, hrole, hopen, hinp, -, hgates⟩ := (s.lane l).heldReset_held
  exact ⟨rfl, hstep, hstate, hrole, hstop, hopen, hgates, hinp⟩

theorem exec_nrstRelease_of_held (hn : (s.lane l).pwr.nrst = true) : ∃ t, exec (.nrstRelease l) s = .next t ∧
    LanesOnly s t ∧ (t.lane l).pwr.nrst = false ∧ (t.lane l).sleep.valid = false ∧
    ((s.lane l).pwr.vinOn = true → (t.lane l).pwr.step = 1 ∧ (t.lane l).pwr.state = .starting ∧
      (t.lane l).vote.role = .out) ∧
    ((s.lane l).pwr.vinOn = false → (t.lane l).pwr = { (s.lane l).pwr with nrst := false }) := by
  refine ⟨_, if_pos hn, ⟨rfl, rfl, rfl⟩, ?_⟩
  rw [State.lane_on_same]
  obtain ⟨k, x, hl⟩ := s.exists_laneStarted_lane l l
  rw [hl]
  generalize hM : ({ s.lane l with links := k, vote := _, pwr := _, sleep := _ } : Lane) = M
  have hpwr : M.pwr = { (s.lane l).pwr with nrst := false } := by rw [← hM]
  have hsleep : M.sleep.valid = false := by rw [← hM]
  dsimp only
  by_cases hv : (s.lane l).pwr.vinOn = true
  · rw [if_pos (by rw [hpwr]; exact hv)]
    obtain ⟨hstate, hstep, -, hnrst, -, -, hrole, -, -, hsl⟩ := M.powerUp_started 1
    exact ⟨hnrst, by rw [hsl, hsleep], fun _ => ⟨hstep, hstate, hrole⟩, fun hoff => absurd hv (ne_true_of_eq_false hoff)⟩
  · rw [if_neg (by rw [hpwr]; exact hv)]
    exact ⟨by rw [hpwr], hsleep, fun hon => absurd hon hv, fun _ => hpwr⟩

theorem exec_nrstRelease_of_not (hn : (s.lane l).pwr.nrst = false) : exec (.nrstRelease l) s = .next s :=
  if_neg (ne_true_of_eq_false hn)

/-! ### VIN_BELOW_POWER_ON (R511) -/

/-- The Cone latch cell loses its hold with both supplies, and keeps it while one is there. -/
theorem Lane.coneCell_cone {L : Lane} (hv : L.pwr.vinOn = false) :
    L.coneCell.therm.cone = (L.pwr.vaonOn && L.therm.cone) := by
  unfold Lane.coneCell
  cases ha : L.pwr.vaonOn <;> simp [hv]

theorem Lane.exists_coneCell (L : Lane) : ∃ x, L.coneCell = { L with therm := x } := by
  unfold Lane.coneCell
  split
  · exact ⟨_, rfl⟩
  · exact ⟨_, rfl⟩

theorem exec_vinBelowPowerOn_of_on (written aonLow : Bool) (hv : (s.lane l).pwr.vinOn = true) :
    ∃ t, exec (.vinBelowPowerOn l written aonLow) s = .next t ∧ OnlyLane l s t ∧ (t.lane l).pwr.vinOn = false ∧
      (t.lane l).pwr.step = 0 ∧ (t.lane l).vote.role = .out ∧ (t.lane l).vote.held = false ∧ (t.lane l).flog.ring = [] ∧
      (written = true → (t.lane l).flog.nv = (s.lane l).flog.nv) ∧
      (written = false → (t.lane l).flog.nv =
        (s.lane l).flog.nv.take ((s.lane l).flog.nv.length - (s.lane l).flog.lastFrozen)) ∧
      (aonLow = true → (t.lane l).therm.cone = false ∧ (t.lane l).sleep.valid = false) ∧
      (aonLow = false → (s.lane l).pwr.vaonOn = true → (t.lane l).therm.cone = (s.lane l).therm.cone) := by
  refine ⟨_, State.next_on_of_holds (c := fun L => L.pwr.vinOn = true) hv, s.onlyLane_on l _, ?_⟩
  rw [s.lane_on_same]
  obtain ⟨hstep, -, -, haon, hrole, -, -, htherm, -⟩ := (s.lane l).heldReset_held
  dsimp only
  generalize hM : ({ (s.lane l).heldReset with vote := _, pwr := _, flog := _, sleep := _ } : Lane) = M
  have hvin : M.pwr.vinOn = false := by rw [← hM]
  have hcone := Lane.coneCell_cone hvin
  obtain ⟨x, hx⟩ := M.exists_coneCell
  rw [hx] at hcone ⊢
  rw [← hM] at hcone ⊢
  refine ⟨rfl, hstep, hrole, rfl, rfl, fun hw => if_pos hw, fun hw => if_neg (ne_true_of_eq_false hw),
    fun hlow => ⟨hcone.trans ?_, ?_⟩, fun hup hkept => hcone.trans ?_⟩
  · simp [hlow]
  · simp [hlow]
  · simp [hup, haon, hkept, htherm]

theorem exec_vinBelowPowerOn_of_off (written aonLow : Bool) (hv : (s.lane l).pwr.vinOn = false) :
    exec (.vinBelowPowerOn l written aonLow) s = .next s :=
  State.next_on_of_fails (c := fun L => L.pwr.vinOn = true) (ne_true_of_eq_false hv)

/-! ### WAKE_EVENT (R442-R447) -/

section
variable {src : WakeSrc} (hv : (s.lane l).pwr.vinOn = true) (hn : (s.lane l).pwr.nrst = false)
  (hen : bit ((s.lane l).obj 0x2101 1) (wakeBit src) = true)

include hv hn hen

theorem exec_wakeEvent_of_standby (hst : (s.lane l).pwr.state = .standby) :
    ∃ t, exec (.wakeEvent l src) s = .next t ∧ LanesOnly s t ∧
      (t.lane l).pwr.state = .starting ∧ (t.lane l).pwr.step = 1 ∧
      (t.lane l).pwr.wakeSrc = BitVec.ofNat 8 (2 ^ wakeBit src) ∧
      (t.lane l).pwr.kind = (if (s.lane l).mem.valid then 3 else 0) := by
  have wake : exec (.wakeEvent l src) s =
      .next ((s.laneStarted l).on l fun L => L.wakeUp (BitVec.ofNat 8 (2 ^ wakeBit src))) := by
    simp [exec, execWakeEvent, hv, hn, hen, hst]
  refine ⟨_, wake, ⟨rfl, rfl, rfl⟩, ?_⟩
  rw [State.lane_on_same]
  obtain ⟨k, x, hl⟩ := s.exists_laneStarted_lane l l
  rw [hl]
  exact ⟨rfl, rfl, rfl, rfl⟩

variable (hst : (s.lane l).pwr.state ≠ .standby) (htest : (s.lane l).mem.testing = false)

include hst htest

/-- A wake that meets an entry it can meet. -/
theorem exec_wakeEvent_of_entry (hp0 : (s.lane l).pwr.phase ≠ 0) (hsrc : src = .pattern → (s.lane l).pwr.phase = 4)
    (hlate : (s.lane l).pwr.phase = 4 → (s.lane l).pwr.asleep = true) :
    exec (.wakeEvent l src) s = .next (s.on l fun L => L.preEmpt (BitVec.ofNat 8 (2 ^ wakeBit src))) := by
  simp only [exec, execWakeEvent, hv, hn, hen, hst, htest]
  rw [if_neg (by simp), if_neg (by simp), if_neg, if_neg]
  · exact fun h => by rw [hlate h.1] at h; cases h.2
  · rintro (h | h | ⟨hpat, h4⟩)
    · exact hp0 h
    · cases h
    · exact h4 (hsrc hpat)

theorem exec_wakeEvent_of_latched (hp : (s.lane l).pwr.phase = 4) (ha : (s.lane l).pwr.asleep = true) :
    exec (.wakeEvent l src) s = .next (s.on l fun L => { L with pwr := { L.pwr with
      latched := true, wakeSrc := BitVec.ofNat 8 (2 ^ wakeBit src) ||| 0x80 } }) :=
  (exec_wakeEvent_of_entry hv hn hen hst htest (by omega) (fun _ => hp) fun _ => ha).trans
    (congrArg Host.Outcome.next (s.on_congr l (if_pos ha)))

theorem exec_wakeEvent_abandons (hp : (s.lane l).pwr.phase = 1 ∨ (s.lane l).pwr.phase = 2)
    (ha : (s.lane l).pwr.asleep = false) (hsrc : src = .pin) :
    ((s.lane l).pwr.abandon = false → ∃ t, exec (.wakeEvent l src) s = .next t ∧ OnlyLane l s t ∧
      (t.lane l).pwr = { (s.lane l).pwr with abandon := true } ∧ (t.lane l).flog.last = 0x1FD9 ∧
      (t.lane l).vote = (s.lane l).vote) ∧
    ((s.lane l).pwr.abandon = true → exec (.wakeEvent l src) s = .next s) := by
  have met := exec_wakeEvent_of_entry hv hn hen hst htest (by omega) (fun h => by rw [hsrc] at h; cases h) (by omega)
  refine ⟨fun hab => ⟨_, met, s.onlyLane_on l _, ?_⟩, fun hab => ?_⟩
  · have raised : ((s.lane l).raise 0x1FD9 0).pwr.phase ≠ 3 := by rw [Lane.raise_pwr]; omega
    rw [s.lane_on_same, Lane.preEmpt, if_neg (ne_true_of_eq_false ha), if_neg (ne_true_of_eq_false hab)]
    dsimp only
    rw [if_neg raised]
    exact ⟨rfl, Lane.raise_last .., rfl⟩
  · refine met.trans (congrArg Host.Outcome.next (s.on_id l ?_))
    rw [Lane.preEmpt, if_neg (ne_true_of_eq_false ha), if_pos hab]

end

theorem exec_wakeEvent_of_not {src : WakeSrc} (h : (s.lane l).pwr.vinOn = false ∨ (s.lane l).pwr.nrst = true ∨
    bit ((s.lane l).obj 0x2101 1) (wakeBit src) = false ∨
    ((s.lane l).pwr.state ≠ .standby ∧ (s.lane l).pwr.phase = 0)) : exec (.wakeEvent l src) s = .next s := by
  by_cases hoff : (s.lane l).pwr.vinOn = false ∨ (s.lane l).pwr.nrst = true ∨
      bit ((s.lane l).obj 0x2101 1) (wakeBit src) = false
  · exact if_pos hoff
  · obtain ⟨hst, hp⟩ : (s.lane l).pwr.state ≠ .standby ∧ (s.lane l).pwr.phase = 0 := by tauto
    exact (if_neg hoff).trans ((if_neg hst).trans (if_pos (.inl hp)))

/-! ### Supply monitors (R511, R513) -/

theorem exec_vinUndervoltage_of_watched (hw : (s.lane l).watched = true) (ho : (s.lane l).vote.outNow = false) :
    ∃ t, exec (.vinUndervoltage l) s = .next t ∧ OnlyLane l s t ∧
      (t.lane l).vote.role = .out ∧ (t.lane l).vote.outNow = true ∧ (t.lane l).pwr.stopLine = true ∧
      (t.lane l).flog.last = 0x6FC5 ∧ (t.lane l).dict = (s.lane l).dict := by
  refine ⟨_, State.next_on_of_holds (c := fun L => L.watched = true) hw, s.onlyLane_on l _, ?_⟩
  have hvote := Lane.goOut_vote (L := (s.lane l).raise 0x6FC5 3) ho 0x6FC5
  rw [s.lane_on_same, Lane.laneOut_stopLine, Lane.laneOut_last, Lane.laneOut_dict, Lane.laneOut, hvote]
  exact ⟨rfl, rfl, rfl, rfl, rfl⟩

theorem exec_vinOvervoltage_of_watched (hw : (s.lane l).watched = true) :
    ∃ t, exec (.vinOvervoltage l) s = .next t ∧ OnlyLane l s t ∧ (t.lane l).flog.last = 0x6FC3 ∧
      (t.lane l).vote = (s.lane l).vote ∧ (t.lane l).pwr = (s.lane l).pwr := by
  refine ⟨_, State.next_on_of_holds (c := fun L => L.watched = true) hw, s.onlyLane_on l _, ?_⟩
  rw [s.lane_on_same]
  exact ⟨Lane.raise_last .., rfl, rfl⟩

theorem exec_aonReset_of_watched (hw : (s.lane l).watched = true) :
    ∃ t, exec (.aonReset l) s = .next t ∧ OnlyLane l s t ∧ (t.lane l).sleep.valid = false ∧
      (t.lane l).flog.last = 0x6FC6 ∧ (t.lane l).therm.cone = (s.lane l).therm.cone := by
  refine ⟨_, rfl, s.onlyLane_on l _, ?_⟩
  rw [s.lane_on_same]
  dsimp only
  rw [if_pos hw]
  exact ⟨rfl, Lane.raise_last .., rfl⟩

theorem exec_aonReset_of_unwatched (hw : (s.lane l).watched = false) :
    ∃ t, exec (.aonReset l) s = .next t ∧ OnlyLane l s t ∧ (t.lane l).sleep.valid = false ∧
      (t.lane l).flog = (s.lane l).flog := by
  refine ⟨_, rfl, s.onlyLane_on l _, ?_⟩
  rw [s.lane_on_same]
  dsimp only
  rw [if_neg (ne_true_of_eq_false hw)]
  obtain ⟨x, hx⟩ := Lane.exists_coneCell { s.lane l with
    pwr := { (s.lane l).pwr with vaonOn := false }, sleep := { (s.lane l).sleep with valid := false } }
  rw [hx]
  exact ⟨rfl, rfl⟩

end

/-- Settles O45: supply and reset lead to a start through step 1 or to a lane held in reset; a wake meets STANDBY or the
phase of an entry. -/
theorem supplyAndWake : Obligations.SupplyAndWake := by
  unfold Obligations.SupplyAndWake
  intro s l
  exact ⟨fun hv hp => ⟨exec_vinPowerOn_starts hv hp, exec_vinPowerOn_of_held hv hp⟩, exec_vinPowerOn_of_not,
    exec_nrstAssert s l, exec_nrstRelease_of_held, exec_nrstRelease_of_not,
    fun written aonLow => ⟨exec_vinBelowPowerOn_of_on written aonLow, exec_vinBelowPowerOn_of_off written aonLow⟩,
    fun src => ⟨fun hv hn hen => ⟨exec_wakeEvent_of_standby hv hn hen, fun hst htest =>
        ⟨exec_wakeEvent_of_latched hv hn hen hst htest, exec_wakeEvent_abandons hv hn hen hst htest⟩⟩,
      exec_wakeEvent_of_not⟩,
    fun hw => ⟨exec_vinUndervoltage_of_watched hw, exec_vinOvervoltage_of_watched hw, exec_aonReset_of_watched hw⟩,
    fun hw => ⟨State.next_on_of_fails (c := fun L => L.watched = true) (ne_true_of_eq_false hw),
      State.next_on_of_fails (c := fun L => L.watched = true) (ne_true_of_eq_false hw), exec_aonReset_of_unwatched hw⟩⟩

end Sys2Proof.Machine
end

section
/-! PROOFS, the phases of an entry (O46). -/
namespace Sys2Proof.Machine

/-! ### The phases (Table 15.3) -/

/-- What the end of the save phase keeps and what it writes (R445). -/
theorem Lane.saveEnd_saved (L : Lane) :
    L.saveEnd.pwr = L.pwr ∧ L.saveEnd.mem = L.mem ∧ L.saveEnd.net.state = .halt ∧ L.saveEnd.tb.lastTime = L.tb.ns ∧
    L.saveEnd.flog = L.flog.commit ∧ L.saveEnd.kiln.seq = L.kiln.seq + 1 := by
  refine ⟨rfl, rfl, rfl, rfl, rfl, ?_⟩
  unfold Lane.saveEnd Lane.kilnWrite
  dsimp only
  split <;> rfl

/-- After a commit no record is pending (R482). -/
theorem Rec.commit_not_pending (f : Rec) : ∀ e ∈ f.commit.ring, e.pending = false := by
  intro e he
  obtain ⟨d, -, rfl⟩ := List.mem_map.1 he
  rfl

/-- A restart is in no phase any more, and keeps the time base where it runs on (R446). -/
theorem Lane.restartAt_rest (L : Lane) (step kind : Nat) (wedgeOk : Bool) (owed : BitVec 16) :
    (L.restartAt step kind true wedgeOk owed).pwr.phase = 0 ∧ (L.restartAt step kind true wedgeOk owed).mem.owed = owed ∧
    (L.restartAt step kind true wedgeOk owed).tb = L.tb := by
  refine ⟨rfl, rfl, ?_⟩
  have kept : (L.sbClose 5).tb = L.tb := by unfold Lane.sbClose; split <;> rfl
  exact kept

/-- The end of the phase a lane is in. -/
def Lane.phaseEnd (L : Lane) (r : PhaseReport) : Lane :=
  match L.pwr.phase with
  | 1 => L.phase1End
  | 2 => L.phase2End
  | 3 => L.phase3End r
  | 4 => L.phase4End
  | _ => L

theorem exec_entryPhaseEnd (l : LaneId) (r : PhaseReport) (s : State) :
    exec (.entryPhaseEnd l r) s = .next (s.on l fun L => L.phaseEnd r) := rfl

section
variable {L : Lane} (r : PhaseReport)

theorem Lane.phaseEnd_save (h : L.pwr.phase = 1) : L.phaseEnd r = L.phase1End := by simp only [Lane.phaseEnd, h]

theorem Lane.phaseEnd_march (h : L.pwr.phase = 2) : L.phaseEnd r = L.phase2End := by simp only [Lane.phaseEnd, h]

theorem Lane.phaseEnd_calibration (h : L.pwr.phase = 3) : L.phaseEnd r = L.phase3End r := by
  simp only [Lane.phaseEnd, h]

theorem Lane.phaseEnd_powerDown (h : L.pwr.phase = 4) : L.phaseEnd r = L.phase4End := by simp only [Lane.phaseEnd, h]

theorem Lane.phaseEnd_of_none (h : L.pwr.phase = 0 ∨ 4 < L.pwr.phase) : L.phaseEnd r = L := by
  unfold Lane.phaseEnd
  split
  · omega
  · omega
  · omega
  · omega
  · rfl

end

section
variable {s : State} {l : LaneId} {r : PhaseReport}

/-! ### The save phase -/

theorem exec_entryPhaseEnd_saved (hp : (s.lane l).pwr.phase = 1) (hab : (s.lane l).pwr.abandon = false) :
    ∃ t, exec (.entryPhaseEnd l r) s = .next t ∧
      OnlyLane l s t ∧ (t.lane l).pwr.phase = 2 ∧ (t.lane l).net.state = .halt ∧ (t.lane l).tb.lastTime = (s.lane l).tb.ns ∧
      (t.lane l).mem.running = true ∧ (t.lane l).mem.group = 0 ∧ (∀ e ∈ (t.lane l).flog.ring, e.pending = false) ∧
      (t.lane l).kiln.seq = (s.lane l).kiln.seq + 1 := by
  obtain ⟨hpwr, -, hnet, htb, hflog, hkiln⟩ := (s.lane l).saveEnd_saved
  refine ⟨_, exec_entryPhaseEnd l r s, s.onlyLane_on l _, ?_⟩
  rw [s.lane_on_same, Lane.phaseEnd_save r hp, Lane.phase1End, if_neg (by rw [hpwr, hab]; exact fun h => Bool.noConfusion h.1)]
  refine ⟨rfl, hnet, htb, rfl, rfl, ?_, hkiln⟩
  rw [hflog]
  exact Rec.commit_not_pending _

theorem exec_entryPhaseEnd_withdrawn (hp : (s.lane l).pwr.phase = 1) (hab : (s.lane l).pwr.abandon = true)
    (htest : (s.lane l).mem.testing = false) :
    ∃ t, exec (.entryPhaseEnd l r) s = .next t ∧ OnlyLane l s t ∧ (t.lane l).pwr.phase = 0 ∧
      (t.lane l).pwr.state = .starting ∧ (t.lane l).pwr.step = 7 ∧ (t.lane l).pwr.kind = 1 ∧
      (t.lane l).tb.lastTime = (s.lane l).tb.ns := by
  obtain ⟨hpwr, hmem, -, htb, -, -⟩ := (s.lane l).saveEnd_saved
  refine ⟨_, exec_entryPhaseEnd l r s, s.onlyLane_on l _, ?_⟩
  rw [s.lane_on_same, Lane.phaseEnd_save r hp, Lane.phase1End, if_pos (by rw [hpwr, hmem]; exact ⟨hab, htest⟩)]
  obtain ⟨hstate, hstep, -, hkind, -⟩ := (s.lane l).saveEnd.restartAt_pwr 7 1 true false 0
  obtain ⟨hphase, -, hkept⟩ := (s.lane l).saveEnd.restartAt_rest 7 1 false 0
  exact ⟨hphase, hstate, hstep, hkind, by rw [hkept, htb]⟩

/-! ### The march -/

section
variable (hp : (s.lane l).pwr.phase = 2)

include hp

theorem exec_entryPhaseEnd_marching (h : (s.lane l).mem.running = true ∨ (s.lane l).mem.testing = true) :
    exec (.entryPhaseEnd l r) s = .next s :=
  (exec_entryPhaseEnd l r s).trans
    (congrArg Host.Outcome.next (s.on_id l ((Lane.phaseEnd_march r hp).trans (if_pos h))))

variable (hrun : (s.lane l).mem.running = false) (htest : (s.lane l).mem.testing = false)

include hrun htest

theorem exec_entryPhaseEnd_marched (hab : (s.lane l).pwr.abandon = false) :
    exec (.entryPhaseEnd l r) s = .next (s.on l fun L =>
      { L with pwr := { L.pwr with phase := if L.pwr.toOff then 4 else 3 } }) := by
  refine (exec_entryPhaseEnd l r s).trans (congrArg Host.Outcome.next (s.on_congr l ?_))
  rw [Lane.phaseEnd_march r hp, Lane.phase2End, if_neg (by simp [hrun, htest]), if_neg (by simp [hab])]

theorem exec_entryPhaseEnd_retested (hab : (s.lane l).pwr.abandon = true) :
    ∃ t, exec (.entryPhaseEnd l r) s = .next t ∧ OnlyLane l s t ∧ (t.lane l).pwr.phase = 0 ∧
      (t.lane l).pwr.state = .starting ∧ (t.lane l).pwr.step = 5 ∧ (t.lane l).pwr.kind = 1 ∧
      (t.lane l).mem.owed = (s.lane l).mem.untested := by
  refine ⟨_, exec_entryPhaseEnd l r s, s.onlyLane_on l _, ?_⟩
  rw [s.lane_on_same, Lane.phaseEnd_march r hp, Lane.phase2End, if_neg (by simp [hrun, htest]), if_pos hab]
  obtain ⟨hstate, hstep, -, hkind, -⟩ := (s.lane l).restartAt_pwr 5 1 true false (s.lane l).mem.untested
  exact ⟨rfl, hstate, hstep, hkind, rfl⟩

end

/-! ### Calibration and power-down -/

theorem exec_entryPhaseEnd_calibrated (hp : (s.lane l).pwr.phase = 3) :
    ∃ t, exec (.entryPhaseEnd l r) s = .next t ∧ OnlyLane l s t ∧
      (t.lane l).pwr.phase = 4 ∧ (t.lane l).pwr.asleep = true ∧ (t.lane l).sleep.valid = (!(s.lane l).clk.aoBad) ∧
      (t.lane l).sleep.te = (t.lane l).tb.ns ∧ (t.lane l).sleep.ce = r.ce % 2 ^ 56 ∧ (t.lane l).sleep.ncal = r.ncal ∧
      (t.lane l).vote = (s.lane l).vote := by
  refine ⟨_, exec_entryPhaseEnd l r s, s.onlyLane_on l _, ?_⟩
  rw [s.lane_on_same, Lane.phaseEnd_calibration r hp, Lane.phase3End]
  exact ⟨rfl, rfl, by rw [Lane.advance_clk], rfl, rfl, rfl, Lane.advance_vote ..⟩

section
variable (hp : (s.lane l).pwr.phase = 4)

include hp

theorem exec_entryPhaseEnd_off (hl : (s.lane l).pwr.latched = false) (hoff : (s.lane l).pwr.toOff = true) :
    ∃ t, exec (.entryPhaseEnd l r) s = .next t ∧
      OnlyLane l s t ∧ (t.lane l).pwr.state = .off ∧ (t.lane l).pwr.phase = 0 ∧ (t.lane l).sleep.valid = false := by
  refine ⟨_, exec_entryPhaseEnd l r s, s.onlyLane_on l _, ?_⟩
  rw [s.lane_on_same, Lane.phaseEnd_powerDown r hp, Lane.phase4End, if_neg (ne_true_of_eq_false hl), if_pos hoff]
  exact ⟨rfl, rfl, rfl⟩

theorem exec_entryPhaseEnd_standby (hl : (s.lane l).pwr.latched = false) (hoff : (s.lane l).pwr.toOff = false) :
    ∃ t, exec (.entryPhaseEnd l r) s = .next t ∧
      OnlyLane l s t ∧ (t.lane l).pwr.state = .standby ∧ (t.lane l).pwr.phase = 0 ∧ (t.lane l).pwr.monUp = false ∧
      (t.lane l).clk.netLock = false ∧ (t.lane l).safe.sealOpen = false ∧ (t.lane l).sleep = (s.lane l).sleep := by
  have kept : ((s.lane l).sbClose 6).sleep = (s.lane l).sleep := by unfold Lane.sbClose; split <;> rfl
  refine ⟨_, exec_entryPhaseEnd l r s, s.onlyLane_on l _, ?_⟩
  rw [s.lane_on_same, Lane.phaseEnd_powerDown r hp, Lane.phase4End, if_neg (ne_true_of_eq_false hl), if_neg (ne_true_of_eq_false hoff)]
  exact ⟨rfl, rfl, rfl, rfl, rfl, kept⟩

theorem exec_entryPhaseEnd_woken (hl : (s.lane l).pwr.latched = true) :
    ∃ t, exec (.entryPhaseEnd l r) s = .next t ∧ OnlyLane l s t ∧
      (t.lane l).pwr.state = .starting ∧ (t.lane l).pwr.step = 1 ∧
      (t.lane l).pwr.kind = (if (s.lane l).mem.valid then 3 else 0) ∧
      (t.lane l).pwr.wakeSrc = (s.lane l).pwr.wakeSrc := by
  refine ⟨_, exec_entryPhaseEnd l r s, s.onlyLane_on l _, ?_⟩
  rw [s.lane_on_same, Lane.phaseEnd_powerDown r hp, Lane.phase4End, if_pos hl]
  exact ⟨rfl, rfl, rfl, rfl⟩

end

theorem exec_entryPhaseEnd_of_none (hp : (s.lane l).pwr.phase = 0 ∨ 4 < (s.lane l).pwr.phase) :
    exec (.entryPhaseEnd l r) s = .next s :=
  (exec_entryPhaseEnd l r s).trans (congrArg Host.Outcome.next (s.on_id l (Lane.phaseEnd_of_none r hp)))

end

/-- Settles O46: the phase selects what its end does, and an abandoned entry restarts where Table 15.3 says. -/
theorem entryPhases : Obligations.EntryPhases := by
  unfold Obligations.EntryPhases
  intro s l r
  exact ⟨exec_entryPhaseEnd_saved, exec_entryPhaseEnd_withdrawn,
    fun hp => ⟨exec_entryPhaseEnd_marching hp, exec_entryPhaseEnd_marched hp, exec_entryPhaseEnd_retested hp⟩,
    exec_entryPhaseEnd_calibrated,
    fun hp => ⟨exec_entryPhaseEnd_off hp, exec_entryPhaseEnd_standby hp, exec_entryPhaseEnd_woken hp⟩,
    exec_entryPhaseEnd_of_none⟩

end Sys2Proof.Machine
end

section
/-! PROOFS, the restore order (O47). -/
namespace Sys2Proof.Machine

/-! ### What the parts of the steps leave -/

theorem Lane.foldl_tb {α : Type} {f : Lane → α → Lane} (h : ∀ M x, (f M x).tb = M.tb) (l : List α) (L : Lane) :
    (l.foldl f L).tb = L.tb :=
  List.foldlRecOn l f (motive := fun M : Lane => M.tb = L.tb) rfl fun M hM x _ => (h M x).trans hM

theorem Lane.foldl_safe {α : Type} {f : Lane → α → Lane} (h : ∀ M x, (f M x).safe = M.safe) (l : List α) (L : Lane) :
    (l.foldl f L).safe = L.safe :=
  List.foldlRecOn l f (motive := fun M : Lane => M.safe = L.safe) rfl fun M hM x _ => (h M x).trans hM

theorem Lane.foldl_mem {α : Type} {f : Lane → α → Lane} (h : ∀ M x, (f M x).mem = M.mem) (l : List α) (L : Lane) :
    (l.foldl f L).mem = L.mem :=
  List.foldlRecOn l f (motive := fun M : Lane => M.mem = L.mem) rfl fun M hM x _ => (h M x).trans hM

@[simp] theorem Lane.settle_tb (L : Lane) (b : Fin 8) : (L.settle b).tb = L.tb := by
  have aborted (M : Lane) : (M.abortTest b).tb = M.tb := by
    unfold Lane.abortTest
    dsimp only
    split <;> rfl
  unfold Lane.settle
  dsimp only
  (repeat' split) <;> simp [aborted]

@[simp] theorem Lane.settleAll_tb (L : Lane) : L.settleAll.tb = L.tb := Lane.foldl_tb Lane.settle_tb fin8 L

@[simp] theorem Lane.runCheck_safe (get : Nat → Nat → Nat) (L : Lane) (kind : Nat) : (L.runCheck get kind).safe = L.safe :=
  Lane.foldl_safe (fun M _ => M.cfgFault_safe ..) _ _

@[simp] theorem Lane.runCheck_sec (get : Nat → Nat → Nat) (L : Lane) (kind : Nat) : (L.runCheck get kind).sec = L.sec :=
  Lane.foldl_sec (fun M _ => M.cfgFault_sec ..) _ _

/-- The checks of the configuration leave the monitor's group and the security group. -/
theorem Lane.checkAll_safe_sec (L : Lane) : L.checkAll.safe = L.safe ∧ L.checkAll.sec = L.sec :=
  ⟨Lane.foldl_safe (fun M k => M.runCheck_safe _ k) _ _, Lane.foldl_sec (fun M k => M.runCheck_sec _ k) _ _⟩

/-- The clocks of a lane that used its allotment, nothing else. -/
theorem Lane.allotted_kept (L : Lane) :
    (∃ n, L.allotted.pwr = { L.pwr with stepRef := n }) ∧ L.allotted.vote = L.vote ∧ L.allotted.therm = L.therm ∧
    L.allotted.mem = L.mem ∧ L.allotted.sec = L.sec := by
  refine ⟨⟨max (L.pwr.stepRef + L.stepNs) L.tb.mono, ?_⟩, ?_⟩
  · simp [Lane.allotted]
  · simp [Lane.allotted]

theorem Lane.stuck_last (L : Lane) (code : Nat) (detId : Nat := 0) :
    (L.stuck code detId).flog.last = BitVec.ofNat 16 code := Lane.raise_last ..

/-! ### Steps 2 to 4 -/

section
variable (L : Lane)

/-- Step 2 (Table 15.4): the crystal runs, or the lane stays. -/
theorem Lane.step2End_spec (hk : L.pwr.step = 2) (done : Bool) :
    (done = true → (L.step2End done).pwr.step = 3 ∧ (L.step2End done).clk.xtalOk = true) ∧
    (done = false → (L.step2End done).pwr.step = 2 ∧ (L.step2End done).pwr.stuckAt = true ∧
      (L.step2End done).flog.last = 0x1FD2) := by
  constructor
  · rintro rfl
    exact ⟨rfl, rfl⟩
  · rintro rfl
    exact ⟨hk, rfl, Lane.stuck_last ..⟩

/-- Step 3: the PLLs lock, or the lane stays. -/
theorem Lane.step3End_spec (hk : L.pwr.step = 3) (done : Bool) :
    (done = true → (L.step3End done).pwr.step = 4 ∧ (L.step3End done).clk.coreLock = true ∧
      (L.step3End done).clk.netLock = true) ∧
    (done = false → (L.step3End done).pwr.step = 3 ∧ (L.step3End done).pwr.stuckAt = true ∧
      (L.step3End done).flog.last = 0x1FD3) := by
  constructor
  · rintro rfl
    exact ⟨rfl, rfl, rfl⟩
  · rintro rfl
    exact ⟨hk, rfl, Lane.stuck_last ..⟩

/-- Step 4: the logic rails are good, or the lane stays. -/
theorem Lane.step4End_spec (hk : L.pwr.step = 4) (done : Bool) :
    (done = true → (L.step4End done).pwr.step = 5) ∧
    (done = false → (L.step4End done).pwr.step = 4 ∧ (L.step4End done).pwr.stuckAt = true ∧
      (L.step4End done).flog.last = 0x1FD4) := by
  constructor
  · rintro rfl
    rfl
  · rintro rfl
    exact ⟨hk, rfl, Lane.stuck_last ..⟩

end

/-! ### Step 5: the memories -/

/-- The lane whose failing cells have their rows. -/
def Lane.rowsTaken (L : Lane) (cells : List FailCell) : Lane :=
  let cs := cellsOnce (cells.filter fun c => L.mem.owed.getLsbD (groupOfBlock c.inst))
  let M := L.raiseCells cs
  let a := assignRows M.mem.spares (cs.map fun c => (c.inst, cellRow c))
  { M with
    mem := { M.mem with spares := a.1, owed := 0 }
    kiln := M.kiln.addRows a.2.1 }

/-- Every failing cell found a row. -/
def Lane.rowsFound (L : Lane) (cells : List FailCell) : Bool :=
  let cs := cellsOnce (cells.filter fun c => L.mem.owed.getLsbD (groupOfBlock c.inst))
  !(assignRows (L.raiseCells cs).mem.spares (cs.map fun c => (c.inst, cellRow c))).2.2

theorem Lane.step5End_eq (L : Lane) (done : Bool) (cells : List FailCell) : L.step5End done cells =
    if done && L.rowsFound cells then ((L.rowsTaken cells).mapMarked).toStep 6
    else ((L.rowsTaken cells).mapMarked).stuck 0x1FD5 := rfl

/-- Rows marked by the scrubber change the map of the spares and its counts. -/
theorem Lane.mapMarked_mem (L : Lane) : L.mapMarked.mem.owed = L.mem.owed ∧
    (L.mem.marked = [] → L.mapMarked.mem.spares = L.mem.spares) := by
  have raised (gs : List Nat) (M : Lane) : (gs.foldl (fun J g => J.raise (0xB004 + 0x40 * g) 0) M).mem = M.mem :=
    Lane.foldl_mem (fun J g => J.raise_mem ..) gs M
  unfold Lane.mapMarked
  dsimp only
  rw [raised]
  refine ⟨rfl, fun h => ?_⟩
  dsimp only
  rw [h]
  rfl

theorem Lane.rowsTaken_mem (L : Lane) (cells : List FailCell) : (L.rowsTaken cells).mem.owed = 0 ∧
    (L.rowsTaken cells).pwr = L.pwr := ⟨rfl, by simp [Lane.rowsTaken]⟩

theorem Lane.rowsTaken_nil (L : Lane) : L.rowsFound [] = true ∧ (L.rowsTaken []).mem.spares = L.mem.spares ∧
    (L.rowsTaken []).mem.marked = L.mem.marked := ⟨rfl, rfl, rfl⟩

/-- Step 5: no group is owed a test any more, and the lane stays where the step is not done. -/
theorem Lane.step5End_spec (L : Lane) (hk : L.pwr.step = 5) (done : Bool) (cells : List FailCell) :
    (L.step5End done cells).mem.owed = 0 ∧
    (done = true → cells = [] → L.mem.marked = [] →
      (L.step5End done cells).pwr.step = 6 ∧ (L.step5End done cells).mem.spares = L.mem.spares) ∧
    (done = false → (L.step5End done cells).pwr.step = 5 ∧ (L.step5End done cells).pwr.stuckAt = true ∧
      (L.step5End done cells).flog.last = 0x1FD5) := by
  obtain ⟨howed, hpwr⟩ := L.rowsTaken_mem cells
  obtain ⟨howed', hspares⟩ := (L.rowsTaken cells).mapMarked_mem
  rw [Lane.step5End_eq]
  refine ⟨?_, ?_, ?_⟩
  · split
    · exact howed'.trans howed
    · exact howed'.trans howed
  · rintro rfl rfl hmarked
    obtain ⟨hfound, hkept, hmark⟩ := L.rowsTaken_nil
    rw [hfound]
    exact ⟨rfl, (hspares (hmark.trans hmarked)).trans hkept⟩
  · rintro rfl
    rw [Bool.false_and, if_neg Bool.false_ne_true]
    refine ⟨?_, rfl, Lane.stuck_last ..⟩
    rw [Lane.stuck_pwr, Lane.mapMarked_pwr, hpwr, hk]

/-! ### Step 6: boot and pins -/

/-- A lane whose active bank passes boots (R420). -/
theorem Lane.secureBoot_of_active {L : Lane} (h : L.sec.bankPasses L.sec.active = true) :
    L.secureBoot.sec.bootOk = true := by
  unfold Lane.secureBoot
  dsimp only
  rw [if_neg (by simp [h]), if_pos h, if_pos rfl]
  split <;> rfl

/-- One whose banks both fail does not. -/
theorem Lane.secureBoot_of_none {L : Lane} (h : L.sec.bankPasses L.sec.active = false)
    (h' : L.sec.bankPasses (1 - L.sec.active) = false) :
    L.secureBoot.sec.bootOk = false ∧ L.secureBoot.flog.last = 0x9002 := by
  unfold Lane.secureBoot
  dsimp only
  rw [if_pos ⟨h, h'⟩]
  exact ⟨rfl, Lane.raise_last ..⟩

/-- A set that is restored keeps the pins and the boot. -/
theorem Lane.restoreSet_pins (L : Lane) : L.restoreSet.safe.setSel = L.safe.setSel ∧
    L.restoreSet.safe.chkIn = L.safe.chkIn ∧ L.restoreSet.sec = L.sec := by
  unfold Lane.restoreSet
  dsimp only
  split
  · exact ⟨rfl, rfl, rfl⟩
  · split
    · exact ⟨rfl, rfl, rfl⟩
    · split
      · exact ⟨rfl, rfl, rfl⟩
      · exact ⟨rfl, rfl, rfl⟩

@[simp] theorem Lane.toStep_sec (L : Lane) (k : Nat) : (L.toStep k).sec = L.sec := rfl
@[simp] theorem Lane.toStep_safe (L : Lane) (k : Nat) : (L.toStep k).safe = L.safe := rfl
@[simp] theorem Lane.loadSched_sec (L : Lane) : L.loadSched.sec = L.sec := rfl
@[simp] theorem Lane.loadSched_safe (L : Lane) : L.loadSched.safe = L.safe := rfl

/-- The lane with its pins taken and the set they select restored and checked. -/
theorem Lane.pinsTaken (L : Lane) (k c : Nat) :
    (L.takePins (some (k, c))).restoreSet.evalChk.pwr = L.pwr ∧
    (L.takePins (some (k, c))).restoreSet.evalChk.sec = L.sec ∧
    (L.takePins (some (k, c))).restoreSet.evalChk.safe.setSel = k % 4 ∧
    (L.takePins (some (k, c))).restoreSet.evalChk.safe.chkIn = c % 256 := by
  obtain ⟨hsel, hchk, hsec⟩ := (L.takePins (some (k, c))).restoreSet_pins
  have checked (M : Lane) : M.evalChk.safe.setSel = M.safe.setSel ∧ M.evalChk.safe.chkIn = M.safe.chkIn ∧
      M.evalChk.sec = M.sec := ⟨rfl, rfl, rfl⟩
  obtain ⟨hsel', hchk', hsec'⟩ := checked (L.takePins (some (k, c))).restoreSet
  exact ⟨by simp, hsec'.trans hsec, hsel'.trans hsel, hchk'.trans hchk⟩

/-- What a lane that booted does at step 6. -/
def Lane.configured (L : Lane) (pins : Option (Nat × Nat)) : Lane :=
  let M := ((L.takePins pins).restoreSet).evalChk
  let M := if M.safe.restored && !M.safe.chkOk then M.raise 0x8403 0 else M
  (M.loadSched.checkAll).toStep 7

theorem Lane.configured_spec (L : Lane) (k c : Nat) :
    (L.configured (some (k, c))).pwr = { L.pwr with step := 7 } ∧ (L.configured (some (k, c))).sec = L.sec ∧
    (L.configured (some (k, c))).safe.setSel = k % 4 ∧ (L.configured (some (k, c))).safe.chkIn = c % 256 := by
  unfold Lane.configured
  dsimp only
  generalize hM : (L.takePins (some (k, c))).restoreSet.evalChk = M
  obtain ⟨pwrM, secM, selM, chkM⟩ : M.pwr = L.pwr ∧ M.sec = L.sec ∧ M.safe.setSel = k % 4 ∧ M.safe.chkIn = c % 256 := by
    rw [← hM]; exact L.pinsTaken k c
  have noted (b : Bool) : (if b then M.raise 0x8403 0 else M).pwr = M.pwr ∧
      (if b then M.raise 0x8403 0 else M).sec = M.sec ∧ (if b then M.raise 0x8403 0 else M).safe = M.safe := by
    cases b <;> exact ⟨rfl, rfl, rfl⟩
  obtain ⟨pwrN, secN, safeN⟩ := noted (M.safe.restored && !M.safe.chkOk)
  generalize (if (M.safe.restored && !M.safe.chkOk) = true then M.raise 0x8403 0 else M) = N at pwrN secN safeN ⊢
  obtain ⟨hsafe, hsec'⟩ := N.loadSched.checkAll_safe_sec
  rw [Lane.toStep_pwr, Lane.checkAll_pwr, Lane.loadSched_pwr, Lane.toStep_sec, hsec', Lane.loadSched_sec, Lane.toStep_safe,
    hsafe, Lane.loadSched_safe, pwrN, pwrM, secN, secM, safeN, selM, chkM]
  exact ⟨rfl, rfl, rfl, rfl⟩

/-- Secure boot of the lane whose configuration faults start anew. -/
def Lane.booted (L : Lane) : Lane := ({ L with flog := { L.flog with cfg := [] } } : Lane).secureBoot

theorem Lane.step6End_eq (L : Lane) (done : Bool) (pins : Option (Nat × Nat)) : L.step6End done pins =
    if L.booted.sec.bootOk = false ∨ done = false then { L.booted with pwr := { L.booted.pwr with stuckAt := true } }
    else L.booted.configured pins := rfl

theorem Lane.booted_pwr (L : Lane) : L.booted.pwr = L.pwr := Lane.secureBoot_pwr _

/-- Step 6: a lane that boots takes its pins and goes on. -/
theorem Lane.step6End_of_boot {L : Lane} (h : L.sec.bankPasses L.sec.active = true) (k c : Nat) :
    (L.step6End true (some (k, c))).pwr = { L.pwr with step := 7 } ∧
    (L.step6End true (some (k, c))).sec.bootOk = true ∧
    (L.step6End true (some (k, c))).safe.setSel = k % 4 ∧ (L.step6End true (some (k, c))).safe.chkIn = c % 256 := by
  have boot : L.booted.sec.bootOk = true := Lane.secureBoot_of_active h
  obtain ⟨hpwr, hsec, hsel, hchk⟩ := L.booted.configured_spec k c
  rw [Lane.step6End_eq, if_neg (by simp [boot]), hpwr, hsec, L.booted_pwr]
  exact ⟨rfl, boot, hsel, hchk⟩

/-- One that does not stays at the step. -/
theorem Lane.step6End_of_noBoot {L : Lane} (h : L.sec.bankPasses L.sec.active = false)
    (h' : L.sec.bankPasses (1 - L.sec.active) = false) (done : Bool) (pins : Option (Nat × Nat)) :
    (L.step6End done pins).pwr = { L.pwr with stuckAt := true } ∧ (L.step6End done pins).sec.bootOk = false ∧
    (L.step6End done pins).flog.last = 0x9002 := by
  obtain ⟨boot, last⟩ := Lane.secureBoot_of_none (L := { L with flog := { L.flog with cfg := [] } }) h h'
  rw [Lane.step6End_eq, if_pos (.inl boot), L.booted_pwr]
  exact ⟨rfl, boot, last⟩

/-! ### Steps 7 and 8 -/

/-- The time base is seeded after step 7, before it or by it. -/
theorem Lane.seedTime_seeded (L : Lane) (peer : Option (Nat × Lane)) (unc cw : Nat) :
    (L.seedTime peer unc cw).tb.seeded = true := by
  unfold Lane.seedTime
  dsimp only
  split
  next h => exact h
  · rfl

theorem Lane.step7End_seeded (L : Lane) (peer : Option (Nat × Lane)) (unc cw : Nat) :
    (L.step7End peer unc cw).tb.seeded = true := by
  unfold Lane.step7End
  dsimp only
  rw [Lane.settleAll_tb]
  exact Lane.seedTime_seeded ..

/-- Step 8 with a good gate rail: every bridge started, the stop line asserted again. -/
theorem Lane.step8End_of_done {L : Lane} {r : StepReport} (h : r.done = true) :
    (L.step8End r).pwr = { L.pwr with vgdOn := true, vgdBad := false, stopLine := true, waitShadow := true } ∧
    ∀ b, ((L.step8End r).gates.get b).onOut = 0 := by
  unfold Lane.step8End
  dsimp only
  rw [if_pos h]
  have started (M : Lane) : (fin8.foldl (fun M b => M.bridgeStart r.bridgeFail b) M).pwr = M.pwr :=
    Lane.foldl_pwr (fun J b => J.bridgeStart_pwr _ b) fin8 M
  generalize hM : Lane.chopStart _ r.chopI = M
  have pwrM : M.pwr = { L.pwr with vgdOn := true, vgdBad := false } := by rw [← hM, Lane.chopStart_pwr, started]
  rw [Lane.assertStop_pwr, pwrM]
  exact ⟨rfl, M.assertStop_onOut⟩

/-- A rail that stays low takes the lane out (R451). -/
theorem Lane.step8End_of_low {L : Lane} {r : StepReport} (h : r.done = false) (ho : L.vote.outNow = false) :
    (L.step8End r).pwr = { L.pwr with
      vgdOn := true, vgdBad := true, stopLine := true, nflt := false, exit := false } ∧
    (L.step8End r).vote.outNow = true ∧ (L.step8End r).flog.last = 0x6FC1 := by
  unfold Lane.step8End
  dsimp only
  rw [if_neg (ne_true_of_eq_false h), Lane.assertStop_vote, Lane.assertStop_flog, Lane.laneOut_last]
  generalize hM : ({ L with pwr := _ } : Lane).raise 0x6FC1 3 = M
  have outM : M.vote.outNow = false := by rw [← hM]; exact ho
  have pwrM : M.pwr = { L.pwr with vgdOn := true, vgdBad := true } := by rw [← hM]; rfl
  have gone : (({ L with pwr := { L.pwr with vgdOn := true, vgdBad := true } } : Lane).laneOut 0x6FC1) = M.goOut 0x6FC1 := by
    rw [Lane.laneOut, hM]
  rw [gone, Lane.assertStop_pwr, Lane.goOut_pwr outM, Lane.goOut_vote outM, pwrM]
  exact ⟨rfl, rfl, rfl⟩

/-! ### The end of a step -/

section
variable {L : Lane} {r : StepReport} {peer : Option (Nat × Lane)} {unc : Nat}

/-- A failed start test keeps the lane at the step. -/
theorem Lane.stepEnd_of_latent (h : r.latent ∈ startTests L.pwr.step) :
    (L.stepEnd r peer unc).pwr.step = L.pwr.step ∧ (L.stepEnd r peer unc).pwr.stuckAt = true ∧
    (L.stepEnd r peer unc).flog.last = BitVec.ofNat 16 r.latent ∧
    (L.pwr.step = 8 → (L.stepEnd r peer unc).pwr.stopLine = true) := by
  obtain ⟨⟨n, hpwr⟩, -⟩ := L.allotted_kept
  rw [Lane.stepEnd, if_pos h]
  by_cases h8 : L.pwr.step = 8
  · rw [if_pos h8]
    exact ⟨by simp [hpwr], by simp, Lane.stuck_last .., fun _ => rfl⟩
  · rw [if_neg h8]
    exact ⟨by simp [hpwr], by simp, Lane.stuck_last .., fun h => absurd h h8⟩

variable (h : r.latent ∉ startTests L.pwr.step)

include h

theorem Lane.stepEnd_one (hk : L.pwr.step = 1) : L.stepEnd r peer unc = L.allotted.step1End := by
  rw [Lane.stepEnd, if_neg h]; simp only [hk]

theorem Lane.stepEnd_two (hk : L.pwr.step = 2) : L.stepEnd r peer unc = L.allotted.step2End r.done := by
  rw [Lane.stepEnd, if_neg h]; simp only [hk]

theorem Lane.stepEnd_three (hk : L.pwr.step = 3) : L.stepEnd r peer unc = L.allotted.step3End r.done := by
  rw [Lane.stepEnd, if_neg h]; simp only [hk]

theorem Lane.stepEnd_four (hk : L.pwr.step = 4) : L.stepEnd r peer unc = L.allotted.step4End r.done := by
  rw [Lane.stepEnd, if_neg h]; simp only [hk]

theorem Lane.stepEnd_five (hk : L.pwr.step = 5) : L.stepEnd r peer unc = L.allotted.step5End r.done r.cells := by
  rw [Lane.stepEnd, if_neg h]; simp only [hk]

theorem Lane.stepEnd_six (hk : L.pwr.step = 6) : L.stepEnd r peer unc = L.allotted.step6End r.done r.pins := by
  rw [Lane.stepEnd, if_neg h]; simp only [hk]

theorem Lane.stepEnd_seven (hk : L.pwr.step = 7) :
    L.stepEnd r peer unc = L.allotted.step7End peer unc r.aoCount := by
  rw [Lane.stepEnd, if_neg h]; simp only [hk]

theorem Lane.stepEnd_eight (hk : L.pwr.step = 8) : L.stepEnd r peer unc = L.allotted.step8End r := by
  rw [Lane.stepEnd, if_neg h]; simp only [hk]

end

/-! ### The command -/

/-- What a lane that restores has not done yet. -/
theorem Lane.of_restoring {L : Lane} (h : L.restoring = true) :
    L.pwr.state = .starting ∧ L.pwr.stuckAt = false ∧ L.pwr.waitShadow = false ∧ L.vote.outNow = false := by
  simp only [Lane.restoring, Bool.and_eq_true, beq_iff_eq, Bool.not_eq_true'] at h
  obtain ⟨⟨⟨⟨⟨-, hstate⟩, -⟩, hstuck⟩, hwait⟩, hout⟩ : ((((_ ∧ L.pwr.state = .starting) ∧ _) ∧
      L.pwr.stuckAt = false) ∧ L.pwr.waitShadow = false) ∧ L.vote.outNow = false := by tauto
  exact ⟨hstate, hstuck, hwait, hout⟩

section
variable {s : State} {l : LaneId} {r : StepReport}

theorem exec_restoreStepEnd_of_not (h : (s.lane l).restoring = false) : exec (.restoreStepEnd l r) s = .next s := if_pos h

variable (h : (s.lane l).restoring = true)

include h

theorem exec_restoreStepEnd_on (h0 : (s.lane l).pwr.step ≠ 0) (h7 : (s.lane l).pwr.step ≠ 7) :
    ∃ t, exec (.restoreStepEnd l r) s = .next t ∧ OnlyLane l s t ∧ t.lane l = (s.lane l).stepEnd r none 0 := by
  refine ⟨s.on l fun L => L.stepEnd r none 0, ?_, s.onlyLane_on l _, s.lane_on_same l _⟩
  simp [exec, execRestoreStepEnd, h, h0, h7]

theorem exec_restoreStepEnd_latent (hl : r.latent ∈ startTests (s.lane l).pwr.step) :
    ∃ t, exec (.restoreStepEnd l r) s = .next t ∧ OnlyLane l s t ∧ (t.lane l).pwr.step = (s.lane l).pwr.step ∧
      (t.lane l).pwr.stuckAt = true ∧ (t.lane l).flog.last = BitVec.ofNat 16 r.latent ∧
      ((s.lane l).pwr.step = 8 → (t.lane l).pwr.stopLine = true) := by
  have tested : (s.lane l).pwr.step ≠ 0 ∧ (s.lane l).pwr.step ≠ 7 := by
    constructor <;> intro hk <;> rw [hk] at hl <;> cases hl
  obtain ⟨t, ht, hon, hM⟩ := exec_restoreStepEnd_on (r := r) h tested.1 tested.2
  exact ⟨t, ht, hon, by rw [hM]; exact Lane.stepEnd_of_latent hl⟩

theorem exec_restoreStepEnd_zero (hk : (s.lane l).pwr.step = 0) :
    ∃ t, exec (.restoreStepEnd l r) s = .next t ∧ LanesOnly s t ∧ (t.lane l).pwr.step = 1 ∧
      (t.lane l).pwr.state = .starting ∧ (t.lane l).vote.role = .out := by
  have start : exec (.restoreStepEnd l r) s = .next ((s.laneStarted l).on l fun L => L.powerUp 1) := by
    simp [exec, execRestoreStepEnd, h, hk]
  refine ⟨_, start, ⟨rfl, rfl, rfl⟩, ?_⟩
  rw [State.lane_on_same]
  exact ⟨rfl, rfl, rfl⟩

variable (hl : r.latent ∉ startTests (s.lane l).pwr.step)

include hl

theorem exec_restoreStepEnd_one (hk : (s.lane l).pwr.step = 1) :
    ∃ t, exec (.restoreStepEnd l r) s = .next t ∧ OnlyLane l s t ∧
      (t.lane l).pwr.step = (if (s.lane l).therm.cone then 1 else 2) ∧ (t.lane l).pwr.stuckAt = (s.lane l).therm.cone := by
  obtain ⟨t, ht, hon, hM⟩ := exec_restoreStepEnd_on (r := r) h (by omega) (by omega)
  refine ⟨t, ht, hon, ?_⟩
  obtain ⟨⟨n, hpwr⟩, -, htherm, -⟩ := (s.lane l).allotted_kept
  obtain ⟨-, hfree, -⟩ := Lane.of_restoring h
  rw [hM, Lane.stepEnd_one hl hk, Lane.step1End, htherm]
  by_cases hc : (s.lane l).therm.cone = true
  · rw [if_pos hc, if_pos hc, hpwr]
    exact ⟨hk, hc.symm⟩
  · rw [if_neg hc, if_neg hc, Lane.toStep_pwr, hpwr]
    exact ⟨rfl, hfree.trans (eq_false_of_ne_true hc).symm⟩

theorem exec_restoreStepEnd_two (hk : (s.lane l).pwr.step = 2) :
    ∃ t, exec (.restoreStepEnd l r) s = .next t ∧ OnlyLane l s t ∧
      (r.done = true → (t.lane l).pwr.step = 3 ∧ (t.lane l).clk.xtalOk = true) ∧
      (r.done = false → (t.lane l).pwr.step = 2 ∧ (t.lane l).pwr.stuckAt = true ∧ (t.lane l).flog.last = 0x1FD2) := by
  obtain ⟨t, ht, hon, hM⟩ := exec_restoreStepEnd_on (r := r) h (by omega) (by omega)
  obtain ⟨⟨n, hpwr⟩, -⟩ := (s.lane l).allotted_kept
  rw [Lane.stepEnd_two hl hk] at hM
  exact ⟨t, ht, hon, by rw [hM]; exact Lane.step2End_spec _ (by rw [hpwr]; exact hk) r.done⟩

theorem exec_restoreStepEnd_three (hk : (s.lane l).pwr.step = 3) :
    ∃ t, exec (.restoreStepEnd l r) s = .next t ∧ OnlyLane l s t ∧
      (r.done = true → (t.lane l).pwr.step = 4 ∧ (t.lane l).clk.coreLock = true ∧ (t.lane l).clk.netLock = true) ∧
      (r.done = false → (t.lane l).pwr.step = 3 ∧ (t.lane l).pwr.stuckAt = true ∧ (t.lane l).flog.last = 0x1FD3) := by
  obtain ⟨t, ht, hon, hM⟩ := exec_restoreStepEnd_on (r := r) h (by omega) (by omega)
  obtain ⟨⟨n, hpwr⟩, -⟩ := (s.lane l).allotted_kept
  rw [Lane.stepEnd_three hl hk] at hM
  exact ⟨t, ht, hon, by rw [hM]; exact Lane.step3End_spec _ (by rw [hpwr]; exact hk) r.done⟩

theorem exec_restoreStepEnd_four (hk : (s.lane l).pwr.step = 4) :
    ∃ t, exec (.restoreStepEnd l r) s = .next t ∧ OnlyLane l s t ∧
      (r.done = true → (t.lane l).pwr.step = 5) ∧
      (r.done = false → (t.lane l).pwr.step = 4 ∧ (t.lane l).pwr.stuckAt = true ∧ (t.lane l).flog.last = 0x1FD4) := by
  obtain ⟨t, ht, hon, hM⟩ := exec_restoreStepEnd_on (r := r) h (by omega) (by omega)
  obtain ⟨⟨n, hpwr⟩, -⟩ := (s.lane l).allotted_kept
  rw [Lane.stepEnd_four hl hk] at hM
  exact ⟨t, ht, hon, by rw [hM]; exact Lane.step4End_spec _ (by rw [hpwr]; exact hk) r.done⟩

theorem exec_restoreStepEnd_five (hk : (s.lane l).pwr.step = 5) :
    ∃ t, exec (.restoreStepEnd l r) s = .next t ∧ OnlyLane l s t ∧ (t.lane l).mem.owed = 0 ∧
      (r.done = true → r.cells = [] → (s.lane l).mem.marked = [] → (t.lane l).pwr.step = 6 ∧
        (t.lane l).mem.spares = (s.lane l).mem.spares) ∧
      (r.done = false → (t.lane l).pwr.step = 5 ∧ (t.lane l).pwr.stuckAt = true ∧ (t.lane l).flog.last = 0x1FD5) := by
  obtain ⟨t, ht, hon, hM⟩ := exec_restoreStepEnd_on (r := r) h (by omega) (by omega)
  obtain ⟨⟨n, hpwr⟩, -, -, hmem, -⟩ := (s.lane l).allotted_kept
  rw [Lane.stepEnd_five hl hk] at hM
  refine ⟨t, ht, hon, ?_⟩
  rw [hM, ← hmem]
  exact Lane.step5End_spec _ (by rw [hpwr]; exact hk) r.done r.cells

theorem exec_restoreStepEnd_boots (hk : (s.lane l).pwr.step = 6) (k c : Nat) (hd : r.done = true)
    (hp : r.pins = some (k, c)) (hb : (s.lane l).sec.bankPasses (s.lane l).sec.active = true) :
    ∃ t, exec (.restoreStepEnd l r) s = .next t ∧
      OnlyLane l s t ∧ (t.lane l).pwr.step = 7 ∧ (t.lane l).sec.bootOk = true ∧ (t.lane l).safe.setSel = k % 4 ∧
      (t.lane l).safe.chkIn = c % 256 ∧ (t.lane l).pwr.state = .starting := by
  obtain ⟨t, ht, hon, hM⟩ := exec_restoreStepEnd_on (r := r) h (by omega) (by omega)
  obtain ⟨⟨n, hpwr⟩, -, -, -, hsec⟩ := (s.lane l).allotted_kept
  obtain ⟨hstate, -⟩ := Lane.of_restoring h
  obtain ⟨hpwr', hboot, hsel, hchk⟩ := Lane.step6End_of_boot (L := (s.lane l).allotted) (by rw [hsec]; exact hb) k c
  refine ⟨t, ht, hon, ?_⟩
  rw [hM, Lane.stepEnd_six hl hk, hd, hp, hpwr', hpwr]
  exact ⟨rfl, hboot, hsel, hchk, hstate⟩

theorem exec_restoreStepEnd_noBoot (hk : (s.lane l).pwr.step = 6)
    (hb : (s.lane l).sec.bankPasses (s.lane l).sec.active = false)
    (hb' : (s.lane l).sec.bankPasses (1 - (s.lane l).sec.active) = false) :
    ∃ t, exec (.restoreStepEnd l r) s = .next t ∧
      OnlyLane l s t ∧ (t.lane l).pwr.step = 6 ∧ (t.lane l).pwr.stuckAt = true ∧ (t.lane l).sec.bootOk = false ∧
      (t.lane l).flog.last = 0x9002 := by
  obtain ⟨t, ht, hon, hM⟩ := exec_restoreStepEnd_on (r := r) h (by omega) (by omega)
  obtain ⟨⟨n, hpwr⟩, -, -, -, hsec⟩ := (s.lane l).allotted_kept
  obtain ⟨hpwr', hboot, hlast⟩ := Lane.step6End_of_noBoot (L := (s.lane l).allotted) (by rw [hsec]; exact hb)
    (by rw [hsec]; exact hb') r.done r.pins
  refine ⟨t, ht, hon, ?_⟩
  rw [hM, Lane.stepEnd_six hl hk, hpwr', hpwr]
  exact ⟨hk, rfl, hboot, hlast⟩

theorem exec_restoreStepEnd_seven (hk : (s.lane l).pwr.step = 7) :
    ∃ t, exec (.restoreStepEnd l r) s = .next t ∧ t.pub = s.pub ∧ t.pending = s.pending ∧
      t.freeCtr = s.freeCtr + 1 ∧ (t.lane l).pwr.step = 8 ∧ (t.lane l).pwr.stopLine = false ∧ (t.lane l).tb.seeded = true ∧
      (t.lane l).pwr.state = .starting := by
  have integrated : exec (.restoreStepEnd l r) s = .next { (s.laneStarted l).on l fun L =>
      L.stepEnd r (s.seedPeer l r.peerTime) (roundR (Config.free 292 s.freeCtr)).toNat with freeCtr := s.freeCtr + 1 } := by
    simp [exec, execRestoreStepEnd, h, hk]
  refine ⟨_, integrated, rfl, rfl, rfl, ?_⟩
  have lane (t : State) (n : Nat) : State.lane { t with freeCtr := n } l = t.lane l := rfl
  rw [lane, State.lane_on_same]
  have started := s.lane_laneStarted_pwr l l
  obtain ⟨hstate, -⟩ := Lane.of_restoring h
  rw [← started] at hk hl hstate
  obtain ⟨⟨n, hpwr⟩, -⟩ := ((s.laneStarted l).lane l).allotted_kept
  rw [Lane.stepEnd_seven hl hk, Lane.step7End_pwr, hpwr]
  exact ⟨rfl, rfl, Lane.step7End_seeded .., hstate⟩

theorem exec_restoreStepEnd_eight (hk : (s.lane l).pwr.step = 8) :
    ∃ t, exec (.restoreStepEnd l r) s = .next t ∧ OnlyLane l s t ∧
      (t.lane l).pwr.stopLine = true ∧ (t.lane l).pwr.step = 8 ∧ (t.lane l).pwr.vgdOn = true ∧
      (r.done = true → (t.lane l).pwr.waitShadow = true ∧ ∀ b, ((t.lane l).gates.get b).onOut = 0) ∧
      (r.done = false → (t.lane l).vote.outNow = true ∧ (t.lane l).pwr.vgdBad = true ∧ (t.lane l).flog.last = 0x6FC1 ∧
        (t.lane l).pwr.waitShadow = false) := by
  obtain ⟨t, ht, hon, hM⟩ := exec_restoreStepEnd_on (r := r) h (by omega) (by omega)
  obtain ⟨⟨n, hpwr⟩, hvote, -⟩ := (s.lane l).allotted_kept
  obtain ⟨-, -, hwait, hout⟩ := Lane.of_restoring h
  rw [Lane.stepEnd_eight hl hk] at hM
  refine ⟨t, ht, hon, ?_⟩
  rw [hM]
  by_cases hd : r.done = true
  · obtain ⟨hpwr', hgates⟩ := Lane.step8End_of_done (L := (s.lane l).allotted) hd
    rw [hpwr', hpwr]
    exact ⟨rfl, hk, rfl, fun _ => ⟨rfl, hgates⟩, fun hn => absurd hd (ne_true_of_eq_false hn)⟩
  · obtain ⟨hpwr', hout', hlast⟩ := Lane.step8End_of_low (L := (s.lane l).allotted) (eq_false_of_ne_true hd)
      (by rw [hvote]; exact hout)
    rw [hpwr', hpwr]
    exact ⟨rfl, hk, rfl, fun hn => absurd hn hd, fun _ => ⟨hout', rfl, hlast, hwait⟩⟩

end

/-- Settles O47: each step of the order by what its report lets it do. -/
theorem restoreOrder : Obligations.RestoreOrder := by
  unfold Obligations.RestoreOrder
  intro s l r
  exact ⟨exec_restoreStepEnd_of_not, exec_restoreStepEnd_latent,
    fun h hl => ⟨exec_restoreStepEnd_zero h, exec_restoreStepEnd_one h hl, exec_restoreStepEnd_two h hl,
      exec_restoreStepEnd_three h hl, exec_restoreStepEnd_four h hl, exec_restoreStepEnd_five h hl,
      fun hk => ⟨exec_restoreStepEnd_boots h hl hk, exec_restoreStepEnd_noBoot h hl hk⟩,
      exec_restoreStepEnd_seven h hl, exec_restoreStepEnd_eight h hl⟩⟩

end Sys2Proof.Machine
end

section
/-! PROOFS, clock checks, the housekeeping round and the die link (O52). -/
namespace Sys2Proof.Machine

section
variable {s : State} {l : LaneId}

/-! ### Faults at level lane-out -/

theorem Lane.laneOut_outNow (L : Lane) (code detId detVal : Nat) : (L.laneOut code detId detVal).vote.outNow = true := by
  rw [Lane.laneOut]
  cases h : L.vote.outNow with
  | true => rw [Lane.goOut_of_out (by rw [Lane.raise_vote, h]), Lane.assertStop_vote, Lane.raise_vote, h]
  | false => rw [Lane.goOut_vote (by rw [Lane.raise_vote, h])]

/-- The first lane-out takes the role and leaves its cause (R22, R72). -/
theorem Lane.laneOut_out {L : Lane} (h : L.vote.outNow = false) (code : Nat) :
    (L.laneOut code).vote.role = .out ∧ (L.laneOut code).vote.outCause = BitVec.ofNat 16 code := by
  rw [Lane.laneOut, Lane.goOut_vote (by rw [Lane.raise_vote, h])]
  exact ⟨rfl, rfl⟩

/-- A lane-out by a fault that before it only notes what it found: the lane is out for it, its stop line asserted and its
gates low; dictionary and services stand (R22, R24, R72). -/
theorem exec_of_laneOut {c : Instr} {f : Lane → Lane} {n : Nat} {code : W16} (hcode : code = BitVec.ofNat 16 n)
    (h : exec c s = .next (s.on l fun L => (f L).laneOut n)) (hvote : (f (s.lane l)).vote = (s.lane l).vote)
    (hdict : (f (s.lane l)).dict = (s.lane l).dict) (hsvc : (f (s.lane l)).svc = (s.lane l).svc) :
    ∃ t, exec c s = .next t ∧ OnlyLane l s t ∧ (t.lane l).vote.outNow = true ∧
      ((s.lane l).vote.outNow = false → (t.lane l).vote.role = .out ∧ (t.lane l).vote.outCause = code) ∧
      (t.lane l).pwr.stopLine = true ∧ (t.lane l).flog.last = code ∧ (∀ b, ((t.lane l).gates.get b).onOut = 0) ∧
      (t.lane l).dict = (s.lane l).dict ∧ (t.lane l).svc = (s.lane l).svc := by
  refine ⟨_, h, s.onlyLane_on l _, ?_⟩
  rw [s.lane_on_same, Lane.laneOut_stopLine, Lane.laneOut_last, Lane.laneOut_dict, Lane.laneOut_svc, hdict, hsvc, hcode]
  rw [← hvote]
  exact ⟨Lane.laneOut_outNow .., fun hout => Lane.laneOut_out hout n, rfl, rfl,
    fun b => ((f (s.lane l)).laneOut_gates_low n 0 0 b).2, rfl, rfl⟩

theorem absR_le_iff (x y : Rat) : absR x ≤ y ↔ -y ≤ x ∧ x ≤ y := by
  unfold absR
  split
  next h => constructor <;> intro hx
            · constructor <;> linarith
            · linarith
  next h => constructor <;> intro hx
            · constructor <;> linarith
            · exact hx.2

theorem exec_clockCheck_of_near (ha : (s.lane l).alive = true) (ppm : Rat) (h1 : -5000 ≤ ppm) (h2 : ppm ≤ 5000) :
    exec (.clockCheck l ppm) s =
      .next (s.on l fun L => { L with clk := { L.clk with monPpm := ppm, monOk := true } }) := by
  have ok : decide (absR ppm ≤ 5000) = true := decide_eq_true ((absR_le_iff ppm 5000).2 ⟨h1, h2⟩)
  refine congrArg Host.Outcome.next (s.on_congr l ?_)
  simp only [ha, ok, if_true]

theorem exec_clockCheck_of_far (ha : (s.lane l).alive = true) {ppm : Rat} (h : ppm < -5000 ∨ 5000 < ppm) :
    exec (.clockCheck l ppm) s = .next (s.on l fun L =>
      ({ L with clk := { L.clk with monPpm := ppm, monOk := false } } : Lane).laneOut 0x1F41) := by
  have far : decide (absR ppm ≤ 5000) = false := by
    refine decide_eq_false fun hle => ?_
    obtain ⟨h1, h2⟩ := (absR_le_iff ppm 5000).1 hle
    rcases h with h | h <;> linarith
  refine congrArg Host.Outcome.next (s.on_congr l ?_)
  simp only [ha, far, if_true]
  rfl

/-- A lane that loses one of its PLLs. -/
def Lane.unlocked (net : Bool) (L : Lane) : Lane :=
  let M : Lane := if net then L.loseTime else L
  { M with clk := { M.clk with netLock := M.clk.netLock && !net, coreLock := M.clk.coreLock && net } }

theorem exec_pllUnlock_of_alive (ha : (s.lane l).alive = true) (net : Bool) :
    exec (.pllUnlock l net) s = .next (s.on l fun L => (L.unlocked net).laneOut 0x1F42) :=
  State.next_on_of_holds (c := fun L => L.alive = true) ha

theorem exec_referenceCheckFault_of_run (h : 3 ≤ (s.lane l).clk.refRun ∨ 3 ≤ (s.lane l).clk.refRunD) :
    exec (.referenceCheckFault l) s = .next (s.on l fun L =>
      ({ L with clk := { L.clk with refRun := 0, refRunD := 0 } } : Lane).laneOut 0x6FC4) :=
  State.next_on_of_holds (c := fun L => 3 ≤ L.clk.refRun ∨ 3 ≤ L.clk.refRunD) h

/-- A lane whose cut sensor is not believed any more. -/
def Lane.cutSuspect (drive : Bool) (L : Lane) : Lane :=
  { L with therm := { L.therm with
      suspect := true
      cutRunL := if drive then L.therm.cutRunL else 0
      cutRunD := if drive then 0 else L.therm.cutRunD } }

theorem exec_cutSensorImplausible_of_run {drive : Bool}
    (h : 3 ≤ if drive then (s.lane l).therm.cutRunD else (s.lane l).therm.cutRunL) :
    exec (.cutSensorImplausible l drive) s =
      .next (s.on l fun L => (L.cutSuspect drive).laneOut (if drive then 0x7043 else 0x7003)) :=
  State.next_on_of_holds (c := fun L => 3 ≤ if drive then L.therm.cutRunD else L.therm.cutRunL) h

theorem exec_d2dLinkFailed_of_run (h : 3 ≤ (s.lane l).clk.d2dUp ∨ 3 ≤ (s.lane l).clk.d2dDown) :
    exec (.d2dLinkFailed l) s = .next (s.on l fun L =>
      ({ L with clk := { L.clk with d2dUp := 0, d2dDown := 0 } } : Lane).laneOut 0x1F45) :=
  State.next_on_of_holds (c := fun L => 3 ≤ L.clk.d2dUp ∨ 3 ≤ L.clk.d2dDown) h

theorem exec_compareSelfCheck_of_fail (ha : (s.lane l).alive = true) (hr : (s.lane l).vote.running = true)
    (hc : (s.lane l).vote.cycle.toNat % 1000 = 0) :
    exec (.compareSelfCheck l false) s = .next (s.on l fun L => L.laneOut 0x1FDC) :=
  congrArg Host.Outcome.next (s.on_congr l (if_pos (by simp [ha, hr, hc])))

theorem exec_compareSelfCheck_pass : exec (.compareSelfCheck l true) s = .next s :=
  congrArg Host.Outcome.next (s.on_id l (if_neg (by simp)))

theorem exec_compareSelfCheck_of_not (h : (s.lane l).alive = false ∨ (s.lane l).vote.running = false ∨
    (s.lane l).vote.cycle.toNat % 1000 ≠ 0) : exec (.compareSelfCheck l false) s = .next s := by
  refine congrArg Host.Outcome.next (s.on_id l (if_neg ?_))
  obtain h | h | h := h <;> simp [h]

theorem exec_clocks_of_not_alive (ha : (s.lane l).alive = false) (ppm : Rat) (net : Bool) (n : Nat) (r : HkRound) (b : Fin 8)
    (up ok : Bool) : exec (.clockCheck l ppm) s = .next s ∧
      exec (.pllUnlock l net) s = .next s ∧ exec (.hkRound l n r) s = .next s ∧ exec (.d2dFrame l b up ok) s = .next s := by
  have dead : ¬ (s.lane l).alive = true := ne_true_of_eq_false ha
  exact ⟨congrArg Host.Outcome.next (s.on_id l (if_neg dead)), congrArg Host.Outcome.next (s.on_id l (if_neg dead)),
    congrArg Host.Outcome.next (s.on_id l (if_neg dead)), congrArg Host.Outcome.next (s.on_id l (if_pos ha))⟩

/-! ### HK_ROUND (R463) -/

/-- Lane `M` has kept from `L` what a round brought: time, channels and cut sensors, and the votes and bridges. -/
structure Lane.RoundKept (L M : Lane) : Prop where
  ns : M.tb.ns = L.tb.ns
  hk : M.clk.hk = L.clk.hk
  hkNs : M.clk.hkNs = L.clk.hkNs
  tcutL : M.therm.tcutL = L.therm.tcutL
  tcutD : M.therm.tcutD = L.therm.tcutD
  bridges : M.bridges = L.bridges

theorem Lane.RoundKept.refl (L : Lane) : L.RoundKept L := ⟨rfl, rfl, rfl, rfl, rfl, rfl⟩

theorem Lane.RoundKept.trans {L M N : Lane} (h : L.RoundKept M) (h' : M.RoundKept N) : L.RoundKept N :=
  ⟨h'.ns.trans h.ns, h'.hk.trans h.hk, h'.hkNs.trans h.hkNs, h'.tcutL.trans h.tcutL, h'.tcutD.trans h.tcutD,
    h'.bridges.trans h.bridges⟩

theorem Lane.raise_roundKept (L : Lane) (code level detId detVal : Nat) :
    L.RoundKept (L.raise code level detId detVal) := ⟨rfl, rfl, rfl, rfl, rfl, rfl⟩

theorem Lane.RoundKept.ite {L M N : Lane} {p : Prop} [Decidable p] (h : L.RoundKept M) (h' : L.RoundKept N) :
    L.RoundKept (if p then M else N) := by
  split
  · exact h
  · exact h'

theorem Lane.judgeTemps_roundKept (L : Lane) : L.RoundKept L.judgeTemps := by
  have noted : L.RoundKept { L with therm := { L.therm with
    tLogic := L.dieTemp false, tDrive := L.dieTemp true, caseL := L.fewCase false, caseD := L.fewCase true } } :=
    ⟨rfl, rfl, rfl, rfl, rfl, rfl⟩
  have first := Lane.RoundKept.ite (p := L.fewCase false ≠ 0 ∧ L.fewCase false ≠ L.therm.caseL)
    (noted.trans (Lane.raise_roundKept _ 0x7005 0 0 0)) noted
  exact .ite (first.trans (Lane.raise_roundKept _ 0x7045 0 0 0)) first

theorem Lane.judgeWarn_roundKept (L : Lane) : L.RoundKept L.judgeWarn := by
  have noted (a b : Bool) : L.RoundKept { L with therm := { L.therm with warnL := a, warnD := b } } :=
    ⟨rfl, rfl, rfl, rfl, rfl, rfl⟩
  have first (a b : Bool) := Lane.RoundKept.ite (p := (a && !L.therm.warnL) = true)
    ((noted a b).trans (Lane.raise_roundKept _ 0x7004 0 0 0)) (noted a b)
  exact .ite ((first _ _).trans (Lane.raise_roundKept _ 0x7044 0 0 0)) (first _ _)

theorem Lane.compensate_roundKept (L : Lane) : L.RoundKept L.compensate := by
  unfold Lane.compensate
  split
  · exact ⟨rfl, rfl, rfl, rfl, rfl, rfl⟩
  · split
    · exact ⟨rfl, rfl, rfl, rfl, rfl, rfl⟩
    · dsimp only
      split <;> exact ⟨rfl, rfl, rfl, rfl, rfl, rfl⟩

theorem Lane.judgeAo_roundKept (L : Lane) (hz : Rat) : L.RoundKept (L.judgeAo hz) := by
  unfold Lane.judgeAo
  dsimp only
  split <;> exact ⟨rfl, rfl, rfl, rfl, rfl, rfl⟩

/-- An always-on oscillator out of range is noted and voids the sleep record (R459). -/
theorem Lane.judgeAo_spec (L : Lane) (hz : Rat) : (L.judgeAo hz).clk.aoFreq = hz ∧
    ((hz < 3200000 ∨ 4800000 < hz) → (L.judgeAo hz).sleep.valid = false ∧ (L.judgeAo hz).clk.aoOk = false) := by
  have out (h : hz < 3200000 ∨ 4800000 < hz) : (decide (3200000 ≤ hz) && decide (hz ≤ 4800000)) = false := by
    rcases h with h | h
    · rw [decide_eq_false (not_le.2 h), Bool.false_and]
    · rw [decide_eq_false (not_le.2 h), Bool.and_false]
  unfold Lane.judgeAo
  dsimp only
  split
  · exact ⟨rfl, fun h => ⟨by simp only [out h, Bool.and_false], out h⟩⟩
  · exact ⟨rfl, fun h => ⟨by simp only [Lane.raise_sleep, out h, Bool.and_false], out h⟩⟩

theorem length_hkList (v : List Rat) : (hkList v).length = 64 := by simp [hkList]

theorem getElem?_hkList (v : List Rat) {k : Nat} (h : k < 61) : (hkList v)[k]? = some ((v[k]?).getD 0) := by
  rw [hkList, List.getElem?_map, List.getElem?_range (by omega), Option.map_some, if_neg (by omega)]

/-- The lane with the channels of a round that began and ended at some instants, and the counts that follow from them. -/
def Lane.roundTaken (L : Lane) (start last : Nat) (r : HkRound) : Lane :=
  let L := L.advance last
  let L : Lane := { L with
    clk := { L.clk with hk := hkList r.vals, hkNs := start }
    therm := { L.therm with tcutL := r.tcutL, tcutD := r.tcutD } }
  { L with therm := { L.therm with
    runs := (List.range 10).map L.sensorRun
    pairL := if L.pairDiffers false then L.therm.pairL + 1 else 0
    pairD := if L.pairDiffers true then L.therm.pairD + 1 else 0 } }

theorem Lane.roundTaken_spec (L : Lane) (start last : Nat) (r : HkRound) :
    (L.roundTaken start last r).tb.ns = max L.tb.ns last ∧ (L.roundTaken start last r).clk.hk = hkList r.vals ∧
    (L.roundTaken start last r).clk.hkNs = start ∧ (L.roundTaken start last r).therm.tcutL = r.tcutL ∧
    (L.roundTaken start last r).therm.tcutD = r.tcutD ∧ (L.roundTaken start last r).bridges = L.bridges :=
  ⟨L.advance_ns last, rfl, rfl, rfl, rfl, L.advance_bridges last⟩

/-- The judgements of a round before that of the oscillator. -/
def Lane.roundJudged (L : Lane) : Lane := L.judgeTemps.judgeWarn.judgeCutSensors.compensate.trim.judgeRefs

theorem Lane.roundJudged_roundKept (L : Lane) : L.RoundKept L.roundJudged := by
  have cut (M : Lane) : M.RoundKept M.judgeCutSensors := ⟨rfl, rfl, rfl, rfl, rfl, rfl⟩
  have trimmed (M : Lane) : M.RoundKept M.trim := ⟨rfl, rfl, rfl, rfl, rfl, rfl⟩
  have refs (M : Lane) : M.RoundKept M.judgeRefs := ⟨rfl, rfl, rfl, rfl, rfl, rfl⟩
  exact L.judgeTemps_roundKept.trans <| (Lane.judgeWarn_roundKept _).trans <| (cut _).trans <|
    (Lane.compensate_roundKept _).trans <| (trimmed _).trans (refs _)

theorem Lane.hkRound_eq (L : Lane) (n : Nat) (r : HkRound) :
    L.hkRound n r = ((((L.roundTaken (n * 4000000) (n * 4000000 + 3937500) r).roundJudged).judgeAo r.aoHz).judgeLinkSense).kilnRound := rfl

theorem exec_hkRound_of_alive (ha : (s.lane l).alive = true) (n : Nat) (r : HkRound) :
    ∃ t, exec (.hkRound l n r) s = .next t ∧ OnlyLane l s t ∧
      (t.lane l).tb.ns = max (s.lane l).tb.ns (n * 4000000 + 3937500) ∧ (t.lane l).clk.hkNs = n * 4000000 ∧
      (t.lane l).clk.hk.length = 64 ∧ (∀ k < 61, (t.lane l).clk.hk[k]? = some ((r.vals[k]?).getD 0)) ∧
      (t.lane l).therm.tcutL = r.tcutL ∧ (t.lane l).therm.tcutD = r.tcutD ∧ (t.lane l).clk.aoFreq = r.aoHz ∧
      ((r.aoHz < 3200000 ∨ 4800000 < r.aoHz) → (t.lane l).sleep.valid = false ∧ (t.lane l).clk.aoOk = false) ∧
      (t.lane l).vote = (s.lane l).vote ∧ (t.lane l).bridges = (s.lane l).bridges := by
  refine ⟨_, State.next_on_of_holds (c := fun L => L.alive = true) ha, s.onlyLane_on l _, ?_⟩
  rw [s.lane_on_same]
  have hvote : ((s.lane l).hkRound n r).vote = (s.lane l).vote := (Lane.hkRound_voteKept _ n r).2
  obtain ⟨hns, hhk, hhkNs, hL, hD, hbr⟩ := (s.lane l).roundTaken_spec (n * 4000000) (n * 4000000 + 3937500) r
  generalize hM : (s.lane l).roundTaken _ _ r = M at hns hhk hhkNs hL hD hbr
  have kept := (M.roundJudged_roundKept).trans (M.roundJudged.judgeAo_roundKept r.aoHz)
  obtain ⟨hfreq, hbad⟩ := M.roundJudged.judgeAo_spec r.aoHz
  have last : ((s.lane l).hkRound n r) = ((M.roundJudged.judgeAo r.aoHz).judgeLinkSense).kilnRound := by
    rw [Lane.hkRound_eq, hM]
  have rest (N : Lane) : N.judgeLinkSense.kilnRound.tb = N.tb ∧ N.judgeLinkSense.kilnRound.clk = N.clk ∧
      N.judgeLinkSense.kilnRound.therm = N.therm ∧ N.judgeLinkSense.kilnRound.sleep = N.sleep ∧
      N.judgeLinkSense.kilnRound.bridges = N.bridges := ⟨rfl, rfl, rfl, rfl, rfl⟩
  obtain ⟨htb, hclk, htherm, hsleep, hbridges⟩ := rest (M.roundJudged.judgeAo r.aoHz)
  rw [hvote, last, htb, hclk, htherm, hsleep, hbridges, kept.ns, kept.hk, kept.hkNs, kept.tcutL, kept.tcutD, kept.bridges,
    hns, hhk, hhkNs, hL, hD, hbr]
  exact ⟨rfl, rfl, length_hkList _, fun k hk => getElem?_hkList _ hk, rfl, rfl, hfreq, hbad, rfl, rfl⟩

/-! ### D2D_FRAME (R457) -/

theorem exec_d2dFrame_of_bad (ha : (s.lane l).alive = true) (b : Fin 8) (up : Bool) :
    ∃ t, exec (.d2dFrame l b up false) s = .next t ∧ OnlyLane l s t ∧
      (t.lane l).clk.d2dErrors = satInc (s.lane l).clk.d2dErrors ∧
      (up = true → ((t.lane l).bridges.get b).noSample = true ∧ (t.lane l).clk.d2dUp = (s.lane l).clk.d2dUp + 1) ∧
      (up = false → ((t.lane l).bridges.get b).computed = false ∧
        (t.lane l).clk.d2dDown = (s.lane l).clk.d2dDown + 1) ∧
      (∀ c, c ≠ b → (t.lane l).bridges.get c = (s.lane l).bridges.get c) := by
  refine ⟨_, rfl, s.onlyLane_on l _, ?_⟩
  rw [s.lane_on_same, if_neg (by simp [ha]), if_neg Bool.false_ne_true]
  refine ⟨rfl, ?_, ?_, fun c hc => Oct.get_set_ne _ _ hc⟩
  · rintro rfl
    exact ⟨by simp, rfl⟩
  · rintro rfl
    exact ⟨by simp, rfl⟩

theorem exec_d2dFrame_of_good (ha : (s.lane l).alive = true) (b : Fin 8) :
    exec (.d2dFrame l b true true) s = .next (s.on l fun L => { L with clk := { L.clk with d2dUp := 0 } }) ∧
    exec (.d2dFrame l b false true) s = .next (s.on l fun L => { L with clk := { L.clk with d2dDown := 0 } }) := by
  have awake : ¬ (s.lane l).alive = false := by simp [ha]
  exact ⟨congrArg Host.Outcome.next (s.on_congr l ((if_neg awake).trans (if_pos rfl))),
    congrArg Host.Outcome.next (s.on_congr l ((if_neg awake).trans (if_pos rfl)))⟩

end

/-- Settles O52: every check that fails is one lane-out by its fault; a housekeeping round enters whole and its judgements
leave what it brought. -/
theorem clocksAndLinks : Obligations.ClocksAndLinks := by
  unfold Obligations.ClocksAndLinks
  intro s l
  refine ⟨exec_clockCheck_of_near, fun c code hc => ?_, exec_clocks_of_not_alive, fun h1 h2 => ?_, fun h => ?_, fun h => ?_,
    fun h1 h2 => ?_, exec_compareSelfCheck_pass, exec_compareSelfCheck_of_not,
    fun ha => ⟨exec_hkRound_of_alive ha, exec_d2dFrame_of_bad ha, exec_d2dFrame_of_good ha⟩⟩
  · obtain ⟨ha, ⟨ppm, hppm, rfl⟩, hcode⟩ | ⟨ha, ⟨net, rfl⟩, hcode⟩ | ⟨h, rfl, hcode⟩ | ⟨h, rfl, hcode⟩ | ⟨h, rfl, hcode⟩ |
      ⟨h, rfl, hcode⟩ | ⟨ha, hr, hcyc, rfl, hcode⟩ := hc
    · exact exec_of_laneOut hcode (exec_clockCheck_of_far ha hppm) rfl rfl rfl
    · refine exec_of_laneOut hcode (exec_pllUnlock_of_alive ha net) ?_ ?_ ?_ <;> cases net <;> rfl
    · exact exec_of_laneOut hcode (exec_referenceCheckFault_of_run h) rfl rfl rfl
    · exact exec_of_laneOut hcode (exec_cutSensorImplausible_of_run (drive := false) h) rfl rfl rfl
    · exact exec_of_laneOut hcode (exec_cutSensorImplausible_of_run (drive := true) h) rfl rfl rfl
    · exact exec_of_laneOut hcode (exec_d2dLinkFailed_of_run h) rfl rfl rfl
    · exact exec_of_laneOut (f := id) hcode (exec_compareSelfCheck_of_fail ha hr hcyc) rfl rfl rfl
  · exact State.next_on_of_fails (c := fun L => 3 ≤ L.clk.refRun ∨ 3 ≤ L.clk.refRunD) (by omega)
  · exact State.next_on_of_fails (c := fun L => 3 ≤ L.therm.cutRunL) (by omega)
  · exact State.next_on_of_fails (c := fun L => 3 ≤ L.therm.cutRunD) (by omega)
  · exact State.next_on_of_fails (c := fun L => 3 ≤ L.clk.d2dUp ∨ 3 ≤ L.clk.d2dDown) (by omega)

end Sys2Proof.Machine
end

section
/-! PROOFS, broken sensors, thermal cuts, the Cone latch and cooling (O53). -/
namespace Sys2Proof.Machine

/-! ### Counts of the fault sources (R479) -/

theorem storeGet_bump_same (s : Store) (k n : Nat) : storeGet (storeBump s k n) k 0 = min (storeGet s k 0 + n) 0xFFFFFFFF :=
  storeGet_put_same ..

theorem storeGet_bump_ne (s : Store) {k j : Nat} (n : Nat) (h : j ≠ k) : storeGet (storeBump s k n) j 0 = storeGet s j 0 :=
  storeGet_put_ne s _ 0 0 h

/-- Where an event goes in the queue leaves the counts of the sources. -/
@[simp] theorem Rec.take_srcCount (f : Rec) (code level detId detVal ns : Nat) (st : TState) :
    (f.take code level detId detVal ns st).srcCount = f.srcCount := by
  unfold Rec.take
  dsimp only
  split
  next g hg =>
    have kept : g.srcCount = f.srcCount := by
      split at hg
      · cases hg; rfl
      · split at hg
        · cases hg; rfl
        · obtain ⟨r, -, rfl⟩ := Option.map_eq_some_iff.1 hg; rfl
    split
    · exact kept
    · exact kept
  · rfl

@[simp] theorem Lane.raise_srcCount (L : Lane) (code level detId detVal : Nat) :
    (L.raise code level detId detVal).flog.srcCount = storeBump L.flog.srcCount code 1 := by
  rw [Lane.raise, Rec.take_srcCount]
  rfl

/-- The source of a fault has been counted. -/
def Lane.Counted (code : Nat) (L : Lane) : Prop := 0 < storeGet L.flog.srcCount code 0

theorem Lane.raise_counted (L : Lane) (code level detId detVal : Nat) : (L.raise code level detId detVal).Counted code := by
  rw [Lane.Counted, Lane.raise_srcCount, storeGet_bump_same]
  omega

theorem Lane.Counted.raise {L : Lane} {code : Nat} (h : L.Counted code) (other level detId detVal : Nat) :
    (L.raise other level detId detVal).Counted code := by
  rw [Lane.Counted] at h ⊢
  rw [Lane.raise_srcCount]
  by_cases hc : code = other
  · subst hc
    rw [storeGet_bump_same]
    omega
  · rw [storeGet_bump_ne _ _ hc]
    exact h

/-! ### SENSOR_BROKEN (R466) -/

/-- What the temperatures judge leaves of the sensors and the counts. -/
theorem Lane.judgeTemps_rest (L : Lane) : L.judgeTemps.therm.broken = L.therm.broken ∧
    (∀ code, L.Counted code → L.judgeTemps.Counted code) := by
  unfold Lane.judgeTemps
  dsimp only
  split
  · split
    · exact ⟨rfl, fun code h => Lane.Counted.raise (Lane.Counted.raise h ..) ..⟩
    · exact ⟨rfl, fun code h => Lane.Counted.raise h ..⟩
  · split
    · exact ⟨rfl, fun code h => Lane.Counted.raise h ..⟩
    · exact ⟨rfl, fun code h => h⟩

/-- The lane with a sensor excluded, its fault raised and the temperatures judged without it. -/
def Lane.sensorExcluded (L : Lane) (i : Fin 10) : Lane :=
  (({ L with therm := { L.therm with broken := L.therm.broken ||| BitVec.ofNat 10 (2 ^ i.val) } } : Lane).raise
    (if 4 ≤ i.val then 0x7042 else 0x7002) 2 i.val).judgeTemps

theorem getLsbD_excluded (w : BitVec 10) (i : Fin 10) (j : Nat) :
    (w ||| BitVec.ofNat 10 (2 ^ i.val)).getLsbD j = (w.getLsbD j || decide (j = i.val)) := by
  rw [BitVec.getLsbD_or, BitVec.getLsbD_ofNat, Nat.testBit_two_pow]
  have := i.isLt
  by_cases h : j = i.val
  · simp [h]
  · simp [h, Ne.symm h]

section
variable {s : State} {l : LaneId}

theorem exec_sensorBroken_of_run {i : Fin 10} (h : 3 ≤ ((s.lane l).therm.runs[i.val]?).getD 0)
    (hb : (s.lane l).therm.broken.getLsbD i.val = false) :
    ∃ t, exec (.sensorBroken l i) s = .next t ∧ OnlyLane l s t ∧ (t.lane l).therm.broken.getLsbD i.val = true ∧
      (∀ j : Nat, j ≠ i.val → (t.lane l).therm.broken.getLsbD j = (s.lane l).therm.broken.getLsbD j) ∧
      0 < storeGet (t.lane l).flog.srcCount (if 4 ≤ i.val then 0x7042 else 0x7002) 0 ∧
      (t.lane l).vote = (s.lane l).vote := by
  refine ⟨s.on l fun L => L.sensorExcluded i, State.next_on_of_holds
    (c := fun L => 3 ≤ (L.therm.runs[i.val]?).getD 0 ∧ L.therm.broken.getLsbD i.val = false) ⟨h, hb⟩, s.onlyLane_on l _, ?_⟩
  rw [s.lane_on_same]
  obtain ⟨hbroken, hcount⟩ := Lane.judgeTemps_rest (({ s.lane l with therm := { (s.lane l).therm with
    broken := (s.lane l).therm.broken ||| BitVec.ofNat 10 (2 ^ i.val) } } : Lane).raise
      (if 4 ≤ i.val then 0x7042 else 0x7002) 2 i.val)
  refine ⟨?_, fun j hj => ?_, hcount _ (Lane.raise_counted ..), ?_⟩
  · rw [Lane.sensorExcluded, hbroken, Lane.raise_therm, getLsbD_excluded, decide_eq_true rfl, Bool.or_true]
  · rw [Lane.sensorExcluded, hbroken, Lane.raise_therm, getLsbD_excluded, decide_eq_false hj, Bool.or_false]
  · rw [Lane.sensorExcluded, (Lane.judgeTemps_voteKept _).2, Lane.raise_vote]

theorem exec_sensorBroken_of_not {i : Fin 10} (h : ((s.lane l).therm.runs[i.val]?).getD 0 < 3 ∨
    (s.lane l).therm.broken.getLsbD i.val = true) : exec (.sensorBroken l i) s = .next s := by
  refine State.next_on_of_fails
    (c := fun L => 3 ≤ (L.therm.runs[i.val]?).getD 0 ∧ L.therm.broken.getLsbD i.val = false) fun hc => ?_
  obtain hlt | hb := h
  · omega
  · rw [hb] at hc; exact Bool.noConfusion hc.2

/-! ### THERMAL_CUT (R468, R471, R472) -/

/-- The lane that a cut has been noted on: it cools, its cut and onset counted. -/
def Lane.cutNoted (L : Lane) (drive : Bool) : Lane :=
  { L with
    therm := { L.therm with
      cutL := L.therm.cutL || !drive
      cutD := L.therm.cutD || drive
      cooling := true
      cuts := satInc L.therm.cuts
      onsets := cutOnsets L.tb.mono L.therm.onsets }
    kiln := { L.kiln with
      cutsLogic := if drive then L.kiln.cutsLogic else satInc L.kiln.cutsLogic
      cutsDrive := if drive then satInc L.kiln.cutsDrive else L.kiln.cutsDrive } }

/-- The cut of the logic die resets node, stars and time base as well. -/
def Lane.cutDie (L : Lane) (drive : Bool) : Lane :=
  let M := L.cutNoted drive
  let down := fun c : Channel => { c with linkUp := c.linkUp.map fun _ => false }
  if drive then M else { M.loseTime with
    net := { M.net with state := .halt, guardOpen := true, x := down M.net.x, y := down M.net.y }
    tb := { M.tb with seeded := false } }

theorem exec_thermalCut_of_watched (hw : (s.lane l).watched = true) (drive : Bool) :
    exec (.thermalCut l drive) s =
      .next (s.on l fun L => (L.cutDie drive).laneOut (if drive then 0x7041 else 0x7001)) :=
  congrArg Host.Outcome.next (s.on_congr l (if_neg (by simp [hw])))

theorem Lane.cutDie_spec (L : Lane) (drive : Bool) : (L.cutDie drive).vote = L.vote ∧
    (L.cutDie drive).therm = (L.cutNoted drive).therm := by
  cases drive <;> exact ⟨rfl, rfl⟩

theorem exec_thermalCut_cuts (hw : (s.lane l).watched = true) (drive : Bool) :
    ∃ t, exec (.thermalCut l drive) s = .next t ∧ OnlyLane l s t ∧
      ((s.lane l).vote.outNow = false → (t.lane l).vote.role = .out) ∧ (t.lane l).vote.outNow = true ∧
      (t.lane l).therm.cooling = true ∧ (t.lane l).therm.cuts = satInc (s.lane l).therm.cuts ∧
      (t.lane l).pwr.stopLine = true ∧ (∀ b, ((t.lane l).gates.get b).onOut = 0) ∧
      (drive = false → (t.lane l).net.state = .halt ∧ (t.lane l).net.guardOpen = true ∧
        (t.lane l).net.x.linkUp = (s.lane l).net.x.linkUp.map (fun _ => false) ∧
        (t.lane l).net.y.linkUp = (s.lane l).net.y.linkUp.map (fun _ => false) ∧
        (t.lane l).tb.seeded = false ∧ (t.lane l).therm.cutL = true ∧ (t.lane l).flog.last = 0x7001) ∧
      (drive = true → (t.lane l).net = (s.lane l).net ∧ (t.lane l).tb = (s.lane l).tb ∧
        (t.lane l).therm.cutD = true ∧ (t.lane l).flog.last = 0x7041) ∧
      (∀ a rest, (s.lane l).therm.onsets = a :: rest → (s.lane l).tb.mono ≤ a + 1000000 →
        (t.lane l).therm.onsets = (s.lane l).therm.onsets) ∧
      ((s.lane l).therm.onsets = [] → (t.lane l).therm.onsets = [(s.lane l).tb.mono]) := by
  refine ⟨_, exec_thermalCut_of_watched hw drive, s.onlyLane_on l _, ?_⟩
  obtain ⟨hvote, htherm⟩ := (s.lane l).cutDie_spec drive
  rw [s.lane_on_same, Lane.laneOut_stopLine, Lane.laneOut_last, Lane.laneOut_therm, Lane.laneOut_net, Lane.laneOut_tb,
    Lane.laneOut_outNow, htherm, ← hvote]
  refine ⟨fun hout => (Lane.laneOut_out hout _).1, rfl, rfl, rfl, rfl,
    fun b => (Lane.laneOut_gates_low _ _ 0 0 b).2, ?_, ?_, fun a rest hon hnear => ?_, fun hon => ?_⟩
  · rintro rfl
    exact ⟨rfl, rfl, rfl, rfl, rfl, Bool.or_true _, rfl⟩
  · rintro rfl
    exact ⟨rfl, rfl, Bool.or_true _, rfl⟩
  · rw [Lane.cutNoted, hon, cutOnsets, if_pos hnear]
  · rw [Lane.cutNoted, hon, cutOnsets]

theorem exec_thermalCut_of_unwatched (hw : (s.lane l).watched = false) (drive : Bool) :
    exec (.thermalCut l drive) s = .next s := congrArg Host.Outcome.next (s.on_id l (if_pos hw))

/-! ### CONE_LATCH_TRIP and COOLING_DONE (R471, R472) -/

/-- The lane with the Cone latch held for a cause. -/
def Lane.coneHeld (L : Lane) (hot : Bool) : Lane :=
  { L with
    therm := { L.therm with
      cone := true
      coneOver := L.therm.coneOver || hot
      coneCount := L.therm.coneCount || !hot }
    kiln := { L.kiln with
      coneOver := if hot then satInc L.kiln.coneOver else L.kiln.coneOver
      coneCount := if hot then L.kiln.coneCount else satInc L.kiln.coneCount } }

theorem exec_coneLatchTrip_holds (hot : Bool) (hw : (s.lane l).watched = true)
    (h : hot = true ∨ 3 ≤ (s.lane l).cuts600) :
    ∃ t, exec (.coneLatchTrip l hot) s = .next t ∧ OnlyLane l s t ∧ (t.lane l).therm.cone = true ∧
      (hot = true → (t.lane l).therm.coneOver = true ∧ (t.lane l).therm.coneCount = (s.lane l).therm.coneCount) ∧
      (hot = false → (t.lane l).therm.coneCount = true ∧ (t.lane l).therm.coneOver = (s.lane l).therm.coneOver) ∧
      ((s.lane l).vote.outNow = false → (t.lane l).vote.role = .out) ∧ (t.lane l).vote.outNow = true ∧
      (t.lane l).pwr.stopLine = true ∧ (t.lane l).flog.last = 0x7FC1 := by
  have trips : ¬ ((s.lane l).watched = false ∨ (hot = false ∧ (s.lane l).cuts600 < 3)) := by
    rintro (hn | ⟨hcold, hfew⟩)
    · rw [hw] at hn; cases hn
    · rw [hcold] at h; simp at h; omega
  refine ⟨s.on l fun L => (L.coneHeld hot).laneOut 0x7FC1, congrArg Host.Outcome.next (s.on_congr l (if_neg trips)),
    s.onlyLane_on l _, ?_⟩
  rw [s.lane_on_same, Lane.laneOut_stopLine, Lane.laneOut_last, Lane.laneOut_therm, Lane.laneOut_outNow]
  refine ⟨rfl, ?_, ?_, fun hout => (Lane.laneOut_out (L := (s.lane l).coneHeld hot) hout _).1, rfl, rfl, rfl⟩
  · rintro rfl
    exact ⟨Bool.or_true _, Bool.or_false _⟩
  · rintro rfl
    exact ⟨Bool.or_true _, Bool.or_false _⟩

theorem exec_coneLatchTrip_of_not {hot : Bool}
    (h : (s.lane l).watched = false ∨ (hot = false ∧ (s.lane l).cuts600 < 3)) :
    exec (.coneLatchTrip l hot) s = .next s := congrArg Host.Outcome.next (s.on_id l (if_pos h))

theorem exec_coolingDone_of_cooling (h : (s.lane l).therm.cooling = true) :
    exec (.coolingDone l) s = .next (s.on l fun L =>
      { L with therm := { L.therm with cooling := false, cutL := false, cutD := false } }) :=
  State.next_on_of_holds (c := fun L => L.therm.cooling = true) h

theorem exec_coolingDone_of_not (h : (s.lane l).therm.cooling = false) : exec (.coolingDone l) s = .next s :=
  State.next_on_of_fails (c := fun L => L.therm.cooling = true) (ne_true_of_eq_false h)

end

/-- Settles O53: exclusion, cut and latch each note their cause before the lane goes out, and a lane-out leaves the thermal
group. -/
theorem thermalCutsAndCone : Obligations.ThermalCutsAndCone := by
  unfold Obligations.ThermalCutsAndCone
  intro s l
  exact ⟨fun i => ⟨exec_sensorBroken_of_run, exec_sensorBroken_of_not⟩,
    fun drive => ⟨fun hw => exec_thermalCut_cuts hw drive, fun hw => exec_thermalCut_of_unwatched hw drive⟩,
    fun hot => ⟨exec_coneLatchTrip_holds hot, fun hw => exec_coneLatchTrip_of_not (.inl hw)⟩,
    fun h => exec_coneLatchTrip_of_not (.inr ⟨rfl, h⟩), exec_coolingDone_of_cooling, exec_coolingDone_of_not⟩

end Sys2Proof.Machine
end

section
/-! PROOFS, fault events, log commits and the Kiln log (O54). -/
namespace Sys2Proof.Machine

/-! ### What the recorder's queue does with an event (R480, R481) -/

/-- An event is lost, or it leaves a ring and a sequence number, committed at once at lane-out and module-safe (R482). -/
theorem Rec.take_cases (f : Rec) (code level detId detVal ns : Nat) (st : TState) :
    f.take code level detId detVal ns st = f.lose code ∨ ∃ ring seq, f.take code level detId detVal ns st =
      if level = 3 ∨ level = 4 then Rec.commit { f with ring := ring, seq := seq } else { f with ring := ring, seq := seq } := by
  unfold Rec.take
  dsimp only
  cases coalesce code detId ns st level detVal f.ring with
  | some r => exact .inr ⟨r, f.seq, rfl⟩
  | none =>
    by_cases room : f.ring.length < 512
    · rw [if_pos room]
      exact .inr ⟨_, _, rfl⟩
    · rw [if_neg room]
      cases dropOldest f.ring with
      | none => exact .inl rfl
      | some r => exact .inr ⟨_, _, rfl⟩

@[simp] theorem Rec.take_seen (f : Rec) (code level detId detVal ns : Nat) (st : TState) :
    (f.take code level detId detVal ns st).seen = f.seen := by
  rcases f.take_cases code level detId detVal ns st with h | ⟨ring, seq, h⟩
  · rw [h]; rfl
  · rw [h]; split <;> rfl

/-- Below lane-out nothing is written to nonvolatile memory at once. -/
theorem Rec.take_nv {level : Nat} (h : ¬ (level = 3 ∨ level = 4)) (f : Rec) (code detId detVal ns : Nat) (st : TState) :
    (f.take code level detId detVal ns st).nv = f.nv := by
  rcases f.take_cases code level detId detVal ns st with ht | ⟨ring, seq, ht⟩
  · rw [ht]; rfl
  · rw [ht, if_neg h]

theorem coalesce_none {code detId : Nat} (ns : Nat) (st : TState) (level detVal : Nat) {r : List Event}
    (h : ∀ e ∈ r, e.sameKey code detId = false) : coalesce code detId ns st level detVal r = none := by
  induction r with
  | nil => rfl
  | cons e r ih =>
    rw [coalesce, if_neg (by simp [h e List.mem_cons_self]), ih fun d hd => h d (List.mem_cons_of_mem _ hd)]
    rfl

/-- The record that an event of no pending key becomes. -/
def Rec.fresh (f : Rec) (code level detId detVal ns : Nat) (st : TState) : Event :=
  { lastNs := ns, code := BitVec.ofNat 16 code, tstate := st, level := level
    detId := BitVec.ofNat 32 detId, detVal := BitVec.ofNat 32 detVal, seq := f.seq }

theorem Rec.take_new {f : Rec} {code level detId : Nat} (detVal ns : Nat) (st : TState) (hlv : ¬ (level = 3 ∨ level = 4))
    (hkey : ∀ e ∈ f.ring, e.sameKey code detId = false) (room : f.ring.length < 512) :
    f.take code level detId detVal ns st =
      { f with ring := f.ring ++ [f.fresh code level detId detVal ns st], seq := f.seq + 1 } := by
  unfold Rec.take
  dsimp only
  rw [coalesce_none ns st level detVal hkey]
  dsimp only
  rw [if_pos room]
  dsimp only
  rw [if_neg hlv]
  rfl

theorem Rec.take_same {f : Rec} {code level detId : Nat} {e : Event} {rest : List Event} (detVal ns : Nat) (st : TState)
    (hlv : ¬ (level = 3 ∨ level = 4)) (hring : f.ring = e :: rest) (hkey : e.sameKey code detId = true) :
    f.take code level detId detVal ns st = { f with ring := e.absorb ns st level detVal :: rest } := by
  unfold Rec.take
  dsimp only
  rw [hring, coalesce, if_pos hkey]
  dsimp only
  rw [if_neg hlv]

/-- A record of level lane-out that finds room is written with all that were pending (R482). -/
theorem Rec.take_laneOut {f : Rec} (code detId detVal ns : Nat) (st : TState) (room : f.ring.length < 512) :
    ∀ e ∈ (f.take code 3 detId detVal ns st).ring, e.pending = false := by
  unfold Rec.take
  dsimp only
  cases coalesce code detId ns st 3 detVal f.ring with
  | some r => exact Rec.commit_not_pending _
  | none =>
    dsimp only
    rw [if_pos room]
    exact Rec.commit_not_pending _

/-! ### Counting and recording an event -/

theorem codeClass_lt (code : Nat) : codeClass code < 16 := Nat.mod_lt _ (by decide)

/-- A counted event marks the class of its code (R382). -/
theorem Lane.countEvent_seen (L : Lane) (code : Nat) : (L.countEvent code).flog.seen.getLsbD (codeClass code) = true := by
  have hc := codeClass_lt code
  show (L.flog.seen ||| BitVec.ofNat 16 (2 ^ codeClass code)).getLsbD (codeClass code) = true
  rw [BitVec.getLsbD_or, BitVec.getLsbD_ofNat, decide_eq_true hc, Nat.testBit_two_pow_self]
  exact Bool.or_true _

@[simp] theorem Lane.record_vote (L : Lane) (code level detId detVal : Nat) (full : Bool) :
    (L.record code level detId detVal full).vote = L.vote := by
  cases full <;> rfl

@[simp] theorem Lane.record_links (L : Lane) (code level detId detVal : Nat) (full : Bool) :
    (L.record code level detId detVal full).links = L.links := by
  cases full <;> rfl

theorem Lane.record_cfg (L : Lane) (code level detId detVal : Nat) (full : Bool) :
    (L.record code level detId detVal full).flog.cfg = L.flog.cfg := by
  cases full
  · exact L.raise_cfg ..
  · rfl

theorem Lane.raise_seen (L : Lane) (code level detId detVal : Nat) :
    (L.raise code level detId detVal).flog.seen.getLsbD (codeClass code) = true := by
  rw [Lane.raise, Rec.take_seen]
  exact L.countEvent_seen code

theorem Lane.raise_nv {level : Nat} (h : ¬ (level = 3 ∨ level = 4)) (L : Lane) (code detId detVal : Nat) :
    (L.raise code level detId detVal).flog.nv = L.flog.nv := Rec.take_nv h ..

/-! ### FAULT_EVENT: the recorded levels -/

section
variable {s : State} {l : LaneId} (code : W16) (a b : W32)

/-- The lane after an event: recorded, then the reaction of its level. -/
def Lane.faulted (L : Lane) (code : W16) (level : Fin 7) (a b : W32) (full : Bool) : Lane :=
  (L.record code.toNat level.val a.toNat b.toNat full).react code.toNat level.val a.toNat

theorem exec_faultEvent_of_own {level : Fin 7} (h : level.val ≠ 4) (full : Bool) :
    exec (.faultEvent l code level a b full) s = .next (s.on l fun L => L.faulted code level a b full) :=
  congrArg Host.Outcome.next (if_neg h)

theorem Lane.faulted_isolate (L : Lane) (full : Bool) :
    L.faulted code 2 a b full = (L.record code.toNat 2 a.toNat b.toNat full).takeOut code.toNat a.toNat := rfl

/-- Level record and level correct have no reaction. -/
theorem Lane.faulted_of_log {level : Fin 7} (h : level = 0 ∨ level = 1) (L : Lane) (full : Bool) :
    L.faulted code level a b full = L.record code.toNat level.val a.toNat b.toNat full := by
  rcases h with rfl | rfl <;> rfl

theorem exec_faultEvent_of_log {level : Fin 7} (h : level = 0 ∨ level = 1) (full : Bool) :
    exec (.faultEvent l code level a b full) s =
      .next (s.on l fun L => L.record code.toNat level.val a.toNat b.toNat full) := by
  rw [exec_faultEvent_of_own code a b (by rcases h with rfl | rfl <;> decide) full]
  exact congrArg Host.Outcome.next (s.on_congr l (Lane.faulted_of_log code a b h _ full))

theorem notWritten_of_log {level : Fin 7} (h : level = 0 ∨ level = 1) : ¬ (level.val = 3 ∨ level.val = 4) := by
  rcases h with rfl | rfl <;> decide

theorem exec_faultEvent_recorded {level : Fin 7} (h : level = 0 ∨ level = 1) :
    ∃ t, exec (.faultEvent l code level a b false) s = .next t ∧ OnlyLane l s t ∧ (t.lane l).flog.last = code ∧
      (t.lane l).flog.seen.getLsbD (codeClass code.toNat) = true ∧ (t.lane l).vote = (s.lane l).vote ∧
      (t.lane l).pwr = (s.lane l).pwr ∧ (t.lane l).flog.nv = (s.lane l).flog.nv ∧
      ((∀ e ∈ (s.lane l).flog.ring, e.sameKey code.toNat a.toNat = false) → (s.lane l).flog.ring.length < 512 →
        (t.lane l).flog.seq = (s.lane l).flog.seq + 1 ∧ ∃ e, (t.lane l).flog.ring = (s.lane l).flog.ring ++ [e] ∧
          e.code = code ∧ e.detId = a ∧ e.detVal = b ∧ e.count = 1 ∧ e.pending = true ∧ e.level = level.val) ∧
      (∀ e rest, (s.lane l).flog.ring = e :: rest → e.sameKey code.toNat a.toNat = true →
        ∃ f, (t.lane l).flog.ring = f :: rest ∧ f.count = min (e.count + 1) 65535 ∧ f.detVal = b ∧
          f.level = max e.level level.val ∧ f.seq = e.seq) := by
  have hnw := notWritten_of_log h
  refine ⟨_, exec_faultEvent_of_log code a b h false, s.onlyLane_on l _, ?_⟩
  rw [s.lane_on_same]
  refine ⟨?_, Lane.raise_seen .., rfl, rfl, Lane.raise_nv hnw .., fun hkey room => ?_, fun e rest hring hkey => ?_⟩
  · exact (Lane.raise_last ..).trans (BitVec.ofNat_toNat ..)
  · have ht := Rec.take_new (f := ((s.lane l).countEvent code.toNat).flog) b.toNat (s.lane l).recTime (s.lane l).recState
      hnw hkey room
    refine ⟨congrArg Rec.seq ht, _, congrArg Rec.ring ht, ?_⟩
    simp [Rec.fresh]
  · have ht := Rec.take_same (f := ((s.lane l).countEvent code.toNat).flog) b.toNat (s.lane l).recTime (s.lane l).recState
      hnw hring hkey
    exact ⟨_, congrArg Rec.ring ht, rfl, BitVec.ofNat_toNat .., rfl, rfl⟩

theorem exec_faultEvent_lost {level : Fin 7} (h : level = 0 ∨ level = 1) :
    ∃ t, exec (.faultEvent l code level a b true) s = .next t ∧ OnlyLane l s t ∧
      (t.lane l).flog.ring = (s.lane l).flog.ring ∧ (t.lane l).flog.logLost = satInc (s.lane l).flog.logLost ∧
      (t.lane l).flog.last = code ∧ (t.lane l).vote = (s.lane l).vote := by
  refine ⟨_, exec_faultEvent_of_log code a b h true, s.onlyLane_on l _, ?_⟩
  rw [s.lane_on_same]
  exact ⟨rfl, rfl, BitVec.ofNat_toNat .., rfl⟩

/-! ### FAULT_EVENT: the reactions (R80) -/

theorem exec_faultEvent_laneOut (full : Bool) (hout : (s.lane l).vote.outNow = false) :
    ∃ t, exec (.faultEvent l code 3 a b full) s = .next t ∧ OnlyLane l s t ∧ (t.lane l).vote.role = .out ∧
      (t.lane l).pwr.stopLine = true ∧ (t.lane l).vote.outCause = code ∧
      (full = false → (s.lane l).flog.ring.length < 512 → ∀ e ∈ (t.lane l).flog.ring, e.pending = false) := by
  refine ⟨_, exec_faultEvent_of_own code a b (by decide) full, s.onlyLane_on l _, ?_⟩
  rw [s.lane_on_same]
  have runs : ((s.lane l).record code.toNat 3 a.toNat b.toNat full).vote.outNow = false := by
    rw [Lane.record_vote, hout]
  have reacts : (s.lane l).faulted code 3 a b full =
    ((s.lane l).record code.toNat 3 a.toNat b.toNat full).goOut code.toNat := rfl
  rw [reacts, Lane.goOut_vote runs, Lane.goOut_pwr runs, Lane.goOut_flog]
  refine ⟨rfl, rfl, BitVec.ofNat_toNat .., ?_⟩
  rintro rfl room
  exact Rec.take_laneOut _ _ _ _ _ room

/-- Module-safe leaves a lane in PASSIVE and no driver (R80). -/
theorem Lane.moduleSafe_safe (L : Lane) : L.moduleSafe.vote.passive = true ∧ L.moduleSafe.vote.role.drives = false := by
  unfold Lane.moduleSafe
  dsimp only
  split
  next h =>
    rw [(Lane.enterPassive_voteKept _).2]
    exact ⟨rfl, by simp [Role.drives]⟩
  next h => exact ⟨rfl, by simpa using h⟩

theorem exec_faultEvent_moduleSafe (full : Bool) :
    ∃ t, exec (.faultEvent l code 4 a b full) s = .next t ∧ LanesOnly s t ∧
      ∀ p, ((s.lane p).alive = true → (t.lane p).vote.passive = true ∧ (t.lane p).vote.role.drives = false) ∧
        (p ≠ l → (s.lane p).alive = false → t.lane p = s.lane p) := by
  refine ⟨(s.on l fun L => L.faulted code 4 a b full).onAll fun L => if L.alive then L.moduleSafe else L, rfl,
    ⟨rfl, rfl, rfl⟩, fun p => ?_⟩
  rw [State.lane_onAll]
  have same : ((s.on l fun L => L.faulted code 4 a b full).lane p).alive = (s.lane p).alive := by
    by_cases hp : p = l
    · subst hp
      rw [s.lane_on_same]
      cases full <;> rfl
    · rw [s.lane_on_ne _ hp]
  refine ⟨fun h => ?_, fun hp h => ?_⟩
  · rw [if_pos (same.trans h)]
    exact Lane.moduleSafe_safe _
  · rw [if_neg (ne_true_of_eq_false (same.trans h)), s.lane_on_ne _ hp]

theorem exec_faultEvent_heldOut (full : Bool) :
    ∃ t, exec (.faultEvent l code 5 a b full) s = .next t ∧ OnlyLane l s t ∧
      (t.lane l).flog.cfg = code :: (s.lane l).flog.cfg ∧ (t.lane l).cfgOk = false ∧
      (t.lane l).vote = (s.lane l).vote ∧ (t.lane l).pwr = (s.lane l).pwr := by
  refine ⟨_, exec_faultEvent_of_own code a b (by decide) full, s.onlyLane_on l _, ?_⟩
  rw [s.lane_on_same]
  refine ⟨?_, rfl, Lane.record_vote .., Lane.record_pwr ..⟩
  exact congrArg₂ List.cons (BitVec.ofNat_toNat ..) (Lane.record_cfg ..)

/-! ### FAULT_EVENT: what a code at level isolate takes out of use -/

theorem linkCode_toNat (k : LinkId) :
    (BitVec.ofNat 16 (0x1201 + 0x40 * linkNum k)).toNat = 0x1201 + 0x40 * linkNum k := by
  cases k <;> decide

theorem Lane.takeOut_link (L : Lane) (k : LinkId) (detId : Nat) :
    L.takeOut (0x1201 + 0x40 * linkNum k) detId = L.cutLink k := by
  cases k <;> simp [Lane.takeOut, Lane.linkNumOut, linkNum, allLinks]

theorem Lane.takeOut_chopper (L : Lane) (detId : Nat) : L.takeOut 0x6F81 detId =
    ({ L with dc := { L.dc with chopFault := true, chopFaultKind := 1 } } : Lane).judgeLink := by
  simp [Lane.takeOut, Lane.linkOut]

theorem Lane.cutLink_get_ne (L : Lane) {j k : LinkId} (h : j ≠ k) : (L.cutLink k).links.get j = L.links.get j :=
  L.onLink_get_ne _ h

theorem exec_faultEvent_link (full : Bool) (k : LinkId) :
    ∃ t, exec (.faultEvent l (BitVec.ofNat 16 (0x1201 + 0x40 * linkNum k)) 2 a b full) s = .next t ∧
      OnlyLane l s t ∧ ((t.lane l).links.get k).inUse = false ∧
      (∀ j, j ≠ k → (t.lane l).links.get j = (s.lane l).links.get j) ∧ (t.lane l).vote = (s.lane l).vote := by
  refine ⟨_, exec_faultEvent_of_own _ a b (by decide) full, s.onlyLane_on l _, ?_⟩
  have cuts : ∀ L : Lane, L.faulted (BitVec.ofNat 16 (0x1201 + 0x40 * linkNum k)) 2 a b full =
      (L.record (0x1201 + 0x40 * linkNum k) 2 a.toNat b.toNat full).cutLink k :=
    fun L => by rw [Lane.faulted_isolate, linkCode_toNat, Lane.takeOut_link]
  rw [s.lane_on_same, cuts, (Lane.cutLink_voteKept _ k).2, Lane.record_vote]
  refine ⟨(Lane.cutLink_get _ k).1, fun j hj => ?_, rfl⟩
  rw [Lane.cutLink_get_ne _ hj, Lane.record_links]

/-- The chopper fault survives the judgement of the link. -/
theorem Lane.judgeLink_chopFault (L : Lane) :
    L.judgeLink.dc.chopFault = L.dc.chopFault ∧ L.judgeLink.dc.chopFaultKind = L.dc.chopFaultKind := by
  obtain ⟨ov1, ov2, ov3, cut, low, h⟩ := L.judgeLink_dc
  rw [h]
  exact ⟨rfl, rfl⟩

theorem exec_faultEvent_chopper (full : Bool) :
    ∃ t, exec (.faultEvent l 0x6F81 2 a b full) s = .next t ∧ OnlyLane l s t ∧ (t.lane l).dc.chopFault = true ∧
      (t.lane l).dc.chopFaultKind = 1 := by
  refine ⟨_, exec_faultEvent_of_own 0x6F81 a b (by decide) full, s.onlyLane_on l _, ?_⟩
  rw [s.lane_on_same, Lane.faulted_isolate, show (0x6F81 : W16).toNat = 0x6F81 by decide, Lane.takeOut_chopper]
  exact Lane.judgeLink_chopFault _

/-! ### LOG_COMMIT (R482) -/

/-- A commit keeps the pending records in the log, the newest 4,096 of all. -/
theorem Rec.commit_kept (f : Rec) : f.commit.ring = f.ring.map (fun e => { e with pending := false }) ∧
    f.commit.nv.length ≤ 4096 ∧ (f.nv.length + (f.ring.filter (·.pending)).length ≤ 4096 →
      f.commit.nv = f.nv ++ (f.ring.filter (·.pending)).map fun e => { e with pending := false }) := by
  refine ⟨rfl, ?_, fun room => ?_⟩
  · simp only [Rec.commit, List.length_drop, List.length_append, List.length_map]
    omega
  · simp only [Rec.commit, List.length_append, List.length_map]
    rw [Nat.sub_eq_zero_of_le room, List.drop_zero]

/-- The lane at a commit of the log. -/
def Lane.logCommit (L : Lane) (ns : Nat) : Lane :=
  let M := L.advance ns
  { M with flog := M.flog.commit }

theorem Lane.logCommit_ns (L : Lane) (ns : Nat) : (L.logCommit ns).tb.ns = max L.tb.ns ns := L.advance_ns ns

theorem Lane.logCommit_flog (L : Lane) (ns : Nat) : (L.logCommit ns).flog = L.flog.commit :=
  congrArg Rec.commit (L.advance_flog ns)

theorem exec_logCommit (n : Nat) :
    exec (.logCommit l n) s = .next (s.on l fun L => if L.watched then L.logCommit (n * 10000000) else L) := rfl

theorem exec_logCommit_of_watched (n : Nat) (h : (s.lane l).watched = true) :
    ∃ t, exec (.logCommit l n) s = .next t ∧ OnlyLane l s t ∧
      (t.lane l).tb.ns = max (s.lane l).tb.ns (n * 10000000) ∧
      (t.lane l).flog.ring = (s.lane l).flog.ring.map (fun e => { e with pending := false }) ∧
      (t.lane l).flog.nv.length ≤ 4096 ∧
      ((s.lane l).flog.nv.length + ((s.lane l).flog.ring.filter (·.pending)).length ≤ 4096 → (t.lane l).flog.nv =
        (s.lane l).flog.nv ++ ((s.lane l).flog.ring.filter (·.pending)).map fun e => { e with pending := false }) := by
  refine ⟨_, exec_logCommit n, s.onlyLane_on l _, ?_⟩
  rw [s.lane_on_same, if_pos h, Lane.logCommit_ns, Lane.logCommit_flog]
  exact ⟨rfl, Rec.commit_kept _⟩

theorem exec_logCommit_of_unwatched (n : Nat) (h : (s.lane l).watched = false) : exec (.logCommit l n) s = .next s :=
  State.next_on_of_fails (c := fun L => L.watched = true) (ne_true_of_eq_false h)

/-! ### KILN_SECOND and KILN_COMMIT (R485-R487) -/

theorem exec_kilnSecond_of_alive (n : Nat) (h : (s.lane l).alive = true) :
    ∃ t, exec (.kilnSecond l n) s = .next t ∧ OnlyLane l s t ∧
      (t.lane l).kiln.ram.onSec = satInc (s.lane l).kiln.ram.onSec ∧
      (t.lane l).kiln.ram.runSec = (if (s.lane l).pwr.state = .run then satInc (s.lane l).kiln.ram.runSec
        else (s.lane l).kiln.ram.runSec) ∧ (t.lane l).kiln.seq = (s.lane l).kiln.seq ∧
      (t.lane l).kiln.secVdc = none ∧ (t.lane l).kiln.faults = (s.lane l).kiln.faults := by
  refine ⟨_, State.next_on_of_holds (c := fun L => L.alive = true) h, s.onlyLane_on l _, ?_⟩
  rw [s.lane_on_same]
  simp [Lane.kilnSecond]

/-- A commit of the Kiln image writes the copy of the next number's parity and leaves the other (R487). -/
theorem Lane.kilnWrite_copies (L : Lane) : L.kilnWrite.kiln.seq = L.kiln.seq + 1 ∧ L.kilnWrite.kiln.ram = L.kiln.ram ∧
    ((L.kiln.seq + 1).toNat % 2 = 1 → L.kilnWrite.kiln.copy1.ram = L.kiln.ram ∧
      L.kilnWrite.kiln.copy1.seq = L.kiln.seq + 1 ∧ L.kilnWrite.kiln.copy0 = L.kiln.copy0) ∧
    ((L.kiln.seq + 1).toNat % 2 = 0 → L.kilnWrite.kiln.copy0.ram = L.kiln.ram ∧
      L.kilnWrite.kiln.copy0.seq = L.kiln.seq + 1 ∧ L.kilnWrite.kiln.copy1 = L.kiln.copy1) := by
  unfold Lane.kilnWrite
  dsimp only
  by_cases odd : (L.kiln.seq + 1).toNat % 2 = 1
  · rw [if_pos odd]
    exact ⟨rfl, rfl, fun _ => ⟨rfl, rfl, rfl⟩, fun even => by omega⟩
  · rw [if_neg odd]
    exact ⟨rfl, rfl, fun h => absurd h odd, fun _ => ⟨rfl, rfl, rfl⟩⟩

theorem exec_kilnCommit_of_alive (n : Nat) (h : (s.lane l).alive = true) :
    ∃ t, exec (.kilnCommit l n) s = .next t ∧ OnlyLane l s t ∧ (t.lane l).kiln.seq = (s.lane l).kiln.seq + 1 ∧
      (t.lane l).kiln.ram = (s.lane l).kiln.ram ∧
      ((t.lane l).kiln.seq.toNat % 2 = 1 → (t.lane l).kiln.copy1.ram = (s.lane l).kiln.ram ∧
        (t.lane l).kiln.copy1.seq = (t.lane l).kiln.seq ∧ (t.lane l).kiln.copy0 = (s.lane l).kiln.copy0) ∧
      ((t.lane l).kiln.seq.toNat % 2 = 0 → (t.lane l).kiln.copy0.ram = (s.lane l).kiln.ram ∧
        (t.lane l).kiln.copy0.seq = (t.lane l).kiln.seq ∧ (t.lane l).kiln.copy1 = (s.lane l).kiln.copy1) := by
  refine ⟨_, State.next_on_of_holds (c := fun L => L.alive = true) h, s.onlyLane_on l _, ?_⟩
  rw [s.lane_on_same]
  obtain ⟨hseq, hram, hodd, heven⟩ := ((s.lane l).advance (n * 10000000000)).kilnWrite_copies
  rw [Lane.advance_kiln] at hseq hram hodd heven
  rw [hseq, hram]
  exact ⟨rfl, rfl, hodd, heven⟩

theorem exec_kiln_of_dead (n : Nat) (h : (s.lane l).alive = false) :
    exec (.kilnSecond l n) s = .next s ∧ exec (.kilnCommit l n) s = .next s :=
  ⟨State.next_on_of_fails (c := fun L => L.alive = true) (ne_true_of_eq_false h),
    State.next_on_of_fails (c := fun L => L.alive = true) (ne_true_of_eq_false h)⟩

end

/-- Settles O54: an event is recorded by one rule of the queue, and each level reacts on the recorded lane. -/
theorem recorderAndKiln : Obligations.RecorderAndKiln := by
  unfold Obligations.RecorderAndKiln
  intro s l
  refine ⟨fun code a b => ⟨fun lv hlv => ⟨exec_faultEvent_recorded code a b hlv, exec_faultEvent_lost code a b hlv⟩,
      exec_faultEvent_laneOut code a b, exec_faultEvent_moduleSafe code a b, exec_faultEvent_heldOut code a b⟩,
    fun full a b => ⟨exec_faultEvent_link a b full, exec_faultEvent_chopper a b full⟩,
    fun n => ⟨exec_logCommit_of_watched n, exec_logCommit_of_unwatched n⟩,
    fun n => ⟨fun h => ⟨exec_kilnSecond_of_alive n h, exec_kilnCommit_of_alive n h⟩, exec_kiln_of_dead n⟩⟩

end Sys2Proof.Machine
end

section
/-! PROOFS, scrubs, memory tests and the march (O55). -/
namespace Sys2Proof.Machine

/-! ### SCRUB_PASS (R494) -/

section
variable {s : State} {l : LaneId}

/-- What one corrected word does, given the words that the scrub before corrected. -/
def Lane.scrubbed (before : List (Nat × Nat)) (J : Lane) (c : FailCell) : Lane :=
  let g := groupOfBlock c.inst
  let J := J.raise (0xB001 + 0x40 * g) 1 (cellId c)
  if (c.inst, c.addr) ∈ before then
    let J := J.raise (0xB005 + 0x40 * g) 0 (cellId c)
    if (c.inst, cellRow c) ∈ J.mem.marked then J
    else { J with mem := { J.mem with marked := J.mem.marked ++ [(c.inst, cellRow c)] } }
  else J

theorem Lane.scrubbed_of_first {before : List (Nat × Nat)} {c : FailCell} (h : (c.inst, c.addr) ∉ before) (L : Lane) :
    (L.scrubbed before c).mem.marked = L.mem.marked ∧
    (L.scrubbed before c).flog.last = BitVec.ofNat 16 (0xB001 + 0x40 * groupOfBlock c.inst) := by
  rw [Lane.scrubbed, if_neg h]
  exact ⟨rfl, Lane.raise_last ..⟩

theorem Lane.scrubbed_of_again {before : List (Nat × Nat)} {c : FailCell} (h : (c.inst, c.addr) ∈ before) (L : Lane) :
    (c.inst, cellRow c) ∈ (L.scrubbed before c).mem.marked ∧
    (L.scrubbed before c).flog.last = BitVec.ofNat 16 (0xB005 + 0x40 * groupOfBlock c.inst) := by
  rw [Lane.scrubbed, if_pos h]
  dsimp only
  split
  next marked => exact ⟨marked, Lane.raise_last ..⟩
  · exact ⟨List.mem_append_right _ List.mem_cons_self, Lane.raise_last ..⟩

theorem Lane.scrubbed_vote (before : List (Nat × Nat)) (L : Lane) (c : FailCell) :
    (L.scrubbed before c).vote = L.vote := by
  simp only [Lane.scrubbed, apply_ite Lane.vote, Lane.raise_vote, ite_self]

theorem exec_scrubPass_word (c : FailCell) (h : (s.lane l).alive = true) :
    ∃ t, exec (.scrubPass l [c]) s = .next t ∧ OnlyLane l s t ∧
      (t.lane l).mem.lastFix = [(c.inst, c.addr)] ∧
      ((c.inst, c.addr) ∉ (s.lane l).mem.lastFix → (t.lane l).mem.marked = (s.lane l).mem.marked ∧
        (t.lane l).flog.last = BitVec.ofNat 16 (0xB001 + 0x40 * groupOfBlock c.inst)) ∧
      ((c.inst, c.addr) ∈ (s.lane l).mem.lastFix → (c.inst, c.addr / 64) ∈ (t.lane l).mem.marked ∧
        (t.lane l).flog.last = BitVec.ofNat 16 (0xB005 + 0x40 * groupOfBlock c.inst)) ∧
      (t.lane l).vote = (s.lane l).vote := by
  refine ⟨s.on l fun L => { L.scrubbed L.mem.lastFix c with
      mem := { (L.scrubbed L.mem.lastFix c).mem with lastFix := [(c.inst, c.addr)] } },
    congrArg Host.Outcome.next (s.on_congr l (if_pos h)), s.onlyLane_on l _, ?_⟩
  rw [s.lane_on_same]
  refine ⟨rfl, fun first => ?_, fun again => Lane.scrubbed_of_again again _, Lane.scrubbed_vote ..⟩
  obtain ⟨hmarked, hlast⟩ := Lane.scrubbed_of_first first (s.lane l)
  exact ⟨hmarked, hlast⟩

/-! ### SRAM_DOUBLE_BIT_ERROR (R494) -/

/-- What a failing word of the frame buffers held is discarded, the rest of the lane stays. -/
theorem Lane.discard_rest (L : Lane) (h : Held) : (L.discard h).vote = L.vote ∧ (L.discard h).pwr = L.pwr ∧
    (L.discard h).flog = L.flog ∧ (h = .answers → (L.discard h).dict.hostOut = []) ∧
    (h = .none → (L.discard h).dict = L.dict) := by
  cases h with
  | none => exact ⟨rfl, rfl, rfl, nofun, fun _ => rfl⟩
  | tx n => exact ⟨rfl, rfl, rfl, nofun, nofun⟩
  | answers => exact ⟨rfl, rfl, rfl, fun _ => rfl, nofun⟩
  | segments m tid => exact ⟨rfl, rfl, rfl, nofun, nofun⟩
  | snapshot m tid => exact ⟨rfl, rfl, rfl, nofun, nofun⟩

/-- The first lane-out leaves the lane OUT, whatever the details of its fault. -/
theorem Lane.laneOut_role {L : Lane} (h : L.vote.outNow = false) (code detId detVal : Nat) :
    (L.laneOut code detId detVal).vote.role = .out := by
  rw [Lane.laneOut, Lane.goOut_vote (by rw [Lane.raise_vote, h])]

/-- The lane after a double-bit error in a memory group. -/
def Lane.doubleBit (L : Lane) (g : Fin 16) (cell : Nat × Nat) (held : Held) : Lane :=
  let id := cellId { inst := cell.1, addr := cell.2 }
  if g.val < 8 then L.laneOut (0xB002 + 0x40 * g.val) id
  else (L.raise (0xB002 + 0x40 * g.val) 0 id).discard held

theorem exec_doubleBit_of_alive (g : Fin 16) (cell : Nat × Nat) (h : Held) (ha : (s.lane l).alive = true) :
    ∃ t, exec (.sramDoubleBitError l g cell h) s = .next t ∧ OnlyLane l s t ∧
      (t.lane l).flog.last = BitVec.ofNat 16 (0xB002 + 0x40 * g.val) ∧
      (g.val < 8 → (t.lane l).vote.outNow = true ∧ (t.lane l).pwr.stopLine = true ∧
        ((s.lane l).vote.outNow = false → (t.lane l).vote.role = .out)) ∧
      (8 ≤ g.val → (t.lane l).vote = (s.lane l).vote ∧ (t.lane l).pwr = (s.lane l).pwr ∧
        (h = .answers → (t.lane l).dict.hostOut = []) ∧ (h = .none → (t.lane l).dict = (s.lane l).dict)) := by
  refine ⟨s.on l fun L => L.doubleBit g cell h, congrArg Host.Outcome.next (s.on_congr l (if_pos ha)),
    s.onlyLane_on l _, ?_⟩
  rw [s.lane_on_same, Lane.doubleBit]
  by_cases core : g.val < 8
  · rw [if_pos core]
    exact ⟨Lane.laneOut_last .., fun _ => ⟨Lane.laneOut_outNow .., Lane.laneOut_stopLine .., (Lane.laneOut_role · ..)⟩,
      fun h8 => by omega⟩
  · rw [if_neg core]
    obtain ⟨hvote, hpwr, hflog, hans, hnone⟩ := Lane.discard_rest
      ((s.lane l).raise (0xB002 + 0x40 * g.val) 0 (cellId { inst := cell.1, addr := cell.2 })) h
    rw [hvote, hpwr, hflog]
    exact ⟨Lane.raise_last .., fun h8 => absurd h8 core, fun _ => ⟨rfl, rfl, hans, hnone⟩⟩

theorem exec_scrub_of_dead (h : (s.lane l).alive = false) (cs : List FailCell) (g : Fin 16) (cell : Nat × Nat)
    (held : Held) : exec (.scrubPass l cs) s = .next s ∧ exec (.sramDoubleBitError l g cell held) s = .next s :=
  ⟨State.next_on_of_fails (c := fun L => L.alive = true) (ne_true_of_eq_false h),
    State.next_on_of_fails (c := fun L => L.alive = true) (ne_true_of_eq_false h)⟩

/-! ### MEM_TEST and MEM_TEST_DEMAND (R495, R496) -/

/-- A memory test begins in the save phase, its result pending. -/
theorem Lane.testBegin_begun (L : Lane) (m : Master) : (L.testBegin m).mem.testing = true ∧ (L.testBegin m).mem.testBy = m ∧
    (L.testBegin m).mem.result = L.mem.result.start m ∧ (L.testBegin m).pwr.state = .starting ∧
    (L.testBegin m).pwr.step = 5 ∧ (L.testBegin m).pwr.phase = 1 ∧ (L.testBegin m).vote.role = .out :=
  ⟨rfl, rfl, rfl, rfl, rfl, rfl, rfl⟩

/-- The write that asks for a memory test. -/
def Lane.memTestWrite (L : Lane) (m : Master) (tid : Nat) (data : List Byte) : Lane :=
  match L.writeErr m 0x5200 1 data (L.pwr.state == .hold && L.pwr.step == 9 && L.pwr.phase == 0) false with
  | some e => L.answer m tid 0x5200 1 e
  | none =>
    if L.mem.result.busy m then L.answer m tid 0x5200 1 eBusy
    else ((L.sbCount m 0x5200).answer m tid 0x5200 1 0).testBegin m

theorem exec_memTest (m : Master) (tid : Nat) (data : List Byte) :
    exec (.memTest l m tid data) s = .next (s.on l fun L => L.memTestWrite m tid data) := rfl

variable {m : Master} {tid : Nat} {data : List Byte}

theorem Lane.memTestWrite_of_err {L : Lane} {e : W32} (h : L.writeErr m 0x5200 1 data
    (L.pwr.state == .hold && L.pwr.step == 9 && L.pwr.phase == 0) false = some e) :
    L.memTestWrite m tid data = L.answer m tid 0x5200 1 e := by
  unfold Lane.memTestWrite
  rw [h]

theorem Lane.memTestWrite_of_ok {L : Lane} (h : L.writeErr m 0x5200 1 data
    (L.pwr.state == .hold && L.pwr.step == 9 && L.pwr.phase == 0) false = none) :
    L.memTestWrite m tid data = if L.mem.result.busy m then L.answer m tid 0x5200 1 0x0D000001
      else ((L.sbCount m 0x5200).answer m tid 0x5200 1 0).testBegin m := by
  unfold Lane.memTestWrite
  rw [h]
  rfl

theorem exec_memTest_begins (hok : (s.lane l).writeErr m 0x5200 1 data
    ((s.lane l).pwr.state == .hold && (s.lane l).pwr.step == 9 && (s.lane l).pwr.phase == 0) false = none)
    (hfree : (s.lane l).mem.result.busy m = false) :
    ∃ t, exec (.memTest l m tid data) s = .next t ∧ OnlyLane l s t ∧
      (t.lane l).mem.testing = true ∧ (t.lane l).mem.testBy = m ∧
      (t.lane l).mem.result = (s.lane l).mem.result.start m ∧
      (t.lane l).pwr.state = .starting ∧ (t.lane l).pwr.step = 5 ∧ (t.lane l).pwr.phase = 1 ∧
      (t.lane l).vote.role = .out := by
  refine ⟨_, exec_memTest m tid data, s.onlyLane_on l _, ?_⟩
  rw [s.lane_on_same, Lane.memTestWrite_of_ok hok, if_neg (ne_true_of_eq_false hfree)]
  obtain ⟨htesting, hby, hresult, hpwr⟩ := Lane.testBegin_begun
    (((s.lane l).sbCount m 0x5200).answer m tid 0x5200 1 0) m
  rw [Lane.answer_mem, Lane.sbCount_mem] at hresult
  exact ⟨htesting, hby, hresult, hpwr⟩

theorem exec_memTest_of_busy (hok : (s.lane l).writeErr m 0x5200 1 data
    ((s.lane l).pwr.state == .hold && (s.lane l).pwr.step == 9 && (s.lane l).pwr.phase == 0) false = none)
    (hbusy : (s.lane l).mem.result.busy m = true) :
    exec (.memTest l m tid data) s = .next (s.on l fun L => L.answer m tid 0x5200 1 0x0D000001) :=
  congrArg Host.Outcome.next (s.on_congr l ((Lane.memTestWrite_of_ok hok).trans (if_pos hbusy)))

theorem exec_memTest_of_err (e : W32) (h : (s.lane l).writeErr m 0x5200 1 data
    ((s.lane l).pwr.state == .hold && (s.lane l).pwr.step == 9 && (s.lane l).pwr.phase == 0) false = some e) :
    exec (.memTest l m tid data) s = .next (s.on l fun L => L.answer m tid 0x5200 1 e) :=
  congrArg Host.Outcome.next (s.on_congr l (Lane.memTestWrite_of_err h))

theorem exec_memTestDemand_of_testing (ht : (s.lane l).mem.testing = true) (h : s.driversSeen l < 2) :
    exec (.memTestDemand l) s = .next (s.on l fun L => { L with mem := { L.mem with demand := true } }) :=
  (if_pos h).trans (congrArg Host.Outcome.next (s.on_congr l (if_pos ht)))

theorem exec_memTestDemand_of_not (h : (s.lane l).mem.testing = false ∨ 2 ≤ s.driversSeen l) :
    exec (.memTestDemand l) s = .next s := by
  by_cases few : s.driversSeen l < 2
  · have idle := h.resolve_right (by omega)
    exact (if_pos few).trans (congrArg Host.Outcome.next (s.on_id l (if_neg (ne_true_of_eq_false idle))))
  · exact if_neg few

/-! ### MARCH_ELEMENT_END (R446, R496) -/

theorem exec_march_of_idle (h : (s.lane l).mem.running = false) (cs : List FailCell) :
    exec (.marchElementEnd l) s = .next s ∧ exec (.wedgeGroupEnd l cs) s = .next s :=
  ⟨congrArg Host.Outcome.next (s.on_id l (if_pos h)),
    State.next_on_of_fails (c := fun L => L.mem.running = true) (ne_true_of_eq_false h)⟩

/-- A restart drops the pass and keeps the result of a test under way. -/
theorem Lane.restartAt_mem (L : Lane) (step kind : Nat) (keepTime wedgeOk : Bool) (owed : BitVec 16) :
    (L.restartAt step kind keepTime wedgeOk owed).mem.testing = false ∧
    (L.restartAt step kind keepTime wedgeOk owed).mem.running = false ∧
    (L.restartAt step kind keepTime wedgeOk owed).mem.owed = owed ∧
    (L.mem.testing = true → (L.restartAt step kind keepTime wedgeOk owed).mem.result = L.mem.result) := by
  refine ⟨rfl, rfl, rfl, fun h => ?_⟩
  have kept : (L.sbClose 5).mem = L.mem := by unfold Lane.sbClose; split <;> rfl
  have result : (L.restartAt step kind keepTime wedgeOk owed).mem.result =
    if (L.sbClose 5).mem.testing then (L.sbClose 5).mem.result else (L.sbClose 5).mem.result.atStart {} := rfl
  rw [result, kept, if_pos h]

/-- The lane whose pass a demand ends: recorded with outcome 3. -/
def Lane.demanded (L : Lane) : Lane :=
  let M := ({ L with mem := L.mem.record 2 0 } : Lane).raise 0xBFC6 0
  { M with mem := { M.mem with result := M.mem.result.finish M.mem.testBy 0x300 } }

theorem exec_marchElementEnd_of_demand (hrun : (s.lane l).mem.running = true) (h : (s.lane l).mem.demand = true) :
    ∃ t, exec (.marchElementEnd l) s = .next t ∧ OnlyLane l s t ∧
      (t.lane l).pwr.state = .starting ∧ (t.lane l).pwr.step = 5 ∧ (t.lane l).mem.testing = false ∧
      (t.lane l).mem.running = false ∧ (t.lane l).mem.owed = 0 ∧
      ((s.lane l).mem.testing = true →
        (t.lane l).mem.result = (s.lane l).mem.result.finish (s.lane l).mem.testBy 0x300) := by
  refine ⟨s.on l fun L => L.demanded.restartAt 5 1 true true 0,
    congrArg Host.Outcome.next (s.on_congr l ((if_neg (by rw [hrun]; decide)).trans (if_pos h))), s.onlyLane_on l _, ?_⟩
  rw [s.lane_on_same]
  obtain ⟨hstate, hstep, -⟩ := (s.lane l).demanded.restartAt_pwr 5 1 true true 0
  obtain ⟨htesting, hrunning, howed, hresult⟩ := (s.lane l).demanded.restartAt_mem 5 1 true true 0
  exact ⟨hstate, hstep, htesting, hrunning, howed, hresult⟩

theorem exec_marchElementEnd_of_abandon (hrun : (s.lane l).mem.running = true) (hd : (s.lane l).mem.demand = false)
    (h : (s.lane l).pwr.abandon = true) :
    ∃ t, exec (.marchElementEnd l) s = .next t ∧ OnlyLane l s t ∧ (t.lane l).pwr.state = .starting ∧
      (t.lane l).pwr.step = 5 ∧ (t.lane l).mem.running = false ∧
      (t.lane l).mem.owed = ((s.lane l).mem.pUntested ||| groupsFrom (s.lane l).mem.group) := by
  refine ⟨s.on l fun L => ({ L with mem := L.mem.record 1 (L.mem.pUntested ||| groupsFrom L.mem.group) } : Lane).restartAt
      5 1 true false (L.mem.pUntested ||| groupsFrom L.mem.group),
    congrArg Host.Outcome.next (s.on_congr l ((if_neg (by rw [hrun]; decide)).trans
      ((if_neg (ne_true_of_eq_false hd)).trans (if_pos h)))), s.onlyLane_on l _, ?_⟩
  rw [s.lane_on_same]
  exact ⟨rfl, rfl, rfl, rfl⟩

theorem exec_marchElementEnd_goes_on (hd : (s.lane l).mem.demand = false) (h : (s.lane l).pwr.abandon = false) :
    exec (.marchElementEnd l) s = .next s := by
  refine congrArg Host.Outcome.next (s.on_id l ?_)
  rw [if_neg (ne_true_of_eq_false hd), if_neg (ne_true_of_eq_false h)]
  exact ite_self _

/-! ### WEDGE_GROUP_END (R490-R493) -/

/-- The lane at the end of a group's slot. -/
def Lane.wedgeGroup (L : Lane) (cells : List FailCell) : Lane :=
  if 16 ≤ (L.groupEnd cells).mem.group then (L.groupEnd cells).passEnd else L.groupEnd cells

theorem exec_wedgeGroupEnd_of_running (h : (s.lane l).mem.running = true) (cells : List FailCell) :
    exec (.wedgeGroupEnd l cells) s = .next (s.on l fun L => L.wedgeGroup cells) :=
  State.next_on_of_holds (c := fun L => L.mem.running = true) h

/-- The memories after a group without a failing cell. -/
def Mem.groupPassed (m : Mem) : Mem := { m with group := m.group + 1, pRows := min 63 m.pRows }

/-- A group without a failing cell leads to the next (R490). -/
theorem Lane.groupEnd_nil (L : Lane) : (L.groupEnd []).mem = L.mem.groupPassed ∧ (L.groupEnd []).flog = L.flog ∧
    (L.groupEnd []).pwr = L.pwr := by
  have uncover : (L.mem.pUncover || false) = L.mem.pUncover := Bool.or_false _
  refine ⟨?_, rfl, rfl⟩
  have written : (L.groupEnd []).mem = { L.mem with
    group := L.mem.group + 1, pRows := min 63 (L.mem.pRows + 0), pUncover := L.mem.pUncover || false } := rfl
  rw [written, uncover]
  rfl

theorem exec_wedgeGroupEnd_passes (hrun : (s.lane l).mem.running = true) (h : (s.lane l).mem.group < 15) :
    ∃ t, exec (.wedgeGroupEnd l []) s = .next t ∧ OnlyLane l s t ∧
      (t.lane l).mem = { (s.lane l).mem with group := (s.lane l).mem.group + 1, pRows := min 63 (s.lane l).mem.pRows } ∧
      (t.lane l).flog = (s.lane l).flog ∧ (t.lane l).pwr = (s.lane l).pwr := by
  refine ⟨_, exec_wedgeGroupEnd_of_running hrun [], s.onlyLane_on l _, ?_⟩
  obtain ⟨hmem, hrest⟩ := (s.lane l).groupEnd_nil
  have next : ¬ 16 ≤ ((s.lane l).groupEnd []).mem.group := by
    rw [hmem, Mem.groupPassed]
    dsimp only
    omega
  rw [s.lane_on_same, Lane.wedgeGroup, if_neg next]
  exact ⟨hmem, hrest⟩

theorem sparesOf_cons_ne {b blk : Nat} (h : b ≠ blk) (r : List Nat) (m : List (Nat × List Nat)) :
    sparesOf ((b, r) :: m) blk = sparesOf m blk := by
  rw [sparesOf, List.find?_cons_of_neg (by simpa using h), sparesOf]

/-- The rows that a map replaces for a block are those set last. -/
theorem sparesOf_setSpares (m : List (Nat × List Nat)) (blk : Nat) (rows : List Nat) :
    sparesOf (setSpares m blk rows) blk = rows := by
  induction m with
  | nil => simp [setSpares, sparesOf]
  | cons p m ih =>
    obtain ⟨b, r⟩ := p
    rw [setSpares]
    split
    · simp [sparesOf]
    · split
      next heq => simp [sparesOf, heq]
      next hne =>
        rw [sparesOf_cons_ne (Ne.symm hne), ih]

/-- One failing row of a block without spares takes one (R491). -/
theorem assignRows_one {m : List (Nat × List Nat)} {blk : Nat} (h : sparesOf m blk = []) (row : Nat) :
    assignRows m [(blk, row)] = (setSpares m blk [row], 1, false) := by
  simp [assignRows, dedup, h]

/-- The lane after the events of one failing cell. -/
theorem Lane.groupEnd_one {L : Lane} {c : FailCell} (hg : groupOfBlock c.inst = L.mem.group)
    (hs : sparesOf L.mem.spares c.inst = []) :
    sparesOf (L.groupEnd [c]).mem.spares c.inst = [c.addr / 64] ∧ (L.groupEnd [c]).mem.group = L.mem.group + 1 ∧
    (L.groupEnd [c]).mem.pFailed = L.mem.pFailed + 1 ∧
    (L.groupEnd [c]).flog.last = BitVec.ofNat 16 (0xB003 + 0x40 * L.mem.group) ∧ (L.groupEnd [c]).pwr = L.pwr := by
  have once : cellsOnce ([c].filter fun c => groupOfBlock c.inst == L.mem.group) = [c] := by simp [hg, cellsOnce]
  have rows : assignRows (L.raiseCells [c]).mem.spares [(c.inst, cellRow c)] =
      (setSpares L.mem.spares c.inst [cellRow c], 1, false) :=
    assignRows_one hs _
  have last : (L.raiseCells [c]).flog.last = BitVec.ofNat 16 (0xB003 + 0x40 * groupOfBlock c.inst) := Lane.raise_last ..
  unfold Lane.groupEnd
  dsimp only
  rw [once, List.map_singleton, rows]
  refine ⟨sparesOf_setSpares .., rfl, rfl, ?_, rfl⟩
  rw [← hg]
  exact last

theorem exec_wedgeGroupEnd_repairs (hrun : (s.lane l).mem.running = true) (c : FailCell) (h : (s.lane l).mem.group < 15)
    (hg : groupOfBlock c.inst = (s.lane l).mem.group) (hs : sparesOf (s.lane l).mem.spares c.inst = []) :
    ∃ t, exec (.wedgeGroupEnd l [c]) s = .next t ∧ OnlyLane l s t ∧
      sparesOf (t.lane l).mem.spares c.inst = [c.addr / 64] ∧
      (t.lane l).mem.group = (s.lane l).mem.group + 1 ∧ (t.lane l).mem.pFailed = (s.lane l).mem.pFailed + 1 ∧
      (t.lane l).flog.last = BitVec.ofNat 16 (0xB003 + 0x40 * (s.lane l).mem.group) ∧
      (t.lane l).pwr = (s.lane l).pwr := by
  refine ⟨_, exec_wedgeGroupEnd_of_running hrun [c], s.onlyLane_on l _, ?_⟩
  obtain ⟨hspares, hgroup, hrest⟩ := Lane.groupEnd_one hg hs
  rw [s.lane_on_same, Lane.wedgeGroup, if_neg (by omega)]
  exact ⟨hspares, hgroup, hrest⟩

/-- The last group ends the pass (R493). -/
theorem Lane.wedgeGroup_last {L : Lane} (h : 15 ≤ L.mem.group) : L.wedgeGroup [] = (L.groupEnd []).passEnd := by
  have last : 16 ≤ (L.groupEnd []).mem.group := by
    rw [L.groupEnd_nil.1, Mem.groupPassed]
    dsimp only
    omega
  rw [Lane.wedgeGroup, if_pos last]

/-- A pass of an entry only writes its record. -/
theorem Lane.passEnd_of_entry {L : Lane} (h : L.mem.testing = false) :
    L.passEnd = { L with mem := L.mem.record 0 L.mem.pUntested } :=
  if_neg (ne_true_of_eq_false h)

/-- A pass of an on-command test restarts the lane from step 5 as a warm start (R495). -/
theorem Lane.passEnd_of_test {L : Lane} (h : L.mem.testing = true) : ∃ M : Lane,
    L.passEnd = M.restartAt 5 1 true true L.mem.pUntested := ⟨_, if_pos h⟩

theorem exec_wedgeGroupEnd_ends_entry (hrun : (s.lane l).mem.running = true) (h : 15 ≤ (s.lane l).mem.group)
    (ht : (s.lane l).mem.testing = false) :
    ∃ t, exec (.wedgeGroupEnd l []) s = .next t ∧ OnlyLane l s t ∧ (t.lane l).mem.running = false ∧
      (t.lane l).mem.valid = true ∧ (t.lane l).mem.ended = 0 ∧ (t.lane l).mem.untested = (s.lane l).mem.pUntested ∧
      (t.lane l).pwr = (s.lane l).pwr := by
  refine ⟨_, exec_wedgeGroupEnd_of_running hrun [], s.onlyLane_on l _, ?_⟩
  obtain ⟨hmem, -, hpwr⟩ := (s.lane l).groupEnd_nil
  rw [s.lane_on_same, Lane.wedgeGroup_last h, Lane.passEnd_of_entry (by rw [hmem]; exact ht), hmem]
  exact ⟨rfl, rfl, rfl, rfl, hpwr⟩

theorem exec_wedgeGroupEnd_ends_test (hrun : (s.lane l).mem.running = true) (h : 15 ≤ (s.lane l).mem.group)
    (ht : (s.lane l).mem.testing = true) :
    ∃ t, exec (.wedgeGroupEnd l []) s = .next t ∧ OnlyLane l s t ∧ (t.lane l).mem.running = false ∧
      (t.lane l).mem.testing = false ∧ (t.lane l).pwr.state = .starting ∧ (t.lane l).pwr.step = 5 ∧
      (t.lane l).pwr.kind = 1 ∧ (t.lane l).mem.owed = (s.lane l).mem.pUntested := by
  refine ⟨_, exec_wedgeGroupEnd_of_running hrun [], s.onlyLane_on l _, ?_⟩
  obtain ⟨hmem, -⟩ := (s.lane l).groupEnd_nil
  obtain ⟨M, hM⟩ := Lane.passEnd_of_test (L := (s.lane l).groupEnd []) (by rw [hmem]; exact ht)
  rw [s.lane_on_same, Lane.wedgeGroup_last h, hM, hmem]
  exact ⟨rfl, rfl, rfl, rfl, rfl, rfl⟩

end

/-- Settles O55: each command is split along its own conditions; a group's end is computed for no cell and for one. -/
theorem memories : Obligations.Memories := by
  unfold Obligations.Memories
  intro s l
  refine ⟨exec_scrubPass_word, exec_doubleBit_of_alive, exec_scrub_of_dead, ?_, exec_memTestDemand_of_testing,
    exec_memTestDemand_of_not, exec_march_of_idle, fun hrun => ⟨exec_marchElementEnd_of_demand hrun,
      exec_marchElementEnd_of_abandon hrun, exec_marchElementEnd_goes_on, exec_wedgeGroupEnd_passes hrun,
      exec_wedgeGroupEnd_repairs hrun,
      fun h => ⟨exec_wedgeGroupEnd_ends_entry hrun h, exec_wedgeGroupEnd_ends_test hrun h⟩⟩⟩
  rintro m tid data ok rfl
  exact ⟨fun hok => ⟨exec_memTest_begins hok, exec_memTest_of_busy hok⟩, exec_memTest_of_err⟩

end Sys2Proof.Machine
end

section
/-! PROOFS, the link pattern test (O56). -/
namespace Sys2Proof.Machine

/-! ### The checks of a write of LPT_CTRL do not see the counts -/

/-- A checker's counts leave the settings of the test. -/
theorem Lpt.take_settings (p : Lpt) (rx : LptRx) :
    (p.take rx).running = p.running ∧ (p.take rx).test = p.test ∧ (p.take rx).outcome = p.outcome := by
  unfold Lpt.take
  split
  · exact ⟨rfl, rfl, rfl⟩
  · exact ⟨rfl, rfl, rfl⟩

theorem Lpt.take_of_idle {p : Lpt} (h : p.running = false) (rx : LptRx) : p.take rx = p :=
  if_neg (ne_true_of_eq_false h)

theorem Lpt.take_of_running {p : Lpt} (h : p.running = true) (rx : LptRx) : p.take rx = { p with
    lock := rx.lock
    bits := BitVec.ofNat 64 (min (p.bits.toNat + rx.bits) (2 ^ 64 - 1))
    errors := BitVec.ofNat 32 (min (p.errors.toNat + rx.errors) (2 ^ 32 - 1))
    lockLoss := BitVec.ofNat 32 (min (p.lockLoss.toNat + rx.losses) (2 ^ 32 - 1)) } :=
  if_pos h

/-- Nothing received leaves the count of errors. -/
theorem Lpt.take_errors_of_none (p : Lpt) (lock : Bool) : (p.take { lock := lock }).errors = p.errors := by
  unfold Lpt.take
  split
  · have small : p.errors.toNat + 0 ≤ 2 ^ 32 - 1 := by have := p.errors.isLt; omega
    show BitVec.ofNat 32 (min (p.errors.toNat + 0) (2 ^ 32 - 1)) = p.errors
    rw [min_eq_left small, Nat.add_zero, BitVec.ofNat_toNat]
    exact BitVec.setWidth_eq _
  · rfl

/-- The lane with its checker's counts brought up to date. -/
def Lane.lptTaken (L : Lane) (rx : LptRx) : Lane := { L with lpt := L.lpt.take rx }

section
variable (L : Lane) (rx : LptRx) (m : Master)

theorem Lane.lptTaken_refusal (v : Nat) : (L.lptTaken rx).lptRefusal m v = L.lptRefusal m v := by
  have running : (L.lptTaken rx).lpt.running = L.lpt.running := (L.lpt.take_settings rx).1
  unfold Lane.lptRefusal
  rw [running]
  rfl

theorem Lane.lptTaken_far : (L.lptTaken rx).lptFar = L.lptFar := by
  obtain ⟨running, test, -⟩ := L.lpt.take_settings rx
  have hrunning : (L.lptTaken rx).lpt.running = L.lpt.running := running
  have htest : (L.lptTaken rx).lpt.test = L.lpt.test := test
  simp only [Lane.lptFar, Lane.lptOn, Lane.lptLink, hrunning, htest]
  rfl

theorem Lane.lptTaken_writeErr (idx sub : Nat) (data : List Byte) (present window : Bool) :
    (L.lptTaken rx).writeErr m idx sub data present window = L.writeErr m idx sub data present window := by
  obtain ⟨running, test, -⟩ := L.lpt.take_settings rx
  have hrunning : (L.lptTaken rx).lpt.running = L.lpt.running := running
  have htest : (L.lptTaken rx).lpt.test = L.lpt.test := test
  simp only [Lane.writeErr, Lane.txnFull, Lane.canWrite, Lane.sealErr, Lane.rwpOpen, Lane.obj, Lane.sbReach,
    Lane.pairsUp, Lane.lptOn, Lane.lptLink, hrunning, htest]
  rfl

end

/-! ### A write of LPT_CTRL -/

section
variable {L : Lane} {m : Master} {tid : Nat} {data : List Byte} {rx : LptRx}

/-- Why a write of LPT_CTRL is refused before it acts, 0 where no start is. -/
def Lane.lptWhy (L : Lane) (m : Master) (data : List Byte) : Nat :=
  if data.length = 4 ∧ bit (ofBytes data) 31 then L.lptRefusal m (ofBytes data) else 0

/-- What an accepted write of LPT_CTRL does to the lane. -/
def Lane.lptAct (L : Lane) (v : Nat) : Lane :=
  let p : Lpt := { L.lpt with ctrl := lptKeep v }
  if bit v 31 then
    ({ L with lpt := { ctrl := lptKeep v, test := lptKeep v, running := true, outcome := 1 } } : Lane).raise 0x4841 0
  else if bit v 30 then { L with lpt := p.stop 3 }
  else if bit v 29 && L.lptFar.isNone then { L with lpt := p.hit }
  else { L with lpt := p }

/-- The lane with the cause of a refused start in its outcome. -/
def Lane.lptCause (L : Lane) (why : Nat) : Lane :=
  { L with lpt := { L.lpt with outcome := if L.lpt.running then L.lpt.outcome else why } }

theorem Lane.lptWrite_of_ok (h : L.writeErr m 0x5300 1 data (L.lptWhy m data == 0) false = none) :
    L.lptWrite m tid data rx =
      (((L.lptTaken rx).lptAct (ofBytes data)).sbCount m 0x5300).answer m tid 0x5300 1 0 := by
  rw [← L.lptTaken_writeErr rx] at h
  rw [Lane.lptWhy, ← L.lptTaken_refusal rx] at h
  unfold Lane.lptWrite
  dsimp only
  rw [Lane.lptTaken] at h
  rw [h]
  rfl

theorem Lane.lptWrite_of_err {e : W32} (h : L.writeErr m 0x5300 1 data (L.lptWhy m data == 0) false = some e) :
    L.lptWrite m tid data rx =
      (if e = eState then (L.lptTaken rx).lptCause (L.lptWhy m data) else L.lptTaken rx).answer m tid 0x5300 1 e := by
  rw [← L.lptTaken_writeErr rx] at h
  rw [Lane.lptWhy, ← L.lptTaken_refusal rx] at h ⊢
  unfold Lane.lptWrite
  dsimp only
  rw [Lane.lptTaken] at h
  rw [h]
  rfl

theorem Lane.lptWhy_of_start (hlen : data.length = 4) (h : bit (ofBytes data) 31 = true) :
    L.lptWhy m data = L.lptRefusal m (ofBytes data) := if_pos ⟨hlen, h⟩

theorem Lane.lptWhy_of_other (h : bit (ofBytes data) 31 = false) : L.lptWhy m data = 0 :=
  if_neg fun hstart => ne_true_of_eq_false h hstart.2

theorem Lane.lptAct_start (h : bit (ofBytes data) 31 = true) : (L.lptAct (ofBytes data)).lpt =
      { ctrl := lptKeep (ofBytes data), test := lptKeep (ofBytes data), running := true, outcome := 1 } ∧
    (L.lptAct (ofBytes data)).flog.last = 0x4841 ∧ (L.lptAct (ofBytes data)).pwr = L.pwr ∧
    (L.lptAct (ofBytes data)).vote = L.vote := by
  unfold Lane.lptAct
  dsimp only
  rw [if_pos h]
  exact ⟨rfl, Lane.raise_last .., rfl, rfl⟩

theorem Lane.lptAct_stop (h : bit (ofBytes data) 31 = false) (hstop : bit (ofBytes data) 30 = true) :
    L.lptAct (ofBytes data) = { L with lpt := { L.lpt with ctrl := lptKeep (ofBytes data) }.stop 3 } := by
  unfold Lane.lptAct
  dsimp only
  rw [if_neg (ne_true_of_eq_false h), if_pos hstop]

theorem Lane.lptAct_inject (h : bit (ofBytes data) 31 = false) (hstop : bit (ofBytes data) 30 = false)
    (hinj : bit (ofBytes data) 29 = true) : L.lptAct (ofBytes data) = { L with
      lpt := if L.lptFar.isNone then { L.lpt with ctrl := lptKeep (ofBytes data) }.hit
        else { L.lpt with ctrl := lptKeep (ofBytes data) } } := by
  unfold Lane.lptAct
  dsimp only
  rw [if_neg (ne_true_of_eq_false h), if_neg (ne_true_of_eq_false hstop), hinj, Bool.true_and]
  split <;> rfl

end

/-! ### The write in the module -/

section
variable {s : State} {l : LaneId} {m : Master} {tid : Nat} {data : List Byte} {rx : LptRx}

/-- A write that inverts no bit on a slip link acts on its own lane alone. -/
theorem State.lptWrite_own (h : ∀ p, (s.lane l).lptFar = some p → (s.lane l).lptInjects m data = false) :
    s.lptWrite l m tid data rx = s.on l fun L => L.lptWrite m tid data (s.lptRx l rx) := by
  unfold State.lptWrite
  dsimp only
  split
  next p hp => rw [h p hp, Bool.and_false]; exact if_neg Bool.false_ne_true
  · rfl

theorem State.lptRx_of_alone (h : (s.lane l).lptFar = none) : s.lptRx l rx = rx := by
  unfold State.lptRx
  rw [h]

theorem State.lptRx_of_pair {p : LaneId} (h : (s.lane l).lptFar = some p) (hpair : s.lptPair l p = true) :
    s.lptRx l rx = rx := by
  unfold State.lptRx
  rw [h]
  exact if_pos hpair

/-- With no bits, errors or losses at the lane's checker, none arrive from a far lane either. -/
theorem State.exists_lptRx_lock (s : State) (l : LaneId) (lock : Bool) : ∃ k, s.lptRx l { lock := lock } = { lock := k } := by
  unfold State.lptRx
  split
  · split
    · exact ⟨_, rfl⟩
    · exact ⟨_, rfl⟩
  · exact ⟨_, rfl⟩

theorem Lane.lptInjects_of_start {L : Lane} (h : bit (ofBytes data) 31 = true) : L.lptInjects m data = false := by
  simp [Lane.lptInjects, h]

theorem Lane.lptInjects_of_stop {L : Lane} (h : bit (ofBytes data) 30 = true) : L.lptInjects m data = false := by
  simp [Lane.lptInjects, h]

theorem Lane.lptInjects_of_err {L : Lane} {e : W32} (h : L.writeErr m 0x5300 1 data true false = some e) :
    L.lptInjects m data = false := by
  simp [Lane.lptInjects, h]

theorem Lane.lptInjects_of_inject {L : Lane} (h : bit (ofBytes data) 31 = false) (hstop : bit (ofBytes data) 30 = false)
    (hinj : bit (ofBytes data) 29 = true) (hok : L.writeErr m 0x5300 1 data true false = none) :
    L.lptInjects m data = true := by
  simp [Lane.lptInjects, h, hstop, hinj, hok]

/-! ### LPT_START (R500) -/

theorem exec_lptStart (h : bit (ofBytes data) 31 = true) : ∃ k, exec (.lptStart l m tid data) s =
    .next (s.on l fun L => L.lptWrite m tid data { lock := k }) := by
  obtain ⟨k, hk⟩ := s.exists_lptRx_lock l (s.lane l).lpt.lock
  refine ⟨k, congrArg Host.Outcome.next ((State.lptWrite_own fun p _ => Lane.lptInjects_of_start h).trans ?_)⟩
  rw [hk]

theorem exec_lptStart_begins (hlen : data.length = 4) (h : bit (ofBytes data) 31 = true)
    (hwhy : (s.lane l).lptRefusal m (ofBytes data) = 0) (hok : (s.lane l).writeErr m 0x5300 1 data true false = none) :
    ∃ t, exec (.lptStart l m tid data) s = .next t ∧ OnlyLane l s t ∧ (t.lane l).lpt =
        { ctrl := lptKeep (ofBytes data), test := lptKeep (ofBytes data), running := true, outcome := 1 } ∧
      (t.lane l).flog.last = 0x4841 ∧ (t.lane l).pwr = (s.lane l).pwr ∧ (t.lane l).vote = (s.lane l).vote := by
  obtain ⟨k, hexec⟩ := exec_lptStart (s := s) (l := l) (m := m) (tid := tid) h
  refine ⟨_, hexec, s.onlyLane_on l _, ?_⟩
  have ok : (s.lane l).writeErr m 0x5300 1 data ((s.lane l).lptWhy m data == 0) false = none := by
    rw [Lane.lptWhy_of_start hlen h, hwhy]
    exact hok
  rw [s.lane_on_same, Lane.lptWrite_of_ok ok, Lane.answer_lpt, Lane.answer_flog, Lane.answer_pwr, Lane.answer_vote,
    Lane.sbCount_lpt, Lane.sbCount_flog, Lane.sbCount_pwr, Lane.sbCount_vote]
  exact Lane.lptAct_start h

theorem exec_lptStart_refused (hlen : data.length = 4) (h : bit (ofBytes data) 31 = true)
    (hwhy : (s.lane l).lptRefusal m (ofBytes data) ≠ 0)
    (herr : (s.lane l).writeErr m 0x5300 1 data false false = some 0x08000022) :
    ∃ t, exec (.lptStart l m tid data) s = .next t ∧ OnlyLane l s t ∧
      (t.lane l).lpt.running = (s.lane l).lpt.running ∧ (t.lane l).flog = (s.lane l).flog ∧
      ((s.lane l).lpt.running = false → (t.lane l).lpt.outcome = (s.lane l).lptRefusal m (ofBytes data)) ∧
      ((s.lane l).lpt.running = true → (t.lane l).lpt.outcome = (s.lane l).lpt.outcome ∧
        (t.lane l).lpt.errors = (s.lane l).lpt.errors) := by
  obtain ⟨k, hexec⟩ := exec_lptStart (s := s) (l := l) (m := m) (tid := tid) h
  refine ⟨_, hexec, s.onlyLane_on l _, ?_⟩
  have err : (s.lane l).writeErr m 0x5300 1 data ((s.lane l).lptWhy m data == 0) false = some eState := by
    rw [Lane.lptWhy_of_start hlen h, beq_eq_false_iff_ne.2 hwhy]
    exact herr
  obtain ⟨hrunning, -, houtcome⟩ := (s.lane l).lpt.take_settings { lock := k }
  have cause : (((s.lane l).lptTaken { lock := k }).lptCause ((s.lane l).lptWhy m data)).lpt.outcome =
      if ((s.lane l).lpt.take { lock := k }).running then ((s.lane l).lpt.take { lock := k }).outcome
      else (s.lane l).lptWhy m data := rfl
  rw [s.lane_on_same, Lane.lptWrite_of_err err, if_pos rfl, Lane.answer_lpt, Lane.answer_flog, cause, hrunning, houtcome,
    Lane.lptWhy_of_start hlen h]
  exact ⟨hrunning, rfl, fun hidle => if_neg (ne_true_of_eq_false hidle),
    fun hrun => ⟨if_pos hrun, Lpt.take_errors_of_none ..⟩⟩

/-! ### LPT_STOP (R501) -/

theorem Lane.writeErr_why {L : Lane} (h : bit (ofBytes data) 31 = false) :
    L.writeErr m 0x5300 1 data (L.lptWhy m data == 0) false = L.writeErr m 0x5300 1 data true false := by
  rw [Lane.lptWhy_of_other h]
  rfl

theorem exec_lptStop (hstop : bit (ofBytes data) 30 = true) : exec (.lptStop l m tid data rx) s =
    .next (s.on l fun L => L.lptWrite m tid data (s.lptRx l rx)) :=
  congrArg Host.Outcome.next (State.lptWrite_own fun _ _ => Lane.lptInjects_of_stop hstop)

/-- What an accepted STOP leaves of the pattern test and the recorder. -/
theorem Lane.lptWrite_stop {L : Lane} (h : bit (ofBytes data) 31 = false) (hstop : bit (ofBytes data) 30 = true)
    (hok : L.writeErr m 0x5300 1 data true false = none) :
    (L.lptWrite m tid data rx).lpt = { L.lpt.take rx with ctrl := lptKeep (ofBytes data) }.stop 3 ∧
    (L.lptWrite m tid data rx).flog = L.flog := by
  rw [Lane.lptWrite_of_ok (by rw [Lane.writeErr_why h]; exact hok), Lane.answer_lpt, Lane.sbCount_lpt, Lane.answer_flog,
    Lane.sbCount_flog, Lane.lptAct_stop h hstop]
  exact ⟨rfl, rfl⟩

theorem exec_lptStop_of_running (h : bit (ofBytes data) 31 = false)
    (hok : (s.lane l).writeErr m 0x5300 1 data true false = none) (hstop : bit (ofBytes data) 30 = true)
    (hrun : (s.lane l).lpt.running = true) : ∃ t, exec (.lptStop l m tid data rx) s = .next t ∧
      OnlyLane l s t ∧ (t.lane l).lpt.running = false ∧ (t.lane l).lpt.outcome = 3 ∧
      (t.lane l).lpt.ctrl = lptKeep (ofBytes data) ∧ (t.lane l).lpt.test = (s.lane l).lpt.test ∧
      (t.lane l).lpt.errors =
        BitVec.ofNat 32 (min ((s.lane l).lpt.errors.toNat + (s.lptRx l rx).errors) (2 ^ 32 - 1)) := by
  refine ⟨_, exec_lptStop hstop, s.onlyLane_on l _, ?_⟩
  rw [s.lane_on_same, (Lane.lptWrite_stop h hstop hok).1, Lpt.take_of_running hrun, Lpt.stop, if_pos hrun]
  exact ⟨rfl, rfl, rfl, rfl, rfl⟩

theorem exec_lptStop_of_idle (h : bit (ofBytes data) 31 = false)
    (hok : (s.lane l).writeErr m 0x5300 1 data true false = none) (hstop : bit (ofBytes data) 30 = true)
    (hidle : (s.lane l).lpt.running = false) : ∃ t, exec (.lptStop l m tid data rx) s = .next t ∧
      OnlyLane l s t ∧ (t.lane l).lpt = { (s.lane l).lpt with ctrl := lptKeep (ofBytes data) } ∧
      (t.lane l).flog = (s.lane l).flog := by
  refine ⟨_, exec_lptStop hstop, s.onlyLane_on l _, ?_⟩
  obtain ⟨hlpt, hflog⟩ := Lane.lptWrite_stop (tid := tid) (rx := s.lptRx l rx) h hstop hok
  rw [s.lane_on_same, hlpt, hflog, Lpt.take_of_idle hidle, Lpt.stop, if_neg (ne_true_of_eq_false hidle)]
  exact ⟨rfl, rfl⟩

/-! ### LPT_INJECT (R499) -/

/-- What an accepted INJECT leaves of the pattern test. -/
theorem Lane.lptWrite_inject {L : Lane} (h : bit (ofBytes data) 31 = false) (hstop : bit (ofBytes data) 30 = false)
    (hinj : bit (ofBytes data) 29 = true) (hok : L.writeErr m 0x5300 1 data true false = none) :
    (L.lptWrite m tid data rx).lpt = if L.lptFar.isNone then { L.lpt.take rx with ctrl := lptKeep (ofBytes data) }.hit
      else { L.lpt.take rx with ctrl := lptKeep (ofBytes data) } := by
  rw [Lane.lptWrite_of_ok (by rw [Lane.writeErr_why h]; exact hok), Lane.answer_lpt, Lane.sbCount_lpt,
    Lane.lptAct_inject h hstop hinj, Lane.lptTaken_far]
  rfl

theorem exec_lptInject_alone (h : bit (ofBytes data) 31 = false)
    (hok : (s.lane l).writeErr m 0x5300 1 data true false = none) (hstop : bit (ofBytes data) 30 = false)
    (hinj : bit (ofBytes data) 29 = true) (hrun : (s.lane l).lpt.running = true) (hfar : (s.lane l).lptFar = none)
    (hlock : rx.lock = true) :
    ∃ t, exec (.lptInject l m tid data rx) s = .next t ∧ OnlyLane l s t ∧ (t.lane l).lpt.running = true ∧
      (t.lane l).lpt.errors =
        satInc (BitVec.ofNat 32 (min ((s.lane l).lpt.errors.toNat + rx.errors) (2 ^ 32 - 1))) ∧
      (t.lane l).lpt.lockLoss =
        BitVec.ofNat 32 (min ((s.lane l).lpt.lockLoss.toNat + rx.losses) (2 ^ 32 - 1)) := by
  refine ⟨_, congrArg Host.Outcome.next (State.lptWrite_own fun p hp => by rw [hfar] at hp; cases hp),
    s.onlyLane_on l _, ?_⟩
  rw [State.lptRx_of_alone hfar, s.lane_on_same, Lane.lptWrite_inject h hstop hinj hok, hfar, if_pos Option.isNone_none,
    Lpt.take_of_running hrun, Lpt.hit]
  refine ⟨hrun, ?_, rfl⟩
  exact if_pos (by rw [hrun, hlock]; rfl)

theorem exec_lptInject_pair (h : bit (ofBytes data) 31 = false)
    (hok : (s.lane l).writeErr m 0x5300 1 data true false = none) (hstop : bit (ofBytes data) 30 = false)
    (hinj : bit (ofBytes data) 29 = true) (hrun : (s.lane l).lpt.running = true) (p : LaneId)
    (hfar : (s.lane l).lptFar = some p) (hp : p ≠ l) (hpair : s.lptPair l p = true) :
    ∃ t, exec (.lptInject l m tid data rx) s = .next t ∧ LanesOnly s t ∧
      t.lane p = { (s.lane p) with lpt := (s.lane p).lpt.hit } ∧
      (∀ q, q ≠ l → q ≠ p → t.lane q = s.lane q) ∧ (t.lane l).lpt.running = true ∧
      (t.lane l).lpt.errors = BitVec.ofNat 32 (min ((s.lane l).lpt.errors.toNat + rx.errors) (2 ^ 32 - 1)) := by
  have both : s.lptWrite l m tid data rx =
      (s.on l fun L => L.lptWrite m tid data rx).on p fun P => { P with lpt := P.lpt.hit } := by
    unfold State.lptWrite
    rw [State.lptRx_of_pair hfar hpair, hfar]
    exact if_pos (by rw [hpair, Lane.lptInjects_of_inject h hstop hinj hok]; rfl)
  refine ⟨_, congrArg Host.Outcome.next both, ⟨rfl, rfl, rfl⟩, ?_, fun q hql hqp => ?_, ?_⟩
  · rw [State.lane_on_same, s.lane_on_ne _ hp]
  · rw [State.lane_on_ne _ _ hqp, s.lane_on_ne _ hql]
  · rw [State.lane_on_ne _ _ (Ne.symm hp), s.lane_on_same, Lane.lptWrite_inject h hstop hinj hok, hfar,
      if_neg (by simp), Lpt.take_of_running hrun]
    exact ⟨hrun, rfl⟩

/-! ### A refused write, and the end of the duration -/

theorem State.lptWrite_of_err {e : W32} (h : bit (ofBytes data) 31 = false) (hidle : (s.lane l).lpt.running = false)
    (herr : (s.lane l).writeErr m 0x5300 1 data true false = some e) (he : e ≠ 0x08000022) :
    s.lptWrite l m tid data rx = s.on l fun L => L.answer m tid 0x5300 1 e := by
  rw [State.lptWrite_own fun p _ => Lane.lptInjects_of_err herr]
  refine s.on_congr l ?_
  rw [Lane.lptWrite_of_err (by rw [Lane.writeErr_why h]; exact herr), if_neg (show e ≠ eState from he), Lane.lptTaken,
    Lpt.take_of_idle hidle]

theorem exec_lptDurationEnd_of_running (h : (s.lane l).lpt.running = true) :
    ∃ t, exec (.lptDurationEnd l rx) s = .next t ∧ OnlyLane l s t ∧
      (t.lane l).lpt.running = false ∧ (t.lane l).lpt.outcome = 2 ∧ (t.lane l).lpt.lock = false ∧
      (t.lane l).lpt.bits = BitVec.ofNat 64 (min ((s.lane l).lpt.bits.toNat + (s.lptRx l rx).bits) (2 ^ 64 - 1)) ∧
      (t.lane l).vote = (s.lane l).vote := by
  refine ⟨s.on l fun L => { L with lpt := (L.lpt.take (s.lptRx l rx)).stop 2 }, rfl, s.onlyLane_on l _, ?_⟩
  rw [s.lane_on_same]
  dsimp only
  rw [Lpt.take_of_running h, Lpt.stop, if_pos h]
  exact ⟨rfl, rfl, rfl, rfl, rfl⟩

theorem exec_lptDurationEnd_of_idle (h : (s.lane l).lpt.running = false) : exec (.lptDurationEnd l rx) s = .next s := by
  refine congrArg Host.Outcome.next (s.on_id l ?_)
  rw [Lpt.take_of_idle h, Lpt.stop, if_neg (ne_true_of_eq_false h)]

end

/-- Settles O56: the counts that a write brings up to date are none that its checks or the link's far end depend on. -/
theorem linkPatternTest : Obligations.LinkPatternTest := by
  unfold Obligations.LinkPatternTest
  intro s l m tid data rx
  refine ⟨fun hlen h => ⟨exec_lptStart_begins hlen h, exec_lptStart_refused hlen h⟩,
    fun h => ⟨fun hok => ⟨exec_lptStop_of_running h hok, exec_lptStop_of_idle h hok, fun hstop hinj hrun =>
      ⟨exec_lptInject_alone h hok hstop hinj hrun, exec_lptInject_pair h hok hstop hinj hrun⟩⟩,
      fun e hidle herr he => ?_⟩, exec_lptDurationEnd_of_running, exec_lptDurationEnd_of_idle⟩
  exact ⟨congrArg Host.Outcome.next (State.lptWrite_of_err h hidle herr he),
    congrArg Host.Outcome.next (State.lptWrite_of_err h hidle herr he)⟩

end Sys2Proof.Machine
end
